-- ==== Sys2Proof/Word.lean ====
section
/-!
DEFINITION. The words of the device and their plainest arithmetic: 32-bit registers (R5), bytes, fields of a
word, and signed readings of a field.
-/

namespace Sys2Proof

/-- A register word: 32 bits (R5). -/
abbrev Word := BitVec 32

/-- A byte of memory. -/
abbrev Byte := BitVec 8

/-- The bits `[hi:lo]` of a number read as a word. -/
def bitsOf (v hi lo : Nat) : Nat := (v >>> lo) % 2 ^ (hi + 1 - lo)

/-- Bit `i` of a number read as a word. -/
def bitAt (v i : Nat) : Bool := (v >>> i) % 2 == 1

/-- A Boolean as one bit. -/
def b2n (b : Bool) : Nat := if b then 1 else 0

/-- `v` with bit `i` set. -/
def setBit (v i : Nat) : Nat := v ||| (1 <<< i)

/-- `v` with bit `i` clear. -/
def clrBit (v i : Nat) : Nat := if bitAt v i then v - (1 <<< i) else v

/-- `v` with bit `i` equal to `b`. -/
def putBit (v i : Nat) (b : Bool) : Nat := if b then setBit v i else clrBit v i

/-- The bits of `v` that `m` does not hold. -/
def clrMask (v m : Nat) : Nat := v ^^^ (v &&& m)

/-- The two's complement reading of a field of `w` bits. -/
def sgn (w v : Nat) : Int := if v % 2 ^ w < 2 ^ (w - 1) then (v % 2 ^ w : Nat) else (v % 2 ^ w : Nat) - (2 ^ w : Nat)

/-- The field of `w` bits that holds an integer, wrapping. -/
def unsg (w : Nat) (v : Int) : Nat := (v % (2 ^ w : Nat)).toNat

/-- An integer kept within bounds. -/
def clampInt (lo hi v : Int) : Int := if v < lo then lo else if hi < v then hi else v

/-- A number kept within bounds. -/
def clampNat (lo hi v : Nat) : Nat := if v < lo then lo else if hi < v then hi else v

/-- Rounds `a / b` to the nearest integer, halves away from zero (R128). -/
def roundHalfAway (a b : Int) : Int :=
  if b = 0 then 0
  else
    let n := a.natAbs * 2 + b.natAbs
    let q : Int := (n / (2 * b.natAbs) : Nat)
    if (a < 0) != (b < 0) then -q else q

/-- Addition on the 64-bit sidereal count (R116). -/
def cadd (a b : Nat) : Nat := (a + b) % 2 ^ 64

/-- Subtraction that saturates at `2^w - 1` from above is addition kept at the top of a `w`-bit counter. -/
def satAdd (w a b : Nat) : Nat := if 2 ^ w ≤ a + b then 2 ^ w - 1 else a + b

/-- The indices of the bits set in a mask of `w` bits, lowest first. -/
def maskBits (w m : Nat) : List Nat := (List.range w).filter (bitAt m)

/-- The number of set bits among the lowest `w`. -/
def popCount (w m : Nat) : Nat := (maskBits w m).length

/-- The little-endian bytes of a number. -/
def leBytes : Nat → Nat → List Byte
  | 0, _ => []
  | n + 1, v => BitVec.ofNat 8 v :: leBytes n (v / 256)

/-- The number that little-endian bytes hold. -/
def ofLeBytes : List Byte → Nat
  | [] => 0
  | b :: bs => b.toNat + 256 * ofLeBytes bs

/-- The big-endian bytes of a number. -/
def beBytes (n v : Nat) : List Byte := (leBytes n v).reverse

/-- The number that big-endian bytes hold. -/
def ofBeBytes (bs : List Byte) : Nat := ofLeBytes bs.reverse

/-- The element of a list at an index, or a default. -/
def nth {α : Type} (d : α) (l : List α) (i : Nat) : α := (l[i]?).getD d

/-- The list with the element at an index changed by a function. -/
def modifyNth {α : Type} (f : α → α) : List α → Nat → List α
  | [], _ => []
  | x :: xs, 0 => f x :: xs
  | x :: xs, n + 1 => x :: modifyNth f xs n

end Sys2Proof
end

