-- ==== Sys2Proof/Syntax.lean ====
section
/-!
DEFINITION. The commands of the device: one constructor for each row of spec/opcode_table.json. The table gives no
row an encoding, so the operands are the model's own (log entry 5): what the row's rule says the outside world
brings to it. A command that is a register access carries the access (master, identity, source node, tag); a
command that is an analogue or external event carries the measured levels.
-/

namespace Sys2Proof

/-- The masters of Table 5.3. -/
inductive Master where
  | host | tile | fabric | wicket | engine
  deriving DecidableEq, Repr

/-- The ID of a master (Table 5.3). -/
def Master.id : Master → Nat
  | .host => 0
  | .tile => 1
  | .fabric => 2
  | .wicket => 3
  | .engine => 4

/-- Who makes an access: master, household identity (0-7, or 15 for the manager), source node, tag, and whether the
address was given in fabric form (R154, R160, R167). -/
structure Acc where
  master : Master
  hh : Fin 16
  node : Fin 64
  tag : Fin 16
  fab : Bool
  deriving DecidableEq, Repr

/-- The manager on the host. -/
def Acc.mgr : Acc := ⟨.host, 15, 29, 0, false⟩

/-- Household `h` on the host. -/
def Acc.ofHh (h : Fin 8) : Acc := ⟨.host, ⟨h.val, by omega⟩, 29, 0, false⟩

/-- The causes of POR (Table 3.16). -/
inductive PorCause where
  | vio33 | resetIn | vcore | vaux18
  deriving DecidableEq, Repr

/-- The power-stage rails of Table 3.8. -/
inductive StageRail where
  | vgd | vstb | vm
  deriving DecidableEq, Repr

/-- The DRAM rails of Table 3.8. -/
inductive DramRail where
  | vdd2x | vddqx
  deriving DecidableEq, Repr

/-- What the reference monitor measured of one candidate in a window (R128, R129): the number of whole periods and
the time they took in 1/32 st, whether no gap exceeded 2,000 st, and, for a fabric candidate, whether its partner
reports that its beat derives from this device. -/
structure CandMeas where
  periods : Nat
  delta : Nat
  gapsOk : Bool
  dependent : Bool
  deriving DecidableEq, Repr

/-- The header ECC of a CSI-2 packet: clean, corrected or not correctable (Table 6.6). -/
inductive EccResult where
  | clean | corrected | uncorrectable
  deriving DecidableEq, Repr

/-- What the header of a CSI-2 packet says: its virtual channel, whether its VCX extension is not zero, and its
ECC. -/
structure CsiHead where
  vc : Fin 4
  vcx : Bool
  ecc : EccResult
  deriving DecidableEq, Repr

/-- The byte of a CSI-2 packet header beside its data identifier and word count: whether the VCX extension is not
zero, and the ECC. -/
structure CsiCheck where
  vcx : Bool
  ecc : EccResult
  deriving DecidableEq, Repr

/-- A loss of lane synchronisation on ingest port `m`: the lanes and the clock that are still there. -/
structure LanesOff where
  m : Fin 4
  lanes : BitVec 4
  clk : Bool
  deriving DecidableEq, Repr

/-- A line output, 0-15 the triggers and 16-23 the strobes, whose sensed level became wrong or right again (R242). -/
structure Shorted where
  out : Fin 24
  wrong : Bool
  deriving DecidableEq, Repr

/-- What the Weighhouse finds at its start beside its two parameter copies (R294): whether the identity is sound, the
commit slot that an erroneous cell spoils, and the ledger entry that does not read back. -/
structure StartAreas where
  identity : Bool
  slot : Option (Fin 512)
  ledger : Option (BitVec 32)
  deriving DecidableEq, Repr

/-- A grant: the target port or peripheral bus, and the parities of the request and of the response found wrong
(R165, R194). -/
structure Grant where
  port : Fin 35
  bad : Bool
  badRsp : BitVec 64
  deriving DecidableEq, Repr

/-- The next instruction of leaf `t` reads its window, with the ECC of what it reads. -/
structure TileRead where
  t : Fin 64
  ecc : EccResult
  deriving DecidableEq, Repr

/-- What the other chips of a run report at a barrier: the largest refresh contribution among them, and the REPLAY_AGE
of the frame that brought it (R622, R623). -/
structure RefReport where
  refMax : BitVec 32
  age : BitVec 32
  deriving DecidableEq, Repr

/-- A credit read out of a reverse crossing: its channel, and whether an upset made it from nothing (R427). -/
structure CreditIn where
  vc : Fin 6
  upset : Bool
  deriving DecidableEq, Repr

/-- A serving decision of a DRAM channel, and whether ECC corrected what it reads. -/
structure DramServe where
  c : Fin 2
  corrected : Bool
  deriving DecidableEq, Repr

/-- A Commons frame (Tables 14.3, 14.4): its header fields, its payload, whose length is LEN, and how many RS-FEC
codewords were corrected while it came in (0 on a frame that goes out). -/
structure Frame where
  kind : Nat
  version : Nat
  vc : Nat
  lcl : Bool
  down : Bool
  bcast : Bool
  replayed : Bool
  poison : Bool
  dst : Nat
  src : Nat
  hh : Nat
  epoch : Nat
  seq : Nat
  ack : Nat
  ackV : Bool
  nak : Bool
  age : Nat
  arg2 : Nat
  arg3 : Nat
  payload : List Byte
  corrected : Nat
  deriving DecidableEq, Repr

/-- How the pop of an egress frame can fail (R529, Table 11.7). -/
inductive PopFail where
  | denied | decode | timeout
  deriving DecidableEq, Repr

/-- What an egress decision meets: whether the host grants posted-write credit, and how and after how many words the
pop fails, if it does (R504, R529). -/
structure EgressIn where
  credit : Bool
  fail : Option (PopFail × Fin 1025)
  deriving DecidableEq, Repr

/-- What a configuration request asks of a function, as far as the device acts on it (R638, R640, R646, Table 17.2):
its identification, Bus Master Enable, MSI-X Enable and Function Mask, SR-IOV VF Enable and NumVFs,
Max_Payload_Size as 128 × 2^code bytes, or the AER bits, which a write may clear. -/
inductive CfgReq where
  | ids
  | busMaster (on : Bool)
  | msix (enable mask : Bool)
  | vfs (enable : Bool) (num : Fin 9)
  | payload (code : Fin 3)
  | aer (clear : Bool)
  deriving DecidableEq, Repr

/-- What lets a pending message go: a vector's mask or the function's mask clears, or Bus Master Enable is set
(R646). -/
inductive Unmask where
  | vector (v : Fin 64)
  | function
  | busMaster
  deriving DecidableEq, Repr

/-- The commands (spec/opcode_table.json). -/
inductive Instr where
  /-- MAP_SETTLE (R565): The root's table has been unchanged for SETTLE_N periods, and it increments MAP_EPOCH and sends the map. -/
  | mapSettle
  /-- EGRESS_DECISION (R504): When the port can accept a frame, the scheduler runs DRR over HI, LO and EX and sends at most one frame. -/
  | egressDecision (p : Fin 5) (x : EgressIn)
  /-- ITEM_TIMEOUT (R484): An open item receives no word for 2^ITEM_TMO beats and is abandoned with TIMEOUT. -/
  | itemTimeout (q : Fin 256)
  /-- BARRIER_COMPLETE (R400): Every leaf has reached the barrier; at STEP, the counter increments, emitted items are committed and the step item is released. -/
  | barrierComplete (h : Fin 8) (refs : RefReport) (rtyMax : BitVec 32) (halted : Bool)
  /-- MAILBOX_READY (R653): The last word is written and the mailbox becomes READY with SEQ incremented. -/
  | mailboxReady (h : Fin 8) (m : Fin 16)
  /-- SPILL_WM_UPDATE (R474): Every 65,536 st, the watermark loop adjusts SPILL_WM within its envelope. -/
  | spillWmUpdate (q : Fin 256)
  /-- REF_AHEAD_UPDATE (R520): Every 65,536 st, the refresh loop adjusts REF_AHEAD. -/
  | refAheadUpdate
  /-- NOTIFY_RECEIVE (R704): The FAULT unit updates PEND_MAP, the summaries and FIRST_INFO, and sends a summary NOTIFY on a change. -/
  | notifyReceive
  /-- QPTR_MISMATCH (R488): The two copies of a pointer differ, and the queue alone is reset. -/
  | qptrMismatch (q : Fin 256)
  /-- QUEUE_TAKE (R468): TAKE makes the next item the held item and answers as HELD_READ at offset 0, or returns EMPTY. -/
  | queueTake (a : Acc) (port : Bool) (q : Fin 256) (off : Fin 1024) (words : Fin 65)
  /-- PACKET_INJECT (R437): A node interface injects a packet once a response slot is reserved and, for timed packets, enough tokens are held. -/
  | packetInject (r : Fin 30) (agent : Fin 8) (w0 w1 w2 w3 : BitVec 64) (flits : List (BitVec 256))
  /-- WH_TEMP_CROSS (R85): The Weighhouse die temperature crosses 90 °C or 85 °C, and the charger suspends or resumes as HOT. -/
  | whTempCross (hot : Bool) (vbakMv : Nat)
  /-- VM_LIMITS_WRITE (R98): A write to VM_LIMITS stores stricter limits and clamps looser ones to the reset values, setting CLAMP_STATUS. -/
  | vmLimitsWrite (a : Acc) (w : Word)
  /-- MIRROR_REFRESH (R284): The mirror period expires and the WHB block issues a READ STATUS to refresh BAK_MIRROR and the WHB mirrors. -/
  | mirrorRefresh
  /-- SID_LO_READ (R117): A read of SID_LO returns the master count and latches its upper half for that master and identity. -/
  | sidLoRead (a : Acc) (both : Bool) (via : Option (Fin 8))
  /-- SID_HI_READ (R117): A read of SID_HI returns the half latched for that master and identity, or the live upper half if nothing is latched. -/
  | sidHiRead (a : Acc) (via : Option (Fin 8))
  /-- LOAD_GO (R119): A write of LOAD_GO requests a counter load of V, and the device refuses it with a LOAD_RESULT code when any refusal case holds. -/
  | loadGo (a : Acc)
  /-- DAWN_REQ (R120): A write of DAWN_CTRL.REQ starts a dawn, or is refused with a REFUSE_CODE. -/
  | dawnReq (a : Acc)
  /-- ALM_FIELD_WRITE (R123): A write to an almanac entry field is refused on ARMED or LOCKED entries and returns an entry in a final state to FREE. -/
  | almFieldWrite (a : Acc) (via : Option (Fin 8)) (reg : Fin 4) (w : Word)
  /-- ALM_ARM (R123): ARM arms an entry, applying the late policy or raising ALM_BAD where it applies. -/
  | almArm (a : Acc) (via : Option (Fin 8))
  /-- ALM_CANCEL (R124): CANCEL sets an ARMED entry to CANCELLED and has no effect on a LOCKED entry. -/
  | almCancel (a : Acc) (via : Option (Fin 8))
  /-- MATRIX_GRANT (R165): A target port or peripheral bus grants the waiting request of highest effective QoS, one burst piece at a time. -/
  | matrixGrant (g : Grant)
  /-- LATE_RSP (R193): A response arrives after its timeout and is discarded and counted. -/
  | lateRsp (k : Nat)
  /-- REGISTER_WRITE (R171): A write to a register without a row of its own is checked for decode, then ownership, then field type and lock, and is applied. -/
  | registerWrite (a : Acc) (addr : BitVec 48) (wide : Bool) (v : BitVec 64)
  /-- RC_COUNTER_READ (R6): A read of an RC field returns the value and clears it. -/
  | rcCounterRead (a : Acc) (addr : BitVec 48) (wide : Bool)
  /-- EVT_PEND_CLEAR (R178): Writing 1 to EVT_PEND clears the pending bit, and clears EVT_RAW unless the condition still holds. -/
  | evtPendClear (a : Acc) (page : Fin 512) (w : Word)
  /-- EVT_EN_WRITE (R178): A write of EVT_EN sets EVT_PEND for each newly enabled bit whose EVT_RAW is 1. -/
  | evtEnWrite (a : Acc) (page : Fin 512) (w : Word)
  /-- EVT_FORCE (R179): Writing EVT_FORCE makes an occurrence that is reported only. -/
  | evtForce (a : Acc) (page : Fin 512) (w : Word)
  /-- ERR_CLR (R181): PAGE_CTRL.ERR_CLR zeroes ERR_FIRST and ERR_COUNT and re-arms first-error capture. -/
  | errClr (a : Acc) (page : Fin 512)
  /-- SH_FIELD_WRITE (R182): A write of an SH field goes to its shadow, or applies at once when the boundary is IMMEDIATE. -/
  | shFieldWrite (a : Acc) (page : Fin 512) (off : Fin 1024) (w : Word)
  /-- SHADOW_BOUNDARY_WRITE (R183): A write of SHADOW_CTRL.BOUNDARY changes the boundary, and a change to IMMEDIATE applies the pending shadows. -/
  | shadowBoundaryWrite (a : Acc) (page : Fin 512) (b : Fin 4)
  /-- SHADOW_DISCARD (R184): DISCARD copies the active values back to the shadows and clears PENDING. -/
  | shadowDiscard (a : Acc) (page : Fin 512)
  /-- PAGE_LOCK_SET (R185): The manager sets PAGE_LOCK.LOCK, which freezes the LK fields until WARM or POR. -/
  | pageLockSet (a : Acc) (page : Fin 512)
  /-- OWNER_WRITE (R175): The manager writes OWNER, which propagates across a logical quad or a motor channel group. -/
  | ownerWrite (a : Acc) (page : Fin 512) (v : Fin 16)
  /-- PAGE_SRST (R187): PAGE_CTRL.SRST returns the page to its WARM values, apart from the kept fields, and sets RESET_BUSY. -/
  | pageSrst (a : Acc) (page : Fin 512)
  /-- PAGE_ENABLE (R741): A write of PAGE_CTRL.EN enables or disables a block on a page with EN_CTL. -/
  | pageEnable (a : Acc) (page : Fin 512) (en : Bool)
  /-- WARM_REQ (R186): A write of DEVICE.RESET_CTRL.WARM_REQ with KEY 0x5A requests a WARM reset, and the requesting write completes. -/
  | warmReq (a : Acc) (w : Word)
  /-- AXIS_ENABLE (R203): CFG.EN goes to 1, and the accepted levels of that tick become the starting point without counting an edge. -/
  | axisEnable (a : Acc) (k : Fin 6) (w : Word)
  /-- TRIG_ARM_NOW (R224): ARM_NOW arms trigger schedules and sets NEXT and FIRED from the current position. -/
  | trigArmNow (a : Acc) (w : Word)
  /-- TRIG_DISARM_NOW (R223): DISARM_NOW disarms trigger schedules. -/
  | trigDisarmNow (a : Acc) (w : Word)
  /-- STB_ARM_NOW (R228): STROBE ARM_NOW arms strobe schedules as on arming. -/
  | stbArmNow (a : Acc) (w : Word)
  /-- STB_DISARM_NOW (R228): STROBE DISARM_NOW disarms strobe schedules. -/
  | stbDisarmNow (a : Acc) (w : Word)
  /-- OUT_SAFE (R245): A write of LINE.OUT_CTRL.SAFE forces every output idle and raises OUT_SAFE at its onset. -/
  | outSafe (a : Acc) (w : Word)
  /-- BIND_CFG_WRITE (R249): A binding write whose queue or schedule is not owned keeps BIND_EN at 0 and raises BIND_DENIED. -/
  | bindCfgWrite (a : Acc) (m : Fin 4) (v : Fin 4) (w : Word)
  /-- WH_READ_STATUS (R278): The READ STATUS request returns 64 bytes of status. -/
  | whReadStatus (tag : BitVec 8)
  /-- WH_READ_LEDGER (R278): The READ LEDGER request returns up to 256 entries, or NOT_FOUND. -/
  | whReadLedger (tag : BitVec 8) (lseq : BitVec 32) (n : BitVec 16) (bad : Option (BitVec 32))
  /-- WH_READ_TALLY (R278): The READ TALLY request returns a stored tally record, or NOT_FOUND. -/
  | whReadTally (tag : BitVec 8) (no : BitVec 32) (bad : Option (BitVec 32))
  /-- WH_READ_KEY (R278): The READ KEY request returns the public key, the attestation and WH_SERIAL. -/
  | whReadKey (tag : BitVec 8)
  /-- WH_READ_IDENT (R278): The READ IDENT request returns FW_ID, SEAL_COUNT, WH_SERIAL and the ROM digest. -/
  | whReadIdent (tag : BitVec 8)
  /-- WH_READ_PARAMS (R278): The READ PARAMS request returns the sealed parameters in ID order. -/
  | whReadParams (tag : BitVec 8)
  /-- WH_READ_STAMP (R278): The READ STAMP request returns the last stamp record. -/
  | whReadStamp (tag : BitVec 8)
  /-- CLOSE_TALLY (R262): The CLOSE_TALLY request closes the open tally, ledgers it, cross-checks, commits, signs, stores the record and answers, or is refused when the store is full. -/
  | closeTally (tag : BitVec 8) (coil sid : BitVec 64)
  /-- WH_STAMP (R264): The STAMP request applies the acknowledgements and signs a snapshot of the open tally. -/
  | whStamp (tag : BitVec 8) (sid nonce : BitVec 64) (ackLseq ackTally : BitVec 32)
  /-- SEAL_NONCE (R273): The SEAL/NONCE request returns a fresh nonce, WH_SERIAL and SEAL_COUNT. -/
  | sealNonce (tag : BitVec 8)
  /-- SEAL_OPEN (R273): The SEAL/OPEN request verifies the signature and conditions, then increments the seal counter, ledgers SEAL_OPEN, closes the tally and enters OPEN, or is refused. -/
  | sealOpen (tag : BitVec 8) (sigR sigS : BitVec 256)
  /-- SEAL_PARAM (R279): The SEAL/PARAM request is checked in order, and an accepted change is ledgered and may close the tally. -/
  | sealParam (tag : BitVec 8) (id : BitVec 8) (body : List Byte)
  /-- SEAL_SWITCH_LOW (R272): WH_SEAL_N has been below 0.3 × VBAK_HOLD for 100 ms, and it counts as low. -/
  | sealSwitchLow
  /-- SEAL_SWITCH_HIGH (R275): WH_SEAL_N counts as high; an OPEN seal closes, ledgering SEAL_CLOSE and closing the tally, and a FACTORY die with OPENER_KEY set enters CLOSED. -/
  | sealSwitchHigh
  /-- SEAL_NONCE_EXPIRE (R273): 60 s of RTC time after its issue, the seal nonce becomes invalid. -/
  | sealNonceExpire
  /-- WHB_GO (R282): REQ_CTRL.GO sends the request in the buffer with the next TAG. -/
  | whbGo (a : Acc) (w : Word)
  /-- SL_PARAM_WRITE (R297): A write to an SL register is sent as SEAL/PARAM when the seal is open or FACTORY and the block is idle, and otherwise raises PARAM_REFUSED. -/
  | slParamWrite (a : Acc) (reg : Fin 12) (w : Word)
  /-- MOTOR_START (R302): A start request in OFF is refused with a cause, or accepted into DIAG, CAL, DETECT, ALIGN, RAMP or RUN. -/
  | motorStart (a : Acc) (n : Fin 4)
  /-- MOTOR_STOP (R322): A stop request enters STOPPING for a ramp, or goes to OFF at once for COAST. -/
  | motorStop (a : Acc) (n : Fin 4)
  /-- MOTOR_FAULT_CLR (R333): FAULT_CLR moves a FAULT channel to OFF once no fault condition holds, and clears eligible gate latches. -/
  | motorFaultClr (a : Acc) (n : Fin 4)
  /-- MOTOR_OFFSET_CAL (R304): OFFSET_CAL in OFF runs the ADC offset measurement. -/
  | motorOffsetCal (a : Acc) (n : Fin 4)
  /-- PROTECTION_LIMIT_WRITE (R325): A stricter protection-limit write always applies, and a looser one is refused on a locked page or clamped. -/
  | protectionLimitWrite (a : Acc) (page : Fin 512) (off : Fin 1024) (w : Word)
  /-- LOOP_OUTPUT_WRITE (R326): A write to an adaptive loop's output while the loop is enabled has no effect and sets WRITE_IGNORED. -/
  | loopOutputWrite (a : Acc) (page : Fin 512) (off : Fin 1024) (w : Word)
  /-- DIAG_GO (R366): DIAG_GO in OFF starts an off-state diagnostic run. -/
  | diagGo (a : Acc) (n : Fin 4)
  /-- CST_GO (R367): CST_GO in OFF starts a comparator self-test. -/
  | cstGo (a : Acc) (n : Fin 4)
  /-- OUV_CST_GO (R369): OUVGOR.CST_CTRL.GO tests the shared comparators while every MOTOR page is OFF. -/
  | ouvCstGo (a : Acc)
  /-- GATE_LATCH_CLR (R375): LATCH_CLR clears every latch whose condition no longer holds, except GATE_STUCK. -/
  | gateLatchClr (a : Acc) (n : Fin 4)
  /-- DIRECT_TEST_PULSE (R374): TEST.SW with KEY 0xA7 in OFF commands the selected switches on under the interlock. -/
  | directTestPulse (a : Acc) (n : Fin 4) (w : Word)
  /-- SLOT_LOAD (R392): SLOT_CTRL.LOAD reads and checks an image, copies it to every tile of the household, and digests it. -/
  | slotLoad (a : Acc) (k : Fin 16)
  /-- SLOT_LAUNCH (R394): A launch by LAUNCH or RUN_LAUNCH is refused with a code or starts a run, initialising every leaf context. -/
  | slotLaunch (a : Acc) (k : Fin 16)
  /-- SLOT_ABORT (R416): ABORT stops the run as on a fault and sets it to ABORTED. -/
  | slotAbort (a : Acc) (k : Fin 16)
  /-- TILE_SRAM_ACCESS (R410): An access to tile SRAM from outside the tile; during a run, writes have no effect and are counted. -/
  | tileSramAccess (a : Acc) (t : Fin 64) (off : BitVec 18) (write : Bool) (words : Fin 65) (data : List Byte)
  /-- PACKET_DELIVER (R423): A packet's flits reach the destination node interface and are delivered to the agent named by DAGENT. -/
  | packetDeliver (r : Fin 30) (vc : Fin 6)
  /-- TIMED_REG_WRITE (R437): A write of TIMED_REG cuts counters above the new BURST and restarts their gain at the new GAP. -/
  | timedRegWrite (a : Acc) (w : Word)
  /-- CNT_CLEAR_ALL (R453): CNT_CTRL.CLEAR_ALL clears every RC counter of the NOC pages. -/
  | cntClearAll (a : Acc)
  /-- QUEUE_PUSH (R460): A PUSH-window write appends words to the producer's open item, or is refused; on a full queue the oldest item is overwritten or the newest dropped. -/
  | queuePush (a : Acc) (q : Fin 256) (agent : Fin 8) (off : Fin 4096) (data : List Byte) (poisoned : Bool)
  /-- QUEUE_PUSH_LAST (R460): A PUSH_LAST write appends words and commits the item with the next ITEM_SEQ. -/
  | queuePushLast (a : Acc) (q : Fin 256) (agent : Fin 8) (off : Fin 2048) (data : List Byte) (poisoned : Bool)
  /-- QUEUE_POP_STREAM (R465): A STREAM pop returns the descriptor and data from the read position and frees space. -/
  | queuePopStream (a : Acc) (q : Fin 256) (off : Fin 2048) (bytes : Fin 1024)
  /-- QUEUE_HELD_READ (R468): HELD_READ returns words of the held item from OFFSET. -/
  | queueHeldRead (a : Acc) (port : Bool) (q : Fin 256) (off : Fin 1024) (words : Fin 65)
  /-- QUEUE_RELEASE_HELD (R468): RELEASE_HELD ends the hold and frees the item's space unless it is marked. -/
  | queueReleaseHeld (a : Acc) (port : Bool) (q : Fin 256)
  /-- QUEUE_FLUSH (R477): FLUSH discards unread and marked items, abandons the open item, and makes its producer a discarding producer. -/
  | queueFlush (a : Acc) (q : Fin 256)
  /-- QUEUE_MARK (R470): MARK sets the mark at the item that holds the read position. -/
  | queueMark (a : Acc) (q : Fin 256)
  /-- QUEUE_REWIND (R470): REWIND sets the read position to the mark. -/
  | queueRewind (a : Acc) (q : Fin 256)
  /-- QUEUE_RELEASE (R470): RELEASE clears the mark and frees the items already popped behind it. -/
  | queueRelease (a : Acc) (q : Fin 256)
  /-- QUEUE_ENABLE (R479): An enable is refused with a cause, or starts the queue empty. -/
  | queueEnable (a : Acc) (q : Fin 256) (w : Word)
  /-- QUEUE_DISABLE (R480): A disable discards every item and clears the mark and discarding state. -/
  | queueDisable (a : Acc) (q : Fin 256) (w : Word)
  /-- QUEUE_CFG_WRITE (R481): A Q_CFG write that changes the spill or full-mode fields while EN = 1 leaves them unchanged and raises CFG_REFUSED. -/
  | queueCfgWrite (a : Acc) (q : Fin 256) (reg : Fin 4) (w : Word)
  /-- SLOT_ENABLE (R528): A slot enable is refused with a cause, or fills its buckets. -/
  | slotEnable (a : Acc) (p : Fin 5) (k : Fin 64) (w : Word)
  /-- CIR_WRITE (R524): A write of a CIR shadow is refused with RATE_REFUSED if it would exceed the port or DRAM sum. -/
  | cirWrite (a : Acc) (p : Fin 5) (k : Fin 64) (hi : Bool) (w : Word)
  /-- BIND_WRITE (R526): A BIND or SLOT_CTRL write to a locked field while EN = 1 has no effect and raises BIND_LOCKED. -/
  | bindWrite (a : Acc) (p : Fin 5) (k : Fin 64) (ctrl : Bool) (w : Word)
  /-- ADM_COMMIT (R516): ADM_CTRL.COMMIT checks the staged values and brings them into force, or refuses them with a cause. -/
  | admCommit (a : Acc)
  /-- I2C_GO (R577): I2C_CTRL.GO starts a module management transaction. -/
  | i2cGo (a : Acc) (w : Word)
  /-- CONST_JOIN (R587): CTRL.JOIN puts the engine in WAIT. -/
  | constJoin (a : Acc)
  /-- CONST_LEAVE (R592): CTRL.LEAVE puts the engine in OFF and stops its exchanges. -/
  | constLeave (a : Acc)
  /-- REPLAY_ENABLE (R628): Writing REPLAY_EN on a LOADED slot starts the feeder, which pushes the entries with REL ≤ 0. -/
  | replayEnable (a : Acc) (h : Fin 8) (w : Word)
  /-- PCFG_WRITE (R637): A write to a PROV block is refused with PCFG_REFUSED while the household has a run RUNNING. -/
  | pcfgWrite (a : Acc) (h : Fin 8) (off : Fin 64) (w : Word)
  /-- HOST_MEM_WRITE (R641): A host memory write to a BAR is translated and issued as a HOST request. -/
  | hostMemWrite (f : Fin 9) (bar2 : Bool) (off : BitVec 26) (data : List Byte) (poisoned : Bool)
  /-- HOST_MEM_READ (R641): A host memory read of a BAR is translated, issued, and completed within the timeout. -/
  | hostMemRead (f : Fin 9) (bar2 : Bool) (off : BitVec 26) (bytes : Fin 4097)
  /-- RING_HEAD_WRITE (R651): The host returns ring space; an invalid HEAD raises RING_ERR. -/
  | ringHeadWrite (a : Acc) (via : Option (Fin 8)) (k : Fin 64) (w : Word)
  /-- RING_ENABLE (R664): RING_CFG.EN enables a ring and zeroes TAIL, HEAD and ENTRIES. -/
  | ringEnable (a : Acc) (via : Option (Fin 8)) (k : Fin 64) (w : Word)
  /-- MAILBOX_CONSUME_READ (R655): A consume read returns the mailbox and empties it, or counts an early or double read. -/
  | mailboxConsumeRead (a : Acc) (h : Fin 8) (m : Fin 16) (off : Fin 4096) (bytes : Fin 4097)
  /-- MAILBOX_PEEK_READ (R655): A peek returns the mailbox without side effects. -/
  | mailboxPeekRead (a : Acc) (h : Fin 8) (m : Fin 16) (consume : Bool) (off : Fin 4096) (bytes : Fin 4097)
  /-- HH_RESET (R660): The manager's write of HOST.HH_RESET starts a HOUSEHOLD reset. -/
  | hhReset (a : Acc) (w : Word)
  /-- HH_CTRL_RESET (R660): A household's write of HH_CTRL.RESET with KEY 0x5A starts its HOUSEHOLD reset. -/
  | hhCtrlReset (a : Acc) (h : Fin 8) (w : Word)
  /-- SESSION_END_WRITE (R678): The manager's SESSION_CTRL.END ends the session. -/
  | sessionEndWrite (a : Acc)
  /-- DEBUG_KEY_WRITE (R683): The manager writes a debug key, which ends any session of that identity and may end OPEN_BOOT. -/
  | debugKeyWrite (a : Acc) (k : Fin 9) (j : Fin 8) (w : Word)
  /-- RUN_HALT (R686): RUN_CTRL.HALT stops the household's run tiles within 16 beats. -/
  | runHalt (a : Acc) (h : Fin 8) (w : Word)
  /-- RUN_RESUME (R687): RESUME makes the halted tiles issue again 8 beats later. -/
  | runResume (a : Acc) (h : Fin 8) (w : Word)
  /-- RUN_STEP (R687): STEP lets each halted tile issue STEP_N instructions. -/
  | runStep (a : Acc) (h : Fin 8) (w : Word)
  /-- CTX_DATA_ACCESS (R688): A CTX_DATA read or write reaches a halted leaf's register, or raises CTX_DENIED. -/
  | ctxDataAccess (a : Acc) (h : Fin 8) (hi : Bool) (write : Bool) (w : Word)
  /-- FAULTN_FORCE_WRITE (R706): A write of FAULTN_CTRL.FORCE forces FAULT_N low or releases the force. -/
  | faultnForceWrite (a : Acc) (w : Word)
  /-- STRAP_SAMPLE (R59): At 200, 210 and 220 µs after main power-good rises or a WARM request, each strap is sampled; the device takes the majority and sets STRAP_ERR if the samples disagree. -/
  | strapSample (s1 s2 s3 : BitVec 12)
  /-- POR_ASSERT (R80): VIO33 below 2.90 V for over 2 µs, RESET_IN_N low, VCORE below 0.69 V or VAUX18 below 1.62 V asserts POR, and the Ouvgor die pulls every gate to its source return within 1 µs. -/
  | porAssert (c : PorCause)
  /-- POR_RELEASE (R80): When no POR condition holds any longer, POR is released. -/
  | porRelease
  /-- VDDW_FALL (R86): VDDW falls below 2.90 V past the deglitch; the Weighhouse records the gap start time and sets WH_SRC to BACKUP. -/
  | vddwFall
  /-- VDDW_RISE (R74): VDDW rises above 3.05 V past the deglitch and WH_SRC becomes QUALIFY. -/
  | vddwRise
  /-- ACCEPT_MAIN_POWER (R88): With no commit in progress, after 20 ms of qualification or after VBAK_HOLD fell below VBAK_COMMIT, the Weighhouse accepts main power, sets WH_SRC to MAIN and restarts the charger. -/
  | acceptMainPower
  /-- ROUTINE_COMMIT (R87): A routine commit falls due; on backup, or when nothing has changed, it writes nothing. -/
  | routineCommit
  /-- VBAK_COMMIT_CROSS (R100): On backup, VBAK_HOLD falls through VBAK_COMMIT and a commit to the alternate bank starts. -/
  | vbakCommitCross
  /-- COMMIT_COMPLETE (R99): A commit completes with its bank sealed, which releases any waiting acceptance of main power. -/
  | commitComplete
  /-- WEIGHHOUSE_HALT (R101): On backup, VBAK_HOLD reaches VBAK_DEAD and the Weighhouse halts, tearing any commit in progress. -/
  | weighhouseHalt
  /-- WEIGHHOUSE_START (R294): After a halt or first power, the Weighhouse checks its parameters, loads the newest valid commit slot, adopts ledger entries, ledgers START and resumes counting. -/
  | weighhouseStart (copyA copyB : Bool) (areas : StartAreas) (vbakMv : Int)
  /-- RTC_STOP (R103): VBAK_HOLD falls below the RTC minimum and the RTC stops, so the gap is later recorded with RTC_LOST. -/
  | rtcStop
  /-- BAK_LOW_CROSS (R92): The compared backup node crosses VBAK_OK, which sets or clears BAK_LOW. -/
  | bakLowCross (below : Bool)
  /-- CHARGER_LEVEL_CROSS (R84): VBAK crosses 2.0 V or 3.10 V and the charger moves between pre-charge, constant current and constant voltage. -/
  | chargerLevelCross (mv : Nat)
  /-- VBAK_FAST_RISE (R81): During constant current, VBAK rises from below 3.10 V to above 3.25 V in under 2 ms, and the charger declares the element absent. -/
  | vbakFastRise
  /-- IMPEDANCE_PROBE_START (R82): The 8 s probe timer expires and a 1 ms, 100 µA impedance probe pulse begins. -/
  | impedanceProbeStart
  /-- IMPEDANCE_PROBE_DONE (R83): A probe pulse ends and is judged; a failure at constant voltage declares absence, and two passes in a row clear BAT_ABSENT and resume charging. -/
  | impedanceProbeDone (riseMv vbakMv : Nat)
  /-- VBAK_SAMPLE (R93): Every 8 s with BAK_TYPE NONE or PRIMARY, VBAK is sampled against 1.00 V to declare absence or presence. -/
  | vbakSample (mv : Int)
  /-- POWER_STAGE_SUPPLY_CROSS (R97): VM, VGD or VSTB crosses a monitor limit; gate outputs or STB outputs are turned off, or released when the rail recovers. -/
  | powerStageSupplyCross (rail : StageRail) (mv : Nat)
  /-- VPHY_MONITOR_CROSS (R105): VPHY crosses its monitor limit, and the PHYs are held in reset or released. -/
  | vphyMonitorCross (mv : Nat)
  /-- DRAM_RAIL_MONITOR_CROSS (R105): VDD2X or VDDQX falls below its limit and both DRAM controllers are held in reset with their contents lost. -/
  | dramRailMonitorCross (rail : DramRail) (mv : Nat)
  /-- COUNTER_LOAD_APPLY (R119): 64 st after LOAD_GO, every replica takes the value V. -/
  | counterLoadApply
  /-- PLL_LOCK (R120): The beat PLL first locks after POR or WARM, and the POR dawn starts without a drain step. -/
  | pllLock
  /-- DAWN_DRAIN_CHECK (R121): At D + 2,048, any crossing that is not empty fails the dawn with FAIL_CODE 1. -/
  | dawnDrainCheck (notEmpty : List (Fin 120))
  /-- DAWN_PRIME (R121): At P_a, the islands halt and every crossing is reset and primed with 4 null entries. -/
  | dawnPrime
  /-- DAWN_RELEASE (R121): At P_a + 1,024, the islands resume and their replicas load the master count. -/
  | dawnRelease
  /-- DAWN_MEASURE_END (R121): At P_a + 1,280, the margins are judged, giving DAWN_DONE, a retry with phase shift, or DAWN_FAIL; held accesses then resume. -/
  | dawnMeasureEnd (phases : List (Fin 16)) (occ : List (Fin 9))
  /-- ALM_LOCK (R124): 256 st before its meridian, an ARMED entry becomes LOCKED and is sent to the nodes it acts on. -/
  | almLock (k : Fin 64)
  /-- ALM_APPLY (R125): When the master count equals an entry's meridian, the device checks ownership, applies the action, records ALM_APPLIED and sets the entry to DONE, DENIED or NO_TARGET. -/
  | almApply (k : Fin 64)
  /-- REFMON_WINDOW_END (R130): At the end of each 1,048,576 st window, the device computes d_c for each candidate, judges validity and forms E and MAJ_OK. -/
  | refmonWindowEnd (meas : List CandMeas)
  /-- REF_LOSS (R138): The selected reference shows no edge for 2,000 st, and the device enters holdover and sets REF_SUSPECT. -/
  | refLoss
  /-- PLL_UNLOCK (R144): The PLL loses lock while its reference is valid, and the device enters holdover. -/
  | pllUnlock
  /-- REF_FALLBACK (R146): A reference shows no edge within 10 ms, and the device tries the next fallback or runs on its oscillator with NO_REF. -/
  | refFallback
  /-- AGE_PROMOTE (R166): A request that has waited AGE_PROMOTE beats at one port is promoted to QoS 15, and PROMOTE_COUNT increments. -/
  | agePromote (k : Nat)
  /-- TARGET_TIMEOUT (R193): A target gives no response within 2^TIMEOUT.EXP beats, so the request completes with zero data and its slot is freed. -/
  | targetTimeout (k : Nat)
  /-- PAGE_SRST_DONE (R187): The soft reset completes, RESET_BUSY clears, and held accesses are served. -/
  | pageSrstDone (page : Fin 512)
  /-- WARM_TAKE_EFFECT (R186): 4,096 beats after the request, the WARM reset takes effect and discards every access still outstanding. -/
  | warmTakeEffect
  /-- AXIS_EDGE (R203): An input change is accepted after the filter, the count changes with its stamp, and quadrature, direction and index-missing checks are made. -/
  | axisEdge (k : Fin 6) (la lb : Bool)
  /-- AXIS_INDEX_EDGE (R208): A qualified index edge acts by INDEX_MODE: IGNORE, CHECK or SNAP. -/
  | axisIndexEdge (k : Fin 6) (lz : Bool)
  /-- AXIS_OPEN_WIRE (R210): A signal stays in the open window for 1,000 ticks, and OPEN is declared. -/
  | axisOpenWire (k : Fin 6) (sig : Fin 3)
  /-- EPHEM_SAMPLE (R213): At each multiple of 4,096 st, the master takes a position sample of the latest counted edge. -/
  | ephemSample
  /-- EPHEM_FIT (R214): At each fit instant, the master fits the kept samples and forms a segment with T0 = F + LEAD. -/
  | ephemFit
  /-- EPHEM_PUBLISH (R215): At F + 1 st, the master publishes the segment to its own line unit and the enabled Commons ports. -/
  | ephemPublish
  /-- SEGMENT_RECEIVE (R220): A received segment is checked for CRC, master, lateness and order, then accepted as pending or discarded. -/
  | segmentReceive (ws : List (BitVec 64))
  /-- SEGMENT_TAKE_FORCE (R221): On the tick equal to its T0, a pending segment comes into force. -/
  | segmentTakeForce
  /-- SEGMENT_EXPIRE (R221): The segment in force reaches T0 + VALID_LEN with no successor, and the position becomes invalid. -/
  | segmentExpire
  /-- TRIG_FIRE (R225): The position reaches NEXT, and the schedule fires and stamps if its output is idle, or skips the grid position as an overrun; it disarms at COUNT. -/
  | trigFire (k : Fin 32)
  /-- TRIG_PULSE_END (R225): WIDTH ticks after a firing, the output returns to idle. -/
  | trigPulseEnd (o : Fin 40)
  /-- STROBE_FIRE (R228): A strobe fires on its own schedule, or DELAY ticks after its linked trigger fires. -/
  | strobeFire (k : Fin 8)
  /-- STROBE_DUTY_CUT (R230): ON_TIME would exceed DUTY_MAX × 4,096, so the strobe goes idle and further firings in the window are skipped. -/
  | strobeDutyCut (k : Fin 8)
  /-- STROBE_DUTY_WINDOW (R230): At each multiple of 1,048,576 st, a new duty window starts and ON_TIME restarts. -/
  | strobeDutyWindow
  /-- OUTPUT_SHORT (R242): An output's sensed level or common mode has been wrong for 64 ticks, so TRG_SHORT or STB_SHORT is raised. -/
  | outputShort (o : Shorted)
  /-- CSI_FRAME_SHORT_PACKET (R231): A frame start or frame end short packet is accepted and ignored. -/
  | csiFrameShortPacket (m : Fin 4) (p : CsiHead) (isEnd : Bool)
  /-- CSI_LINE_START (R232): A line start opens line buffering, and the binding pops a stamp, dropping aged entries or tagging NO_STAMP. -/
  | csiLineStart (m : Fin 4) (p : CsiHead) (lineNo : BitVec 16)
  /-- CSI_LONG_PACKET (R233): A long packet's payload is checked and buffered, or dropped as unsupported. -/
  | csiLongPacket (m vc : Fin 4) (dt : Fin 64) (wc : BitVec 16) (payload : List Byte) (crcGood : Bool) (x : CsiCheck)
  /-- CSI_LINE_END (R233): A line end pushes one tagged item of the buffered line to the bound queue. -/
  | csiLineEnd (m : Fin 4) (p : CsiHead) (lineNo : BitVec 16)
  /-- LANE_SYNC_LOSS (R242): Lane synchronisation is lost, and the current line is discarded. -/
  | laneSyncLoss (l : LanesOff)
  /-- METER_EDGE (R251): An accepted meter edge changes the open tally's edge count, and the missing-index and direction checks run. -/
  | meterEdge (ch : Fin 2) (la lb : Bool)
  /-- METER_INDEX_EDGE (R256): A meter index edge measures d, extends or ends an index run, and counts beyond-tolerance revolutions, without altering the count. -/
  | meterIndexEdge (ch : Fin 2) (lz : Bool)
  /-- METER_WIRE_FAULT (R260): The onset of an open-wire, reversed or swapped condition ledgers WIRE_FAULT and sets MEAS_SUSPECT. -/
  | meterWireFault (ch : Fin 2) (kind : Fin 7)
  /-- WHB_BAD_OP (R278): A request with an unlisted OP or SUB is answered BAD_OP with no other effect. -/
  | whbBadOp (tag : BitVec 8) (op sub : Fin 16)
  /-- WHB_FRAME_BAD_CRC (R278): A bridge frame with a bad CRC is discarded without a response. -/
  | whbFrameBadCrc (toCore : Bool)
  /-- RECORD_SIGNED (R262): Signing of a tally record completes, and the record is written to the tally store and answered. -/
  | recordSigned
  /-- WHB_RESPONSE (R282): A valid response frame completes the request, fills the response buffer and sets DONE, or raises REQ_FAIL. -/
  | whbResponse
  /-- WHB_RETRY_TIMEOUT (R282): No valid response arrives within 200 ms, so the request is retransmitted, or after the third attempt completes with TIMEOUT. -/
  | whbRetryTimeout
  /-- MOTOR_CAL_DONE (R304): 64 samples per amplifier have been averaged, the offsets are stored, and the start sequence proceeds. -/
  | motorCalDone (n : Fin 4) (u v w : BitVec 14)
  /-- MOTOR_DETECT_DONE (R305): The 12 saliency vectors complete, and SECTOR is taken, or ALIGN is run on DETECT_FAIL. -/
  | motorDetectDone (n : Fin 4) (peaks : List (Fin 16384))
  /-- MOTOR_ALIGN_DONE (R306): ALIGN_TIME elapses and the rotor angle is taken as 0. -/
  | motorAlignDone (n : Fin 4)
  /-- MOTOR_UPDATE (R309): At each sample tick, the currents are converted and the current, speed, position and lock loops run, with new duties written at the update tick. -/
  | motorUpdate (n : Fin 4) (u v w : BitVec 14)
  /-- MOTOR_RESTART (R328): RESTART.DELAY expires and the channel restarts from DETECT or ALIGN. -/
  | motorRestart (n : Fin 4)
  /-- RESTARTS_CLEAR (R328): After 2^30 st of uninterrupted running, STATUS.RESTARTS clears. -/
  | restartsClear (n : Fin 4)
  /-- HANDOVER_TIMEOUT (R327): No handover occurs within HANDOVER.TMO of reaching RAMP_END, which is treated as a stall. -/
  | handoverTimeout (n : Fin 4)
  /-- HALL_TRANSITION (R315): A filtered hall code change updates the sector and the transition speed. -/
  | hallTransition (n : Fin 4) (code : Fin 8)
  /-- FACET_INDEX_EDGE (R321): A facet index edge in LOCKED is measured against the facet grid, and the trim target moves. -/
  | facetIndexEdge (n : Fin 4)
  /-- MOTOR_DERATE_UPDATE (R324): Every 65,536 st, TD_MEAS is read, DERATE_OUT is computed, and THERMAL_TRIP is judged. -/
  | motorDerateUpdate (n : Fin 4) (td : BitVec 10)
  /-- CBC_TRIP (R323): A phase current exceeds ILIM_CBC, so the conducting switch is off for the rest of the period and CBC_COUNT increments. -/
  | cbcTrip (n : Fin 4) (ph : Fin 3)
  /-- PWM_PERIOD_START (R344): At a period start, PERIOD, the compares, PHASE_STATE and dead times are taken and LAST_START is recorded. -/
  | pwmPeriodStart (n : Fin 4)
  /-- PWM_COMMAND_EDGE (R345): A scheduled compare or dead-time edge changes a switch command, checking pulse width and overlap of both commands. -/
  | pwmCommandEdge (n : Fin 4)
  /-- PWM_LINK_LOSS (R340): A credit stall, a parity error or a 256 st gap on the link turns off every gate of the channel and sets LATCH.LINK. -/
  | pwmLinkLoss (n : Fin 4) (cause : Option (Fin 3))
  /-- INTERLOCK_RELEASE (R354): The opposite gate has stayed below V_IL for IL_TIME, and a waiting switch turns on. -/
  | interlockRelease (n : Fin 4) (sw : Fin 6)
  /-- GATE_STUCK_TIMEOUT (R357): The opposite gate is not down within 2,000 st, so both switches turn off and GATE_STUCK latches. -/
  | gateStuckTimeout (n : Fin 4) (ph : Fin 3)
  /-- GATE_NORISE_TIMEOUT (R358): A gate has not exceeded 6.0 V within 2,000 st, so the switch is turned off and NORISE latches. -/
  | gateNoriseTimeout (n : Fin 4) (sw : Fin 6)
  /-- SLEW_TRANSITION (R351): A hard-switched phase transition is measured and attributed, and every 2^DIV transitions the SRC code steps. -/
  | slewTransition (n : Fin 4) (low : Bool) (m : BitVec 12)
  /-- BST_UV_CROSS (R360): BST − SH crosses 7.0 V or 7.5 V, and the high side is held off or released. -/
  | bstUvCross (n : Fin 4) (ph : Fin 3) (below : Bool)
  /-- VCP_UV_CROSS (R359): VCP − VM crosses 8.0 V, which stops or restores trickle sourcing and REVG. -/
  | vcpUvCross (below : Bool)
  /-- DIDT_FIRE (R363): A di/dt detector fires, and the switch starts a two-level soft turn-off with LATCH.SHORT set. -/
  | didtFire (n : Fin 4) (sw : Fin 6)
  /-- SOFT_OFF_HOLD_END (R363): The soft turn-off hold time expires and the gate is sunk to its source return. -/
  | softOffHoldEnd (n : Fin 4) (sw : Fin 6)
  /-- TRIP_N_LOW (R364): TRIP_N goes low and all six gates turn off, latching in LATCH mode or for the period in CYCLE mode. -/
  | tripNLow (n : Fin 4) (low : Bool)
  /-- OUV_OVERTEMP (R365): The Ouvgor die reaches 150 °C, so every gate of every channel turns off and LATCH.SUPPLY is set. -/
  | ouvOvertemp (hot : Bool)
  /-- DIAG_STEP_END (R366): At the end of each diagnostic step, the phase nodes are judged; the last step raises DIAG_DONE and latches DIAG on any failure. -/
  | diagStepEnd (n : Fin 4) (u v w : Nat)
  /-- CST_HALF_STEP_END (R367): At each half step, injected levels are checked against the comparator outputs, and failures are recorded in CST_RESULT. -/
  | cstHalfStepEnd (n : Fin 4) (active : BitVec 19)
  /-- OUV_CST_DONE (R369): The shared self-test completes and raises OUV_CST_DONE, with OUV_CST_FAIL on any failure. -/
  | ouvCstDone (failed : BitVec 5)
  /-- DIRECT_TEST_END (R374): TEST_WIDTH ticks elapse and the direct test pulse ends. -/
  | directTestEnd (n : Fin 4)
  /-- SLOT_LOAD_DONE (R611): The image and weights digests complete, and the slot becomes LOADED or EMPTY with IMG_ERR. -/
  | slotLoadDone (k : Fin 16) (readOk : Bool)
  /-- RUN_FIRST_ISSUE (R395): At L + 3,200, every tile of the run issues its first instruction. -/
  | runFirstIssue (h : Fin 8)
  /-- BREAKPOINT_HIT (R407): An instruction at an enabled breakpoint address is about to issue, and the hit is recorded without executing it. -/
  | breakpointHit (t : Fin 64)
  /-- NOP (R387): The NOP instruction does nothing. -/
  | nop (t : Fin 64)
  /-- HALT (R401): The HALT instruction ends the leaf, and the slot becomes DONE when every leaf has halted. -/
  | halt (t : Fin 64)
  /-- BR (R387): The BR instruction branches by IMM. -/
  | br (t : Fin 64)
  /-- BZ (R387): The BZ instruction branches if s[RA] is 0. -/
  | bz (t : Fin 64)
  /-- BNZ (R387): The BNZ instruction branches if s[RA] is not 0. -/
  | bnz (t : Fin 64)
  /-- BLT (R387): The BLT instruction branches if s[RA] is less than s[RB], signed. -/
  | blt (t : Fin 64)
  /-- BGE (R387): The BGE instruction branches if s[RA] is greater than or equal to s[RB], signed. -/
  | bge (t : Fin 64)
  /-- TRAP (R414): The TRAP instruction fails the run with code TRAP. -/
  | trap (t : Fin 64)
  /-- GETS (R387): The GETS instruction reads a special value into s[RD], setting ARRANGEMENT_READ or faulting where the rules say so. -/
  | gets (t : Fin 64)
  /-- ADD (R388): Scalar add. -/
  | add (t : Fin 64)
  /-- SUB (R388): Scalar subtract. -/
  | sub (t : Fin 64)
  /-- MUL (R388): Scalar multiply, keeping the low half. -/
  | mul (t : Fin 64)
  /-- AND (R387): Scalar AND. -/
  | and (t : Fin 64)
  /-- OR (R387): Scalar OR. -/
  | or (t : Fin 64)
  /-- XOR (R387): Scalar XOR. -/
  | xor (t : Fin 64)
  /-- SHL (R387): Scalar shift left by s[RB][5:0]. -/
  | shl (t : Fin 64)
  /-- SHR (R387): Scalar logical shift right. -/
  | shr (t : Fin 64)
  /-- SRA (R387): Scalar arithmetic shift right. -/
  | sra (t : Fin 64)
  /-- SLT (R387): Scalar signed set-less-than. -/
  | slt (t : Fin 64)
  /-- SLTU (R387): Scalar unsigned set-less-than. -/
  | sltu (t : Fin 64)
  /-- ADDI (R387): Scalar add of the sign-extended immediate. -/
  | addi (t : Fin 64)
  /-- LIH (R387): Loads IMM into the upper half of s[RD] above s[RA][31:0]. -/
  | lih (t : Fin 64)
  /-- VADD (R388): Predicated vector add. -/
  | vadd (t : Fin 64)
  /-- VSUB (R388): Predicated vector subtract. -/
  | vsub (t : Fin 64)
  /-- VMUL (R388): Predicated vector multiply, keeping the low half. -/
  | vmul (t : Fin 64)
  /-- VAND (R387): Predicated vector AND. -/
  | vand (t : Fin 64)
  /-- VOR (R387): Predicated vector OR. -/
  | vor (t : Fin 64)
  /-- VXOR (R387): Predicated vector XOR. -/
  | vxor (t : Fin 64)
  /-- VSHL (R387): Predicated vector shift left. -/
  | vshl (t : Fin 64)
  /-- VSHR (R387): Predicated vector logical shift right. -/
  | vshr (t : Fin 64)
  /-- VSRA (R387): Predicated vector arithmetic shift right. -/
  | vsra (t : Fin 64)
  /-- VMIN (R387): Predicated vector signed minimum. -/
  | vmin (t : Fin 64)
  /-- VMAX (R387): Predicated vector signed maximum. -/
  | vmax (t : Fin 64)
  /-- VCMPEQ (R387): Per-lane equality compare into a predicate. -/
  | vcmpeq (t : Fin 64)
  /-- VCMPLT (R387): Per-lane signed less-than compare into a predicate. -/
  | vcmplt (t : Fin 64)
  /-- VBCAST (R387): Broadcasts s[RA][31:0] to the predicated lanes. -/
  | vbcast (t : Fin 64)
  /-- VSEL (R387): Selects lanes of v[RA] or v[RB] by predicate. -/
  | vsel (t : Fin 64)
  /-- VDOT4 (R389): Signed int8 four-way dot-product accumulate. -/
  | vdot4 (t : Fin 64)
  /-- VDOT4U (R389): Dot-product accumulate with the bytes of v[RA] read as unsigned. -/
  | vdot4u (t : Fin 64)
  /-- VREQ (R389): Requantises each lane by k and a rounding shift, saturating to int8. -/
  | vreq (t : Fin 64)
  /-- VLANE (R387): Writes the lane index into each predicated lane. -/
  | vlane (t : Fin 64)
  /-- VEXT (R387): Extracts one lane to a scalar register, sign-extended. -/
  | vext (t : Fin 64)
  /-- VFADD (R390): fp32 vector add. -/
  | vfadd (t : Fin 64)
  /-- VFSUB (R390): fp32 vector subtract. -/
  | vfsub (t : Fin 64)
  /-- VFMUL (R390): fp32 vector multiply. -/
  | vfmul (t : Fin 64)
  /-- VFFMA (R390): fp32 fused multiply-add with one rounding. -/
  | vffma (t : Fin 64)
  /-- VFMAX (R390): fp32 vector maximum. -/
  | vfmax (t : Fin 64)
  /-- VFMIN (R390): fp32 vector minimum. -/
  | vfmin (t : Fin 64)
  /-- VCVTIF (R390): Converts int32 to fp32. -/
  | vcvtif (t : Fin 64)
  /-- VCVTFI (R390): Converts fp32 to int32 with saturation. -/
  | vcvtfi (t : Fin 64)
  /-- VFCMPLT (R387): fp32 less-than compare into a predicate. -/
  | vfcmplt (t : Fin 64)
  /-- VLD (R387): Loads 64 bytes from the window into v[RD], checking alignment, window range and watchpoints. -/
  | vld (x : TileRead)
  /-- VST (R387): Stores the predicated lanes of v[RD] to the window. -/
  | vst (t : Fin 64)
  /-- SLD (R387): Loads 8 bytes from the window into s[RD]. -/
  | sld (x : TileRead)
  /-- SST (R387): Stores 8 bytes of s[RD] to the window. -/
  | sst (t : Fin 64)
  /-- DMAGET (R387): Starts a DMA of IMM × 64 bytes from DRAM to the window, tracked for provenance. -/
  | dmaget (t : Fin 64)
  /-- DMAPUT (R387): Starts a DMA from the window to DRAM. -/
  | dmaput (x : TileRead)
  /-- DMAWAIT (R387): Waits until every DMA of the leaf has completed. -/
  | dmawait (t : Fin 64)
  /-- DMA_COMPLETE (R387): An outstanding DMA transfer completes, which may release a waiting DMAWAIT. -/
  | dmaComplete (t : Fin 64) (leaf : Fin 64)
  /-- POP (R398): Copies words of the step item to the window and writes its length; the first POP of a step issues the TAKE. -/
  | pop (t : Fin 64)
  /-- POP_ITEM_OBTAINED (R398): A waiting POP obtains the step item and completes. -/
  | popItemObtained (t : Fin 64)
  /-- EMIT (R399): Stages an item with a provenance header for commit at the step barrier. -/
  | emit (x : TileRead)
  /-- VRED_IADD (R402): Vector integer-add reduction across leaves. -/
  | vredIadd (t : Fin 64)
  /-- VRED_FADD (R402): Vector fp32-add reduction across leaves. -/
  | vredFadd (t : Fin 64)
  /-- VRED_IMAX (R402): Vector integer-maximum reduction across leaves. -/
  | vredImax (t : Fin 64)
  /-- VRED_IMIN (R402): Vector integer-minimum reduction across leaves. -/
  | vredImin (t : Fin 64)
  /-- VRED_FMAX (R402): Vector fp32-maximum reduction across leaves. -/
  | vredFmax (t : Fin 64)
  /-- VRED_FMIN (R402): Vector fp32-minimum reduction across leaves. -/
  | vredFmin (t : Fin 64)
  /-- SRED_IADD (R402): Scalar 64-bit integer-add reduction across leaves. -/
  | sredIadd (t : Fin 64)
  /-- SRED_FADD (R402): Scalar fp32-add reduction across leaves. -/
  | sredFadd (t : Fin 64)
  /-- SRED_IMAX (R402): Scalar integer-maximum reduction across leaves. -/
  | sredImax (t : Fin 64)
  /-- SRED_IMIN (R402): Scalar integer-minimum reduction across leaves. -/
  | sredImin (t : Fin 64)
  /-- SRED_FMAX (R402): Scalar fp32-maximum reduction across leaves. -/
  | sredFmax (t : Fin 64)
  /-- SRED_FMIN (R402): Scalar fp32-minimum reduction across leaves. -/
  | sredFmin (t : Fin 64)
  /-- VLTREE_IADD (R405): Integer-add lane tree within the leaf. -/
  | vltreeIadd (t : Fin 64)
  /-- VLTREE_FADD (R405): fp32-add lane tree within the leaf. -/
  | vltreeFadd (t : Fin 64)
  /-- VLTREE_IMAX (R405): Integer-maximum lane tree within the leaf. -/
  | vltreeImax (t : Fin 64)
  /-- VLTREE_IMIN (R405): Integer-minimum lane tree within the leaf. -/
  | vltreeImin (t : Fin 64)
  /-- VLTREE_FMAX (R405): fp32-maximum lane tree within the leaf. -/
  | vltreeFmax (t : Fin 64)
  /-- VLTREE_FMIN (R405): fp32-minimum lane tree within the leaf. -/
  | vltreeFmin (t : Fin 64)
  /-- VRND (R406): Writes generator words for seed, step, stream, leaf, lane and slot to the predicated lanes. -/
  | vrnd (t : Fin 64)
  /-- STEP (R400): The STEP instruction reaches a step barrier, and the tile switches to its next leaf. -/
  | step (t : Fin 64)
  /-- BAR (R400): The BAR instruction reaches a barrier without a step. -/
  | bar (t : Fin 64)
  /-- ILLEGAL_INSTRUCTION (R386): An instruction with a reserved CLASS or an unlisted OP faults with ILLEGAL. -/
  | illegalInstruction (t : Fin 64)
  /-- REDUCTION_RESULT (R404): The reduction network or collector returns a result to every leaf's destination register. -/
  | reductionResult (h : Fin 8) (roots : List (List (BitVec 64))) (refs : RefReport) (rtyMax : BitVec 32) (halted : Bool)
  /-- REMOTE_FAIL (R414): Another chip of the run fails, and this chip stops with REMOTE_FAIL. -/
  | remoteFail (h : Fin 8)
  /-- RED_TIMEOUT (R414): A chip's contribution is still missing 2^RED_TMO.EXP st after the collector's first arrival, and the run fails. -/
  | redTimeout (h : Fin 8)
  /-- TOKEN_GAIN (R437): Every GAP beats, a timed token counter below BURST gains a token. -/
  | tokenGain (r : Fin 30) (agent : Fin 8)
  /-- FLIT_FORWARD (R430): A router output grants one flit per beat by rank and round robin, routed in dimension order, with header checks. -/
  | flitForward (r : Fin 30) (out : Fin 6) (parity sideband : Bool)
  /-- CREDIT_RETURN (R427): A returned credit is read out of the reverse crossing and becomes usable. -/
  | creditReturn (r : Fin 30) (out : Fin 6) (c : CreditIn)
  /-- RESPONSE_ARRIVE (R435): A response arrives at its requester's reserved slot, and quarantined or orphaned responses are discarded. -/
  | responseArrive (r : Fin 30) (timed : Bool)
  /-- RSP_TIMEOUT (R445): A response slot is unanswered for 2^RSP_TMO.EXP beats, so it completes with TIMEOUT and is quarantined. -/
  | rspTimeout (r : Fin 30) (agent : Fin 8) (tag : Fin 256)
  /-- VC_STALL (R445): An input channel makes no progress for STALL_LIMIT beats, and VC_STALL is reported. -/
  | vcStall (r : Fin 30) (port : Fin 5) (vc : Fin 6)
  /-- TAKE_RETRY (R610): Every 64 beats from launch, the step-item port repeats a TAKE that found the queue empty. -/
  | takeRetry (h : Fin 8)
  /-- SPILL_WRITE (R471): The engine writes the oldest 7 tail words as a spill block, metered as committed or excess traffic. -/
  | spillWrite (q : Fin 256)
  /-- SPILL_WRITE_DONE (R472): A spill write completes and the withheld credit is released. -/
  | spillWriteDone (q : Fin 256) (status : Fin 8)
  /-- SPILL_READ (R471): The engine reads the oldest spill block into the head stage. -/
  | spillRead (q : Fin 256)
  /-- SPILL_READ_DONE (R487): A spill block returns and its tag is checked, poisoning words on a mismatch or error. -/
  | spillReadDone (q : Fin 256) (status : Fin 8) (poisonedFlits : Fin 4)
  /-- DISCARD_TIMEOUT (R484): A discarding producer sends no word for a further 2^ITEM_TMO beats, and its discarding state ends. -/
  | discardTimeout (q : Fin 256) (node agent master hh : Fin 64)
  /-- REFILL_INSTANT (R500): At each multiple of 2^REFILL_EXP, the page applies its shadows, refills its buckets and re-examines its EX slots. -/
  | refillInstant (page : Fin 9)
  /-- SLOT_WAKE (R505): A slot gains an item or unblocks, and joins its list or the wheel. -/
  | slotWake (p : Fin 5) (k : Fin 64)
  /-- WHEEL_TICK (R508): At each multiple of 32 st, the slots in the level-0 wheel slot wake. -/
  | wheelTick (p : Fin 5)
  /-- WHEEL_LEVEL1_MOVE (R508): At each multiple of 65,536 st, a level-1 slot moves into level 0 and far parked slots are re-examined. -/
  | wheelLevel1Move (p : Fin 5)
  /-- ARBITER_WINDOW_END (R519): At each 2^16 st window end, the DRAM arbiter computes its shortfall and excess weights. -/
  | arbiterWindowEnd
  /-- DRAM_REQUEST_SERVE (R518): A DRAM channel serves the next request by timed, committed and excess rank. -/
  | dramRequestServe (x : DramServe)
  /-- DRAM_REFRESH (R709): A controller issues a per-bank refresh within its interval, and the waits it causes are charged to the timing ledger. -/
  | dramRefresh (c : Fin 2) (early behind : Bool) (waits : List (Fin 8 × BitVec 32))
  /-- MODULE_READY (R551): MODABS low and LOS high hold for 1 ms, and the port enters PCS_LOCK. -/
  | moduleReady (k : Fin 4)
  /-- PCS_LOCKED (R551): Block lock, hi_ber false and FEC alignment hold for 65,536 st, and the port enters HELLO. -/
  | pcsLocked (k : Fin 4) (los fec : Bool) (tx rx : Fin 64) (stable : Bool)
  /-- HELLO_SEND (R552): In HELLO, a HELLO frame is sent every 65,536 st. -/
  | helloSend (k : Fin 4)
  /-- HELLO_RECEIVE (R552): A HELLO that sees this device with a matching FEC brings the link UP with fresh credits and sequence numbers. -/
  | helloReceive (k : Fin 4) (f : Frame)
  /-- LINK_DOWN_WAIT_END (R551): 1 ms in DOWN has passed, and the port returns to WAIT_MODULE. -/
  | linkDownWaitEnd (k : Fin 4)
  /-- LINK_LOS (R573): LOS or MODABS goes high while UP, and the link goes down. -/
  | linkLos (k : Fin 4) (modabs : Bool)
  /-- PCS_LOCK_LOST (R573): Block lock is lost or hi_ber holds for 65,536 st, and the link goes down. -/
  | pcsLockLost (k : Fin 4) (hiBer : Bool)
  /-- LINK_IDLE_TIMEOUT (R573): No valid frame arrives for 2^20 st, and the link goes down. -/
  | linkIdleTimeout (k : Fin 4)
  /-- FRAME_TRANSMIT (R553): At a frame boundary, the port sends a due LINK frame, a replay, or the ready frame of highest rank that has credit. -/
  | frameTransmit (k : Fin 4)
  /-- FRAME_BAD_CRC (R544): A frame with a bad CRC is discarded, CRC_ERR is raised, and a NAK is sent. -/
  | frameBadCrc (k : Fin 4) (corrected uncorrectable : BitVec 16)
  /-- LINK_UPDATE_RECEIVE (R549): A LINK UPDATE frame updates the cumulative credits and the acknowledgement, possibly triggering a replay on NAK. -/
  | linkUpdateReceive (k : Fin 4) (f : Frame)
  /-- LINK_UPDATE_DUE (R550): An unacknowledged frame for 512 st, 32 newly returned units, or 65,536 st makes a LINK UPDATE due. -/
  | linkUpdateDue (k : Fin 4)
  /-- REPLAY_TIMEOUT (R546): The oldest unacknowledged frame waits 2^REPLAY_EXP st and a replay starts, or RETRAIN takes the link down. -/
  | replayTimeout (k : Fin 4)
  /-- NAK_RESEND (R544): The expected frame is not accepted 2^REPLAY_EXP st after a NAK, and the NAK is sent again. -/
  | nakResend (k : Fin 4)
  /-- TRANSPORT_RECEIVE (R556): A TRANSPORT frame is forwarded, or injected as a NoC packet, or returned as a response. -/
  | transportReceive (k : Fin 4) (f : Frame)
  /-- FABP_REQUEST_INJECT (R556): A held inbound request gets a response slot and is injected into the NoC. -/
  | fabpRequestInject (k : Fin 4)
  /-- UNROUTABLE_REQUEST (R557): The FAB agent answers a request in fabric form with no route, or with no device number, with DECODE. -/
  | unroutableRequest (w0 w1 : BitVec 64)
  /-- ITEM_FRAME_RECEIVE (R558): An ITEM frame is policed and pushed whole into DQUEUE, or forwarded. -/
  | itemFrameReceive (k : Fin 4) (f : Frame)
  /-- SEGMENT_FRAME_RECEIVE (R600): A segment EVENT frame is delivered to EPHEM and forwarded on the enabled child ports. -/
  | segmentFrameReceive (k : Fin 4) (f : Frame)
  /-- ANNOUNCE_SEND (R559): An ANNOUNCE is sent on each UP port every 2^ANN_EXP st or on a change. -/
  | announceSend
  /-- ANNOUNCE_RECEIVE (R560): An ANNOUNCE updates the root choice, depth and root port. -/
  | announceReceive (k : Fin 4) (f : Frame)
  /-- ROOT_HOLD_EXPIRE (R561): After ROOT_HOLD periods with no usable ANNOUNCE, an eligible device claims root, or DISC_NO_ROOT is raised. -/
  | rootHoldExpire
  /-- TREE_STABLE (R562): The root, depth and root port have been unchanged for SETTLE_N periods, and the state becomes STABLE. -/
  | treeStable
  /-- JOIN_SEND (R563): A device sends JOIN to the root on a change or every 64 periods. -/
  | joinSend
  /-- JOIN_RECEIVE (R564): A JOIN is forwarded with its PATH, or at the root assigns a number and answers with ASSIGN. -/
  | joinReceive (k : Fin 4) (f : Frame)
  /-- JOIN_EXPIRE (R564): A device's JOIN is not refreshed for 4 periods, and it leaves the map. -/
  | joinExpire (ident : BitVec 64)
  /-- ASSIGN_RECEIVE (R563): An ASSIGN is forwarded down PATH or sets the device number, or is refused. -/
  | assignReceive (k : Fin 4) (f : Frame)
  /-- MAP_RECEIVE (R565): MAP frames are forwarded and, once complete, staged tables are computed and MAP_ACK is sent. -/
  | mapReceive (k : Fin 4) (f : Frame)
  /-- MAP_ACK_RECEIVE (R565): The root collects MAP_ACKs and sends ACTIVATE when all have arrived. -/
  | mapAckReceive (k : Fin 4) (f : Frame)
  /-- MAP_ACK_TIMEOUT (R565): 2^24 st after the first MAP, the root sends ACTIVATE and raises DISC_ACK_MISSING. -/
  | mapAckTimeout
  /-- ACTIVATE_RECEIVE (R567): ACTIVATE installs the staged route tables on one beat. -/
  | activateReceive (k : Fin 4) (f : Frame)
  /-- I2C_DONE (R577): The I2C transaction completes and raises I2C_DONE or I2C_ERR. -/
  | i2cDone (nack : Bool) (data : Word)
  /-- SYNC_SEND (R581): A parent in ROOT or ALIGNED sends a SYNC on each child port at every multiple of 2^SYNC_EXP. -/
  | syncSend
  /-- SYNC_RECEIVE (R581): A child stamps the SYNC, answers it with DELAY_REQ, and may leave WAIT or COAST. -/
  | syncReceive (k : Fin 4) (f : Frame) (start : BitVec 64)
  /-- DELAY_REQ_RECEIVE (R581): A parent stamps the DELAY_REQ and answers it with DELAY_RESP. -/
  | delayReqReceive (k : Fin 4) (f : Frame) (start : BitVec 64)
  /-- DELAY_RESP_RECEIVE (R582): The child validates the exchange, computes the offset, filters it, sets the correction, and advances its join state. -/
  | delayRespReceive (k : Fin 4) (f : Frame)
  /-- STEER_STEP (R583): The beat PLL applies a 1 u steering step toward zero remaining correction. -/
  | steerStep
  /-- SYNTONISE_DONE (R588): Entry 63 is DONE and slewing has ended, and the device enters MEASURE. -/
  | syntoniseDone
  /-- PARENT_TIMEOUT (R591): 16 exchange periods pass without a valid exchange, and the device enters COAST. -/
  | parentTimeout
  /-- ALM_DIST_ARM_RECEIVE (R598): A distributed ARM arms, or frees, the member's entry and is acknowledged to the root. -/
  | almDistArmReceive (k : Fin 4) (f : Frame)
  /-- ALM_DIST_CANCEL_RECEIVE (R598): A distributed CANCEL cancels an ARMED entry and is acknowledged. -/
  | almDistCancelReceive (k : Fin 4) (f : Frame)
  /-- ALM_DIST_ACK_RECEIVE (R598): The root counts an acknowledgement in DIST_INFO and raises DIST_MISSED for a MISSED one. -/
  | almDistAckReceive (k : Fin 4) (f : Frame)
  /-- ALM_RESEND_REQ_RECEIVE (R599): The root resends every ARMED or LOCKED distributed entry to the requesting member. -/
  | almResendReqReceive (k : Fin 4) (f : Frame)
  /-- INPUT_DIGEST_DONE (R613): The input digest of a step item completes, releasing a waiting STEP barrier. -/
  | inputDigestDone (h : Fin 8)
  /-- WEIGHTS_WRITE_DETECT (R612): A write reaches the weights region after its digest, and WEIGHTS_DIRTY is set. -/
  | weightsWriteDetect (h : Fin 8)
  /-- REPLAY_FEED (R628): The feeder pushes a recorded item so that it commits at t*, counting slips. -/
  | replayFeed (h : Fin 8)
  /-- HOST_CONFIG_REQUEST (R148): A configuration request is answered with CRS before the first dawn, and served afterwards. -/
  | hostConfigRequest (f : Fin 9) (req : CfgReq)
  /-- HOST_UNSUPPORTED_REQUEST (R666): A request of an unsupported type, or one hitting no BAR, is answered Unsupported Request. -/
  | hostUnsupportedRequest (posted : Bool)
  /-- HOST_MALFORMED_TLP (R666): A malformed TLP is discarded and reported through AER. -/
  | hostMalformedTlp
  /-- HOST_CPL_TIMEOUT (R645): A non-posted request is not complete within 2^CPL_TMO.EXP beats, and it completes with zero data. -/
  | hostCplTimeout (f : Fin 9)
  /-- MSIX_UNMASK (R646): A vector or function is unmasked, or Bus Master Enable is set, and pending messages are sent. -/
  | msixUnmask (f : Fin 9) (what : Unmask)
  /-- RING_COAL_TIMEOUT (R652): COAL_ST × 1,024 st after an unsignalled write-back, the ring signals its vector. -/
  | ringCoalTimeout (k : Fin 64)
  /-- MAILBOX_FILL (R653): An EMPTY mailbox with an unread item in its queue pops the item and becomes FILLING. -/
  | mailboxFill (h : Fin 8) (m : Fin 16)
  /-- VF_FLR (R660): A Function Level Reset of a VF starts the HOUSEHOLD reset of its household. -/
  | vfFlr (h : Fin 8)
  /-- HOUSEHOLD_RESET_DONE (R661): A HOUSEHOLD reset completes, RESET_BUSY clears, and RESET_DONE is raised. -/
  | householdResetDone (h : Fin 8)
  /-- PE_PERST (R662): A fundamental reset on PE_PERST_N acts as WARM or ENDPOINT. -/
  | pePerst
  /-- HOT_RESET (R662): A hot reset acts as the LINK_CFG selection. -/
  | hotReset
  /-- PF_FLR (R662): A PF Function Level Reset resets only the endpoint. -/
  | pfFlr
  /-- HOST_LINK_DOWN (R662): The host link drops to Detect and acts as LINKDOWN_ACTION selects. -/
  | hostLinkDown
  /-- HOST_LINK_UP (R639): The link enters L0 and the PHY latencies of that rate come into force. -/
  | hostLinkUp (speed : Fin 4) (width : Fin 3)
  /-- WICKET_READ (R676): A Wicket READ becomes one matrix request with the session identity. -/
  | wicketRead (hdr : BitVec 60)
  /-- WICKET_WRITE (R676): A Wicket WRITE becomes one matrix request with the session identity. -/
  | wicketWrite (hdr : BitVec 60) (data : List (BitVec 64))
  /-- WICKET_STATUS (R675): STATUS returns the status word. -/
  | wicketStatus
  /-- WICKET_CHALLENGE (R679): CHALLENGE returns a fresh nonce, or LOCKOUT. -/
  | wicketChallenge
  /-- WICKET_AUTH (R680): AUTH starts the HMAC check for a session identity. -/
  | wicketAuth (arg : Fin 16) (mac : BitVec 256)
  /-- AUTH_CHECK_DONE (R680): The 400-beat check completes, opening a session or failing and possibly locking out. -/
  | authCheckDone
  /-- WICKET_LOGOUT (R678): LOGOUT ends the session. -/
  | wicketLogout
  /-- WICKET_ABORT (R677): ABORT forgets the pending access. -/
  | wicketAbort
  /-- WICKET_BAD_OP (R675): A request with an illegal OP is answered FAULT BAD_OP. -/
  | wicketBadOp
  /-- WICKET_CRC_FAULT (R698): A request with a bad CRC is answered FAULT CRC and counted. -/
  | wicketCrcFault (framed : Bool)
  /-- WICKET_LINE_RESET (R698): 64 consecutive 1s in REQUEST reset the line and discard the request. -/
  | wicketLineReset
  /-- WICKET_BUSY_LIMIT (R677): After 256 busy cycles, the device answers WAIT and keeps the access pending. -/
  | wicketBusyLimit
  /-- WICKET_ACCESS_COMPLETE (R676): A pending Wicket access completes at its target and its response is ready. -/
  | wicketAccessComplete
  /-- WICKET_NONCE_EXPIRE (R679): A nonce expires after 2^30 st. -/
  | wicketNonceExpire
  /-- AUTH_LOCKOUT_END (R681): The lockout of 2^30 st ends. -/
  | authLockoutEnd
  /-- DBG_RST (R678): DBG_RST_N held low for 1 µs ends the session. -/
  | dbgRst
  /-- RUN_HALTED (R686): The last tile has stopped, HALT_SID is recorded, and HALTED is raised. -/
  | runHalted (h : Fin 8)
  /-- RUN_STEP_DONE (R687): Every tile has finished its step and halts again with CAUSE STEP. -/
  | runStepDone (h : Fin 8)
  /-- TAP_BYPASS (R693): The BYPASS instruction. -/
  | tapBypass
  /-- TAP_IDCODE (R694): The IDCODE instruction selects the ID register. -/
  | tapIdcode
  /-- TAP_SAMPLE_PRELOAD (R693): The SAMPLE/PRELOAD instruction, which acts as BYPASS with CFG3 = 1. -/
  | tapSamplePreload
  /-- TAP_EXTEST (R695): EXTEST drives the boundary cells while gates are held off. -/
  | tapExtest
  /-- TAP_CLAMP (R695): CLAMP holds the boundary outputs while gates are held off. -/
  | tapClamp
  /-- TAP_HIGHZ (R695): HIGHZ floats the outputs while gates are held off. -/
  | tapHighz
  /-- TAP_RESET (R695): The TAP resets on TRST_N low or five TCK edges with TMS high. -/
  | tapReset
  /-- NOTIFY_SEND (R702): A page offers a NOTIFY when its ANY state or attribution changes. -/
  | notifySend (page : Fin 512)
  /-- NOTIFY_PERIODIC (R702): At every multiple of 65,536 st, each populated page offers a NOTIFY. -/
  | notifyPeriodic
  /-- SUMMARY_NOTIFY_RECEIVE (R707): The endpoint signals PF and VF vectors on rising summaries. -/
  | summaryNotifyReceive
  /-- SUMMARY_NOTIFY_PERIODIC (R718): The FAULT unit resends a summary NOTIFY every 65,536 st. -/
  | summaryNotifyPeriodic
  /-- FAULT_N_UPDATE (R706): 8 st after a PEND_MAP update, FAULT_N is driven low or released, and FAULTN_ON is raised on assertion. -/
  | faultNUpdate
  /-- SLEW_COMPLETE (R137): The remaining difference between the beat and the new reference falls below 0.05 ppm, and REFMON.STATUS.SLEWING clears. -/
  | slewComplete
  /-- LANE_SYNC_GAINED (R235): A CSI-2 receiver achieves lane synchronisation on a start of transmission, sets LANE_SYNC and reports RX_LATENCY. -/
  | laneSyncGained (m : Fin 4) (latency : Fin 181)
  /-- OPEN_WIRE_CLEAR (R210): An axis input leaves the open-wire window, and the live OPEN condition ends, clearing LIVE_FAULT and the AXIS_FAULT source. -/
  | openWireClear (k : Fin 6) (sig : Fin 3)
  /-- DRAM_TRAINING_DONE (R743): A DRAM controller finishes initialising and training its DRAM after POR or WARM, and raises TRAINING_FAIL on failure. -/
  | dramTrainingDone (c : Fin 2) (ok : Bool)
  /-- DRAM_TEMP_CROSS (R709): A DRAM controller reports a DRAM temperature crossing 85 °C or its throttling limit, doubling or restoring the refresh rate and raising REFRESH_2X or THROTTLE at the onset. -/
  | dramTempCross (c : Fin 2) (hot throttled : Bool)
  deriving DecidableEq, Repr

end Sys2Proof
end

