-- ==== Sys2Proof/Machine/Encoder.lean ====
section
/-!
DEFINITION. Quadrature counting, which the axis channels (R202 to R209) and the Weighhouse's meter channels (R251,
R256) share, and the CRC-32 of R218.
-/

namespace Sys2Proof.Machine

/-- The count change of an accepted change of levels from (a, b) to (a', b') (Table 6.3, R204): modes 0 X4, 1 X2,
2 X1, 3 PULSE_DIR, 4 UP_DOWN. Up is A leading B. -/
def edgeDelta (mode : Nat) (a b a' b' : Bool) : Int :=
  let up : Int := if a' != b' then 1 else -1
  match mode with
  | 0 => if a != a' && b != b' then 0 else if a != a' then up else if b != b' then -up else 0
  | 1 => if a != a' then up else 0
  | 2 => if !a && a' then up else 0
  | 3 => if !a && a' then (if b' then -1 else 1) else 0
  | 4 => (if !a && a' then 1 else 0) - (if !b && b' then 1 else 0)
  | _ => 0

/-- In X4, A and B changed together (R206). -/
def bothChanged (mode : Nat) (a b a' b' : Bool) : Bool := mode == 0 && a != a' && b != b'

/-- The expected index count nearest to a count, ties to the lower (R207). -/
def nearestIndex (value epr : Nat) (count : Int) : Int :=
  let x := count - (value : Int)
  let e : Int := (epr : Int)
  (value : Int) - e * ((e - 2 * x) / (2 * e))

/-- One step of the reflected CRC-32: one bit (R218). -/
def crcBit (c : Nat) : Nat := if c % 2 = 1 then (c / 2) ^^^ 0xEDB88320 else c / 2

/-- One byte of the CRC-32. -/
def crcByte (c : Nat) (b : Byte) : Nat :=
  crcBit (crcBit (crcBit (crcBit (crcBit (crcBit (crcBit (crcBit (c ^^^ b.toNat))))))))

/-- The CRC-32 of R218: polynomial 0x04C1_1DB7 reflected, initial value and final XOR of all ones. -/
def crc32 (bs : List Byte) : Nat := (bs.foldl crcByte 0xFFFFFFFF) ^^^ 0xFFFFFFFF

end Sys2Proof.Machine
end

