-- ==== Sys2Proof/Machine/Reg.lean ====
section
/-!
DEFINITION. What a register field is (Table 0.3, R6, R162, R198): its place in its page, its width, its reset value
and its type. A field is named by its bit address in the page, eight times the byte offset of its register plus its
lowest bit, so that a 4 KiB page has bit addresses 0 to 32,767.
-/

namespace Sys2Proof.Machine

/-- The field types of Table 0.3. `sh` is an RW field with a shadow; `page` a status field whose block says what it
holds. -/
inductive FKind where
  | ro | rw | w1c | w1s | rc | wo | sh
  deriving DecidableEq, Repr

/-- A register field. -/
structure Fld where
  /-- The bit address of its first copy in the page. -/
  bit : Nat
  /-- Its width in bits. -/
  width : Nat
  /-- Its reset value. -/
  reset : Nat
  /-- Its type. -/
  kind : FKind
  /-- Its replication, outermost first: how many copies, and how many bits apart. -/
  rep : List (Nat × Nat)
  /-- LK: frozen by PAGE_LOCK (R185). -/
  lk : Bool
  /-- Only the manager writes it (R740). -/
  mgr : Bool
  /-- Its WARM value reads "kept" (R186). -/
  keepWarm : Bool
  /-- The values that are stored: lowest, highest, and the CLAMP_STATUS bit that a clamp sets. -/
  clamp : Option (Nat × Nat × Nat)
  /-- The values that are accepted; a write of another value leaves the field unchanged. -/
  range : Option (Nat × Nat)
  deriving DecidableEq, Repr

/-- Copy `i` of a field along its outermost replication. -/
def Fld.at (f : Fld) (i : Nat) : Fld :=
  match f.rep with
  | [] => f
  | (_, s) :: r => { f with bit := f.bit + i * s, rep := r }

/-- The key of a field in the register file: the page's place and the field's bit address. -/
def regKey (page bit : Nat) : Nat := page * 32768 + bit

/-- The bit addresses, inside word `w` of a page, of the copies of a field. -/
def fieldBits (bit w : Nat) : List (Nat × Nat) → List Nat
  | [] => if bit / 32 = w then [bit] else []
  | (n, s) :: r =>
    if s < 32 then (List.range n).flatMap (fun i => fieldBits (bit + i * s) w r)
    else if 32 * w + 31 < bit then []
    else
      let i := min (n - 1) ((32 * w + 31 - bit) / s)
      fieldBits (bit + i * s) w r

/-- The copies of a table's fields that lie in word `w` of a page. -/
def fieldsAt (t : List Fld) (w : Nat) : List Fld :=
  t.flatMap (fun f => (fieldBits f.bit w f.rep).map (fun b => { f with bit := b, rep := [] }))

/-- A block event: its bit in EVT_RAW and its ERR_FIRST code, 0 for none (R178, R180). -/
structure Ev where
  bit : Nat
  code : Nat
  deriving DecidableEq, Repr

/-- A read-only field of a register at byte offset `off`, bits `[hi:lo]`. -/
def roF (off hi lo : Nat) (reset : Nat := 0) : Fld :=
  ⟨off * 8 + lo, hi + 1 - lo, reset, .ro, [], false, false, false, none, none⟩

/-- A field of a register at byte offset `off`, bits `[hi:lo]`, of a given type. -/
def fF (off hi lo reset : Nat) (kind : FKind) (rep : List (Nat × Nat) := []) : Fld :=
  ⟨off * 8 + lo, hi + 1 - lo, reset, kind, rep, false, false, false, none, none⟩

/-- The field is frozen by PAGE_LOCK. -/
def Fld.locked (f : Fld) : Fld := { f with lk := true }

/-- Only the manager writes the field. -/
def Fld.byMgr (f : Fld) : Fld := { f with mgr := true }

/-- WARM keeps the field. -/
def Fld.kept (f : Fld) : Fld := { f with keepWarm := true }

/-- Values outside the bounds are stored as the nearer bound, and the given CLAMP_STATUS bit is set. -/
def Fld.clamped (f : Fld) (lo hi bit : Nat) : Fld := { f with clamp := some (lo, hi, bit) }

/-- Values outside the bounds leave the field unchanged. -/
def Fld.only (f : Fld) (lo hi : Nat) : Fld := { f with range := some (lo, hi) }

end Sys2Proof.Machine
end

