-- ==== Sys2Proof/Machine/RegsCompute.lean ====
section
/-!
DEFINITION. The registers and events of the TILE, SIEVE, NOC, queue, scheduler, policer and DRAM pages (Chapters 10 to 13).
-/

namespace Sys2Proof.Machine

/-- Event TILE_FAULT of TILE. -/
def TILE.evTILE_FAULT : Ev := ⟨0, 255⟩

/-- Event ECC_CORR of TILE. -/
def TILE.evECC_CORR : Ev := ⟨1, 0⟩

/-- Event BKPT_HIT of TILE. -/
def TILE.evBKPT_HIT : Ev := ⟨2, 0⟩

/-- Event WATCH_HIT of TILE. -/
def TILE.evWATCH_HIT : Ev := ⟨3, 0⟩

/-- Event POISON_IN of TILE. -/
def TILE.evPOISON_IN : Ev := ⟨4, 16⟩

/-- TILE.T_STATUS.SLOT. -/
def TILE.T_STATUS_SLOT : Fld := fF 0x100 23 20 0 .ro

/-- TILE.T_STATUS.CUR_LEAF. -/
def TILE.T_STATUS_CUR_LEAF : Fld := fF 0x100 13 8 0 .ro

/-- TILE.T_STATUS.LEAVES. -/
def TILE.T_STATUS_LEAVES : Fld := fF 0x100 7 3 0 .ro

/-- TILE.T_STATUS.STATE. -/
def TILE.T_STATUS_STATE : Fld := fF 0x100 2 0 0 .ro

/-- TILE.T_PHYS.NODE. -/
def TILE.T_PHYS_NODE : Fld := fF 0x104 13 8 0 .ro

/-- TILE.T_PHYS.PHYS_TILE. -/
def TILE.T_PHYS_PHYS_TILE : Fld := fF 0x104 5 0 0 .ro

/-- TILE.T_PC.PC. -/
def TILE.T_PC_PC : Fld := fF 0x108 15 0 0 .ro

/-- TILE.T_FAULT.PC. -/
def TILE.T_FAULT_PC : Fld := fF 0x10c 31 16 0 .ro

/-- TILE.T_FAULT.LEAF. -/
def TILE.T_FAULT_LEAF : Fld := fF 0x10c 13 8 0 .ro

/-- TILE.T_FAULT.CODE. -/
def TILE.T_FAULT_CODE : Fld := fF 0x10c 7 0 0 .ro

/-- TILE.T_ISSUED_LO.N. -/
def TILE.T_ISSUED_LO_N : Fld := fF 0x110 31 0 0 .ro

/-- TILE.T_ISSUED_HI.N. -/
def TILE.T_ISSUED_HI_N : Fld := fF 0x114 31 0 0 .ro

/-- TILE.T_WAIT.BEATS. -/
def TILE.T_WAIT_BEATS : Fld := fF 0x118 31 0 0 .ro

/-- TILE.T_ECC.CORRECTED. -/
def TILE.T_ECC_CORRECTED : Fld := fF 0x11c 15 0 0 .rc

/-- TILE.T_XWRITE.COUNT. -/
def TILE.T_XWRITE_COUNT : Fld := fF 0x120 15 0 0 .rc

/-- TILE.BP_ADDR.ADDR. -/
def TILE.BP_ADDR_ADDR : Fld := fF 0x200 15 3 0 .rw [(8, 64)]

/-- TILE.BP_CTRL.EN. -/
def TILE.BP_CTRL_EN : Fld := fF 0x204 31 31 0 .rw [(8, 64)]

/-- TILE.BP_CTRL.ACTION. -/
def TILE.BP_CTRL_ACTION : Fld := fF 0x204 30 30 0 .rw [(8, 64)]

/-- TILE.BP_CTRL.ANY_LEAF. -/
def TILE.BP_CTRL_ANY_LEAF : Fld := fF 0x204 29 29 0 .rw [(8, 64)]

/-- TILE.BP_CTRL.LEAF. -/
def TILE.BP_CTRL_LEAF : Fld := fF 0x204 5 0 0 .rw [(8, 64)]

/-- TILE.WP_LO.OFF. -/
def TILE.WP_LO_OFF : Fld := fF 0x240 17 0 0 .rw [(4, 128)]

/-- TILE.WP_HI.OFF. -/
def TILE.WP_HI_OFF : Fld := fF 0x244 17 0 0 .rw [(4, 128)]

/-- TILE.WP_CTRL.EN. -/
def TILE.WP_CTRL_EN : Fld := fF 0x248 31 31 0 .rw [(4, 128)]

/-- TILE.WP_CTRL.ACTION. -/
def TILE.WP_CTRL_ACTION : Fld := fF 0x248 30 30 0 .rw [(4, 128)]

/-- TILE.WP_CTRL.ANY_LEAF. -/
def TILE.WP_CTRL_ANY_LEAF : Fld := fF 0x248 29 29 0 .rw [(4, 128)]

/-- TILE.WP_CTRL.RD. -/
def TILE.WP_CTRL_RD : Fld := fF 0x248 28 28 0 .rw [(4, 128)]

/-- TILE.WP_CTRL.WR. -/
def TILE.WP_CTRL_WR : Fld := fF 0x248 27 27 0 .rw [(4, 128)]

/-- TILE.WP_CTRL.LEAF. -/
def TILE.WP_CTRL_LEAF : Fld := fF 0x248 5 0 0 .rw [(4, 128)]

/-- TILE.HIT.VALID. -/
def TILE.HIT_VALID : Fld := fF 0x280 31 31 0 .w1c

/-- TILE.HIT.WATCH. -/
def TILE.HIT_WATCH : Fld := fF 0x280 30 30 0 .ro

/-- TILE.HIT.INDEX. -/
def TILE.HIT_INDEX : Fld := fF 0x280 27 24 0 .ro

/-- TILE.HIT.LEAF. -/
def TILE.HIT_LEAF : Fld := fF 0x280 21 16 0 .ro

/-- TILE.HIT.PC. -/
def TILE.HIT_PC : Fld := fF 0x280 15 0 0 .ro

/-- TILE registers, part 1 (Table 10.11). -/
def TILE.table1 : List Fld :=
  [TILE.T_STATUS_SLOT, TILE.T_STATUS_CUR_LEAF, TILE.T_STATUS_LEAVES, TILE.T_STATUS_STATE, TILE.T_PHYS_NODE, TILE.T_PHYS_PHYS_TILE, TILE.T_PC_PC, TILE.T_FAULT_PC, TILE.T_FAULT_LEAF, TILE.T_FAULT_CODE, TILE.T_ISSUED_LO_N, TILE.T_ISSUED_HI_N, TILE.T_WAIT_BEATS, TILE.T_ECC_CORRECTED, TILE.T_XWRITE_COUNT, TILE.BP_ADDR_ADDR, TILE.BP_CTRL_EN, TILE.BP_CTRL_ACTION, TILE.BP_CTRL_ANY_LEAF, TILE.BP_CTRL_LEAF, TILE.WP_LO_OFF, TILE.WP_HI_OFF, TILE.WP_CTRL_EN, TILE.WP_CTRL_ACTION]

/-- TILE registers, part 2 (Table 10.11). -/
def TILE.table2 : List Fld :=
  [TILE.WP_CTRL_ANY_LEAF, TILE.WP_CTRL_RD, TILE.WP_CTRL_WR, TILE.WP_CTRL_LEAF, TILE.HIT_VALID, TILE.HIT_WATCH, TILE.HIT_INDEX, TILE.HIT_LEAF, TILE.HIT_PC]

/-- The TILE page's registers (Table 10.11). -/
def TILE.table : List Fld := TILE.table1 ++ TILE.table2

/-- Event LAUNCH_REFUSED of SIEVE. -/
def SIEVE.evLAUNCH_REFUSED : Ev := ⟨0, 1⟩

/-- Event IMAGE_BAD of SIEVE. -/
def SIEVE.evIMAGE_BAD : Ev := ⟨1, 2⟩

/-- Event RUN_FAILED of SIEVE. -/
def SIEVE.evRUN_FAILED : Ev := ⟨2, 3⟩

/-- Event RED_TIMEOUT of SIEVE. -/
def SIEVE.evRED_TIMEOUT : Ev := ⟨3, 4⟩

/-- Event RUN_DONE of SIEVE. -/
def SIEVE.evRUN_DONE : Ev := ⟨4, 0⟩

/-- Event RUN_ABORTED of SIEVE. -/
def SIEVE.evRUN_ABORTED : Ev := ⟨5, 0⟩

/-- Event LOAD_DONE of SIEVE. -/
def SIEVE.evLOAD_DONE : Ev := ⟨6, 0⟩

/-- SIEVE.SLOT_OWNER.SLOT. -/
def SIEVE.SLOT_OWNER_SLOT : Fld := (fF 0x100 3 0 15 .rw [(16, 4)]).byMgr

/-- SIEVE.HH_QUADS.N. -/
def SIEVE.HH_QUADS_N : Fld := fF 0x108 4 0 0 .ro [(8, 8)]

/-- SIEVE.RUNNING.RUNNING. -/
def SIEVE.RUNNING_RUNNING : Fld := fF 0x110 7 0 0 .ro

/-- SIEVE.CTRL.ABORT. -/
def SIEVE.CTRL_ABORT : Fld := fF 0x200 2 2 0 .wo [(16, 1024)]

/-- SIEVE.CTRL.LAUNCH. -/
def SIEVE.CTRL_LAUNCH : Fld := fF 0x200 1 1 0 .wo [(16, 1024)]

/-- SIEVE.CTRL.LOAD. -/
def SIEVE.CTRL_LOAD : Fld := fF 0x200 0 0 0 .wo [(16, 1024)]

/-- SIEVE.STATUS.REFUSE. -/
def SIEVE.STATUS_REFUSE : Fld := fF 0x204 31 28 0 .ro [(16, 1024)]

/-- SIEVE.STATUS.IMG_ERR. -/
def SIEVE.STATUS_IMG_ERR : Fld := fF 0x204 27 24 0 .ro [(16, 1024)]

/-- SIEVE.STATUS.FAIL_CODE. -/
def SIEVE.STATUS_FAIL_CODE : Fld := fF 0x204 23 16 0 .ro [(16, 1024)]

/-- SIEVE.STATUS.FAIL_TILE. -/
def SIEVE.STATUS_FAIL_TILE : Fld := fF 0x204 13 8 0 .ro [(16, 1024)]

/-- SIEVE.STATUS.STATE. -/
def SIEVE.STATUS_STATE : Fld := fF 0x204 2 0 0 .ro [(16, 1024)]

/-- SIEVE.CFG.COLLECTOR. -/
def SIEVE.CFG_COLLECTOR : Fld := fF 0x208 31 22 0 .rw [(16, 1024)]

/-- SIEVE.CFG.CHIP. -/
def SIEVE.CFG_CHIP : Fld := fF 0x208 21 16 0 .rw [(16, 1024)]

/-- SIEVE.CFG.CHIPS_M1. -/
def SIEVE.CFG_CHIPS_M1 : Fld := fF 0x208 13 8 0 .rw [(16, 1024)]

/-- SIEVE.CFG.MODE. -/
def SIEVE.CFG_MODE : Fld := fF 0x208 0 0 0 .rw [(16, 1024)]

/-- SIEVE.IMAGE_LO.ADDR. -/
def SIEVE.IMAGE_LO_ADDR : Fld := fF 0x20c 31 0 0 .rw [(16, 1024)]

/-- SIEVE.IMAGE_HI.ADDR. -/
def SIEVE.IMAGE_HI_ADDR : Fld := fF 0x210 5 0 0 .rw [(16, 1024)]

/-- SIEVE.SEED.SEED. -/
def SIEVE.SEED_SEED : Fld := fF 0x214 31 0 0 .rw [(16, 1024), (4, 32)]

/-- SIEVE.STREAM.STREAM. -/
def SIEVE.STREAM_STREAM : Fld := fF 0x224 31 0 0 .rw [(16, 1024)]

/-- SIEVE.STEP_BASE_LO.BASE. -/
def SIEVE.STEP_BASE_LO_BASE : Fld := fF 0x228 31 0 0 .rw [(16, 1024)]

/-- SIEVE.STEP_BASE_HI.BASE. -/
def SIEVE.STEP_BASE_HI_BASE : Fld := fF 0x22c 31 0 0 .rw [(16, 1024)]

/-- SIEVE.ARG.ARG. -/
def SIEVE.ARG_ARG : Fld := fF 0x230 31 0 0 .rw [(16, 1024), (4, 32)]

/-- SIEVE.WEIGHTS_LO.ADDR. -/
def SIEVE.WEIGHTS_LO_ADDR : Fld := fF 0x240 31 0 0 .rw [(16, 1024)]

/-- SIEVE.WEIGHTS_HI.ADDR. -/
def SIEVE.WEIGHTS_HI_ADDR : Fld := fF 0x244 5 0 0 .rw [(16, 1024)]

/-- SIEVE.WEIGHTS_SIZE.SIZE. -/
def SIEVE.WEIGHTS_SIZE_SIZE : Fld := fF 0x248 31 0 0 .rw [(16, 1024)]

/-- SIEVE.IN_QUEUE.QUEUE. -/
def SIEVE.IN_QUEUE_QUEUE : Fld := fF 0x24c 7 0 0 .rw [(16, 1024)]

/-- SIEVE.RED_TMO.EXP. -/
def SIEVE.RED_TMO_EXP : Fld := fF 0x250 4 0 24 .rw [(16, 1024)]

/-- SIEVE.STEP_LO.STEP. -/
def SIEVE.STEP_LO_STEP : Fld := fF 0x254 31 0 0 .ro [(16, 1024)]

/-- SIEVE.STEP_HI.STEP. -/
def SIEVE.STEP_HI_STEP : Fld := fF 0x258 31 0 0 .ro [(16, 1024)]

/-- SIEVE.LAUNCH_SID_LO.T. -/
def SIEVE.LAUNCH_SID_LO_T : Fld := fF 0x25c 31 0 0 .ro [(16, 1024)]

/-- SIEVE.LAUNCH_SID_HI.T. -/
def SIEVE.LAUNCH_SID_HI_T : Fld := fF 0x260 31 0 0 .ro [(16, 1024)]

/-- SIEVE.IMG_INFO.LEAF_SRAM64. -/
def SIEVE.IMG_INFO_LEAF_SRAM64 : Fld := fF 0x264 31 16 0 .ro [(16, 1024)]

/-- SIEVE.IMG_INFO.CODE_SIZE8. -/
def SIEVE.IMG_INFO_CODE_SIZE8 : Fld := fF 0x264 15 0 0 .ro [(16, 1024)]

/-- SIEVE registers, part 1 (Table 10.12). -/
def SIEVE.table1 : List Fld :=
  [SIEVE.SLOT_OWNER_SLOT, SIEVE.HH_QUADS_N, SIEVE.RUNNING_RUNNING, SIEVE.CTRL_ABORT, SIEVE.CTRL_LAUNCH, SIEVE.CTRL_LOAD, SIEVE.STATUS_REFUSE, SIEVE.STATUS_IMG_ERR, SIEVE.STATUS_FAIL_CODE, SIEVE.STATUS_FAIL_TILE, SIEVE.STATUS_STATE, SIEVE.CFG_COLLECTOR, SIEVE.CFG_CHIP, SIEVE.CFG_CHIPS_M1, SIEVE.CFG_MODE, SIEVE.IMAGE_LO_ADDR, SIEVE.IMAGE_HI_ADDR, SIEVE.SEED_SEED, SIEVE.STREAM_STREAM, SIEVE.STEP_BASE_LO_BASE, SIEVE.STEP_BASE_HI_BASE, SIEVE.ARG_ARG, SIEVE.WEIGHTS_LO_ADDR, SIEVE.WEIGHTS_HI_ADDR]

/-- SIEVE registers, part 2 (Table 10.12). -/
def SIEVE.table2 : List Fld :=
  [SIEVE.WEIGHTS_SIZE_SIZE, SIEVE.IN_QUEUE_QUEUE, SIEVE.RED_TMO_EXP, SIEVE.STEP_LO_STEP, SIEVE.STEP_HI_STEP, SIEVE.LAUNCH_SID_LO_T, SIEVE.LAUNCH_SID_HI_T, SIEVE.IMG_INFO_LEAF_SRAM64, SIEVE.IMG_INFO_CODE_SIZE8]

/-- The SIEVE page's registers (Table 10.12). -/
def SIEVE.table : List Fld := SIEVE.table1 ++ SIEVE.table2

/-- Event HDR_PARITY of NOCR. -/
def NOCR.evHDR_PARITY : Ev := ⟨0, 1⟩

/-- Event DATA_PARITY of NOCR. -/
def NOCR.evDATA_PARITY : Ev := ⟨1, 2⟩

/-- Event BAD_HEADER of NOCR. -/
def NOCR.evBAD_HEADER : Ev := ⟨2, 3⟩

/-- Event CREDIT_ERR of NOCR. -/
def NOCR.evCREDIT_ERR : Ev := ⟨3, 4⟩

/-- Event VC_STALL of NOCR. -/
def NOCR.evVC_STALL : Ev := ⟨4, 5⟩

/-- NOCR.R_INFO.NODE. -/
def NOCR.R_INFO_NODE : Fld := fF 0x100 21 16 0 .ro

/-- NOCR.R_INFO.AGENTS. -/
def NOCR.R_INFO_AGENTS : Fld := fF 0x100 11 8 0 .ro

/-- NOCR.R_INFO.PORTS. -/
def NOCR.R_INFO_PORTS : Fld := fF 0x100 4 0 0 .ro

/-- NOCR.CREDITS.VC. -/
def NOCR.CREDITS_VC : Fld := fF 0x110 3 0 4 .ro [(5, 32), (6, 4)]

/-- NOCR.OCC.VC. -/
def NOCR.OCC_VC : Fld := fF 0x130 3 0 0 .ro [(5, 32), (6, 4)]

/-- NOCR.HWM.VC. -/
def NOCR.HWM_VC : Fld := fF 0x150 3 0 0 .rc [(5, 32), (6, 4)]

/-- NOCR.FLITS.COUNT. -/
def NOCR.FLITS_COUNT : Fld := fF 0x170 31 0 0 .rc [(5, 32)]

/-- NOCR.BLOCK.COUNT. -/
def NOCR.BLOCK_COUNT : Fld := fF 0x190 31 0 0 .rc [(5, 32)]

/-- NOCR.LOSE.COUNT. -/
def NOCR.LOSE_COUNT : Fld := fF 0x1b0 31 0 0 .rc [(5, 32)]

/-- NOCR.ERR_HDR.HDR. -/
def NOCR.ERR_HDR_HDR : Fld := fF 0x1d0 31 0 0 .ro [(4, 32)]

/-- NOCR.ERR_INFO.VALID. -/
def NOCR.ERR_INFO_VALID : Fld := fF 0x1e0 31 31 0 .w1c

/-- NOCR.ERR_INFO.INPORT. -/
def NOCR.ERR_INFO_INPORT : Fld := fF 0x1e0 18 16 0 .ro

/-- NOCR.ERR_INFO.VC. -/
def NOCR.ERR_INFO_VC : Fld := fF 0x1e0 10 8 0 .ro

/-- NOCR.ERR_INFO.CODE. -/
def NOCR.ERR_INFO_CODE : Fld := fF 0x1e0 3 0 0 .ro

/-- NOCR.ERRCNT.HDR_PARITY. -/
def NOCR.ERRCNT_HDR_PARITY : Fld := fF 0x1e4 31 24 0 .rc

/-- NOCR.ERRCNT.DATA_PARITY. -/
def NOCR.ERRCNT_DATA_PARITY : Fld := fF 0x1e4 23 16 0 .rc

/-- NOCR.ERRCNT.CREDIT_ERR. -/
def NOCR.ERRCNT_CREDIT_ERR : Fld := fF 0x1e4 15 8 0 .rc

/-- NOCR.ERRCNT.SB_CORRECTED. -/
def NOCR.ERRCNT_SB_CORRECTED : Fld := fF 0x1e4 7 0 0 .rc

/-- NOCR.STALL.INPORT. -/
def NOCR.STALL_INPORT : Fld := fF 0x1e8 18 16 0 .ro

/-- NOCR.STALL.VC. -/
def NOCR.STALL_VC : Fld := fF 0x1e8 10 8 0 .ro

/-- NOCR registers, part 1 (Table 11.16). -/
def NOCR.table1 : List Fld :=
  [NOCR.R_INFO_NODE, NOCR.R_INFO_AGENTS, NOCR.R_INFO_PORTS, NOCR.CREDITS_VC, NOCR.OCC_VC, NOCR.HWM_VC, NOCR.FLITS_COUNT, NOCR.BLOCK_COUNT, NOCR.LOSE_COUNT, NOCR.ERR_HDR_HDR, NOCR.ERR_INFO_VALID, NOCR.ERR_INFO_INPORT, NOCR.ERR_INFO_VC, NOCR.ERR_INFO_CODE, NOCR.ERRCNT_HDR_PARITY, NOCR.ERRCNT_DATA_PARITY, NOCR.ERRCNT_CREDIT_ERR, NOCR.ERRCNT_SB_CORRECTED, NOCR.STALL_INPORT, NOCR.STALL_VC]

/-- The NOCR page's registers (Table 11.16). -/
def NOCR.table : List Fld := NOCR.table1

/-- Event RSP_TIMEOUT of NOC. -/
def NOC.evRSP_TIMEOUT : Ev := ⟨0, 1⟩

/-- Event EVT_LATE of NOC. -/
def NOC.evEVT_LATE : Ev := ⟨1, 2⟩

/-- Event ORPHAN_RSP of NOC. -/
def NOC.evORPHAN_RSP : Ev := ⟨2, 3⟩

/-- Event POISON_RSP of NOC. -/
def NOC.evPOISON_RSP : Ev := ⟨3, 0⟩

/-- Event ROUTER_ERR of NOC. -/
def NOC.evROUTER_ERR : Ev := ⟨4, 0⟩

/-- NOC.MESH.EVT_BOUND. -/
def NOC.MESH_EVT_BOUND : Fld := fF 0x100 31 16 0 .ro

/-- NOC.MESH.H_MAX. -/
def NOC.MESH_H_MAX : Fld := fF 0x100 13 8 0 .ro

/-- NOC.MESH.COLUMNS. -/
def NOC.MESH_COLUMNS : Fld := fF 0x100 7 4 6 .ro

/-- NOC.MESH.ROWS. -/
def NOC.MESH_ROWS : Fld := fF 0x100 3 0 5 .ro

/-- NOC.TIMED_REG.BURST. -/
def NOC.TIMED_REG_BURST : Fld := (fF 0x104 27 24 8 .rw).locked

/-- NOC.TIMED_REG.GAP. -/
def NOC.TIMED_REG_GAP : Fld := (fF 0x104 15 0 16 .rw).locked

/-- NOC.RSP_TMO.LATE. -/
def NOC.RSP_TMO_LATE : Fld := fF 0x108 31 16 0 .rc

/-- NOC.RSP_TMO.EXP. -/
def NOC.RSP_TMO_EXP : Fld := (fF 0x108 4 0 18 .rw).locked

/-- NOC.STALL_LIMIT.BEATS. -/
def NOC.STALL_LIMIT_BEATS : Fld := fF 0x10c 15 0 65535 .rw

/-- NOC.EVT_LATE_COUNT.COUNT. -/
def NOC.EVT_LATE_COUNT_COUNT : Fld := fF 0x110 15 0 0 .rc

/-- NOC.EVT_LAT_MAX.BEATS. -/
def NOC.EVT_LAT_MAX_BEATS : Fld := fF 0x114 15 0 0 .rc

/-- NOC.RSP_TMO_INFO.VALID. -/
def NOC.RSP_TMO_INFO_VALID : Fld := fF 0x118 31 31 0 .w1c

/-- NOC.RSP_TMO_INFO.DST. -/
def NOC.RSP_TMO_INFO_DST : Fld := fF 0x118 29 24 0 .ro

/-- NOC.RSP_TMO_INFO.REQ. -/
def NOC.RSP_TMO_INFO_REQ : Fld := fF 0x118 21 16 0 .ro

/-- NOC.RSP_TMO_INFO.AGENT. -/
def NOC.RSP_TMO_INFO_AGENT : Fld := fF 0x118 15 13 0 .ro

/-- NOC.RSP_TMO_INFO.TAG. -/
def NOC.RSP_TMO_INFO_TAG : Fld := fF 0x118 7 0 0 .ro

/-- NOC.RSP_TMO_COUNT.COUNT. -/
def NOC.RSP_TMO_COUNT_COUNT : Fld := fF 0x11c 15 0 0 .rc

/-- NOC.QUARANTINED.SLOTS. -/
def NOC.QUARANTINED_SLOTS : Fld := fF 0x120 15 0 0 .ro

/-- NOC.ORPHAN_INFO.VALID. -/
def NOC.ORPHAN_INFO_VALID : Fld := fF 0x124 31 31 0 .w1c

/-- NOC.ORPHAN_INFO.SRC. -/
def NOC.ORPHAN_INFO_SRC : Fld := fF 0x124 21 16 0 .ro

/-- NOC.ORPHAN_INFO.DST. -/
def NOC.ORPHAN_INFO_DST : Fld := fF 0x124 13 8 0 .ro

/-- NOC.ORPHAN_INFO.TAG. -/
def NOC.ORPHAN_INFO_TAG : Fld := fF 0x124 7 0 0 .ro

/-- NOC.ORPHAN_COUNT.COUNT. -/
def NOC.ORPHAN_COUNT_COUNT : Fld := fF 0x128 15 0 0 .rc

/-- NOC.POISON_RSP_COUNT.COUNT. -/
def NOC.POISON_RSP_COUNT_COUNT : Fld := fF 0x12c 15 0 0 .rc

/-- NOC.ROUTER_ERR_MAP.MAP. -/
def NOC.ROUTER_ERR_MAP_MAP : Fld := fF 0x130 29 0 0 .ro

/-- NOC.THROTTLE.BEATS. -/
def NOC.THROTTLE_BEATS : Fld := fF 0x134 31 0 0 .rc

/-- NOC.CNT_CTRL.CLEAR_ALL. -/
def NOC.CNT_CTRL_CLEAR_ALL : Fld := fF 0x138 1 1 0 .wo

/-- NOC.CNT_CTRL.FREEZE. -/
def NOC.CNT_CTRL_FREEZE : Fld := fF 0x138 0 0 0 .rw

/-- NOC.NODE_MAP.FIRST. -/
def NOC.NODE_MAP_FIRST : Fld := fF 0x140 15 8 0 .ro [(40, 32)]

/-- NOC.NODE_MAP.UNIT. -/
def NOC.NODE_MAP_UNIT : Fld := fF 0x140 7 0 0 .ro [(40, 32)]

/-- NOC registers, part 1 (Table 11.18). -/
def NOC.table1 : List Fld :=
  [NOC.MESH_EVT_BOUND, NOC.MESH_H_MAX, NOC.MESH_COLUMNS, NOC.MESH_ROWS, NOC.TIMED_REG_BURST, NOC.TIMED_REG_GAP, NOC.RSP_TMO_LATE, NOC.RSP_TMO_EXP, NOC.STALL_LIMIT_BEATS, NOC.EVT_LATE_COUNT_COUNT, NOC.EVT_LAT_MAX_BEATS, NOC.RSP_TMO_INFO_VALID, NOC.RSP_TMO_INFO_DST, NOC.RSP_TMO_INFO_REQ, NOC.RSP_TMO_INFO_AGENT, NOC.RSP_TMO_INFO_TAG, NOC.RSP_TMO_COUNT_COUNT, NOC.QUARANTINED_SLOTS, NOC.ORPHAN_INFO_VALID, NOC.ORPHAN_INFO_SRC, NOC.ORPHAN_INFO_DST, NOC.ORPHAN_INFO_TAG, NOC.ORPHAN_COUNT_COUNT, NOC.POISON_RSP_COUNT_COUNT]

/-- NOC registers, part 2 (Table 11.18). -/
def NOC.table2 : List Fld :=
  [NOC.ROUTER_ERR_MAP_MAP, NOC.THROTTLE_BEATS, NOC.CNT_CTRL_CLEAR_ALL, NOC.CNT_CTRL_FREEZE, NOC.NODE_MAP_FIRST, NOC.NODE_MAP_UNIT]

/-- The NOC page's registers (Table 11.18). -/
def NOC.table : List Fld := NOC.table1 ++ NOC.table2

/-- Event QPTR_MISMATCH of QE. -/
def QE.evQPTR_MISMATCH : Ev := ⟨0, 1⟩

/-- Event SPILL_TAG_ERR of QE. -/
def QE.evSPILL_TAG_ERR : Ev := ⟨1, 2⟩

/-- Event SPILL_ERR of QE. -/
def QE.evSPILL_ERR : Ev := ⟨2, 3⟩

/-- QE.Q_OWNER.QUEUE. -/
def QE.Q_OWNER_QUEUE : Fld := (fF 0x100 3 0 15 .rw [(256, 4)]).byMgr

/-- QE.QE_CFG.ITEM_TMO. -/
def QE.QE_CFG_ITEM_TMO : Fld := (fF 0x180 4 0 24 .rw).locked

/-- QE.SPILL_BUDGET.BYTES. -/
def QE.SPILL_BUDGET_BYTES : Fld := fF 0x184 31 0 0 .ro

/-- QE.SPILL_TOTAL.BYTES. -/
def QE.SPILL_TOTAL_BYTES : Fld := fF 0x188 31 0 0 .ro

/-- QE.QPTR_INFO.VALID. -/
def QE.QPTR_INFO_VALID : Fld := fF 0x18c 31 31 0 .w1c

/-- QE.QPTR_INFO.QUEUE. -/
def QE.QPTR_INFO_QUEUE : Fld := fF 0x18c 7 0 0 .ro

/-- QE.QPTR_COUNT.COUNT. -/
def QE.QPTR_COUNT_COUNT : Fld := fF 0x190 15 0 0 .rc

/-- QE.SPILL_ERR_INFO.VALID. -/
def QE.SPILL_ERR_INFO_VALID : Fld := fF 0x194 31 31 0 .w1c

/-- QE.SPILL_ERR_INFO.STATUS. -/
def QE.SPILL_ERR_INFO_STATUS : Fld := fF 0x194 19 16 0 .ro

/-- QE.SPILL_ERR_INFO.QUEUE. -/
def QE.SPILL_ERR_INFO_QUEUE : Fld := fF 0x194 7 0 0 .ro

/-- QE.SPILL_EXCESS.BYTES. -/
def QE.SPILL_EXCESS_BYTES : Fld := fF 0x198 31 0 0 .rc

/-- QE registers, part 1 (Table 12.11). -/
def QE.table1 : List Fld :=
  [QE.Q_OWNER_QUEUE, QE.QE_CFG_ITEM_TMO, QE.SPILL_BUDGET_BYTES, QE.SPILL_TOTAL_BYTES, QE.QPTR_INFO_VALID, QE.QPTR_INFO_QUEUE, QE.QPTR_COUNT_COUNT, QE.SPILL_ERR_INFO_VALID, QE.SPILL_ERR_INFO_STATUS, QE.SPILL_ERR_INFO_QUEUE, QE.SPILL_EXCESS_BYTES]

/-- The QE page's registers (Table 12.11). -/
def QE.table : List Fld := QE.table1

/-- Event ITEM_LOST of QEH. -/
def QEH.evITEM_LOST : Ev := ⟨0, 1⟩

/-- Event ITEM_ABANDONED of QEH. -/
def QEH.evITEM_ABANDONED : Ev := ⟨1, 0⟩

/-- Event PUSH_REFUSED of QEH. -/
def QEH.evPUSH_REFUSED : Ev := ⟨2, 3⟩

/-- Event POISON_POP of QEH. -/
def QEH.evPOISON_POP : Ev := ⟨3, 4⟩

/-- Event MARK_LOST of QEH. -/
def QEH.evMARK_LOST : Ev := ⟨4, 5⟩

/-- Event QPTR_MISMATCH of QEH. -/
def QEH.evQPTR_MISMATCH : Ev := ⟨5, 6⟩

/-- Event Q_THRESH of QEH. -/
def QEH.evQ_THRESH : Ev := ⟨6, 0⟩

/-- Event ENABLE_REFUSED of QEH. -/
def QEH.evENABLE_REFUSED : Ev := ⟨7, 8⟩

/-- Event CFG_REFUSED of QEH. -/
def QEH.evCFG_REFUSED : Ev := ⟨8, 9⟩

/-- Event LOOP_PINNED of QEH. -/
def QEH.evLOOP_PINNED : Ev := ⟨9, 10⟩

/-- QEH.HH_NONEMPTY.MAP. -/
def QEH.HH_NONEMPTY_MAP : Fld := fF 0x100 31 0 0 .ro

/-- QEH.HH_LOST.MAP. -/
def QEH.HH_LOST_MAP : Fld := fF 0x104 31 0 0 .w1c

/-- QEH.HH_THRESH.MAP. -/
def QEH.HH_THRESH_MAP : Fld := fF 0x108 31 0 0 .ro

/-- QEH.ERR_QUEUE.INDEX. -/
def QEH.ERR_QUEUE_INDEX : Fld := fF 0x10c 4 0 0 .ro

/-- QEH.Q_CFG.EN. -/
def QEH.Q_CFG_EN : Fld := fF 0x200 31 31 0 .rw [(32, 512)]

/-- QEH.Q_CFG.FULL_MODE. -/
def QEH.Q_CFG_FULL_MODE : Fld := fF 0x200 30 30 0 .rw [(32, 512)]

/-- QEH.Q_CFG.ADAPT_EN. -/
def QEH.Q_CFG_ADAPT_EN : Fld := fF 0x200 29 29 1 .rw [(32, 512)]

/-- QEH.Q_CFG.SPILL_SIZE. -/
def QEH.Q_CFG_SPILL_SIZE : Fld := (fF 0x200 27 24 0 .rw [(32, 512)]).byMgr

/-- QEH.SPILL_BASE_LO.BASE. -/
def QEH.SPILL_BASE_LO_BASE : Fld := (fF 0x204 31 0 0 .rw [(32, 512)]).byMgr

/-- QEH.SPILL_BASE_HI.BASE. -/
def QEH.SPILL_BASE_HI_BASE : Fld := (fF 0x208 5 0 0 .rw [(32, 512)]).byMgr

/-- QEH.SPILL_RATE.RATE. -/
def QEH.SPILL_RATE_RATE : Fld := (fF 0x20c 31 0 0 .rw [(32, 512)]).byMgr

/-- QEH.SPILL_WM.WM. -/
def QEH.SPILL_WM_WM : Fld := fF 0x210 4 0 12 .rw [(32, 512)]

/-- QEH.SPILL_ENV.MAX. -/
def QEH.SPILL_ENV_MAX : Fld := fF 0x214 12 8 16 .rw [(32, 512)]

/-- QEH.SPILL_ENV.MIN. -/
def QEH.SPILL_ENV_MIN : Fld := fF 0x214 4 0 7 .rw [(32, 512)]

/-- QEH.THRESH.WORDS. -/
def QEH.THRESH_WORDS : Fld := fF 0x218 22 0 8388607 .rw [(32, 512)]

/-- QEH.CTRL.RELEASE. -/
def QEH.CTRL_RELEASE : Fld := fF 0x21c 3 3 0 .wo [(32, 512)]

/-- QEH.CTRL.REWIND. -/
def QEH.CTRL_REWIND : Fld := fF 0x21c 2 2 0 .wo [(32, 512)]

/-- QEH.CTRL.MARK. -/
def QEH.CTRL_MARK : Fld := fF 0x21c 1 1 0 .wo [(32, 512)]

/-- QEH.CTRL.FLUSH. -/
def QEH.CTRL_FLUSH : Fld := fF 0x21c 0 0 0 .wo [(32, 512)]

/-- QEH.LEVEL.WORDS. -/
def QEH.LEVEL_WORDS : Fld := fF 0x220 22 0 0 .ro [(32, 512)]

/-- QEH.ITEMS.COUNT. -/
def QEH.ITEMS_COUNT : Fld := fF 0x224 22 0 0 .ro [(32, 512)]

/-- QEH.USED.WORDS. -/
def QEH.USED_WORDS : Fld := fF 0x228 22 0 0 .ro [(32, 512)]

/-- QEH.STATUS.ENABLED. -/
def QEH.STATUS_ENABLED : Fld := fF 0x22c 31 31 0 .ro [(32, 512)]

/-- QEH.STATUS.OPEN. -/
def QEH.STATUS_OPEN : Fld := fF 0x22c 30 30 0 .ro [(32, 512)]

/-- QEH.STATUS.DISCARDING. -/
def QEH.STATUS_DISCARDING : Fld := fF 0x22c 29 29 0 .ro [(32, 512)]

/-- QEH.STATUS.MARKED. -/
def QEH.STATUS_MARKED : Fld := fF 0x22c 28 28 0 .ro [(32, 512)]

/-- QEH.STATUS.HELD. -/
def QEH.STATUS_HELD : Fld := fF 0x22c 27 27 0 .ro [(32, 512)]

/-- QEH.STATUS.SPILLING. -/
def QEH.STATUS_SPILLING : Fld := fF 0x22c 26 26 0 .ro [(32, 512)]

/-- QEH.STATUS.REFUSE. -/
def QEH.STATUS_REFUSE : Fld := fF 0x22c 19 16 0 .ro [(32, 512)]

/-- QEH.STATUS.OPEN_WORDS. -/
def QEH.STATUS_OPEN_WORDS : Fld := fF 0x22c 10 0 0 .ro [(32, 512)]

/-- QEH.PUSH_STATUS.S. -/
def QEH.PUSH_STATUS_S : Fld := fF 0x230 31 0 0 .ro [(32, 512)]

/-- QEH.LOST_ITEMS.COUNT. -/
def QEH.LOST_ITEMS_COUNT : Fld := fF 0x234 31 0 0 .rc [(32, 512)]

/-- QEH.FLUSH_DISCARD_WORDS.COUNT. -/
def QEH.FLUSH_DISCARD_WORDS_COUNT : Fld := fF 0x238 31 0 0 .rc [(32, 512)]

/-- QEH.COUNTS.REFUSED. -/
def QEH.COUNTS_REFUSED : Fld := fF 0x23c 31 16 0 .rc [(32, 512)]

/-- QEH.COUNTS.ABANDONED. -/
def QEH.COUNTS_ABANDONED : Fld := fF 0x23c 15 0 0 .rc [(32, 512)]

/-- QEH registers, part 1 (Table 12.12). -/
def QEH.table1 : List Fld :=
  [QEH.HH_NONEMPTY_MAP, QEH.HH_LOST_MAP, QEH.HH_THRESH_MAP, QEH.ERR_QUEUE_INDEX, QEH.Q_CFG_EN, QEH.Q_CFG_FULL_MODE, QEH.Q_CFG_ADAPT_EN, QEH.Q_CFG_SPILL_SIZE, QEH.SPILL_BASE_LO_BASE, QEH.SPILL_BASE_HI_BASE, QEH.SPILL_RATE_RATE, QEH.SPILL_WM_WM, QEH.SPILL_ENV_MAX, QEH.SPILL_ENV_MIN, QEH.THRESH_WORDS, QEH.CTRL_RELEASE, QEH.CTRL_REWIND, QEH.CTRL_MARK, QEH.CTRL_FLUSH, QEH.LEVEL_WORDS, QEH.ITEMS_COUNT, QEH.USED_WORDS, QEH.STATUS_ENABLED, QEH.STATUS_OPEN]

/-- QEH registers, part 2 (Table 12.12). -/
def QEH.table2 : List Fld :=
  [QEH.STATUS_DISCARDING, QEH.STATUS_MARKED, QEH.STATUS_HELD, QEH.STATUS_SPILLING, QEH.STATUS_REFUSE, QEH.STATUS_OPEN_WORDS, QEH.PUSH_STATUS_S, QEH.LOST_ITEMS_COUNT, QEH.FLUSH_DISCARD_WORDS_COUNT, QEH.COUNTS_REFUSED, QEH.COUNTS_ABANDONED]

/-- The QEH page's registers (Table 12.12). -/
def QEH.table : List Fld := QEH.table1 ++ QEH.table2

/-- Event BIND_REFUSED of SCH. -/
def SCH.evBIND_REFUSED : Ev := ⟨0, 1⟩

/-- Event RATE_REFUSED of SCH. -/
def SCH.evRATE_REFUSED : Ev := ⟨1, 2⟩

/-- Event BIND_LOCKED of SCH. -/
def SCH.evBIND_LOCKED : Ev := ⟨2, 3⟩

/-- Event EGRESS_ERR of SCH. -/
def SCH.evEGRESS_ERR : Ev := ⟨3, 4⟩

/-- Event POISON_TX of SCH. -/
def SCH.evPOISON_TX : Ev := ⟨4, 0⟩

/-- Event SOJOURN_HIGH of SCH. -/
def SCH.evSOJOURN_HIGH : Ev := ⟨5, 0⟩

/-- SCH.BIND.DRAM_TOUCH. -/
def SCH.BIND_DRAM_TOUCH : Fld := (fF 0x100 31 31 0 .rw [(64, 384)]).byMgr

/-- SCH.BIND.CLASS. -/
def SCH.BIND_CLASS : Fld := (fF 0x100 29 29 0 .rw [(64, 384)]).byMgr

/-- SCH.BIND.QUEUE. -/
def SCH.BIND_QUEUE : Fld := (fF 0x100 7 0 0 .rw [(64, 384)]).byMgr

/-- SCH.SLOT_CTRL.EN. -/
def SCH.SLOT_CTRL_EN : Fld := fF 0x104 31 31 0 .rw [(64, 384)]

/-- SCH.SLOT_CTRL.SOJ_LIMIT. -/
def SCH.SLOT_CTRL_SOJ_LIMIT : Fld := fF 0x104 27 16 0 .rw [(64, 384)]

/-- SCH.SLOT_CTRL.QUANTUM. -/
def SCH.SLOT_CTRL_QUANTUM : Fld := fF 0x104 15 0 8192 .rw [(64, 384)]

/-- SCH.CIR_LO.CIR. -/
def SCH.CIR_LO_CIR : Fld := (fF 0x108 31 0 0 .sh [(64, 384)]).byMgr

/-- SCH.PIR_LO.PIR. -/
def SCH.PIR_LO_PIR : Fld := (fF 0x10c 31 0 0 .sh [(64, 384)]).byMgr

/-- SCH.RATE_HI.CHG_MODE. -/
def SCH.RATE_HI_CHG_MODE : Fld := (fF 0x110 29 28 0 .sh [(64, 384)]).byMgr

/-- SCH.RATE_HI.PIR. -/
def SCH.RATE_HI_PIR : Fld := (fF 0x110 23 16 0 .sh [(64, 384)]).byMgr

/-- SCH.RATE_HI.CIR. -/
def SCH.RATE_HI_CIR : Fld := (fF 0x110 7 0 0 .sh [(64, 384)]).byMgr

/-- SCH.CBS.BYTES. -/
def SCH.CBS_BYTES : Fld := (fF 0x114 24 0 0 .sh [(64, 384)]).byMgr

/-- SCH.PBS.BYTES. -/
def SCH.PBS_BYTES : Fld := (fF 0x118 24 0 0 .sh [(64, 384)]).byMgr

/-- SCH.TOK_C.TOK. -/
def SCH.TOK_C_TOK : Fld := fF 0x11c 31 0 0 .ro [(64, 384)]

/-- SCH.TOK_P.TOK. -/
def SCH.TOK_P_TOK : Fld := fF 0x120 31 0 0 .ro [(64, 384)]

/-- SCH.STATE.WHERE. -/
def SCH.STATE_WHERE : Fld := fF 0x124 31 29 0 .ro [(64, 384)]

/-- SCH.STATE.REFUSE. -/
def SCH.STATE_REFUSE : Fld := fF 0x124 27 24 0 .ro [(64, 384)]

/-- SCH.STATE.DEFICIT. -/
def SCH.STATE_DEFICIT : Fld := fF 0x124 16 0 0 .ro [(64, 384)]

/-- SCH.DEPTH_HWM.WORDS. -/
def SCH.DEPTH_HWM_WORDS : Fld := fF 0x128 22 0 0 .rc [(64, 384)]

/-- SCH.SOJOURN_HWM.ST. -/
def SCH.SOJOURN_HWM_ST : Fld := fF 0x12c 31 0 0 .rc [(64, 384)]

/-- SCH.SLOT_OWNER.SLOT. -/
def SCH.SLOT_OWNER_SLOT : Fld := (fF 0xd00 3 0 15 .rw [(64, 4)]).byMgr

/-- SCH.SCH_CFG.OVH. -/
def SCH.SCH_CFG_OVH : Fld := fF 0xd20 15 8 0 .ro

/-- SCH.SCH_CFG.REFILL_EXP. -/
def SCH.SCH_CFG_REFILL_EXP : Fld := (fF 0xd20 4 0 10 .rw).locked

/-- SCH.PORT_CIR_MAX.BYTES. -/
def SCH.PORT_CIR_MAX_BYTES : Fld := (fF 0xd24 23 0 204800 .rw).locked

/-- SCH.CIR_TOTAL.BYTES. -/
def SCH.CIR_TOTAL_BYTES : Fld := fF 0xd28 23 0 0 .ro

/-- SCH.DRAM_USE.BYTES. -/
def SCH.DRAM_USE_BYTES : Fld := fF 0xd2c 23 0 0 .ro

/-- SCH.BACKLOG_LO.MAP. -/
def SCH.BACKLOG_LO_MAP : Fld := fF 0xd30 31 0 0 .ro

/-- SCH.BACKLOG_HI.MAP. -/
def SCH.BACKLOG_HI_MAP : Fld := fF 0xd34 31 0 0 .ro

/-- SCH.GREEN_BYTES_LO.COUNT. -/
def SCH.GREEN_BYTES_LO_COUNT : Fld := fF 0xd38 31 0 0 .rc

/-- SCH.GREEN_BYTES_HI.COUNT. -/
def SCH.GREEN_BYTES_HI_COUNT : Fld := fF 0xd3c 31 0 0 .rc

/-- SCH.YELLOW_BYTES_LO.COUNT. -/
def SCH.YELLOW_BYTES_LO_COUNT : Fld := fF 0xd40 31 0 0 .rc

/-- SCH.YELLOW_BYTES_HI.COUNT. -/
def SCH.YELLOW_BYTES_HI_COUNT : Fld := fF 0xd44 31 0 0 .rc

/-- SCH.ERR_INFO.VALID. -/
def SCH.ERR_INFO_VALID : Fld := fF 0xd48 31 31 0 .w1c

/-- SCH.ERR_INFO.STATUS. -/
def SCH.ERR_INFO_STATUS : Fld := fF 0xd48 23 16 0 .ro

/-- SCH.ERR_INFO.SLOT. -/
def SCH.ERR_INFO_SLOT : Fld := fF 0xd48 5 0 0 .ro

/-- SCH.POISON_TX_COUNT.COUNT. -/
def SCH.POISON_TX_COUNT_COUNT : Fld := fF 0xd4c 15 0 0 .rc

/-- SCH registers, part 1 (Table 13.9). -/
def SCH.table1 : List Fld :=
  [SCH.BIND_DRAM_TOUCH, SCH.BIND_CLASS, SCH.BIND_QUEUE, SCH.SLOT_CTRL_EN, SCH.SLOT_CTRL_SOJ_LIMIT, SCH.SLOT_CTRL_QUANTUM, SCH.CIR_LO_CIR, SCH.PIR_LO_PIR, SCH.RATE_HI_CHG_MODE, SCH.RATE_HI_PIR, SCH.RATE_HI_CIR, SCH.CBS_BYTES, SCH.PBS_BYTES, SCH.TOK_C_TOK, SCH.TOK_P_TOK, SCH.STATE_WHERE, SCH.STATE_REFUSE, SCH.STATE_DEFICIT, SCH.DEPTH_HWM_WORDS, SCH.SOJOURN_HWM_ST, SCH.SLOT_OWNER_SLOT, SCH.SCH_CFG_OVH, SCH.SCH_CFG_REFILL_EXP, SCH.PORT_CIR_MAX_BYTES]

/-- SCH registers, part 2 (Table 13.9). -/
def SCH.table2 : List Fld :=
  [SCH.CIR_TOTAL_BYTES, SCH.DRAM_USE_BYTES, SCH.BACKLOG_LO_MAP, SCH.BACKLOG_HI_MAP, SCH.GREEN_BYTES_LO_COUNT, SCH.GREEN_BYTES_HI_COUNT, SCH.YELLOW_BYTES_LO_COUNT, SCH.YELLOW_BYTES_HI_COUNT, SCH.ERR_INFO_VALID, SCH.ERR_INFO_STATUS, SCH.ERR_INFO_SLOT, SCH.POISON_TX_COUNT_COUNT]

/-- The SCH page's registers (Table 13.9). -/
def SCH.table : List Fld := SCH.table1 ++ SCH.table2

/-- Event YELLOW_DROP of POL. -/
def POL.evYELLOW_DROP : Ev := ⟨0, 0⟩

/-- Event RED_DROP of POL. -/
def POL.evRED_DROP : Ev := ⟨1, 0⟩

/-- POL.POL_CFG.REFILL_EXP. -/
def POL.POL_CFG_REFILL_EXP : Fld := (fF 0x100 4 0 10 .rw).locked

/-- POL.POL_OWNER.HH. -/
def POL.POL_OWNER_HH : Fld := (fF 0x104 3 0 15 .rw [(8, 4)]).byMgr

/-- POL.CIR_LO.CIR. -/
def POL.CIR_LO_CIR : Fld := fF 0x200 31 0 0 .sh [(8, 512)]

/-- POL.PIR_LO.PIR. -/
def POL.PIR_LO_PIR : Fld := fF 0x204 31 0 0 .sh [(8, 512)]

/-- POL.RATE_HI.PIR. -/
def POL.RATE_HI_PIR : Fld := fF 0x208 23 16 0 .sh [(8, 512)]

/-- POL.RATE_HI.CIR. -/
def POL.RATE_HI_CIR : Fld := fF 0x208 7 0 0 .sh [(8, 512)]

/-- POL.CBS.BYTES. -/
def POL.CBS_BYTES : Fld := fF 0x20c 24 0 0 .sh [(8, 512)]

/-- POL.PBS.BYTES. -/
def POL.PBS_BYTES : Fld := fF 0x210 24 0 0 .sh [(8, 512)]

/-- POL.CTRL.EN. -/
def POL.CTRL_EN : Fld := fF 0x214 31 31 0 .rw [(8, 512)]

/-- POL.CTRL.RED. -/
def POL.CTRL_RED : Fld := fF 0x214 1 1 1 .rw [(8, 512)]

/-- POL.CTRL.YELLOW. -/
def POL.CTRL_YELLOW : Fld := fF 0x214 0 0 0 .rw [(8, 512)]

/-- POL.TOK_C.TOK. -/
def POL.TOK_C_TOK : Fld := fF 0x218 31 0 0 .ro [(8, 512)]

/-- POL.TOK_P.TOK. -/
def POL.TOK_P_TOK : Fld := fF 0x21c 31 0 0 .ro [(8, 512)]

/-- POL.FRAMES.COUNT. -/
def POL.FRAMES_COUNT : Fld := fF 0x220 31 0 0 .rc [(8, 512), (3, 32)]

/-- POL.BYTES.COUNT. -/
def POL.BYTES_COUNT : Fld := fF 0x22c 31 0 0 .rc [(8, 512), (3, 32)]

/-- POL registers, part 1 (Table 13.10). -/
def POL.table1 : List Fld :=
  [POL.POL_CFG_REFILL_EXP, POL.POL_OWNER_HH, POL.CIR_LO_CIR, POL.PIR_LO_PIR, POL.RATE_HI_PIR, POL.RATE_HI_CIR, POL.CBS_BYTES, POL.PBS_BYTES, POL.CTRL_EN, POL.CTRL_RED, POL.CTRL_YELLOW, POL.TOK_C_TOK, POL.TOK_P_TOK, POL.FRAMES_COUNT, POL.BYTES_COUNT]

/-- The POL page's registers (Table 13.10). -/
def POL.table : List Fld := POL.table1

/-- Event OVERSUBSCRIBED of DRAMADM. -/
def DRAMADM.evOVERSUBSCRIBED : Ev := ⟨0, 1⟩

/-- Event ADM_REFUSED of DRAMADM. -/
def DRAMADM.evADM_REFUSED : Ev := ⟨1, 2⟩

/-- Event GUARANTEE_SHORTFALL of DRAMADM. -/
def DRAMADM.evGUARANTEE_SHORTFALL : Ev := ⟨2, 3⟩

/-- Event COMMIT_DONE of DRAMADM. -/
def DRAMADM.evCOMMIT_DONE : Ev := ⟨3, 0⟩

/-- Event LOOP_PINNED of DRAMADM. -/
def DRAMADM.evLOOP_PINNED : Ev := ⟨4, 5⟩

/-- DRAMADM.ADM_CTRL.VIEW. -/
def DRAMADM.ADM_CTRL_VIEW : Fld := fF 0x100 1 1 0 .rw

/-- DRAMADM.ADM_CTRL.COMMIT. -/
def DRAMADM.ADM_CTRL_COMMIT : Fld := fF 0x100 0 0 0 .wo

/-- DRAMADM.ADM_STATUS.CAUSE. -/
def DRAMADM.ADM_STATUS_CAUSE : Fld := fF 0x104 31 28 0 .ro

/-- DRAMADM.ADM_STATUS.SHORT_BY. -/
def DRAMADM.ADM_STATUS_SHORT_BY : Fld := fF 0x104 23 0 0 .ro

/-- DRAMADM.PEAK.BYTES. -/
def DRAMADM.PEAK_BYTES : Fld := fF 0x108 23 0 0 .ro

/-- DRAMADM.BUDGET.BYTES. -/
def DRAMADM.BUDGET_BYTES : Fld := fF 0x10c 23 0 0 .ro

/-- DRAMADM.HOT_RANGE.HOT. -/
def DRAMADM.HOT_RANGE_HOT : Fld := fF 0x110 0 0 1 .rw

/-- DRAMADM.SPILL_RES.BYTES. -/
def DRAMADM.SPILL_RES_BYTES : Fld := fF 0x114 23 0 0 .rw

/-- DRAMADM.EGRESS_RES.BYTES. -/
def DRAMADM.EGRESS_RES_BYTES : Fld := fF 0x118 23 0 0 .rw [(5, 32)]

/-- DRAMADM.TILE_RES.BYTES. -/
def DRAMADM.TILE_RES_BYTES : Fld := fF 0x12c 23 0 0 .rw [(8, 32)]

/-- DRAMADM.SHORTFALL.BYTES. -/
def DRAMADM.SHORTFALL_BYTES : Fld := fF 0x150 23 0 0 .ro

/-- DRAMADM.SHORT_MAX.BYTES. -/
def DRAMADM.SHORT_MAX_BYTES : Fld := fF 0x154 23 0 0 .rc

/-- DRAMADM.SHORT_CAUSE.THROTTLE. -/
def DRAMADM.SHORT_CAUSE_THROTTLE : Fld := fF 0x158 2 2 0 .ro

/-- DRAMADM.SHORT_CAUSE.ECC_RETRY. -/
def DRAMADM.SHORT_CAUSE_ECC_RETRY : Fld := fF 0x158 1 1 0 .ro

/-- DRAMADM.SHORT_CAUSE.REFRESH_2X. -/
def DRAMADM.SHORT_CAUSE_REFRESH_2X : Fld := fF 0x158 0 0 0 .ro

/-- DRAMADM.REF_AHEAD.AHEAD. -/
def DRAMADM.REF_AHEAD_AHEAD : Fld := fF 0x15c 3 0 0 .rw

/-- DRAMADM.REF_ENV.MAX. -/
def DRAMADM.REF_ENV_MAX : Fld := fF 0x160 11 8 8 .rw

/-- DRAMADM.REF_ENV.MIN. -/
def DRAMADM.REF_ENV_MIN : Fld := fF 0x160 3 0 0 .rw

/-- DRAMADM.ADM_ADAPT.ADAPT_EN. -/
def DRAMADM.ADM_ADAPT_ADAPT_EN : Fld := fF 0x164 0 0 1 .rw

/-- DRAMADM.EXCESS_BYTES.COUNT. -/
def DRAMADM.EXCESS_BYTES_COUNT : Fld := fF 0x168 31 0 0 .rc

/-- DRAMADM.DRAM_MAP.GRANULE. -/
def DRAMADM.DRAM_MAP_GRANULE : Fld := (fF 0x16c 5 4 0 .rw).only 0 2

/-- DRAMADM.DRAM_MAP.INTERLEAVE. -/
def DRAMADM.DRAM_MAP_INTERLEAVE : Fld := fF 0x16c 0 0 0 .rw

/-- DRAMADM.REG_BASE.MIB. -/
def DRAMADM.REG_BASE_MIB : Fld := fF 0x200 17 0 0 .rw [(32, 128)]

/-- DRAMADM.REG_SIZE.MIB. -/
def DRAMADM.REG_SIZE_MIB : Fld := (fF 0x204 14 0 0 .rw [(32, 128)]).clamped 1 16384 0

/-- DRAMADM.REG_CTRL.EN. -/
def DRAMADM.REG_CTRL_EN : Fld := fF 0x208 31 31 0 .rw [(32, 128)]

/-- DRAMADM.REG_CTRL.OWNER. -/
def DRAMADM.REG_CTRL_OWNER : Fld := fF 0x208 3 0 15 .rw [(32, 128)]

/-- DRAMADM registers, part 1 (Table 13.11). -/
def DRAMADM.table1 : List Fld :=
  [DRAMADM.ADM_CTRL_VIEW, DRAMADM.ADM_CTRL_COMMIT, DRAMADM.ADM_STATUS_CAUSE, DRAMADM.ADM_STATUS_SHORT_BY, DRAMADM.PEAK_BYTES, DRAMADM.BUDGET_BYTES, DRAMADM.HOT_RANGE_HOT, DRAMADM.SPILL_RES_BYTES, DRAMADM.EGRESS_RES_BYTES, DRAMADM.TILE_RES_BYTES, DRAMADM.SHORTFALL_BYTES, DRAMADM.SHORT_MAX_BYTES, DRAMADM.SHORT_CAUSE_THROTTLE, DRAMADM.SHORT_CAUSE_ECC_RETRY, DRAMADM.SHORT_CAUSE_REFRESH_2X, DRAMADM.REF_AHEAD_AHEAD, DRAMADM.REF_ENV_MAX, DRAMADM.REF_ENV_MIN, DRAMADM.ADM_ADAPT_ADAPT_EN, DRAMADM.EXCESS_BYTES_COUNT, DRAMADM.DRAM_MAP_GRANULE, DRAMADM.DRAM_MAP_INTERLEAVE, DRAMADM.REG_BASE_MIB, DRAMADM.REG_SIZE_MIB]

/-- DRAMADM registers, part 2 (Table 13.11). -/
def DRAMADM.table2 : List Fld :=
  [DRAMADM.REG_CTRL_EN, DRAMADM.REG_CTRL_OWNER]

/-- The DRAMADM page's registers (Table 13.11). -/
def DRAMADM.table : List Fld := DRAMADM.table1 ++ DRAMADM.table2

/-- Event REFRESH_2X of DRAMC. -/
def DRAMC.evREFRESH_2X : Ev := ⟨0, 0⟩

/-- Event DRAM_ECC_CORR of DRAMC. -/
def DRAMC.evDRAM_ECC_CORR : Ev := ⟨1, 0⟩

/-- Event DRAM_ECC_UNCORR of DRAMC. -/
def DRAMC.evDRAM_ECC_UNCORR : Ev := ⟨2, 3⟩

/-- Event THROTTLE of DRAMC. -/
def DRAMC.evTHROTTLE : Ev := ⟨3, 0⟩

/-- Event TRAINING_FAIL of DRAMC. -/
def DRAMC.evTRAINING_FAIL : Ev := ⟨4, 5⟩

/-- DRAMC registers, part 1 (Table 19.9). -/
def DRAMC.table1 : List Fld :=
  []

/-- The DRAMC page's registers (Table 19.9). -/
def DRAMC.table : List Fld := DRAMC.table1

end Sys2Proof.Machine
end

