-- ==== Sys2Proof/Machine/RegsFabric.lean ====
section
/-!
DEFINITION. The registers and events of the fabric, constellation, provenance, debug and fault pages (Chapters 14, 15, 16, 18, 19).
-/

namespace Sys2Proof.Machine

/-- Event TOPO_CHANGE of FAB. -/
def FAB.evTOPO_CHANGE : Ev := ⟨0, 0⟩

/-- Event UNROUTABLE of FAB. -/
def FAB.evUNROUTABLE : Ev := ⟨1, 2⟩

/-- Event BAD_FRAME of FAB. -/
def FAB.evBAD_FRAME : Ev := ⟨2, 3⟩

/-- Event ITEM_DENIED of FAB. -/
def FAB.evITEM_DENIED : Ev := ⟨3, 4⟩

/-- Event I2C_DONE of FAB. -/
def FAB.evI2C_DONE : Ev := ⟨4, 0⟩

/-- Event I2C_ERR of FAB. -/
def FAB.evI2C_ERR : Ev := ⟨5, 6⟩

/-- FAB.STATUS.NUM_VALID. -/
def FAB.STATUS_NUM_VALID : Fld := fF 0x100 31 31 0 .ro

/-- FAB.STATUS.DEV_NUM. -/
def FAB.STATUS_DEV_NUM : Fld := fF 0x100 25 16 0 .ro

/-- FAB.STATUS.PORTS_UP. -/
def FAB.STATUS_PORTS_UP : Fld := fF 0x100 3 0 0 .ro

/-- FAB.DROPS.UNROUTABLE. -/
def FAB.DROPS_UNROUTABLE : Fld := fF 0x104 31 16 0 .rc

/-- FAB.DROPS.STALE. -/
def FAB.DROPS_STALE : Fld := fF 0x104 15 0 0 .rc

/-- FAB.BAD_FRAMES.COUNT. -/
def FAB.BAD_FRAMES_COUNT : Fld := fF 0x108 15 0 0 .rc

/-- FAB.ITEM_DENIED.COUNT. -/
def FAB.ITEM_DENIED_COUNT : Fld := fF 0x10c 15 0 0 .rc

/-- FAB.MISROUTED.COUNT. -/
def FAB.MISROUTED_COUNT : Fld := fF 0x110 15 0 0 .rc

/-- FAB.BAD_INFO.VALID. -/
def FAB.BAD_INFO_VALID : Fld := fF 0x114 31 31 0 .w1c

/-- FAB.BAD_INFO.PORT. -/
def FAB.BAD_INFO_PORT : Fld := fF 0x114 19 16 0 .ro

/-- FAB.BAD_INFO.REASON. -/
def FAB.BAD_INFO_REASON : Fld := fF 0x114 3 0 0 .ro

/-- FAB.I2C_CTRL.GO. -/
def FAB.I2C_CTRL_GO : Fld := fF 0x118 31 31 0 .wo

/-- FAB.I2C_CTRL.BUSY. -/
def FAB.I2C_CTRL_BUSY : Fld := fF 0x118 30 30 0 .ro

/-- FAB.I2C_CTRL.NACK. -/
def FAB.I2C_CTRL_NACK : Fld := fF 0x118 29 29 0 .ro

/-- FAB.I2C_CTRL.READ. -/
def FAB.I2C_CTRL_READ : Fld := fF 0x118 28 28 0 .rw

/-- FAB.I2C_CTRL.FAST. -/
def FAB.I2C_CTRL_FAST : Fld := fF 0x118 27 27 0 .rw

/-- FAB.I2C_CTRL.LEN_M1. -/
def FAB.I2C_CTRL_LEN_M1 : Fld := fF 0x118 25 24 0 .rw

/-- FAB.I2C_CTRL.ADDR. -/
def FAB.I2C_CTRL_ADDR : Fld := fF 0x118 22 16 0 .rw

/-- FAB.I2C_CTRL.REG. -/
def FAB.I2C_CTRL_REG : Fld := fF 0x118 15 8 0 .rw

/-- FAB.I2C_DATA.DATA. -/
def FAB.I2C_DATA_DATA : Fld := fF 0x11c 31 0 0 .rw

/-- FAB registers, part 1 (Table 14.11). -/
def FAB.table1 : List Fld :=
  [FAB.STATUS_NUM_VALID, FAB.STATUS_DEV_NUM, FAB.STATUS_PORTS_UP, FAB.DROPS_UNROUTABLE, FAB.DROPS_STALE, FAB.BAD_FRAMES_COUNT, FAB.ITEM_DENIED_COUNT, FAB.MISROUTED_COUNT, FAB.BAD_INFO_VALID, FAB.BAD_INFO_PORT, FAB.BAD_INFO_REASON, FAB.I2C_CTRL_GO, FAB.I2C_CTRL_BUSY, FAB.I2C_CTRL_NACK, FAB.I2C_CTRL_READ, FAB.I2C_CTRL_FAST, FAB.I2C_CTRL_LEN_M1, FAB.I2C_CTRL_ADDR, FAB.I2C_CTRL_REG, FAB.I2C_DATA_DATA]

/-- The FAB page's registers (Table 14.11). -/
def FAB.table : List Fld := FAB.table1

/-- Event LINK_UP of FABP. -/
def FABP.evLINK_UP : Ev := ⟨0, 0⟩

/-- Event LINK_DOWN of FABP. -/
def FABP.evLINK_DOWN : Ev := ⟨1, 2⟩

/-- Event CRC_ERR of FABP. -/
def FABP.evCRC_ERR : Ev := ⟨2, 3⟩

/-- Event REPLAY of FABP. -/
def FABP.evREPLAY : Ev := ⟨3, 0⟩

/-- Event RETRAIN of FABP. -/
def FABP.evRETRAIN : Ev := ⟨4, 5⟩

/-- Event MOD_ABSENT of FABP. -/
def FABP.evMOD_ABSENT : Ev := ⟨5, 6⟩

/-- Event LOS of FABP. -/
def FABP.evLOS : Ev := ⟨6, 7⟩

/-- Event HI_BER of FABP. -/
def FABP.evHI_BER : Ev := ⟨7, 8⟩

/-- Event CREDIT_ERR of FABP. -/
def FABP.evCREDIT_ERR : Ev := ⟨8, 9⟩

/-- Event FEC_UNCORR of FABP. -/
def FABP.evFEC_UNCORR : Ev := ⟨9, 10⟩

/-- Event PARTNER_CHANGE of FABP. -/
def FABP.evPARTNER_CHANGE : Ev := ⟨10, 0⟩

/-- FABP.PORT_CFG.TX_POL_INV. -/
def FABP.PORT_CFG_TX_POL_INV : Fld := fF 0x100 5 5 0 .rw

/-- FABP.PORT_CFG.FEC_EN. -/
def FABP.PORT_CFG_FEC_EN : Fld := (fF 0x100 4 4 0 .rw).locked

/-- FABP.PORT_CFG.LOOPBACK. -/
def FABP.PORT_CFG_LOOPBACK : Fld := (fF 0x100 3 2 0 .rw).only 0 2

/-- FABP.PORT_CFG.TX_DISABLE. -/
def FABP.PORT_CFG_TX_DISABLE : Fld := fF 0x100 1 1 0 .rw

/-- FABP.PORT_CFG.RX_POL_INV. -/
def FABP.PORT_CFG_RX_POL_INV : Fld := fF 0x100 0 0 0 .rw

/-- FABP.LINK_STATUS.STATE. -/
def FABP.LINK_STATUS_STATE : Fld := fF 0x104 31 29 0 .ro

/-- FABP.LINK_STATUS.MODABS. -/
def FABP.LINK_STATUS_MODABS : Fld := fF 0x104 28 28 0 .ro

/-- FABP.LINK_STATUS.LOS. -/
def FABP.LINK_STATUS_LOS : Fld := fF 0x104 27 27 0 .ro

/-- FABP.LINK_STATUS.BLOCK_LOCK. -/
def FABP.LINK_STATUS_BLOCK_LOCK : Fld := fF 0x104 26 26 0 .ro

/-- FABP.LINK_STATUS.HI_BER. -/
def FABP.LINK_STATUS_HI_BER : Fld := fF 0x104 25 25 0 .ro

/-- FABP.LINK_STATUS.FEC_LOCK. -/
def FABP.LINK_STATUS_FEC_LOCK : Fld := fF 0x104 24 24 0 .ro

/-- FABP.LINK_STATUS.PARTNER_PORT. -/
def FABP.LINK_STATUS_PARTNER_PORT : Fld := fF 0x104 21 20 0 .ro

/-- FABP.LINK_STATUS.PARTNER_DEV. -/
def FABP.LINK_STATUS_PARTNER_DEV : Fld := fF 0x104 17 8 0 .ro

/-- FABP.LINK_STATUS.PARTNER_NUM_VALID. -/
def FABP.LINK_STATUS_PARTNER_NUM_VALID : Fld := fF 0x104 7 7 0 .ro

/-- FABP.LINK_STATUS.CHILD. -/
def FABP.LINK_STATUS_CHILD : Fld := fF 0x104 6 6 0 .ro

/-- FABP.LINK_STATUS.ROOT_PORT. -/
def FABP.LINK_STATUS_ROOT_PORT : Fld := fF 0x104 5 5 0 .ro

/-- FABP.LINK_STATUS.DOWN_HOP. -/
def FABP.LINK_STATUS_DOWN_HOP : Fld := fF 0x104 4 4 0 .ro

/-- FABP.PARTNER_ID_LO.ID. -/
def FABP.PARTNER_ID_LO_ID : Fld := fF 0x108 31 0 0 .ro

/-- FABP.PARTNER_ID_HI.ID. -/
def FABP.PARTNER_ID_HI_ID : Fld := fF 0x10c 31 0 0 .ro

/-- FABP.PCS_LAT.RX_LAT. -/
def FABP.PCS_LAT_RX_LAT : Fld := fF 0x110 31 16 0 .ro

/-- FABP.PCS_LAT.TX_LAT. -/
def FABP.PCS_LAT_TX_LAT : Fld := fF 0x110 15 0 0 .ro

/-- FABP.REPLAY_CFG.REPLAY_EXP. -/
def FABP.REPLAY_CFG_REPLAY_EXP : Fld := (fF 0x114 12 8 14 .rw).locked

/-- FABP.REPLAY_CFG.REPLAY_LIMIT. -/
def FABP.REPLAY_CFG_REPLAY_LIMIT : Fld := (fF 0x114 3 0 4 .rw).locked

/-- FABP.SEQ_STATUS.NEXT_TX. -/
def FABP.SEQ_STATUS_NEXT_TX : Fld := fF 0x118 27 16 0 .ro

/-- FABP.SEQ_STATUS.EXPECT_RX. -/
def FABP.SEQ_STATUS_EXPECT_RX : Fld := fF 0x118 11 0 0 .ro

/-- FABP.UNACKED.UNITS. -/
def FABP.UNACKED_UNITS : Fld := fF 0x11c 27 16 0 .ro

/-- FABP.UNACKED.FRAMES. -/
def FABP.UNACKED_FRAMES : Fld := fF 0x11c 6 0 0 .ro

/-- FABP.TX_CREDIT.UNITS. -/
def FABP.TX_CREDIT_UNITS : Fld := fF 0x120 8 0 0 .ro [(8, 32)]

/-- FABP.FRAMES_TX.COUNT. -/
def FABP.FRAMES_TX_COUNT : Fld := fF 0x140 31 0 0 .rc

/-- FABP.FRAMES_RX.COUNT. -/
def FABP.FRAMES_RX_COUNT : Fld := fF 0x144 31 0 0 .rc

/-- FABP.ERRS.CRC_ERRS. -/
def FABP.ERRS_CRC_ERRS : Fld := fF 0x148 31 16 0 .rc

/-- FABP.ERRS.REPLAYS. -/
def FABP.ERRS_REPLAYS : Fld := fF 0x148 15 0 0 .rc

/-- FABP.LOST.FRAMES_LOST. -/
def FABP.LOST_FRAMES_LOST : Fld := fF 0x14c 31 16 0 .rc

/-- FABP.LOST.FEC_MISMATCH. -/
def FABP.LOST_FEC_MISMATCH : Fld := fF 0x14c 15 8 0 .rc

/-- FABP.LOST.SELF_LOOP. -/
def FABP.LOST_SELF_LOOP : Fld := fF 0x14c 7 0 0 .rc

/-- FABP.RETRY_ST_LO.ST. -/
def FABP.RETRY_ST_LO_ST : Fld := fF 0x150 31 0 0 .ro

/-- FABP.RETRY_ST_HI.ST. -/
def FABP.RETRY_ST_HI_ST : Fld := fF 0x154 31 0 0 .ro

/-- FABP.FEC_CORR.COUNT. -/
def FABP.FEC_CORR_COUNT : Fld := fF 0x158 31 0 0 .rc

/-- FABP.FEC_UNCORR.COUNT. -/
def FABP.FEC_UNCORR_COUNT : Fld := fF 0x15c 15 0 0 .rc

/-- FABP.SLOT_DEST.VALID. -/
def FABP.SLOT_DEST_VALID : Fld := (fF 0x400 31 31 0 .rw [(64, 32)]).byMgr

/-- FABP.SLOT_DEST.DST_DEV. -/
def FABP.SLOT_DEST_DST_DEV : Fld := (fF 0x400 25 16 0 .rw [(64, 32)]).byMgr

/-- FABP.SLOT_DEST.DQUEUE. -/
def FABP.SLOT_DEST_DQUEUE : Fld := (fF 0x400 7 0 0 .rw [(64, 32)]).byMgr

/-- FABP registers, part 1 (Table 14.11). -/
def FABP.table1 : List Fld :=
  [FABP.PORT_CFG_TX_POL_INV, FABP.PORT_CFG_FEC_EN, FABP.PORT_CFG_LOOPBACK, FABP.PORT_CFG_TX_DISABLE, FABP.PORT_CFG_RX_POL_INV, FABP.LINK_STATUS_STATE, FABP.LINK_STATUS_MODABS, FABP.LINK_STATUS_LOS, FABP.LINK_STATUS_BLOCK_LOCK, FABP.LINK_STATUS_HI_BER, FABP.LINK_STATUS_FEC_LOCK, FABP.LINK_STATUS_PARTNER_PORT, FABP.LINK_STATUS_PARTNER_DEV, FABP.LINK_STATUS_PARTNER_NUM_VALID, FABP.LINK_STATUS_CHILD, FABP.LINK_STATUS_ROOT_PORT, FABP.LINK_STATUS_DOWN_HOP, FABP.PARTNER_ID_LO_ID, FABP.PARTNER_ID_HI_ID, FABP.PCS_LAT_RX_LAT, FABP.PCS_LAT_TX_LAT, FABP.REPLAY_CFG_REPLAY_EXP, FABP.REPLAY_CFG_REPLAY_LIMIT, FABP.SEQ_STATUS_NEXT_TX]

/-- FABP registers, part 2 (Table 14.11). -/
def FABP.table2 : List Fld :=
  [FABP.SEQ_STATUS_EXPECT_RX, FABP.UNACKED_UNITS, FABP.UNACKED_FRAMES, FABP.TX_CREDIT_UNITS, FABP.FRAMES_TX_COUNT, FABP.FRAMES_RX_COUNT, FABP.ERRS_CRC_ERRS, FABP.ERRS_REPLAYS, FABP.LOST_FRAMES_LOST, FABP.LOST_FEC_MISMATCH, FABP.LOST_SELF_LOOP, FABP.RETRY_ST_LO_ST, FABP.RETRY_ST_HI_ST, FABP.FEC_CORR_COUNT, FABP.FEC_UNCORR_COUNT, FABP.SLOT_DEST_VALID, FABP.SLOT_DEST_DST_DEV, FABP.SLOT_DEST_DQUEUE]

/-- The FABP page's registers (Table 14.11). -/
def FABP.table : List Fld := FABP.table1 ++ FABP.table2

/-- Event ROOT_CHANGE of DISC. -/
def DISC.evROOT_CHANGE : Ev := ⟨0, 0⟩

/-- Event TREE_STABLE of DISC. -/
def DISC.evTREE_STABLE : Ev := ⟨1, 0⟩

/-- Event NUM_ASSIGNED of DISC. -/
def DISC.evNUM_ASSIGNED : Ev := ⟨2, 0⟩

/-- Event MAP_ACTIVE of DISC. -/
def DISC.evMAP_ACTIVE : Ev := ⟨3, 0⟩

/-- Event DISC_REFUSED of DISC. -/
def DISC.evDISC_REFUSED : Ev := ⟨4, 5⟩

/-- Event DISC_TOO_DEEP of DISC. -/
def DISC.evDISC_TOO_DEEP : Ev := ⟨5, 6⟩

/-- Event DISC_NO_ROOT of DISC. -/
def DISC.evDISC_NO_ROOT : Ev := ⟨6, 7⟩

/-- Event DISC_ACK_MISSING of DISC. -/
def DISC.evDISC_ACK_MISSING : Ev := ⟨7, 8⟩

/-- Event NUM_CHANGED of DISC. -/
def DISC.evNUM_CHANGED : Ev := ⟨8, 9⟩

/-- DISC.DISC_CFG.PRIORITY. -/
def DISC.DISC_CFG_PRIORITY : Fld := (fF 0x100 31 24 128 .rw).locked

/-- DISC.DISC_CFG.NUM_REQ. -/
def DISC.DISC_CFG_NUM_REQ : Fld := (fF 0x100 17 8 0 .rw).locked

/-- DISC.DISC_CFG.NUM_REQ_EN. -/
def DISC.DISC_CFG_NUM_REQ_EN : Fld := (fF 0x100 0 0 0 .rw).locked

/-- DISC.DISC_TIMING.ANN_EXP. -/
def DISC.DISC_TIMING_ANN_EXP : Fld := (fF 0x104 20 16 20 .rw).locked

/-- DISC.DISC_TIMING.SETTLE_N. -/
def DISC.DISC_TIMING_SETTLE_N : Fld := (fF 0x104 11 8 4 .rw).locked

/-- DISC.DISC_TIMING.ROOT_HOLD. -/
def DISC.DISC_TIMING_ROOT_HOLD : Fld := (fF 0x104 3 0 4 .rw).locked

/-- DISC.DISC_STATUS.STATE. -/
def DISC.DISC_STATUS_STATE : Fld := fF 0x108 31 29 0 .ro

/-- DISC.DISC_STATUS.IS_ROOT. -/
def DISC.DISC_STATUS_IS_ROOT : Fld := fF 0x108 28 28 0 .ro

/-- DISC.DISC_STATUS.NUM_VALID. -/
def DISC.DISC_STATUS_NUM_VALID : Fld := fF 0x108 27 27 0 .ro

/-- DISC.DISC_STATUS.DEV_NUM. -/
def DISC.DISC_STATUS_DEV_NUM : Fld := fF 0x108 25 16 0 .ro

/-- DISC.DISC_STATUS.DEPTH. -/
def DISC.DISC_STATUS_DEPTH : Fld := fF 0x108 12 8 0 .ro

/-- DISC.DISC_STATUS.ROOT_PORT. -/
def DISC.DISC_STATUS_ROOT_PORT : Fld := fF 0x108 6 4 7 .ro

/-- DISC.DISC_STATUS.CHILD_PORTS. -/
def DISC.DISC_STATUS_CHILD_PORTS : Fld := fF 0x108 3 0 0 .ro

/-- DISC.ROOT_ID_LO.ID. -/
def DISC.ROOT_ID_LO_ID : Fld := fF 0x10c 31 0 0 .ro

/-- DISC.ROOT_ID_HI.ID. -/
def DISC.ROOT_ID_HI_ID : Fld := fF 0x110 31 0 0 .ro

/-- DISC.ROOT_INFO.ROOT_PRIO. -/
def DISC.ROOT_INFO_ROOT_PRIO : Fld := fF 0x114 31 24 0 .ro

/-- DISC.ROOT_INFO.ROOT_SEQ. -/
def DISC.ROOT_INFO_ROOT_SEQ : Fld := fF 0x114 15 0 0 .ro

/-- DISC.MAP_INFO.MAP_EPOCH. -/
def DISC.MAP_INFO_MAP_EPOCH : Fld := fF 0x118 31 16 0 .ro

/-- DISC.MAP_INFO.DEVICES. -/
def DISC.MAP_INFO_DEVICES : Fld := fF 0x118 10 0 0 .ro

/-- DISC registers, part 1 (Table 14.11). -/
def DISC.table1 : List Fld :=
  [DISC.DISC_CFG_PRIORITY, DISC.DISC_CFG_NUM_REQ, DISC.DISC_CFG_NUM_REQ_EN, DISC.DISC_TIMING_ANN_EXP, DISC.DISC_TIMING_SETTLE_N, DISC.DISC_TIMING_ROOT_HOLD, DISC.DISC_STATUS_STATE, DISC.DISC_STATUS_IS_ROOT, DISC.DISC_STATUS_NUM_VALID, DISC.DISC_STATUS_DEV_NUM, DISC.DISC_STATUS_DEPTH, DISC.DISC_STATUS_ROOT_PORT, DISC.DISC_STATUS_CHILD_PORTS, DISC.ROOT_ID_LO_ID, DISC.ROOT_ID_HI_ID, DISC.ROOT_INFO_ROOT_PRIO, DISC.ROOT_INFO_ROOT_SEQ, DISC.MAP_INFO_MAP_EPOCH, DISC.MAP_INFO_DEVICES]

/-- The DISC page's registers (Table 14.11). -/
def DISC.table : List Fld := DISC.table1

/-- Event STALE_DROP of ROUTE. -/
def ROUTE.evSTALE_DROP : Ev := ⟨0, 0⟩

/-- ROUTE.RT_STATUS.ACTIVE_EPOCH. -/
def ROUTE.RT_STATUS_ACTIVE_EPOCH : Fld := fF 0x100 31 16 0 .ro

/-- ROUTE.RT_STATUS.STAGED_EPOCH. -/
def ROUTE.RT_STATUS_STAGED_EPOCH : Fld := fF 0x100 15 0 0 .ro

/-- ROUTE.RT_ENTRY.HOPS. -/
def ROUTE.RT_ENTRY_HOPS : Fld := fF 0x800 12 8 31 .ro [(1024, 16)]

/-- ROUTE.RT_ENTRY.DOWN_PORT. -/
def ROUTE.RT_ENTRY_DOWN_PORT : Fld := fF 0x800 7 4 15 .ro [(1024, 16)]

/-- ROUTE.RT_ENTRY.UP_PORT. -/
def ROUTE.RT_ENTRY_UP_PORT : Fld := fF 0x800 3 0 15 .ro [(1024, 16)]

/-- ROUTE registers, part 1 (Table 14.11). -/
def ROUTE.table1 : List Fld :=
  [ROUTE.RT_STATUS_ACTIVE_EPOCH, ROUTE.RT_STATUS_STAGED_EPOCH, ROUTE.RT_ENTRY_HOPS, ROUTE.RT_ENTRY_DOWN_PORT, ROUTE.RT_ENTRY_UP_PORT]

/-- The ROUTE page's registers (Table 14.11). -/
def ROUTE.table : List Fld := ROUTE.table1

/-- Event JOINED of CONST. -/
def CONST.evJOINED : Ev := ⟨0, 0⟩

/-- Event LEFT of CONST. -/
def CONST.evLEFT : Ev := ⟨1, 0⟩

/-- Event PARENT_LOST of CONST. -/
def CONST.evPARENT_LOST : Ev := ⟨2, 3⟩

/-- Event JOIN_BLOCKED of CONST. -/
def CONST.evJOIN_BLOCKED : Ev := ⟨3, 4⟩

/-- Event JOIN_REFUSED of CONST. -/
def CONST.evJOIN_REFUSED : Ev := ⟨4, 5⟩

/-- Event ALIGN_LOST of CONST. -/
def CONST.evALIGN_LOST : Ev := ⟨5, 6⟩

/-- Event TIME_VOID of CONST. -/
def CONST.evTIME_VOID : Ev := ⟨6, 0⟩

/-- Event RTT_JUMP of CONST. -/
def CONST.evRTT_JUMP : Ev := ⟨7, 8⟩

/-- Event LOOP_FAIL of CONST. -/
def CONST.evLOOP_FAIL : Ev := ⟨8, 9⟩

/-- Event DIST_REFUSED of CONST. -/
def CONST.evDIST_REFUSED : Ev := ⟨9, 10⟩

/-- Event DIST_MISSED of CONST. -/
def CONST.evDIST_MISSED : Ev := ⟨10, 11⟩

/-- Event FAR_DEPTH of CONST. -/
def CONST.evFAR_DEPTH : Ev := ⟨11, 0⟩

/-- Event UNCAL_PATH of CONST. -/
def CONST.evUNCAL_PATH : Ev := ⟨12, 0⟩

/-- Event ROOT_TAKEN of CONST. -/
def CONST.evROOT_TAKEN : Ev := ⟨13, 0⟩

/-- CONST.CONST_CFG.AUTO_JOIN. -/
def CONST.CONST_CFG_AUTO_JOIN : Fld := (fF 0x100 31 31 0 .rw).locked

/-- CONST.CONST_CFG.ROOT_REF. -/
def CONST.CONST_CFG_ROOT_REF : Fld := (fF 0x100 27 24 0 .rw).locked

/-- CONST.CONST_CFG.SYNC_EXP. -/
def CONST.CONST_CFG_SYNC_EXP : Fld := (fF 0x100 20 16 20 .rw).locked

/-- CONST.CONST_CFG.STEP_LIMIT. -/
def CONST.CONST_CFG_STEP_LIMIT : Fld := (fF 0x100 15 8 64 .rw).locked

/-- CONST.CONST_CFG.STEER_MAX. -/
def CONST.CONST_CFG_STEER_MAX : Fld := fF 0x100 7 4 4 .rw

/-- CONST.CONST_CFG.ALIGN_WIN. -/
def CONST.CONST_CFG_ALIGN_WIN : Fld := fF 0x100 3 0 8 .rw

/-- CONST.CONST_CTRL.HOLD. -/
def CONST.CONST_CTRL_HOLD : Fld := fF 0x104 2 2 0 .rw

/-- CONST.CONST_CTRL.LEAVE. -/
def CONST.CONST_CTRL_LEAVE : Fld := fF 0x104 1 1 0 .wo

/-- CONST.CONST_CTRL.JOIN. -/
def CONST.CONST_CTRL_JOIN : Fld := fF 0x104 0 0 0 .wo

/-- CONST.CONST_STATUS.STATE. -/
def CONST.CONST_STATUS_STATE : Fld := fF 0x108 31 28 0 .ro

/-- CONST.CONST_STATUS.REFUSE. -/
def CONST.CONST_STATUS_REFUSE : Fld := fF 0x108 27 24 0 .ro

/-- CONST.CONST_STATUS.FAR. -/
def CONST.CONST_STATUS_FAR : Fld := fF 0x108 23 23 0 .ro

/-- CONST.CONST_STATUS.UNCAL. -/
def CONST.CONST_STATUS_UNCAL : Fld := fF 0x108 22 22 0 .ro

/-- CONST.CONST_STATUS.ROOT_SUSPECT. -/
def CONST.CONST_STATUS_ROOT_SUSPECT : Fld := fF 0x108 21 21 0 .ro

/-- CONST.CONST_STATUS.DEPTH. -/
def CONST.CONST_STATUS_DEPTH : Fld := fF 0x108 20 16 0 .ro

/-- CONST.CONST_STATUS.PARENT_PORT. -/
def CONST.CONST_STATUS_PARENT_PORT : Fld := fF 0x108 14 12 7 .ro

/-- CONST.CONST_STATUS.ROOT_DEV. -/
def CONST.CONST_STATUS_ROOT_DEV : Fld := fF 0x108 9 0 0 .ro

/-- CONST.OFFSET.O. -/
def CONST.OFFSET_O : Fld := fF 0x10c 31 0 0 .ro

/-- CONST.RTT.RTT. -/
def CONST.RTT_RTT : Fld := fF 0x110 31 0 0 .ro

/-- CONST.RAW_OFF.OFF. -/
def CONST.RAW_OFF_OFF : Fld := fF 0x114 31 0 0 .ro

/-- CONST.RAW_NOCABLE.RAW. -/
def CONST.RAW_NOCABLE_RAW : Fld := fF 0x118 31 0 0 .ro

/-- CONST.ERR_BOUND.PS. -/
def CONST.ERR_BOUND_PS : Fld := fF 0x11c 15 0 65535 .ro

/-- CONST.EXCH.VOID. -/
def CONST.EXCH_VOID : Fld := fF 0x120 31 16 0 .rc

/-- CONST.EXCH.VALID. -/
def CONST.EXCH_VALID : Fld := fF 0x120 15 0 0 .rc

/-- CONST.STEER_SUM.SUM. -/
def CONST.STEER_SUM_SUM : Fld := fF 0x124 31 0 0 .ro

/-- CONST.GROUP_MASK.MASK. -/
def CONST.GROUP_MASK_MASK : Fld := fF 0x128 15 1 0 .rw

/-- CONST.GROUP_MASK.ZERO. -/
def CONST.GROUP_MASK_ZERO : Fld := fF 0x128 0 0 1 .ro

/-- CONST.DIST_MIN.ST. -/
def CONST.DIST_MIN_ST : Fld := (fF 0x12c 31 0 4194304 .rw).locked

/-- CONST.DIST_GROUP.GROUP. -/
def CONST.DIST_GROUP_GROUP : Fld := fF 0x130 3 0 0 .rw [(32, 4)]

/-- CONST.DIST_SEL.INDEX. -/
def CONST.DIST_SEL_INDEX : Fld := fF 0x140 4 0 0 .rw

/-- CONST.DIST_INFO.ACKED. -/
def CONST.DIST_INFO_ACKED : Fld := fF 0x144 29 20 0 .ro

/-- CONST.DIST_INFO.MISSED. -/
def CONST.DIST_INFO_MISSED : Fld := fF 0x144 19 10 0 .ro

/-- CONST.DIST_INFO.OTHER. -/
def CONST.DIST_INFO_OTHER : Fld := fF 0x144 9 0 0 .ro

/-- CONST.EPH_PORT_EN.EN. -/
def CONST.EPH_PORT_EN_EN : Fld := fF 0x148 3 0 15 .rw

/-- CONST.PORT_PS.RX_PS. -/
def CONST.PORT_PS_RX_PS : Fld := (fF 0x200 31 16 0 .rw [(4, 256)]).locked

/-- CONST.PORT_PS.TX_PS. -/
def CONST.PORT_PS_TX_PS : Fld := (fF 0x200 15 0 0 .rw [(4, 256)]).locked

/-- CONST.CABLE.CAL. -/
def CONST.CABLE_CAL : Fld := (fF 0x204 31 31 0 .rw [(4, 256)]).locked

/-- CONST.CABLE.ASYM_PS. -/
def CONST.CABLE_ASYM_PS : Fld := (fF 0x204 15 0 0 .rw [(4, 256)]).locked

/-- CONST.LOOP_PHASE.RX_FRAC. -/
def CONST.LOOP_PHASE_RX_FRAC : Fld := fF 0x208 13 8 0 .ro [(4, 256)]

/-- CONST.LOOP_PHASE.TX_FRAC. -/
def CONST.LOOP_PHASE_TX_FRAC : Fld := fF 0x208 5 0 0 .ro [(4, 256)]

/-- CONST.EXCH_SEQ.SEQ. -/
def CONST.EXCH_SEQ_SEQ : Fld := fF 0x20c 31 0 0 .ro [(4, 256)]

/-- CONST registers, part 1 (Table 15.9). -/
def CONST.table1 : List Fld :=
  [CONST.CONST_CFG_AUTO_JOIN, CONST.CONST_CFG_ROOT_REF, CONST.CONST_CFG_SYNC_EXP, CONST.CONST_CFG_STEP_LIMIT, CONST.CONST_CFG_STEER_MAX, CONST.CONST_CFG_ALIGN_WIN, CONST.CONST_CTRL_HOLD, CONST.CONST_CTRL_LEAVE, CONST.CONST_CTRL_JOIN, CONST.CONST_STATUS_STATE, CONST.CONST_STATUS_REFUSE, CONST.CONST_STATUS_FAR, CONST.CONST_STATUS_UNCAL, CONST.CONST_STATUS_ROOT_SUSPECT, CONST.CONST_STATUS_DEPTH, CONST.CONST_STATUS_PARENT_PORT, CONST.CONST_STATUS_ROOT_DEV, CONST.OFFSET_O, CONST.RTT_RTT, CONST.RAW_OFF_OFF, CONST.RAW_NOCABLE_RAW, CONST.ERR_BOUND_PS, CONST.EXCH_VOID, CONST.EXCH_VALID]

/-- CONST registers, part 2 (Table 15.9). -/
def CONST.table2 : List Fld :=
  [CONST.STEER_SUM_SUM, CONST.GROUP_MASK_MASK, CONST.GROUP_MASK_ZERO, CONST.DIST_MIN_ST, CONST.DIST_GROUP_GROUP, CONST.DIST_SEL_INDEX, CONST.DIST_INFO_ACKED, CONST.DIST_INFO_MISSED, CONST.DIST_INFO_OTHER, CONST.EPH_PORT_EN_EN, CONST.PORT_PS_RX_PS, CONST.PORT_PS_TX_PS, CONST.CABLE_CAL, CONST.CABLE_ASYM_PS, CONST.LOOP_PHASE_RX_FRAC, CONST.LOOP_PHASE_TX_FRAC, CONST.EXCH_SEQ_SEQ]

/-- The CONST page's registers (Table 15.9). -/
def CONST.table : List Fld := CONST.table1 ++ CONST.table2

/-- Event WEIGHTS_DIRTY of PROV. -/
def PROV.evWEIGHTS_DIRTY : Ev := ⟨0, 1⟩

/-- Event UNTRACKED_READ of PROV. -/
def PROV.evUNTRACKED_READ : Ev := ⟨1, 0⟩

/-- Event RECORD_LOST of PROV. -/
def PROV.evRECORD_LOST : Ev := ⟨2, 3⟩

/-- Event REPLAY_MISMATCH of PROV. -/
def PROV.evREPLAY_MISMATCH : Ev := ⟨3, 4⟩

/-- Event REPLAY_FAIL of PROV. -/
def PROV.evREPLAY_FAIL : Ev := ⟨4, 5⟩

/-- Event REPLAY_SLIP of PROV. -/
def PROV.evREPLAY_SLIP : Ev := ⟨5, 0⟩

/-- Event LEDGER_SAT of PROV. -/
def PROV.evLEDGER_SAT : Ev := ⟨6, 7⟩

/-- Event WEIGHTS_READ_ERR of PROV. -/
def PROV.evWEIGHTS_READ_ERR : Ev := ⟨7, 8⟩

/-- Event PCFG_REFUSED of PROV. -/
def PROV.evPCFG_REFUSED : Ev := ⟨8, 9⟩

/-- PROV.PROV_OWNER.HH. -/
def PROV.PROV_OWNER_HH : Fld := (fF 0x100 3 0 15 .rw [(8, 4)]).byMgr

/-- PROV.PROV_STATUS.CORE_BUSY. -/
def PROV.PROV_STATUS_CORE_BUSY : Fld := fF 0x104 7 0 0 .ro

/-- PROV.PCFG.RECORD_EN. -/
def PROV.PCFG_RECORD_EN : Fld := fF 0x200 31 31 0 .rw [(8, 2048)]

/-- PROV.PCFG.REPLAY_EN. -/
def PROV.PCFG_REPLAY_EN : Fld := fF 0x200 30 30 0 .rw [(8, 2048)]

/-- PROV.PSTATUS.FEED_STATE. -/
def PROV.PSTATUS_FEED_STATE : Fld := fF 0x204 31 29 0 .ro [(8, 2048)]

/-- PROV.PSTATUS.RECORDING. -/
def PROV.PSTATUS_RECORDING : Fld := fF 0x204 28 28 0 .ro [(8, 2048)]

/-- PROV.RUN_FLAGS.FLAGS. -/
def PROV.RUN_FLAGS_FLAGS : Fld := fF 0x208 16 0 0 .ro [(8, 2048)]

/-- PROV.REPLAY_CHECK.BITS. -/
def PROV.REPLAY_CHECK_BITS : Fld := fF 0x20c 8 0 0 .ro [(8, 2048)]

/-- PROV.RECORD_BASE_LO.BASE. -/
def PROV.RECORD_BASE_LO_BASE : Fld := fF 0x210 31 0 0 .rw [(8, 2048)]

/-- PROV.RECORD_BASE_HI.BASE. -/
def PROV.RECORD_BASE_HI_BASE : Fld := fF 0x214 5 0 0 .rw [(8, 2048)]

/-- PROV.RECORD_SIZE.SIZE. -/
def PROV.RECORD_SIZE_SIZE : Fld := fF 0x218 15 0 0 .rw [(8, 2048)]

/-- PROV.RECORD_USED.BLOCKS. -/
def PROV.RECORD_USED_BLOCKS : Fld := fF 0x21c 31 0 0 .ro [(8, 2048)]

/-- PROV.REPLAY_BASE_LO.BASE. -/
def PROV.REPLAY_BASE_LO_BASE : Fld := fF 0x220 31 0 0 .rw [(8, 2048)]

/-- PROV.REPLAY_BASE_HI.BASE. -/
def PROV.REPLAY_BASE_HI_BASE : Fld := fF 0x224 5 0 0 .rw [(8, 2048)]

/-- PROV.REPLAY_SIZE.SIZE. -/
def PROV.REPLAY_SIZE_SIZE : Fld := fF 0x228 15 0 0 .rw [(8, 2048)]

/-- PROV.SCRATCH_BASE_LO.BASE. -/
def PROV.SCRATCH_BASE_LO_BASE : Fld := fF 0x22c 31 0 0 .rw [(8, 2048)]

/-- PROV.SCRATCH_BASE_HI.BASE. -/
def PROV.SCRATCH_BASE_HI_BASE : Fld := fF 0x230 5 0 0 .rw [(8, 2048)]

/-- PROV.SCRATCH_SIZE.SIZE. -/
def PROV.SCRATCH_SIZE_SIZE : Fld := fF 0x234 6 0 0 .rw [(8, 2048)]

/-- PROV.REF_RUN_LO.N. -/
def PROV.REF_RUN_LO_N : Fld := fF 0x238 31 0 0 .ro [(8, 2048)]

/-- PROV.REF_RUN_HI.N. -/
def PROV.REF_RUN_HI_N : Fld := fF 0x23c 31 0 0 .ro [(8, 2048)]

/-- PROV.RTY_RUN_LO.N. -/
def PROV.RTY_RUN_LO_N : Fld := fF 0x240 31 0 0 .ro [(8, 2048)]

/-- PROV.RTY_RUN_HI.N. -/
def PROV.RTY_RUN_HI_N : Fld := fF 0x244 31 0 0 .ro [(8, 2048)]

/-- PROV.OVL_RUN.N. -/
def PROV.OVL_RUN_N : Fld := fF 0x248 31 0 0 .ro [(8, 2048)]

/-- PROV.HELD_RUN_LO.N. -/
def PROV.HELD_RUN_LO_N : Fld := fF 0x24c 31 0 0 .ro [(8, 2048)]

/-- PROV.HELD_RUN_HI.N. -/
def PROV.HELD_RUN_HI_N : Fld := fF 0x250 31 0 0 .ro [(8, 2048)]

/-- PROV.DIGEST_WAIT.N. -/
def PROV.DIGEST_WAIT_N : Fld := fF 0x254 31 0 0 .ro [(8, 2048)]

/-- PROV.SLIP.SLIP_COUNT. -/
def PROV.SLIP_SLIP_COUNT : Fld := fF 0x258 31 16 0 .rc [(8, 2048)]

/-- PROV.SLIP.SLIP_MAX. -/
def PROV.SLIP_SLIP_MAX : Fld := fF 0x258 15 0 0 .rc [(8, 2048)]

/-- PROV.FEED_ENTRIES.N. -/
def PROV.FEED_ENTRIES_N : Fld := fF 0x25c 31 0 0 .ro [(8, 2048)]

/-- PROV.PROG_DIGEST.W. -/
def PROV.PROG_DIGEST_W : Fld := fF 0x260 31 0 0 .ro [(8, 2048), (8, 32)]

/-- PROV.WEIGHTS_DIGEST.W. -/
def PROV.WEIGHTS_DIGEST_W : Fld := fF 0x280 31 0 0 .ro [(8, 2048), (8, 32)]

/-- PROV.INPUT_DIGEST.W. -/
def PROV.INPUT_DIGEST_W : Fld := fF 0x2a0 31 0 0 .ro [(8, 2048), (8, 32)]

/-- PROV.RECORD_ENTRIES.N. -/
def PROV.RECORD_ENTRIES_N : Fld := fF 0x2c0 31 0 0 .ro [(8, 2048)]

/-- PROV registers, part 1 (Table 16.11). -/
def PROV.table1 : List Fld :=
  [PROV.PROV_OWNER_HH, PROV.PROV_STATUS_CORE_BUSY, PROV.PCFG_RECORD_EN, PROV.PCFG_REPLAY_EN, PROV.PSTATUS_FEED_STATE, PROV.PSTATUS_RECORDING, PROV.RUN_FLAGS_FLAGS, PROV.REPLAY_CHECK_BITS, PROV.RECORD_BASE_LO_BASE, PROV.RECORD_BASE_HI_BASE, PROV.RECORD_SIZE_SIZE, PROV.RECORD_USED_BLOCKS, PROV.REPLAY_BASE_LO_BASE, PROV.REPLAY_BASE_HI_BASE, PROV.REPLAY_SIZE_SIZE, PROV.SCRATCH_BASE_LO_BASE, PROV.SCRATCH_BASE_HI_BASE, PROV.SCRATCH_SIZE_SIZE, PROV.REF_RUN_LO_N, PROV.REF_RUN_HI_N, PROV.RTY_RUN_LO_N, PROV.RTY_RUN_HI_N, PROV.OVL_RUN_N, PROV.HELD_RUN_LO_N]

/-- PROV registers, part 2 (Table 16.11). -/
def PROV.table2 : List Fld :=
  [PROV.HELD_RUN_HI_N, PROV.DIGEST_WAIT_N, PROV.SLIP_SLIP_COUNT, PROV.SLIP_SLIP_MAX, PROV.FEED_ENTRIES_N, PROV.PROG_DIGEST_W, PROV.WEIGHTS_DIGEST_W, PROV.INPUT_DIGEST_W, PROV.RECORD_ENTRIES_N]

/-- The PROV page's registers (Table 16.11). -/
def PROV.table : List Fld := PROV.table1 ++ PROV.table2

/-- Event AUTH_OK of DEBUG. -/
def DEBUG.evAUTH_OK : Ev := ⟨0, 0⟩

/-- Event AUTH_FAIL of DEBUG. -/
def DEBUG.evAUTH_FAIL : Ev := ⟨1, 2⟩

/-- Event HALTED of DEBUG. -/
def DEBUG.evHALTED : Ev := ⟨2, 0⟩

/-- Event RESUMED of DEBUG. -/
def DEBUG.evRESUMED : Ev := ⟨3, 0⟩

/-- Event WICKET_EXCLUDED of DEBUG. -/
def DEBUG.evWICKET_EXCLUDED : Ev := ⟨4, 5⟩

/-- Event WICKET_PROTO of DEBUG. -/
def DEBUG.evWICKET_PROTO : Ev := ⟨5, 6⟩

/-- Event AUTH_LOCKOUT of DEBUG. -/
def DEBUG.evAUTH_LOCKOUT : Ev := ⟨6, 7⟩

/-- Event CTX_DENIED of DEBUG. -/
def DEBUG.evCTX_DENIED : Ev := ⟨7, 8⟩

/-- Event SESSION_END of DEBUG. -/
def DEBUG.evSESSION_END : Ev := ⟨8, 0⟩

/-- DEBUG.SESSION.AUTH. -/
def DEBUG.SESSION_AUTH : Fld := fF 0x100 31 31 0 .ro

/-- DEBUG.SESSION.OPEN_BOOT. -/
def DEBUG.SESSION_OPEN_BOOT : Fld := fF 0x100 30 30 1 .ro

/-- DEBUG.SESSION.LOCKOUT. -/
def DEBUG.SESSION_LOCKOUT : Fld := fF 0x100 29 29 0 .ro

/-- DEBUG.SESSION.ID. -/
def DEBUG.SESSION_ID : Fld := fF 0x100 27 24 14 .ro

/-- DEBUG.KEY_STATUS.KEY_SET. -/
def DEBUG.KEY_STATUS_KEY_SET : Fld := fF 0x104 8 0 0 .ro

/-- DEBUG.RIGHTS.HH. -/
def DEBUG.RIGHTS_HH : Fld := ((fF 0x108 3 0 0 .rw [(8, 4)]).locked).byMgr

/-- DEBUG.SESSION_CTRL.END. -/
def DEBUG.SESSION_CTRL_END : Fld := (fF 0x10c 0 0 0 .wo).byMgr

/-- DEBUG.PROTO_ERRS.CRC. -/
def DEBUG.PROTO_ERRS_CRC : Fld := fF 0x110 31 16 0 .rc

/-- DEBUG.PROTO_ERRS.OTHER. -/
def DEBUG.PROTO_ERRS_OTHER : Fld := fF 0x110 15 0 0 .rc

/-- DEBUG.AUTH_FAILS.COUNT. -/
def DEBUG.AUTH_FAILS_COUNT : Fld := fF 0x114 15 0 0 .ro

/-- DEBUG.RUN_CTRL.HALT. -/
def DEBUG.RUN_CTRL_HALT : Fld := fF 0x200 31 31 0 .wo [(8, 512)]

/-- DEBUG.RUN_CTRL.RESUME. -/
def DEBUG.RUN_CTRL_RESUME : Fld := fF 0x200 30 30 0 .wo [(8, 512)]

/-- DEBUG.RUN_CTRL.STEP. -/
def DEBUG.RUN_CTRL_STEP : Fld := fF 0x200 29 29 0 .wo [(8, 512)]

/-- DEBUG.RUN_CTRL.STEP_N. -/
def DEBUG.RUN_CTRL_STEP_N : Fld := fF 0x200 15 0 1 .rw [(8, 512)]

/-- DEBUG.RUN_STATUS.HALTED. -/
def DEBUG.RUN_STATUS_HALTED : Fld := fF 0x204 31 31 0 .ro [(8, 512)]

/-- DEBUG.RUN_STATUS.STEPPING. -/
def DEBUG.RUN_STATUS_STEPPING : Fld := fF 0x204 30 30 0 .ro [(8, 512)]

/-- DEBUG.RUN_STATUS.CAUSE. -/
def DEBUG.RUN_STATUS_CAUSE : Fld := fF 0x204 27 24 0 .ro [(8, 512)]

/-- DEBUG.RUN_STATUS.TILE. -/
def DEBUG.RUN_STATUS_TILE : Fld := fF 0x204 5 0 0 .ro [(8, 512)]

/-- DEBUG.HALT_SID_LO.T. -/
def DEBUG.HALT_SID_LO_T : Fld := fF 0x208 31 0 0 .ro [(8, 512)]

/-- DEBUG.HALT_SID_HI.T. -/
def DEBUG.HALT_SID_HI_T : Fld := fF 0x20c 31 0 0 .ro [(8, 512)]

/-- DEBUG.HALT_TICKS_LO.N. -/
def DEBUG.HALT_TICKS_LO_N : Fld := fF 0x210 31 0 0 .ro [(8, 512)]

/-- DEBUG.HALT_TICKS_HI.N. -/
def DEBUG.HALT_TICKS_HI_N : Fld := fF 0x214 31 0 0 .ro [(8, 512)]

/-- DEBUG.CTX_SEL.TILE. -/
def DEBUG.CTX_SEL_TILE : Fld := fF 0x218 31 26 0 .rw [(8, 512)]

/-- DEBUG.CTX_SEL.LEAF. -/
def DEBUG.CTX_SEL_LEAF : Fld := fF 0x218 25 20 0 .rw [(8, 512)]

/-- DEBUG.CTX_SEL.FILE. -/
def DEBUG.CTX_SEL_FILE : Fld := fF 0x218 19 18 0 .rw [(8, 512)]

/-- DEBUG.CTX_SEL.REG. -/
def DEBUG.CTX_SEL_REG : Fld := fF 0x218 17 13 0 .rw [(8, 512)]

/-- DEBUG.CTX_SEL.LANE. -/
def DEBUG.CTX_SEL_LANE : Fld := fF 0x218 12 9 0 .rw [(8, 512)]

/-- DEBUG.CTX_DATA_LO.D. -/
def DEBUG.CTX_DATA_LO_D : Fld := fF 0x21c 31 0 0 .ro [(8, 512)]

/-- DEBUG.CTX_DATA_HI.D. -/
def DEBUG.CTX_DATA_HI_D : Fld := fF 0x220 31 0 0 .ro [(8, 512)]

/-- DEBUG.HALT_COUNT.N. -/
def DEBUG.HALT_COUNT_N : Fld := fF 0x224 15 0 0 .rc [(8, 512)]

/-- DEBUG.KEY.W. -/
def DEBUG.KEY_W : Fld := ((fF 0x800 31 0 0 .wo [(9, 256), (8, 32)]).locked).byMgr

/-- DEBUG registers, part 1 (Table 18.10). -/
def DEBUG.table1 : List Fld :=
  [DEBUG.SESSION_AUTH, DEBUG.SESSION_OPEN_BOOT, DEBUG.SESSION_LOCKOUT, DEBUG.SESSION_ID, DEBUG.KEY_STATUS_KEY_SET, DEBUG.RIGHTS_HH, DEBUG.SESSION_CTRL_END, DEBUG.PROTO_ERRS_CRC, DEBUG.PROTO_ERRS_OTHER, DEBUG.AUTH_FAILS_COUNT, DEBUG.RUN_CTRL_HALT, DEBUG.RUN_CTRL_RESUME, DEBUG.RUN_CTRL_STEP, DEBUG.RUN_CTRL_STEP_N, DEBUG.RUN_STATUS_HALTED, DEBUG.RUN_STATUS_STEPPING, DEBUG.RUN_STATUS_CAUSE, DEBUG.RUN_STATUS_TILE, DEBUG.HALT_SID_LO_T, DEBUG.HALT_SID_HI_T, DEBUG.HALT_TICKS_LO_N, DEBUG.HALT_TICKS_HI_N, DEBUG.CTX_SEL_TILE, DEBUG.CTX_SEL_LEAF]

/-- DEBUG registers, part 2 (Table 18.10). -/
def DEBUG.table2 : List Fld :=
  [DEBUG.CTX_SEL_FILE, DEBUG.CTX_SEL_REG, DEBUG.CTX_SEL_LANE, DEBUG.CTX_DATA_LO_D, DEBUG.CTX_DATA_HI_D, DEBUG.HALT_COUNT_N, DEBUG.KEY_W]

/-- The DEBUG page's registers (Table 18.10). -/
def DEBUG.table : List Fld := DEBUG.table1 ++ DEBUG.table2

/-- Event FAULTN_ON of FAULT. -/
def FAULT.evFAULTN_ON : Ev := ⟨0, 0⟩

/-- Event NOTIFY_BAD of FAULT. -/
def FAULT.evNOTIFY_BAD : Ev := ⟨1, 2⟩

/-- FAULT.PEND_MAP.MAP. -/
def FAULT.PEND_MAP_MAP : Fld := fF 0x100 31 0 0 .ro [(16, 32)]

/-- FAULT.MGR_MASK.PAGE. -/
def FAULT.MGR_MASK_PAGE : Fld := fF 0x140 0 0 1 .rw [(512, 1)]

/-- FAULT.FAULTN_MASK.PAGE. -/
def FAULT.FAULTN_MASK_PAGE : Fld := (fF 0x180 0 0 0 .rw [(512, 1)]).locked

/-- FAULT.SUMMARY.HH. -/
def FAULT.SUMMARY_HH : Fld := fF 0x1c0 15 8 0 .ro

/-- FAULT.SUMMARY.FAULTN. -/
def FAULT.SUMMARY_FAULTN : Fld := fF 0x1c0 1 1 0 .ro

/-- FAULT.SUMMARY.MGR. -/
def FAULT.SUMMARY_MGR : Fld := fF 0x1c0 0 0 0 .ro

/-- FAULT.FIRST_INFO.VALID. -/
def FAULT.FIRST_INFO_VALID : Fld := fF 0x1c4 31 31 0 .w1c

/-- FAULT.FIRST_INFO.HH. -/
def FAULT.FIRST_INFO_HH : Fld := fF 0x1c4 27 24 0 .ro

/-- FAULT.FIRST_INFO.PAGE. -/
def FAULT.FIRST_INFO_PAGE : Fld := fF 0x1c4 23 15 0 .ro

/-- FAULT.FIRST_INFO.BIT. -/
def FAULT.FIRST_INFO_BIT : Fld := fF 0x1c4 12 8 0 .ro

/-- FAULT.FIRST_INFO.CODE. -/
def FAULT.FIRST_INFO_CODE : Fld := fF 0x1c4 7 0 0 .ro

/-- FAULT.FIRST_SID.T. -/
def FAULT.FIRST_SID_T : Fld := fF 0x1c8 31 0 0 .ro

/-- FAULT.FAULTN_CTRL.FORCE. -/
def FAULT.FAULTN_CTRL_FORCE : Fld := fF 0x1cc 0 0 0 .rw

/-- FAULT.NOTIFY_COUNT.COUNT. -/
def FAULT.NOTIFY_COUNT_COUNT : Fld := fF 0x1d0 31 0 0 .rc

/-- FAULT.ATTRIB_SEL.PAGE. -/
def FAULT.ATTRIB_SEL_PAGE : Fld := fF 0x1d4 8 0 0 .rw

/-- FAULT.ATTRIB.HH. -/
def FAULT.ATTRIB_HH : Fld := fF 0x1d8 3 0 15 .ro

/-- FAULT registers, part 1 (Table 19.8). -/
def FAULT.table1 : List Fld :=
  [FAULT.PEND_MAP_MAP, FAULT.MGR_MASK_PAGE, FAULT.FAULTN_MASK_PAGE, FAULT.SUMMARY_HH, FAULT.SUMMARY_FAULTN, FAULT.SUMMARY_MGR, FAULT.FIRST_INFO_VALID, FAULT.FIRST_INFO_HH, FAULT.FIRST_INFO_PAGE, FAULT.FIRST_INFO_BIT, FAULT.FIRST_INFO_CODE, FAULT.FIRST_SID_T, FAULT.FAULTN_CTRL_FORCE, FAULT.NOTIFY_COUNT_COUNT, FAULT.ATTRIB_SEL_PAGE, FAULT.ATTRIB_HH]

/-- The FAULT page's registers (Table 19.8). -/
def FAULT.table : List Fld := FAULT.table1

end Sys2Proof.Machine
end

