-- ==== Sys2Proof/Machine/RegsHost.lean ====
section
/-!
DEFINITION. The registers and events of the HOST and HH pages (R668 to R670, Tables 17.13 to 17.16).
-/

namespace Sys2Proof.Machine

/-- Event LINK_UP of HOST. -/
def HOST.evLINK_UP : Ev := ⟨0, 0⟩

/-- Event LINK_DOWN of HOST. -/
def HOST.evLINK_DOWN : Ev := ⟨1, 2⟩

/-- Event PERST of HOST. -/
def HOST.evPERST : Ev := ⟨2, 0⟩

/-- Event PF_FLR of HOST. -/
def HOST.evPF_FLR : Ev := ⟨3, 0⟩

/-- Event POISONED_RX of HOST. -/
def HOST.evPOISONED_RX : Ev := ⟨4, 5⟩

/-- Event MALFORMED of HOST. -/
def HOST.evMALFORMED : Ev := ⟨5, 6⟩

/-- Event UR_SENT of HOST. -/
def HOST.evUR_SENT : Ev := ⟨6, 7⟩

/-- Event CPL_TIMEOUT of HOST. -/
def HOST.evCPL_TIMEOUT : Ev := ⟨7, 8⟩

/-- Event RESET_DONE of HOST. -/
def HOST.evRESET_DONE : Ev := ⟨8, 0⟩

/-- Event RING_ERR of HOST. -/
def HOST.evRING_ERR : Ev := ⟨9, 10⟩

/-- HOST.PCIE_STATUS.LINK_UP. -/
def HOST.PCIE_STATUS_LINK_UP : Fld := fF 0x100 31 31 0 .ro

/-- HOST.PCIE_STATUS.SPEED. -/
def HOST.PCIE_STATUS_SPEED : Fld := fF 0x100 19 16 0 .ro

/-- HOST.PCIE_STATUS.WIDTH. -/
def HOST.PCIE_STATUS_WIDTH : Fld := fF 0x100 13 8 0 .ro

/-- HOST.PCIE_STATUS.LTSSM. -/
def HOST.PCIE_STATUS_LTSSM : Fld := fF 0x100 5 0 0 .ro

/-- HOST.LINK_CFG.TARGET_SPEED. -/
def HOST.LINK_CFG_TARGET_SPEED : Fld := (fF 0x104 7 4 4 .rw).locked

/-- HOST.LINK_CFG.LINKDOWN_ACTION. -/
def HOST.LINK_CFG_LINKDOWN_ACTION : Fld := (fF 0x104 3 2 0 .rw).locked

/-- HOST.LINK_CFG.PERST_ACTION. -/
def HOST.LINK_CFG_PERST_ACTION : Fld := (fF 0x104 1 0 0 .rw).locked

/-- HOST.CPL_TMO.EXP. -/
def HOST.CPL_TMO_EXP : Fld := ((fF 0x108 4 0 18 .rw).locked).clamped 12 22 0

/-- HOST.FUNC_STATUS.BME. -/
def HOST.FUNC_STATUS_BME : Fld := fF 0x10c 24 16 0 .ro

/-- HOST.FUNC_STATUS.NUM_VFS. -/
def HOST.FUNC_STATUS_NUM_VFS : Fld := fF 0x10c 11 8 0 .ro

/-- HOST.FUNC_STATUS.VF_ENABLE. -/
def HOST.FUNC_STATUS_VF_ENABLE : Fld := fF 0x10c 0 0 0 .ro

/-- HOST.HH_RESET.HH. -/
def HOST.HH_RESET_HH : Fld := fF 0x110 7 0 0 .w1s

/-- HOST.PF_EVT_VEC.VEC. -/
def HOST.PF_EVT_VEC_VEC : Fld := fF 0x114 5 0 0 .rw

/-- HOST.APERTURE_BASE_LO.BASE. -/
def HOST.APERTURE_BASE_LO_BASE : Fld := fF 0x118 31 24 0 .rw

/-- HOST.APERTURE_BASE_HI.BASE. -/
def HOST.APERTURE_BASE_HI_BASE : Fld := fF 0x11c 15 0 0 .rw

/-- HOST.ERR_COUNTS.POISONED_RX. -/
def HOST.ERR_COUNTS_POISONED_RX : Fld := fF 0x120 31 24 0 .rc

/-- HOST.ERR_COUNTS.MALFORMED. -/
def HOST.ERR_COUNTS_MALFORMED : Fld := fF 0x120 23 16 0 .rc

/-- HOST.ERR_COUNTS.UR_SENT. -/
def HOST.ERR_COUNTS_UR_SENT : Fld := fF 0x120 15 8 0 .rc

/-- HOST.ERR_COUNTS.CPL_TIMEOUT. -/
def HOST.ERR_COUNTS_CPL_TIMEOUT : Fld := fF 0x120 7 0 0 .rc

/-- HOST.PHY_LAT.RX. -/
def HOST.PHY_LAT_RX : Fld := fF 0x124 31 16 0 .ro

/-- HOST.PHY_LAT.TX. -/
def HOST.PHY_LAT_TX : Fld := fF 0x124 15 0 0 .ro

/-- HOST.RING_CFG.EN. -/
def HOST.RING_CFG_EN : Fld := fF 0x400 31 31 0 .rw [(64, 256)]

/-- HOST.RING_CFG.VEC. -/
def HOST.RING_CFG_VEC : Fld := fF 0x400 29 24 0 .rw [(64, 256)]

/-- HOST.RING_CFG.SIZE_CODE. -/
def HOST.RING_CFG_SIZE_CODE : Fld := fF 0x400 3 0 0 .rw [(64, 256)]

/-- HOST.RING_BASE_LO.BASE. -/
def HOST.RING_BASE_LO_BASE : Fld := fF 0x404 31 12 0 .rw [(64, 256)]

/-- HOST.RING_BASE_HI.BASE. -/
def HOST.RING_BASE_HI_BASE : Fld := fF 0x408 31 0 0 .rw [(64, 256)]

/-- HOST.WB_ADDR_LO.ADDR. -/
def HOST.WB_ADDR_LO_ADDR : Fld := fF 0x40c 31 3 0 .rw [(64, 256)]

/-- HOST.WB_ADDR_HI.ADDR. -/
def HOST.WB_ADDR_HI_ADDR : Fld := fF 0x410 31 0 0 .rw [(64, 256)]

/-- HOST.RING_HEAD.HEAD. -/
def HOST.RING_HEAD_HEAD : Fld := fF 0x414 24 0 0 .rw [(64, 256)]

/-- HOST.RING_TAIL.BLOCKED. -/
def HOST.RING_TAIL_BLOCKED : Fld := fF 0x418 31 28 0 .ro [(64, 256)]

/-- HOST.RING_TAIL.TAIL. -/
def HOST.RING_TAIL_TAIL : Fld := fF 0x418 24 0 0 .ro [(64, 256)]

/-- HOST.RING_IRQ.RING_LOST. -/
def HOST.RING_IRQ_RING_LOST : Fld := fF 0x41c 31 24 0 .rc [(64, 256)]

/-- HOST.RING_IRQ.COAL_N. -/
def HOST.RING_IRQ_COAL_N : Fld := fF 0x41c 23 16 1 .rw [(64, 256)]

/-- HOST.RING_IRQ.COAL_ST. -/
def HOST.RING_IRQ_COAL_ST : Fld := fF 0x41c 15 0 0 .rw [(64, 256)]

/-- HOST registers, part 1 (Table 17.14). -/
def HOST.table1 : List Fld :=
  [HOST.PCIE_STATUS_LINK_UP, HOST.PCIE_STATUS_SPEED, HOST.PCIE_STATUS_WIDTH, HOST.PCIE_STATUS_LTSSM, HOST.LINK_CFG_TARGET_SPEED, HOST.LINK_CFG_LINKDOWN_ACTION, HOST.LINK_CFG_PERST_ACTION, HOST.CPL_TMO_EXP, HOST.FUNC_STATUS_BME, HOST.FUNC_STATUS_NUM_VFS, HOST.FUNC_STATUS_VF_ENABLE, HOST.HH_RESET_HH, HOST.PF_EVT_VEC_VEC, HOST.APERTURE_BASE_LO_BASE, HOST.APERTURE_BASE_HI_BASE, HOST.ERR_COUNTS_POISONED_RX, HOST.ERR_COUNTS_MALFORMED, HOST.ERR_COUNTS_UR_SENT, HOST.ERR_COUNTS_CPL_TIMEOUT, HOST.PHY_LAT_RX, HOST.PHY_LAT_TX, HOST.RING_CFG_EN, HOST.RING_CFG_VEC, HOST.RING_CFG_SIZE_CODE]

/-- HOST registers, part 2 (Table 17.14). -/
def HOST.table2 : List Fld :=
  [HOST.RING_BASE_LO_BASE, HOST.RING_BASE_HI_BASE, HOST.WB_ADDR_LO_ADDR, HOST.WB_ADDR_HI_ADDR, HOST.RING_HEAD_HEAD, HOST.RING_TAIL_BLOCKED, HOST.RING_TAIL_TAIL, HOST.RING_IRQ_RING_LOST, HOST.RING_IRQ_COAL_N, HOST.RING_IRQ_COAL_ST]

/-- The HOST page's registers (Table 17.14). -/
def HOST.table : List Fld := HOST.table1 ++ HOST.table2

/-- Event ACCESS_DENIED of HH. -/
def HH.evACCESS_DENIED : Ev := ⟨0, 1⟩

/-- Event RESET_DONE of HH. -/
def HH.evRESET_DONE : Ev := ⟨1, 0⟩

/-- Event RING_ERR of HH. -/
def HH.evRING_ERR : Ev := ⟨2, 3⟩

/-- Event MB_ERR of HH. -/
def HH.evMB_ERR : Ev := ⟨3, 4⟩

/-- Event MB_TRUNC of HH. -/
def HH.evMB_TRUNC : Ev := ⟨4, 0⟩

/-- Event CPL_TIMEOUT of HH. -/
def HH.evCPL_TIMEOUT : Ev := ⟨5, 6⟩

/-- Event VF_FLR of HH. -/
def HH.evVF_FLR : Ev := ⟨6, 0⟩

/-- HH.SID_LO.SID_LO. -/
def HH.SID_LO_SID_LO : Fld := fF 0x100 31 0 0 .ro

/-- HH.SID_HI.SID_HI. -/
def HH.SID_HI_SID_HI : Fld := fF 0x104 31 0 0 .ro

/-- HH.ALM_SEL.INDEX. -/
def HH.ALM_SEL_INDEX : Fld := fF 0x108 5 0 0 .rw

/-- HH.ALM_MER_LO.MER_LO. -/
def HH.ALM_MER_LO_MER_LO : Fld := fF 0x10c 31 0 0 .ro

/-- HH.ALM_MER_HI.MER_HI. -/
def HH.ALM_MER_HI_MER_HI : Fld := fF 0x110 31 0 0 .ro

/-- HH.ALM_ACTION.OWNER. -/
def HH.ALM_ACTION_OWNER : Fld := fF 0x114 31 28 0 .ro

/-- HH.ALM_ACTION.LATE. -/
def HH.ALM_ACTION_LATE : Fld := fF 0x114 25 24 0 .ro

/-- HH.ALM_ACTION.TARGET. -/
def HH.ALM_ACTION_TARGET : Fld := fF 0x114 16 8 0 .ro

/-- HH.ALM_ACTION.CODE. -/
def HH.ALM_ACTION_CODE : Fld := fF 0x114 3 0 0 .ro

/-- HH.ALM_ARG.ARG. -/
def HH.ALM_ARG_ARG : Fld := fF 0x118 31 0 0 .ro

/-- HH.ALM_CTRL.STATE. -/
def HH.ALM_CTRL_STATE : Fld := fF 0x11c 7 4 0 .ro

/-- HH.ALM_CTRL.CANCEL. -/
def HH.ALM_CTRL_CANCEL : Fld := fF 0x11c 1 1 0 .wo

/-- HH.ALM_CTRL.ARM. -/
def HH.ALM_CTRL_ARM : Fld := fF 0x11c 0 0 0 .wo

/-- HH.ALM_APPLIED_LO.APP_LO. -/
def HH.ALM_APPLIED_LO_APP_LO : Fld := fF 0x120 31 0 0 .ro

/-- HH.ALM_APPLIED_HI.APP_HI. -/
def HH.ALM_APPLIED_HI_APP_HI : Fld := fF 0x124 31 0 0 .ro

/-- HH.HH_STATUS.FLR_PENDING. -/
def HH.HH_STATUS_FLR_PENDING : Fld := fF 0x140 3 3 0 .ro

/-- HH.HH_STATUS.RESET_BUSY. -/
def HH.HH_STATUS_RESET_BUSY : Fld := fF 0x140 2 2 0 .ro

/-- HH.HH_STATUS.BME. -/
def HH.HH_STATUS_BME : Fld := fF 0x140 1 1 0 .ro

/-- HH.HH_STATUS.VF_PRESENT. -/
def HH.HH_STATUS_VF_PRESENT : Fld := fF 0x140 0 0 0 .ro

/-- HH.HH_CTRL.KEY. -/
def HH.HH_CTRL_KEY : Fld := fF 0x144 15 8 0 .wo

/-- HH.HH_CTRL.RESET. -/
def HH.HH_CTRL_RESET : Fld := fF 0x144 0 0 0 .wo

/-- HH.DENY_INFO.VALID. -/
def HH.DENY_INFO_VALID : Fld := fF 0x148 31 31 0 .w1c

/-- HH.DENY_INFO.WRITE. -/
def HH.DENY_INFO_WRITE : Fld := fF 0x148 30 30 0 .ro

/-- HH.DENY_INFO.MASTER. -/
def HH.DENY_INFO_MASTER : Fld := fF 0x148 26 24 0 .ro

/-- HH.DENY_INFO.SRC_NODE. -/
def HH.DENY_INFO_SRC_NODE : Fld := fF 0x148 21 16 0 .ro

/-- HH.DENY_ADDR_LO.ADDR. -/
def HH.DENY_ADDR_LO_ADDR : Fld := fF 0x14c 31 0 0 .ro

/-- HH.DENY_ADDR_HI.ADDR. -/
def HH.DENY_ADDR_HI_ADDR : Fld := fF 0x150 15 0 0 .ro

/-- HH.DENY_COUNT.COUNT. -/
def HH.DENY_COUNT_COUNT : Fld := fF 0x154 15 0 0 .rc

/-- HH.EVT_VEC.VEC. -/
def HH.EVT_VEC_VEC : Fld := fF 0x158 5 0 0 .rw

/-- HH.APERTURE_BASE_LO.BASE. -/
def HH.APERTURE_BASE_LO_BASE : Fld := fF 0x15c 31 24 0 .rw

/-- HH.APERTURE_BASE_HI.BASE. -/
def HH.APERTURE_BASE_HI_BASE : Fld := fF 0x160 5 0 0 .rw

/-- HH.MB_CFG.EN. -/
def HH.MB_CFG_EN : Fld := fF 0x200 31 31 0 .rw [(16, 128)]

/-- HH.MB_CFG.VEC. -/
def HH.MB_CFG_VEC : Fld := fF 0x200 29 24 0 .rw [(16, 128)]

/-- HH.MB_CFG.QUEUE. -/
def HH.MB_CFG_QUEUE : Fld := fF 0x200 7 0 0 .rw [(16, 128)]

/-- HH.MB_STATUS.SEQ. -/
def HH.MB_STATUS_SEQ : Fld := fF 0x204 31 16 0 .ro [(16, 128)]

/-- HH.MB_STATUS.STATE. -/
def HH.MB_STATUS_STATE : Fld := fF 0x204 15 14 0 .ro [(16, 128)]

/-- HH.MB_STATUS.POISON. -/
def HH.MB_STATUS_POISON : Fld := fF 0x204 13 13 0 .ro [(16, 128)]

/-- HH.MB_STATUS.TRUNC. -/
def HH.MB_STATUS_TRUNC : Fld := fF 0x204 12 12 0 .ro [(16, 128)]

/-- HH.MB_STATUS.LENGTH. -/
def HH.MB_STATUS_LENGTH : Fld := fF 0x204 10 0 0 .ro [(16, 128)]

/-- HH.MB_COUNTS.DOUBLE_READS. -/
def HH.MB_COUNTS_DOUBLE_READS : Fld := fF 0x208 31 16 0 .rc [(16, 128)]

/-- HH.MB_COUNTS.EARLY_READS. -/
def HH.MB_COUNTS_EARLY_READS : Fld := fF 0x208 15 0 0 .rc [(16, 128)]

/-- HH registers, part 1 (Tables 17.15 and 17.16). -/
def HH.table1 : List Fld :=
  [HH.SID_LO_SID_LO, HH.SID_HI_SID_HI, HH.ALM_SEL_INDEX, HH.ALM_MER_LO_MER_LO, HH.ALM_MER_HI_MER_HI, HH.ALM_ACTION_OWNER, HH.ALM_ACTION_LATE, HH.ALM_ACTION_TARGET, HH.ALM_ACTION_CODE, HH.ALM_ARG_ARG, HH.ALM_CTRL_STATE, HH.ALM_CTRL_CANCEL, HH.ALM_CTRL_ARM, HH.ALM_APPLIED_LO_APP_LO, HH.ALM_APPLIED_HI_APP_HI, HH.HH_STATUS_FLR_PENDING, HH.HH_STATUS_RESET_BUSY, HH.HH_STATUS_BME, HH.HH_STATUS_VF_PRESENT, HH.HH_CTRL_KEY, HH.HH_CTRL_RESET, HH.DENY_INFO_VALID, HH.DENY_INFO_WRITE, HH.DENY_INFO_MASTER]

/-- HH registers, part 2 (Tables 17.15 and 17.16). -/
def HH.table2 : List Fld :=
  [HH.DENY_INFO_SRC_NODE, HH.DENY_ADDR_LO_ADDR, HH.DENY_ADDR_HI_ADDR, HH.DENY_COUNT_COUNT, HH.EVT_VEC_VEC, HH.APERTURE_BASE_LO_BASE, HH.APERTURE_BASE_HI_BASE, HH.MB_CFG_EN, HH.MB_CFG_VEC, HH.MB_CFG_QUEUE, HH.MB_STATUS_SEQ, HH.MB_STATUS_STATE, HH.MB_STATUS_POISON, HH.MB_STATUS_TRUNC, HH.MB_STATUS_LENGTH, HH.MB_COUNTS_DOUBLE_READS, HH.MB_COUNTS_EARLY_READS]

/-- The HH page's registers (Tables 17.15 and 17.16). -/
def HH.table : List Fld := HH.table1 ++ HH.table2

/-- The ring block's registers, which the HH pages also show (R658, Table 17.16). -/
def HOST.ringTable : List Fld :=
  [HOST.RING_CFG_EN, HOST.RING_CFG_VEC, HOST.RING_CFG_SIZE_CODE, HOST.RING_BASE_LO_BASE, HOST.RING_BASE_HI_BASE,
   HOST.WB_ADDR_LO_ADDR, HOST.WB_ADDR_HI_ADDR, HOST.RING_HEAD_HEAD, HOST.RING_TAIL_BLOCKED, HOST.RING_TAIL_TAIL,
   HOST.RING_IRQ_RING_LOST, HOST.RING_IRQ_COAL_N, HOST.RING_IRQ_COAL_ST]

end Sys2Proof.Machine
end

