-- ==== Sys2Proof/Machine/RegsLine.lean ====
section
/-!
DEFINITION. The registers and events of the line unit's pages (R246 to R249, Tables 6.10 to 6.15).
-/

namespace Sys2Proof.Machine

/-- Event TRG_SHORT of LINE. -/
def LINE.evTRG_SHORT : Ev := ⟨0, 1⟩

/-- Event STB_SHORT of LINE. -/
def LINE.evSTB_SHORT : Ev := ⟨1, 2⟩

/-- Event OUT_SAFE of LINE. -/
def LINE.evOUT_SAFE : Ev := ⟨2, 0⟩

/-- LINE.OUT_CTRL.SAFE. -/
def LINE.OUT_CTRL_SAFE : Fld := fF 0x100 0 0 0 .rw

/-- LINE.TRG_MODE.LVCMOS. -/
def LINE.TRG_MODE_LVCMOS : Fld := (fF 0x104 15 0 0 .rw).locked

/-- LINE.SHORT.STB. -/
def LINE.SHORT_STB : Fld := fF 0x108 23 16 0 .ro

/-- LINE.SHORT.TRG. -/
def LINE.SHORT_TRG : Fld := fF 0x108 15 0 0 .ro

/-- LINE.LATENCY.AX422. -/
def LINE.LATENCY_AX422 : Fld := fF 0x10c 31 24 10 .ro

/-- LINE.LATENCY.AXHTL. -/
def LINE.LATENCY_AXHTL : Fld := fF 0x10c 23 16 24 .ro

/-- LINE.LATENCY.TRG_LVDS. -/
def LINE.LATENCY_TRG_LVDS : Fld := fF 0x10c 15 12 8 .ro

/-- LINE.LATENCY.TRG_CMOS. -/
def LINE.LATENCY_TRG_CMOS : Fld := fF 0x10c 11 8 10 .ro

/-- LINE.LATENCY.STB. -/
def LINE.LATENCY_STB : Fld := fF 0x10c 7 0 12 .ro

/-- LINE registers, part 1 (Table 6.11). -/
def LINE.table1 : List Fld :=
  [LINE.OUT_CTRL_SAFE, LINE.TRG_MODE_LVCMOS, LINE.SHORT_STB, LINE.SHORT_TRG, LINE.LATENCY_AX422, LINE.LATENCY_AXHTL, LINE.LATENCY_TRG_LVDS, LINE.LATENCY_TRG_CMOS, LINE.LATENCY_STB]

/-- The LINE page's registers (Table 6.11). -/
def LINE.table : List Fld := LINE.table1

/-- Event OPEN_WIRE of AXIS. -/
def AXIS.evOPEN_WIRE : Ev := ⟨0, 1⟩

/-- Event PAIR_REVERSED of AXIS. -/
def AXIS.evPAIR_REVERSED : Ev := ⟨1, 2⟩

/-- Event AB_SWAPPED of AXIS. -/
def AXIS.evAB_SWAPPED : Ev := ⟨2, 3⟩

/-- Event QUAD_ERR of AXIS. -/
def AXIS.evQUAD_ERR : Ev := ⟨3, 4⟩

/-- Event INDEX_DEV of AXIS. -/
def AXIS.evINDEX_DEV : Ev := ⟨4, 5⟩

/-- Event INDEX_MISSING of AXIS. -/
def AXIS.evINDEX_MISSING : Ev := ⟨5, 6⟩

/-- Event INDEX_SNAP of AXIS. -/
def AXIS.evINDEX_SNAP : Ev := ⟨6, 0⟩

/-- AXIS.AX_OWNER.CH. -/
def AXIS.AX_OWNER_CH : Fld := (fF 0x100 3 0 15 .rw [(6, 4)]).byMgr

/-- AXIS.CFG.EN. -/
def AXIS.CFG_EN : Fld := fF 0x200 31 31 0 .rw [(6, 512)]

/-- AXIS.CFG.MODE. -/
def AXIS.CFG_MODE : Fld := (fF 0x200 30 28 0 .rw [(6, 512)]).locked

/-- AXIS.CFG.INV_DIR. -/
def AXIS.CFG_INV_DIR : Fld := (fF 0x200 27 27 0 .rw [(6, 512)]).locked

/-- AXIS.CFG.EXPECT_DIR. -/
def AXIS.CFG_EXPECT_DIR : Fld := (fF 0x200 26 26 0 .rw [(6, 512)]).locked

/-- AXIS.CFG.INDEX_MODE. -/
def AXIS.CFG_INDEX_MODE : Fld := ((fF 0x200 25 24 0 .rw [(6, 512)]).locked).only 0 2

/-- AXIS.CFG.ZGATE_EN. -/
def AXIS.CFG_ZGATE_EN : Fld := (fF 0x200 23 23 0 .rw [(6, 512)]).locked

/-- AXIS.CFG.ZGATE. -/
def AXIS.CFG_ZGATE : Fld := (fF 0x200 22 21 3 .rw [(6, 512)]).locked

/-- AXIS.CFG.A_INV. -/
def AXIS.CFG_A_INV : Fld := (fF 0x200 20 20 0 .rw [(6, 512)]).locked

/-- AXIS.CFG.B_INV. -/
def AXIS.CFG_B_INV : Fld := (fF 0x200 19 19 0 .rw [(6, 512)]).locked

/-- AXIS.CFG.Z_INV. -/
def AXIS.CFG_Z_INV : Fld := (fF 0x200 18 18 0 .rw [(6, 512)]).locked

/-- AXIS.CFG.FILT. -/
def AXIS.CFG_FILT : Fld := (fF 0x200 15 12 4 .rw [(6, 512)]).locked

/-- AXIS.EPR.EPR. -/
def AXIS.EPR_EPR : Fld := (fF 0x204 31 0 0 .rw [(6, 512)]).locked

/-- AXIS.INDEX_VALUE.VALUE. -/
def AXIS.INDEX_VALUE_VALUE : Fld := (fF 0x208 31 0 0 .rw [(6, 512)]).locked

/-- AXIS.TOL.DIR_CHECK. -/
def AXIS.TOL_DIR_CHECK : Fld := (fF 0x20c 31 16 64 .rw [(6, 512)]).locked

/-- AXIS.TOL.INDEX_TOL. -/
def AXIS.TOL_INDEX_TOL : Fld := (fF 0x20c 15 0 4 .rw [(6, 512)]).locked

/-- AXIS.COUNT_LO.COUNT. -/
def AXIS.COUNT_LO_COUNT : Fld := fF 0x210 31 0 0 .rw [(6, 512)]

/-- AXIS.COUNT_HI.COUNT. -/
def AXIS.COUNT_HI_COUNT : Fld := fF 0x214 31 0 0 .rw [(6, 512)]

/-- AXIS.EDGE_T_LO.STAMP. -/
def AXIS.EDGE_T_LO_STAMP : Fld := fF 0x218 31 0 0 .ro [(6, 512)]

/-- AXIS.EDGE_T_HI.STAMP. -/
def AXIS.EDGE_T_HI_STAMP : Fld := fF 0x21c 31 0 0 .ro [(6, 512)]

/-- AXIS.INDEX_ERR.D. -/
def AXIS.INDEX_ERR_D : Fld := fF 0x220 31 0 0 .ro [(6, 512)]

/-- AXIS.DRIFT.DRIFT. -/
def AXIS.DRIFT_DRIFT : Fld := fF 0x224 31 0 0 .rw [(6, 512)]

/-- AXIS.STATUS.LIVE_FAULT. -/
def AXIS.STATUS_LIVE_FAULT : Fld := fF 0x228 16 16 0 .ro [(6, 512)]

/-- AXIS.STATUS.STICKY. -/
def AXIS.STATUS_STICKY : Fld := fF 0x228 10 0 0 .w1c [(6, 512)]

/-- AXIS.ERRCNT.QUAD. -/
def AXIS.ERRCNT_QUAD : Fld := fF 0x22c 31 16 0 .rc [(6, 512)]

/-- AXIS.ERRCNT.INDEX_DEV. -/
def AXIS.ERRCNT_INDEX_DEV : Fld := fF 0x22c 15 0 0 .rc [(6, 512)]

/-- AXIS registers, part 1 (Table 6.12). -/
def AXIS.table1 : List Fld :=
  [AXIS.AX_OWNER_CH, AXIS.CFG_EN, AXIS.CFG_MODE, AXIS.CFG_INV_DIR, AXIS.CFG_EXPECT_DIR, AXIS.CFG_INDEX_MODE, AXIS.CFG_ZGATE_EN, AXIS.CFG_ZGATE, AXIS.CFG_A_INV, AXIS.CFG_B_INV, AXIS.CFG_Z_INV, AXIS.CFG_FILT, AXIS.EPR_EPR, AXIS.INDEX_VALUE_VALUE, AXIS.TOL_DIR_CHECK, AXIS.TOL_INDEX_TOL, AXIS.COUNT_LO_COUNT, AXIS.COUNT_HI_COUNT, AXIS.EDGE_T_LO_STAMP, AXIS.EDGE_T_HI_STAMP, AXIS.INDEX_ERR_D, AXIS.DRIFT_DRIFT, AXIS.STATUS_LIVE_FAULT, AXIS.STATUS_STICKY]

/-- AXIS registers, part 2 (Table 6.12). -/
def AXIS.table2 : List Fld :=
  [AXIS.ERRCNT_QUAD, AXIS.ERRCNT_INDEX_DEV]

/-- The AXIS page's registers (Table 6.12). -/
def AXIS.table : List Fld := AXIS.table1 ++ AXIS.table2

/-- Event EPH_LATE of EPHEM. -/
def EPHEM.evEPH_LATE : Ev := ⟨0, 1⟩

/-- Event EPH_EXPIRED of EPHEM. -/
def EPHEM.evEPH_EXPIRED : Ev := ⟨1, 2⟩

/-- Event EPH_BAD of EPHEM. -/
def EPHEM.evEPH_BAD : Ev := ⟨2, 3⟩

/-- Event EPH_SEQ_GAP of EPHEM. -/
def EPHEM.evEPH_SEQ_GAP : Ev := ⟨3, 4⟩

/-- Event EPH_FIT_POOR of EPHEM. -/
def EPHEM.evEPH_FIT_POOR : Ev := ⟨4, 5⟩

/-- Event EPH_RESTART of EPHEM. -/
def EPHEM.evEPH_RESTART : Ev := ⟨5, 0⟩

/-- Event EPH_FOREIGN of EPHEM. -/
def EPHEM.evEPH_FOREIGN : Ev := ⟨6, 7⟩

/-- Event EPH_VALID of EPHEM. -/
def EPHEM.evEPH_VALID : Ev := ⟨7, 0⟩

/-- EPHEM.ROLE.ROLE. -/
def EPHEM.ROLE_ROLE : Fld := ((fF 0x100 1 0 0 .rw).locked).only 0 2

/-- EPHEM.SOURCE.MASTER_DEV. -/
def EPHEM.SOURCE_MASTER_DEV : Fld := (fF 0x104 25 16 0 .rw).locked

/-- EPHEM.SOURCE.AXIS. -/
def EPHEM.SOURCE_AXIS : Fld := ((fF 0x104 2 0 0 .rw).locked).only 0 5

/-- EPHEM.UM_PER_EDGE.UPE. -/
def EPHEM.UM_PER_EDGE_UPE : Fld := (fF 0x108 31 0 0 .rw).locked

/-- EPHEM.POS_OFFSET_LO.OFFSET. -/
def EPHEM.POS_OFFSET_LO_OFFSET : Fld := fF 0x10c 31 0 0 .sh

/-- EPHEM.POS_OFFSET_HI.OFFSET. -/
def EPHEM.POS_OFFSET_HI_OFFSET : Fld := fF 0x110 31 0 0 .sh

/-- EPHEM.LEAD.LEAD. -/
def EPHEM.LEAD_LEAD : Fld := ((fF 0x114 15 0 32768 .rw).locked).clamped 4096 61440 0

/-- EPHEM.VALID.VALID_LEN. -/
def EPHEM.VALID_VALID_LEN : Fld := ((fF 0x118 19 0 131072 .rw).locked).clamped 65536 1048575 1

/-- EPHEM.RES_LIM.LIMIT. -/
def EPHEM.RES_LIM_LIMIT : Fld := fF 0x11c 31 0 131072 .rw

/-- EPHEM.STATUS.CUR_SEQ. -/
def EPHEM.STATUS_CUR_SEQ : Fld := fF 0x120 31 16 0 .ro

/-- EPHEM.STATUS.FLAGS. -/
def EPHEM.STATUS_FLAGS : Fld := fF 0x120 5 0 0 .ro

/-- EPHEM.POS_NOW_LO.P. -/
def EPHEM.POS_NOW_LO_P : Fld := fF 0x124 31 0 0 .ro

/-- EPHEM.POS_NOW_HI.P. -/
def EPHEM.POS_NOW_HI_P : Fld := fF 0x128 31 0 0 .ro

/-- EPHEM.COUNTS.BAD. -/
def EPHEM.COUNTS_BAD : Fld := fF 0x12c 31 16 0 .rc

/-- EPHEM.COUNTS.LATE. -/
def EPHEM.COUNTS_LATE : Fld := fF 0x12c 15 0 0 .rc

/-- EPHEM.GAPS.SEQ_GAP. -/
def EPHEM.GAPS_SEQ_GAP : Fld := fF 0x130 15 0 0 .rc

/-- EPHEM.SEG_CUR.WORDS. -/
def EPHEM.SEG_CUR_WORDS : Fld := fF 0x140 31 0 0 .ro [(16, 32)]

/-- EPHEM.SEG_NEXT.WORDS. -/
def EPHEM.SEG_NEXT_WORDS : Fld := fF 0x180 31 0 0 .ro [(16, 32)]

/-- EPHEM registers, part 1 (Table 6.13). -/
def EPHEM.table1 : List Fld :=
  [EPHEM.ROLE_ROLE, EPHEM.SOURCE_MASTER_DEV, EPHEM.SOURCE_AXIS, EPHEM.UM_PER_EDGE_UPE, EPHEM.POS_OFFSET_LO_OFFSET, EPHEM.POS_OFFSET_HI_OFFSET, EPHEM.LEAD_LEAD, EPHEM.VALID_VALID_LEN, EPHEM.RES_LIM_LIMIT, EPHEM.STATUS_CUR_SEQ, EPHEM.STATUS_FLAGS, EPHEM.POS_NOW_LO_P, EPHEM.POS_NOW_HI_P, EPHEM.COUNTS_BAD, EPHEM.COUNTS_LATE, EPHEM.GAPS_SEQ_GAP, EPHEM.SEG_CUR_WORDS, EPHEM.SEG_NEXT_WORDS]

/-- The EPHEM page's registers (Table 6.13). -/
def EPHEM.table : List Fld := EPHEM.table1

/-- Event TRIG_OVERRUN of TRIG. -/
def TRIG.evTRIG_OVERRUN : Ev := ⟨0, 1⟩

/-- Event ARM_LATE of TRIG. -/
def TRIG.evARM_LATE : Ev := ⟨1, 2⟩

/-- Event TRIG_NOPOS of TRIG. -/
def TRIG.evTRIG_NOPOS : Ev := ⟨2, 3⟩

/-- Event TRIG_DONE of TRIG. -/
def TRIG.evTRIG_DONE : Ev := ⟨3, 0⟩

/-- TRIG.TRG_OWNER.OUT. -/
def TRIG.TRG_OWNER_OUT : Fld := (fF 0x100 3 0 15 .rw [(16, 4)]).byMgr

/-- TRIG.ARM_NOW.ARM. -/
def TRIG.ARM_NOW_ARM : Fld := fF 0x108 31 0 0 .wo

/-- TRIG.DISARM_NOW.DISARM. -/
def TRIG.DISARM_NOW_DISARM : Fld := fF 0x10c 31 0 0 .wo

/-- TRIG.ARMED.ARMED. -/
def TRIG.ARMED_ARMED : Fld := fF 0x110 31 0 0 .ro

/-- TRIG.CFG.MODE. -/
def TRIG.CFG_MODE : Fld := fF 0x200 31 31 0 .sh [(32, 512)]

/-- TRIG.CFG.DIR. -/
def TRIG.CFG_DIR : Fld := fF 0x200 30 30 0 .sh [(32, 512)]

/-- TRIG.CFG.POL. -/
def TRIG.CFG_POL : Fld := fF 0x200 29 29 0 .sh [(32, 512)]

/-- TRIG.CFG.WIDTH. -/
def TRIG.CFG_WIDTH : Fld := fF 0x200 15 0 1 .sh [(32, 512)]

/-- TRIG.START_LO.START. -/
def TRIG.START_LO_START : Fld := fF 0x204 31 0 0 .sh [(32, 512)]

/-- TRIG.START_HI.START. -/
def TRIG.START_HI_START : Fld := fF 0x208 31 0 0 .sh [(32, 512)]

/-- TRIG.PITCH.PITCH. -/
def TRIG.PITCH_PITCH : Fld := fF 0x20c 31 0 0 .sh [(32, 512)]

/-- TRIG.COUNT.COUNT. -/
def TRIG.COUNT_COUNT : Fld := fF 0x210 31 0 0 .sh [(32, 512)]

/-- TRIG.NEXT_LO.NEXT. -/
def TRIG.NEXT_LO_NEXT : Fld := fF 0x214 31 0 0 .ro [(32, 512)]

/-- TRIG.NEXT_HI.NEXT. -/
def TRIG.NEXT_HI_NEXT : Fld := fF 0x218 31 0 0 .ro [(32, 512)]

/-- TRIG.FIRED.FIRED. -/
def TRIG.FIRED_FIRED : Fld := fF 0x21c 31 0 0 .ro [(32, 512)]

/-- TRIG.STAMP_T_LO.T. -/
def TRIG.STAMP_T_LO_T : Fld := fF 0x220 31 0 0 .ro [(32, 512)]

/-- TRIG.STAMP_T_HI.T. -/
def TRIG.STAMP_T_HI_T : Fld := fF 0x224 31 0 0 .ro [(32, 512)]

/-- TRIG.STAMP_P_LO.P. -/
def TRIG.STAMP_P_LO_P : Fld := fF 0x228 31 0 0 .ro [(32, 512)]

/-- TRIG.STAMP_P_HI.P. -/
def TRIG.STAMP_P_HI_P : Fld := fF 0x22c 31 0 0 .ro [(32, 512)]

/-- TRIG.STAMP_SEQ.FIRE_SEQ. -/
def TRIG.STAMP_SEQ_FIRE_SEQ : Fld := fF 0x230 31 0 0 .ro [(32, 512)]

/-- TRIG.STAMP_FLAGS.FLAGS. -/
def TRIG.STAMP_FLAGS_FLAGS : Fld := fF 0x234 7 0 0 .ro [(32, 512)]

/-- TRIG.STATUS.OVERRUN_COUNT. -/
def TRIG.STATUS_OVERRUN_COUNT : Fld := fF 0x238 31 16 0 .rc [(32, 512)]

/-- TRIG.STATUS.NOPOS_COUNT. -/
def TRIG.STATUS_NOPOS_COUNT : Fld := fF 0x238 15 8 0 .rc [(32, 512)]

/-- TRIG.STATUS.STICKY. -/
def TRIG.STATUS_STICKY : Fld := fF 0x238 4 0 0 .w1c [(32, 512)]

/-- TRIG registers, part 1 (Table 6.14). -/
def TRIG.table1 : List Fld :=
  [TRIG.TRG_OWNER_OUT, TRIG.ARM_NOW_ARM, TRIG.DISARM_NOW_DISARM, TRIG.ARMED_ARMED, TRIG.CFG_MODE, TRIG.CFG_DIR, TRIG.CFG_POL, TRIG.CFG_WIDTH, TRIG.START_LO_START, TRIG.START_HI_START, TRIG.PITCH_PITCH, TRIG.COUNT_COUNT, TRIG.NEXT_LO_NEXT, TRIG.NEXT_HI_NEXT, TRIG.FIRED_FIRED, TRIG.STAMP_T_LO_T, TRIG.STAMP_T_HI_T, TRIG.STAMP_P_LO_P, TRIG.STAMP_P_HI_P, TRIG.STAMP_SEQ_FIRE_SEQ, TRIG.STAMP_FLAGS_FLAGS, TRIG.STATUS_OVERRUN_COUNT, TRIG.STATUS_NOPOS_COUNT, TRIG.STATUS_STICKY]

/-- The TRIG page's registers (Table 6.14). -/
def TRIG.table : List Fld := TRIG.table1

/-- Event STB_OVERRUN of STROBE. -/
def STROBE.evSTB_OVERRUN : Ev := ⟨0, 1⟩

/-- Event STB_DUTY of STROBE. -/
def STROBE.evSTB_DUTY : Ev := ⟨1, 2⟩

/-- Event STB_NOPOS of STROBE. -/
def STROBE.evSTB_NOPOS : Ev := ⟨2, 3⟩

/-- Event STB_ARM_LATE of STROBE. -/
def STROBE.evSTB_ARM_LATE : Ev := ⟨3, 4⟩

/-- Event STB_DONE of STROBE. -/
def STROBE.evSTB_DONE : Ev := ⟨4, 0⟩

/-- STROBE.STB_OWNER.OUT. -/
def STROBE.STB_OWNER_OUT : Fld := (fF 0x100 3 0 15 .rw [(8, 4)]).byMgr

/-- STROBE.ARM_NOW.ARM. -/
def STROBE.ARM_NOW_ARM : Fld := fF 0x104 7 0 0 .wo

/-- STROBE.DISARM_NOW.DISARM. -/
def STROBE.DISARM_NOW_DISARM : Fld := fF 0x108 7 0 0 .wo

/-- STROBE.ARMED.ARMED. -/
def STROBE.ARMED_ARMED : Fld := fF 0x10c 7 0 0 .ro

/-- STROBE.CFG.MODE. -/
def STROBE.CFG_MODE : Fld := fF 0x200 31 31 0 .sh [(8, 512)]

/-- STROBE.CFG.DIR. -/
def STROBE.CFG_DIR : Fld := fF 0x200 30 30 0 .sh [(8, 512)]

/-- STROBE.CFG.LINK. -/
def STROBE.CFG_LINK : Fld := fF 0x200 29 29 0 .sh [(8, 512)]

/-- STROBE.CFG.LINK_SCHED. -/
def STROBE.CFG_LINK_SCHED : Fld := fF 0x200 28 24 0 .sh [(8, 512)]

/-- STROBE.CFG.WIDTH. -/
def STROBE.CFG_WIDTH : Fld := fF 0x200 15 0 1 .sh [(8, 512)]

/-- STROBE.START_LO.START. -/
def STROBE.START_LO_START : Fld := fF 0x204 31 0 0 .sh [(8, 512)]

/-- STROBE.START_HI.START. -/
def STROBE.START_HI_START : Fld := fF 0x208 31 0 0 .sh [(8, 512)]

/-- STROBE.PITCH.PITCH. -/
def STROBE.PITCH_PITCH : Fld := fF 0x20c 31 0 0 .sh [(8, 512)]

/-- STROBE.COUNT.COUNT. -/
def STROBE.COUNT_COUNT : Fld := fF 0x210 31 0 0 .sh [(8, 512)]

/-- STROBE.NEXT_LO.NEXT. -/
def STROBE.NEXT_LO_NEXT : Fld := fF 0x214 31 0 0 .ro [(8, 512)]

/-- STROBE.NEXT_HI.NEXT. -/
def STROBE.NEXT_HI_NEXT : Fld := fF 0x218 31 0 0 .ro [(8, 512)]

/-- STROBE.FIRED.FIRED. -/
def STROBE.FIRED_FIRED : Fld := fF 0x21c 31 0 0 .ro [(8, 512)]

/-- STROBE.DELAY.DELAY. -/
def STROBE.DELAY_DELAY : Fld := fF 0x220 15 0 0 .sh [(8, 512)]

/-- STROBE.MAX_WIDTH.MAX. -/
def STROBE.MAX_WIDTH_MAX : Fld := (fF 0x224 15 0 65535 .rw [(8, 512)]).locked

/-- STROBE.DUTY_MAX.DUTY. -/
def STROBE.DUTY_MAX_DUTY : Fld := (fF 0x228 7 0 128 .rw [(8, 512)]).locked

/-- STROBE.ON_TIME.ON. -/
def STROBE.ON_TIME_ON : Fld := fF 0x22c 19 0 0 .ro [(8, 512)]

/-- STROBE.STATUS.OVERRUN_COUNT. -/
def STROBE.STATUS_OVERRUN_COUNT : Fld := fF 0x238 31 16 0 .rc [(8, 512)]

/-- STROBE.STATUS.NOPOS_COUNT. -/
def STROBE.STATUS_NOPOS_COUNT : Fld := fF 0x238 15 8 0 .rc [(8, 512)]

/-- STROBE.STATUS.STICKY. -/
def STROBE.STATUS_STICKY : Fld := fF 0x238 4 0 0 .w1c [(8, 512)]

/-- STROBE registers, part 1 (Table 6.14). -/
def STROBE.table1 : List Fld :=
  [STROBE.STB_OWNER_OUT, STROBE.ARM_NOW_ARM, STROBE.DISARM_NOW_DISARM, STROBE.ARMED_ARMED, STROBE.CFG_MODE, STROBE.CFG_DIR, STROBE.CFG_LINK, STROBE.CFG_LINK_SCHED, STROBE.CFG_WIDTH, STROBE.START_LO_START, STROBE.START_HI_START, STROBE.PITCH_PITCH, STROBE.COUNT_COUNT, STROBE.NEXT_LO_NEXT, STROBE.NEXT_HI_NEXT, STROBE.FIRED_FIRED, STROBE.DELAY_DELAY, STROBE.MAX_WIDTH_MAX, STROBE.DUTY_MAX_DUTY, STROBE.ON_TIME_ON, STROBE.STATUS_OVERRUN_COUNT, STROBE.STATUS_NOPOS_COUNT, STROBE.STATUS_STICKY]

/-- The STROBE page's registers (Table 6.14). -/
def STROBE.table : List Fld := STROBE.table1

/-- Event LINE_NO_STAMP of INGEST. -/
def INGEST.evLINE_NO_STAMP : Ev := ⟨0, 1⟩

/-- Event LINE_MISSED of INGEST. -/
def INGEST.evLINE_MISSED : Ev := ⟨1, 2⟩

/-- Event STAMP_OVF of INGEST. -/
def INGEST.evSTAMP_OVF : Ev := ⟨2, 3⟩

/-- Event HDR_ECC of INGEST. -/
def INGEST.evHDR_ECC : Ev := ⟨3, 4⟩

/-- Event CRC_ERR of INGEST. -/
def INGEST.evCRC_ERR : Ev := ⟨4, 5⟩

/-- Event LINE_INCOMPLETE of INGEST. -/
def INGEST.evLINE_INCOMPLETE : Ev := ⟨5, 6⟩

/-- Event LINE_TRUNC of INGEST. -/
def INGEST.evLINE_TRUNC : Ev := ⟨6, 7⟩

/-- Event DT_UNSUPPORTED of INGEST. -/
def INGEST.evDT_UNSUPPORTED : Ev := ⟨7, 8⟩

/-- Event RX_OVERFLOW of INGEST. -/
def INGEST.evRX_OVERFLOW : Ev := ⟨8, 9⟩

/-- Event BIND_DENIED of INGEST. -/
def INGEST.evBIND_DENIED : Ev := ⟨9, 10⟩

/-- Event LANE_SYNC_ERR of INGEST. -/
def INGEST.evLANE_SYNC_ERR : Ev := ⟨10, 11⟩

/-- INGEST.RX_CFG.UDT. -/
def INGEST.RX_CFG_UDT : Fld := ((fF 0x100 21 16 48 .rw).locked).only 48 55

/-- INGEST.RX_CFG.NONCONT_CLK. -/
def INGEST.RX_CFG_NONCONT_CLK : Fld := (fF 0x100 8 8 0 .rw).locked

/-- INGEST.RX_CFG.DESKEW_EN. -/
def INGEST.RX_CFG_DESKEW_EN : Fld := (fF 0x100 7 7 1 .rw).locked

/-- INGEST.RX_CFG.CLK_POL_INV. -/
def INGEST.RX_CFG_CLK_POL_INV : Fld := (fF 0x100 6 6 0 .rw).locked

/-- INGEST.RX_CFG.POL_INV. -/
def INGEST.RX_CFG_POL_INV : Fld := (fF 0x100 5 2 0 .rw).locked

/-- INGEST.RX_CFG.LANES. -/
def INGEST.RX_CFG_LANES : Fld := ((fF 0x100 1 0 2 .rw).locked).only 0 2

/-- INGEST.RX_STATUS.RX_LATENCY. -/
def INGEST.RX_STATUS_RX_LATENCY : Fld := fF 0x104 31 16 0 .ro

/-- INGEST.RX_STATUS.IN_LINE. -/
def INGEST.RX_STATUS_IN_LINE : Fld := fF 0x104 5 5 0 .ro

/-- INGEST.RX_STATUS.LANE_SYNC. -/
def INGEST.RX_STATUS_LANE_SYNC : Fld := fF 0x104 4 1 0 .ro

/-- INGEST.RX_STATUS.CLK_ACTIVE. -/
def INGEST.RX_STATUS_CLK_ACTIVE : Fld := fF 0x104 0 0 0 .ro

/-- INGEST.BIND_CFG.BIND_EN. -/
def INGEST.BIND_CFG_BIND_EN : Fld := fF 0x200 31 31 0 .rw [(4, 256)]

/-- INGEST.BIND_CFG.UNPACK16. -/
def INGEST.BIND_CFG_UNPACK16 : Fld := fF 0x200 30 30 0 .rw [(4, 256)]

/-- INGEST.BIND_CFG.DT. -/
def INGEST.BIND_CFG_DT : Fld := fF 0x200 29 24 63 .rw [(4, 256)]

/-- INGEST.BIND_CFG.SCHEDULE. -/
def INGEST.BIND_CFG_SCHEDULE : Fld := fF 0x200 20 16 0 .rw [(4, 256)]

/-- INGEST.BIND_CFG.QUEUE. -/
def INGEST.BIND_CFG_QUEUE : Fld := fF 0x200 15 8 0 .rw [(4, 256)]

/-- INGEST.STAMP_AGE_MAX.AGE. -/
def INGEST.STAMP_AGE_MAX_AGE : Fld := fF 0x204 31 0 1048576 .rw [(4, 256)]

/-- INGEST.LINES.COUNT. -/
def INGEST.LINES_COUNT : Fld := fF 0x208 31 0 0 .rc [(4, 256)]

/-- INGEST.DROPPED.COUNT. -/
def INGEST.DROPPED_COUNT : Fld := fF 0x20c 31 0 0 .rc [(4, 256)]

/-- INGEST.STAMP_ERR.MISSED. -/
def INGEST.STAMP_ERR_MISSED : Fld := fF 0x210 31 16 0 .rc [(4, 256)]

/-- INGEST.STAMP_ERR.NO_STAMP. -/
def INGEST.STAMP_ERR_NO_STAMP : Fld := fF 0x210 15 0 0 .rc [(4, 256)]

/-- INGEST.FIFO.LEVEL. -/
def INGEST.FIFO_LEVEL : Fld := fF 0x214 4 0 0 .ro [(4, 256)]

/-- INGEST registers, part 1 (Table 6.15). -/
def INGEST.table1 : List Fld :=
  [INGEST.RX_CFG_UDT, INGEST.RX_CFG_NONCONT_CLK, INGEST.RX_CFG_DESKEW_EN, INGEST.RX_CFG_CLK_POL_INV, INGEST.RX_CFG_POL_INV, INGEST.RX_CFG_LANES, INGEST.RX_STATUS_RX_LATENCY, INGEST.RX_STATUS_IN_LINE, INGEST.RX_STATUS_LANE_SYNC, INGEST.RX_STATUS_CLK_ACTIVE, INGEST.BIND_CFG_BIND_EN, INGEST.BIND_CFG_UNPACK16, INGEST.BIND_CFG_DT, INGEST.BIND_CFG_SCHEDULE, INGEST.BIND_CFG_QUEUE, INGEST.STAMP_AGE_MAX_AGE, INGEST.LINES_COUNT, INGEST.DROPPED_COUNT, INGEST.STAMP_ERR_MISSED, INGEST.STAMP_ERR_NO_STAMP, INGEST.FIFO_LEVEL]

/-- The INGEST page's registers (Table 6.15). -/
def INGEST.table : List Fld := INGEST.table1

end Sys2Proof.Machine
end

