-- ==== Sys2Proof/Machine/RegsMotor.lean ====
section
/-!
DEFINITION. The registers and events of the MOTOR, PWM, GATE and OUVGOR pages (R337, R338, R379 to R381).
-/

namespace Sys2Proof.Machine

/-- Event STALL of MOTOR. -/
def MOTOR.evSTALL : Ev := ⟨0, 1⟩

/-- Event RESTART of MOTOR. -/
def MOTOR.evRESTART : Ev := ⟨1, 0⟩

/-- Event STALL_LATCH of MOTOR. -/
def MOTOR.evSTALL_LATCH : Ev := ⟨2, 3⟩

/-- Event OVERCURRENT of MOTOR. -/
def MOTOR.evOVERCURRENT : Ev := ⟨3, 4⟩

/-- Event AVG_OVERCURRENT of MOTOR. -/
def MOTOR.evAVG_OVERCURRENT : Ev := ⟨4, 5⟩

/-- Event THERMAL_DERATE of MOTOR. -/
def MOTOR.evTHERMAL_DERATE : Ev := ⟨5, 0⟩

/-- Event THERMAL_TRIP of MOTOR. -/
def MOTOR.evTHERMAL_TRIP : Ev := ⟨6, 7⟩

/-- Event HALL_INVALID of MOTOR. -/
def MOTOR.evHALL_INVALID : Ev := ⟨7, 8⟩

/-- Event OBS_LOST of MOTOR. -/
def MOTOR.evOBS_LOST : Ev := ⟨8, 9⟩

/-- Event HANDOVER_FAIL of MOTOR. -/
def MOTOR.evHANDOVER_FAIL : Ev := ⟨9, 10⟩

/-- Event DETECT_FAIL of MOTOR. -/
def MOTOR.evDETECT_FAIL : Ev := ⟨10, 11⟩

/-- Event LOCKED of MOTOR. -/
def MOTOR.evLOCKED : Ev := ⟨11, 0⟩

/-- Event LOCK_LOST of MOTOR. -/
def MOTOR.evLOCK_LOST : Ev := ⟨12, 13⟩

/-- Event FACET_LOCKED of MOTOR. -/
def MOTOR.evFACET_LOCKED : Ev := ⟨13, 0⟩

/-- Event FACET_MISSING of MOTOR. -/
def MOTOR.evFACET_MISSING : Ev := ⟨14, 15⟩

/-- Event ADC_LATE of MOTOR. -/
def MOTOR.evADC_LATE : Ev := ⟨15, 16⟩

/-- Event ADC_SAT of MOTOR. -/
def MOTOR.evADC_SAT : Ev := ⟨16, 17⟩

/-- Event LOOP_PINNED of MOTOR. -/
def MOTOR.evLOOP_PINNED : Ev := ⟨17, 18⟩

/-- Event ENC_FAULT of MOTOR. -/
def MOTOR.evENC_FAULT : Ev := ⟨18, 19⟩

/-- Event EPH_INVALID of MOTOR. -/
def MOTOR.evEPH_INVALID : Ev := ⟨19, 20⟩

/-- Event START_REFUSED of MOTOR. -/
def MOTOR.evSTART_REFUSED : Ev := ⟨20, 21⟩

/-- Event POS_REACHED of MOTOR. -/
def MOTOR.evPOS_REACHED : Ev := ⟨21, 0⟩

/-- Event FOLLOW_ERR of MOTOR. -/
def MOTOR.evFOLLOW_ERR : Ev := ⟨22, 23⟩

/-- MOTOR.CTRL.OFFSET_CAL. -/
def MOTOR.CTRL_OFFSET_CAL : Fld := fF 0x100 3 3 0 .wo

/-- MOTOR.CTRL.FAULT_CLR. -/
def MOTOR.CTRL_FAULT_CLR : Fld := fF 0x100 2 2 0 .wo

/-- MOTOR.CTRL.STOP. -/
def MOTOR.CTRL_STOP : Fld := fF 0x100 1 1 0 .wo

/-- MOTOR.CTRL.START. -/
def MOTOR.CTRL_START : Fld := fF 0x100 0 0 0 .wo

/-- MOTOR.MODE.POS_AXIS. -/
def MOTOR.MODE_POS_AXIS : Fld := (fF 0x104 26 24 0 .rw).locked

/-- MOTOR.MODE.FACET_AXIS. -/
def MOTOR.MODE_FACET_AXIS : Fld := (fF 0x104 23 21 0 .rw).locked

/-- MOTOR.MODE.ENC_AXIS. -/
def MOTOR.MODE_ENC_AXIS : Fld := (fF 0x104 20 18 0 .rw).locked

/-- MOTOR.MODE.FACET_EN. -/
def MOTOR.MODE_FACET_EN : Fld := fF 0x104 17 17 0 .rw

/-- MOTOR.MODE.AUTO_RELOCK. -/
def MOTOR.MODE_AUTO_RELOCK : Fld := fF 0x104 16 16 1 .rw

/-- MOTOR.MODE.NO_REVERSE. -/
def MOTOR.MODE_NO_REVERSE : Fld := (fF 0x104 15 15 1 .rw).locked

/-- MOTOR.MODE.STOP_MODE. -/
def MOTOR.MODE_STOP_MODE : Fld := fF 0x104 14 14 0 .rw

/-- MOTOR.MODE.START_METHOD. -/
def MOTOR.MODE_START_METHOD : Fld := ((fF 0x104 11 10 0 .rw).locked).only 0 2

/-- MOTOR.MODE.SENSOR. -/
def MOTOR.MODE_SENSOR : Fld := ((fF 0x104 9 8 0 .rw).locked).only 0 2

/-- MOTOR.MODE.COMMUT. -/
def MOTOR.MODE_COMMUT : Fld := (fF 0x104 4 4 0 .rw).locked

/-- MOTOR.MODE.CTRL_MODE. -/
def MOTOR.MODE_CTRL_MODE : Fld := ((fF 0x104 2 0 0 .rw).locked).only 0 3

/-- MOTOR.TIMING.LOOP_DIV. -/
def MOTOR.TIMING_LOOP_DIV : Fld := (fF 0x108 27 24 0 .rw).locked

/-- MOTOR.TIMING.SAMPLE_OFS. -/
def MOTOR.TIMING_SAMPLE_OFS : Fld := (fF 0x108 19 0 0 .rw).locked

/-- MOTOR.KP_I.GAIN. -/
def MOTOR.KP_I_GAIN : Fld := fF 0x10c 23 0 0 .sh

/-- MOTOR.KI_I.GAIN. -/
def MOTOR.KI_I_GAIN : Fld := fF 0x110 23 0 0 .sh

/-- MOTOR.KP_W.GAIN. -/
def MOTOR.KP_W_GAIN : Fld := fF 0x114 23 0 0 .sh

/-- MOTOR.KI_W.GAIN. -/
def MOTOR.KI_W_GAIN : Fld := fF 0x118 23 0 0 .sh

/-- MOTOR.KP_POS.GAIN. -/
def MOTOR.KP_POS_GAIN : Fld := fF 0x11c 23 0 0 .sh

/-- MOTOR.KP_LOCK.GAIN. -/
def MOTOR.KP_LOCK_GAIN : Fld := fF 0x120 23 0 0 .sh

/-- MOTOR.CUR_REF.ID_REF. -/
def MOTOR.CUR_REF_ID_REF : Fld := fF 0x124 31 16 0 .sh

/-- MOTOR.CUR_REF.IQ_REF. -/
def MOTOR.CUR_REF_IQ_REF : Fld := fF 0x124 15 0 0 .sh

/-- MOTOR.SPEED_REF.REF. -/
def MOTOR.SPEED_REF_REF : Fld := fF 0x128 31 0 0 .sh

/-- MOTOR.POS_TARGET_LO.POS. -/
def MOTOR.POS_TARGET_LO_POS : Fld := fF 0x12c 31 0 0 .sh

/-- MOTOR.POS_TARGET_HI.POS. -/
def MOTOR.POS_TARGET_HI_POS : Fld := fF 0x130 31 0 0 .sh

/-- MOTOR.VMAX.V. -/
def MOTOR.VMAX_V : Fld := fF 0x134 30 0 0 .sh

/-- MOTOR.ACCEL.A. -/
def MOTOR.ACCEL_A : Fld := fF 0x138 31 0 0 .sh

/-- MOTOR.DECEL.A. -/
def MOTOR.DECEL_A : Fld := fF 0x13c 31 0 0 .sh

/-- MOTOR.PVMAX.V. -/
def MOTOR.PVMAX_V : Fld := fF 0x140 31 0 0 .sh

/-- MOTOR.PACCEL.A. -/
def MOTOR.PACCEL_A : Fld := fF 0x144 31 0 0 .sh

/-- MOTOR.FOLLOW.FOLLOW_LIM. -/
def MOTOR.FOLLOW_FOLLOW_LIM : Fld := (fF 0x148 31 16 65535 .rw).locked

/-- MOTOR.FOLLOW.POS_TOL. -/
def MOTOR.FOLLOW_POS_TOL : Fld := (fF 0x148 15 0 16 .rw).locked

/-- MOTOR.ALIGN.ALIGN_TIME. -/
def MOTOR.ALIGN_ALIGN_TIME : Fld := (fF 0x14c 31 16 1 .rw).locked

/-- MOTOR.ALIGN.ALIGN_I. -/
def MOTOR.ALIGN_ALIGN_I : Fld := (fF 0x14c 13 0 0 .rw).locked

/-- MOTOR.RAMP_I.I. -/
def MOTOR.RAMP_I_I : Fld := (fF 0x150 13 0 0 .rw).locked

/-- MOTOR.RAMP_ACCEL.A. -/
def MOTOR.RAMP_ACCEL_A : Fld := (fF 0x154 31 0 0 .rw).locked

/-- MOTOR.RAMP_END.V. -/
def MOTOR.RAMP_END_V : Fld := (fF 0x158 31 0 65536 .rw).locked

/-- MOTOR.HANDOVER.WINDOW. -/
def MOTOR.HANDOVER_WINDOW : Fld := (fF 0x15c 31 24 8 .rw).locked

/-- MOTOR.HANDOVER.N. -/
def MOTOR.HANDOVER_N : Fld := (fF 0x15c 23 16 64 .rw).locked

/-- MOTOR.HANDOVER.TMO. -/
def MOTOR.HANDOVER_TMO : Fld := (fF 0x15c 15 0 15259 .rw).locked

/-- MOTOR.DETECT.GAP. -/
def MOTOR.DETECT_GAP : Fld := (fF 0x160 31 16 5000 .rw).locked

/-- MOTOR.DETECT.WIDTH. -/
def MOTOR.DETECT_WIDTH : Fld := (fF 0x160 15 0 250 .rw).locked

/-- MOTOR.DETECT_ILIM.ILIM. -/
def MOTOR.DETECT_ILIM_ILIM : Fld := (fF 0x164 13 0 0 .rw).locked

/-- MOTOR.RATIO_LO.RATIO. -/
def MOTOR.RATIO_LO_RATIO : Fld := fF 0x168 31 0 0 .sh

/-- MOTOR.RATIO_HI.RATIO. -/
def MOTOR.RATIO_HI_RATIO : Fld := fF 0x16c 31 0 0 .sh

/-- MOTOR.ANGLE_OFFSET.OFFSET. -/
def MOTOR.ANGLE_OFFSET_OFFSET : Fld := fF 0x170 31 0 0 .sh

/-- MOTOR.LOCK.WINDOW. -/
def MOTOR.LOCK_WINDOW : Fld := fF 0x174 31 16 256 .rw

/-- MOTOR.LOCK.LOCK_N. -/
def MOTOR.LOCK_LOCK_N : Fld := fF 0x174 15 0 256 .rw

/-- MOTOR.CAPTURE_BAND.V. -/
def MOTOR.CAPTURE_BAND_V : Fld := fF 0x178 30 0 0 .rw

/-- MOTOR.CAPTURE_SLEW.V. -/
def MOTOR.CAPTURE_SLEW_V : Fld := fF 0x17c 30 0 0 .rw

/-- MOTOR.LOCK_LOSS.LOSS_WINDOW. -/
def MOTOR.LOCK_LOSS_LOSS_WINDOW : Fld := fF 0x180 31 16 4096 .rw

/-- MOTOR.LOCK_LOSS.LOSS_N. -/
def MOTOR.LOCK_LOSS_LOSS_N : Fld := fF 0x180 15 0 64 .rw

/-- MOTOR.FACET_START_LO.POS. -/
def MOTOR.FACET_START_LO_POS : Fld := fF 0x184 31 0 0 .sh

/-- MOTOR.FACET_START_HI.POS. -/
def MOTOR.FACET_START_HI_POS : Fld := fF 0x188 31 0 0 .sh

/-- MOTOR.FACET_PITCH.PITCH. -/
def MOTOR.FACET_PITCH_PITCH : Fld := fF 0x18c 31 0 0 .sh

/-- MOTOR.FACET_SLEW.SLEW. -/
def MOTOR.FACET_SLEW_SLEW : Fld := fF 0x190 31 0 1048576 .rw

/-- MOTOR.FACET_TOL.TOL. -/
def MOTOR.FACET_TOL_TOL : Fld := fF 0x194 31 0 65536 .rw

/-- MOTOR.ENC_SCALE.SCALE. -/
def MOTOR.ENC_SCALE_SCALE : Fld := (fF 0x198 31 0 0 .rw).locked

/-- MOTOR.ENC_OFFSET.OFFSET. -/
def MOTOR.ENC_OFFSET_OFFSET : Fld := fF 0x19c 31 0 0 .rw

/-- MOTOR.HALL_MAP.MAP. -/
def MOTOR.HALL_MAP_MAP : Fld := (fF 0x1a0 23 0 16135239 .rw).locked

/-- MOTOR.MOTOR_PARAMS.LS. -/
def MOTOR.MOTOR_PARAMS_LS : Fld := (fF 0x1a4 31 16 0 .rw).locked

/-- MOTOR.MOTOR_PARAMS.RS. -/
def MOTOR.MOTOR_PARAMS_RS : Fld := (fF 0x1a4 15 0 0 .rw).locked

/-- MOTOR.CUR_SCALE.UA. -/
def MOTOR.CUR_SCALE_UA : Fld := (fF 0x1a8 23 0 0 .rw).locked

/-- MOTOR.ADAPT.DERATE_EN. -/
def MOTOR.ADAPT_DERATE_EN : Fld := fF 0x1ac 1 1 1 .rw

/-- MOTOR.ADAPT.OBS_ADAPT_EN. -/
def MOTOR.ADAPT_OBS_ADAPT_EN : Fld := fF 0x1ac 0 0 1 .rw

/-- MOTOR.OBS_GAIN.GAIN. -/
def MOTOR.OBS_GAIN_GAIN : Fld := fF 0x1b0 15 0 4096 .rw

/-- MOTOR.OBS_ENV.MAX. -/
def MOTOR.OBS_ENV_MAX : Fld := fF 0x1b4 31 16 65535 .rw

/-- MOTOR.OBS_ENV.MIN. -/
def MOTOR.OBS_ENV_MIN : Fld := fF 0x1b4 15 0 0 .rw

/-- MOTOR.OBS_SHAPE.SLOPE. -/
def MOTOR.OBS_SHAPE_SLOPE : Fld := fF 0x1b8 31 16 0 .rw

/-- MOTOR.OBS_SHAPE.BASE. -/
def MOTOR.OBS_SHAPE_BASE : Fld := fF 0x1b8 15 0 4096 .rw

/-- MOTOR.ILIM_CBC.ILIM. -/
def MOTOR.ILIM_CBC_ILIM : Fld := (fF 0x1bc 13 0 0 .rw).locked

/-- MOTOR.ILIM_AVG.AVG_TIME. -/
def MOTOR.ILIM_AVG_AVG_TIME : Fld := (fF 0x1c0 31 16 1024 .rw).locked

/-- MOTOR.ILIM_AVG.ILIM. -/
def MOTOR.ILIM_AVG_ILIM : Fld := (fF 0x1c0 13 0 0 .rw).locked

/-- MOTOR.CBC_MAX.MAX. -/
def MOTOR.CBC_MAX_MAX : Fld := (fF 0x1c4 7 0 16 .rw).locked

/-- MOTOR.TD_CFG.TD_STOP. -/
def MOTOR.TD_CFG_TD_STOP : Fld := (fF 0x1c8 25 16 1000 .rw).locked

/-- MOTOR.TD_CFG.TD_START. -/
def MOTOR.TD_CFG_TD_START : Fld := (fF 0x1c8 9 0 900 .rw).locked

/-- MOTOR.TD_TRIP.TRIP. -/
def MOTOR.TD_TRIP_TRIP : Fld := (fF 0x1cc 9 0 1023 .rw).locked

/-- MOTOR.DERATE_ENV.MAX. -/
def MOTOR.DERATE_ENV_MAX : Fld := fF 0x1d0 29 16 8191 .rw

/-- MOTOR.DERATE_ENV.MIN. -/
def MOTOR.DERATE_ENV_MIN : Fld := fF 0x1d0 13 0 0 .rw

/-- MOTOR.DERATE_OUT.OUT. -/
def MOTOR.DERATE_OUT_OUT : Fld := fF 0x1d4 13 0 8191 .rw

/-- MOTOR.STALL.STALL_TIME. -/
def MOTOR.STALL_STALL_TIME : Fld := (fF 0x1d8 31 16 4096 .rw).locked

/-- MOTOR.STALL.STALL_I. -/
def MOTOR.STALL_STALL_I : Fld := (fF 0x1d8 13 0 8191 .rw).locked

/-- MOTOR.STALL_SPEED.V. -/
def MOTOR.STALL_SPEED_V : Fld := (fF 0x1dc 30 0 281475 .rw).locked

/-- MOTOR.RESTART.DELAY. -/
def MOTOR.RESTART_DELAY : Fld := fF 0x1e0 31 16 15259 .rw

/-- MOTOR.RESTART.RESTART_MAX. -/
def MOTOR.RESTART_RESTART_MAX : Fld := fF 0x1e0 7 0 3 .rw

/-- MOTOR.STATUS.RESTARTS. -/
def MOTOR.STATUS_RESTARTS : Fld := fF 0x1e4 27 20 0 .ro

/-- MOTOR.STATUS.REFUSE_CAUSE. -/
def MOTOR.STATUS_REFUSE_CAUSE : Fld := fF 0x1e4 19 16 0 .ro

/-- MOTOR.STATUS.SECTOR. -/
def MOTOR.STATUS_SECTOR : Fld := fF 0x1e4 15 12 0 .ro

/-- MOTOR.STATUS.VOLT_SAT. -/
def MOTOR.STATUS_VOLT_SAT : Fld := fF 0x1e4 7 7 0 .ro

/-- MOTOR.STATUS.CBC_ACTIVE. -/
def MOTOR.STATUS_CBC_ACTIVE : Fld := fF 0x1e4 6 6 0 .ro

/-- MOTOR.STATUS.DERATING. -/
def MOTOR.STATUS_DERATING : Fld := fF 0x1e4 5 5 0 .ro

/-- MOTOR.STATUS.FACET_LOCKED. -/
def MOTOR.STATUS_FACET_LOCKED : Fld := fF 0x1e4 4 4 0 .ro

/-- MOTOR.STATUS.STATE. -/
def MOTOR.STATUS_STATE : Fld := fF 0x1e4 3 0 0 .ro

/-- MOTOR.THETA.THETA. -/
def MOTOR.THETA_THETA : Fld := fF 0x1e8 31 0 0 .ro

/-- MOTOR.SPEED_MEAS.V. -/
def MOTOR.SPEED_MEAS_V : Fld := fF 0x1ec 31 0 0 .ro

/-- MOTOR.I_MEAS.IQ. -/
def MOTOR.I_MEAS_IQ : Fld := fF 0x1f0 31 16 0 .ro

/-- MOTOR.I_MEAS.ID. -/
def MOTOR.I_MEAS_ID : Fld := fF 0x1f0 15 0 0 .ro

/-- MOTOR.LOCK_ERR.E. -/
def MOTOR.LOCK_ERR_E : Fld := fF 0x1f4 31 0 0 .ro

/-- MOTOR.FACET_TRIM.TRIM. -/
def MOTOR.FACET_TRIM_TRIM : Fld := fF 0x1f8 31 0 0 .ro

/-- MOTOR.FACET_ERR.EF. -/
def MOTOR.FACET_ERR_EF : Fld := fF 0x1fc 31 0 0 .ro

/-- MOTOR.TD_MEAS.TD. -/
def MOTOR.TD_MEAS_TD : Fld := fF 0x200 9 0 0 .ro

/-- MOTOR.COUNTS.CBC_COUNT. -/
def MOTOR.COUNTS_CBC_COUNT : Fld := fF 0x204 31 16 0 .rc

/-- MOTOR.COUNTS.ADC_LATE_COUNT. -/
def MOTOR.COUNTS_ADC_LATE_COUNT : Fld := fF 0x204 15 0 0 .rc

/-- MOTOR registers, part 1 (Table 8.10). -/
def MOTOR.table1 : List Fld :=
  [MOTOR.CTRL_OFFSET_CAL, MOTOR.CTRL_FAULT_CLR, MOTOR.CTRL_STOP, MOTOR.CTRL_START, MOTOR.MODE_POS_AXIS, MOTOR.MODE_FACET_AXIS, MOTOR.MODE_ENC_AXIS, MOTOR.MODE_FACET_EN, MOTOR.MODE_AUTO_RELOCK, MOTOR.MODE_NO_REVERSE, MOTOR.MODE_STOP_MODE, MOTOR.MODE_START_METHOD, MOTOR.MODE_SENSOR, MOTOR.MODE_COMMUT, MOTOR.MODE_CTRL_MODE, MOTOR.TIMING_LOOP_DIV, MOTOR.TIMING_SAMPLE_OFS, MOTOR.KP_I_GAIN, MOTOR.KI_I_GAIN, MOTOR.KP_W_GAIN, MOTOR.KI_W_GAIN, MOTOR.KP_POS_GAIN, MOTOR.KP_LOCK_GAIN, MOTOR.CUR_REF_ID_REF]

/-- MOTOR registers, part 2 (Table 8.10). -/
def MOTOR.table2 : List Fld :=
  [MOTOR.CUR_REF_IQ_REF, MOTOR.SPEED_REF_REF, MOTOR.POS_TARGET_LO_POS, MOTOR.POS_TARGET_HI_POS, MOTOR.VMAX_V, MOTOR.ACCEL_A, MOTOR.DECEL_A, MOTOR.PVMAX_V, MOTOR.PACCEL_A, MOTOR.FOLLOW_FOLLOW_LIM, MOTOR.FOLLOW_POS_TOL, MOTOR.ALIGN_ALIGN_TIME, MOTOR.ALIGN_ALIGN_I, MOTOR.RAMP_I_I, MOTOR.RAMP_ACCEL_A, MOTOR.RAMP_END_V, MOTOR.HANDOVER_WINDOW, MOTOR.HANDOVER_N, MOTOR.HANDOVER_TMO, MOTOR.DETECT_GAP, MOTOR.DETECT_WIDTH, MOTOR.DETECT_ILIM_ILIM, MOTOR.RATIO_LO_RATIO, MOTOR.RATIO_HI_RATIO]

/-- MOTOR registers, part 3 (Table 8.10). -/
def MOTOR.table3 : List Fld :=
  [MOTOR.ANGLE_OFFSET_OFFSET, MOTOR.LOCK_WINDOW, MOTOR.LOCK_LOCK_N, MOTOR.CAPTURE_BAND_V, MOTOR.CAPTURE_SLEW_V, MOTOR.LOCK_LOSS_LOSS_WINDOW, MOTOR.LOCK_LOSS_LOSS_N, MOTOR.FACET_START_LO_POS, MOTOR.FACET_START_HI_POS, MOTOR.FACET_PITCH_PITCH, MOTOR.FACET_SLEW_SLEW, MOTOR.FACET_TOL_TOL, MOTOR.ENC_SCALE_SCALE, MOTOR.ENC_OFFSET_OFFSET, MOTOR.HALL_MAP_MAP, MOTOR.MOTOR_PARAMS_LS, MOTOR.MOTOR_PARAMS_RS, MOTOR.CUR_SCALE_UA, MOTOR.ADAPT_DERATE_EN, MOTOR.ADAPT_OBS_ADAPT_EN, MOTOR.OBS_GAIN_GAIN, MOTOR.OBS_ENV_MAX, MOTOR.OBS_ENV_MIN, MOTOR.OBS_SHAPE_SLOPE]

/-- MOTOR registers, part 4 (Table 8.10). -/
def MOTOR.table4 : List Fld :=
  [MOTOR.OBS_SHAPE_BASE, MOTOR.ILIM_CBC_ILIM, MOTOR.ILIM_AVG_AVG_TIME, MOTOR.ILIM_AVG_ILIM, MOTOR.CBC_MAX_MAX, MOTOR.TD_CFG_TD_STOP, MOTOR.TD_CFG_TD_START, MOTOR.TD_TRIP_TRIP, MOTOR.DERATE_ENV_MAX, MOTOR.DERATE_ENV_MIN, MOTOR.DERATE_OUT_OUT, MOTOR.STALL_STALL_TIME, MOTOR.STALL_STALL_I, MOTOR.STALL_SPEED_V, MOTOR.RESTART_DELAY, MOTOR.RESTART_RESTART_MAX, MOTOR.STATUS_RESTARTS, MOTOR.STATUS_REFUSE_CAUSE, MOTOR.STATUS_SECTOR, MOTOR.STATUS_VOLT_SAT, MOTOR.STATUS_CBC_ACTIVE, MOTOR.STATUS_DERATING, MOTOR.STATUS_FACET_LOCKED, MOTOR.STATUS_STATE]

/-- MOTOR registers, part 5 (Table 8.10). -/
def MOTOR.table5 : List Fld :=
  [MOTOR.THETA_THETA, MOTOR.SPEED_MEAS_V, MOTOR.I_MEAS_IQ, MOTOR.I_MEAS_ID, MOTOR.LOCK_ERR_E, MOTOR.FACET_TRIM_TRIM, MOTOR.FACET_ERR_EF, MOTOR.TD_MEAS_TD, MOTOR.COUNTS_CBC_COUNT, MOTOR.COUNTS_ADC_LATE_COUNT]

/-- The MOTOR page's registers (Table 8.10). -/
def MOTOR.table : List Fld := MOTOR.table1 ++ MOTOR.table2 ++ MOTOR.table3 ++ MOTOR.table4 ++ MOTOR.table5

/-- Event LINK_ERR of PWM. -/
def PWM.evLINK_ERR : Ev := ⟨0, 1⟩

/-- Event XCMD of PWM. -/
def PWM.evXCMD : Ev := ⟨1, 2⟩

/-- Event PULSE_DROP of PWM. -/
def PWM.evPULSE_DROP : Ev := ⟨2, 0⟩

/-- Event LOOP_PINNED of PWM. -/
def PWM.evLOOP_PINNED : Ev := ⟨3, 4⟩

/-- Event IL_EXTEND of PWM. -/
def PWM.evIL_EXTEND : Ev := ⟨4, 0⟩

/-- PWM.CFG.ADT_EN. -/
def PWM.CFG_ADT_EN : Fld := fF 0x100 2 2 1 .rw

/-- PWM.CFG.COMPL. -/
def PWM.CFG_COMPL : Fld := (fF 0x100 1 1 1 .rw).locked

/-- PWM.CFG.MODE. -/
def PWM.CFG_MODE : Fld := (fF 0x100 0 0 1 .rw).locked

/-- PWM.PERIOD.PERIOD. -/
def PWM.PERIOD_PERIOD : Fld := fF 0x104 19 0 50000 .sh

/-- PWM.PHASE_OFS.OFS. -/
def PWM.PHASE_OFS_OFS : Fld := (fF 0x108 19 0 0 .rw).locked

/-- PWM.CMP.CMP. -/
def PWM.CMP_CMP : Fld := fF 0x10c 19 0 0 .sh [(3, 32)]

/-- PWM.CMPL.CMPL. -/
def PWM.CMPL_CMPL : Fld := fF 0x118 19 0 1048575 .sh [(3, 32)]

/-- PWM.PHASE_STATE.PH. -/
def PWM.PHASE_STATE_PH : Fld := fF 0x124 1 0 1 .sh [(3, 2)]

/-- PWM.DT_OUT.DT_LS. -/
def PWM.DT_OUT_DT_LS : Fld := fF 0x128 25 16 100 .sh

/-- PWM.DT_OUT.DT_HS. -/
def PWM.DT_OUT_DT_HS : Fld := fF 0x128 9 0 100 .sh

/-- PWM.DT_ENV.MAX. -/
def PWM.DT_ENV_MAX : Fld := fF 0x12c 25 16 1000 .rw

/-- PWM.DT_ENV.MIN. -/
def PWM.DT_ENV_MIN : Fld := fF 0x12c 9 0 0 .rw

/-- PWM.DT_ADAPT.MARGIN. -/
def PWM.DT_ADAPT_MARGIN : Fld := fF 0x130 7 0 10 .rw

/-- PWM.MIN_PULSE.MIN. -/
def PWM.MIN_PULSE_MIN : Fld := (fF 0x134 9 0 50 .rw).locked

/-- PWM.MEAS_WAIT.G_LS. -/
def PWM.MEAS_WAIT_G_LS : Fld := fF 0x138 25 16 0 .ro

/-- PWM.MEAS_WAIT.G_HS. -/
def PWM.MEAS_WAIT_G_HS : Fld := fF 0x138 9 0 0 .ro

/-- PWM.LAST_START_LO.T. -/
def PWM.LAST_START_LO_T : Fld := fF 0x13c 31 0 0 .ro

/-- PWM.LAST_START_HI.T. -/
def PWM.LAST_START_HI_T : Fld := fF 0x140 31 0 0 .ro

/-- PWM.COUNTS.XCMD_COUNT. -/
def PWM.COUNTS_XCMD_COUNT : Fld := fF 0x144 31 16 0 .rc

/-- PWM.COUNTS.DROP_COUNT. -/
def PWM.COUNTS_DROP_COUNT : Fld := fF 0x144 15 0 0 .rc

/-- PWM.IL_EXT_COUNT.COUNT. -/
def PWM.IL_EXT_COUNT_COUNT : Fld := fF 0x148 15 0 0 .rc

/-- PWM.LINK_STATUS.PARITY_ERRS. -/
def PWM.LINK_STATUS_PARITY_ERRS : Fld := fF 0x14c 31 16 0 .rc

/-- PWM.LINK_STATUS.CREDITS. -/
def PWM.LINK_STATUS_CREDITS : Fld := fF 0x14c 11 8 0 .ro

/-- PWM.LINK_STATUS.UP. -/
def PWM.LINK_STATUS_UP : Fld := fF 0x14c 0 0 0 .ro

/-- PWM registers, part 1 (Table 9.11). -/
def PWM.table1 : List Fld :=
  [PWM.CFG_ADT_EN, PWM.CFG_COMPL, PWM.CFG_MODE, PWM.PERIOD_PERIOD, PWM.PHASE_OFS_OFS, PWM.CMP_CMP, PWM.CMPL_CMPL, PWM.PHASE_STATE_PH, PWM.DT_OUT_DT_LS, PWM.DT_OUT_DT_HS, PWM.DT_ENV_MAX, PWM.DT_ENV_MIN, PWM.DT_ADAPT_MARGIN, PWM.MIN_PULSE_MIN, PWM.MEAS_WAIT_G_LS, PWM.MEAS_WAIT_G_HS, PWM.LAST_START_LO_T, PWM.LAST_START_HI_T, PWM.COUNTS_XCMD_COUNT, PWM.COUNTS_DROP_COUNT, PWM.IL_EXT_COUNT_COUNT, PWM.LINK_STATUS_PARITY_ERRS, PWM.LINK_STATUS_CREDITS, PWM.LINK_STATUS_UP]

/-- The PWM page's registers (Table 9.11). -/
def PWM.table : List Fld := PWM.table1

/-- Event SW_SHORT of GATE. -/
def GATE.evSW_SHORT : Ev := ⟨0, 1⟩

/-- Event GATE_STUCK of GATE. -/
def GATE.evGATE_STUCK : Ev := ⟨1, 2⟩

/-- Event TRIP of GATE. -/
def GATE.evTRIP : Ev := ⟨2, 3⟩

/-- Event BST_UV of GATE. -/
def GATE.evBST_UV : Ev := ⟨3, 4⟩

/-- Event DIAG_FAIL of GATE. -/
def GATE.evDIAG_FAIL : Ev := ⟨4, 5⟩

/-- Event CST_FAIL of GATE. -/
def GATE.evCST_FAIL : Ev := ⟨5, 6⟩

/-- Event GATE_NORISE of GATE. -/
def GATE.evGATE_NORISE : Ev := ⟨6, 7⟩

/-- Event SUPPLY_OFF of GATE. -/
def GATE.evSUPPLY_OFF : Ev := ⟨7, 8⟩

/-- Event DIAG_DONE of GATE. -/
def GATE.evDIAG_DONE : Ev := ⟨8, 0⟩

/-- Event CST_DONE of GATE. -/
def GATE.evCST_DONE : Ev := ⟨9, 0⟩

/-- Event LOOP_PINNED of GATE. -/
def GATE.evLOOP_PINNED : Ev := ⟨10, 11⟩

/-- Event TRIP_CYCLE of GATE. -/
def GATE.evTRIP_CYCLE : Ev := ⟨11, 0⟩

/-- GATE.CTRL.CST_GO. -/
def GATE.CTRL_CST_GO : Fld := fF 0x100 2 2 0 .wo

/-- GATE.CTRL.DIAG_GO. -/
def GATE.CTRL_DIAG_GO : Fld := fF 0x100 1 1 0 .wo

/-- GATE.CTRL.LATCH_CLR. -/
def GATE.CTRL_LATCH_CLR : Fld := fF 0x100 0 0 0 .wo

/-- GATE.DRIVE.STRONG. -/
def GATE.DRIVE_STRONG : Fld := (fF 0x104 31 31 0 .rw).locked

/-- GATE.DRIVE.SLEW_EN. -/
def GATE.DRIVE_SLEW_EN : Fld := fF 0x104 30 30 0 .rw

/-- GATE.DRIVE.SRC_H. -/
def GATE.DRIVE_SRC_H : Fld := fF 0x104 15 12 5 .rw

/-- GATE.DRIVE.SNK_H. -/
def GATE.DRIVE_SNK_H : Fld := (fF 0x104 11 8 7 .rw).locked

/-- GATE.DRIVE.SRC_L. -/
def GATE.DRIVE_SRC_L : Fld := fF 0x104 7 4 5 .rw

/-- GATE.DRIVE.SNK_L. -/
def GATE.DRIVE_SNK_L : Fld := (fF 0x104 3 0 7 .rw).locked

/-- GATE.SLEW.DIV. -/
def GATE.SLEW_DIV : Fld := fF 0x108 31 28 4 .rw

/-- GATE.SLEW.TOL. -/
def GATE.SLEW_TOL : Fld := fF 0x108 27 16 20 .rw

/-- GATE.SLEW.TARGET. -/
def GATE.SLEW_TARGET : Fld := fF 0x108 11 0 160 .rw

/-- GATE.SLEW_ENV.H_MAX. -/
def GATE.SLEW_ENV_H_MAX : Fld := fF 0x10c 31 28 15 .rw

/-- GATE.SLEW_ENV.H_MIN. -/
def GATE.SLEW_ENV_H_MIN : Fld := fF 0x10c 27 24 0 .rw

/-- GATE.SLEW_ENV.L_MAX. -/
def GATE.SLEW_ENV_L_MAX : Fld := fF 0x10c 23 20 15 .rw

/-- GATE.SLEW_ENV.L_MIN. -/
def GATE.SLEW_ENV_L_MIN : Fld := fF 0x10c 19 16 0 .rw

/-- GATE.SLEW_MEAS.MEAN_H. -/
def GATE.SLEW_MEAS_MEAN_H : Fld := fF 0x110 27 16 0 .ro

/-- GATE.SLEW_MEAS.MEAN_L. -/
def GATE.SLEW_MEAS_MEAN_L : Fld := fF 0x110 11 0 0 .ro

/-- GATE.IL_TIME.CODE. -/
def GATE.IL_TIME_CODE : Fld := (fF 0x114 4 0 5 .rw).locked

/-- GATE.DIDT.TH_L. -/
def GATE.DIDT_TH_L : Fld := (fF 0x118 7 4 7 .rw).locked

/-- GATE.DIDT.TH_H. -/
def GATE.DIDT_TH_H : Fld := (fF 0x118 3 0 7 .rw).locked

/-- GATE.SOFT_OFF.SINK. -/
def GATE.SOFT_OFF_SINK : Fld := (fF 0x11c 15 12 2 .rw).locked

/-- GATE.SOFT_OFF.T2L. -/
def GATE.SOFT_OFF_T2L : Fld := (fF 0x11c 11 8 3 .rw).locked

/-- GATE.SOFT_OFF.LEVEL. -/
def GATE.SOFT_OFF_LEVEL : Fld := (fF 0x11c 1 0 2 .rw).locked

/-- GATE.TRIP_CFG.MODE. -/
def GATE.TRIP_CFG_MODE : Fld := (fF 0x120 1 1 0 .rw).locked

/-- GATE.TRIP_CFG.EN. -/
def GATE.TRIP_CFG_EN : Fld := (fF 0x120 0 0 1 .rw).locked

/-- GATE.DIAG_CFG.STEP. -/
def GATE.DIAG_CFG_STEP : Fld := (fF 0x124 15 8 25 .rw).locked

/-- GATE.DIAG_CFG.DIAG_DIS. -/
def GATE.DIAG_CFG_DIAG_DIS : Fld := (fF 0x124 4 4 0 .rw).locked

/-- GATE.DIAG_CFG.SKIP_CST. -/
def GATE.DIAG_CFG_SKIP_CST : Fld := (fF 0x124 3 3 0 .rw).locked

/-- GATE.DIAG_CFG.NO_LOAD. -/
def GATE.DIAG_CFG_NO_LOAD : Fld := (fF 0x124 2 2 0 .rw).locked

/-- GATE.DIAG_CFG.IDIAG. -/
def GATE.DIAG_CFG_IDIAG : Fld := ((fF 0x124 1 0 1 .rw).locked).only 0 2

/-- GATE.DIAG_RESULT.PASS. -/
def GATE.DIAG_RESULT_PASS : Fld := fF 0x128 13 13 0 .ro

/-- GATE.DIAG_RESULT.DONE. -/
def GATE.DIAG_RESULT_DONE : Fld := fF 0x128 12 12 0 .ro

/-- GATE.DIAG_RESULT.PP_SHORT. -/
def GATE.DIAG_RESULT_PP_SHORT : Fld := fF 0x128 11 9 0 .ro

/-- GATE.DIAG_RESULT.OPEN_PHASE. -/
def GATE.DIAG_RESULT_OPEN_PHASE : Fld := fF 0x128 8 6 0 .ro

/-- GATE.DIAG_RESULT.SHORT_VM. -/
def GATE.DIAG_RESULT_SHORT_VM : Fld := fF 0x128 5 3 0 .ro

/-- GATE.DIAG_RESULT.SHORT_GND. -/
def GATE.DIAG_RESULT_SHORT_GND : Fld := fF 0x128 2 0 0 .ro

/-- GATE.CST_RESULT.DONE. -/
def GATE.CST_RESULT_DONE : Fld := fF 0x12c 31 31 0 .ro

/-- GATE.CST_RESULT.PASS. -/
def GATE.CST_RESULT_PASS : Fld := fF 0x12c 30 30 0 .ro

/-- GATE.CST_RESULT.BST. -/
def GATE.CST_RESULT_BST : Fld := fF 0x12c 18 16 0 .ro

/-- GATE.CST_RESULT.VIL. -/
def GATE.CST_RESULT_VIL : Fld := fF 0x12c 15 10 0 .ro

/-- GATE.CST_RESULT.TRIP. -/
def GATE.CST_RESULT_TRIP : Fld := fF 0x12c 9 9 0 .ro

/-- GATE.CST_RESULT.CBC. -/
def GATE.CST_RESULT_CBC : Fld := fF 0x12c 8 6 0 .ro

/-- GATE.CST_RESULT.DIDT. -/
def GATE.CST_RESULT_DIDT : Fld := fF 0x12c 5 0 0 .ro

/-- GATE.LATCH.NORISE. -/
def GATE.LATCH_NORISE : Fld := fF 0x130 19 14 0 .ro

/-- GATE.LATCH.SUPPLY. -/
def GATE.LATCH_SUPPLY : Fld := fF 0x130 13 13 0 .ro

/-- GATE.LATCH.LINK. -/
def GATE.LATCH_LINK : Fld := fF 0x130 12 12 0 .ro

/-- GATE.LATCH.CST. -/
def GATE.LATCH_CST : Fld := fF 0x130 11 11 0 .ro

/-- GATE.LATCH.DIAG. -/
def GATE.LATCH_DIAG : Fld := fF 0x130 10 10 0 .ro

/-- GATE.LATCH.TRIP. -/
def GATE.LATCH_TRIP : Fld := fF 0x130 9 9 0 .ro

/-- GATE.LATCH.GATE_STUCK. -/
def GATE.LATCH_GATE_STUCK : Fld := fF 0x130 8 6 0 .ro

/-- GATE.LATCH.SHORT. -/
def GATE.LATCH_SHORT : Fld := fF 0x130 5 0 0 .ro

/-- GATE.GATE_STATE.BST_OK. -/
def GATE.GATE_STATE_BST_OK : Fld := fF 0x134 21 16 0 .ro

/-- GATE.GATE_STATE.ABOVE_VIL. -/
def GATE.GATE_STATE_ABOVE_VIL : Fld := fF 0x134 13 8 0 .ro

/-- GATE.GATE_STATE.CMD. -/
def GATE.GATE_STATE_CMD : Fld := fF 0x134 5 0 0 .ro

/-- GATE.TEST.KEY. -/
def GATE.TEST_KEY : Fld := fF 0x138 31 24 0 .wo

/-- GATE.TEST.SW. -/
def GATE.TEST_SW : Fld := fF 0x138 5 0 0 .wo

/-- GATE.TEST_WIDTH.WIDTH. -/
def GATE.TEST_WIDTH_WIDTH : Fld := fF 0x13c 16 0 1000 .rw

/-- GATE.COUNTS.TRIP_CYCLES. -/
def GATE.COUNTS_TRIP_CYCLES : Fld := fF 0x140 31 16 0 .rc

/-- GATE.COUNTS.BST_UV_COUNT. -/
def GATE.COUNTS_BST_UV_COUNT : Fld := fF 0x140 15 0 0 .rc

/-- GATE registers, part 1 (Table 9.13). -/
def GATE.table1 : List Fld :=
  [GATE.CTRL_CST_GO, GATE.CTRL_DIAG_GO, GATE.CTRL_LATCH_CLR, GATE.DRIVE_STRONG, GATE.DRIVE_SLEW_EN, GATE.DRIVE_SRC_H, GATE.DRIVE_SNK_H, GATE.DRIVE_SRC_L, GATE.DRIVE_SNK_L, GATE.SLEW_DIV, GATE.SLEW_TOL, GATE.SLEW_TARGET, GATE.SLEW_ENV_H_MAX, GATE.SLEW_ENV_H_MIN, GATE.SLEW_ENV_L_MAX, GATE.SLEW_ENV_L_MIN, GATE.SLEW_MEAS_MEAN_H, GATE.SLEW_MEAS_MEAN_L, GATE.IL_TIME_CODE, GATE.DIDT_TH_L, GATE.DIDT_TH_H, GATE.SOFT_OFF_SINK, GATE.SOFT_OFF_T2L, GATE.SOFT_OFF_LEVEL]

/-- GATE registers, part 2 (Table 9.13). -/
def GATE.table2 : List Fld :=
  [GATE.TRIP_CFG_MODE, GATE.TRIP_CFG_EN, GATE.DIAG_CFG_STEP, GATE.DIAG_CFG_DIAG_DIS, GATE.DIAG_CFG_SKIP_CST, GATE.DIAG_CFG_NO_LOAD, GATE.DIAG_CFG_IDIAG, GATE.DIAG_RESULT_PASS, GATE.DIAG_RESULT_DONE, GATE.DIAG_RESULT_PP_SHORT, GATE.DIAG_RESULT_OPEN_PHASE, GATE.DIAG_RESULT_SHORT_VM, GATE.DIAG_RESULT_SHORT_GND, GATE.CST_RESULT_DONE, GATE.CST_RESULT_PASS, GATE.CST_RESULT_BST, GATE.CST_RESULT_VIL, GATE.CST_RESULT_TRIP, GATE.CST_RESULT_CBC, GATE.CST_RESULT_DIDT, GATE.LATCH_NORISE, GATE.LATCH_SUPPLY, GATE.LATCH_LINK, GATE.LATCH_CST]

/-- GATE registers, part 3 (Table 9.13). -/
def GATE.table3 : List Fld :=
  [GATE.LATCH_DIAG, GATE.LATCH_TRIP, GATE.LATCH_GATE_STUCK, GATE.LATCH_SHORT, GATE.GATE_STATE_BST_OK, GATE.GATE_STATE_ABOVE_VIL, GATE.GATE_STATE_CMD, GATE.TEST_KEY, GATE.TEST_SW, GATE.TEST_WIDTH_WIDTH, GATE.COUNTS_TRIP_CYCLES, GATE.COUNTS_BST_UV_COUNT]

/-- The GATE page's registers (Table 9.13). -/
def GATE.table : List Fld := GATE.table1 ++ GATE.table2 ++ GATE.table3

/-- Event VCP_UV of OUVGOR. -/
def OUVGOR.evVCP_UV : Ev := ⟨0, 1⟩

/-- Event OUV_CST_FAIL of OUVGOR. -/
def OUVGOR.evOUV_CST_FAIL : Ev := ⟨1, 2⟩

/-- Event OUV_CST_DONE of OUVGOR. -/
def OUVGOR.evOUV_CST_DONE : Ev := ⟨2, 0⟩

/-- Event OUV_OT of OUVGOR. -/
def OUVGOR.evOUV_OT : Ev := ⟨3, 4⟩

/-- OUVGOR.AMP_GAIN.GAIN. -/
def OUVGOR.AMP_GAIN_GAIN : Fld := (fF 0x100 1 0 0 .rw [(4, 2)]).locked

/-- OUVGOR.ADC_OFFSET.OFFSET. -/
def OUVGOR.ADC_OFFSET_OFFSET : Fld := fF 0x110 13 0 8192 .ro [(12, 32)]

/-- OUVGOR.ADC_LAST.STAMP. -/
def OUVGOR.ADC_LAST_STAMP : Fld := fF 0x140 31 16 0 .ro [(12, 32)]

/-- OUVGOR.ADC_LAST.CODE. -/
def OUVGOR.ADC_LAST_CODE : Fld := fF 0x140 13 0 0 .ro [(12, 32)]

/-- OUVGOR.TD_RAW.CODE. -/
def OUVGOR.TD_RAW_CODE : Fld := fF 0x170 9 0 0 .ro [(4, 32)]

/-- OUVGOR.PUMP_STATUS.REVG_ON. -/
def OUVGOR.PUMP_STATUS_REVG_ON : Fld := fF 0x180 1 1 1 .ro

/-- OUVGOR.PUMP_STATUS.VCP_OK, live; the charge pump is up at State.reset (log entry 8). -/
def OUVGOR.PUMP_STATUS_VCP_OK : Fld := fF 0x180 0 0 1 .ro

/-- OUVGOR.REV_CTRL.FORCE_OFF. -/
def OUVGOR.REV_CTRL_FORCE_OFF : Fld := (fF 0x184 0 0 0 .rw).locked

/-- OUVGOR.CST_CTRL.GO. -/
def OUVGOR.CST_CTRL_GO : Fld := fF 0x188 0 0 0 .wo

/-- OUVGOR.CST_RESULT.DONE. -/
def OUVGOR.CST_RESULT_DONE : Fld := fF 0x18c 31 31 0 .ro

/-- OUVGOR.CST_RESULT.PASS. -/
def OUVGOR.CST_RESULT_PASS : Fld := fF 0x18c 30 30 0 .ro

/-- OUVGOR.CST_RESULT.FAILED. -/
def OUVGOR.CST_RESULT_FAILED : Fld := fF 0x18c 4 0 0 .ro

/-- OUVGOR.DIE_TEMP.TEMP. -/
def OUVGOR.DIE_TEMP_TEMP : Fld := fF 0x190 9 0 0 .ro

/-- OUVGOR registers, part 1 (Tables 8.11 and 9.14). -/
def OUVGOR.table1 : List Fld :=
  [OUVGOR.AMP_GAIN_GAIN, OUVGOR.ADC_OFFSET_OFFSET, OUVGOR.ADC_LAST_STAMP, OUVGOR.ADC_LAST_CODE, OUVGOR.TD_RAW_CODE, OUVGOR.PUMP_STATUS_REVG_ON, OUVGOR.PUMP_STATUS_VCP_OK, OUVGOR.REV_CTRL_FORCE_OFF, OUVGOR.CST_CTRL_GO, OUVGOR.CST_RESULT_DONE, OUVGOR.CST_RESULT_PASS, OUVGOR.CST_RESULT_FAILED, OUVGOR.DIE_TEMP_TEMP]

/-- The OUVGOR page's registers (Tables 8.11 and 9.14). -/
def OUVGOR.table : List Fld := OUVGOR.table1

end Sys2Proof.Machine
end

