-- ==== Sys2Proof/Machine/RegsSystem.lean ====
section
/-!
DEFINITION. The common header (Table 5.8) and the registers of the DEVICE, POWER, MATRIX, TIME, REFMON and DAWN pages.
-/

namespace Sys2Proof.Machine

/-- HDR.PAGE_ID.TYPE. -/
def HDR.PAGE_ID_TYPE : Fld := fF 0x0 15 8 0 .ro

/-- HDR.PAGE_ID.INSTANCE_NO. -/
def HDR.PAGE_ID_INSTANCE_NO : Fld := fF 0x0 7 0 0 .ro

/-- HDR.PAGE_VER.MAJOR. -/
def HDR.PAGE_VER_MAJOR : Fld := fF 0x4 15 8 1 .ro

/-- HDR.PAGE_VER.MINOR. -/
def HDR.PAGE_VER_MINOR : Fld := fF 0x4 7 0 0 .ro

/-- HDR.PAGE_CAPS.CAPS. -/
def HDR.PAGE_CAPS_CAPS : Fld := fF 0x8 31 24 0 .ro

/-- HDR.PAGE_CAPS.EVT_BITS. -/
def HDR.PAGE_CAPS_EVT_BITS : Fld := fF 0x8 15 8 0 .ro

/-- HDR.PAGE_CAPS.BLOCK. -/
def HDR.PAGE_CAPS_BLOCK : Fld := fF 0x8 7 0 0 .ro

/-- HDR.PAGE_CTRL.ERR_CLR. -/
def HDR.PAGE_CTRL_ERR_CLR : Fld := fF 0xc 2 2 0 .wo

/-- HDR.PAGE_CTRL.SRST. -/
def HDR.PAGE_CTRL_SRST : Fld := fF 0xc 1 1 0 .wo

/-- HDR.PAGE_CTRL.EN. -/
def HDR.PAGE_CTRL_EN : Fld := fF 0xc 0 0 0 .rw

/-- HDR.PAGE_STATUS.LOCK_VIOL. -/
def HDR.PAGE_STATUS_LOCK_VIOL : Fld := fF 0x10 31 31 0 .w1c

/-- HDR.PAGE_STATUS.WRITE_IGNORED. -/
def HDR.PAGE_STATUS_WRITE_IGNORED : Fld := fF 0x10 30 30 0 .w1c

/-- HDR.PAGE_STATUS.RESET_BUSY. -/
def HDR.PAGE_STATUS_RESET_BUSY : Fld := fF 0x10 28 28 0 .ro

/-- HDR.PAGE_STATUS.LOCKED. -/
def HDR.PAGE_STATUS_LOCKED : Fld := fF 0x10 27 27 0 .ro

/-- HDR.PAGE_STATUS.ENABLED. -/
def HDR.PAGE_STATUS_ENABLED : Fld := fF 0x10 26 26 0 .ro

/-- HDR.PAGE_STATUS.BLOCK. -/
def HDR.PAGE_STATUS_BLOCK : Fld := fF 0x10 23 0 0 .ro

/-- HDR.EVT_RAW.RAW. -/
def HDR.EVT_RAW_RAW : Fld := fF 0x14 31 0 0 .ro

/-- HDR.EVT_EN.EN. -/
def HDR.EVT_EN_EN : Fld := fF 0x18 31 0 0 .rw

/-- HDR.EVT_PEND.PEND. -/
def HDR.EVT_PEND_PEND : Fld := fF 0x1c 31 0 0 .w1c

/-- HDR.EVT_FORCE.FORCE. -/
def HDR.EVT_FORCE_FORCE : Fld := fF 0x20 31 0 0 .wo

/-- HDR.ERR_FIRST.STAMP_LO. -/
def HDR.ERR_FIRST_STAMP_LO : Fld := fF 0x24 31 0 0 .ro

/-- HDR.ERR_COUNT.FIRST_CODE. -/
def HDR.ERR_COUNT_FIRST_CODE : Fld := fF 0x28 31 24 0 .ro

/-- HDR.ERR_COUNT.FIRST_HH. -/
def HDR.ERR_COUNT_FIRST_HH : Fld := fF 0x28 23 20 0 .ro

/-- HDR.ERR_COUNT.COUNT. -/
def HDR.ERR_COUNT_COUNT : Fld := fF 0x28 15 0 0 .ro

/-- HDR.PAGE_LOCK.LOCK. -/
def HDR.PAGE_LOCK_LOCK : Fld := (fF 0x2c 0 0 0 .w1s).byMgr

/-- HDR.OWNER.OWNER. -/
def HDR.OWNER_OWNER : Fld := (fF 0x30 3 0 15 .rw).byMgr

/-- HDR.SHADOW_CTRL.APPLY_SEQ. -/
def HDR.SHADOW_CTRL_APPLY_SEQ : Fld := fF 0x34 31 16 0 .ro

/-- HDR.SHADOW_CTRL.DISCARD. -/
def HDR.SHADOW_CTRL_DISCARD : Fld := fF 0x34 9 9 0 .wo

/-- HDR.SHADOW_CTRL.PENDING. -/
def HDR.SHADOW_CTRL_PENDING : Fld := fF 0x34 8 8 0 .ro

/-- HDR.SHADOW_CTRL.VIEW. -/
def HDR.SHADOW_CTRL_VIEW : Fld := fF 0x34 4 4 0 .rw

/-- HDR.SHADOW_CTRL.BOUNDARY. -/
def HDR.SHADOW_CTRL_BOUNDARY : Fld := fF 0x34 1 0 0 .rw

/-- HDR.CLAMP_STATUS.CLAMP. -/
def HDR.CLAMP_STATUS_CLAMP : Fld := fF 0x38 31 0 0 .w1c

/-- HDR registers, part 1 (Table 5.8). -/
def HDR.table1 : List Fld :=
  [HDR.PAGE_ID_TYPE, HDR.PAGE_ID_INSTANCE_NO, HDR.PAGE_VER_MAJOR, HDR.PAGE_VER_MINOR, HDR.PAGE_CAPS_CAPS, HDR.PAGE_CAPS_EVT_BITS, HDR.PAGE_CAPS_BLOCK, HDR.PAGE_CTRL_ERR_CLR, HDR.PAGE_CTRL_SRST, HDR.PAGE_CTRL_EN, HDR.PAGE_STATUS_LOCK_VIOL, HDR.PAGE_STATUS_WRITE_IGNORED, HDR.PAGE_STATUS_RESET_BUSY, HDR.PAGE_STATUS_LOCKED, HDR.PAGE_STATUS_ENABLED, HDR.PAGE_STATUS_BLOCK, HDR.EVT_RAW_RAW, HDR.EVT_EN_EN, HDR.EVT_PEND_PEND, HDR.EVT_FORCE_FORCE, HDR.ERR_FIRST_STAMP_LO, HDR.ERR_COUNT_FIRST_CODE, HDR.ERR_COUNT_FIRST_HH, HDR.ERR_COUNT_COUNT]

/-- HDR registers, part 2 (Table 5.8). -/
def HDR.table2 : List Fld :=
  [HDR.PAGE_LOCK_LOCK, HDR.OWNER_OWNER, HDR.SHADOW_CTRL_APPLY_SEQ, HDR.SHADOW_CTRL_DISCARD, HDR.SHADOW_CTRL_PENDING, HDR.SHADOW_CTRL_VIEW, HDR.SHADOW_CTRL_BOUNDARY, HDR.CLAMP_STATUS_CLAMP]

/-- The HDR page's registers (Table 5.8). -/
def HDR.table : List Fld := HDR.table1 ++ HDR.table2

/-- Event STRAP_ERR of DEVICE. -/
def DEVICE.evSTRAP_ERR : Ev := ⟨0, 1⟩

/-- DEVICE.CHIP_ID.FAMILY. -/
def DEVICE.CHIP_ID_FAMILY : Fld := fF 0x100 31 16 21335 .ro

/-- DEVICE.CHIP_ID.PART. -/
def DEVICE.CHIP_ID_PART : Fld := fF 0x100 15 0 38500 .ro

/-- DEVICE.REVISION.REV. -/
def DEVICE.REVISION_REV : Fld := fF 0x104 7 0 0 .ro

/-- DEVICE.FACTORY_ID_LO.ID_LO. -/
def DEVICE.FACTORY_ID_LO_ID_LO : Fld := fF 0x108 31 0 0 .ro

/-- DEVICE.FACTORY_ID_HI.ID_HI. -/
def DEVICE.FACTORY_ID_HI_ID_HI : Fld := fF 0x10c 31 0 0 .ro

/-- DEVICE.FAMILY_PARAMS.TILES. -/
def DEVICE.FAMILY_PARAMS_TILES : Fld := fF 0x110 31 24 64 .ro

/-- DEVICE.FAMILY_PARAMS.MOTORS. -/
def DEVICE.FAMILY_PARAMS_MOTORS : Fld := fF 0x110 23 20 4 .ro

/-- DEVICE.FAMILY_PARAMS.PORTS. -/
def DEVICE.FAMILY_PARAMS_PORTS : Fld := fF 0x110 19 16 4 .ro

/-- DEVICE.FAMILY_PARAMS.RECEIVERS. -/
def DEVICE.FAMILY_PARAMS_RECEIVERS : Fld := fF 0x110 15 12 4 .ro

/-- DEVICE.FAMILY_PARAMS.HOUSEHOLDS. -/
def DEVICE.FAMILY_PARAMS_HOUSEHOLDS : Fld := fF 0x110 11 8 8 .ro

/-- DEVICE.FAMILY_PARAMS.COLUMNS. -/
def DEVICE.FAMILY_PARAMS_COLUMNS : Fld := fF 0x110 7 4 6 .ro

/-- DEVICE.FAMILY_PARAMS.ROWS. -/
def DEVICE.FAMILY_PARAMS_ROWS : Fld := fF 0x110 3 0 5 .ro

/-- DEVICE.TILE_MAP_LO.PRESENT. -/
def DEVICE.TILE_MAP_LO_PRESENT : Fld := fF 0x114 31 0 0 .ro

/-- DEVICE.TILE_MAP_HI.PRESENT. -/
def DEVICE.TILE_MAP_HI_PRESENT : Fld := fF 0x118 31 0 0 .ro

/-- DEVICE.STRAP.STRAP_ERR. -/
def DEVICE.STRAP_STRAP_ERR : Fld := (fF 0x11c 31 31 0 .ro).kept

/-- DEVICE.STRAP.ERR_MASK. -/
def DEVICE.STRAP_ERR_MASK : Fld := (fF 0x11c 27 16 0 .ro).kept

/-- DEVICE.STRAP.AMODE. -/
def DEVICE.STRAP_AMODE : Fld := (fF 0x11c 13 8 0 .ro).kept

/-- DEVICE.STRAP.CFG. -/
def DEVICE.STRAP_CFG : Fld := (fF 0x11c 5 0 0 .ro).kept

/-- DEVICE.RESET_CTRL.KEY. -/
def DEVICE.RESET_CTRL_KEY : Fld := fF 0x120 15 8 0 .wo

/-- DEVICE.RESET_CTRL.WARM_REQ. -/
def DEVICE.RESET_CTRL_WARM_REQ : Fld := fF 0x120 0 0 0 .wo

/-- DEVICE.RESET_CAUSE.LAST. -/
def DEVICE.RESET_CAUSE_LAST : Fld := fF 0x124 1 0 0 .ro

/-- DEVICE.SCRATCH.DATA. -/
def DEVICE.SCRATCH_DATA : Fld := (fF 0x128 31 0 0 .rw).kept

/-- DEVICE registers, part 1 (Table 5.10). -/
def DEVICE.table1 : List Fld :=
  [DEVICE.CHIP_ID_FAMILY, DEVICE.CHIP_ID_PART, DEVICE.REVISION_REV, DEVICE.FACTORY_ID_LO_ID_LO, DEVICE.FACTORY_ID_HI_ID_HI, DEVICE.FAMILY_PARAMS_TILES, DEVICE.FAMILY_PARAMS_MOTORS, DEVICE.FAMILY_PARAMS_PORTS, DEVICE.FAMILY_PARAMS_RECEIVERS, DEVICE.FAMILY_PARAMS_HOUSEHOLDS, DEVICE.FAMILY_PARAMS_COLUMNS, DEVICE.FAMILY_PARAMS_ROWS, DEVICE.TILE_MAP_LO_PRESENT, DEVICE.TILE_MAP_HI_PRESENT, DEVICE.STRAP_STRAP_ERR, DEVICE.STRAP_ERR_MASK, DEVICE.STRAP_AMODE, DEVICE.STRAP_CFG, DEVICE.RESET_CTRL_KEY, DEVICE.RESET_CTRL_WARM_REQ, DEVICE.RESET_CAUSE_LAST, DEVICE.SCRATCH_DATA]

/-- The DEVICE page's registers (Table 5.10). -/
def DEVICE.table : List Fld := DEVICE.table1

/-- Event VPHY_LOW of POWER. -/
def POWER.evVPHY_LOW : Ev := ⟨0, 1⟩

/-- Event VDD2X_LOW of POWER. -/
def POWER.evVDD2X_LOW : Ev := ⟨1, 2⟩

/-- Event VDDQX_LOW of POWER. -/
def POWER.evVDDQX_LOW : Ev := ⟨2, 3⟩

/-- Event VGD_UV of POWER. -/
def POWER.evVGD_UV : Ev := ⟨3, 4⟩

/-- Event VSTB_UV of POWER. -/
def POWER.evVSTB_UV : Ev := ⟨4, 5⟩

/-- Event VM_UV of POWER. -/
def POWER.evVM_UV : Ev := ⟨5, 6⟩

/-- Event VM_OV of POWER. -/
def POWER.evVM_OV : Ev := ⟨6, 7⟩

/-- Event BAK_LOW of POWER. -/
def POWER.evBAK_LOW : Ev := ⟨7, 0⟩

/-- Event BAT_ABSENT of POWER. -/
def POWER.evBAT_ABSENT : Ev := ⟨8, 0⟩

/-- Event MIRROR_STALE of POWER. -/
def POWER.evMIRROR_STALE : Ev := ⟨9, 10⟩

/-- Event CHG_HOT of POWER. -/
def POWER.evCHG_HOT : Ev := ⟨10, 0⟩

/-- POWER.RAIL_STATUS.VM_OV: no overvoltage before the first crossing (DESIGN CHOICE, log entry 8). -/
def POWER.RAIL_STATUS_VM_OV : Fld := (fF 0x100 11 11 0 .ro).kept

/-- POWER.RAIL_STATUS.VM_OK: good before the first crossing (DESIGN CHOICE, log entry 8). -/
def POWER.RAIL_STATUS_VM_OK : Fld := (fF 0x100 10 10 1 .ro).kept

/-- POWER.RAIL_STATUS.VSTB_OK: good before the first crossing (DESIGN CHOICE, log entry 8). -/
def POWER.RAIL_STATUS_VSTB_OK : Fld := (fF 0x100 9 9 1 .ro).kept

/-- POWER.RAIL_STATUS.VGD_OK: good before the first crossing (DESIGN CHOICE, log entry 8). -/
def POWER.RAIL_STATUS_VGD_OK : Fld := (fF 0x100 8 8 1 .ro).kept

/-- POWER.RAIL_STATUS.VIO33_OK: good before the first crossing (DESIGN CHOICE, log entry 8). -/
def POWER.RAIL_STATUS_VIO33_OK : Fld := fF 0x100 5 5 1 .ro

/-- POWER.RAIL_STATUS.VDDQX_OK: good before the first crossing (DESIGN CHOICE, log entry 8). -/
def POWER.RAIL_STATUS_VDDQX_OK : Fld := (fF 0x100 4 4 1 .ro).kept

/-- POWER.RAIL_STATUS.VDD2X_OK: good before the first crossing (DESIGN CHOICE, log entry 8). -/
def POWER.RAIL_STATUS_VDD2X_OK : Fld := (fF 0x100 3 3 1 .ro).kept

/-- POWER.RAIL_STATUS.VPHY_OK: good before the first crossing (DESIGN CHOICE, log entry 8). -/
def POWER.RAIL_STATUS_VPHY_OK : Fld := (fF 0x100 2 2 1 .ro).kept

/-- POWER.RAIL_STATUS.VAUX18_OK: good before the first crossing (DESIGN CHOICE, log entry 8). -/
def POWER.RAIL_STATUS_VAUX18_OK : Fld := fF 0x100 1 1 1 .ro

/-- POWER.RAIL_STATUS.VCORE_OK: good before the first crossing (DESIGN CHOICE, log entry 8). -/
def POWER.RAIL_STATUS_VCORE_OK : Fld := fF 0x100 0 0 1 .ro

/-- POWER.VM_LIMITS.VM_OV_LIM. -/
def POWER.VM_LIMITS_VM_OV_LIM : Fld := ((fF 0x104 15 8 126 .rw).locked).clamped 0 126 0

/-- POWER.VM_LIMITS.VM_UV_LIM. -/
def POWER.VM_LIMITS_VM_UV_LIM : Fld := ((fF 0x104 7 0 30 .rw).locked).clamped 30 255 1

/-- POWER.VM_VOLT.VM_MV2. -/
def POWER.VM_VOLT_VM_MV2 : Fld := fF 0x108 15 0 0 .ro

/-- POWER.BAK_MIRROR.MIRROR_SEQ. -/
def POWER.BAK_MIRROR_MIRROR_SEQ : Fld := fF 0x10c 31 16 0 .ro

/-- POWER.BAK_MIRROR.MIRROR_STALE. -/
def POWER.BAK_MIRROR_MIRROR_STALE : Fld := fF 0x10c 15 15 1 .ro

/-- POWER.BAK_MIRROR.WH_SRC. -/
def POWER.BAK_MIRROR_WH_SRC : Fld := fF 0x10c 14 13 0 .ro

/-- POWER.BAK_MIRROR.BAK_LOW. -/
def POWER.BAK_MIRROR_BAK_LOW : Fld := fF 0x10c 12 12 0 .ro

/-- POWER.BAK_MIRROR.BAT_ABSENT. -/
def POWER.BAK_MIRROR_BAT_ABSENT : Fld := fF 0x10c 11 11 0 .ro

/-- POWER.BAK_MIRROR.CHG_STATE. -/
def POWER.BAK_MIRROR_CHG_STATE : Fld := fF 0x10c 10 8 0 .ro

/-- POWER.BAK_MIRROR.BAK_TYPE. -/
def POWER.BAK_MIRROR_BAK_TYPE : Fld := fF 0x10c 5 4 0 .ro

/-- POWER.BAK_MIRROR.ICC_CODE. -/
def POWER.BAK_MIRROR_ICC_CODE : Fld := fF 0x10c 3 0 0 .ro

/-- POWER.BAK_LEVELS.VHOLD_MV. -/
def POWER.BAK_LEVELS_VHOLD_MV : Fld := fF 0x110 27 16 0 .ro

/-- POWER.BAK_LEVELS.VBAK_MV. -/
def POWER.BAK_LEVELS_VBAK_MV : Fld := fF 0x110 11 0 0 .ro

/-- POWER.BAK_CHARGE.ICHG_UA. -/
def POWER.BAK_CHARGE_ICHG_UA : Fld := fF 0x114 11 0 0 .ro

/-- POWER.MIRROR_CTRL.PERIOD. -/
def POWER.MIRROR_CTRL_PERIOD : Fld := fF 0x118 3 1 4 .rw

/-- POWER.MIRROR_CTRL.MIRROR_EN. -/
def POWER.MIRROR_CTRL_MIRROR_EN : Fld := fF 0x118 0 0 1 .rw

/-- POWER.POR_CAUSE.CAUSE: 1, VIO33, before the first POR_ASSERT, as at a power-up (DESIGN CHOICE, log entry 8). -/
def POWER.POR_CAUSE_CAUSE : Fld := (fF 0x11c 3 0 1 .ro).kept

/-- POWER registers, part 1 (Tables 3.10 to 3.16). -/
def POWER.table1 : List Fld :=
  [POWER.RAIL_STATUS_VM_OV, POWER.RAIL_STATUS_VM_OK, POWER.RAIL_STATUS_VSTB_OK, POWER.RAIL_STATUS_VGD_OK, POWER.RAIL_STATUS_VIO33_OK, POWER.RAIL_STATUS_VDDQX_OK, POWER.RAIL_STATUS_VDD2X_OK, POWER.RAIL_STATUS_VPHY_OK, POWER.RAIL_STATUS_VAUX18_OK, POWER.RAIL_STATUS_VCORE_OK, POWER.VM_LIMITS_VM_OV_LIM, POWER.VM_LIMITS_VM_UV_LIM, POWER.VM_VOLT_VM_MV2, POWER.BAK_MIRROR_MIRROR_SEQ, POWER.BAK_MIRROR_MIRROR_STALE, POWER.BAK_MIRROR_WH_SRC, POWER.BAK_MIRROR_BAK_LOW, POWER.BAK_MIRROR_BAT_ABSENT, POWER.BAK_MIRROR_CHG_STATE, POWER.BAK_MIRROR_BAK_TYPE, POWER.BAK_MIRROR_ICC_CODE, POWER.BAK_LEVELS_VHOLD_MV, POWER.BAK_LEVELS_VBAK_MV, POWER.BAK_CHARGE_ICHG_UA]

/-- POWER registers, part 2 (Tables 3.10 to 3.16). -/
def POWER.table2 : List Fld :=
  [POWER.MIRROR_CTRL_PERIOD, POWER.MIRROR_CTRL_MIRROR_EN, POWER.POR_CAUSE_CAUSE]

/-- The POWER page's registers (Tables 3.10 to 3.16). -/
def POWER.table : List Fld := POWER.table1 ++ POWER.table2

/-- Event DECERR of MATRIX. -/
def MATRIX.evDECERR : Ev := ⟨0, 1⟩

/-- Event TARGET_TIMEOUT of MATRIX. -/
def MATRIX.evTARGET_TIMEOUT : Ev := ⟨1, 2⟩

/-- Event LATE_RSP of MATRIX. -/
def MATRIX.evLATE_RSP : Ev := ⟨2, 0⟩

/-- Event AGE_PROMOTED of MATRIX. -/
def MATRIX.evAGE_PROMOTED : Ev := ⟨3, 0⟩

/-- Event MATRIX_PARITY of MATRIX. -/
def MATRIX.evMATRIX_PARITY : Ev := ⟨4, 5⟩

/-- MATRIX.QOS_MASTER.ENGINE. -/
def MATRIX.QOS_MASTER_ENGINE : Fld := fF 0x100 15 12 15 .ro

/-- MATRIX.QOS_MASTER.WICKET. -/
def MATRIX.QOS_MASTER_WICKET : Fld := fF 0x100 11 8 12 .rw

/-- MATRIX.QOS_MASTER.FABRIC. -/
def MATRIX.QOS_MASTER_FABRIC : Fld := fF 0x100 7 4 8 .rw

/-- MATRIX.QOS_MASTER.PF. -/
def MATRIX.QOS_MASTER_PF : Fld := fF 0x100 3 0 10 .rw

/-- MATRIX.QOS_HH.HH. -/
def MATRIX.QOS_HH_HH : Fld := fF 0x104 3 0 4 .rw [(8, 4)]

/-- MATRIX.AGE_PROMOTE.BEATS. -/
def MATRIX.AGE_PROMOTE_BEATS : Fld := (fF 0x108 15 0 4096 .rw).clamped 256 65535 1

/-- MATRIX.TIMEOUT.EXP. -/
def MATRIX.TIMEOUT_EXP : Fld := (fF 0x10c 4 0 16 .rw).clamped 12 20 0

/-- MATRIX.DECERR_ADDR_LO.ADDR_LO. -/
def MATRIX.DECERR_ADDR_LO_ADDR_LO : Fld := fF 0x110 31 0 0 .ro

/-- MATRIX.DECERR_ADDR_HI.ADDR_HI. -/
def MATRIX.DECERR_ADDR_HI_ADDR_HI : Fld := fF 0x114 15 0 0 .ro

/-- MATRIX.DECERR_INFO.VALID. -/
def MATRIX.DECERR_INFO_VALID : Fld := fF 0x118 31 31 0 .w1c

/-- MATRIX.DECERR_INFO.WRITE. -/
def MATRIX.DECERR_INFO_WRITE : Fld := fF 0x118 30 30 0 .ro

/-- MATRIX.DECERR_INFO.FAB. -/
def MATRIX.DECERR_INFO_FAB : Fld := fF 0x118 29 29 0 .ro

/-- MATRIX.DECERR_INFO.MASTER. -/
def MATRIX.DECERR_INFO_MASTER : Fld := fF 0x118 26 24 0 .ro

/-- MATRIX.DECERR_INFO.HH. -/
def MATRIX.DECERR_INFO_HH : Fld := fF 0x118 23 20 0 .ro

/-- MATRIX.DECERR_INFO.CAUSE. -/
def MATRIX.DECERR_INFO_CAUSE : Fld := fF 0x118 19 16 0 .ro

/-- MATRIX.DECERR_INFO.SRC_NODE. -/
def MATRIX.DECERR_INFO_SRC_NODE : Fld := fF 0x118 13 8 0 .ro

/-- MATRIX.DECERR_INFO.TAG. -/
def MATRIX.DECERR_INFO_TAG : Fld := fF 0x118 3 0 0 .ro

/-- MATRIX.DECERR_COUNT.COUNT. -/
def MATRIX.DECERR_COUNT_COUNT : Fld := fF 0x11c 15 0 0 .rc

/-- MATRIX.HOLD_COUNT.ORDER. -/
def MATRIX.HOLD_COUNT_ORDER : Fld := fF 0x120 31 16 0 .rc

/-- MATRIX.HOLD_COUNT.SLOT. -/
def MATRIX.HOLD_COUNT_SLOT : Fld := fF 0x120 15 0 0 .rc

/-- MATRIX.PROMOTE_COUNT.COUNT. -/
def MATRIX.PROMOTE_COUNT_COUNT : Fld := fF 0x124 15 0 0 .rc

/-- MATRIX.LATE_RSP_COUNT.COUNT. -/
def MATRIX.LATE_RSP_COUNT_COUNT : Fld := fF 0x128 15 0 0 .rc

/-- MATRIX.OUTSTANDING.NOC_IN. -/
def MATRIX.OUTSTANDING_NOC_IN : Fld := fF 0x12c 31 24 0 .ro

/-- MATRIX.OUTSTANDING.WICKET. -/
def MATRIX.OUTSTANDING_WICKET : Fld := fF 0x12c 23 16 0 .ro

/-- MATRIX.OUTSTANDING.ENGINE. -/
def MATRIX.OUTSTANDING_ENGINE : Fld := fF 0x12c 15 8 0 .ro

/-- MATRIX.OUTSTANDING.NOC_OUT. -/
def MATRIX.OUTSTANDING_NOC_OUT : Fld := fF 0x12c 7 0 0 .ro

/-- MATRIX registers, part 1 (Table 5.12). -/
def MATRIX.table1 : List Fld :=
  [MATRIX.QOS_MASTER_ENGINE, MATRIX.QOS_MASTER_WICKET, MATRIX.QOS_MASTER_FABRIC, MATRIX.QOS_MASTER_PF, MATRIX.QOS_HH_HH, MATRIX.AGE_PROMOTE_BEATS, MATRIX.TIMEOUT_EXP, MATRIX.DECERR_ADDR_LO_ADDR_LO, MATRIX.DECERR_ADDR_HI_ADDR_HI, MATRIX.DECERR_INFO_VALID, MATRIX.DECERR_INFO_WRITE, MATRIX.DECERR_INFO_FAB, MATRIX.DECERR_INFO_MASTER, MATRIX.DECERR_INFO_HH, MATRIX.DECERR_INFO_CAUSE, MATRIX.DECERR_INFO_SRC_NODE, MATRIX.DECERR_INFO_TAG, MATRIX.DECERR_COUNT_COUNT, MATRIX.HOLD_COUNT_ORDER, MATRIX.HOLD_COUNT_SLOT, MATRIX.PROMOTE_COUNT_COUNT, MATRIX.LATE_RSP_COUNT_COUNT, MATRIX.OUTSTANDING_NOC_IN, MATRIX.OUTSTANDING_WICKET]

/-- MATRIX registers, part 2 (Table 5.12). -/
def MATRIX.table2 : List Fld :=
  [MATRIX.OUTSTANDING_ENGINE, MATRIX.OUTSTANDING_NOC_OUT]

/-- The MATRIX page's registers (Table 5.12). -/
def MATRIX.table : List Fld := MATRIX.table1 ++ MATRIX.table2

/-- Event MERIDIAN_PAST of TIME. -/
def TIME.evMERIDIAN_PAST : Ev := ⟨0, 1⟩

/-- Event MERIDIAN_LATE of TIME. -/
def TIME.evMERIDIAN_LATE : Ev := ⟨1, 2⟩

/-- Event ALM_DENIED of TIME. -/
def TIME.evALM_DENIED : Ev := ⟨2, 3⟩

/-- Event ALM_NO_TARGET of TIME. -/
def TIME.evALM_NO_TARGET : Ev := ⟨3, 4⟩

/-- Event ALM_LOCKED of TIME. -/
def TIME.evALM_LOCKED : Ev := ⟨4, 5⟩

/-- Event ALM_BAD of TIME. -/
def TIME.evALM_BAD : Ev := ⟨5, 6⟩

/-- Event LOAD_REFUSED of TIME. -/
def TIME.evLOAD_REFUSED : Ev := ⟨6, 7⟩

/-- Event ALMANAC_MARK of TIME. -/
def TIME.evALMANAC_MARK : Ev := ⟨7, 0⟩

/-- TIME.SID_LO.SID_LO. -/
def TIME.SID_LO_SID_LO : Fld := fF 0x100 31 0 0 .ro

/-- TIME.SID_HI.SID_HI. -/
def TIME.SID_HI_SID_HI : Fld := fF 0x104 31 0 0 .ro

/-- TIME.LOAD_LO.V_LO. -/
def TIME.LOAD_LO_V_LO : Fld := fF 0x108 31 0 0 .rw

/-- TIME.LOAD_HI.V_HI. -/
def TIME.LOAD_HI_V_HI : Fld := fF 0x10c 31 0 0 .rw

/-- TIME.LOAD_CTRL.LOAD_RESULT. -/
def TIME.LOAD_CTRL_LOAD_RESULT : Fld := fF 0x110 7 4 0 .ro

/-- TIME.LOAD_CTRL.LOAD_GO. -/
def TIME.LOAD_CTRL_LOAD_GO : Fld := fF 0x110 0 0 0 .wo

/-- TIME.ALM_SEL.INDEX. -/
def TIME.ALM_SEL_INDEX : Fld := fF 0x114 5 0 0 .rw

/-- TIME.ALM_MER_LO.MER_LO. -/
def TIME.ALM_MER_LO_MER_LO : Fld := fF 0x118 31 0 0 .ro

/-- TIME.ALM_MER_HI.MER_HI. -/
def TIME.ALM_MER_HI_MER_HI : Fld := fF 0x11c 31 0 0 .ro

/-- TIME.ALM_ACTION.OWNER. -/
def TIME.ALM_ACTION_OWNER : Fld := fF 0x120 31 28 15 .ro

/-- TIME.ALM_ACTION.LATE. -/
def TIME.ALM_ACTION_LATE : Fld := fF 0x120 25 24 0 .ro

/-- TIME.ALM_ACTION.TARGET. -/
def TIME.ALM_ACTION_TARGET : Fld := fF 0x120 16 8 0 .ro

/-- TIME.ALM_ACTION.CODE. -/
def TIME.ALM_ACTION_CODE : Fld := fF 0x120 3 0 0 .ro

/-- TIME.ALM_ARG.ARG. -/
def TIME.ALM_ARG_ARG : Fld := fF 0x124 31 0 0 .ro

/-- TIME.ALM_CTRL.STATE. -/
def TIME.ALM_CTRL_STATE : Fld := fF 0x128 7 4 0 .ro

/-- TIME.ALM_CTRL.CANCEL. -/
def TIME.ALM_CTRL_CANCEL : Fld := fF 0x128 1 1 0 .wo

/-- TIME.ALM_CTRL.ARM. -/
def TIME.ALM_CTRL_ARM : Fld := fF 0x128 0 0 0 .wo

/-- TIME.ALM_APPLIED_LO.APP_LO. -/
def TIME.ALM_APPLIED_LO_APP_LO : Fld := fF 0x12c 31 0 0 .ro

/-- TIME.ALM_APPLIED_HI.APP_HI. -/
def TIME.ALM_APPLIED_HI_APP_HI : Fld := fF 0x130 31 0 0 .ro

/-- TIME.ALM_ARMED_LO.ARMED. -/
def TIME.ALM_ARMED_LO_ARMED : Fld := fF 0x134 31 0 0 .ro

/-- TIME.ALM_ARMED_HI.ARMED. -/
def TIME.ALM_ARMED_HI_ARMED : Fld := fF 0x138 31 0 0 .ro

/-- TIME registers, part 1 (Table 4.10). -/
def TIME.table1 : List Fld :=
  [TIME.SID_LO_SID_LO, TIME.SID_HI_SID_HI, TIME.LOAD_LO_V_LO, TIME.LOAD_HI_V_HI, TIME.LOAD_CTRL_LOAD_RESULT, TIME.LOAD_CTRL_LOAD_GO, TIME.ALM_SEL_INDEX, TIME.ALM_MER_LO_MER_LO, TIME.ALM_MER_HI_MER_HI, TIME.ALM_ACTION_OWNER, TIME.ALM_ACTION_LATE, TIME.ALM_ACTION_TARGET, TIME.ALM_ACTION_CODE, TIME.ALM_ARG_ARG, TIME.ALM_CTRL_STATE, TIME.ALM_CTRL_CANCEL, TIME.ALM_CTRL_ARM, TIME.ALM_APPLIED_LO_APP_LO, TIME.ALM_APPLIED_HI_APP_HI, TIME.ALM_ARMED_LO_ARMED, TIME.ALM_ARMED_HI_ARMED]

/-- The TIME page's registers (Table 4.10). -/
def TIME.table : List Fld := TIME.table1

/-- Event REF_WARN of REFMON. -/
def REFMON.evREF_WARN : Ev := ⟨0, 1⟩

/-- Event REF_LIMIT of REFMON. -/
def REFMON.evREF_LIMIT : Ev := ⟨1, 2⟩

/-- Event REF_AMBIGUOUS of REFMON. -/
def REFMON.evREF_AMBIGUOUS : Ev := ⟨2, 3⟩

/-- Event REF_LOSS of REFMON. -/
def REFMON.evREF_LOSS : Ev := ⟨3, 4⟩

/-- Event REF_SWITCHED of REFMON. -/
def REFMON.evREF_SWITCHED : Ev := ⟨4, 0⟩

/-- Event PLL_UNLOCK of REFMON. -/
def REFMON.evPLL_UNLOCK : Ev := ⟨5, 6⟩

/-- Event REF_CAND_LOST of REFMON. -/
def REFMON.evREF_CAND_LOST : Ev := ⟨6, 0⟩

/-- Event NO_REF of REFMON. -/
def REFMON.evNO_REF : Ev := ⟨7, 8⟩

/-- Event REF_FALLBACK of REFMON. -/
def REFMON.evREF_FALLBACK : Ev := ⟨8, 9⟩

/-- REFMON.REF_ACTIVE.SOURCE. -/
def REFMON.REF_ACTIVE_SOURCE : Fld := fF 0x100 3 0 0 .ro

/-- REFMON.CAND_EN.EN. -/
def REFMON.CAND_EN_EN : Fld := fF 0x104 6 0 67 .rw

/-- REFMON.REFIN_FREQ.F25. -/
def REFMON.REFIN_FREQ_F25 : Fld := fF 0x108 0 0 1 .rw

/-- REFMON.THRESH.LIMIT. -/
def REFMON.THRESH_LIMIT : Fld := fF 0x10c 31 16 1000 .rw

/-- REFMON.THRESH.WARN. -/
def REFMON.THRESH_WARN : Fld := fF 0x10c 15 0 600 .rw

/-- REFMON.POLICY.REF_POLICY. -/
def REFMON.POLICY_REF_POLICY : Fld := fF 0x110 0 0 0 .rw

/-- REFMON.STATUS.NO_REF. -/
def REFMON.STATUS_NO_REF : Fld := fF 0x114 13 13 0 .ro

/-- REFMON.STATUS.FALLBACK. -/
def REFMON.STATUS_FALLBACK : Fld := fF 0x114 12 12 0 .ro

/-- REFMON.STATUS.SLEWING. -/
def REFMON.STATUS_SLEWING : Fld := fF 0x114 11 11 0 .ro

/-- REFMON.STATUS.HOLDOVER. -/
def REFMON.STATUS_HOLDOVER : Fld := fF 0x114 10 10 0 .ro

/-- REFMON.STATUS.PLL_LOCK. -/
def REFMON.STATUS_PLL_LOCK : Fld := fF 0x114 9 9 0 .ro

/-- REFMON.STATUS.MOVE_PENDING. -/
def REFMON.STATUS_MOVE_PENDING : Fld := fF 0x114 8 8 0 .ro

/-- REFMON.STATUS.POLICY_FORCED. -/
def REFMON.STATUS_POLICY_FORCED : Fld := fF 0x114 7 7 0 .ro

/-- REFMON.STATUS.UNCHECKED. -/
def REFMON.STATUS_UNCHECKED : Fld := fF 0x114 6 6 1 .ro

/-- REFMON.STATUS.MAJ_OK. -/
def REFMON.STATUS_MAJ_OK : Fld := fF 0x114 5 5 0 .ro

/-- REFMON.STATUS.REF_SUSPECT. -/
def REFMON.STATUS_REF_SUSPECT : Fld := fF 0x114 4 4 0 .w1c

/-- REFMON.STATUS.REF_AMBIGUOUS. -/
def REFMON.STATUS_REF_AMBIGUOUS : Fld := fF 0x114 3 3 0 .ro

/-- REFMON.STATUS.REF_LIMIT. -/
def REFMON.STATUS_REF_LIMIT : Fld := fF 0x114 2 2 0 .ro

/-- REFMON.STATUS.REF_WARN. -/
def REFMON.STATUS_REF_WARN : Fld := fF 0x114 1 1 0 .ro

/-- REFMON.ESTIMATE.WINDOW_SEQ. -/
def REFMON.ESTIMATE_WINDOW_SEQ : Fld := fF 0x118 31 16 0 .ro

/-- REFMON.ESTIMATE.E. -/
def REFMON.ESTIMATE_E : Fld := fF 0x118 15 0 0 .ro

/-- REFMON.CAND_OFF.DEPENDENT. -/
def REFMON.CAND_OFF_DEPENDENT : Fld := fF 0x120 19 19 0 .ro [(7, 32)]

/-- REFMON.CAND_OFF.AGREE. -/
def REFMON.CAND_OFF_AGREE : Fld := fF 0x120 18 18 0 .ro [(7, 32)]

/-- REFMON.CAND_OFF.VALID. -/
def REFMON.CAND_OFF_VALID : Fld := fF 0x120 17 17 0 .ro [(7, 32)]

/-- REFMON.CAND_OFF.SELECTED. -/
def REFMON.CAND_OFF_SELECTED : Fld := fF 0x120 16 16 0 .ro [(7, 32)]

/-- REFMON.CAND_OFF.D. -/
def REFMON.CAND_OFF_D : Fld := fF 0x120 15 0 0 .ro [(7, 32)]

/-- REFMON.HOLD_WINDOWS.COUNT. -/
def REFMON.HOLD_WINDOWS_COUNT : Fld := fF 0x140 31 0 0 .ro

/-- REFMON registers, part 1 (Table 4.12). -/
def REFMON.table1 : List Fld :=
  [REFMON.REF_ACTIVE_SOURCE, REFMON.CAND_EN_EN, REFMON.REFIN_FREQ_F25, REFMON.THRESH_LIMIT, REFMON.THRESH_WARN, REFMON.POLICY_REF_POLICY, REFMON.STATUS_NO_REF, REFMON.STATUS_FALLBACK, REFMON.STATUS_SLEWING, REFMON.STATUS_HOLDOVER, REFMON.STATUS_PLL_LOCK, REFMON.STATUS_MOVE_PENDING, REFMON.STATUS_POLICY_FORCED, REFMON.STATUS_UNCHECKED, REFMON.STATUS_MAJ_OK, REFMON.STATUS_REF_SUSPECT, REFMON.STATUS_REF_AMBIGUOUS, REFMON.STATUS_REF_LIMIT, REFMON.STATUS_REF_WARN, REFMON.ESTIMATE_WINDOW_SEQ, REFMON.ESTIMATE_E, REFMON.CAND_OFF_DEPENDENT, REFMON.CAND_OFF_AGREE, REFMON.CAND_OFF_VALID]

/-- REFMON registers, part 2 (Table 4.12). -/
def REFMON.table2 : List Fld :=
  [REFMON.CAND_OFF_SELECTED, REFMON.CAND_OFF_D, REFMON.HOLD_WINDOWS_COUNT]

/-- The REFMON page's registers (Table 4.12). -/
def REFMON.table : List Fld := REFMON.table1 ++ REFMON.table2

/-- Event DAWN_DONE of DAWN. -/
def DAWN.evDAWN_DONE : Ev := ⟨0, 0⟩

/-- Event DAWN_RETRY of DAWN. -/
def DAWN.evDAWN_RETRY : Ev := ⟨1, 0⟩

/-- Event DAWN_FAIL of DAWN. -/
def DAWN.evDAWN_FAIL : Ev := ⟨2, 3⟩

/-- Event DAWN_REFUSED of DAWN. -/
def DAWN.evDAWN_REFUSED : Ev := ⟨3, 4⟩

/-- DAWN.DAWN_CTRL.REQ. -/
def DAWN.DAWN_CTRL_REQ : Fld := fF 0x100 0 0 0 .w1s

/-- DAWN.DAWN_STATUS.FAIL_XING. -/
def DAWN.DAWN_STATUS_FAIL_XING : Fld := fF 0x104 31 24 0 .ro

/-- DAWN.DAWN_STATUS.REFUSE_CODE. -/
def DAWN.DAWN_STATUS_REFUSE_CODE : Fld := fF 0x104 23 20 0 .ro

/-- DAWN.DAWN_STATUS.FAIL_CODE. -/
def DAWN.DAWN_STATUS_FAIL_CODE : Fld := fF 0x104 19 16 0 .ro

/-- DAWN.DAWN_STATUS.ATTEMPTS. -/
def DAWN.DAWN_STATUS_ATTEMPTS : Fld := fF 0x104 13 12 0 .ro

/-- DAWN.DAWN_STATUS.UNALIGNED. -/
def DAWN.DAWN_STATUS_UNALIGNED : Fld := fF 0x104 8 8 0 .ro

/-- DAWN.DAWN_STATUS.STATE. -/
def DAWN.DAWN_STATUS_STATE : Fld := fF 0x104 2 0 0 .ro

/-- DAWN.DAWN_COUNT.COUNT. -/
def DAWN.DAWN_COUNT_COUNT : Fld := fF 0x108 31 0 0 .ro

/-- DAWN.REL_LO.REL_LO. -/
def DAWN.REL_LO_REL_LO : Fld := fF 0x10c 31 0 0 .ro

/-- DAWN.REL_HI.REL_HI. -/
def DAWN.REL_HI_REL_HI : Fld := fF 0x110 31 0 0 .ro

/-- DAWN.XING_SEL.XING. -/
def DAWN.XING_SEL_XING : Fld := fF 0x114 6 0 0 .rw

/-- DAWN.XING_DATA.SRC. -/
def DAWN.XING_DATA_SRC : Fld := fF 0x118 31 26 0 .ro

/-- DAWN.XING_DATA.DST. -/
def DAWN.XING_DATA_DST : Fld := fF 0x118 25 20 0 .ro

/-- DAWN.XING_DATA.LAT. -/
def DAWN.XING_DATA_LAT : Fld := fF 0x118 15 12 4 .ro

/-- DAWN.XING_DATA.OCC: 0 until a dawn has measured it, like PHASE and MARGIN (DESIGN CHOICE, log entry 8). -/
def DAWN.XING_DATA_OCC : Fld := fF 0x118 11 8 0 .ro

/-- DAWN.XING_DATA.PHASE. -/
def DAWN.XING_DATA_PHASE : Fld := fF 0x118 7 4 0 .ro

/-- DAWN.XING_DATA.MARGIN. -/
def DAWN.XING_DATA_MARGIN : Fld := fF 0x118 3 0 0 .ro

/-- DAWN registers, part 1 (Table 4.14). -/
def DAWN.table1 : List Fld :=
  [DAWN.DAWN_CTRL_REQ, DAWN.DAWN_STATUS_FAIL_XING, DAWN.DAWN_STATUS_REFUSE_CODE, DAWN.DAWN_STATUS_FAIL_CODE, DAWN.DAWN_STATUS_ATTEMPTS, DAWN.DAWN_STATUS_UNALIGNED, DAWN.DAWN_STATUS_STATE, DAWN.DAWN_COUNT_COUNT, DAWN.REL_LO_REL_LO, DAWN.REL_HI_REL_HI, DAWN.XING_SEL_XING, DAWN.XING_DATA_SRC, DAWN.XING_DATA_DST, DAWN.XING_DATA_LAT, DAWN.XING_DATA_OCC, DAWN.XING_DATA_PHASE, DAWN.XING_DATA_MARGIN]

/-- The DAWN page's registers (Table 4.14). -/
def DAWN.table : List Fld := DAWN.table1

end Sys2Proof.Machine
end

