-- ==== Sys2Proof/Machine/RegsWhb.lean ====
section
/-!
DEFINITION. The registers and events of the WHB page (R296, Tables 7.17 and 7.18).
-/

namespace Sys2Proof.Machine

/-- Event REQ_DONE of WHB. -/
def WHB.evREQ_DONE : Ev := ⟨0, 0⟩

/-- Event REQ_FAIL of WHB. -/
def WHB.evREQ_FAIL : Ev := ⟨1, 2⟩

/-- Event BRIDGE_ERR of WHB. -/
def WHB.evBRIDGE_ERR : Ev := ⟨2, 3⟩

/-- Event PARAM_REFUSED of WHB. -/
def WHB.evPARAM_REFUSED : Ev := ⟨3, 4⟩

/-- Event LEDGER_NEW of WHB. -/
def WHB.evLEDGER_NEW : Ev := ⟨4, 0⟩

/-- Event LEDGER_NEAR_FULL of WHB. -/
def WHB.evLEDGER_NEAR_FULL : Ev := ⟨5, 0⟩

/-- Event LEDGER_FULL of WHB. -/
def WHB.evLEDGER_FULL : Ev := ⟨6, 7⟩

/-- Event MEAS_SUSPECT of WHB. -/
def WHB.evMEAS_SUSPECT : Ev := ⟨7, 8⟩

/-- Event SEAL_OPENED of WHB. -/
def WHB.evSEAL_OPENED : Ev := ⟨8, 0⟩

/-- Event SEAL_CLOSED of WHB. -/
def WHB.evSEAL_CLOSED : Ev := ⟨9, 0⟩

/-- Event TALLY_CLOSED of WHB. -/
def WHB.evTALLY_CLOSED : Ev := ⟨10, 0⟩

/-- Event TALLY_STORE_FULL of WHB. -/
def WHB.evTALLY_STORE_FULL : Ev := ⟨11, 12⟩

/-- Event WH_FAULT of WHB. -/
def WHB.evWH_FAULT : Ev := ⟨12, 13⟩

/-- WHB.REQ_CTRL.GO. -/
def WHB.REQ_CTRL_GO : Fld := fF 0x100 31 31 0 .wo

/-- WHB.REQ_CTRL.OP. -/
def WHB.REQ_CTRL_OP : Fld := fF 0x100 27 24 0 .rw

/-- WHB.REQ_CTRL.SUB. -/
def WHB.REQ_CTRL_SUB : Fld := fF 0x100 23 20 0 .rw

/-- WHB.REQ_CTRL.LEN. -/
def WHB.REQ_CTRL_LEN : Fld := fF 0x100 8 0 0 .rw

/-- WHB.REQ_STATUS.BUSY. -/
def WHB.REQ_STATUS_BUSY : Fld := fF 0x104 31 31 0 .ro

/-- WHB.REQ_STATUS.DONE. -/
def WHB.REQ_STATUS_DONE : Fld := fF 0x104 30 30 0 .w1c

/-- WHB.REQ_STATUS.ATTEMPTS. -/
def WHB.REQ_STATUS_ATTEMPTS : Fld := fF 0x104 29 28 0 .ro

/-- WHB.REQ_STATUS.RESULT. -/
def WHB.REQ_STATUS_RESULT : Fld := fF 0x104 27 24 0 .ro

/-- WHB.REQ_STATUS.TAG. -/
def WHB.REQ_STATUS_TAG : Fld := fF 0x104 23 16 0 .ro

/-- WHB.REQ_STATUS.RSP_LEN. -/
def WHB.REQ_STATUS_RSP_LEN : Fld := fF 0x104 15 0 0 .ro

/-- WHB.MIRROR.MIRROR_STALE. -/
def WHB.MIRROR_MIRROR_STALE : Fld := fF 0x108 31 31 1 .ro

/-- WHB.MIRROR.SEAL_STATE. -/
def WHB.MIRROR_SEAL_STATE : Fld := fF 0x108 30 29 0 .ro

/-- WHB.MIRROR.SEAL_N. -/
def WHB.MIRROR_SEAL_N : Fld := fF 0x108 28 28 0 .ro

/-- WHB.MIRROR.OPEN_FLAGS. -/
def WHB.MIRROR_OPEN_FLAGS : Fld := fF 0x108 15 0 0 .ro

/-- WHB.SEAL_COUNT.COUNT. -/
def WHB.SEAL_COUNT_COUNT : Fld := fF 0x10c 31 0 0 .ro

/-- WHB.TALLY_NO.OPEN. -/
def WHB.TALLY_NO_OPEN : Fld := fF 0x110 31 0 0 .ro

/-- WHB.OPEN_LEN_LO.LEN. -/
def WHB.OPEN_LEN_LO_LEN : Fld := fF 0x114 31 0 0 .ro

/-- WHB.OPEN_LEN_HI.LEN. -/
def WHB.OPEN_LEN_HI_LEN : Fld := fF 0x118 31 0 0 .ro

/-- WHB.TOTAL_LO.TOTAL. -/
def WHB.TOTAL_LO_TOTAL : Fld := fF 0x11c 31 0 0 .ro

/-- WHB.TOTAL_HI.TOTAL. -/
def WHB.TOTAL_HI_TOTAL : Fld := fF 0x120 31 0 0 .ro

/-- WHB.LSEQ_NEXT.NEXT. -/
def WHB.LSEQ_NEXT_NEXT : Fld := fF 0x124 31 0 0 .ro

/-- WHB.ACK_LSEQ.ACK. -/
def WHB.ACK_LSEQ_ACK : Fld := fF 0x128 31 0 0 .ro

/-- WHB.FREE.LEDGER. -/
def WHB.FREE_LEDGER : Fld := fF 0x12c 28 16 0 .ro

/-- WHB.FREE.TALLY. -/
def WHB.FREE_TALLY : Fld := fF 0x12c 7 0 0 .ro

/-- WHB.RTC.SEC. -/
def WHB.RTC_SEC : Fld := fF 0x130 31 0 0 .ro

/-- WHB.BRIDGE_STATS.RETRIES. -/
def WHB.BRIDGE_STATS_RETRIES : Fld := fF 0x134 31 16 0 .rc

/-- WHB.BRIDGE_STATS.ERRORS. -/
def WHB.BRIDGE_STATS_ERRORS : Fld := fF 0x134 15 0 0 .rc

/-- The WHB register of sealed parameter CAL0 (Table 7.12). -/
def WHB.PARAM_CAL0 : Fld := fF 0x200 31 0 0 .ro

/-- The WHB register of sealed parameter CAL1 (Table 7.12). -/
def WHB.PARAM_CAL1 : Fld := fF 0x204 31 0 0 .ro

/-- The WHB register of sealed parameter EPR0 (Table 7.12). -/
def WHB.PARAM_EPR0 : Fld := fF 0x208 31 0 0 .ro

/-- The WHB register of sealed parameter EPR1 (Table 7.12). -/
def WHB.PARAM_EPR1 : Fld := fF 0x20c 31 0 0 .ro

/-- The WHB register of sealed parameter MCFG (Table 7.12). -/
def WHB.PARAM_MCFG : Fld := fF 0x210 9 0 0 .ro

/-- The WHB register of sealed parameter IDX_TOL (Table 7.12). -/
def WHB.PARAM_IDX_TOL : Fld := fF 0x214 15 0 4 .ro

/-- The WHB register of sealed parameter XTOL_PPM (Table 7.12). -/
def WHB.PARAM_XTOL_PPM : Fld := fF 0x218 15 0 100 .ro

/-- The WHB register of sealed parameter XTOL_ABS (Table 7.12). -/
def WHB.PARAM_XTOL_ABS : Fld := fF 0x21c 31 0 1000 .ro

/-- The WHB register of sealed parameter BAK (Table 7.12). -/
def WHB.PARAM_BAK : Fld := fF 0x220 5 0 0 .ro

/-- The WHB register of sealed parameter RTC_SEC (Table 7.12). -/
def WHB.PARAM_RTC_SEC : Fld := fF 0x224 31 0 0 .ro

/-- The WHB register of sealed parameter OPENER_KEY (Table 7.12); no bit of it is given, and it reads 0. -/
def WHB.PARAM_OPENER_KEY : Fld := fF 0x228 31 0 0 .ro

/-- The WHB register of sealed parameter FILT (Table 7.12). -/
def WHB.PARAM_FILT : Fld := fF 0x22c 1 0 1 .ro

/-- The registers of the sealed parameters, in ID order (Table 7.12). -/
def WHB.params : List Fld :=
  [WHB.PARAM_CAL0, WHB.PARAM_CAL1, WHB.PARAM_EPR0, WHB.PARAM_EPR1, WHB.PARAM_MCFG, WHB.PARAM_IDX_TOL, WHB.PARAM_XTOL_PPM,
    WHB.PARAM_XTOL_ABS, WHB.PARAM_BAK, WHB.PARAM_RTC_SEC, WHB.PARAM_OPENER_KEY, WHB.PARAM_FILT]

/-- The register of the sealed parameter with an ID. -/
def WHB.paramValue (id : Nat) : Fld := WHB.params.getD (id - 1) WHB.PARAM_CAL0

/-- WHB registers, part 1 (Tables 7.18 and 7.12). -/
def WHB.table1 : List Fld :=
  [WHB.REQ_CTRL_GO, WHB.REQ_CTRL_OP, WHB.REQ_CTRL_SUB, WHB.REQ_CTRL_LEN, WHB.REQ_STATUS_BUSY, WHB.REQ_STATUS_DONE, WHB.REQ_STATUS_ATTEMPTS, WHB.REQ_STATUS_RESULT, WHB.REQ_STATUS_TAG, WHB.REQ_STATUS_RSP_LEN, WHB.MIRROR_MIRROR_STALE, WHB.MIRROR_SEAL_STATE, WHB.MIRROR_SEAL_N, WHB.MIRROR_OPEN_FLAGS, WHB.SEAL_COUNT_COUNT, WHB.TALLY_NO_OPEN, WHB.OPEN_LEN_LO_LEN, WHB.OPEN_LEN_HI_LEN, WHB.TOTAL_LO_TOTAL, WHB.TOTAL_HI_TOTAL, WHB.LSEQ_NEXT_NEXT, WHB.ACK_LSEQ_ACK, WHB.FREE_LEDGER, WHB.FREE_TALLY]

/-- WHB registers, part 2 (Tables 7.18 and 7.12). -/
def WHB.table2 : List Fld :=
  [WHB.RTC_SEC, WHB.BRIDGE_STATS_RETRIES, WHB.BRIDGE_STATS_ERRORS] ++ WHB.params

/-- The WHB page's registers (Tables 7.18 and 7.12). -/
def WHB.table : List Fld := WHB.table1 ++ WHB.table2

end Sys2Proof.Machine
end

