-- ==== Sys2Proof/Config.lean ====
section
/-!
DEFINITION. What the silicon fixes and what the spec leaves open. Every constant here has no body: nothing in
Lean can see a value of it, so a claim holds whatever it is.
-/

namespace Sys2Proof.Config

/-- The free values, one after another: the `n`-th value that the spec leaves open on this device. The State
counts how many have been drawn (log entry 2). -/
opaque free : Nat → Nat

/-- A byte of DRAM that has not been written since the last POR or WARM, by training count and address (R743;
log entry 3). -/
opaque dramFree : Nat → Nat → Byte

/-- The Weighhouse's private signing key (R271): fixed by silicon and never readable (log entry 4). -/
opaque whPrivateKey : Nat

/-- The transform of the three phase currents to (i_d, i_q) at a rotor angle (R312), whose arithmetic the spec does not
give (log entry 15). -/
opaque park : Int → Int → Int → Nat → Int × Int

/-- The current of the pair that conducts in a six-step sector (R312; log entry 15). -/
opaque pairCurrent : Int → Int → Int → Nat → Int

/-- The voltage demand exceeds the modulation limit (R312; log entry 15). -/
opaque overModulated : Int → Int → Bool

/-- The modulator's compare for a phase, by the voltage demand, the rotor angle and the phase (R312; log entry 15). -/
opaque duty : Int → Int → Nat → Nat → Nat

/-- PHASE_STATE of a phase in a six-step sector (R312; log entry 15). -/
opaque sixStep : Nat → Nat → Nat

end Sys2Proof.Config
end

