-- ==== Sys2Proof/Machine/State.lean ====
section
/-!
DEFINITION. The state of the device as plain data: its registers, the state of its engines, its memories, and the
queue of waiting commands.
-/

namespace Sys2Proof.Machine

/-- Why a step can stop. No command of this device stops the machine: an access to an address that does not exist is
a decode error (R188), which completes. The one reason is kept for a command whose lists do not fit the hardware. -/
inductive Fault where
  /-- Raised by no meaning of this model; it names a command that no sender can form. Safe. -/
  | malformed (mnemonic : String)
  deriving DecidableEq, Repr

/-- Why a step can refuse. -/
inductive Refusal where
  /-- Raised by an arm of `exec` whose command has no meaning yet. Safe: nothing follows from it. -/
  | notModelled (mnemonic : String)
  deriving DecidableEq, Repr

/-! ### What the silicon and the board fix -/

/-- The part fitted and what its board populates: fixed through every reset (R1, R2, R157, R158, R153). -/
structure Silicon where
  /-- The yield grade: SWL-9656. -/
  is9656 : Bool
  revision : Nat
  factoryId : Nat
  /-- Bit i: physical tile i is present. -/
  tileMap : Nat
  /-- GiB of DRAM on channel 0 and 1, 0 where unpopulated. -/
  dramGib0 : Nat
  dramGib1 : Nat
  ecc0 : Bool
  ecc1 : Bool
  /-- The data rate of channel 0 and 1 in MT/s (R515). -/
  mts0 : Nat
  mts1 : Nat
  /-- The Weighhouse's serial number, firmware digest, ROM digest, public key and attestation (R271, R278). -/
  whSerial : Nat
  fwId : Nat
  romDigest : Nat
  attestation : Nat
  deriving DecidableEq, Repr

/-! ### Answers and messages -/

/-- How an access completes. -/
inductive RespStatus where
  | ok | decode | denied | reset | timeout | poisoned
  /-- Configuration Request Retry Status, and Unsupported Request (R148, R666). -/
  | crs | unsupported
  deriving DecidableEq, Repr

/-- The answer to the last access: its status and its data words. -/
structure Resp where
  status : RespStatus
  data : List Nat
  deriving DecidableEq, Repr

/-- What leaves the device: a kind, a port or place, and the words or bytes sent. -/
structure Msg where
  kind : String
  dest : Nat
  words : List Nat
  deriving DecidableEq, Repr

/-! ### Timebase (Chapter 4) -/

/-- An almanac entry (R123 to R127). -/
structure AlmEntry where
  mer : Nat
  owner : Nat
  late : Nat
  target : Nat
  code : Nat
  arg : Nat
  /-- Table 4.6: 0 FREE, 1 ARMED, 2 LOCKED, 3 DONE, 4 MISSED, 5 DENIED, 6 CANCELLED, 7 NO_TARGET. -/
  st : Nat
  applied : Nat
  /-- Armed late with LATE = NOW: the beat on which it applies, the one after arming (R127). -/
  now : Option Nat
  deriving DecidableEq, Repr

/-- A free entry. -/
def AlmEntry.reset : AlmEntry := ⟨0, 15, 0, 0, 0, 0, 0, 0, none⟩

/-- The timebase's state that no register holds. -/
structure Timebase where
  /-- The master sidereal count (R116). -/
  count : Nat
  /-- The beats that have passed, whether or not the counters run: the model's own field (log entry 1). -/
  beat : Nat
  /-- The counters run: a dawn has released them since POR or WARM (R147). -/
  running : Bool
  /-- The halves latched by SID_LO reads, by 16 x master + identity (R117). -/
  latches : List (Nat × Nat)
  /-- The counter loads waiting for their tick, oldest first: the value, and the beat on which it takes effect (R119). -/
  load : List (Nat × Nat)
  /-- The almanac, sparse over its 64 entries. -/
  alm : List (Nat × AlmEntry)
  /-- The running dawn's step: 0 none, 1 draining, 2 about to prime, 3 primed, 4 released and measuring (R121). -/
  dawn : Nat
  /-- The running dawn is the automatic one after POR or WARM. -/
  dawnAuto : Bool
  /-- The beat on which the next event of the running dawn is due (Table 4.4). -/
  dawnAt : Nat
  /-- A DAWN_DONE or DAWN_FAIL has occurred since POR or WARM (R148). -/
  dawned : Bool
  /-- The measured phase and occupancy of each crossing, sparse over 0 to 119 (R114, R122). -/
  xphase : List (Nat × Nat)
  xocc : List (Nat × Nat)
  /-- The phase shift of each island in sixteenths of a beat (R122). -/
  shift : List (Nat × Nat)
  /-- Each replica's difference from the master, sparse over the islands (R115); not zero only while islands halt. -/
  haltedIslands : Bool
  /-- Reference monitor: consecutive windows at and below WARN, at and below LIMIT, and the discarded window
  (R131, R140). -/
  warnRun : Nat
  warnOff : Nat
  limRun : Nat
  limOff : Nat
  discard : Bool
  /-- References tried after the strapped one (R146). -/
  fallback : Nat
  /-- The candidates that were valid in the previous window, bit c for candidate c (R142). -/
  wasValid : Nat
  /-- The beat of the last window end that was still at the limit (Table 4.7). -/
  limAt : Option Nat
  deriving DecidableEq, Repr

/-- The timebase after POR or WARM. Occupancies, phases and margins of the crossings read 0 until a dawn has measured them
(DESIGN CHOICE, log entry 8). -/
def Timebase.reset : Timebase :=
  ⟨0, 0, false, [], [], [], 0, false, 0, false, [], [], [], false, 0, 0, 0, 0, false, 0, 0, none⟩

/-! ### The control-plane matrix (Chapter 5) -/

/-- A request in the matrix (R164 to R170). -/
structure MxReq where
  /-- The target port: 0 LOCAL-A, 1 LOCAL-B, 2 WHB, 3 NOC_OUT, 4 DECERR; 5 + r for the peripheral bus of router r's node. -/
  port : Nat
  acc : Acc
  addr : Nat
  write : Bool
  /-- How many bytes it covers, and a write's bytes. -/
  size : Nat
  data : List Byte
  /-- Data words still to move. -/
  words : Nat
  /-- The count at which it reached the port. -/
  arrived : Nat
  promoted : Bool
  /-- The header words of the NoC packet that it answers. -/
  hdr : Option (Nat × Nat)
  /-- The Wicket access that it serves, and its NOC_OUT response slot for another device's address. -/
  ref : Nat
  slot : Option Nat
  /-- It has left its master port with a response slot reserved; else what holds it there: 1 order, 2 a slot (R168). -/
  reserved : Bool := false
  hold : Nat := 0
  /-- The beat on which it was issued, and the words of its response that come back with bad parity (R193, R194). -/
  issuedAt : Nat := 0
  badRsp : Nat := 0
  deriving DecidableEq, Repr

/-- The matrix: requests waiting, requests issued and not answered, and requests that timed out. -/
structure Matrix where
  waiting : List MxReq
  issued : List MxReq
  late : List MxReq
  /-- The responses that have come to NOC_OUT, by response slot. -/
  answers : List (Nat × Resp)
  deriving DecidableEq, Repr

/-- The empty matrix. -/
def Matrix.reset : Matrix := ⟨[], [], [], []⟩

/-- A device of grade SWL-9664 with 8 GiB of DRAM on each channel and no inline ECC (log entry 7). -/
def Silicon.reset : Silicon where
  is9656 := false
  revision := 1
  factoryId := 1
  tileMap := 2 ^ 64 - 1
  dramGib0 := 8
  dramGib1 := 8
  ecc0 := false
  ecc1 := false
  mts0 := 4266
  mts1 := 4266
  whSerial := 1
  fwId := 1
  romDigest := 1
  attestation := 1


/-! ### Line unit (Chapter 6) -/

/-- An axis channel's state that no register holds (R202 to R212). -/
structure AxisSt where
  /-- The accepted levels, after inversion. -/
  a : Bool
  b : Bool
  z : Bool
  /-- The count from which INDEX_MISSING is measured (R209). -/
  idxFrom : Int
  /-- Z on the latest 1,024 counting edges, newest in bit 0, and how many there have been, to 1,024 (R211). -/
  zHist : Nat
  zSeen : Nat
  /-- Consecutive Z assertions that began with A, and with B, differing from ZGATE (R211). -/
  wrongA : Nat
  wrongB : Nat
  /-- The furthest count reached in EXPECT_DIR since enable (R212). -/
  furthest : Int
  /-- Live conditions: OPEN by signal, REV by signal, AB_SWAPPED. -/
  openLive : Nat
  revLive : Nat
  swapLive : Bool
  /-- The levels at the balls and the sensed levels, A, B and Z in bits 0 to 2; the beats since which A, B and Z have been
  sensed as they are (R203, R204). -/
  pin : Nat
  sense : Nat
  atA : Nat
  atB : Nat
  atZ : Nat
  deriving DecidableEq, Repr

/-- A channel before its first edge: every accepted level is 0 (R203). -/
def AxisSt.reset : AxisSt := ⟨false, false, false, 0, 0, 0, 0, 0, 0, 0, 0, false, 0, 0, 0, 0, 0⟩

/-- What a reset leaves of a channel: its inputs, and with `lv` the accepted levels. -/
def AxisSt.inputs (x : AxisSt) (lv : Bool) : AxisSt :=
  { AxisSt.reset with
    a := lv && x.a, b := lv && x.b, z := lv && x.z, pin := x.pin, sense := x.sense, atA := x.atA, atB := x.atB, atZ := x.atZ }

/-- An ephemeris segment: its eight 64-bit words (Table 6.4). -/
structure Seg where
  words : List Nat
  deriving DecidableEq, Repr

/-- The ephemeris engine (R213 to R221). -/
structure Ephem where
  /-- Kept samples (s, q), newest first. -/
  samples : List (Nat × Int)
  /-- The stamp of the previous sample. -/
  prev : Option Nat
  /-- The next segment carries RESTART (R216). -/
  restart : Bool
  /-- The SEQ of the next segment. -/
  seq : Nat
  /-- The segment formed at the last fit instant and not published yet. -/
  formed : Option Seg
  /-- The segment in force, and the pending segments by T0. -/
  cur : Option Seg
  pend : List Seg
  /-- The SEQ last accepted. -/
  lastSeq : Option Nat
  /-- The count of the last SNAP on the source axis (Table 6.8). -/
  snapAt : Option Nat
  deriving DecidableEq, Repr

/-- The ephemeris engine after reset. -/
def Ephem.reset : Ephem := ⟨[], none, false, 0, none, none, [], none, none⟩

/-- A trigger or strobe schedule's state that no register holds (R223 to R230, R238). -/
structure SchedSt where
  /-- The output is in its pulse; the beat from which its active ticks are not yet in ON_TIME. -/
  pulse : Bool
  from_ : Nat
  /-- The first beat on which it may fire again, two beats after its last pulse ends (R225). -/
  idleAt : Nat
  /-- Strobe only: the beats on which linked firings are due (R228). -/
  linked : List Nat
  /-- Strobe only: the duty limit has been reached in the window `win` (R230). -/
  cut : Bool
  win : Nat
  deriving DecidableEq, Repr

/-- An idle schedule. -/
def SchedSt.reset : SchedSt := ⟨false, 0, 0, [], false, 0⟩

/-- A stamp waiting in an ingest binding (R232). -/
structure StampEntry where
  t : Nat
  p : Nat
  seq : Nat
  flags : Nat
  deriving DecidableEq, Repr

/-- The line being received (R232, R233). -/
structure LineBuf where
  vc : Nat
  lineNo : Nat
  startT : Nat
  stamp : Option StampEntry
  /-- Payload bytes, and the type, word count and flags of the long packet. -/
  dt : Nat
  wc : Nat
  bytes : List Byte
  crcErr : Bool
  corrected : Bool
  got : Bool
  /-- UNPACK16 as it was at the line start, and whether data has been cut (R234, R240). -/
  unpack : Bool
  trunc : Bool
  /-- The line is to be dropped whole: its binding is denied, or the queue engine withholds credit. -/
  drop : Bool
  deriving DecidableEq, Repr

/-- A push packet of a line item: its queue, the household code it carries, its words, and whether it ends the item. -/
structure RxPush where
  queue : Nat
  hh : Nat
  words : List Nat
  last : Bool
  deriving DecidableEq, Repr

/-- A receiver's state that no register holds. -/
structure RxSt where
  /-- The open line of each virtual channel, sparse over 0 to 3. -/
  lines : List (Nat × LineBuf)
  /-- The stamp FIFO of each binding, oldest first, sparse over 0 to 3. -/
  fifos : List (Nat × List StampEntry)
  /-- The pushes of ended lines that wait for a response slot, oldest first (R435, R462). -/
  out : List RxPush
  deriving DecidableEq, Repr

/-- An idle receiver. -/
def RxSt.reset : RxSt := ⟨[], [], []⟩

/-- The line unit. -/
structure LineU where
  axis : List (Nat × AxisSt)
  eph : Ephem
  trig : List (Nat × SchedSt)
  stb : List (Nat × SchedSt)
  rx : List (Nat × RxSt)
  deriving DecidableEq, Repr

/-- The line unit after reset. -/
def LineU.reset : LineU := ⟨[], Ephem.reset, [], [], []⟩


/-! ### Weighhouse (Chapters 3 and 7) -/

/-- A meter channel (R251, R256 to R260). -/
structure MeterCh where
  /-- The accepted levels. -/
  a : Bool
  b : Bool
  z : Bool
  /-- The signed edge count of the open tally. -/
  edges : Int
  /-- Counts since the previous index edge, once there has been one. -/
  pos : Int
  seen : Bool
  /-- How far the count stands behind the furthest upward count (R212, R260). -/
  back : Int
  swap : Bool
  /-- The index run: its d, and its revolutions, 0 with no run. -/
  runD : Int
  runN : Nat
  /-- Consecutive revolutions beyond tolerance. -/
  beyond : Nat
  /-- The wiring conditions ledgered in this tally. -/
  wired : Nat
  /-- Z on the latest 1,024 counting edges, newest in bit 0, and whether REV_Z holds (R211, R260). -/
  zHist : Nat
  revZ : Bool
  deriving DecidableEq, Repr

/-- A channel that has counted nothing. -/
def MeterCh.reset : MeterCh := ⟨false, false, false, 0, 0, false, 0, false, 0, 0, 0, 0, 0, false⟩

/-- The open tally's flags (Table 7.6), its opening time. -/
structure Tally where
  openRtc : Nat
  suspect : Bool
  xfail : Bool
  unsealed : Bool
  full : Bool
  gap : Bool
  torn : Bool
  rtcLost : Bool
  halted : Bool
  deriving DecidableEq, Repr

/-- A commit slot (R294); `good` is false until its CRC is written. -/
structure CommitSlot where
  seq : Nat
  tallyNo : Nat
  tally : Tally
  total : Int
  lseq : Nat
  rtc : Nat
  ovf : Nat
  w0 : MeterCh
  w1 : MeterCh
  /-- H of the newest ledger entry (R267). -/
  hash : List Byte
  good : Bool
  deriving DecidableEq, Repr

/-- A copy of the sealed parameters: their values, sparse by ID (RTC_SEC is the clock's and OPENER_KEY the key), and its
CRC-32 (R250, R270). -/
structure ParamCopy where
  vals : List (Nat × Nat)
  opener : Option (Nat × Nat)
  crc : Nat
  deriving DecidableEq, Repr

/-- A response of the bridge (Table 7.10). -/
structure WhRsp where
  op : Nat
  sub : Nat
  result : Nat
  tag : Nat
  payload : List Byte
  deriving DecidableEq, Repr

/-- A closed tally whose record is not signed yet: its number, its data words, and the answer that waits for it
(R262). -/
structure Unsigned where
  no : Nat
  words : List Nat
  answer : Option WhRsp
  deriving DecidableEq, Repr

/-- The Weighhouse die. No core-die reset reaches it (R11). -/
structure Weigh where
  /-- WH_SRC: 0 MAIN, 1 BACKUP, 2 QUALIFY (R73). -/
  src : Nat
  halted : Bool
  /-- The die has generated its key pair: it has been started once (Table 7.9, R294). -/
  keyed : Bool
  /-- The power gap in progress: its recorded start, and whether the Weighhouse halted or the RTC stopped in it. -/
  gap : Option Nat
  gapHalt : Bool
  gapRtc : Bool
  /-- RTC in units of 1/32,768 s, and the part of a unit gathered since, in 32,768ths of a nanosecond. -/
  rtc : Nat
  rtcAcc : Nat
  rtcStopped : Bool
  rtcLost : Bool
  /-- The nanoseconds that the RTC has run, and that at which VDDW last rose, VBAK was sampled, a probe began, a routine
  commit was due and the seal nonce was issued. -/
  ns : Nat
  riseAt : Nat
  sampleAt : Nat
  probeAt : Option Nat
  routineAt : Nat
  nonceAt : Nat
  /-- VBAK_HOLD has fallen below VBAK_COMMIT since main power was lost (R88). -/
  low : Bool
  /-- A commit is in progress. -/
  commit : Bool
  /-- The commit ring, sparse over its 512 slots, and the BANK_SEQ of the next commit. -/
  ring : List (Nat × CommitSlot)
  bankSeq : Nat
  /-- Charger: CHG_STATE, absence, low backup, die too hot, a probe running, a due probe that waits for a commit,
  consecutive passes, VBAK in mV. -/
  chg : Nat
  absent : Bool
  bakLow : Bool
  hot : Bool
  probing : Bool
  probeDue : Bool
  passes : Nat
  vbak : Int
  /-- The meter channels. -/
  w0 : MeterCh
  w1 : MeterCh
  tallyNo : Nat
  tally : Tally
  total : Int
  /-- The ledger's slots (word 0, word 1), LSEQ_NEXT, ACK_LSEQ, H, and the entries not written (R285). -/
  ledger : List (Nat × (Nat × Nat))
  lseq : Nat
  ackLseq : Nat
  hash : List Byte
  ovf : Nat
  /-- The tally store: number and record, and ACK_TALLY. -/
  store : List (Nat × List Byte)
  ackTally : Nat
  signing : List Unsigned
  stamp : Option (List Byte)
  /-- The two copies of the sealed parameters (R250, R270). -/
  parA : ParamCopy
  parB : ParamCopy
  /-- Both parameter copies are bad, and the parameters rewritten since, by bit; the identity area is uncorrectable
  (Table 7.16). -/
  paramsBad : Bool
  rewritten : Nat
  idBad : Bool
  /-- The seal: 0 FACTORY, 1 CLOSED, 2 OPEN; WH_SEAL_N counted low; the seal counter; the nonce; the time of the last
  ledgered refusal; RATE refusals since (R272 to R276). -/
  sealSt : Nat
  sealLow : Bool
  sealCount : Nat
  nonce : Option (List Byte)
  refusedAt : Option Nat
  rate : Nat
  /-- The frame on the record lane (R277), and the last completed response (R280). -/
  lane : Option (List Byte)
  last : Option WhRsp
  /-- The requests that wait behind a signing, in arrival order, and whether the request now served has waited
  (R262, R281). -/
  queue : List Instr
  turn : Bool
  deriving DecidableEq, Repr

/-- A tally that opens with no flag but UNSEALED and RTC_LOST. -/
def Tally.fresh (rtc : Nat) (unsealed rtcLost suspect : Bool) : Tally :=
  ⟨rtc, suspect, false, unsealed, false, false, false, rtcLost, false⟩

/-- The factory parameters (Table 7.12). -/
def whFactory (id : Nat) : Nat :=
  match id with
  | 6 => 4
  | 7 => 100
  | 8 => 1000
  | 12 => 1
  | _ => 0

/-- The factory's parameters with their CRC-32 (Table 7.12). -/
def ParamCopy.factory : ParamCopy := ⟨[], none, 0x4250d450⟩

/-- A factory-fresh Weighhouse on main power that has not been started yet, with an empty ledger and tally 1 open (R276,
R294; log entry 11). -/
def Weigh.reset : Weigh where
  src := 0
  halted := true
  keyed := false
  gap := none
  gapHalt := false
  gapRtc := false
  rtc := 0
  rtcAcc := 0
  rtcStopped := false
  rtcLost := false
  ns := 0
  riseAt := 0
  sampleAt := 0
  probeAt := none
  routineAt := 0
  nonceAt := 0
  low := false
  commit := false
  ring := []
  bankSeq := 0
  chg := 0
  absent := false
  bakLow := false
  hot := false
  probing := false
  probeDue := false
  passes := 0
  vbak := 3000
  w0 := MeterCh.reset
  w1 := MeterCh.reset
  tallyNo := 1
  tally := Tally.fresh 0 true false false
  total := 0
  ledger := []
  lseq := 0
  ackLseq := 0
  hash := List.replicate 32 0
  ovf := 0
  store := []
  ackTally := 1
  signing := []
  stamp := none
  parA := ParamCopy.factory
  parB := ParamCopy.factory
  paramsBad := false
  rewritten := 0
  idBad := false
  sealSt := 0
  sealLow := false
  sealCount := 0
  nonce := none
  refusedAt := none
  rate := 0
  lane := none
  last := none
  queue := []
  turn := false

/-- The core side of the bridge (R282). -/
structure Whb where
  /-- The request in flight: OP, SUB, payload; 0 software, 1 mirror refresh, 2 SL write with the parameter's ID. -/
  req : Option (Nat × Nat × List Byte)
  kind : Nat
  slId : Nat
  /-- The beat on which its last frame was sent (R282). -/
  sentAt : Nat
  /-- A mirror refresh waits for the software request (R284). -/
  mirrorDue : Bool
  /-- The beat of the last mirror refresh, none since POR or WARM (Table 3.16). -/
  mirrorLast : Option Nat := none
  /-- The request buffer and the response buffer, sparse by byte (Table 7.13). -/
  reqBuf : List (Nat × Byte)
  rspBuf : List (Nat × Byte)
  /-- The first READ STATUS since POR or WARM has been answered; a GO written before then waits (R714). -/
  ready : Bool
  goDue : Bool
  /-- An SL write that waits for that answer: the parameter's ID and the value (R297, R714). -/
  slDue : Option (Nat × Nat)
  deriving DecidableEq, Repr

/-- The core side after POR or WARM (R295). -/
def Whb.reset : Whb := ⟨none, 0, 0, 0, false, none, [], [], false, false, none⟩


/-! ### Motor channels and power stages (Chapters 8 and 9) -/

/-- A motor channel's state that no register holds. -/
structure MotorSt where
  /-- The beats on which the channel entered its state, and RUN, LOCKING or LOCKED without interruption (R328). -/
  stateAt : Nat
  runAt : Nat
  /-- CAL was requested by CTRL.OFFSET_CAL alone; the samples taken, and their sums by phase (R304). -/
  calOnly : Bool
  calN : Nat
  calSum : List Nat
  /-- DETECT: the vector applied, the beat on which it began, and that on which its pulse ended at DETECT_ILIM (R305). -/
  detK : Nat
  detAt : Nat
  detEnd : Option Nat
  /-- The current reference in force (R313), and the integrators of the current loop and the speed loop in 1/65,536
  (R312, R314). -/
  ref : Int × Int
  intD : Int
  intQ : Int
  intW : Int
  /-- The open-loop angle and its speed in 1/65,536 of a speed unit (R308), and agreeing updates with their sign. -/
  rampTheta : Nat
  rampW : Int
  rampTop : Option Nat
  agree : Nat
  agreeNeg : Bool
  /-- The speed reference in 1/65,536 of a speed unit (R314). -/
  wRef : Int
  /-- The position profile and its speed in 1/65,536 of a count (R314), and updates within POS_TOL. -/
  profPos : Int
  profVel : Int
  posOk : Nat
  /-- Hall: the filtered code, the last valid sector, the beats of the last two transitions, the direction (R315). -/
  hallCode : Nat
  hallSector : Nat
  hallAt : Nat
  hallPrev : Nat
  hallDir : Int
  /-- Line lock: w_ff, theta_line, the trim's target, and whether a lost lock must not be captured again (R320). -/
  wff : Int
  thetaLine : Nat
  trimTarget : Nat
  noCapture : Bool
  /-- The lock was lost with its segment: AUTO_RELOCK decides once one is in force again (R330). -/
  segLost : Bool
  /-- The beat and position of a facet edge that came while the trim moved (Table 8.7). -/
  edge : Option (Nat × Int)
  /-- TD_MEAS is at or above TD_TRIP (Table 8.8). -/
  hot : Bool
  /-- The position from which FACET_MISSING is measured (Table 8.8). -/
  facetFrom : Int
  /-- Runs of consecutive updates or periods: in and out of the lock windows, stall, observer lost, invalid hall
  codes, mean overcurrent, cycle-by-cycle trips, loops outside their envelopes. -/
  lockN : Nat
  lossN : Nat
  stallN : Nat
  obsN : Nat
  hallN : Nat
  avgN : Nat
  cbcN : Nat
  obsPin : Nat
  deratePin : Nat
  /-- A cycle-by-cycle trip has occurred in this PWM period. -/
  cbcNow : Bool
  /-- One more than the beat of the latest reading of the temperature (R324). -/
  derateAt : Nat
  deriving DecidableEq, Repr

/-- A channel at rest. -/
def MotorSt.reset : MotorSt :=
  ⟨0, 0, false, 0, [], 0, 0, none, (0, 0), 0, 0, 0, 0, 0, none, 0, false, 0, 0, 0, 0, 0, 0, 0, 0, 0, 0, 0, 0, false, false, none,
    false, 0, 0, 0, 0, 0, 0, 0, 0, 0, 0, false, 0⟩

/-- How a switch's demand stood at a period start at which it was active: the ticks since it rose, the dead time of
that rise, and whether its on-interval, where it has begun, is issued (R345, R348). -/
structure PwmCarry where
  age : Nat
  dead : Nat
  ok : Bool
  deriving DecidableEq, Repr

/-- A PWM generator: the values that the running period took at its start (R344), and its loop. `start` is the beat of the
latest period start and `due` that of the next (R343). -/
structure PwmSt where
  running : Bool
  start : Nat
  due : Option Nat
  period : Nat
  updown : Bool
  compl : Bool
  cmp : List Nat
  cmpl : List Nat
  phase : List Nat
  dtH : Nat
  dtL : Nat
  /-- The commands in force at the period start, and each switch's demand carried over it. -/
  cmd0 : Nat
  carry : List (Option PwmCarry)
  /-- The beat whose dropped pulses have been counted (R348). -/
  edgeAt : Option Nat
  /-- The largest g of each of the last periods, newest first, and of this period so far, high and low side
  (R352). -/
  histH : List Nat
  histL : List Nat
  curH : Nat
  curL : Nat
  /-- Loop updates in a row whose value lay outside the envelope, high and low side. -/
  pinH : Nat
  pinL : Nat
  deriving DecidableEq, Repr

/-- A stopped generator. -/
def PwmSt.reset : PwmSt := ⟨false, 0, none, 0, true, true, [], [], [], 0, 0, 0, [], none, [], [], 0, 0, 0, 0⟩

/-- A power stage on the Ouvgor die; switches are numbered UH, UL, VH, VL, WH, WL. -/
structure GateSt where
  /-- Commands, switches driven on, switches that wait for the interlock, gates above V_IL, phases whose overlap has
  been counted. -/
  cmd : Nat
  on : Nat
  wait : Nat
  above : Nat
  overlap : Nat
  /-- The beats of each switch's last off-command and turn-on; the ticks from the opposite off-command to the interlock's
  release for a turn-on that has still to be made (R352). -/
  offAt : List (Nat × Nat)
  onAt : List (Nat × Nat)
  gap : List (Nat × Nat)
  /-- Phases whose bootstrap supply the pins show low, and those that the monitors hold off (R360, R367); switches held off
  to the end of the period. -/
  bstPin : Nat
  bstLow : Nat
  cbcOff : Nat
  /-- Switches in a soft turn-off, at its level and since which beat; those being sunk with SOFT_OFF.SINK (R363); and those
  turned off with full sink (R365). -/
  soft : Nat
  softAt : List (Nat × Nat)
  sunk : Nat
  hard : Nat
  /-- TRIP_N is low, the period is off (CYCLE), and consecutive period starts with TRIP_N low (R364). -/
  tripLow : Bool
  cycOff : Bool
  tripN : Nat
  /-- The link is lost, and the word credits that the generator holds (R340). -/
  linkBad : Bool
  credits : Nat
  /-- The diagnostic step that runs, 0 none, and the beat on which it ends; it runs for a start; the half step of the
  comparator self-test, 0 none, and the beat on which it ends; the failures found. -/
  diag : Nat
  stepDue : Nat
  diagStart : Bool
  cst : Nat
  halfDue : Nat
  cstFail : Nat
  /-- The direct test pulse runs, and the beat on which it ends. -/
  test : Bool
  testDue : Nat
  /-- Slew loop: sum and number of attributed transitions, and pinned updates, by side. -/
  sumH : Nat
  numH : Nat
  pinH : Nat
  sumL : Nat
  numL : Nat
  pinL : Nat
  deriving DecidableEq, Repr

/-- A power stage with every gate off. -/
def GateSt.reset : GateSt :=
  ⟨0, 0, 0, 0, 0, [], [], [], 0, 0, 0, 0, [], 0, 0, false, false, 0, false, 8, 0, 0, false, 0, 0, 0, false, 0, 0, 0, 0, 0, 0,
    0⟩

/-- The motor channels, and the shared self-test of the Ouvgor die. -/
structure Drives where
  motor : List (Nat × MotorSt)
  pwm : List (Nat × PwmSt)
  gate : List (Nat × GateSt)
  /-- The shared comparators are under test (R369); the die is at 150 °C (R365). -/
  ouvCst : Bool
  ouvHot : Bool
  /-- What the inputs of the shared monitors show, in mV where a level has been seen: VM, VGD; VCP is low; the die is hot. -/
  vmPin : Option Nat
  vgdPin : Option Nat
  vcpPin : Bool
  hotPin : Bool
  deriving DecidableEq, Repr

/-- The drives after reset. -/
def Drives.reset : Drives := ⟨[], [], [], false, false, none, none, false, false⟩


/-! ### DRAM (Chapters 5 and 13) -/

/-- A request that waits at a DRAM channel (R518). Clients are numbered: 0 to 255 a queue's spill traffic, 256 + h
household h's tile DMA, 264 + k the egress reads of scheduler k, 512 any other requester. -/
structure DramReq where
  ch : Nat
  timed : Bool
  committed : Bool
  client : Nat
  bytes : Nat
  deriving DecidableEq, Repr

/-- A client's token meter: its count in 2^-32 byte, and the count at which it was last brought up to date (R473,
R499). -/
structure Meter where
  tok : Nat
  at_ : Nat
  deriving DecidableEq, Repr

/-- An in-force DRAM region: base and size in MiB, and its owner (R517). -/
structure Region where
  base : Nat
  size : Nat
  owner : Nat
  deriving DecidableEq, Repr

/-- The DRAMADM values in force (R516). -/
structure Adm where
  hot : Bool
  spillRes : Nat
  egressRes : List Nat
  tileRes : List Nat
  /-- DRAM_MAP and the three words of each region, as their registers read them. -/
  map : Nat
  regs : List (Nat × Nat)
  regions : List Region
  deriving DecidableEq, Repr

/-- The values in force after reset (R530). -/
def Adm.reset : Adm := ⟨true, 0, [0, 0, 0, 0, 0], [0, 0, 0, 0, 0, 0, 0, 0], 0, [], []⟩

/-- The DRAM channels, their contents and their arbiters. -/
structure DramSt where
  /-- The bytes written since the last POR or WARM, by 2^33 x channel + channel address (R743). -/
  mem : List (Nat × Byte)
  /-- Both controllers are held in reset by a low rail (Table 3.8). -/
  dead : Bool
  waiting : List DramReq
  meters : List (Nat × Meter)
  /-- Excess bytes requested in the previous and in this window, by channel x 1024 + client. -/
  excPrev : List (Nat × Nat)
  excCur : List (Nat × Nat)
  /-- The client that each channel's round robin serves, and the bytes it may still have. -/
  rrClient : List (Nat × Nat)
  rrLeft : List (Nat × Nat)
  /-- Committed bytes admitted and served in this window. -/
  admitted : Nat
  served : Nat
  /-- Channels, by bit: refresh doubled, throttled; and those with each condition at some time in this window. -/
  hot : Nat
  slow : Nat
  hotWin : Bool
  slowWin : Bool
  eccWin : Bool
  /-- A committed request waited behind a refresh, an early refresh found an idle bank, in this window (R520). -/
  refBehind : Bool
  refIdle : Bool
  pin : Nat
  /-- A positive deficit was found at the last window end (R519). -/
  short : Bool
  /-- One more than the beat of the latest window end, and of the latest refresh loop update. -/
  winAt : Nat
  refAt : Nat
  /-- Channels whose training has finished, by bit (R743). -/
  trained : Nat
  adm : Adm
  deriving DecidableEq, Repr

/-- DRAM after POR or WARM, before training. -/
def DramSt.reset : DramSt :=
  ⟨[], false, [], [], [], [], [], [], 0, 0, 0, 0, false, false, false, false, false, 0, false, 0, 0, 0, Adm.reset⟩

/-! ### Queues (Chapter 12) -/

/-- A producer: source node, agent, master and household code (R460). -/
structure Producer where
  node : Nat
  agent : Nat
  master : Nat
  hh : Nat
  deriving DecidableEq, Repr

/-- A queue word with its parity bit and poison tag (R457), and where it lies: 0 tail stage, 1 a block being
written, 2 a spilled block, 3 a block being read, 4 head stage, 5 popped and kept; for 1 to 3, its block's sequence
number and its place in the block. -/
structure QWord where
  data : Nat
  parity : Bool
  poison : Bool
  place : Nat
  blk : Nat
  slot : Nat
  deriving DecidableEq, Repr

/-- A committed item: its number in commit order, ITEM_SEQ, words, the count from which it is visible, its arrival
stall (R622), whether it is held, and the beat of its commit (R460). -/
structure QItem where
  idx : Nat
  seq : Nat
  words : List QWord
  commit : Nat
  stall : Nat
  held : Bool
  beat : Nat
  deriving DecidableEq, Repr

/-- An open item: its producer, its words, and the beat of its last word. -/
structure QOpen where
  prod : Producer
  words : List QWord
  last : Nat
  deriving DecidableEq, Repr

/-- A discarding producer: whether its words are counted in FLUSH_DISCARD_WORDS, and the beat of its last word
(R478). -/
structure QDisc where
  prod : Producer
  counts : Bool
  last : Nat
  deriving DecidableEq, Repr

/-- A queue's state that no register holds. -/
structure QueueSt where
  items : List QItem
  opened : Option QOpen
  discs : List QDisc
  /-- The item at the read position and the words of it already read. -/
  rd : Nat
  off : Nat
  mark : Option Nat
  nextIdx : Nat
  seq : Nat
  lastSeq : Nat
  /-- BSEQ of the next block written (Table 12.1). -/
  bseq : Nat
  rewound : Bool
  /-- LOST_ITEMS has increased since the previous pop. -/
  lost : Bool
  /-- LEVEL exceeds THRESH (R482). -/
  isOver : Bool
  refuse : Nat
  /-- Since the last watermark update: the tail stage was full; spilling began while the region was empty (R474). -/
  stalled : Bool
  started : Bool
  pin : Nat
  /-- The beat of the last watermark update, plus 1 (R474). -/
  updated : Nat
  deriving DecidableEq, Repr

/-- An empty queue. -/
def QueueSt.reset : QueueSt := ⟨[], none, [], 0, 0, none, 0, 0, 0, 0, false, false, false, 0, false, false, 0, 0⟩

/-! ### Egress schedulers and policers (Chapter 13) -/

/-- A shaper's or policer's buckets: the committed and peak counts in 2^-16 byte and their remainders (R497,
R500). -/
structure Buckets where
  tokC : Int
  tokP : Int
  remC : Nat
  remP : Nat
  deriving DecidableEq, Repr

/-- Empty buckets. -/
def Buckets.reset : Buckets := ⟨0, 0, 0, 0⟩

/-- A bind slot. -/
structure SlotSt where
  b : Buckets
  /-- STATE.WHERE: 0 IDLE, 1 HI, 2 LO, 3 EX, 4 WHEEL, 5 PARKED, 6 BLOCKED. -/
  place : Nat
  deficit : Nat
  turn : Bool
  /-- The eligible time (R508). -/
  te : Nat
  refuse : Nat
  /-- The wheel's level, 2 for a parked slot that is re-examined (R508). -/
  level : Nat
  /-- The sojourn limit is exceeded now (R514). -/
  late : Bool
  deriving DecidableEq, Repr

/-- A disabled slot. -/
def SlotSt.reset : SlotSt := ⟨Buckets.reset, 0, 0, false, 0, 0, 0, false⟩

/-- A scheduler: its slots, and its three service lists (R503). -/
structure SchSt where
  slots : List (Nat × SlotSt)
  hi : List Nat
  lo : List Nat
  ex : List Nat
  /-- One more than the beat of the latest refill (R500). -/
  refilled : Nat
  deriving DecidableEq, Repr

/-- An idle scheduler. -/
def SchSt.reset : SchSt := ⟨[], [], [], [], 0⟩


/-! ### Sieve tiles and runs (Chapter 10) -/

/-- A barrier that a leaf has reached: its class and OP, its destination, and its operand (R400, R402). -/
structure BarAt where
  cls : Nat
  op : Nat
  rd : Nat
  vals : List Nat
  deriving DecidableEq, Repr

/-- A DMA transfer in flight: to DRAM or from it, its DRAM address, window offset and length in bytes, and for a
transfer to DRAM its bytes. -/
structure DmaSt where
  put : Bool
  dram : Nat
  win : Nat
  len : Nat
  data : List Byte
  deriving DecidableEq, Repr

/-- A leaf context (R382): the leaf's number, its PC, its scalar, vector (16 x register + lane) and predicate
registers, sparse. -/
structure LeafSt where
  leaf : Nat
  pc : Nat
  s : List (Nat × Nat)
  v : List (Nat × Nat)
  p : List (Nat × Nat)
  bar : Option BarAt
  halted : Bool
  dma : List DmaSt
  /-- A POP or a DMAWAIT has issued and waits (R397). -/
  popWait : Bool
  dmaWait : Bool
  /-- The beats on which results are ready (R384): s registers from 0, v from 64, p from 128. -/
  ready : List (Nat × Nat)
  deriving DecidableEq, Repr

/-- A tile. -/
structure TileSt where
  /-- Its SRAM, sparse by byte address. -/
  sram : List (Nat × Byte)
  ctxs : List LeafSt
  /-- The context in issue. -/
  cur : Nat
  /-- Halted by a debug halt, and the instructions that a RUN_STEP still allows (R686, R687). -/
  halted : Bool
  steps : Nat
  /-- The breakpoint at the PC has been reported and does not hit again (R407). -/
  passed : Bool
  /-- The count at which its last leaf reached the barrier. -/
  arrived : Nat
  /-- The beat from which it may issue again (R384, R687), and that of its latest issue or of a step's start. -/
  freeAt : Nat
  issuedAt : Nat
  deriving DecidableEq, Repr

/-- An idle tile. -/
def TileSt.reset : TileSt := ⟨[], [], 0, false, 0, false, 0, 0, 0⟩

/-- An item that an EMIT has staged (R399). -/
structure EmitSt where
  leaf : Nat
  queue : Nat
  words : List Nat
  deriving DecidableEq, Repr

/-- A run: one execution of a loaded slot (R382, R395). -/
structure RunSt where
  slot : Nat
  launched : Nat
  /-- The first instruction may issue (R395). -/
  started : Bool
  tiles : List Nat
  entry : Nat
  codeSize : Nat
  leafSram : Nat
  usesSid : Bool
  /-- The step's first POP has issued its TAKE; the item has been obtained; its digest is complete (R398, R613). -/
  tried : Bool
  got : Bool
  digested : Bool
  /-- The count of the first TAKE, the ticks that RETRY may not take by then, and that it found no item (R622, R624). -/
  takeAt : Nat
  takeRef : Nat
  anchor : Bool
  /-- The beat on which the item was obtained (R613). -/
  gotAt : Nat
  emits : List EmitSt
  /-- Leaves that popped a poisoned word in this step; a reduction has completed in this step (R415). -/
  poison : List Nat
  redDone : Bool
  /-- The count at which the chip's last leaf reached the barrier, the ticks that RETRY may not take by then, and what the
  chip's contribution carries: REFRESH and RETRY since the last cross-chip completion (R623). -/
  readyAt : Nat
  readyRef : Nat
  sentRef : Nat
  sentRty : Nat
  /-- The tiles that have faulted on this beat, with their codes; the run ends with the beat (R414, Table 10.8). -/
  faults : List (Nat × Nat)
  /-- The beat until which the run's DRAM requests wait for a refreshing bank, and the beat of the latest resumption
  (R621, R691). -/
  refUntil : Nat
  resumeAt : Nat
  /-- An instruction has issued, or a barrier has completed, since the last tick (R620). -/
  active : Bool
  /-- A debug halt is requested or in force: its cause and the lowest tile that caused it (R686). -/
  haltReq : Option (Nat × Nat)
  deriving DecidableEq, Repr

/-- What a load leaves for the launches of a slot (R392). -/
structure SlotImg where
  tiles : List Nat
  entry : Nat
  codeSize : Nat
  constSize : Nat
  leafSram : Nat
  flags : Nat
  /-- The identity that requested the load, and its beat. -/
  by_ : Nat
  at_ : Nat
  deriving DecidableEq, Repr

/-! ### Provenance (Chapter 16) -/

/-- The provenance engine's state of a household that no register holds (R607). -/
structure ProvSt where
  /-- Scratch blocks written by this execution (R614). -/
  scratch : List Nat
  /-- The weights region watched since its digest: base and size; a write has reached it (R612). -/
  weights : Option (Nat × Nat)
  written : Bool
  dirty : Bool
  /-- The anchor (R624), and the charges of the execution by tick. -/
  anchorSid : Nat
  anchorStep : Nat
  refLog : List (Nat × Nat)
  rtyLog : List (Nat × Nat)
  ovlLog : List (Nat × Nat)
  /-- Charges since the chip's previous cross-chip completion (R623). -/
  refSince : Nat
  rtySince : Nat
  /-- The execution is a replay, and its record's LAUNCH_SID (R629). -/
  replay : Bool
  recSid : Nat
  recording : Bool
  recBytes : Nat
  /-- The feeder: byte offset of the next entry, entries left (R628). -/
  feedAt : Nat
  feedLeft : Nat
  /-- An item is late now (R628). -/
  slipping : Bool
  deriving DecidableEq, Repr

/-- The engine after reset. -/
def ProvSt.reset : ProvSt :=
  ⟨[], none, false, false, 0, 0, [], [], [], 0, 0, false, 0, false, 0, 0, 0, false⟩


/-! ### On-chip network (Chapter 11) -/

/-- A flit: its TYPE (0 single, 1 head, 2 body, 3 tail), its POISON bit, and its four 64-bit words (R423 to R425). For a
header, `fab` says that its request gave the address in fabric form (R154; log entry 84), and `stall` is what the port
reported of the frame that its words came in (R548, R622). -/
structure Flit where
  typ : Nat
  poison : Bool
  words : List Nat
  fab : Bool := false
  stall : Nat := 0
  deriving DecidableEq, Repr

/-- A response slot in use: the node it waits for, whether it is quarantined (R435, R447), the household code of its
request (R180), and the beat of its reservation (R445). -/
structure RspSlot where
  dst : Nat
  quarantined : Bool
  hh : Nat
  at_ : Nat
  deriving DecidableEq, Repr

/-- A flit in a crossing (Table 11.9): the beat on which it is read out, the router, its input port (4: from the node
interface; 5: into the node interface, for agent `agent`), its channel, and whether it arrives with a parity error or with
sideband copies that disagree. -/
structure Cross where
  due : Nat
  router : Nat
  port : Nat
  agent : Nat
  vc : Nat
  flit : Flit
  parity : Bool
  sideband : Bool
  deriving DecidableEq, Repr

/-- A timed packet that waits for tokens: its agent, the beat on which it was offered, its channel and its flits
(R437). -/
structure Offer where
  agent : Nat
  since : Nat
  vc : Nat
  flits : List Flit
  deriving DecidableEq, Repr

/-- The network. Routers are numbered by router page (R450). Ports 0 to 4 are those of Table 11.1; output 5 is the node
interface's, which feeds the L input. An agent is 8 x router + index; a channel place is (8 x router + port) x 8 +
channel. -/
structure NocSt where
  /-- Injection queues, by 8 x agent + channel. -/
  inject : List (Nat × List Flit)
  /-- Input buffers, by channel place. -/
  buf : List (Nat × List Flit)
  /-- What the node interfaces have received and not delivered, by 8 x agent + channel. -/
  eject : List (Nat × List Flit)
  /-- The flits in crossings. -/
  cross : List Cross
  /-- The node interfaces' credits, and the beats on which the credits inside reverse crossings can be read out, by channel
  place of the output. -/
  niCredit : List (Nat × Nat)
  flying : List (Nat × List Nat)
  /-- REQ credits that a queue engine withholds on the link into its node, by channel place of port 4 (R472). -/
  withheld : List (Nat × Nat)
  /-- The beat of the last decision of an output, plus 1, by 8 x router + port (R430). -/
  decided : List (Nat × Nat)
  /-- The beat of the last progress of an input channel (R445). -/
  moved : List (Nat × Nat)
  /-- The input that holds an output channel, plus 1; 0 for none (R429). -/
  hold : List (Nat × Nat)
  /-- The first input in round-robin order, by channel place of the output (R430). -/
  rr : List (Nat × Nat)
  /-- Input channels whose packet is being discarded, and input channels whose stall has been reported (R445). -/
  discard : List Nat
  stalled : List Nat
  /-- The header words of the last packet at an input channel. -/
  hdr : List (Nat × List Nat)
  /-- Tokens, by agent (R437). -/
  tokens : List (Nat × Int)
  /-- The beat from which GAP counts to an agent's next token (R437). -/
  gapFrom : List (Nat × Nat)
  waiting : List Offer
  /-- Response slots in use, by 256 x agent + TAG. -/
  slots : List (Nat × RspSlot)
  deriving DecidableEq, Repr

/-- The empty network (R448). -/
def NocSt.reset : NocSt := ⟨[], [], [], [], [], [], [], [], [], [], [], [], [], [], [], [], [], []⟩


/-! ### Commons fabric (Chapter 14) -/

/-- A frame that waits to be sent: the buffer it comes from (0 to 3: the transit buffer of that port, 4: the local
source), the receive buffer place it still holds, and the frame (R549, R553). -/
structure TxFrame where
  from_ : Nat
  place : Option Nat
  frame : Frame
  deriving DecidableEq, Repr

/-- A frame of the replay buffer, and the count of its first transmit decision (R545). -/
structure Unacked where
  frame : Frame
  first : Nat
  /-- The beat of its latest transmission (R546). -/
  last : Nat
  deriving DecidableEq, Repr

/-- A received frame that still holds credit units: its place, the port it came in on, its channel, its units
(R549). -/
structure HeldUnits where
  place : Nat
  port : Nat
  vc : Nat
  units : Nat
  deriving DecidableEq, Repr

/-- A Commons port. -/
structure PortSt where
  txq : List TxFrame
  /-- By channel: the source that the round robin starts with (R553). -/
  rr : List (Nat × Nat)
  unacked : List Unacked
  /-- The SEQ of the next frame that a running replay sends. -/
  replayAt : Option Nat
  /-- Consecutive replays since the acknowledged SEQ last advanced (R547). -/
  replays : Nat
  /-- A LINK UPDATE is due; it carries NAK (R544, R550). -/
  updateDue : Bool
  nak : Bool
  /-- An error episode is open (R544, R548); the last accepted frame came in a replay. -/
  episode : Bool
  inReplay : Bool
  /-- Some frame has been accepted (R543). -/
  accepted : Bool
  /-- By channel, modulo 4,096: units sent, the partner's latest CREDIT_CUM, and the units returned here (R549). -/
  sentUnits : List (Nat × Nat)
  cum : List (Nat × Nat)
  back : List (Nat × Nat)
  /-- By channel: the partner's RX_UNITS. -/
  rxUnits : List (Nat × Nat)
  /-- Beats: since when the port is in its link state, or its wait there began again; of the last HELLO sent in this state;
  of the last valid frame received; since when an accepted frame awaits its acknowledgement; of the last LINK UPDATE sent; of
  the last NAK sent; one more than that of the start of the latest replay (R544, R546, R550 to R552, R573). -/
  since : Nat
  helloAt : Option Nat
  rxAt : Nat
  ackFrom : Option Nat
  updAt : Nat
  nakAt : Option Nat
  replayBeat : Nat
  /-- By channel: the returned units last reported (R550). -/
  told : List (Nat × Nat)
  /-- FEC_EN as it was at block lock (R537). -/
  fec : Bool
  deriving DecidableEq, Repr

/-- A port that is not up. -/
def PortSt.reset : PortSt :=
  ⟨[], [], [], none, 0, false, false, false, false, false, [], [], [], [], 0, none, 0, none, 0, none, 0, [], false⟩

/-- A frame for this device that waits at its FABP agent for a response slot or for the end of a dawn, and the receive
buffer place it holds (R556, R121). -/
structure InReq where
  port : Nat
  frame : Frame
  place : Nat
  deriving DecidableEq, Repr

/-- A remote request whose response is awaited: its requester's device and its original header words (R556). -/
structure RemoteReq where
  src : Nat
  hh : Nat
  w0 : Nat
  w1 : Nat
  deriving DecidableEq, Repr

/-- The fabric's ports and its agents. -/
structure FabSt where
  /-- The ports, sparse. -/
  ports : List (Nat × PortSt)
  /-- The place that the next received frame takes. -/
  next : Nat
  units : List HeldUnits
  inbound : List InReq
  /-- By 256 x agent + slot. -/
  remote : List (Nat × RemoteReq)
  deriving DecidableEq, Repr

/-- The fabric with every port down. -/
def FabSt.reset : FabSt := ⟨[], 0, [], [], []⟩

/-! ### Discovery (Chapter 14) -/

/-- An ANNOUNCE that a port holds, and the beat on which it came (Table 14.7). -/
structure Announce where
  rootId : Nat
  rootPrio : Nat
  depth : Nat
  rootSeq : Nat
  sender : Nat
  upstream : Nat
  prio : Nat
  at_ : Nat
  deriving DecidableEq, Repr

/-- A device in the root's table: its factory ID, its depth, and by port the factory ID of its neighbour, none for a port
that is not up (R563, R564). -/
structure RootDev where
  ident : Nat
  depth : Nat
  nbrs : List (Option Nat)
  /-- The beat of its latest JOIN (R564). -/
  at_ : Nat
  deriving DecidableEq, Repr

/-- A map entry (Table 14.7). -/
structure MapEntry where
  dev : Nat
  depth : Nat
  nbrs : List Nat
  deriving DecidableEq, Repr

/-- A route: UP_PORT, DOWN_PORT, HOPS (R566). -/
structure Route where
  up : Nat
  down : Nat
  hops : Nat
  deriving DecidableEq, Repr

/-- The discovery engine. -/
structure DiscSt where
  anns : List (Nat × Announce)
  /-- The newest ROOT_SEQ heard, by root factory ID (R560). -/
  seqs : List (Nat × Nat)
  hasRoot : Bool
  /-- A number has been assigned since reset. -/
  numbered : Bool
  /-- On the root: the bindings of factory IDs to numbers, the devices of its table, and whether the table has changed
  since the last map (R564, R565). -/
  binds : List (Nat × Nat)
  devices : List RootDev
  dirty : Bool
  /-- On the root: the numbers whose MAP_ACK is awaited; none when no map is out. -/
  acks : Option (List Nat)
  /-- The map being received: epoch, TOTAL, and the entries held. -/
  rxEpoch : Nat
  rxTotal : Nat
  rxMap : List MapEntry
  /-- The staged tables, complete for STAGED_EPOCH, and the map they come from. -/
  staged : List (Nat × Route)
  stagedMap : List MapEntry
  stagedOk : Bool
  /-- The active map. -/
  map : List MapEntry
  /-- Beats: of the last periodic ANNOUNCE; since when no usable ANNOUNCE is held; of the last change of root, depth or root
  port; of the last JOIN sent; of the last change of the root's table; of the first MAP frame of the map that is out (R559 to
  R565). -/
  annAt : Nat
  holdFrom : Option Nat
  changedAt : Nat
  joinAt : Nat
  dirtyAt : Nat
  mapAt : Nat
  /-- DISC_NO_ROOT has been raised for this lack of a root (R570). -/
  noRoot : Bool
  deriving DecidableEq, Repr

/-- Discovery after reset. -/
def DiscSt.reset : DiscSt :=
  ⟨[], [], false, false, [], [], false, none, 0, 0, [], [], [], false, [], 0, none, 0, 0, 0, 0, false⟩

/-! ### Constellation (Chapter 15) -/

/-- A stored value of off: the value in units, the steering total when it was measured, and its RTT (R583, R584). -/
structure OffVal where
  off : Int
  steer : Int
  rtt : Int
  deriving DecidableEq, Repr

/-- The exchange in progress on a child: its number, the stamps in units, the parent's board delays, and whether it is
void already (R581). -/
structure Exchange where
  num : Nat
  t1 : Nat
  t2 : Nat
  t3 : Option Nat
  txPs : Nat
  rxPs : Nat
  suspect : Bool
  void : Bool
  deriving DecidableEq, Repr

/-- The constellation engine. -/
structure ConstSt where
  vals : List OffVal
  /-- Consecutive exchanges outside the RTT window (R584). -/
  jumps : Nat
  /-- The remaining correction, and every steering step applied, in units (R583). -/
  rem : Int
  steer : Int
  /-- Exchanges counted toward the state's next transition (R589, R590). -/
  run : Nat
  exch : Option Exchange
  /-- The ports whose stamps are void (R579). -/
  voidPorts : List Nat
  /-- FLAGS of the latest SYNC (Table 15.2). -/
  syncFlags : Nat
  /-- The root port that the engine measures against (R591). -/
  port : Nat
  /-- JOIN_BLOCKED has been raised for the load that is wanted (R589). -/
  blocked : Bool
  /-- The root's count of distributions; by entry: DIST_SEQ, and, of the entries that this device has distributed as root,
  ACKED, MISSED, OTHER (R597, R598, Table 15.6). -/
  distSeq : Nat
  seqs : List (Nat × Nat)
  acks : List (Nat × (Nat × Nat × Nat))
  /-- O and the steering total at the end of the last monitor window (R596). -/
  lastO : Int
  lastSteer : Int
  /-- One more than the beat of the last SYNC instant; the beat of the last valid exchange, or of entering SYNTONISE; the
  window of 65,536 st in which steps have been applied, and how many (R581, R583, R591). -/
  syncAt : Nat
  validAt : Nat
  stepWin : Nat
  stepN : Nat
  deriving DecidableEq, Repr

/-- The engine after reset (R605). -/
def ConstSt.reset : ConstSt := ⟨[], 0, 0, 0, 0, none, [], 0, 7, false, 0, [], [], 0, 0, 0, 0, 0, 0⟩


/-! ### Host interface (Chapter 17) -/

/-- An entry of an MSI-X table (R641, R646). -/
structure MsixVec where
  addr : Nat
  data : Nat
  mask : Bool
  deriving DecidableEq, Repr

/-- A vector after reset: masked. -/
def MsixVec.reset : MsixVec := ⟨0, 0, true⟩

/-- A function's configuration space and MSI-X table, as far as the device acts on them: Bus Master Enable, MSI-X
Enable, the function mask, the vectors (sparse), and the pending bits (R646). -/
structure FuncSt where
  bme : Bool
  msix : Bool
  fmask : Bool
  vecs : List (Nat × MsixVec)
  pend : Nat
  deriving DecidableEq, Repr

/-- A function after reset. -/
def FuncSt.reset : FuncSt := ⟨false, false, false, [], 0⟩

/-- An egress ring's state that no register holds: the entries since its enable, the entries since its last message, and
the count of the first write-back not yet signalled (R650, R652). -/
structure RingSt where
  entries : Nat
  since : Nat
  unsig : Option Nat
  deriving DecidableEq, Repr

/-- A ring that has written nothing. -/
def RingSt.reset : RingSt := ⟨0, 0, none⟩

/-- A mailbox (R653 to R655): the words 1 onward, its status word's fields, whether a consume has come since the last
READY, whether a failure holds its pops until QUEUE is rewritten (Table 17.12), and, while FILLING, the popped item's
words, ITEM_SEQ and poison. -/
structure MbSt where
  words : List Nat
  seq : Nat
  st : Nat
  poison : Bool
  trunc : Bool
  len : Nat
  itemSeq : Nat
  consumed : Bool
  err : Bool
  /-- The beat from which it may fill again (Table 17.9). -/
  freeAt : Nat
  deriving DecidableEq, Repr

/-- An empty mailbox. -/
def MbSt.reset : MbSt := ⟨[], 0, 0, false, false, 0, 0, false, false, 0⟩

/-- The endpoint: its functions (0 the PF, k the VF k), SR-IOV, the link, Max_Payload_Size in bytes, the AER bits, the
rings by slot, the mailboxes by 16 x household + number, the reads whose time ran out while they were held (R645), and the
households whose reset a Function Level Reset began. -/
structure HostSt where
  funcs : List (Nat × FuncSt)
  vfEnable : Bool
  numVfs : Nat
  mps : Nat
  linkUp : Bool
  speed : Nat
  width : Nat
  ltssm : Nat
  aerMalformed : Bool
  aerPoisoned : Bool
  aerUr : Bool
  rings : List (Nat × RingSt)
  mbs : List (Nat × MbSt)
  late : List Instr
  flrs : List Nat
  /-- The response slots of reads of other devices, each with its function and the beat on which the read came. -/
  reads : List (Nat × Nat × Nat)
  /-- The host reads that wait in `held`, with the beats on which they came (R645). -/
  asked : List (Instr × Nat)
  deriving DecidableEq, Repr

/-- The endpoint after POR or WARM, with its link down (R667; log entry 30). -/
def HostSt.reset : HostSt := ⟨[], false, 0, 128, false, 0, 0, 0, false, false, false, [], [], [], [], [], []⟩


/-! ### Wicket and debug (Chapter 18) -/

/-- A Wicket READ or WRITE that has been issued (R676, R677): its header, payload, identity and direction, and, once it
has completed, its answer; an orphan's answer is discarded when it comes. -/
structure WkAcc where
  hdr : Nat
  data : List Nat
  hh : Nat
  write : Bool
  orphan : Bool
  done : Option (List Nat)
  /-- Its number, by which its request in the matrix names it. -/
  ref : Nat
  deriving DecidableEq, Repr

/-- An AUTH whose check runs (R680): the identity, the MAC, and the nonce it spends, none without a valid one. -/
structure AuthCheck where
  ident : Nat
  mac : List Byte
  nonce : Option Nat
  /-- The key of the identity has been written since. -/
  stale : Bool
  deriving DecidableEq, Repr

/-- The debug unit's state that no register holds. -/
structure DebugSt where
  /-- The 256-bit keys (R683). -/
  keys : List (Nat × Nat)
  /-- The valid nonce, and the beat on which it was given (R679). -/
  nonce : Option Nat
  nonceAt : Nat
  /-- The check in progress, and the beat on which it ends (R680). -/
  check : Option AuthCheck
  checkAt : Nat
  /-- Consecutive failed AUTHs, and the beat on which the lockout ends (R681). -/
  fails : Nat
  lockAt : Nat
  lastFault : Nat
  /-- The accesses issued and not answered, oldest first; the last that is no orphan is the pending one. -/
  acc : List WkAcc
  /-- The line is in BUSY and waits for the pending access (R677). -/
  busy : Bool
  /-- The bits of the latest response after READY, as the line carries them (R674, R675). -/
  sent : List Bool
  /-- The beat on which the window of WICKET_PROTO began (R698). -/
  protoAt : Option Nat
  /-- The TAP instruction in force (Table 18.7). -/
  tap : Nat
  /-- Strap CFG3 has been sampled as 1 since POR: the port is disabled (Table 2.11, R671). -/
  off : Bool
  deriving DecidableEq, Repr

/-- The debug unit after POR or WARM: no session, every key unset (R699); IDCODE is in force (R693). -/
def DebugSt.reset : DebugSt := ⟨[], none, 0, none, 0, 0, 0, 0, [], false, [], none, 1, false⟩


/-! ### Fault reporting (Chapter 19) -/

/-- A NOTIFY that has reached its node: its source node, its ARG, whether a flit was poisoned (R704, R718), and its beat. -/
structure Notify where
  src : Nat
  arg : Nat
  poison : Bool
  at_ : Nat
  deriving DecidableEq, Repr

/-- The FAULT unit and the summaries that the endpoint has received. -/
structure FaultSt where
  /-- By page whose latest NOTIFY had ANY = 1: one more than the attribution that it carried (R702). -/
  told : List (Nat × Nat)
  /-- By page: the recorded attribution (R704). -/
  attrib : List (Nat × Nat)
  inbox : List Notify
  epInbox : List Notify
  /-- The endpoint's summaries: the manager's and the households' (R707). -/
  epMgr : Bool
  epHh : Nat
  /-- What FAULT_N takes next: the beat, and whether it is driven low (R706). -/
  line : List (Nat × Bool)
  /-- One more than the beat of the latest periodic NOTIFYs, and of the latest periodic summary (R702, R718). -/
  perAt : Nat
  sumAt : Nat
  deriving DecidableEq, Repr

/-- Nothing reported. -/
def FaultSt.reset : FaultSt := ⟨[], [], [], [], false, 0, [], 0, 0⟩

/-! ### The whole -/

/-- The state of the device. -/
structure State where
  /-- The commands that are waiting, first in first out. -/
  pending : List Instr
  /-- Accesses held by a dawn or by a page's soft reset, in arrival order (R121, R187). -/
  held : List Instr
  /-- How many free values have been drawn: the model's own field (log entry 2). -/
  freeIdx : Nat
  /-- How many times DRAM has been trained: the model's own field, an argument of the unwritten bytes (log entry 3). -/
  trainings : Nat
  /-- What the silicon and the board fix. -/
  si : Silicon
  /-- The register file: every field that does not hold its reset value. -/
  regs : List (Nat × Nat)
  /-- The shadows of the SH fields that await a boundary, each with its field's reset value (R182). -/
  shadows : List (Nat × (Nat × Nat))
  /-- By page: the events whose condition still holds (R178). -/
  live : List (Nat × Nat)
  /-- The answer to the last access. -/
  resp : Option Resp
  /-- What has left the device, oldest first. -/
  sent : List Msg
  /-- The pages whose soft reset is running (R187). -/
  srstBusy : List Nat
  /-- By page: the beat of its last soft reset, which lasts at least one beat (R187). -/
  srstAt : List (Nat × Nat)
  /-- By page: the beat and the bit of the error that ERR_FIRST holds (R180, R191). -/
  errAt : List (Nat × (Nat × Nat))
  /-- The households whose reset is running (R661). -/
  hhReset : List Nat
  /-- A WARM reset has been requested: the count at which it takes effect, and its RESET_CAUSE (R186). -/
  warmDue : Option (Nat × Nat)
  /-- A POR condition holds (R80). -/
  por : Bool
  /-- The cause that DEVICE.RESET_CAUSE reports (Table 5.10). -/
  lastRst : Nat
  /-- The timebase. -/
  tb : Timebase
  /-- The control-plane matrix. -/
  mx : Matrix
  /-- The line unit. -/
  ln : LineU
  /-- The Weighhouse die (R11, R16). -/
  wh : Weigh
  /-- The core side of the Weighhouse bridge. -/
  wb : Whb
  /-- The motor channels and power stages. -/
  dr : Drives
  /-- The DRAM channels and their arbiters. -/
  dram : DramSt
  /-- The 256 queues, sparse. -/
  qs : List (Nat × QueueSt)
  /-- Accesses at queue ports that wait for spill transfers (R472). -/
  qwait : List Instr
  /-- The five egress schedulers, sparse; 5 + k holds the refill stamp of policer page k. -/
  sch : List (Nat × SchSt)
  /-- The policers' buckets, by 8 x port + household. -/
  pol : List (Nat × Buckets)
  /-- The sieve tiles, sparse by logical number. -/
  tile : List (Nat × TileSt)
  /-- The runs, by household. -/
  run : List (Nat × RunSt)
  /-- The loaded images, by slot. -/
  img : List (Nat × SlotImg)
  /-- The provenance engine, by household. -/
  pv : List (Nat × ProvSt)
  /-- The on-chip network. -/
  noc : NocSt
  /-- The Commons ports and their agents. -/
  fab : FabSt
  /-- Discovery and the maps. -/
  disc : DiscSt
  /-- The constellation engine. -/
  cst : ConstSt
  /-- The PCIe endpoint, the rings and the mailboxes. -/
  host : HostSt
  /-- The Wicket port and the debug unit. -/
  dbg : DebugSt
  /-- The FAULT unit. -/
  flt : FaultSt
  deriving DecidableEq, Repr

/-- The device right after power-on reset, with POR released and no dawn yet (log entry 6). -/
def State.reset : State where
  pending := []
  held := []
  freeIdx := 0
  trainings := 0
  si := Silicon.reset
  regs := [(32768 + 160, 512)]
  shadows := []
  live := [(1, 512)]
  resp := none
  sent := []
  srstBusy := []
  srstAt := []
  errAt := []
  hhReset := []
  warmDue := none
  por := false
  lastRst := 0
  tb := Timebase.reset
  mx := Matrix.reset
  ln := LineU.reset
  wh := Weigh.reset
  wb := Whb.reset
  dr := Drives.reset
  dram := DramSt.reset
  qs := []
  qwait := []
  sch := []
  pol := []
  tile := []
  run := []
  img := []
  pv := []
  noc := NocSt.reset
  fab := FabSt.reset
  disc := DiscSt.reset
  cst := ConstSt.reset
  host := HostSt.reset
  dbg := DebugSt.reset
  flt := FaultSt.reset

/-- The outcomes of a command. -/
abbrev Out := Host.Outcome State Fault Refusal

end Sys2Proof.Machine
end

