-- ==== Sys2Proof/Machine/Pages.lean ====
section
/-!
DEFINITION. The page directory (R156, R157, Table 5.2): which pages exist, what block each carries, who owns it, and
its table of registers.
-/

namespace Sys2Proof.Machine

/-- The blocks that have register pages. -/
inductive Blk where
  | device | power | time | refmon | dawn | matrix | nocr | noc | line | axis | ephem | trig | strobe | ingest
  | whb | motor | pwm | gate | ouvgor | tile | sieve | dramc | dramadm | qe | qeh | sch | pol | fab | fabp
  | disc | route | const | prov | host | hh | debug | fault
  deriving DecidableEq, Repr

/-- The ownership codes of Table 5.2. -/
inductive OwnKind where
  | m | p | a | f
  deriving DecidableEq, Repr

/-! Page numbers (Table 5.2). -/

abbrev pDevice := 0x000
abbrev pPower := 0x001
abbrev pTime := 0x002
abbrev pRefmon := 0x003
abbrev pDawn := 0x004
abbrev pMatrix := 0x008
abbrev pNocr (i : Nat) := 0x040 + i
abbrev pNoc := 0x060
abbrev pLine := 0x070
abbrev pAxis := 0x071
abbrev pEphem := 0x072
abbrev pTrig := 0x073
abbrev pStrobe := 0x074
abbrev pIngest (m : Nat) := 0x078 + m
abbrev pWhb := 0x080
abbrev pMotor (n : Nat) := 0x090 + n
abbrev pPwm (n : Nat) := 0x094 + n
abbrev pGate (n : Nat) := 0x098 + n
abbrev pOuvgor := 0x09C
abbrev pTile (t : Nat) := 0x100 + t
abbrev pSieve := 0x140
abbrev pDram (c : Nat) := 0x150 + c
abbrev pDramadm := 0x152
abbrev pQe := 0x160
abbrev pQeh (h : Nat) := 0x161 + h
abbrev pSch (p : Nat) := 0x170 + p
abbrev pPol (k : Nat) := 0x178 + k
abbrev pFab := 0x180
abbrev pFabp (k : Nat) := 0x181 + k
abbrev pDisc := 0x185
abbrev pRoute := 0x186
abbrev pConst := 0x190
abbrev pProv := 0x1A0
abbrev pHost := 0x1B0
abbrev pHh (h : Nat) := 0x1B1 + h
abbrev pDebug := 0x1C0
abbrev pFault := 0x1D0

/-- A page lies in a range of a given length. -/
def inRange (lo n p : Nat) : Bool := decide (lo ≤ p) && decide (p < lo + n)

/-- The block that a page index carries on the full die (Table 5.2). -/
def blkOf (p : Nat) : Option Blk :=
  if p = 0 then some .device else if p = 1 then some .power else if p = 2 then some .time
  else if p = 3 then some .refmon else if p = 4 then some .dawn else if p = 8 then some .matrix
  else if inRange 0x040 30 p then some .nocr else if p = 0x060 then some .noc
  else if p = 0x070 then some .line else if p = 0x071 then some .axis else if p = 0x072 then some .ephem
  else if p = 0x073 then some .trig else if p = 0x074 then some .strobe
  else if inRange 0x078 4 p then some .ingest else if p = 0x080 then some .whb
  else if inRange 0x090 4 p then some .motor else if inRange 0x094 4 p then some .pwm
  else if inRange 0x098 4 p then some .gate else if p = 0x09C then some .ouvgor
  else if inRange 0x100 64 p then some .tile else if p = 0x140 then some .sieve
  else if inRange 0x150 2 p then some .dramc else if p = 0x152 then some .dramadm
  else if p = 0x160 then some .qe else if inRange 0x161 8 p then some .qeh
  else if inRange 0x170 5 p then some .sch else if inRange 0x178 4 p then some .pol
  else if p = 0x180 then some .fab else if inRange 0x181 4 p then some .fabp
  else if p = 0x185 then some .disc else if p = 0x186 then some .route
  else if p = 0x190 then some .const else if p = 0x1A0 then some .prov
  else if p = 0x1B0 then some .host else if inRange 0x1B1 8 p then some .hh
  else if p = 0x1C0 then some .debug else if p = 0x1D0 then some .fault
  else none

/-- The block of a populated page of this part (R157). -/
def State.blk (s : State) (p : Nat) : Option Blk :=
  if s.si.is9656 && inRange 0x138 8 p then none else blkOf p

/-- The ownership code of a block (Table 5.2). -/
def Blk.own : Blk → OwnKind
  | .axis | .trig | .strobe | .sieve | .dramadm | .qe | .sch | .pol | .prov | .debug => .a
  | .ingest | .motor | .pwm | .gate | .tile => .p
  | .qeh | .hh => .f
  | _ => .m

/-- Blocks whose pages have EN_CTL and SRST (R741). -/
def Blk.enCtl : Blk → Bool
  | .line | .ephem | .ingest | .motor | .pwm | .gate | .fabp | .disc | .const => true
  | _ => false

/-- The type code of a block (Table 5.2); the scheduler row counts up by block. -/
def typeCode (p : Nat) : Blk → Nat
  | .device => 0x01 | .power => 0x02 | .time => 0x03 | .refmon => 0x04 | .dawn => 0x05 | .matrix => 0x06
  | .nocr => 0x10 | .noc => 0x11 | .line => 0x20 | .axis => 0x21 | .ephem => 0x22 | .trig => 0x23 | .strobe => 0x24
  | .ingest => 0x25 | .whb => 0x28 | .motor => 0x30 | .pwm => 0x31 | .gate => 0x32 | .ouvgor => 0x33
  | .tile => 0x40 | .sieve => 0x41 | .dramc => 0x48 | .dramadm => 0x49 | .qe => 0x50 | .qeh => 0x51
  | .sch => if p = 0x170 then 0x58 else 0x59
  | .pol => 0x5A | .fab => 0x60 | .fabp => 0x61 | .disc => 0x62 | .route => 0x63 | .const => 0x68
  | .prov => 0x70 | .host => 0x78 | .hh => 0x79 | .debug => 0x7C | .fault => 0x7E

/-- The first page index of a page's row in Table 5.2, from which PAGE_ID counts its copies (R156). -/
def firstPage : Blk → Nat
  | .ingest => 0x078 | .motor => 0x090 | .pwm => 0x094 | .gate => 0x098 | .tile => 0x100 | .dramc => 0x150
  | .qeh => 0x161 | .sch => 0x170 | .pol => 0x170 | .fab => 0x180 | .fabp => 0x180 | .disc => 0x180
  | .route => 0x180 | .hh => 0x1B1 | .line => 0x070 | .axis => 0x070 | .ephem => 0x070 | .trig => 0x070
  | .strobe => 0x070 | .nocr => 0x040
  | _ => 0

/-- The router node of NOC router page index i: row x 8 + column (R17). -/
def nodeOfRouter (i : Nat) : Nat := i / 6 * 8 + i % 6

/-- The number in PAGE_ID [7:0] (R156). -/
def pageNo (p : Nat) (b : Blk) : Nat :=
  match b with
  | .nocr => nodeOfRouter (p - 0x040)
  | .ingest | .motor | .pwm | .gate | .tile | .dramc | .qeh | .sch | .pol | .fab | .fabp | .disc | .route | .hh
  | .line | .axis | .ephem | .trig | .strobe => p - firstPage b
  | _ => 0

/-- The number of block event bits (Table 19.9). -/
def evtBits : Blk → Nat
  | .device => 1 | .power => 11 | .time => 8 | .refmon => 9 | .dawn => 4 | .matrix => 5 | .nocr => 5 | .noc => 5
  | .line => 3 | .axis => 7 | .ephem => 8 | .trig => 4 | .strobe => 5 | .ingest => 11 | .whb => 13 | .motor => 23
  | .pwm => 5 | .gate => 12 | .ouvgor => 4 | .tile => 5 | .sieve => 7 | .dramc => 5 | .dramadm => 5 | .qe => 3
  | .qeh => 10 | .sch => 6 | .pol => 2 | .fab => 6 | .fabp => 11 | .disc => 9 | .route => 1 | .const => 14
  | .prov => 9 | .host => 10 | .hh => 7 | .debug => 9 | .fault => 2

/-- The block registers of a block, as its tables give them. -/
def Blk.table : Blk → List Fld
  | .device => DEVICE.table | .power => POWER.table | .time => TIME.table | .refmon => REFMON.table
  | .dawn => DAWN.table | .matrix => MATRIX.table | .nocr => NOCR.table | .noc => NOC.table | .line => LINE.table
  | .axis => AXIS.table | .ephem => EPHEM.table | .trig => TRIG.table | .strobe => STROBE.table
  | .ingest => INGEST.table | .whb => WHB.table | .motor => MOTOR.table | .pwm => PWM.table | .gate => GATE.table
  | .ouvgor => OUVGOR.table | .tile => TILE.table | .sieve => SIEVE.table | .dramc => [] | .dramadm => DRAMADM.table
  | .qe => QE.table | .qeh => QEH.table | .sch => SCH.table | .pol => POL.table | .fab => FAB.table
  | .fabp => FABP.table | .disc => DISC.table | .route => ROUTE.table | .const => CONST.table | .prov => PROV.table
  | .host => HOST.table | .hh => HH.table ++ HOST.ringTable | .debug => DEBUG.table | .fault => FAULT.table

/-- The block has SH fields (Table 5.8). -/
def Blk.hasShadow (b : Blk) : Bool := b.table.any (fun f => f.kind == .sh)

/-- The block has LK fields. -/
def Blk.hasLock (b : Blk) : Bool := b.table.any (fun f => f.lk)

/-- The block has a PERIOD boundary (Table 5.2). -/
def Blk.hasPeriod : Blk → Bool
  | .ephem | .motor | .pwm | .sch => true
  | _ => false

/-- The block uses CLAMP_STATUS. -/
def Blk.hasClamps : Blk → Bool
  | .power | .matrix | .ephem | .strobe | .motor | .pwm | .gate | .sieve | .noc | .qe | .qeh | .sch | .pol
  | .dramadm | .fabp | .disc | .const | .prov | .host | .hh => true
  | _ => false

/-- The capability word of a page (Table 5.8); BLOCK reads 0 (log entry 9). -/
def pageCaps (b : Blk) : Nat :=
  (if b.own = .p then 2 ^ 31 else 0) + (if b.own = .a then 2 ^ 30 else 0) + (if b.hasShadow then 2 ^ 29 else 0)
  + (if b.hasPeriod then 2 ^ 28 else 0) + (if b.hasLock then 2 ^ 27 else 0) + (if b.enCtl then 2 ^ 26 + 2 ^ 25 else 0)
  + (if b.hasClamps then 2 ^ 24 else 0) + evtBits b * 256

/-! Fields whose reset value depends on the page. -/

/-- SHADOW_CTRL.BOUNDARY resets to PERIOD on PWM pages (R197). -/
def HDR.boundary (p : Nat) : Fld :=
  { HDR.SHADOW_CTRL_BOUNDARY with reset := if inRange 0x094 4 p then 1 else 0 }

/-- OWNER reads h on pages of kind F (R176). -/
def HDR.owner (p : Nat) : Fld :=
  { HDR.OWNER_OWNER with
    reset := if inRange 0x161 8 p then p - 0x161 else if inRange 0x1B1 8 p then p - 0x1B1 else 15 }

/-- PORT_CIR_MAX of the SCHP page and the SCHF pages (Table 13.9). -/
def SCH.portCirMax (p : Nat) : Fld :=
  { SCH.PORT_CIR_MAX_BYTES with reset := if p = 0 then 480000 else 204800 }

/-- SCH_CFG.OVH: the bytes that a Commons frame adds to its payload, 0 on SCHP (Table 13.1). -/
def SCH.ovh (p : Nat) : Fld := { SCH.SCH_CFG_OVH with reset := if p = 0 then 0 else 36 }

/-- MGR_MASK resets to 1 for every populated page (Table 19.8). -/
def FAULT.mgrMask (p : Nat) : Fld :=
  { FAULT.MGR_MASK_PAGE.at p with reset := b2n (blkOf p).isSome }

/-- FAULTN_MASK resets to 1 for pages 0x001 and 0x090 to 0x09C (Table 19.8). -/
def FAULT.faultnMask (p : Nat) : Fld :=
  { FAULT.FAULTN_MASK_PAGE.at p with reset := b2n (p == 1 || inRange 0x090 13 p) }

/-- A field of a page's table with the reset value that it has on that page. -/
def fixField (p : Nat) (f : Fld) : Fld :=
  if f.bit = HDR.SHADOW_CTRL_BOUNDARY.bit then HDR.boundary p
  else if f.bit = HDR.OWNER_OWNER.bit then HDR.owner p
  else if p = 0x170 ∧ f.bit = SCH.PORT_CIR_MAX_BYTES.bit then SCH.portCirMax 0
  else if inRange 0x170 5 p ∧ f.bit = SCH.SCH_CFG_OVH.bit then SCH.ovh (p - 0x170)
  else if p = 0x1D0 ∧ 0x140 * 8 ≤ f.bit ∧ f.bit < 0x180 * 8 then FAULT.mgrMask (f.bit - 0x140 * 8)
  else if p = 0x1D0 ∧ 0x180 * 8 ≤ f.bit ∧ f.bit < 0x1C0 * 8 then FAULT.faultnMask (f.bit - 0x180 * 8)
  else f

/-- The fields of the register at byte offset `off` of a page: the header below 0x100, the block's above (R198). -/
def regFields (b : Blk) (p off : Nat) : List Fld :=
  (fieldsAt (if off < 0x100 then HDR.table else b.table) (off / 4)).map (fixField p)

end Sys2Proof.Machine
end

