-- ==== Sys2Proof/Machine/Tab.lean ====
section
/-!
DEFINITION. Sparse tables in one canonical form: keys strictly rising, and no entry equal to what an unlisted key
reads as. Memory, the register file and the replicated blocks are kept this way.
-/

namespace Sys2Proof.Machine

/-- The value listed at a key. -/
def Tab.lookup {α : Type} : List (Nat × α) → Nat → Option α
  | [], _ => none
  | (k, v) :: r, x => if x = k then some v else Tab.lookup r x

/-- The table with one key removed. -/
def Tab.erase {α : Type} : List (Nat × α) → Nat → List (Nat × α)
  | [], _ => []
  | (k, v) :: r, x => if x = k then r else (k, v) :: Tab.erase r x

/-- The table with one key listed, in key order. -/
def Tab.insert {α : Type} : List (Nat × α) → Nat → α → List (Nat × α)
  | [], x, y => [(x, y)]
  | (k, v) :: r, x, y =>
    if x < k then (x, y) :: (k, v) :: r
    else if x = k then (x, y) :: r
    else (k, v) :: Tab.insert r x y

/-- Reads a key of a table whose unlisted keys read as `d`. -/
def Tab.get {α : Type} (d : α) (t : List (Nat × α)) (x : Nat) : α := (Tab.lookup t x).getD d

/-- Writes a key of a table whose unlisted keys read as `d`. -/
def Tab.set {α : Type} [DecidableEq α] (d : α) (t : List (Nat × α)) (x : Nat) (y : α) : List (Nat × α) :=
  if y = d then Tab.erase t x else Tab.insert t x y

/-- Every key of the table is above `b`, and the keys rise strictly. -/
def Tab.risesFrom {α : Type} : Nat → List (Nat × α) → Bool
  | _, [] => true
  | b, (k, _) :: r => decide (b ≤ k) && Tab.risesFrom (k + 1) r

/-- The canonical form of a table whose unlisted keys read as `d`. -/
def Tab.wf {α : Type} [DecidableEq α] (d : α) (t : List (Nat × α)) : Bool :=
  Tab.risesFrom 0 t && t.all (fun e => decide (e.2 ≠ d))

/-- The table without the keys a test rejects. -/
def Tab.keep {α : Type} (p : Nat → Bool) (t : List (Nat × α)) : List (Nat × α) := t.filter (fun e => p e.1)

end Sys2Proof.Machine
end

