-- ==== Sys2Proof/Machine/Ops.lean ====
section
/-!
DEFINITION. The named operations that every command uses: reading and writing a register field, shadows, raising
events (R178 to R181), free values, and how a register access is judged and answered (R171 to R174, R192).
-/

namespace Sys2Proof.Machine

/-! ### The register file -/

/-- A field of a page, as it stands. -/
def State.fld (s : State) (p : Nat) (f : Fld) : Nat := Tab.get f.reset s.regs (regKey p f.bit)

/-- Writes a field of a page; the value is cut to the field's width. -/
def State.setFld (s : State) (p : Nat) (f : Fld) (v : Nat) : State :=
  { s with regs := Tab.set f.reset s.regs (regKey p f.bit) (v % 2 ^ f.width) }

/-- A one-bit field is 1. -/
def State.on (s : State) (p : Nat) (f : Fld) : Bool := s.fld p f != 0

/-- A field read as a signed number. -/
def State.sfld (s : State) (p : Nat) (f : Fld) : Int := sgn f.width (s.fld p f)

/-- Writes a signed number to a field. -/
def State.setSfld (s : State) (p : Nat) (f : Fld) (v : Int) : State := s.setFld p f (unsg f.width v)

/-- A 64-bit quantity held in a low and a high register. -/
def State.pair (s : State) (p : Nat) (lo hi : Fld) : Nat := s.fld p lo + 2 ^ 32 * s.fld p hi

/-- Writes a 64-bit quantity to a low and a high register. -/
def State.setPair (s : State) (p : Nat) (lo hi : Fld) (v : Nat) : State :=
  (s.setFld p lo (v % 2 ^ 32)).setFld p hi (v / 2 ^ 32 % 2 ^ 32)

/-- Adds to a counter that saturates at the top of its field. -/
def State.bump (s : State) (p : Nat) (f : Fld) (n : Nat := 1) : State :=
  s.setFld p f (satAdd f.width (s.fld p f) n)

/-- Adds to a counter that wraps. -/
def State.incr (s : State) (p : Nat) (f : Fld) (n : Nat := 1) : State :=
  s.setFld p f (s.fld p f + n)

/-- Sets bits of a field. -/
def State.orFld (s : State) (p : Nat) (f : Fld) (m : Nat) : State := s.setFld p f (s.fld p f ||| m)

/-- Clears bits of a field. -/
def State.clrFld (s : State) (p : Nat) (f : Fld) (m : Nat) : State := s.setFld p f (clrMask (s.fld p f) m)

/-- A shadow, which equals the active value while nothing is pending (R182). -/
def State.shadow (s : State) (p : Nat) (f : Fld) : Nat := match Tab.lookup s.shadows (regKey p f.bit) with
  | some v => v.1
  | none => s.fld p f

/-- Writes a shadow and sets PENDING (R182). -/
def State.setShadow (s : State) (p : Nat) (f : Fld) (v : Nat) : State :=
  { s with shadows := Tab.insert s.shadows (regKey p f.bit) (v % 2 ^ f.width, f.reset) }

/-- Some shadow of the page awaits a boundary. -/
def State.hasPending (s : State) (p : Nat) : Bool := s.shadows.any (fun e => e.1 / 32768 == p)

/-- Copies every shadow of a page to its active field, and counts the boundary in APPLY_SEQ if there was one
(R182). -/
def State.applyShadows (s : State) (p : Nat) : State :=
  if s.hasPending p then
    let mine := s.shadows.filter (fun e => e.1 / 32768 == p)
    let s1 := { s with
      regs := mine.foldl (fun (r : List (Nat × Nat)) (e : Nat × Nat × Nat) => Tab.set e.2.2 r e.1 e.2.1) s.regs
      shadows := s.shadows.filter (fun e => e.1 / 32768 != p) }
    s1.incr p HDR.SHADOW_CTRL_APPLY_SEQ
  else s

/-- Discards the shadows of a page (R184, R187). -/
def State.dropShadows (s : State) (p : Nat) : State :=
  { s with shadows := s.shadows.filter (fun e => e.1 / 32768 != p) }

/-- The page's boundary selection (R182, R197). -/
def State.boundary (s : State) (p : Nat) : Nat := s.fld p (HDR.boundary p)

/-- Applies the page's shadows if its boundary is PERIOD. -/
def State.periodBoundary (s : State) (p : Nat) : State := if s.boundary p = 1 then s.applyShadows p else s

/-- The page's block is enabled (R741, Table 5.8). -/
def State.enabled (s : State) (p : Nat) : Bool :=
  match blkOf p with
  | some b => if b.enCtl then s.on p HDR.PAGE_CTRL_EN else true
  | none => false

/-- The page's OWNER (R176). -/
def State.owner (s : State) (p : Nat) : Nat := s.fld p (HDR.owner p)

/-- The page is locked (R185). -/
def State.isLocked (s : State) (p : Nat) : Bool := s.on p HDR.PAGE_LOCK_LOCK

/-! ### Free values and messages -/

/-- The next free value below `2^w`. -/
def State.freeVal (s : State) (w : Nat) : Nat := Config.free s.freeIdx % 2 ^ w

/-- One free value has been drawn. -/
def State.drew (s : State) (n : Nat := 1) : State := { s with freeIdx := s.freeIdx + n }

/-- A message leaves the device. -/
def State.send (s : State) (kind : String) (dest : Nat) (words : List Nat) : State :=
  { s with sent := s.sent ++ [⟨kind, dest, words⟩] }

/-- The answer to the access being served. -/
def State.answer (s : State) (data : List Nat) : State := { s with resp := some ⟨.ok, data⟩ }

/-! ### Events (R178 to R181) -/

/-- Sets EVT_RAW[n], and EVT_PEND[n] while EVT_EN[n] is 1 (R178). -/
def State.occur (s : State) (p n : Nat) : State :=
  let s1 := s.setFld p HDR.EVT_RAW_RAW (setBit (s.fld p HDR.EVT_RAW_RAW) n)
  if bitAt (s.fld p HDR.EVT_EN_EN) n then
    s1.setFld p HDR.EVT_PEND_PEND (setBit (s1.fld p HDR.EVT_PEND_PEND) n)
  else s1

/-- Counts an error, and captures the first (R180): ERR_FIRST, FIRST_CODE and FIRST_HH. Of two errors on one beat the
lower bit is the first (R191). -/
def State.recordErr (s : State) (p : Nat) (e : Ev) (hh : Nat) : State :=
  let first := s.fld p HDR.ERR_COUNT_COUNT == 0 || (match Tab.lookup s.errAt p with
    | some (b, n) => b == s.tb.beat && decide (e.bit < n)
    | none => false)
  let s1 := s.bump p HDR.ERR_COUNT_COUNT
  if first then
    { ((s1.setFld p HDR.ERR_FIRST_STAMP_LO (s.tb.count % 2 ^ 32)).setFld p HDR.ERR_COUNT_FIRST_CODE e.code).setFld p
      HDR.ERR_COUNT_FIRST_HH hh with errAt := Tab.insert s.errAt p (s.tb.beat, e.bit) }
  else s1

/-- An occurrence of an event: reported, and recorded as an error if its table gives it a code (R178, R180). -/
def State.raiseBy (s : State) (p : Nat) (e : Ev) (hh : Nat) : State :=
  let s1 := s.occur p e.bit
  if e.code = 0 then s1 else s1.recordErr p e hh

/-- An occurrence of an event that no household's request caused. -/
def State.raise (s : State) (p : Nat) (e : Ev) : State := s.raiseBy p e 0xE

/-- `n` occurrences of an event on one beat: each is an error of its own (R180). -/
def State.raiseN (s : State) (p : Nat) (e : Ev) (n : Nat) : State :=
  if n = 0 then s
  else
    let t := s.raise p e
    if e.code = 0 then t else t.bump p HDR.ERR_COUNT_COUNT (n - 1)

/-- The events of a page whose condition holds now. -/
def State.liveMask (s : State) (p : Nat) : Nat := Tab.get 0 s.live p

/-- A condition begins to hold, or holds no longer; its onset is an occurrence of the event named after it
(R178). -/
def State.condition (s : State) (p : Nat) (e : Ev) (holds : Bool) : State :=
  let was := bitAt (s.liveMask p) e.bit
  let s1 := { s with live := Tab.set 0 s.live p (putBit (s.liveMask p) e.bit holds) }
  if holds && !was then s1.raise p e else s1

/-- Sets PAGE_STATUS.LOCK_VIOL (R185). -/
def State.lockViol (s : State) (p : Nat) : State := s.setFld p HDR.PAGE_STATUS_LOCK_VIOL 1

/-- Sets PAGE_STATUS.WRITE_IGNORED. -/
def State.writeIgnored (s : State) (p : Nat) : State := s.setFld p HDR.PAGE_STATUS_WRITE_IGNORED 1

/-- Sets a bit of CLAMP_STATUS. -/
def State.clampBit (s : State) (p bit : Nat) : State :=
  s.setFld p HDR.CLAMP_STATUS_CLAMP (setBit (s.fld p HDR.CLAMP_STATUS_CLAMP) bit)

/-! ### Decode errors and denials (R192, R174, R659) -/

/-- The local address of a register. -/
def regAddr (p off : Nat) : Nat := 0x2000000000 + p * 4096 + off

/-- A command writes a register of the pages. -/
def writesReg (p off : Nat) (c : Instr) : Option Nat :=
  match c with
  | .registerWrite _ addr false v => if addr.toNat % 2 ^ 38 = regAddr p off then some v.toNat else none
  | .shFieldWrite _ page o w => if page.val = p ∧ 4 * o.val = off then some w.toNat else none
  | _ => none

/-- A command writes the register of a field. -/
def writesField (p : Nat) (f : Fld) (c : Instr) : Bool := (writesReg p (f.bit / 32 * 4) c).isSome

/-- The counters run and the count is a multiple of a period. -/
def State.onTick (s : State) (period : Nat) : Bool := s.tb.running && s.tb.count % period == 0

/-- A command that satisfies a test waits on this beat. -/
def State.stands (s : State) (first : Instr → Bool) : Bool := !s.por && s.pending.any first

/-- A command stands back until the queue of commands is empty, within the beat. -/
def State.holdBack (s : State) (c : Instr) : State := { s with held := s.held ++ [c] }

/-- A happening stands back while one of this beat that a table of coincidences puts first still waits. -/
def State.after (s : State) (c : Instr) (first : Instr → Bool) (k : State) : State :=
  if s.stands first then s.holdBack c else k

/-- A decode error: zero data, DECERR in MATRIX, and the capture of R192. -/
def State.decodeError (s : State) (a : Acc) (addr : Nat) (write : Bool) (cause : Nat) : State :=
  let s1 := s.raiseBy pMatrix MATRIX.evDECERR a.hh
  let s2 :=
    if s1.on pMatrix MATRIX.DECERR_INFO_VALID then s1.bump pMatrix MATRIX.DECERR_COUNT_COUNT
    else
      (((((((((s1.setFld pMatrix MATRIX.DECERR_ADDR_LO_ADDR_LO (addr % 2 ^ 32)).setFld pMatrix
        MATRIX.DECERR_ADDR_HI_ADDR_HI (addr / 2 ^ 32)).setFld pMatrix MATRIX.DECERR_INFO_VALID 1).setFld pMatrix
        MATRIX.DECERR_INFO_WRITE (b2n write)).setFld pMatrix MATRIX.DECERR_INFO_FAB (b2n a.fab)).setFld pMatrix
        MATRIX.DECERR_INFO_MASTER a.master.id).setFld pMatrix MATRIX.DECERR_INFO_HH a.hh).setFld pMatrix
        MATRIX.DECERR_INFO_CAUSE cause).setFld pMatrix MATRIX.DECERR_INFO_SRC_NODE a.node).setFld pMatrix
        MATRIX.DECERR_INFO_TAG a.tag
  { s2 with resp := some ⟨.decode, [0]⟩ }

/-- A denial: zero data, and its record in the HH page of the requester (R31, R174, R659); a request of no household
is recorded nowhere. -/
def State.denial (s : State) (a : Acc) (addr : Nat) (write : Bool) : State :=
  let p := pHh a.hh
  let s1 := (s.raiseBy p HH.evACCESS_DENIED a.hh).bump p HH.DENY_COUNT_COUNT
  let s2 :=
    if s1.on p HH.DENY_INFO_VALID then s1
    else
      (((((s1.setFld p HH.DENY_INFO_VALID 1).setFld p HH.DENY_INFO_WRITE (b2n write)).setFld p HH.DENY_INFO_MASTER
        a.master.id).setFld p HH.DENY_INFO_SRC_NODE a.node).setFld p HH.DENY_ADDR_LO_ADDR (addr % 2 ^ 32)).setFld p
        HH.DENY_ADDR_HI_ADDR (addr / 2 ^ 32)
  { (if a.hh.val < 8 then s2 else s) with resp := some ⟨.denied, [0]⟩ }

/-- EXTEST, CLAMP or HIGHZ is in force (R695). -/
def State.tapHolds (s : State) : Bool := s.dbg.tap == 0 || s.dbg.tap == 3 || s.dbg.tap == 4

/-- The supply of the PCIe, Commons and D-PHY PHYs is good (Table 3.8). -/
def State.phyOk (s : State) : Bool := s.on pPower POWER.RAIL_STATUS_VPHY_OK

/-! ### Who may reach a register (R172, R173) -/

/-- The household that the ownership array of a kind-A page gives the register at `off`, 15 for the manager
alone. -/
def State.resOwner (s : State) (b : Blk) (p off : Nat) : Nat :=
  match b with
  | .axis => if 0x200 ≤ off then s.fld p (AXIS.AX_OWNER_CH.at ((off - 0x200) / 0x40)) else 15
  | .trig => if 0x200 ≤ off then s.fld p (TRIG.TRG_OWNER_OUT.at ((off - 0x200) / 0x80)) else 15
  | .strobe => if 0x200 ≤ off then s.fld p (STROBE.STB_OWNER_OUT.at ((off - 0x200) / 0x40)) else 15
  | .sieve => if 0x200 ≤ off then s.fld p (SIEVE.SLOT_OWNER_SLOT.at ((off - 0x200) / 0x80)) else 15
  | .dramadm =>
    if 0x200 ≤ off then s.fld p (DRAMADM.REG_CTRL_OWNER.at ((off - 0x200) / 0x10))
    else if 0x12C ≤ off ∧ off < 0x14C then (off - 0x12C) / 4 else 15
  | .sch => if off < 0xD00 then s.fld p (SCH.SLOT_OWNER_SLOT.at ((off - 0x100) / 0x30)) else 15
  | .pol => if 0x200 ≤ off then s.fld p (POL.POL_OWNER_HH.at ((off - 0x200) / 0x40)) else 15
  | .prov => if 0x200 ≤ off then s.fld p (PROV.PROV_OWNER_HH.at ((off - 0x200) / 0x100)) else 15
  | .qe => if 0x100 ≤ off ∧ off < 0x180 then (off - 0x100) / 16 else 15
  | _ => 15

/-- A household may reach a block register of a kind-A page (R172, and the chapters' own rules: the arming masks and ARMED
of TRIG and STROBE for the owner of some output (log entry 68), the read-only blocks of R534 and R535, and a household's own
entries of Q_OWNER, R456). -/
def State.arrayMay (s : State) (b : Blk) (h p off : Nat) (write : Bool) : Bool :=
  match b with
  | .trig =>
    if off < 0x200 then
      decide (0x108 ≤ off) && (write || off == 0x110) && (List.range 16).any (fun k => s.fld p (TRIG.TRG_OWNER_OUT.at k) == h)
    else s.resOwner b p off == h
  | .strobe =>
    if off < 0x200 then
      decide (0x104 ≤ off) && (write || off == 0x10C) && (List.range 8).any (fun k => s.fld p (STROBE.STB_OWNER_OUT.at k) == h)
    else s.resOwner b p off == h
  | .pol | .dramadm | .qe => !write && s.resOwner b p off == h
  | _ => s.resOwner b p off == h

/-- The header registers that an owning household may write (R173). -/
def headerWritable (off : Nat) : Bool :=
  off == 0x00C || off == 0x010 || off == 0x018 || off == 0x01C || off == 0x020 || off == 0x034 || off == 0x038

/-- A ring block of an HH page belongs to the owner of its SCHP slot (R658). -/
def State.hhMay (s : State) (h off : Nat) : Bool :=
  if 0x400 ≤ off ∧ off < 0xC00 then s.fld (pSch 0) (SCH.SLOT_OWNER_SLOT.at ((off - 0x400) / 0x20)) == h else true

/-- A queue's block of a QEH page belongs to the owner of the queue (R456). -/
def State.qehMay (s : State) (h off : Nat) : Bool :=
  if 0x200 ≤ off ∧ off < 0xA00 then s.fld pQe (Q_owner_at (32 * h + (off - 0x200) / 0x40)) == h else true
where
  /-- The ownership entry of a queue. -/
  Q_owner_at (q : Nat) : Fld := QE.Q_OWNER_QUEUE.at q

/-- An identity may reach a register (R172, R173). -/
def State.mayReach (s : State) (hh p off : Nat) (write : Bool) : Bool :=
  if hh = 15 then true
  else
    match s.blk p with
    | none => false
    | some b =>
      match b.own with
      | .m => false
      | .p => s.owner p == hh && (!write || 0x100 ≤ off || headerWritable off || off == 0x000 || off == 0x004
          || off == 0x008 || off == 0x014 || off == 0x024 || off == 0x028)
      | .f =>
        HDR.owner p |>.reset |> fun o => o == hh && (!write || 0x100 ≤ off || (off != 0x02C && off != 0x030))
          && (if b = .hh then s.hhMay hh off else s.qehMay hh off)
      | .a => if off < 0x100 then !write else s.arrayMay b hh p off write

/-- A Wicket session of household h reaches block h of the DEBUG page within its rights (R684, R685). -/
def State.wicketMay (s : State) (a : Acc) (p off : Nat) (write : Bool) : Bool :=
  let base := 0x200 + 0x40 * a.hh.val
  let r := s.fld pDebug (DEBUG.RIGHTS_HH.at a.hh)
  a.master == .wicket && decide (a.hh.val < 8) && p == pDebug && decide (base ≤ off) && decide (off < base + 0x40)
    && (if !write then bitAt r 0 else if off = base then bitAt r 2
      else if off = base + 0x1C ∨ off = base + 0x20 then bitAt r 1 else true)

/-! ### Serving a register access -/

/-- Table 5.3: where an access stands when it reaches a register. -/
inductive Verdict where
  /-- Held by a dawn (R121) or a soft reset of the page (R187). -/
  | held
  /-- A decode error with a cause of Table 5.7. -/
  | decode (cause : Nat)
  | denied
  /-- The requester is a household under reset: zero data and no effect (Table 5.5). -/
  | zero
  | served
  deriving DecidableEq, Repr

/-- How the device judges an access to the register at byte offset `off` of page `p`: hold, decode, household reset,
ownership, in this order (R121, R171). -/
def State.judge (s : State) (a : Acc) (p off : Nat) (write : Bool) : Verdict :=
  if s.tb.dawn ≠ 0 then .held
  else
    match s.blk p with
    | none => .decode 2
    | some b =>
      if (regFields b p off).isEmpty then .decode 3
      else if s.srstBusy.contains p then .held
      else if s.hhReset.contains a.hh.val then .zero
      else if s.mayReach a.hh p off write || s.wicketMay a p off write then .served
      else .denied

/-- The effect `k` of a served access to a register; a write by the Wicket to the WHB page has none (R692). -/
def State.serve (s : State) (a : Acc) (p : Nat) (write : Bool) (k : State → State) : State :=
  if write && p == pWhb && a.master == .wicket then (s.answer [0]).raiseBy pDebug DEBUG.evWICKET_EXCLUDED a.hh
  else k (s.answer [0])

/-- Serves one register access: the effect `k` applies only where the access is served; a held access waits, and one
that comes while POR is asserted is discarded (Table 5.5). -/
def State.access (s : State) (i : Instr) (a : Acc) (p off : Nat) (write : Bool) (k : State → State) : State :=
  if s.por then s else
  match s.judge a p off write with
  | .held => { s with held := s.held ++ [i] }
  | .decode c => s.decodeError a (regAddr p off) write c
  | .denied => s.denial a (regAddr p off) write
  | .zero => { s with resp := some ⟨.reset, [0]⟩ }
  | .served => s.serve a p write k

/-- Serves an access that only the manager may make (R740, R30): a household's is a denial. -/
def State.mgrAccess (s : State) (i : Instr) (a : Acc) (p off : Nat) (k : State → State) : State :=
  s.access i a p off true (fun t => if a.hh = 15 then k t else t.denial a (regAddr p off) true)

end Sys2Proof.Machine
end

