-- ==== Sys2Proof/Machine/Operands.lean ====
section
/-!
DEFINITION. What a written word does to each field of a register by its type (Table 0.3, R163, R182, R185, R740):
every form that a register operand takes. What a block adds to it stands with the block.
-/

namespace Sys2Proof.Machine

/-- The value that a stored write leaves in a field, with the field's accepted range and bounds. -/
def Fld.stored (f : Fld) (old v : Nat) : Nat :=
  match f.range with
  | some (lo, hi) => if v < lo ∨ hi < v then old else v
  | none =>
    match f.clamp with
    | some (lo, hi, _) => clampNat lo hi v
    | none => v

/-- The CLAMP_STATUS bit that a value sets. -/
def Fld.clampHit (f : Fld) (v : Nat) : Option Nat :=
  match f.clamp with
  | some (lo, hi, b) => if v < lo ∨ hi < v then some b else none
  | none => none

/-- An ordinary write of an RW field: frozen if LK and the page is locked; LOCK_VIOL is set only if the value that the
write would leave differs (R185). -/
def State.writeRw (s : State) (p : Nat) (f : Fld) (v : Nat) : State :=
  if f.lk && s.isLocked p then (if f.stored (s.fld p f) v = s.fld p f then s else s.lockViol p)
  else
    let s1 := s.setFld p f (f.stored (s.fld p f) v)
    match f.clampHit v with
    | some b => s1.clampBit p b
    | none => s1

/-- A write of one field, by its type. -/
def State.writeField (s : State) (p : Nat) (f : Fld) (v : Nat) : State :=
  match f.kind with
  | .ro | .rc | .wo => s
  | .rw => s.writeRw p f v
  | .w1c => s.clrFld p f v
  | .w1s => s.orFld p f v
  | .sh => if f.lk && s.isLocked p then (if f.stored (s.fld p f) v = s.fld p f then s else s.lockViol p)
    else s.setShadow p f (f.stored (s.fld p f) v)

/-- The part of a word that belongs to a field. -/
def Fld.part (f : Fld) (w : Nat) : Nat := bitsOf w (f.bit % 32 + f.width - 1) (f.bit % 32)

/-- The write would change a field that only the manager writes (R740); the current value of one of type SH is its shadow
(DESIGN CHOICE, log entry 85). -/
def State.changesMgr (s : State) (p : Nat) (fs : List Fld) (w : Nat) : Bool :=
  fs.any (fun f => f.mgr && (if f.kind = .sh then s.shadow p f else s.fld p f) != f.part w)

/-- A household's write to this register is a denial (R740). -/
def State.mgrDenied (s : State) (hh p : Nat) (fs : List Fld) (w : Nat) : Bool :=
  hh != 15 && ((fs.any Fld.mgr && fs.all (fun f => f.mgr || f.kind == .ro)) || s.changesMgr p fs w)

/-- Writes a word to a register, field by field; at an IMMEDIATE boundary the shadows apply on the same beat
(R182). -/
def State.writeFields (s : State) (p : Nat) (fs : List Fld) (w : Nat) : State :=
  let s1 := fs.foldl (fun t f => t.writeField p f (f.part w)) s
  if fs.any (fun f => f.kind == .sh) && s1.boundary p == 0 then s1.applyShadows p else s1

/-- The fields of the register at an offset of a page of this part. -/
def State.fieldsOf (s : State) (p off : Nat) : List Fld :=
  match s.blk p with
  | some b => regFields b p off
  | none => []

/-- A served write of a register by an identity, with the manager's fields judged first (R740). -/
def State.plainWrite (s : State) (a : Acc) (p off w : Nat) : State :=
  let fs := s.fieldsOf p off
  if s.mgrDenied a.hh p fs w then s.denial a (regAddr p off) true else s.writeFields p fs w

end Sys2Proof.Machine
end

