-- ==== Sys2Proof/Machine/Dram.lean ====
section
/-!
DEFINITION. DRAM: where an address lies (R152, R153, R744), who may reach it (R517), its contents (R743), the clients'
token meters and the arbiter (R499, R518 to R521).
-/

namespace Sys2Proof.Machine

/-! ### The map -/

/-- A gibibyte. -/
abbrev gib : Nat := 2 ^ 30

/-- The mapped capacity of a channel in bytes: with inline ECC the top eighth is not mapped (R153). -/
def State.dramCap (s : State) (c : Nat) : Nat :=
  let g := (if c = 0 then s.si.dramGib0 else s.si.dramGib1) * gib
  if (if c = 0 then s.si.ecc0 else s.si.ecc1) then g - g / 8 else g

/-- The granule of the interleaved map in force, 0 without interleaving (R744). -/
def State.dramGran (s : State) : Nat :=
  if bitAt s.dram.adm.map 0 then 256 * 4 ^ bitsOf s.dram.adm.map 5 4 else 0

/-- The channel that serves a DRAM address (R744). -/
def State.dramChan (s : State) (a : Nat) : Nat :=
  let g := s.dramGran
  if g = 0 then a / 2 ^ 33 else a / g % 2

/-- The address within its channel (R744). -/
def State.dramOff (s : State) (a : Nat) : Nat :=
  let g := s.dramGran
  if g = 0 then a % 2 ^ 33 else g * (a / (2 * g)) + a % g

/-- The place of a DRAM address in the contents. -/
def State.dramKey (s : State) (a : Nat) : Nat := s.dramChan a * 2 ^ 33 + s.dramOff a

/-- Every byte of an access is mapped DRAM (R153, R742, R744). -/
def State.dramMapped (s : State) (a n : Nat) : Bool :=
  if s.dramGran = 0 then
    decide (a + n ≤ s.dramCap 0) || (decide (2 ^ 33 ≤ a) && decide (a + n ≤ 2 ^ 33 + s.dramCap 1))
      || (s.dramCap 0 == 2 ^ 33 && decide (a + n ≤ 2 ^ 33 + s.dramCap 1))
  else decide (a + n ≤ 2 * s.dramCap 0)

/-- Bytes `lo` to `hi - 1` lie inside a union of regions; `n` bounds the number of regions passed. -/
def covered (rs : List Region) : Nat → Nat → Nat → Bool
  | 0, lo, hi => decide (hi ≤ lo)
  | n + 1, lo, hi =>
    if hi ≤ lo then true
    else
      match rs.find? (fun r => decide (r.base * 2 ^ 20 ≤ lo) && decide (lo < (r.base + r.size) * 2 ^ 20)) with
      | some r => covered rs n ((r.base + r.size) * 2 ^ 20) hi
      | none => false

/-- The bytes lie inside the regions of an owner, given a set of regions (R517). -/
def insideOf (rs : List Region) (owner a n : Nat) : Bool := covered (rs.filter (fun r => r.owner == owner)) 33 a (a + n)

/-- Household `h`, or the manager, may reach the DRAM bytes (R517). -/
def State.dramMay (s : State) (h a n : Nat) : Bool := h == 15 || insideOf s.dram.adm.regions h a n

/-! ### The contents -/

/-- A DRAM byte: zero while a rail is low (Table 3.8), and what was last written to it, or an undefined value
(R743). -/
def State.dramByte (s : State) (a : Nat) : Byte :=
  if s.dram.dead then 0
  else
    match Tab.lookup s.dram.mem (s.dramKey a) with
    | some b => b
    | none => Config.dramFree s.trainings (s.dramKey a)

/-- Reads DRAM bytes in address order. -/
def State.dramRead (s : State) (a n : Nat) : List Byte := (List.range n).map (fun i => s.dramByte (a + i))

/-- The channel of a DRAM byte carries inline ECC, and the byte has not been written since the last training (R743). -/
def State.unsure (s : State) (a : Nat) : Bool :=
  (if s.dramChan a = 0 then s.si.ecc0 else s.si.ecc1) && !s.dram.dead && (Tab.lookup s.dram.mem (s.dramKey a)).isNone

/-- The 32-byte parts of a read that come back poisoned: those with a byte that is unsure, where a free value says so
(R743; log entry 3). -/
def State.poisonParts (s : State) (a n : Nat) : List Nat :=
  (List.range ((n + 31) / 32)).filter (fun k =>
    (List.range 32).any (fun i => decide (32 * k + i < n) && s.unsure (a + 32 * k + i))
    && bitAt (s.freeVal ((n + 31) / 32)) k)

/-- A read of DRAM as its requester takes it: a poisoned part reads as zeros and raises DRAM_ECC_UNCORR on its channel
(R446, R743). -/
def State.dramFetch (s : State) (a n : Nat) : List Byte × Bool × State :=
  let bs := s.dramRead a n
  if (List.range n).any (fun i => s.unsure (a + i)) then
    let bad := s.poisonParts a n
    let t := bad.foldl (fun (u : State) k => u.raise (pDram (s.dramChan (a + 32 * k))) DRAMC.evDRAM_ECC_UNCORR) s.drew
    ((List.range n).zip bs |>.map (fun e => if bad.contains (e.1 / 32) then 0 else e.2), !bad.isEmpty, t)
  else (bs, false, s)

/-- Reads a 64-bit word of DRAM, little-endian. -/
def State.dramWord (s : State) (a : Nat) : Nat := ofLeBytes (s.dramRead a 8)

/-- Writes one byte of DRAM; nothing is written while a rail is low (Table 3.8). -/
def State.dramPut (s : State) (a : Nat) (b : Byte) : State :=
  if s.dram.dead then s else { s with dram.mem := Tab.insert s.dram.mem (s.dramKey a) b }

/-- Writes DRAM bytes in address order. -/
def State.dramPutAll : State → Nat → List Byte → State
  | s, _, [] => s
  | s, a, b :: bs => (s.dramPut a b).dramPutAll (a + 1) bs

/-- The list of DRAM words as bytes. -/
def wordsLe (ws : List Nat) : List Byte := ws.flatMap (leBytes 8)

/-! ### Writes that the provenance engine watches (R612) -/

/-- The engine's state of a household. -/
def State.pvOf (s : State) (h : Nat) : ProvSt := Tab.get ProvSt.reset s.pv h

/-- Writes the engine's state of a household. -/
def State.setPv (s : State) (h : Nat) (v : ProvSt) : State := { s with pv := Tab.set ProvSt.reset s.pv h v }

/-- A write to DRAM that reaches a watched weights region is seen by the controllers (R612). -/
def State.dramWrote (s : State) (a n : Nat) : State :=
  (List.range 8).foldl (fun t h =>
    let v := t.pvOf h
    match v.weights with
    | some (b, m) => if a < b + m ∧ b < a + n then t.setPv h { v with written := true } else t
    | none => t) s

/-- Writes DRAM bytes and lets the controllers see the write (R612). -/
def State.dramStore (s : State) (a : Nat) (bs : List Byte) : State := (s.dramPutAll a bs).dramWrote a bs.length

/-! ### Meters and requests (R473, R499, R518) -/

/-- The rate of a client in bytes per 2^16 st with 16 fractional bits, in force (R499). -/
def State.clientRate (s : State) (c : Nat) : Nat :=
  if c < 256 then s.fld (pQeh (c / 32)) (QEH.SPILL_RATE_RATE.at (c % 32))
  else if c < 264 then nth 0 s.dram.adm.tileRes (c - 256) * 2 ^ 16
  else if c < 269 then nth 0 s.dram.adm.egressRes (c - 264) * 2 ^ 16
  else 0

/-- A client's meter brought up to date: it gains its rate and holds at most a quarter of one period's worth (R473;
log entry 16). -/
def State.meterNow (s : State) (c : Nat) : Nat :=
  let r := s.clientRate c
  let m := Tab.get ⟨0, 0⟩ s.dram.meters c
  min (m.tok + r * (s.tb.count - m.at_)) (r * 2 ^ 14)

/-- A client asks for bytes: committed if its meter holds them, which consumes them; otherwise excess (R473). -/
def State.meterTake (s : State) (c bytes : Nat) : Bool × State :=
  let t := s.meterNow c
  let ok := bytes * 2 ^ 32 ≤ t && 0 < bytes
  let t' := if ok then t - bytes * 2 ^ 32 else t
  (ok, { s with dram.meters := Tab.set ⟨0, 0⟩ s.dram.meters c ⟨t', s.tb.count⟩ })

/-- A request reaches a DRAM channel's arbiter, metered for its client (R499, R518). -/
def State.dramAsk (s : State) (a bytes client : Nat) (timed : Bool) : State :=
  let r := s.meterTake client bytes
  let c := s.dramChan a
  let q : DramReq := ⟨c, timed, r.1, client, bytes⟩
  let s1 := r.2
  let s2 := if client < 256 ∧ r.1 = false then s1.bump pQe QE.SPILL_EXCESS_BYTES bytes else s1
  let d := s2.dram
  let k := c * 1024 + client
  let cur := if r.1 then d.excCur else Tab.set 0 d.excCur k (Tab.get 0 d.excCur k + bytes)
  { s2 with dram := { d with
      waiting := d.waiting ++ [q]
      admitted := if r.1 then d.admitted + bytes else d.admitted
      excCur := cur } }

/-- The first element that satisfies a test, and the list without it. -/
def takeFirst {α : Type} (p : α → Bool) : List α → Option (α × List α)
  | [] => none
  | x :: xs =>
    if p x then some (x, xs)
    else
      match takeFirst p xs with
      | some (y, r) => some (y, x :: r)
      | none => none

/-- A request has been served: its bytes count as committed or excess (R519, Table 13.11). -/
def State.dramCount (s : State) (q : DramReq) : State :=
  if q.timed then s
  else if q.committed then { s with dram.served := s.dram.served + q.bytes }
  else s.bump pDramadm DRAMADM.EXCESS_BYTES_COUNT q.bytes

/-- The requests of a client that still wait are served: its transfer has completed. -/
def State.dramDone (s : State) (client bytes : Nat) : State :=
  match takeFirst (fun q : DramReq => q.client == client && q.bytes == bytes) s.dram.waiting with
  | some (q, r) => ({ s with dram.waiting := r }).dramCount q
  | none => s

/-- The weight of a client in the excess round robin of a channel (R518). -/
def State.excWeight (s : State) (c client : Nat) : Nat := max 64 (Tab.get 0 s.dram.excPrev (c * 1024 + client))

/-- The client whose excess request a channel serves next: the one being served while its weight lasts, then the next
in client order (R518; log entry 17). -/
def State.excNext (s : State) (c : Nat) : Option Nat :=
  let ws := (s.dram.waiting.filter (fun q => q.ch == c && !q.timed && !q.committed)).map DramReq.client
  let cur := Tab.get 0 s.dram.rrClient c
  if ws.contains cur && decide (0 < Tab.get 0 s.dram.rrLeft c) then some cur
  else
    match (List.range 1024).find? (fun d => ws.contains ((cur + 1 + d) % 1024)) with
    | some d => some ((cur + 1 + d) % 1024)
    | none => none

/-- Serves the chosen excess client's oldest request. -/
def State.serveExcess (s : State) (c client : Nat) : State :=
  match takeFirst (fun q : DramReq => q.ch == c && !q.timed && !q.committed && q.client == client) s.dram.waiting with
  | none => s
  | some (q, r) =>
    let cur := Tab.get 0 s.dram.rrClient c
    let left := if cur = client ∧ 0 < Tab.get 0 s.dram.rrLeft c then Tab.get 0 s.dram.rrLeft c else s.excWeight c client
    let d := s.dram
    ({ s with dram := { d with
        waiting := r
        rrClient := Tab.set 0 d.rrClient c client
        rrLeft := Tab.set 0 d.rrLeft c (left - q.bytes) } }).dramCount q

/-- A channel's arbiter serves the timed requests first, then the committed, then the excess ones, the older first within
a rank (R518). -/
def State.dramServe (s : State) (c : Nat) : State :=
  match takeFirst (fun q : DramReq => q.ch == c && q.timed) s.dram.waiting with
  | some (q, r) => ({ s with dram.waiting := r }).dramCount q
  | none =>
    match takeFirst (fun q : DramReq => q.ch == c && q.committed) s.dram.waiting with
    | some (q, r) => ({ s with dram.waiting := r }).dramCount q
    | none =>
      match s.excNext c with
      | some k => s.serveExcess c k
      | none => s

/-- A channel with inline ECC corrected a word of the request it served (Table 19.9, R519). -/
def State.dramCorrected (s : State) (c : Nat) : State :=
  if (if c = 0 then s.si.ecc0 else s.si.ecc1) && s.dram.waiting.any (fun q => q.ch == c) then
    ({ s with dram.eccWin := true }).raise (pDram c) DRAMC.evDRAM_ECC_CORR
  else s

/-- DRAM_REQUEST_SERVE: a channel's arbiter serves a request (R518); `corrected`: the channel's inline ECC corrected a word
of it. -/
def execDramRequestServe : DramServe → State → Host.Outcome State Fault Refusal
  | ⟨c, corrected⟩, s =>
  .next (if s.tb.haltedIslands then s else (if corrected then s.dramCorrected c else s).dramServe c)

/-! ### Windows, refresh and temperature -/

/-- The shortfall of the window, and the excess weights of the next (R518, R519). -/
def State.windowOver (s : State) : State :=
  let d := s.dram
  let waits := d.waiting.any (fun q => q.committed && !q.timed)
  let deficit := if waits then d.admitted - d.served else 0
  let s1 := if 0 < deficit then
      (((((s.setFld pDramadm DRAMADM.SHORTFALL_BYTES (min deficit 0xFFFFFF)).setFld pDramadm DRAMADM.SHORT_MAX_BYTES
        (max (s.fld pDramadm DRAMADM.SHORT_MAX_BYTES) (min deficit 0xFFFFFF))).setFld pDramadm
        DRAMADM.SHORT_CAUSE_REFRESH_2X (b2n (d.hotWin || d.hot != 0))).setFld pDramadm DRAMADM.SHORT_CAUSE_ECC_RETRY
        (b2n d.eccWin)).setFld pDramadm DRAMADM.SHORT_CAUSE_THROTTLE (b2n (d.slowWin || d.slow != 0)))
    else s
  let s2 := if 0 < deficit ∧ d.short = false then s1.raise pDramadm DRAMADM.evGUARANTEE_SHORTFALL else s1
  let e := s2.dram
  { s2 with dram := { e with
    short := decide (0 < deficit)
    admitted := 0
    served := 0
    excPrev := e.excCur
    excCur := []
    hotWin := false
    slowWin := false
    eccWin := false
    winAt := s.tb.beat + 1 } }

/-- ARBITER_WINDOW_END: a window of 2^16 st ends on each multiple of 2^16 (R519). -/
def execArbiterWindowEnd (s : State) : Host.Outcome State Fault Refusal :=
  .next (if s.onTick 65536 && s.dram.winAt != s.tb.beat + 1 then s.windowOver else s)

/-- The refresh loop adjusts REF_AHEAD within its envelope (R520, R521). -/
def State.refLoop (s : State) : State :=
  let d := s.dram
  if s.on pDramadm DRAMADM.ADM_ADAPT_ADAPT_EN then
    let v : Int := s.fld pDramadm DRAMADM.REF_AHEAD_AHEAD
    let w : Int := if d.refBehind then v + 1 else if d.refIdle then v else v - 1
    let lo : Int := s.fld pDramadm DRAMADM.REF_ENV_MIN
    let hi : Int := s.fld pDramadm DRAMADM.REF_ENV_MAX
    let out := decide (w < lo ∨ hi < w)
    let pin := if out then d.pin + 1 else 0
    let s1 := s.setFld pDramadm DRAMADM.REF_AHEAD_AHEAD (clampInt lo hi w).toNat
    let s2 := if pin = 256 then s1.raise pDramadm DRAMADM.evLOOP_PINNED else s1
    let e := s2.dram
    { s2 with dram := { e with pin := pin, refBehind := false, refIdle := false, refAt := s.tb.beat + 1 } }
  else { s with dram := { d with refBehind := false, refIdle := false, refAt := s.tb.beat + 1 } }

/-- REF_AHEAD_UPDATE: every 65,536 st (R520), within an envelope written on the beat (R710). -/
def execRefAheadUpdate (s : State) : Host.Outcome State Fault Refusal :=
  .next (s.after .refAheadUpdate (writesField pDramadm DRAMADM.REF_ENV_MAX)
    (if s.onTick 65536 && s.dram.refAt != s.tb.beat + 1 then s.refLoop else s))

/-- DRAM_TEMP_CROSS: a controller's refresh rate doubles above 85 °C and it throttles at its limit; the onset of
either is an event (R709, R721). -/
def execDramTempCross (c : Fin 2) (hot throttled : Bool) (s : State) : Host.Outcome State Fault Refusal :=
  let s1 := (s.condition (pDram c) DRAMC.evREFRESH_2X hot).condition (pDram c) DRAMC.evTHROTTLE throttled
  let d := s1.dram
  .next { s1 with dram := { d with
    hot := putBit d.hot c hot
    slow := putBit d.slow c throttled
    hotWin := d.hotWin || hot
    slowWin := d.slowWin || throttled } }

/-- DRAM_TRAINING_DONE: a controller has initialised and trained its DRAM, or failed to (R743, R721). -/
def execDramTrainingDone (c : Fin 2) (ok : Bool) (s : State) : Host.Outcome State Fault Refusal :=
  if ok then .next { s with dram.trained := putBit s.dram.trained c true }
  else .next (s.raise (pDram c) DRAMC.evTRAINING_FAIL)

/-! ### Admission (R515, R516) -/

/-- The staged regions that are enabled. -/
def State.stagedRegions (s : State) : List Region :=
  (List.range 32).filterMap (fun n =>
    if s.on pDramadm (DRAMADM.REG_CTRL_EN.at n) then
      some ⟨s.fld pDramadm (DRAMADM.REG_BASE_MIB.at n), s.fld pDramadm (DRAMADM.REG_SIZE_MIB.at n),
        s.fld pDramadm (DRAMADM.REG_CTRL_OWNER.at n)⟩
    else none)

/-- PEAK of one channel, 0 where it is not populated (R515). -/
def State.admPeakCh (s : State) (c : Nat) : Nat :=
  if (if c = 0 then s.si.dramGib0 else s.si.dramGib1) = 0 then 0
  else 4 * (if c = 0 then s.si.mts0 else s.si.mts1) * 65536 * (if (if c = 0 then s.si.ecc0 else s.si.ecc1) then 7 else 8)
    / 8000

/-- PEAK in bytes per 2^16 st (R515). -/
def State.admPeak (s : State) : Nat := s.admPeakCh 0 + s.admPeakCh 1

/-- BUDGET (R515). -/
def State.admBudget (s : State) : Nat := s.admPeak * (if s.on pDramadm DRAMADM.HOT_RANGE_HOT then 62 else 70) / 100

/-- SUM of the staged reservations (R515). -/
def State.admSum (s : State) : Nat :=
  s.fld pDramadm DRAMADM.SPILL_RES_BYTES
    + ((List.range 5).map (fun k => s.fld pDramadm (DRAMADM.EGRESS_RES_BYTES.at k))).sum
    + ((List.range 8).map (fun h => s.fld pDramadm (DRAMADM.TILE_RES_BYTES.at h))).sum

/-- Two regions overlap and have different owners (Table 13.3). -/
def Region.clash (r t : Region) : Bool :=
  r.owner != t.owner && decide (r.base < t.base + t.size) && decide (t.base < r.base + r.size)

/-- Some pair of a list clashes. -/
def anyClash : List Region → Bool
  | [] => false
  | r :: rs => rs.any r.clash || anyClash rs

/-- The staged DRAM_MAP word. -/
def State.stagedMap (s : State) : Nat :=
  s.fld pDramadm DRAMADM.DRAM_MAP_GRANULE * 16 + s.fld pDramadm DRAMADM.DRAM_MAP_INTERLEAVE

/-- The queue is enabled. -/
def State.qOn (s : State) (q : Nat) : Bool := s.on (pQeh (q / 32)) (QEH.Q_CFG_EN.at (q % 32))

/-- The queue's owner (R455). -/
def State.qOwner (s : State) (q : Nat) : Nat := s.fld pQe (QE.Q_OWNER_QUEUE.at q)

/-- The size of a queue's spill region in bytes (R458). -/
def State.qSpill (s : State) (q : Nat) : Nat := 4096 * 2 ^ s.fld (pQeh (q / 32)) (QEH.Q_CFG_SPILL_SIZE.at (q % 32))

/-- The base of a queue's spill region. -/
def State.qBase (s : State) (q : Nat) : Nat :=
  s.pair (pQeh (q / 32)) (QEH.SPILL_BASE_LO_BASE.at (q % 32)) (QEH.SPILL_BASE_HI_BASE.at (q % 32))

/-- The enabled queues. -/
def State.qsOn (s : State) : List Nat := (List.range 256).filter s.qOn

/-- Households with a run RUNNING. -/
def State.runningMask (s : State) : Nat := s.fld pSieve SIEVE.RUNNING_RUNNING

/-- The exact sum of the spill rates of the enabled queues (R479). -/
def State.spillSum (s : State) : Nat :=
  (s.qsOn.map (fun q => s.fld (pQeh (q / 32)) (QEH.SPILL_RATE_RATE.at (q % 32)))).sum

/-- A number rounded up to whole bytes from 16 fractional bits. -/
def ceil16 (v : Nat) : Nat := (v + 0xFFFF) / 0x10000

/-- A slot's committed rate in force (R497). -/
def State.cir (s : State) (p k : Nat) : Nat :=
  s.fld (pSch p) (SCH.CIR_LO_CIR.at k) + 2 ^ 32 * s.fld (pSch p) (SCH.RATE_HI_CIR.at k)

/-- The enabled slots of a scheduler. -/
def State.slotsOn (s : State) (p : Nat) : List Nat :=
  (List.range 64).filter (fun k => s.on (pSch p) (SCH.SLOT_CTRL_EN.at k))

/-- DRAM_USE of a scheduler (Table 13.9). -/
def State.dramUse (s : State) (p : Nat) : Nat :=
  (((s.slotsOn p).filter (fun k => s.on (pSch p) (SCH.BIND_DRAM_TOUCH.at k))).map (fun k => ceil16 (s.cir p k))).sum

/-- The staged values fail cause 4 of Table 13.3. -/
def State.admInUse (s : State) : Bool :=
  decide (s.fld pDramadm DRAMADM.SPILL_RES_BYTES < ceil16 s.spillSum)
  || (List.range 5).any (fun k => decide (s.fld pDramadm (DRAMADM.EGRESS_RES_BYTES.at k)
        < s.dramUse k))
  || s.qsOn.any (fun q => s.qOwner q != 15 && !insideOf s.stagedRegions (s.qOwner q) (s.qBase q) (s.qSpill q))
  || (s.stagedMap != s.dram.adm.map && (!s.qsOn.isEmpty || s.runningMask != 0))

/-- The lowest applicable cause of Table 13.3, 0 for none. -/
def State.admCause (s : State) : Nat :=
  let rs := s.stagedRegions
  if s.admBudget < s.admSum then 1
  else if anyClash rs then 2
  else if rs.any (fun r => !({ s with dram.adm.map := s.stagedMap }).dramMapped (r.base * 2 ^ 20) (r.size * 2 ^ 20))
    then 3
  else if s.admInUse then 4
  else if bitAt s.stagedMap 0 && (s.si.dramGib0 == 0 || s.si.dramGib1 == 0 || s.si.dramGib0 != s.si.dramGib1
    || s.si.ecc0 != s.si.ecc1) then 5
  else 0

/-- The staged values as they come into force (R516, R535). -/
def State.stagedAdm (s : State) : Adm where
  hot := s.on pDramadm DRAMADM.HOT_RANGE_HOT
  spillRes := s.fld pDramadm DRAMADM.SPILL_RES_BYTES
  egressRes := (List.range 5).map (fun k => s.fld pDramadm (DRAMADM.EGRESS_RES_BYTES.at k))
  tileRes := (List.range 8).map (fun h => s.fld pDramadm (DRAMADM.TILE_RES_BYTES.at h))
  map := s.stagedMap
  regs := (List.range 32).filterMap (fun n =>
    let v := s.fld pDramadm (DRAMADM.REG_BASE_MIB.at n) + 2 ^ 18 * s.fld pDramadm (DRAMADM.REG_SIZE_MIB.at n)
      + 2 ^ 33 * s.fld pDramadm (DRAMADM.REG_CTRL_OWNER.at n)
      + 2 ^ 37 * s.fld pDramadm (DRAMADM.REG_CTRL_EN.at n)
    if v = 15 * 2 ^ 33 then none else some (n, v))
  regions := s.stagedRegions

/-- A commit attempt (R515, R516). -/
def State.admCommit (s : State) : State :=
  let s1 := (s.setFld pDramadm DRAMADM.PEAK_BYTES s.admPeak).setFld pDramadm DRAMADM.BUDGET_BYTES s.admBudget
  let c := s.admCause
  let s2 := s1.setFld pDramadm DRAMADM.ADM_STATUS_CAUSE c
  if c = 1 then
    (s2.setFld pDramadm DRAMADM.ADM_STATUS_SHORT_BY (min 0xFFFFFF (s.admSum - s.admBudget))).raiseBy pDramadm
      DRAMADM.evOVERSUBSCRIBED 15
  else
    let s3 := s2.setFld pDramadm DRAMADM.ADM_STATUS_SHORT_BY 0
    if c = 0 then
      (({ s3 with dram.adm := s.stagedAdm }).setFld pQe QE.SPILL_BUDGET_BYTES s.stagedAdm.spillRes).raise pDramadm
        DRAMADM.evCOMMIT_DONE
    else s3.raiseBy pDramadm DRAMADM.evADM_REFUSED 15

/-- The reading of a staged field: as staged while VIEW = 0, as in force while VIEW = 1 (R535). `none` for a register
that is not staged. -/
def State.admView (s : State) (off : Nat) : Option Nat :=
  if s.on pDramadm DRAMADM.ADM_CTRL_VIEW then
    let m := s.dram.adm
    if off = 0x110 then some (b2n m.hot)
    else if off = 0x114 then some m.spillRes
    else if 0x118 ≤ off ∧ off < 0x12C then some (nth 0 m.egressRes ((off - 0x118) / 4))
    else if 0x12C ≤ off ∧ off < 0x14C then some (nth 0 m.tileRes ((off - 0x12C) / 4))
    else if off = 0x16C then some m.map
    else if 0x200 ≤ off ∧ off < 0x400 ∧ off % 16 ≠ 12 then
      let v := Tab.get (15 * 2 ^ 33) m.regs ((off - 0x200) / 16)
      some (if off % 16 = 0 then bitsOf v 17 0 else if off % 16 = 4 then bitsOf v 32 18
        else 2 ^ 31 * bitsOf v 37 37 + bitsOf v 36 33)
    else none
  else none

/-- ADM_COMMIT: the staged values are checked and come into force, or are refused (R515, R516). -/
def execAdmCommit (a : Acc) (s : State) : Host.Outcome State Fault Refusal :=
  .next (s.mgrAccess (.admCommit a) a pDramadm 0x100 State.admCommit)

/-- A write of a DRAMADM register: REF_ENV keeps MIN at most MAX, and REF_AHEAD is the loop's output while the loop
runs (R516, R520 to R522). -/
def State.admWrite (s : State) (off w : Nat) : State :=
  if off = 0x100 then
    let s1 := s.writeFields pDramadm (s.fieldsOf pDramadm off) w
    if bitAt w 0 then s1.admCommit else s1
  else if off = 0x15C then
    if s.on pDramadm DRAMADM.ADM_ADAPT_ADAPT_EN then s.writeIgnored pDramadm
    else s.setFld pDramadm DRAMADM.REF_AHEAD_AHEAD (clampNat (s.fld pDramadm DRAMADM.REF_ENV_MIN)
      (s.fld pDramadm DRAMADM.REF_ENV_MAX) (bitsOf w 3 0))
  else if off = 0x160 then
    let hi := min 8 (bitsOf w 11 8)
    let lo := min hi (bitsOf w 3 0)
    let s1 := (s.setFld pDramadm DRAMADM.REF_ENV_MAX hi).setFld pDramadm DRAMADM.REF_ENV_MIN lo
    let s2 := if bitsOf w 11 8 = hi ∧ bitsOf w 3 0 = lo then s1 else s1.clampBit pDramadm 1
    s2.setFld pDramadm DRAMADM.REF_AHEAD_AHEAD (clampNat lo hi (s.fld pDramadm DRAMADM.REF_AHEAD_AHEAD))
  else s.writeFields pDramadm (s.fieldsOf pDramadm off) w

end Sys2Proof.Machine
end

