-- ==== Sys2Proof/Machine/Noc.lean ====
section
/-!
DEFINITION. The on-chip network (Chapter 11): routing, credits, arbitration, discards, response slots and the timed
class.
-/

namespace Sys2Proof.Machine

/-! ### The mesh (R419, R420, R426, R450) -/

/-- The node ID of a router. -/
def nodeOf (r : Nat) : Nat := r / 6 * 8 + r % 6

/-- The router of a node ID, if it lies in the mesh. -/
def routerOf (node : Nat) : Option Nat := if node % 8 < 6 ∧ node / 8 < 5 then some (node / 8 * 6 + node % 8) else none

/-- The router beyond a port. -/
def neighbour (r p : Nat) : Option Nat :=
  match p with
  | 0 => if 6 ≤ r then some (r - 6) else none
  | 1 => if r % 6 < 5 then some (r + 1) else none
  | 2 => if r < 24 then some (r + 6) else none
  | 3 => if 0 < r % 6 then some (r - 1) else none
  | _ => none

/-- The port at the other end of a link. -/
def oppositePort (p : Nat) : Nat := (p + 2) % 4

/-- The port is present (Table 11.1). -/
def portPresent (r p : Nat) : Bool := p == 4 || (neighbour r p).isSome

/-- Dimension order: columns first, then rows, then L (R426). -/
def routePort (r dst : Nat) : Nat :=
  if r % 6 < dst % 8 then 1
  else if dst % 8 < r % 6 then 3
  else if r / 6 < dst / 8 then 2
  else if dst / 8 < r / 6 then 0
  else 4

/-- The agents of a node (Table 11.2). -/
def agentsAt (r : Nat) : Nat :=
  match r with
  | 1 => 2
  | 2 => 2
  | 3 => 3
  | 4 => 5
  | 5 => 4
  | 11 => 4
  | 29 => 2
  | _ => 1

/-- The unit at a node and its first instance (Tables 1.2, 11.19). -/
def nodeUnit (r : Nat) : Nat × Nat :=
  nth (0, 0) [(0x01, 0), (0x10, 0), (0x10, 2), (0x20, 0), (0x21, 0), (0x30, 0), (0x40, 0), (0x40, 1), (0x40, 2), (0x40, 3),
    (0x40, 4), (0x30, 2), (0x40, 5), (0x40, 6), (0x50, 0), (0x50, 1), (0x40, 7), (0x58, 0), (0x40, 8), (0x40, 9),
    (0x40, 10), (0x40, 11), (0x40, 12), (0x60, 0), (0x01, 1), (0x40, 13), (0x40, 14), (0x40, 15), (0x70, 0), (0x78, 0)] r

/-- The response slots of an agent (Table 11.10). -/
def agentSlots (r agent : Nat) : Nat :=
  match (nodeUnit r).1 with
  | 0x60 => 128
  | 0x40 => 64
  | 0x50 => 32
  | 0x58 => 64
  | 0x30 => if agent < 2 then 32 else 0
  | 0x70 => 16
  | 0x10 => 8
  | 0x78 => if agent = 0 then 8 else 0
  | 0x20 => if agent = 0 then 4 else 0
  | 0x21 => if agent = 0 then 4 else 0
  | _ => 0

/-- The key of an agent. -/
def agentKey (r agent : Nat) : Nat := 8 * r + agent

/-- The key of a channel of a port. -/
def chan (r p vc : Nat) : Nat := (8 * r + p) * 8 + vc

/-- The physical tile of a logical tile: the (t + 1)-th present one (R158). -/
def State.physTile (s : State) (t : Nat) : Nat := nth 0 (maskBits 64 s.si.tileMap) t

/-- The NoC node of a logical tile's quad (Table 1.2). -/
def State.tileNode (s : State) (t : Nat) : Nat :=
  nth 8 [8, 9, 10, 11, 12, 16, 17, 20, 24, 25, 26, 27, 28, 33, 34, 35] (s.physTile t / 4)

/-- The node that serves a register page (Table 5.2). -/
def pageNode (s : State) (p : Nat) : Nat :=
  if 0x040 ≤ p ∧ p < 0x05E then nodeOf (p - 0x040)
  else if 0x070 ≤ p ∧ p < 0x075 then 3
  else if 0x078 ≤ p ∧ p < 0x07C then 1 + (p - 0x078) / 2
  else if 0x090 ≤ p ∧ p < 0x09D then 4
  else if 0x100 ≤ p ∧ p < 0x140 then s.tileNode (p - 0x100)
  else if p = 0x150 ∨ p = 0x152 then 0
  else if p = 0x151 then 32
  else if p = 0x160 then 18
  else if 0x161 ≤ p ∧ p < 0x169 then 19
  else if 0x170 ≤ p ∧ p < 0x17C then 21
  else if p = 0x183 ∨ p = 0x184 then 13
  else if 0x180 ≤ p ∧ p < 0x187 then 5
  else if p = 0x1A0 then 36
  else if 0x1B0 ≤ p ∧ p < 0x1B9 then 29
  else 37

/-! ### Headers (Tables 11.3, 11.5, 11.6) -/

/-- The virtual channel of a message class and service class. -/
def vcOf (mc sc : Nat) : Nat := 2 * mc + sc

/-- The channels in order of arbitration rank. -/
def rankOrder : List Nat := [5, 3, 1, 2, 4, 0]

/-- A word of a flit. -/
def Flit.word (f : Flit) (i : Nat) : Nat := nth 0 f.words i

/-- W0.DST. -/
def Flit.dst (f : Flit) : Nat := bitsOf (f.word 0) 63 58

/-- The opcode belongs to its message class (Table 11.6). -/
def opLegal (mc op : Nat) : Bool :=
  match mc with
  | 0 => decide (1 ≤ op ∧ op ≤ 6)
  | 1 => decide (8 ≤ op ∧ op ≤ 10)
  | 2 => decide (12 ≤ op)
  | _ => false

/-- A header that no router accepts (Table 11.13). -/
def badHeader (w0 : Nat) : Bool :=
  let mc := bitsOf w0 51 50
  let len := bitsOf w0 48 44
  mc == 3 || decide (16 < len) || !opLegal mc (bitsOf w0 43 40) || (routerOf (bitsOf w0 63 58)).isNone
    || (mc == 2 && bitAt w0 49 && decide (2 < len))

/-! ### Counters and captures -/

/-- A counter of the NOC pages grows unless CNT_CTRL.FREEZE holds it. -/
def State.nocBump (s : State) (p : Nat) (f : Fld) (n : Nat := 1) : State :=
  if s.on pNoc NOC.CNT_CTRL_FREEZE then s else s.bump p f n

/-- A router error: its event, ROUTER_ERR, and the first capture (Tables 11.13, 11.16). -/
def State.routerErr (s : State) (r p vc : Nat) (e : Ev) (hdr : List Nat) : State :=
  let pg := pNocr r
  let s1 := (s.raise pg e).raise pNoc NOC.evROUTER_ERR
  if s1.on pg NOCR.ERR_INFO_VALID then s1
  else
    let s2 := (((s1.setFld pg NOCR.ERR_INFO_VALID 1).setFld pg NOCR.ERR_INFO_INPORT p).setFld pg NOCR.ERR_INFO_VC
      vc).setFld pg NOCR.ERR_INFO_CODE e.code
    let w0 := nth 0 hdr 0
    let w1 := nth 0 hdr 1
    (((s2.setFld pg (NOCR.ERR_HDR_HDR.at 0) (w0 % 2 ^ 32)).setFld pg (NOCR.ERR_HDR_HDR.at 1) (w0 / 2 ^ 32)).setFld pg
      (NOCR.ERR_HDR_HDR.at 2) (w1 % 2 ^ 32)).setFld pg (NOCR.ERR_HDR_HDR.at 3) (w1 / 2 ^ 32)

/-- A list kept under a key. -/
def flitsAt (t : List (Nat × List Flit)) (k : Nat) : List Flit := Tab.get [] t k

/-- The input buffer of a channel. -/
def State.nbuf (s : State) (r p vc : Nat) : List Flit := flitsAt s.noc.buf (chan r p vc)

/-- Writes the input buffer of a channel. -/
def State.setBuf (s : State) (r p vc : Nat) (l : List Flit) : State :=
  { s with noc := { s.noc with buf := Tab.set [] s.noc.buf (chan r p vc) l } }

/-- The credits of an output channel (R427). -/
def State.nocCredit (s : State) (r o vc : Nat) : Nat :=
  if o = 5 then Tab.get 4 s.noc.niCredit (chan r 5 vc) else s.fld (pNocr r) ((NOCR.CREDITS_VC.at o).at vc)

/-- Writes the credits of an output channel. -/
def State.setCredit (s : State) (r o vc n : Nat) : State :=
  if o = 5 then { s with noc := { s.noc with niCredit := Tab.set 4 s.noc.niCredit (chan r 5 vc) n } }
  else s.setFld (pNocr r) ((NOCR.CREDITS_VC.at o).at vc) n

/-- The credits of an output channel inside the reverse crossing, by the beat on which each can be read out. -/
def State.creditsOut (s : State) (k : Nat) : List Nat := Tab.get [] s.noc.flying k

/-- A credit for an output channel enters the reverse crossing, to be read out `lat` beats from now. -/
def State.flyCredit (s : State) (r o vc lat : Nat) : State :=
  let k := chan r o vc
  { s with noc := { s.noc with flying := Tab.set [] s.noc.flying k (s.creditsOut k ++ [s.tb.beat + lat]) } }

/-- The agent lies in a crossing island (Table 11.2). -/
def farAgent (r agent : Nat) : Bool :=
  match r with
  | 3 => decide (1 ≤ agent)
  | 4 => decide (1 ≤ agent)
  | 5 => decide (2 ≤ agent)
  | 11 => decide (2 ≤ agent)
  | 29 => decide (1 ≤ agent)
  | _ => false

/-- The beats between an agent and its router's L port (Table 11.9). -/
def agentLat (r agent : Nat) : Nat := if farAgent r agent then 4 else 1

/-- A flit leaves the buffer of an input channel: its credit goes back to the output that feeds it, whose credit loop is
10 beats (R427, R428). -/
def State.creditBack (s : State) (r p vc : Nat) : State :=
  let s := { s with noc := { s.noc with moved := Tab.set 0 s.noc.moved (chan r p vc) s.tb.beat } }
  if p = 4 then s.flyCredit r 5 vc (10 - agentLat r (bitsOf (nth 0 (Tab.get [] s.noc.hdr (chan r 4 vc)) 1) 63 61))
  else
    match neighbour r p with
    | some j => s.flyCredit j (oppositePort p) vc 4
    | none => s

/-- Marks whether the packet at an input channel is being discarded. -/
def State.setDiscard (s : State) (k : Nat) (on : Bool) : State :=
  let l := s.noc.discard.filter (fun x => x != k)
  { s with noc := { s.noc with discard := if on then l ++ [k] else l } }

/-- A flit arrives at an input channel, possibly with a parity error or with a disagreement of its sideband copies
(R425, R445). -/
def State.arrive (s : State) (r p vc : Nat) (f : Flit) (parity sideband : Bool) : State :=
  let k := chan r p vc
  let pg := pNocr r
  let s0 := if sideband then s.nocBump pg NOCR.ERRCNT_SB_CORRECTED else s
  let head := decide (f.typ ≤ 1)
  let hdr := if head then f.words else Tab.get [] s.noc.hdr k
  if s0.noc.discard.contains k ∧ head = false then (s0.setDiscard k (f.typ != 3)).creditBack r p vc
  else if head && parity then
    (((s0.routerErr r p vc NOCR.evHDR_PARITY hdr).nocBump pg NOCR.ERRCNT_HDR_PARITY).setDiscard k (f.typ == 1)).creditBack
      r p vc
  else if head && badHeader (f.word 0) then
    ((s0.routerErr r p vc NOCR.evBAD_HEADER hdr).setDiscard k (f.typ == 1)).creditBack r p vc
  else if 4 ≤ (s0.nbuf r p vc).length then
    ((s0.routerErr r p vc NOCR.evCREDIT_ERR hdr).nocBump pg NOCR.ERRCNT_CREDIT_ERR).setDiscard k
      (f.typ == 1 || f.typ == 2)
  else
    let s1 := if parity then (s0.routerErr r p vc NOCR.evDATA_PARITY hdr).nocBump pg NOCR.ERRCNT_DATA_PARITY else s0
    let s2 := { s1.setBuf r p vc (s1.nbuf r p vc ++ [{ f with poison := f.poison || parity }]) with
      noc.moved := if (s1.nbuf r p vc).isEmpty then Tab.set 0 s1.noc.moved k s1.tb.beat else s1.noc.moved }
    let s3 := if head then { s2 with noc := { s2.noc with hdr := Tab.set [] s2.noc.hdr k f.words } } else s2
    let hw := (NOCR.HWM_VC.at p).at vc
    if s3.on pNoc NOC.CNT_CTRL_FREEZE then s3 else s3.setFld pg hw (max (s3.fld pg hw) (s3.nbuf r p vc).length)

/-! ### Arbitration (R429, R430) -/

/-- What stands at the head of an input of an output: a router's input buffer, or an agent's injection queue for the
node interface. -/
def State.inputHead (s : State) (r o vc p : Nat) : Option Flit :=
  (if o = 5 then flitsAt s.noc.inject (8 * agentKey r p + vc) else s.nbuf r p vc).head?

/-- The inputs of an output. -/
def inputsOf (o : Nat) : Nat := if o = 5 then 8 else 5

/-- The candidate input of an output channel (R430). -/
def State.candidate (s : State) (r o vc : Nat) : Option Nat :=
  let k := chan r o vc
  let held := Tab.get 0 s.noc.hold k
  if held ≠ 0 then (if (s.inputHead r o vc (held - 1)).isSome then some (held - 1) else none)
  else
    let n := inputsOf o
    let first := Tab.get 0 s.noc.rr k
    ((List.range n).map (fun i => (first + i) % n)).find? (fun p =>
      match s.inputHead r o vc p with
      | some f => decide (f.typ ≤ 1) && (o == 5 || routePort r f.dst == o)
      | none => false)

/-- Takes the flit at the head of an input. -/
def State.takeInput (s : State) (r o vc p : Nat) : State :=
  if o = 5 then
    let k := 8 * agentKey r p + vc
    { s with noc := { s.noc with inject := Tab.set [] s.noc.inject k ((flitsAt s.noc.inject k).drop 1) } }
  else
    let k := chan r p vc
    let s1 := (s.setBuf r p vc ((s.nbuf r p vc).drop 1)).creditBack r p vc
    { s1 with noc := { s1.noc with stalled := s1.noc.stalled.filter (fun x => x != k) } }

/-- A flit enters a crossing. -/
def State.cross (s : State) (c : Cross) : State := { s with noc := { s.noc with cross := s.noc.cross ++ [c] } }

/-- Grants one flit of a channel from an input: it crosses to the next router, to the L input or to its agent with the
latencies of Table 11.9 (R429, R430, R432). -/
def State.grant (s : State) (r o vc p : Nat) (f : Flit) (parity sideband : Bool) : State :=
  let k := chan r o vc
  let s1 := s.takeInput r o vc p
  let n := s1.noc
  let s2 := { s1 with noc := { n with
    hold := Tab.set 0 n.hold k (if f.typ = 0 ∨ f.typ = 3 then 0 else p + 1)
    rr := if f.typ ≤ 1 then Tab.set 0 n.rr k ((p + 1) % inputsOf o) else n.rr } }
  let s3 := s2.setCredit r o vc (s2.nocCredit r o vc - 1)
  let b := s.tb.beat
  if o = 5 then s3.cross ⟨b + agentLat r p, r, 4, p, vc, f, parity, sideband⟩
  else
    let s4 := s3.nocBump (pNocr r) (NOCR.FLITS_COUNT.at o)
    let h := if f.typ ≤ 1 then f.words else Tab.get [] s.noc.hdr (chan r p vc)
    let ag := bitsOf (nth 0 h 1) 60 58
    if o = 4 then s4.cross ⟨b + 2 + agentLat r ag, r, 5, ag, vc, f, false, false⟩
    else
      match neighbour r o with
      | some j => s4.cross ⟨b + 6, j, oppositePort o, 0, vc, f, parity, sideband⟩
      | none => s4

/-- Routers and node interfaces move flits: a dawn has completed and none is running (R448, Table 11.12). -/
def State.nocMoves (s : State) : Bool := s.tb.dawned && s.tb.dawn == 0

/-- FLIT_FORWARD: one beat of a router output (R430): the channel of highest rank that has a candidate and a credit
sends one flit; an output decides once a beat. `parity` and `sideband`: the flit arrives with a parity error, or its
sideband copies disagree. -/
def execFlitForward (r : Fin 30) (out : Fin 6) (parity sideband : Bool) (s : State) : Host.Outcome State Fault Refusal :=
  let d := 8 * r.val + out.val
  if !s.nocMoves || !(out.val == 5 || portPresent r out) || Tab.get 0 s.noc.decided d == s.tb.beat + 1 then .next s
  else
    let s := { s with noc := { s.noc with decided := Tab.set 0 s.noc.decided d (s.tb.beat + 1) } }
    let cs := rankOrder.filterMap (fun vc => (s.candidate r out vc).map (fun p => (vc, p)))
    let ok := cs.filter (fun c => decide (0 < s.nocCredit r out c.1))
    let s1 := if out.val < 5 ∧ ok.length < cs.length then s.nocBump (pNocr r) (NOCR.BLOCK_COUNT.at out) else s
    let s2 := if out.val < 5 ∧ 1 < ok.length then s1.nocBump (pNocr r) (NOCR.LOSE_COUNT.at out) else s1
    match ok with
    | [] => .next s2
    | (vc, p) :: _ =>
      match s.inputHead r out vc p with
      | some f => .next (s2.grant r out vc p f parity sideband)
      | none => .next s2

/-- CREDIT_RETURN: a credit whose beat has come is read out of the reverse crossing and becomes usable; one that would take
the count above 4 is an error (R427, R428, R445). `upset`: a credit that no flit gave back appears. -/
def execCreditReturn : Fin 30 → Fin 6 → CreditIn → State → Host.Outcome State Fault Refusal
  | r, out, ⟨vc, upset⟩, s =>
  let k := chan r out vc
  let n := s.nocCredit r out vc
  let l := s.creditsOut k
  let here := l.any (fun b => decide (b ≤ s.tb.beat))
  let rest := match takeFirst (fun b => decide (b ≤ s.tb.beat)) l with
    | some (_, t) => t
    | none => l
  let s1 := if upset then s else { s with noc := { s.noc with flying := Tab.set [] s.noc.flying k rest } }
  if upset = false ∧ here = false then .next s
  else if 4 ≤ n then
    .next ((s1.routerErr r (if out.val = 5 then 4 else out.val) vc NOCR.evCREDIT_ERR []).nocBump (pNocr r)
      NOCR.ERRCNT_CREDIT_ERR)
  else .next (s1.setCredit r out vc (n + 1))

/-- VC_STALL: an input channel holds a flit that has made no progress for STALL_LIMIT beats; reported once (R445). -/
def execVcStall (r : Fin 30) (port : Fin 5) (vc : Fin 6) (s : State) : Host.Outcome State Fault Refusal :=
  let k := chan r port vc
  if (s.nbuf r port vc).isEmpty ∨ s.noc.stalled.contains k
      ∨ s.tb.beat < Tab.get 0 s.noc.moved k + s.fld pNoc NOC.STALL_LIMIT_BEATS then .next s
  else
    let s1 := (s.routerErr r port vc NOCR.evVC_STALL (Tab.get [] s.noc.hdr k)).setFld (pNocr r) NOCR.STALL_INPORT port
    let s2 := s1.setFld (pNocr r) NOCR.STALL_VC vc
    .next { s2 with noc := { s2.noc with stalled := s2.noc.stalled ++ [k] } }

/-! ### Injection and the timed class (R435, R437) -/

/-- An agent's tokens. -/
def State.tokens (s : State) (ak : Nat) : Int := Tab.get 8 s.noc.tokens ak

/-- Writes an agent's tokens. -/
def State.setTokens (s : State) (ak : Nat) (n : Int) : State :=
  { s with noc := { s.noc with tokens := Tab.set 8 s.noc.tokens ak n } }

/-- INJ_SID of a packet's header is the count on the beat of its injection (Table 11.5). -/
def State.stampSid (s : State) (fs : List Flit) : List Flit :=
  match fs with
  | [] => []
  | h :: ds => { h with words := (h.word 0 / 2 ^ 16 * 2 ^ 16 + s.tb.count % 2 ^ 16) :: h.words.drop 1 } :: ds

/-- A packet joins its agent's injection queue: it is injected. -/
def State.enqueue (s : State) (ak vc : Nat) (fs : List Flit) : State :=
  let k := 8 * ak + vc
  { s with noc := { s.noc with inject := Tab.set [] s.noc.inject k (flitsAt s.noc.inject k ++ s.stampSid fs) } }

/-- The waiting timed packet of an agent that is paid for next: the highest rank, then the first offered. -/
def State.nextOffer (s : State) (ak : Nat) : Option Offer :=
  let l := s.noc.waiting.filter (fun o => o.agent == ak)
  ([5, 3, 1].filterMap (fun vc => l.find? (fun o => o.vc == vc))).head?

/-- Pays for waiting timed packets of an agent while its tokens suffice (R437). -/
def State.payOffers (s : State) (ak : Nat) : Nat → State
  | 0 => s
  | n + 1 =>
    match s.nextOffer ak with
    | none => s
    | some o =>
      let f : Int := o.flits.length
      if s.tokens ak < min f (s.fld pNoc NOC.TIMED_REG_BURST : Nat) then s
      else
        let rest := match takeFirst (fun x : Offer => x == o) s.noc.waiting with
          | some (_, r) => r
          | none => s.noc.waiting
        let s1 := ({ s with noc := { s.noc with waiting := rest } }).nocBump pNoc NOC.THROTTLE_BEATS (s.tb.beat - o.since)
        let full := decide ((s.fld pNoc NOC.TIMED_REG_BURST : Nat) ≤ s.tokens ak)
        let s2 := if full then { s1 with noc := { s1.noc with gapFrom := Tab.set 0 s1.noc.gapFrom ak s.tb.beat } } else s1
        ((s2.setTokens ak (s2.tokens ak - f)).enqueue ak o.vc o.flits).payOffers ak n

/-- A packet that no agent offers: a timed event of more than 2 data flits (R438), a timed push of more than 7 (R462). -/
def neverOffered (vc : Nat) (fs : List Flit) : Bool :=
  match fs with
  | [] => true
  | h :: ds =>
    (vc == 5 && decide (2 < ds.length)) || (vc == 1 && [4, 5].contains (bitsOf (h.word 0) 43 40) && decide (7 < ds.length))

/-- An agent offers a packet: bulk joins its queue at once, timed waits for tokens (R437, R438, R462), and in a dawn for its
end (R448). -/
def State.offer (s : State) (ak vc : Nat) (fs : List Flit) : State :=
  if neverOffered vc fs then s
  else if vc % 2 = 0 then s.enqueue ak vc fs
  else
    let o : Offer := ⟨ak, s.tb.beat, vc, fs⟩
    let s1 := { s with noc := { s.noc with waiting := s.noc.waiting ++ [o] } }
    if s.nocMoves then s1.payOffers ak s1.noc.waiting.length else s1

/-- The four words of a flit of 256 bits. -/
def flitWords (v : Nat) : List Nat := (List.range 4).map (fun i => v / 2 ^ (64 * i) % 2 ^ 64)

/-- The flits of a packet: a header and its data flits (R423 to R425). -/
def packetFlits (hdr : List Nat) (data : List (List Nat)) (fab : Bool := false) : List Flit :=
  match data.reverse with
  | [] => [⟨0, false, hdr, fab, 0⟩]
  | l :: r => ⟨1, false, hdr, fab, 0⟩ :: r.reverse.map (fun d => ⟨2, false, d, false, 0⟩) ++ [⟨3, false, l, false, 0⟩]

/-- The data flits of a packet's words after its header. -/
def dataFlits : Nat → List Nat → List (List Nat)
  | 0, _ => []
  | n + 1, ws => ws.take 4 :: dataFlits n (ws.drop 4)

/-- The header word W0 that the node interface sends: SRC, LEN, INJ_SID filled in, the reserved bit 0. -/
def State.sendW0 (s : State) (r w0 len : Nat) : Nat :=
  bitsOf w0 63 58 * 2 ^ 58 + nodeOf r * 2 ^ 52 + bitsOf w0 51 49 * 2 ^ 49 + len % 32 * 2 ^ 44 + bitsOf w0 43 33 * 2 ^ 33
    + bitsOf w0 31 16 * 2 ^ 16 + s.tb.count % 2 ^ 16

/-- TOKEN_GAIN: an agent's counter below BURST gains a token every GAP beats, and waiting packets are paid for (R437). -/
def execTokenGain (r : Fin 30) (agent : Fin 8) (s : State) : Host.Outcome State Fault Refusal :=
  let ak := agentKey r agent
  let next := Tab.get 0 s.noc.gapFrom ak + s.fld pNoc NOC.TIMED_REG_GAP
  let due := decide (s.tokens ak < (s.fld pNoc NOC.TIMED_REG_BURST : Nat)) && decide (next ≤ s.tb.beat)
  let s1 := if due then
      ({ s with noc := { s.noc with gapFrom := Tab.set 0 s.noc.gapFrom ak next } } : State).setTokens ak (s.tokens ak + 1)
    else s
  .next (if s1.nocMoves then s1.payOffers ak s1.noc.waiting.length else s1)

/-- Every agent of the network. -/
def allAgents : List Nat := (List.range 30).flatMap (fun r => (List.range (agentsAt r)).map (agentKey r))

/-- GAP counts anew for every agent. -/
def State.gapAnew (s : State) : State :=
  { s with noc := { s.noc with gapFrom := allAgents.foldl (fun t ak => Tab.set 0 t ak s.tb.beat) s.noc.gapFrom } }

/-- A write of TIMED_REG: counters above the new BURST are cut to it, and GAP counts from the write (R437, R443). -/
def State.timedRegWrite (s : State) (w : Nat) : State :=
  if s.isLocked pNoc then s.writeFields pNoc [NOC.TIMED_REG_BURST.clamped 1 8 0, NOC.TIMED_REG_GAP.clamped 16 0xFFFF 0] w
  else
    let s1 := s.writeFields pNoc [NOC.TIMED_REG_BURST.clamped 1 8 0, NOC.TIMED_REG_GAP.clamped 16 0xFFFF 0] w
    let b : Int := s1.fld pNoc NOC.TIMED_REG_BURST
    (allAgents.foldl (fun t ak => if b < t.tokens ak then t.setTokens ak b else t) s1).gapAnew

/-- TIMED_REG_WRITE. -/
def execTimedRegWrite (a : Acc) (w : Word) (s : State) : Host.Outcome State Fault Refusal :=
  .next (s.mgrAccess (.timedRegWrite a w) a pNoc 0x104 (fun t => t.timedRegWrite w.toNat))

/-- The release of a dawn: round-robin pointers to 0, token counters full (R430, R449). -/
def State.nocDawn (s : State) : State :=
  let b : Int := s.fld pNoc NOC.TIMED_REG_BURST
  let s1 := { s with noc := { s.noc with rr := [] } }
  (allAgents.foldl (fun t ak => t.setTokens ak b) s1).gapAnew

/-! ### Ejection and response slots (R435, R441, R446, R447) -/

/-- The first whole packet that a node interface has received on a channel, and what follows it. -/
def wholePacket : List Flit → Option (List Flit × List Flit)
  | [] => none
  | f :: r =>
    if f.typ = 0 ∨ f.typ = 3 then some ([f], r)
    else
      match wholePacket r with
      | some (p, q) => some (f :: p, q)
      | none => none

/-- Takes the first whole packet of a channel for an agent from its node interface. -/
def State.takeFor (s : State) (ak vc : Nat) : Option (List Flit × State) :=
  match wholePacket (flitsAt s.noc.eject (8 * ak + vc)) with
  | none => none
  | some (p, q) => some (p, { s with noc := { s.noc with eject := Tab.set [] s.noc.eject (8 * ak + vc) q } })

/-- Takes the first whole packet of a channel from a node interface, of the lowest agent that has one. -/
def State.takePacket (s : State) (r vc : Nat) : Option (List Flit × State) :=
  (List.range 8).findSome? (fun ag => s.takeFor (agentKey r ag) vc)

/-- The words of a packet's data: INLINE of a single flit, or the words of its data flits. -/
def packetData (p : List Flit) : List Nat :=
  match p with
  | [] => []
  | [h] => [h.word 2]
  | _ :: ds => ds.flatMap Flit.words

/-- The answer of a response slot goes to the matrix request that reserved it (Table 5.4); where that has timed out it is
discarded and counted (R193). -/
def State.mxAnswer (s : State) (k : Nat) : State :=
  match s.resp with
  | some r =>
    if s.mx.issued.any (fun q => q.slot == some k) then
      { s with mx := { s.mx with answers := Tab.insert s.mx.answers k r } }
    else if s.mx.late.any (fun q => q.slot == some k) then
      (({ s with mx := { s.mx with late := s.mx.late.filter (fun q => q.slot != some k) } } : State).bump pMatrix
        MATRIX.LATE_RSP_COUNT_COUNT).raise pMatrix MATRIX.evLATE_RSP
    else s
  | none => s

/-- A slot has been unanswered for 2^RSP_TMO.EXP beats (R445). -/
def State.slotExpired (s : State) (x : RspSlot) : Bool :=
  !x.quarantined && decide (x.at_ + 2 ^ s.fld pNoc NOC.RSP_TMO_EXP ≤ s.tb.beat)

/-- An unanswered slot completes with TIMEOUT and zero data, and is quarantined (R445). -/
def State.rspTimeout (s : State) (r agent tag : Nat) : State :=
  let k := 256 * agentKey r agent + tag
  match Tab.lookup s.noc.slots k with
  | some x =>
    if !s.slotExpired x then s
    else
      let s0 : State := { s with
        noc := { s.noc with slots := Tab.insert s.noc.slots k { x with quarantined := true } }
        resp := some ⟨.timeout, [0]⟩ }
      let s1 := s0.mxAnswer k
      let s2 := (s1.raiseBy pNoc NOC.evRSP_TIMEOUT x.hh).nocBump pNoc NOC.RSP_TMO_COUNT_COUNT
      if s2.on pNoc NOC.RSP_TMO_INFO_VALID then s2
      else
        (((s2.setFld pNoc NOC.RSP_TMO_INFO_VALID 1).setFld pNoc NOC.RSP_TMO_INFO_DST x.dst).setFld pNoc
          NOC.RSP_TMO_INFO_REQ (nodeOf r)).setFld pNoc NOC.RSP_TMO_INFO_AGENT agent |>.setFld pNoc NOC.RSP_TMO_INFO_TAG tag
  | none => s

/-- RSP_TIMEOUT (R445). -/
def execRspTimeout (r : Fin 30) (agent : Fin 8) (tag : Fin 256) (s : State) : Host.Outcome State Fault Refusal :=
  .next (s.rspTimeout r agent tag)

/-- A response reaches its requester (R435, R446, R447): its slot completes; a quarantined slot is freed and the
response counted as late, also where the slot's time has come on this beat (Table 11.12); any other response is an
orphan. -/
def State.response (s0 : State) (r : Nat) (p : List Flit) : State :=
  match p with
  | [] => s0
  | h :: ds =>
    let w0 := h.word 0
    let agent := bitsOf (h.word 1) 60 58
    let tag := bitsOf w0 31 24
    let s := s0.rspTimeout r agent tag
    let k := 256 * agentKey r agent + tag
    let free := { s with noc := { s.noc with slots := Tab.erase s.noc.slots k } }
    match Tab.lookup s.noc.slots k with
    | some ⟨_, true, _, _⟩ => free.nocBump pNoc NOC.RSP_TMO_LATE
    | some ⟨_, false, _, _⟩ =>
      let bad := ds.any Flit.poison
      let queue := (nodeUnit r).1 == 0x50
      let data := ds.flatMap (fun d => if d.poison && !queue then [0, 0, 0, 0] else d.words)
      let st : RespStatus := if bad then .poisoned else match bitsOf w0 23 16 with
        | 0 => .ok
        | 1 => .denied
        | 2 => .decode
        | 3 => .poisoned
        | _ => .timeout
      let s0 : State := { free with resp := some ⟨st, if ds.isEmpty then [h.word 2] else data⟩ }
      let s1 := s0.mxAnswer k
      if bad then (s1.raise pNoc NOC.evPOISON_RSP).nocBump pNoc NOC.POISON_RSP_COUNT_COUNT else s1
    | none =>
      let s1 := (s.raiseBy pNoc NOC.evORPHAN_RSP (bitsOf w0 39 36)).nocBump pNoc NOC.ORPHAN_COUNT_COUNT
      if s1.on pNoc NOC.ORPHAN_INFO_VALID then s1
      else
        (((s1.setFld pNoc NOC.ORPHAN_INFO_VALID 1).setFld pNoc NOC.ORPHAN_INFO_SRC (bitsOf w0 57 52)).setFld pNoc
          NOC.ORPHAN_INFO_DST (bitsOf w0 63 58)).setFld pNoc NOC.ORPHAN_INFO_TAG tag

/-- The latency check of a timed event on its last flit (R441). -/
def State.eventLatency (s : State) (w0 : Nat) : State :=
  let lat := (s.tb.count + 2 ^ 16 - w0 % 2 ^ 16) % 2 ^ 16
  let s1 := if s.on pNoc NOC.CNT_CTRL_FREEZE then s
    else s.setFld pNoc NOC.EVT_LAT_MAX_BEATS (max (s.fld pNoc NOC.EVT_LAT_MAX_BEATS) lat)
  if 196 < lat then (s1.nocBump pNoc NOC.EVT_LATE_COUNT_COUNT).raise pNoc NOC.evEVT_LATE else s1

/-! ### The NOC pages (R443, R452, R453) -/

/-- Clears every read-to-clear field of the pages from `lo` to `hi` whose fields are `t`. -/
def State.clearRc (s : State) (lo hi : Nat) (t : List Fld) : State :=
  { s with regs := Tab.keep (fun k =>
      let bit := k % 32768
      !(decide (lo ≤ k / 32768) && decide (k / 32768 ≤ hi)
        && t.any (fun f => f.kind == .rc && (fieldBits f.bit (bit / 32) f.rep).contains bit))) s.regs }

/-- CLEAR_ALL (Table 11.18). -/
def State.cntClearAll (s : State) : State := (s.clearRc (pNocr 0) (pNocr 29) NOCR.table).clearRc pNoc pNoc NOC.table

/-- A served write of a NOC global register (Table 11.18, R443). -/
def State.nocWrite (s : State) (off w : Nat) : State :=
  if off = 0x104 then s.timedRegWrite w
  else if off = 0x108 then s.writeFields pNoc [NOC.RSP_TMO_EXP.clamped 12 24 1] w
  else if off = 0x10C then s.writeFields pNoc [NOC.STALL_LIMIT_BEATS.clamped 1024 0xFFFF 2] w
  else if off = 0x138 then
    let t := if bitAt w 1 then s.cntClearAll else s
    t.setFld pNoc NOC.CNT_CTRL_FREEZE (w % 2)
  else s.writeFields pNoc (s.fieldsOf pNoc off) w

/-- CNT_CLEAR_ALL: a write of CNT_CTRL.CLEAR_ALL with FREEZE as it is. -/
def execCntClearAll (a : Acc) (s : State) : Host.Outcome State Fault Refusal :=
  .next (s.mgrAccess (.cntClearAll a) a pNoc 0x138 (fun t => t.nocWrite 0x138 (2 + t.fld pNoc NOC.CNT_CTRL_FREEZE)))

/-- What live and fixed registers of a router page read (Table 11.16). -/
def State.nocrView (s : State) (r off : Nat) : Option Nat :=
  if off = 0x100 then
    some (nodeOf r * 2 ^ 16 + agentsAt r * 2 ^ 8
      + (List.range 5).foldl (fun v p => if portPresent r p then setBit v p else v) 0)
  else if 0x110 ≤ off ∧ off < 0x124 then
    let p := (off - 0x110) / 4
    some (if portPresent r p then (List.range 6).foldl (fun v vc => v + s.nocCredit r p vc * 2 ^ (4 * vc)) 0 else 0)
  else if 0x130 ≤ off ∧ off < 0x144 then
    let p := (off - 0x130) / 4
    some ((List.range 6).foldl (fun v vc => v + (s.nbuf r p vc).length * 2 ^ (4 * vc)) 0)
  else none

/-- What live and fixed registers of the NOC global page read (Tables 11.14, 11.18). -/
def State.nocView (s : State) (off : Nat) : Option Nat :=
  if off = 0x100 then some (196 * 2 ^ 16 + 9 * 2 ^ 8 + 6 * 2 ^ 4 + 5)
  else if off = 0x120 then some (s.noc.slots.filter (fun e => e.2.quarantined)).length
  else if off = 0x130 then
    some ((List.range 30).foldl (fun v r => if s.fld (pNocr r) HDR.EVT_PEND_PEND % 32 ≠ 0 then setBit v r else v) 0)
  else if 0x140 ≤ off ∧ off < 0x1E0 then
    match routerOf ((off - 0x140) / 4) with
    | some r => some ((nodeUnit r).2 * 2 ^ 8 + (nodeUnit r).1)
    | none => some 0
  else none

end Sys2Proof.Machine
end

