-- ==== Sys2Proof/Machine/LineUnit.lean ====
section
/-!
DEFINITION. The line unit (Chapter 6) but for image ingest: the axis channels, the ephemeris engine, the trigger and
strobe schedules and the output drivers.
-/

namespace Sys2Proof.Machine

/-! ### Axis channels (R202 to R212) -/

/-- The state of axis channel `k`. -/
def State.axis (s : State) (k : Nat) : AxisSt := Tab.get AxisSt.reset s.ln.axis k

/-- Writes the state of axis channel `k`. -/
def State.setAxis (s : State) (k : Nat) (x : AxisSt) : State :=
  { s with ln := { s.ln with axis := Tab.set AxisSt.reset s.ln.axis k x } }

/-- The count of a channel (R205). -/
def State.axisCount (s : State) (k : Nat) : Int :=
  sgn 64 (s.pair pAxis (AXIS.COUNT_LO_COUNT.at k) (AXIS.COUNT_HI_COUNT.at k))

/-- Writes the count of a channel, wrapping (R205). -/
def State.setAxisCount (s : State) (k : Nat) (v : Int) : State :=
  s.setPair pAxis (AXIS.COUNT_LO_COUNT.at k) (AXIS.COUNT_HI_COUNT.at k) (unsg 64 v)

/-- Some live wiring condition holds on the channel. -/
def AxisSt.fault (x : AxisSt) : Bool := x.openLive != 0 || x.revLive != 0 || x.swapLive

/-- Shows the live conditions: LIVE_FAULT of the channel, and the conditions of the page's events (R178, R210). -/
def State.showAxisLive (s : State) (k : Nat) : State :=
  let any := fun (f : AxisSt → Bool) => (List.range 6).any (fun i => f (s.axis i))
  let m := b2n (any (fun x => x.openLive != 0)) + 2 * b2n (any (fun x => x.revLive != 0)) + 4 * b2n (any AxisSt.swapLive)
  { s with live := Tab.set 0 s.live pAxis m }.setFld pAxis (AXIS.STATUS_LIVE_FAULT.at k) (b2n (s.axis k).fault)

/-- Sets a sticky status bit of a channel. -/
def State.axisSticky (s : State) (k bit : Nat) : State := s.orFld pAxis (AXIS.STATUS_STICKY.at k) (2 ^ bit)

/-- The fixed latency of an axis input (R201): by the Ak_MODE strap, plus FILT. -/
def State.axisLatency (s : State) (k : Nat) : Nat :=
  (if bitAt (s.fld pDevice DEVICE.STRAP_AMODE) k then 24 else 10) + s.fld pAxis (AXIS.CFG_FILT.at k)

/-- The stamp of an input accepted now (R118, R203). -/
def State.axisStamp (s : State) (k : Nat) : Nat := (s.tb.count + 2 ^ 64 - s.axisLatency k) % 2 ^ 64

/-- Enabling a channel: the accepted levels are the starting point, and the measures start at the present count
(R203, R209, R212). -/
def State.axisStart (s : State) (k : Nat) : State :=
  let c := s.axisCount k
  s.setAxis k { s.axis k with idxFrom := c, furthest := c, zHist := 0, zSeen := 0, wrongA := 0, wrongB := 0 }

/-- A write of an axis register; COUNT accepts writes only while EN = 0 (R205), and reserved modes leave MODE
unchanged (Table 6.3). -/
def State.axisWrite (s : State) (a : Acc) (off w : Nat) : State :=
  let k := (off - 0x200) / 0x40
  let r := (off - 0x200) % 0x40
  if off < 0x200 then s.plainWrite a pAxis off w
  else if (r = 0x10 ∨ r = 0x14) ∧ s.on pAxis (AXIS.CFG_EN.at k) then s
  else if r = 0 then
    let mode := if 5 ≤ bitsOf w 30 28 then s.fld pAxis (AXIS.CFG_MODE.at k) else bitsOf w 30 28
    let w' := w - bitsOf w 30 28 * 2 ^ 28 + mode * 2 ^ 28
    let s1 := s.plainWrite a pAxis off w'
    if !s.on pAxis (AXIS.CFG_EN.at k) && s1.on pAxis (AXIS.CFG_EN.at k) then s1.axisStart k else s1
  else s.plainWrite a pAxis off w

/-- AXIS_ENABLE (R203). -/
def execAxisEnable (a : Acc) (k : Fin 6) (w : Word) (s : State) : Out :=
  .next (s.access (.axisEnable a k w) a pAxis (0x200 + 0x40 * k.val) true
    (fun t => t.axisWrite a (0x200 + 0x40 * k.val) w.toNat))

/-- The idle-state check of Z over the latest 1,024 counting edges (R211). -/
def State.zCheck (s : State) (k : Nat) : State :=
  let x := s.axis k
  let h := (2 * x.zHist + b2n x.z) % 2 ^ 1024
  let n := min 1024 (x.zSeen + 1)
  let rev := decide (512 < popCount 1024 h)
  let s1 := s.setAxis k { x with zHist := h, zSeen := n, revLive := putBit x.revLive 2 rev }
  if rev && !bitAt x.revLive 2 then (s1.axisSticky k 5).raise pAxis AXIS.evPAIR_REVERSED else s1

/-- The direction check (R212). -/
def State.dirCheck (s : State) (k : Nat) : State :=
  let x := s.axis k
  let c := s.axisCount k
  let down := s.on pAxis (AXIS.CFG_EXPECT_DIR.at k)
  let f := if down then min x.furthest c else max x.furthest c
  let lim := s.fld pAxis (AXIS.TOL_DIR_CHECK.at k)
  let back := (f - c).natAbs
  let sw := decide (lim ≠ 0) && decide (lim ≤ back)
  let s1 := s.setAxis k { x with furthest := f, swapLive := sw }
  if sw && !x.swapLive then (s1.axisSticky k 6).raise pAxis AXIS.evAB_SWAPPED else s1

/-- The index-missing check (R209): CHECK and SNAP with EPR not 0. -/
def State.missingCheck (s : State) (k : Nat) : State :=
  let x := s.axis k
  let c := s.axisCount k
  let epr := s.fld pAxis (AXIS.EPR_EPR.at k)
  if s.fld pAxis (AXIS.CFG_INDEX_MODE.at k) = 0 ∨ epr = 0 ∨ 2 * (c - x.idxFrom).natAbs < 3 * epr then s
  else ((s.setAxis k { x with idxFrom := c }).axisSticky k 9).raise pAxis AXIS.evINDEX_MISSING

/-- A counting edge changes the count by `d` (R202, R204). -/
def State.axisCounted (s : State) (k : Nat) (d : Int) : State :=
  let inv := s.on pAxis (AXIS.CFG_INV_DIR.at k)
  let s1 := s.setAxisCount k (s.axisCount k + (if inv then -d else d))
  let s2 := s1.setPair pAxis (AXIS.EDGE_T_LO_STAMP.at k) (AXIS.EDGE_T_HI_STAMP.at k) (s.axisStamp k)
  (((s2.zCheck k).dirCheck k).missingCheck k).showAxisLive k

/-- Levels of A and B, after inversion, are accepted (R202 to R206). -/
def State.axisEdge (s : State) (k : Nat) (a b : Bool) : State :=
  let x := s.axis k
  let mode := s.fld pAxis (AXIS.CFG_MODE.at k)
  let d := edgeDelta mode x.a x.b a b
  let s1 := s.setAxis k { x with a := a, b := b }
  if !s.on pAxis (AXIS.CFG_EN.at k) then s1
  else if bothChanged mode x.a x.b a b then
    ((s1.bump pAxis (AXIS.ERRCNT_QUAD.at k)).axisSticky k 7).raise pAxis AXIS.evQUAD_ERR
  else if d = 0 then s1
  else s1.axisCounted k d

/-- The kept samples go, and the next segment carries RESTART (R216). -/
def State.ephRestart (s : State) : State :=
  { s with ln := { s.ln with eph := { s.ln.eph with samples := [], restart := true } } }

/-- The wiring check at a Z assertion with ZGATE_EN (R211). -/
def State.zgateCheck (s : State) (k : Nat) : State :=
  let x := s.axis k
  let g := s.fld pAxis (AXIS.CFG_ZGATE.at k)
  if !s.on pAxis (AXIS.CFG_ZGATE_EN.at k) then s
  else
    let dA := x.a != bitAt g 1
    let dB := x.b != bitAt g 0
    let nA := if dA then x.wrongA + 1 else 0
    let nB := if dB then x.wrongB + 1 else 0
    let rl := putBit (putBit x.revLive 0 (decide (3 ≤ nA))) 1 (decide (3 ≤ nB))
    let s1 := s.setAxis k { x with wrongA := nA, wrongB := nB, revLive := rl }
    let onset := (decide (nA = 3)) || decide (nB = 3)
    let s2 := s1.orFld pAxis (AXIS.STATUS_STICKY.at k) (8 * (rl % 4))
    if onset then s2.raise pAxis AXIS.evPAIR_REVERSED else s2

/-- A qualified index edge (R207, R208). -/
def State.indexEdge (s : State) (k : Nat) : State :=
  let epr := s.fld pAxis (AXIS.EPR_EPR.at k)
  let mode := s.fld pAxis (AXIS.CFG_INDEX_MODE.at k)
  let c := s.axisCount k
  let near := nearestIndex (s.fld pAxis (AXIS.INDEX_VALUE_VALUE.at k)) epr c
  let d := c - near
  let tol := s.fld pAxis (AXIS.TOL_INDEX_TOL.at k)
  if epr = 0 ∨ mode = 0 then s.setAxis k { s.axis k with idxFrom := c }
  else if mode = 1 then
    let s1 := s.setAxis k { s.axis k with idxFrom := c }
    if d.natAbs ≤ tol then
      s1.setSfld pAxis (AXIS.DRIFT_DRIFT.at k)
        (clampInt (-2147483648) 2147483647 (s.sfld pAxis (AXIS.DRIFT_DRIFT.at k) + d))
    else
      ((((s1.setSfld pAxis (AXIS.INDEX_ERR_D.at k) d).bump pAxis (AXIS.ERRCNT_INDEX_DEV.at k)).axisSticky k 8).raise
        pAxis AXIS.evINDEX_DEV)
  else
    let s1 := (((s.setAxisCount k near).setAxis k { s.axis k with idxFrom := near }).setSfld pAxis
      (AXIS.INDEX_ERR_D.at k) d).axisSticky k 10
    let s2 := s1.raise pAxis AXIS.evINDEX_SNAP
    let s3 := if tol < d.natAbs then (s2.axisSticky k 8).raise pAxis AXIS.evINDEX_DEV else s2
    if s.fld pEphem EPHEM.ROLE_ROLE = 1 ∧ s.fld pEphem EPHEM.SOURCE_AXIS = k then
      { s3.ephRestart with ln := { s3.ephRestart.ln with
          eph := { s3.ephRestart.ln.eph with snapAt := some s.tb.count } } }
    else s3

/-- The level of Z, after inversion, is accepted; its assertion is a qualified index edge if A and B meet ZGATE (R207, R208,
R211). -/
def State.axisIndex (s : State) (k : Nat) (z : Bool) : State :=
  let x := s.axis k
  let s1 := s.setAxis k { x with z := z }
  if !z || x.z || !s.on pAxis (AXIS.CFG_EN.at k) then s1
  else
    let s2 := s1.zgateCheck k
    let g := s.fld pAxis (AXIS.CFG_ZGATE.at k)
    let ok := !s.on pAxis (AXIS.CFG_ZGATE_EN.at k) || (x.a == bitAt g 1 && x.b == bitAt g 0)
    ((if ok then s2.indexEdge k else s2).missingCheck k).showAxisLive k

/-- The sensed levels of a channel, after inversion, A, B and Z in bits 0 to 2 (R204). -/
def State.axisSensed (s : State) (k : Nat) : Nat :=
  let inv := s.fld pAxis (AXIS.CFG_A_INV.at k) + 2 * s.fld pAxis (AXIS.CFG_B_INV.at k) + 4 * s.fld pAxis (AXIS.CFG_Z_INV.at k)
  ((s.axis k).pin ^^^ inv) % 8

/-- A sensed level that has changed begins to be held (R203). -/
def State.axisSense (s : State) (k : Nat) : State :=
  let x := s.axis k
  let v := s.axisSensed k
  let t (i old : Nat) : Nat := if bitAt v i = bitAt x.sense i then old else s.tb.beat
  if v = x.sense then s else s.setAxis k { x with sense := v, atA := t 0 x.atA, atB := t 1 x.atB, atZ := t 2 x.atZ }

/-- The filter of a channel (R203): a level that has been sensed on FILT + 1 consecutive ticks is accepted, A and B before Z
(Table 6.8); it runs from the first dawn release. -/
def State.axisFilter (s : State) (k : Nat) : State :=
  let s1 := s.axisSense k
  let x := s1.axis k
  let ok (since : Nat) : Bool := decide (since + s1.fld pAxis (AXIS.CFG_FILT.at k) ≤ s1.tb.beat)
  let a := if ok x.atA then bitAt x.sense 0 else x.a
  let b := if ok x.atB then bitAt x.sense 1 else x.b
  let z := if ok x.atZ then bitAt x.sense 2 else x.z
  if !s1.tb.running then s1
  else
    let s2 := if a = x.a ∧ b = x.b then s1 else s1.axisEdge k a b
    if z = x.z then s2 else s2.axisIndex k z

/-- The filters of all channels. -/
def State.axisFilters (s : State) : State := (List.range 6).foldl State.axisFilter s

/-- The filters begin with the first dawn release: a level is held from then on (R203). -/
def State.axisBegin (s : State) : State :=
  (List.range 6).foldl (fun (t : State) k =>
    t.setAxis k { t.axis k with sense := t.axisSensed k, atA := t.tb.beat, atB := t.tb.beat, atZ := t.tb.beat }) s

/-- AXIS_EDGE (R203): the levels of A and B at the balls from this tick on. They are accepted once they have held for
FILT + 1 ticks, here or on a later tick. -/
def execAxisEdge (k : Fin 6) (la lb : Bool) (s : State) : Out :=
  let x := s.axis k
  .next ((s.setAxis k { x with pin := putBit (putBit x.pin 0 la) 1 lb }).axisFilter k)

/-- AXIS_INDEX_EDGE (R203, R208): the level of Z at the ball from this tick on. -/
def execAxisIndexEdge (k : Fin 6) (lz : Bool) (s : State) : Out :=
  let x := s.axis k
  .next ((s.setAxis k { x with pin := putBit x.pin 2 lz }).axisFilter k)

/-- AXIS_OPEN_WIRE (R210). -/
def execAxisOpenWire (k : Fin 6) (sig : Fin 3) (s : State) : Out :=
  let x := s.axis k
  if bitAt x.openLive sig then .next s
  else
    .next ((((s.setAxis k { x with openLive := setBit x.openLive sig }).axisSticky k sig).raise pAxis
      AXIS.evOPEN_WIRE).showAxisLive k)

/-- OPEN_WIRE_CLEAR (R210). -/
def execOpenWireClear (k : Fin 6) (sig : Fin 3) (s : State) : Out :=
  let x := s.axis k
  .next ((s.setAxis k { x with openLive := clrBit x.openLive sig }).showAxisLive k)

/-! ### Segments (R217, R219) -/

/-- Word `i` of a segment. -/
def Seg.word (g : Seg) (i : Nat) : Nat := nth 0 g.words i

/-- The fields of Table 6.4. -/
def Seg.type (g : Seg) : Nat := bitsOf (g.word 0) 63 56
def Seg.version (g : Seg) : Nat := bitsOf (g.word 0) 55 48
def Seg.seq (g : Seg) : Nat := bitsOf (g.word 0) 47 32
def Seg.dev (g : Seg) : Nat := bitsOf (g.word 0) 31 22
def Seg.flags (g : Seg) : Nat := bitsOf (g.word 0) 15 0
def Seg.t0 (g : Seg) : Nat := g.word 1
def Seg.p0 (g : Seg) : Int := sgn 64 (g.word 2)
def Seg.v (g : Seg) : Int := sgn 48 (bitsOf (g.word 3) 63 16)
def Seg.acc (g : Seg) : Int := sgn 32 (bitsOf (g.word 4) 63 32)
def Seg.validLen (g : Seg) : Nat := bitsOf (g.word 4) 19 0
def Seg.crc (g : Seg) : Nat := bitsOf (g.word 7) 31 0

/-- The CRC that a segment's bytes 0 to 55 have (R218). -/
def segCrc (ws : List Nat) : Nat := crc32 ((List.range 7).flatMap (fun i => leBytes 8 (nth 0 ws i)))

/-- The polynomial of R219 with a signed offset `d`, before wrapping. -/
def evalPoly (p0 v a d : Int) : Int := p0 + v * d / 65536 + a * d * d / 4294967296

/-- The position of a segment at tick `t`, as a signed 64-bit number (R219). -/
def Seg.eval (g : Seg) (t : Nat) : Int :=
  sgn 64 (unsg 64 (evalPoly g.p0 g.v g.acc ((t : Int) - (g.t0 : Int))))

/-- The segment of a list by T0 that is the latest to have taken force at tick `t`. -/
def latestSeg (t : Nat) (l : List Seg) : Option Seg := (l.filter (fun g => decide (g.t0 ≤ t))).getLast?

/-- The segment in force at tick `t`: a pending one takes over on the tick of its T0, whether or not SEGMENT_TAKE_FORCE has
run (R221, Table 6.8). -/
def State.segAt (s : State) (t : Nat) : Option Seg := latestSeg t (s.ln.eph.cur.toList ++ s.ln.eph.pend)

/-- The position at tick `t`: none where no segment in force covers it (R219, R221). -/
def State.positionAt (s : State) (t : Nat) : Option Int :=
  match s.segAt t with
  | some g => if g.t0 ≤ t ∧ t < g.t0 + g.validLen then some (g.eval t) else none
  | none => none

/-- The position now. -/
def State.position (s : State) : Option Int := s.positionAt s.tb.count

/-- The stamp flags at tick `t` (Table 6.5). -/
def State.stampFlags (s : State) (t : Nat) : Nat :=
  let sus := b2n (s.on pRefmon REFMON.STATUS_REF_SUSPECT)
  match s.positionAt t, s.segAt t with
  | some _, some g =>
    2 * (if sus = 1 ∨ bitAt g.flags 2 then 1 else 0) + 4 * b2n (decide (g.t0 + 65536 ≤ t)) + 8 * b2n (bitAt g.flags 1)
      + 16 * b2n (bitAt g.flags 3)
  | _, _ => 1 + 2 * sus

/-! ### Schedules -/

/-- Where a schedule's registers stand: a trigger or a strobe. -/
structure SchedF where
  page : Nat
  strobe : Bool
  k : Nat
  mode : Fld
  dir : Fld
  width : Fld
  startLo : Fld
  startHi : Fld
  pitch : Fld
  count : Fld
  nextLo : Fld
  nextHi : Fld
  fired : Fld
  overruns : Fld
  nopos : Fld
  sticky : Fld
  armed : Fld
  evOverrun : Ev
  evLate : Ev
  evNopos : Ev
  evDone : Ev

/-- Trigger schedule `k`. -/
def trigF (k : Nat) : SchedF where
  page := pTrig
  strobe := false
  k := k
  mode := TRIG.CFG_MODE.at k
  dir := TRIG.CFG_DIR.at k
  width := TRIG.CFG_WIDTH.at k
  startLo := TRIG.START_LO_START.at k
  startHi := TRIG.START_HI_START.at k
  pitch := TRIG.PITCH_PITCH.at k
  count := TRIG.COUNT_COUNT.at k
  nextLo := TRIG.NEXT_LO_NEXT.at k
  nextHi := TRIG.NEXT_HI_NEXT.at k
  fired := TRIG.FIRED_FIRED.at k
  overruns := TRIG.STATUS_OVERRUN_COUNT.at k
  nopos := TRIG.STATUS_NOPOS_COUNT.at k
  sticky := TRIG.STATUS_STICKY.at k
  armed := TRIG.ARMED_ARMED
  evOverrun := TRIG.evTRIG_OVERRUN
  evLate := TRIG.evARM_LATE
  evNopos := TRIG.evTRIG_NOPOS
  evDone := TRIG.evTRIG_DONE

/-- Strobe schedule `k`. -/
def stbF (k : Nat) : SchedF where
  page := pStrobe
  strobe := true
  k := k
  mode := STROBE.CFG_MODE.at k
  dir := STROBE.CFG_DIR.at k
  width := STROBE.CFG_WIDTH.at k
  startLo := STROBE.START_LO_START.at k
  startHi := STROBE.START_HI_START.at k
  pitch := STROBE.PITCH_PITCH.at k
  count := STROBE.COUNT_COUNT.at k
  nextLo := STROBE.NEXT_LO_NEXT.at k
  nextHi := STROBE.NEXT_HI_NEXT.at k
  fired := STROBE.FIRED_FIRED.at k
  overruns := STROBE.STATUS_OVERRUN_COUNT.at k
  nopos := STROBE.STATUS_NOPOS_COUNT.at k
  sticky := STROBE.STATUS_STICKY.at k
  armed := STROBE.ARMED_ARMED
  evOverrun := STROBE.evSTB_OVERRUN
  evLate := STROBE.evSTB_ARM_LATE
  evNopos := STROBE.evSTB_NOPOS
  evDone := STROBE.evSTB_DONE

/-- The state of a schedule. -/
def State.sched (s : State) (f : SchedF) : SchedSt :=
  Tab.get SchedSt.reset (if f.strobe then s.ln.stb else s.ln.trig) f.k

/-- Writes the state of a schedule. -/
def State.setSched (s : State) (f : SchedF) (x : SchedSt) : State :=
  if f.strobe then { s with ln := { s.ln with stb := Tab.set SchedSt.reset s.ln.stb f.k x } }
  else { s with ln := { s.ln with trig := Tab.set SchedSt.reset s.ln.trig f.k x } }

/-- The schedule is armed. -/
def State.isArmed (s : State) (f : SchedF) : Bool := bitAt (s.fld f.page f.armed) f.k

/-- The schedule runs on sidereal counts (R226). -/
def State.timeMode (s : State) (f : SchedF) : Bool := s.on f.page f.mode

/-- The schedule runs in reverse; in TIME mode it runs forward. -/
def State.backward (s : State) (f : SchedF) : Bool := s.on f.page f.dir && !s.timeMode f

/-- A 64-bit register pair read in the schedule's terms: a count in TIME mode, else a signed position. -/
def State.schedNum (s : State) (f : SchedF) (v : Nat) : Int := if s.timeMode f then (v : Int) else sgn 64 v

/-- NEXT of a schedule. -/
def State.schedNext (s : State) (f : SchedF) : Int := s.schedNum f (s.pair f.page f.nextLo f.nextHi)

/-- Writes NEXT. -/
def State.setNext (s : State) (f : SchedF) (v : Int) : State := s.setPair f.page f.nextLo f.nextHi (unsg 64 v)

/-- Where the schedule stands now: the tick in TIME mode, else the position (R225, R226). -/
def State.schedAt (s : State) (f : SchedF) : Option Int :=
  if s.timeMode f then some (s.tb.count : Int) else s.position

/-- The first grid position not yet passed at `p` (R224), and whether the schedule is late. -/
def State.gridFrom (s : State) (f : SchedF) (p : Int) : Int × Bool :=
  let start := s.schedNum f (s.pair f.page f.startLo f.startHi)
  let pitch : Int := (s.fld f.page f.pitch : Nat)
  if pitch = 0 then (start, if s.backward f then decide (p < start) else decide (start < p))
  else if s.backward f then
    (if start ≤ p then (start, false) else (start + (p - start) / pitch * pitch, false))
  else (if p ≤ start then (start, false) else (start + (p - start + pitch - 1) / pitch * pitch, false))

/-- Disarms a schedule. -/
def State.disarm (s : State) (f : SchedF) : State :=
  (s.clrFld f.page f.armed (2 ^ f.k)).setSched f { s.sched f with linked := [] }

/-- The schedule is a strobe that follows a trigger (R228): it has no grid of its own. -/
def State.isLinked (s : State) (f : SchedF) : Bool := f.strobe && s.on pStrobe (STROBE.CFG_LINK.at f.k)

/-- NEXT of an armed schedule from the present position; a single position already passed is late (R224). With no position
valid NEXT is START (R238; log entry 68). -/
def State.aim (s : State) (f : SchedF) : State :=
  if s.isLinked f then s
  else
    match s.schedAt f with
    | none => s.setNext f (s.schedNum f (s.pair f.page f.startLo f.startHi))
    | some p =>
      let g := s.gridFrom f p
      let t := s.setNext f g.1
      if g.2 then ((t.disarm f).orFld f.page f.sticky 2).raise f.page f.evLate else t

/-- Arms a schedule (R224): FIRED 0, and NEXT from the present position. -/
def State.arm (s : State) (f : SchedF) : State := ((s.setFld f.page f.fired 0).orFld f.page f.armed (2 ^ f.k)).aim f

/-- The schedule's grid position lies at or behind `p`. -/
def State.reached (s : State) (f : SchedF) (p : Int) : Bool :=
  if s.backward f then decide (p ≤ s.schedNext f) else decide (s.schedNext f ≤ p)

/-- How many grid positions `p` has passed or reached. -/
def State.passed (s : State) (f : SchedF) (p : Int) : Nat :=
  let pitch := s.fld f.page f.pitch
  if !s.reached f p then 0
  else if pitch = 0 then 1
  else (p - s.schedNext f).natAbs / pitch + 1

/-- NEXT advances by `n` grid positions in the direction of travel; a single position is used up (R225). -/
def State.advance (s : State) (f : SchedF) (n : Nat) : State :=
  let pitch := s.fld f.page f.pitch
  let d : Int := (n * pitch : Nat)
  if pitch = 0 then s else s.setNext f (if s.backward f then s.schedNext f - d else s.schedNext f + d)

/-- `n` grid positions are skipped as overruns, each an occurrence of the event (R225). -/
def State.overrun (s : State) (f : SchedF) (n : Nat) : State :=
  if n = 0 then s
  else
    let s1 := ((s.advance f n).bump f.page f.overruns n).orFld f.page f.sticky 1
    let s2 := s1.raiseN f.page f.evOverrun n
    if s.fld f.page f.pitch = 0 then s2.disarm f else s2

/-- The position has become valid: the grid positions that a schedule has passed are skipped and counted (R238). -/
def State.skipPassed (s : State) (f : SchedF) : State :=
  if !s.isArmed f || s.timeMode f || s.isLinked f then s
  else
    match s.position with
    | none => s
    | some p =>
      let n := s.passed f p
      if n = 0 then s
      else
        let s2 := (((s.advance f n).bump f.page f.nopos n).orFld f.page f.sticky 4).raise f.page f.evNopos
        if s.fld f.page f.pitch = 0 then s2.disarm f else s2

/-- The schedules that a mask of strobes or triggers names. -/
def allScheds : List SchedF := (List.range 32).map trigF ++ (List.range 8).map stbF

/-! ### The ephemeris engine (R213 to R221) -/

/-- Shows the segment in force and the earliest pending one (Table 6.13). -/
def State.showSegs (s : State) : State :=
  let put := fun (t : State) (f : Fld) (g : Option Seg) =>
    (List.range 16).foldl (fun u i =>
      let w := match g with
        | some x => x.word (i / 2)
        | none => 0
      u.setFld pEphem (f.at i) (if i % 2 = 0 then w % 2 ^ 32 else w / 2 ^ 32)) t
  put (put s EPHEM.SEG_CUR_WORDS s.ln.eph.cur) EPHEM.SEG_NEXT_WORDS s.ln.eph.pend.head?

/-- Writes the ephemeris engine's state. -/
def State.setEph (s : State) (e : Ephem) : State := { s with ln := { s.ln with eph := e } }

/-- The position of the source axis in 2^-16 um (R213). -/
def State.sourcePos (s : State) : Int :=
  sgn 64 (s.pair pEphem EPHEM.POS_OFFSET_LO_OFFSET EPHEM.POS_OFFSET_HI_OFFSET)
    + s.axisCount (s.fld pEphem EPHEM.SOURCE_AXIS) * (s.fld pEphem EPHEM.UM_PER_EDGE_UPE : Nat)

/-- The engine works as master. -/
def State.ephMaster (s : State) : Bool := s.enabled pEphem && s.fld pEphem EPHEM.ROLE_ROLE == 1

/-- EPHEM_SAMPLE (R213), at a master count that is a multiple of 4,096: the stamp of the latest counted edge and its position; a repeated stamp, or a SNAP on this
tick, keeps nothing. -/
def execEphemSample (s : State) : Out :=
  let e := s.ln.eph
  let k := s.fld pEphem EPHEM.SOURCE_AXIS
  let st := s.pair pAxis (AXIS.EDGE_T_LO_STAMP.at k) (AXIS.EDGE_T_HI_STAMP.at k)
  let young := fun (x : Nat × Int) => decide (s.tb.count ≤ x.1 + 524288)
  if !s.ephMaster || s.tb.count % 4096 != 0 then .next s
  else if e.prev = some st ∨ e.snapAt = some s.tb.count then
    .next (s.setEph { e with samples := e.samples.filter young, prev := some st })
  else
    .next (s.setEph { e with samples := (((st, s.sourcePos) :: e.samples).filter young).take 32, prev := some st })

/-- Sum of a function over the samples, relative to T0. -/
def sumOver (xs : List (Int × Int)) (f : Int → Int → Int) : Int := xs.foldl (fun a x => a + f x.1 x.2) 0

/-- The least-squares polynomial of R214 over points (D, q): the three numerators and the common denominator. -/
def fitPoly (xs : List (Int × Int)) : Int × Int × Int × Int :=
  let n : Int := xs.length
  let s1 := sumOver xs (fun d _ => d)
  let s2 := sumOver xs (fun d _ => d * d)
  let s3 := sumOver xs (fun d _ => d * d * d)
  let s4 := sumOver xs (fun d _ => d * d * d * d)
  let t0 := sumOver xs (fun _ q => q)
  let t1 := sumOver xs (fun d q => d * q)
  let t2 := sumOver xs (fun d q => d * d * q)
  match xs.length with
  | 0 => (0, 0, 0, 1)
  | 1 => (t0, 0, 0, 1)
  | 2 => (t0 * s2 - t1 * s1, n * t1 - s1 * t0, 0, n * s2 - s1 * s1)
  | _ =>
    (t0 * (s2 * s4 - s3 * s3) - s1 * (t1 * s4 - t2 * s3) + s2 * (t1 * s3 - t2 * s2),
     n * (t1 * s4 - t2 * s3) - t0 * (s1 * s4 - s3 * s2) + s2 * (s1 * t2 - s2 * t1),
     n * (s2 * t2 - s3 * t1) - s1 * (s1 * t2 - s2 * t1) + t0 * (s1 * s3 - s2 * s2),
     n * (s2 * s4 - s3 * s3) - s1 * (s1 * s4 - s3 * s2) + s2 * (s1 * s3 - s2 * s2))

/-- A coefficient saturated to a signed field of `w` bits, and whether it was (R214). -/
def satCoef (w : Nat) (v : Int) : Int × Bool :=
  let hi : Int := (2 ^ (w - 1) : Nat)
  let c := clampInt (-hi) (hi - 1) v
  (c, decide (c ≠ v))

/-- The segment that the master forms at fit instant F, the present count (R214, R217). -/
def State.formSegment (s : State) : Seg :=
  let e := s.ln.eph
  let f := s.tb.count
  let t0 := cadd f (s.fld pEphem EPHEM.LEAD_LEAD)
  let xs := e.samples.map (fun x => ((x.1 : Int) - (t0 : Int), x.2))
  let n := e.samples.length
  let r := fitPoly xs
  let den := r.2.2.2
  let open_ := decide (den = 0)
  let c0 := if n = 0 then satCoef 64 s.sourcePos else satCoef 64 (roundHalfAway r.1 den)
  let c1 := satCoef 48 (roundHalfAway (r.2.1 * 65536) den)
  let c2 := satCoef 32 (roundHalfAway (r.2.2.1 * 4294967296) den)
  let p0 := if open_ then sgn 64 (Config.free s.freeIdx) else c0.1
  let v := if open_ then sgn 48 (Config.free (s.freeIdx + 1)) else c1.1
  let a := if open_ then sgn 32 (Config.free (s.freeIdx + 2)) else c2.1
  let res := xs.foldl (fun m x => max m (x.2 - evalPoly p0 v a x.1).natAbs) 0
  let res' := if 2 ^ 32 ≤ res then Config.free (s.freeIdx + 3) % 2 ^ 32 else res
  let poor := c0.2 || c1.2 || c2.2 || decide (s.fld pEphem EPHEM.RES_LIM_LIMIT < res)
  let k := s.fld pEphem EPHEM.SOURCE_AXIS
  let flags := b2n (decide (n ≤ 1)) + 2 * b2n poor + 4 * b2n (s.on pRefmon REFMON.STATUS_REF_SUSPECT)
    + 8 * b2n (s.axis k).fault + 16 * b2n e.restart
  let ws := [0xE5 * 2 ^ 56 + 0x01 * 2 ^ 48 + e.seq * 2 ^ 32 + s.fld pDisc DISC.DISC_STATUS_DEV_NUM * 2 ^ 22
      + k * 2 ^ 19 + flags, t0, unsg 64 p0, unsg 48 v * 2 ^ 16,
      unsg 32 a * 2 ^ 32 + s.fld pEphem EPHEM.VALID_VALID_LEN, res' * 2 ^ 32 + n * 2 ^ 16, f]
  ⟨ws ++ [segCrc ws]⟩

/-- EPHEM_FIT (R214): at a master count that is a multiple of 65,536 the master forms a segment, once; it is published one
tick later. -/
def execEphemFit (s : State) : Out :=
  if !s.ephMaster || s.tb.count % 65536 != 0 || s.ln.eph.formed.any (fun g => g.word 6 == s.tb.count) then .next s
  else
    let e := s.ln.eph
    .next ((s.setEph { e with formed := some s.formSegment, seq := (e.seq + 1) % 2 ^ 16, restart := false }).drew 4)

/-- A segment is held as pending; a third displaces the one with the lower T0 (R221). -/
def holdSegment (g : Seg) (pend : List Seg) : List Seg :=
  let l := pend.filter (fun x => decide (x.t0 ≤ g.t0)) ++ [g] ++ pend.filter (fun x => decide (g.t0 < x.t0))
  if 2 < l.length then l.drop 1 else l

/-- The packet of a segment, a timed EVT with OP 0xC and its 64 bytes, from agent `ag` of router `r` (R215, Tables 11.4 to
11.6). -/
def State.offerSegment (s : State) (r ag dst dag : Nat) (g : Seg) : State :=
  let w0 := dst * 2 ^ 58 + 2 * 2 ^ 50 + 2 ^ 49 + 0xC * 2 ^ 40 + 0xF * 2 ^ 36 + 4 * 2 ^ 33
  s.offer (agentKey r ag) 5 (packetFlits [s.sendW0 r w0 2, ag * 2 ^ 61 + dag * 2 ^ 58, 0, 0]
    [(List.range 4).map g.word, (List.range 4).map (fun i => g.word (4 + i))])

/-- EPHEM forwards a segment to the receivers, the motors and the placement stage (Table 11.4). -/
def State.forwardSegment (s : State) (g : Seg) : State :=
  [(1, 0), (2, 0), (4, 0), (3, 1)].foldl (fun (t : State) d => t.offerSegment 3 0 d.1 d.2 g) s

/-- A segment is accepted (R220, R221), and forwarded as an event. -/
def State.acceptSegment (s : State) (g : Seg) : State :=
  let e := s.ln.eph
  let gap := match e.lastSeq with
    | some n => g.seq != (n + 1) % 2 ^ 16 && !bitAt g.flags 4
    | none => false
  let s1 := ((s.setEph { e with pend := holdSegment g e.pend, lastSeq := some g.seq }).showSegs).forwardSegment g
  if gap then (s1.bump pEphem EPHEM.GAPS_SEQ_GAP).raise pEphem EPHEM.evEPH_SEQ_GAP else s1

/-- A received segment is judged (R220). -/
def State.receiveSegment (s : State) (g : Seg) : State :=
  let held := s.ln.eph.cur.toList ++ s.ln.eph.pend
  let role := s.fld pEphem EPHEM.ROLE_ROLE
  if !s.enabled pEphem ∨ role = 0 then s
  else if role = 1 then s.raise pEphem EPHEM.evEPH_FOREIGN
  else if g.crc ≠ segCrc g.words ∨ g.type ≠ 0xE5 ∨ g.version ≠ 1 then
    (s.bump pEphem EPHEM.COUNTS_BAD).raise pEphem EPHEM.evEPH_BAD
  else if g.dev ≠ s.fld pEphem EPHEM.SOURCE_MASTER_DEV then s.raise pEphem EPHEM.evEPH_FOREIGN
  else if g.t0 ≤ s.tb.count then (s.bump pEphem EPHEM.COUNTS_LATE).raise pEphem EPHEM.evEPH_LATE
  else if held.any (fun x => decide (g.t0 ≤ x.t0)) then s
  else s.acceptSegment g

/-- SEGMENT_RECEIVE (R220). -/
def execSegmentReceive (ws : List (BitVec 64)) (s : State) : Out :=
  .next (s.receiveSegment ⟨ws.map BitVec.toNat⟩)

/-- STATUS shows the segment in force (Table 6.13); STALE is read live (`State.ephView`). -/
def State.showEphStatus (s : State) : State :=
  match s.ln.eph.cur with
  | none => (s.setFld pEphem EPHEM.STATUS_FLAGS 0).setFld pEphem EPHEM.STATUS_CUR_SEQ 0
  | some g =>
    (s.setFld pEphem EPHEM.STATUS_FLAGS (1 + 4 * b2n (bitAt g.flags 0) + 8 * b2n (bitAt g.flags 1)
      + 16 * b2n (bitAt g.flags 3) + 32 * b2n (bitAt g.flags 2))).setFld pEphem EPHEM.STATUS_CUR_SEQ g.seq

/-- A new POS_OFFSET restarts the fit (R216). -/
def State.ephPeriod (s : State) : State :=
  let s1 := s.periodBoundary pEphem
  if s.pair pEphem EPHEM.POS_OFFSET_LO_OFFSET EPHEM.POS_OFFSET_HI_OFFSET
      = s1.pair pEphem EPHEM.POS_OFFSET_LO_OFFSET EPHEM.POS_OFFSET_HI_OFFSET then s1 else s1.ephRestart

/-- The segment in force ends without a successor (R221, R242). -/
def State.segExpire (s : State) : State :=
  (((s.setEph { s.ln.eph with cur := none }).showSegs).showEphStatus).raise pEphem EPHEM.evEPH_EXPIRED

/-- A pending segment comes into force on the tick of its T0 (R221, R242), at a PERIOD boundary of the page (Table 5.2). The
one before it expired first if its validity ended sooner; grid positions passed with no position valid are skipped (R238). -/
def State.takeForce (s0 : State) (g : Seg) (rest : List Seg) : State :=
  let s := match s0.ln.eph.cur with
    | some c => if c.t0 + c.validLen < g.t0 then s0.segExpire else s0
    | none => s0
  let e := s.ln.eph
  let s1 := ((s.setEph { e with cur := some g, pend := rest }).showSegs).showEphStatus
  let s2 := if e.cur.isNone then s1.raise pEphem EPHEM.evEPH_VALID else s1
  let s3 := if bitAt g.flags 1 then s2.raise pEphem EPHEM.evEPH_FIT_POOR else s2
  let s4 := if bitAt g.flags 4 then s3.raise pEphem EPHEM.evEPH_RESTART else s3
  if e.cur.isNone then allScheds.foldl State.skipPassed s4.ephPeriod else s4.ephPeriod

/-- The first pending segment comes into force if its T0 has come. -/
def State.forceDue (s : State) : State :=
  match s.ln.eph.pend with
  | g :: rest => if g.t0 ≤ s.tb.count then s.takeForce g rest else s
  | [] => s

/-- SEGMENT_TAKE_FORCE (R221). -/
def execSegmentTakeForce (s : State) : Out := .next s.forceDue

/-- SEGMENT_EXPIRE (R221, R242): the validity of the segment in force has ended, and no successor took over by then. -/
def execSegmentExpire (s : State) : Out :=
  match s.ln.eph.cur with
  | none => .next s
  | some g =>
    let past := match s.ln.eph.pend with
      | x :: _ => decide (x.t0 ≤ g.t0 + g.validLen)
      | [] => false
    if s.tb.count < g.t0 + g.validLen ∨ past = true then .next s else .next s.segExpire

/-- A write of an EPHEM register; a changed SOURCE or UM_PER_EDGE restarts the fit (R216), as does a changed
POS_OFFSET. -/
def State.ephWrite (s : State) (a : Acc) (off w : Nat) : State :=
  let s1 := s.plainWrite a pEphem off w
  let key := fun (t : State) => (t.fld pEphem EPHEM.SOURCE_AXIS, t.fld pEphem EPHEM.SOURCE_MASTER_DEV,
    t.fld pEphem EPHEM.UM_PER_EDGE_UPE, t.pair pEphem EPHEM.POS_OFFSET_LO_OFFSET EPHEM.POS_OFFSET_HI_OFFSET)
  if key s = key s1 then s1 else s1.ephRestart

/-! ### Triggers and strobes (R223 to R230) -/

/-- An identity may act on every schedule of a mask: the manager on any, a household on those whose output it owns
(R31, R223). -/
def State.maskMine (s : State) (hh : Nat) (strobe : Bool) (mask : Nat) : Bool :=
  hh == 15 || (maskBits (if strobe then 8 else 32) mask).all (fun k =>
    (if strobe then s.fld pStrobe (STROBE.STB_OWNER_OUT.at k) else s.fld pTrig (TRIG.TRG_OWNER_OUT.at (k / 2))) == hh)

/-- A served write of an arming or disarming mask (R223, R224, R228). -/
def State.armWrite (s : State) (strobe arm : Bool) (w : Nat) : State :=
  (maskBits (if strobe then 8 else 32) w).foldl (fun t k =>
    let f := if strobe then stbF k else trigF k
    if arm then t.arm f else t.disarm f) s

/-- A write access to a mask register; one that names a schedule of another owner is a denial as a whole (log entry
68). -/
def State.armAccess (s : State) (i : Instr) (a : Acc) (p off : Nat) (strobe arm : Bool) (w : Nat) : State :=
  s.access i a p off true (fun t =>
    if t.maskMine a.hh strobe w then t.armWrite strobe arm w else t.denial a (regAddr p off) true)

/-- TRIG_ARM_NOW (R224). -/
def execTrigArmNow (a : Acc) (w : Word) (s : State) : Out :=
  .next (s.armAccess (.trigArmNow a w) a pTrig 0x108 false true w.toNat)

/-- TRIG_DISARM_NOW (R223). -/
def execTrigDisarmNow (a : Acc) (w : Word) (s : State) : Out :=
  .next (s.armAccess (.trigDisarmNow a w) a pTrig 0x10C false false w.toNat)

/-- STB_ARM_NOW (R228). -/
def execStbArmNow (a : Acc) (w : Word) (s : State) : Out :=
  .next (s.armAccess (.stbArmNow a w) a pStrobe 0x104 true true w.toNat)

/-- STB_DISARM_NOW (R228). -/
def execStbDisarmNow (a : Acc) (w : Word) (s : State) : Out :=
  .next (s.armAccess (.stbDisarmNow a w) a pStrobe 0x108 true false w.toNat)

/-- The active ticks of the running pulse of a strobe that ON_TIME does not hold yet. -/
def State.runTicks (s : State) (k : Nat) : Nat :=
  let x := s.sched (stbF k)
  if x.pulse then min s.tb.beat (x.idleAt - 2) - x.from_ else 0

/-- A strobe's duty window is the one of the present count: in a new one ON_TIME restarts and a running pulse counts from its
start (R230). -/
def State.rollWindow (s : State) (k : Nat) : State :=
  let x := s.sched (stbF k)
  let w := s.tb.count / 1048576
  if x.win = w then s
  else
    (s.setSched (stbF k) { x with
      win := w, cut := false, from_ := max x.from_ (s.tb.beat - s.tb.count % 1048576) }).setFld pStrobe
      (STROBE.ON_TIME_ON.at k) 0

/-- ON_TIME gains the active ticks of a pulse that ends now (R230). -/
def State.closeOn (s : State) (k : Nat) : State :=
  let t := s.rollWindow k
  (t.bump pStrobe (STROBE.ON_TIME_ON.at k) (t.runTicks k)).setSched (stbF k) { t.sched (stbF k) with pulse := false }

/-- ON_TIME as it stands on this tick (R230). -/
def State.onTime (s : State) (k : Nat) : Nat :=
  let t := s.rollWindow k
  t.fld pStrobe (STROBE.ON_TIME_ON.at k) + t.runTicks k

/-- A strobe has no active tick left in its window (R230). -/
def State.dutySpent (s : State) (k : Nat) : Bool :=
  decide (s.fld pStrobe (STROBE.DUTY_MAX_DUTY.at k) * 4096 ≤ s.onTime k)

/-- A strobe goes idle now: two ticks later it may fire again. -/
def State.stopPulse (s : State) (k : Nat) : State :=
  let t := s.closeOn k
  t.setSched (stbF k) { t.sched (stbF k) with idleAt := min (t.sched (stbF k)).idleAt (t.tb.beat + 2) }

/-- The duty limit is reached (R230): the strobe goes idle until its window ends. -/
def State.dutyCut (s : State) (k : Nat) : State :=
  let t := s.stopPulse k
  ((t.setSched (stbF k) { t.sched (stbF k) with cut := true }).orFld pStrobe (stbF k).sticky 16).raise pStrobe
    STROBE.evSTB_DUTY

/-- A pulse starts now and keeps the output busy through the second tick after it ends (R225). -/
def State.startPulse (s : State) (f : SchedF) : State :=
  let t := if f.strobe then s.closeOn f.k else s
  t.setSched f { t.sched f with pulse := true, from_ := s.tb.beat, idleAt := s.tb.beat + s.fld f.page f.width + 2 }

/-- A strobe whose duty is spent is cut as it would fire (R230, Table 6.8). -/
def State.dutyTest (s : State) (f : SchedF) : State :=
  let t := if f.strobe then s.rollWindow f.k else s
  if f.strobe && !(t.sched f).cut && decide ((t.sched f).idleAt ≤ s.tb.beat) && t.dutySpent f.k then t.dutyCut f.k else t

/-- The output takes no firing on this tick: it is busy, its duty is spent, or VSTB is low (R225, R230, Table 6.9). -/
def State.outBusy (s : State) (f : SchedF) : Bool :=
  decide (s.tb.beat < (s.sched f).idleAt) || (f.strobe && ((s.sched f).cut || !s.on pPower POWER.RAIL_STATUS_VSTB_OK))

/-- A stamp enters a binding's FIFO; a full FIFO drops its oldest entry (R232). -/
def State.pushStamp (s : State) (m v : Nat) (e : StampEntry) : State :=
  let rx := Tab.get RxSt.reset s.ln.rx m
  let q := Tab.get [] rx.fifos v
  let q' := if 16 ≤ q.length then q.drop 1 ++ [e] else q ++ [e]
  let rx' := { rx with fifos := Tab.set [] rx.fifos v q' }
  let s1 := { s with ln := { s.ln with rx := Tab.set RxSt.reset s.ln.rx m rx' } }
  let s2 := s1.setFld (pIngest m) (INGEST.FIFO_LEVEL.at v) q'.length
  if 16 ≤ q.length then s2.raise (pIngest m) INGEST.evSTAMP_OVF else s2

/-- The stamp of a firing goes to every enabled binding of the schedule (R232). -/
def State.stampBindings (s : State) (k : Nat) (e : StampEntry) : State :=
  ((List.range 4).flatMap (fun m => (List.range 4).map (fun v => (m, v)))).foldl (fun t mv =>
    if t.on (pIngest mv.1) (INGEST.BIND_CFG_BIND_EN.at mv.2)
        && t.fld (pIngest mv.1) (INGEST.BIND_CFG_SCHEDULE.at mv.2) == k then t.pushStamp mv.1 mv.2 e else t) s

/-- The linked strobes of a trigger are due DELAY ticks later (R228). -/
def State.linkStrobes (s : State) (k : Nat) : State :=
  (List.range 8).foldl (fun t j =>
    let f := stbF j
    if t.isArmed f && t.on pStrobe (STROBE.CFG_LINK.at j) && t.fld pStrobe (STROBE.CFG_LINK_SCHED.at j) == k then
      t.setSched f { (t.sched f) with
        linked := (t.sched f).linked ++ [t.tb.beat + t.fld pStrobe (STROBE.DELAY_DELAY.at j)] }
    else t) s

/-- A trigger firing records its stamp (R222, R225, R226). -/
def State.recordStamp (s : State) (k : Nat) : State :=
  let t := s.tb.count
  let p := match s.position with
    | some x => unsg 64 x
    | none => 0
  let fl := s.stampFlags t
  let n := s.fld pTrig (TRIG.FIRED_FIRED.at k)
  let s1 := (((s.setPair pTrig (TRIG.STAMP_T_LO_T.at k) (TRIG.STAMP_T_HI_T.at k) t).setPair pTrig
    (TRIG.STAMP_P_LO_P.at k) (TRIG.STAMP_P_HI_P.at k) p).setFld pTrig (TRIG.STAMP_SEQ_FIRE_SEQ.at k) n).setFld pTrig
    (TRIG.STAMP_FLAGS_FLAGS.at k) fl
  (s1.stampBindings k ⟨t, p, n, fl⟩).linkStrobes k

/-- A schedule that has fired COUNT times, or whose single position is used, disarms with DONE (R225). -/
def State.countDone (s : State) (f : SchedF) : State :=
  let c := s.fld f.page f.count
  if (c ≠ 0 ∧ s.fld f.page f.fired = c) ∨ s.fld f.page f.pitch = 0 then
    ((s.disarm f).orFld f.page f.sticky 8).raise f.page f.evDone
  else s

/-- A schedule reaches NEXT (R225): it fires if its output is idle, and every further position passed is an
overrun. -/
def State.fireGrid (s0 : State) (f : SchedF) (p : Int) : State :=
  let n := s0.passed f p
  let s := if n = 0 then s0 else s0.dutyTest f
  if n = 0 then s
  else if s.outBusy f then s.overrun f n
  else
    let s1 := s.startPulse f
    let s2 := if f.strobe then s1 else s1.recordStamp f.k
    let s3 := (s2.incr f.page f.fired).advance f 1
    let s4 := s3.countDone f
    if s4.isArmed f then s4.overrun f (n - 1) else s4

/-- The firing test of a schedule on this tick (R225, R226). -/
def State.fireTest (s : State) (f : SchedF) : State :=
  if !s.isArmed f || s.isLinked f then s
  else
    match s.schedAt f with
    | none => s
    | some p => s.fireGrid f p

/-- TRIG_FIRE (R225): a segment whose T0 has come gives the position (Table 6.8). -/
def execTrigFire (k : Fin 32) (s : State) : Out := .next (s.forceDue.fireTest (trigF k))

/-- TRIG_PULSE_END (R225): output 0 to 31 is a trigger schedule, 32 to 39 a strobe; its pulse has lasted WIDTH ticks. -/
def execTrigPulseEnd (o : Fin 40) (s : State) : Out :=
  let f := if o.val < 32 then trigF o else stbF (o - 32)
  let x := s.sched f
  if s.tb.beat + 2 < x.idleAt then .next s
  else if o.val < 32 then .next (s.setSched f { x with pulse := false })
  else .next (s.closeOn (o - 32))

/-- A strobe fires or is skipped on a linked tick (R228, R230). -/
def State.fireLinked (s0 : State) (k : Nat) : State :=
  let f := stbF k
  let s := s0.dutyTest f
  let x := s.sched f
  let t := s.setSched f { x with linked := x.linked.drop 1 }
  if s.outBusy f then ((t.bump pStrobe f.overruns).orFld pStrobe f.sticky 1).raise pStrobe f.evOverrun
  else
    let s1 := (t.startPulse f).incr pStrobe f.fired
    let c := s1.fld pStrobe f.count
    if c ≠ 0 ∧ s1.fld pStrobe f.fired = c then ((s1.disarm f).orFld pStrobe f.sticky 8).raise pStrobe f.evDone else s1

/-- STROBE_FIRE (R228): by its own grid, or when a linked firing is due. -/
def execStrobeFire (k : Fin 8) (s : State) : Out :=
  let f := stbF k
  if s.isLinked f then
    match (s.sched f).linked with
    | b :: _ => if s.isArmed f ∧ b ≤ s.tb.beat then .next (s.fireLinked k) else .next s
    | [] => .next s
  else .next (s.forceDue.fireTest f)

/-- STROBE_DUTY_CUT (R230): ON_TIME would exceed DUTY_MAX x 4,096 on this tick; the strobe goes idle, and later firings of
the window are skipped. -/
def execStrobeDutyCut (k : Fin 8) (s : State) : Out :=
  let x := s.sched (stbF k)
  if x.pulse ∧ s.tb.beat + 2 < x.idleAt ∧ s.dutySpent k then .next (s.dutyCut k) else .next s

/-- STROBE_DUTY_WINDOW (R230): a new window; ON_TIME restarts, with a running pulse counted from now. -/
def execStrobeDutyWindow (s : State) : Out := .next ((List.range 8).foldl State.rollWindow s)

/-- OUTPUT_SHORT (R242): output 0 to 15 is a trigger output, 16 to 23 a strobe output, whose short monitor has disagreed
for 64 ticks, or with `on` false agrees again. Each onset is an occurrence; the bit lasts as long as the condition. -/
def execOutputShort : Shorted → State → Out
  | ⟨o, on⟩, s =>
  let f := if o.val < 16 then LINE.SHORT_TRG else LINE.SHORT_STB
  let e := if o.val < 16 then LINE.evTRG_SHORT else LINE.evSTB_SHORT
  let i := if o.val < 16 then o.val else o.val - 16
  let was := bitAt (s.fld pLine f) i
  let s1 := s.setFld pLine f (putBit (s.fld pLine f) i on)
  let s2 := { s1 with live := Tab.set 0 s1.live pLine (putBit (s1.liveMask pLine) e.bit (s1.fld pLine f != 0)) }
  .next (if on && !was then s2.raise pLine e else s2)

/-- OUT_SAFE (R245): SAFE holds every output idle, and its onset is raised. -/
def execOutSafe (a : Acc) (w : Word) (s : State) : Out :=
  .next (s.access (.outSafe a w) a pLine 0x100 true
    (fun t => (t.plainWrite a pLine 0x100 w.toNat).condition pLine LINE.evOUT_SAFE (bitAt w.toNat 0)))

/-- The output of a schedule is active on this tick. -/
def State.active (s : State) (f : SchedF) : Bool :=
  (s.sched f).pulse && decide (s.tb.beat + 2 < (s.sched f).idleAt) && s.enabled pLine && !s.on pLine LINE.OUT_CTRL_SAFE

/-- The level that a trigger schedule drives: POL gives the active level, the idle level is its inverse; with the line unit
disabled it is the idle level of POL 0 (R227, R243, Table 6.8). -/
def State.schedLevel (s : State) (i : Nat) : Bool :=
  if s.enabled pLine then s.active (trigF i) != s.on pTrig (TRIG.CFG_POL.at i) else false

/-- TRG output `k` drives its balls as one LVDS pair, not as two LVCMOS singles (R243, Table 6.11). -/
def State.trgLvds (s : State) (k : Nat) : Bool := !s.enabled pLine || !bitAt (s.fld pLine LINE.TRG_MODE_LVCMOS) k

/-- The levels that TRG output `k` drives on its P and N balls: in LVDS mode schedule 2k and its inverse, as LVCMOS singles
schedules 2k and 2k + 1 (R223, R227). -/
def State.trgLevel (s : State) (k : Nat) : Bool × Bool :=
  (s.schedLevel (2 * k), if s.trgLvds k then !s.schedLevel (2 * k) else s.schedLevel (2 * k + 1))

/-- The level that STB output `k` drives (R228, R242, R243). -/
def State.stbLevel (s : State) (k : Nat) : Bool :=
  s.active (stbF k) && s.on pPower POWER.RAIL_STATUS_VSTB_OK

/-- A boundary of the TRIG or STROBE page (Table 6.8): a firing on this tick uses the old values; the shadows apply; an armed
schedule whose START, PITCH or DIR has changed takes NEXT as on arming and keeps FIRED, as does one that no longer follows a
trigger. -/
def State.applySched (s0 : State) (p : Nat) : State :=
  if !s0.hasPending p then s0
  else
    let mine := allScheds.filter (fun f => f.page == p)
    let s := mine.foldl State.fireTest s0.forceDue
    let s1 := s.applyShadows p
    let key := fun (t : State) (f : SchedF) =>
      (t.pair f.page f.startLo f.startHi, t.fld f.page f.pitch, t.fld f.page f.dir, t.isLinked f)
    mine.foldl (fun t f => if key s f = key s1 f ∨ t.isArmed f = false then t else t.aim f) s1

/-- WIDTH as it is stored: 0 becomes 1, and a strobe's is cut to MAX_WIDTH (R229, R237). -/
def State.storedWidth (s : State) (p k w : Nat) : Nat :=
  let x := w % 2 ^ 16
  max 1 (if p = pStrobe then min x (s.fld pStrobe (STROBE.MAX_WIDTH_MAX.at k)) else x)

/-- A write of a TRIG or STROBE register (R229, R237, Table 6.8). -/
def State.schedWrite (s : State) (a : Acc) (p off w : Nat) : State :=
  let k := (off - 0x200) / 0x40
  let r := (off - 0x200) % 0x40
  let fs := s.fieldsOf p off
  if off < 0x200 then s.plainWrite a p off w
  else if s.mgrDenied a.hh p fs w then s.denial a (regAddr p off) true
  else if r = 0 then
    let w' := w / 2 ^ 16 * 2 ^ 16 + s.storedWidth p k w
    let s1 := if p = pStrobe ∧ s.fld pStrobe (STROBE.MAX_WIDTH_MAX.at k) < w % 2 ^ 16 then s.clampBit p k else s
    let s2 := fs.foldl (fun t f => t.writeField p f (f.part w')) s1
    if s2.boundary p = 0 then s2.applySched p else s2
  else if p = pStrobe ∧ r = 0x28 then
    -- DUTY_MAX: a stricter value is accepted on a locked page too (R185, R229)
    let v := w % 256
    let f := STROBE.DUTY_MAX_DUTY.at k
    if s.isLocked p && decide (s.fld p f < min v 128) then s.lockViol p
    else if 128 < v then (s.setFld p f 128).clampBit p (8 + k)
    else s.setFld p f v
  else if p = pStrobe ∧ r = 0x24 then
    let v := w % 2 ^ 16
    let f := STROBE.MAX_WIDTH_MAX.at k
    if s.isLocked p && decide (s.fld p f < v) then s.lockViol p else s.setFld p f v
  else
    let s2 := fs.foldl (fun t f => t.writeField p f (f.part w)) s
    if fs.any (fun f => f.kind == .sh) && s2.boundary p == 0 then s2.applySched p else s2

end Sys2Proof.Machine
end

