-- ==== Sys2Proof/Machine/Drive.lean ====
section
/-!
DEFINITION. What the motor channels and the power stages share (Chapters 8 and 9): their states, the commands of a
PWM period (R342 to R348), the gate drivers under the interlock (R354 to R356), faults and latches, and the writes
of their pages.
-/

namespace Sys2Proof.Machine

/-! ### States -/

/-- Motor channel `n`. -/
def State.mo (s : State) (n : Nat) : MotorSt := Tab.get MotorSt.reset s.dr.motor n

/-- Writes motor channel `n` whole. -/
def State.setMo (s : State) (n : Nat) (x : MotorSt) : State :=
  { s with dr := { s.dr with motor := Tab.set MotorSt.reset s.dr.motor n x } }

/-- Changes motor channel `n`. -/
def State.modMo (s : State) (n : Nat) (f : MotorSt → MotorSt) : State := s.setMo n (f (s.mo n))

/-- PWM generator `n`. -/
def State.pw (s : State) (n : Nat) : PwmSt := Tab.get PwmSt.reset s.dr.pwm n

/-- Writes PWM generator `n`. -/
def State.setPw (s : State) (n : Nat) (x : PwmSt) : State :=
  { s with dr := { s.dr with pwm := Tab.set PwmSt.reset s.dr.pwm n x } }

/-- Changes PWM generator `n`. -/
def State.modPw (s : State) (n : Nat) (f : PwmSt → PwmSt) : State := s.setPw n (f (s.pw n))

/-- Power stage `n`. -/
def State.gt (s : State) (n : Nat) : GateSt := Tab.get GateSt.reset s.dr.gate n

/-- Writes power stage `n`, and shows its commands and gates in GATE_STATE. -/
def State.setGt (s : State) (n : Nat) (x : GateSt) : State :=
  ((({ s with dr := { s.dr with gate := Tab.set GateSt.reset s.dr.gate n x } }.setFld (pGate n)
    GATE.GATE_STATE_CMD x.cmd).setFld (pGate n) GATE.GATE_STATE_ABOVE_VIL x.above).setFld (pGate n)
    GATE.GATE_STATE_BST_OK ((List.range 6).foldl (fun m i => putBit m i (!bitAt x.bstLow (i / 2))) 0))

/-- Changes power stage `n`. -/
def State.modGt (s : State) (n : Nat) (f : GateSt → GateSt) : State := s.setGt n (f (s.gt n))

/-- The state of Table 8.3. -/
def State.motorState (s : State) (n : Nat) : Nat := s.fld (pMotor n) MOTOR.STATUS_STATE

/-- RUN, LOCKING or LOCKED. -/
def runState (st : Nat) : Bool := st == 6 || st == 7 || st == 8

/-- Enters a state of Table 8.3, and notes since when. -/
def State.setMotorState (s : State) (n v : Nat) : State :=
  (s.modMo n (fun m => { m with
    stateAt := s.tb.beat
    runAt := if runState (s.motorState n) then m.runAt else s.tb.beat })).setFld (pMotor n) MOTOR.STATUS_STATE v

/-- The `i`-th free value from here, below `2^w`. -/
def State.freeAt (s : State) (i w : Nat) : Nat := Config.free (s.freeIdx + i) % 2 ^ w

/-! ### The commands of a period (R342 to R348) -/

/-- A compare, limited to the period's maximum (Table 9.7). -/
def PwmSt.maxCmp (p : PwmSt) : Nat := if p.updown then p.period / 2 else p.period

/-- The counter at offset `t` of the period (R342). -/
def PwmSt.counter (p : PwmSt) (t : Nat) : Nat := if p.updown ∧ p.period / 2 ≤ t then p.period - 1 - t else t

/-- The ticks of the period on which a switch's demand is active, as intervals from `a` up to `b` (R345, R346): the counter
below the compare for a high side; for a low side the rest of the period, or in independent mode the counter at or above its
own compare. -/
def PwmSt.segs (p : PwmSt) (sw : Nat) : List (Nat × Nat) :=
  let c := nth 0 p.cmp (sw / 2)
  let below (c : Nat) : List (Nat × Nat) :=
    if c = 0 then [] else if p.updown then (if p.period / 2 ≤ c then [(0, p.period)] else [(0, c), (p.period - c, p.period)])
    else [(0, min c p.period)]
  let above (c : Nat) : List (Nat × Nat) :=
    let b := if p.updown then p.period - c else p.period
    if c < b then [(c, b)] else []
  if sw % 2 = 0 then below c else if p.compl then above c else above (nth 0 p.cmpl (sw / 2))

/-- The interval of a switch's demand that holds tick `t` of the period. -/
def PwmSt.seg (p : PwmSt) (sw t : Nat) : Option (Nat × Nat) :=
  (p.segs sw).find? (fun x => decide (x.1 ≤ t) && decide (t < x.2))

/-- The dead time before a switch's turn-on (R345): none in independent mode (R346). -/
def PwmSt.dead (p : PwmSt) (sw : Nat) : Nat := if p.compl then (if sw % 2 = 0 then p.dtH else p.dtL) else 0

/-- The ticks since the demand that is active at `t`, in the interval from `a`, rose, and the dead time of that rise: an
interval that goes on over the period start rose before it. -/
def PwmSt.since (p : PwmSt) (sw a t : Nat) : Nat × Nat :=
  match (if a = 0 then nth none p.carry sw else none) with
  | some c => (c.age + t, c.dead)
  | none => (t - a, p.dead sw)

/-- The ticks from `o` to the end of the demand interval `x`; one that reaches the period's end goes on as the same values
would have it. -/
def PwmSt.lasts (p : PwmSt) (sw o : Nat) (x : Nat × Nat) : Nat :=
  x.2 - o + (if x.2 = p.period then
    match p.segs sw with
    | (0, b) :: _ => b
    | _ => 0
  else 0)

/-- A switch is on at offset `t` of the period in PHASE_STATE PWM (R345, R346): its demand is active, its dead time is over,
and its on-interval is not shorter than MIN_PULSE (R348), which is judged on the interval's first tick. -/
def PwmSt.pwmOn (p : PwmSt) (minPulse sw t : Nat) : Bool :=
  match p.seg sw t with
  | none => false
  | some x =>
    let d := p.since sw x.1 t
    if d.1 < d.2 then false
    else
      match (if x.1 = 0 then nth none p.carry sw else none) with
      | some c => if c.dead < c.age then c.ok else decide (minPulse ≤ p.lasts sw (c.dead - c.age) x)
      | none => decide (minPulse ≤ p.lasts sw (x.1 + p.dead sw) x)

/-- What a switch's demand carries over the end of the period. -/
def PwmSt.carryOut (p : PwmSt) (minPulse sw : Nat) : Option PwmCarry :=
  match p.seg sw (p.period - 1) with
  | none => none
  | some x =>
    let d := p.since sw x.1 p.period
    some ⟨d.1, d.2, p.pwmOn minPulse sw (p.period - 1)⟩

/-- The command of a switch at offset `t` (R345 to R347, Table 9.2). -/
def PwmSt.command (p : PwmSt) (minPulse sw t : Nat) : Bool :=
  let other := if sw % 2 = 0 then sw + 1 else sw - 1
  match nth 1 p.phase (sw / 2) with
  | 0 => p.pwmOn minPulse sw t
  | 2 => sw % 2 == 1 && (!bitAt p.cmd0 other || decide (p.dtL ≤ t))
  | 3 => sw % 2 == 0 && (!bitAt p.cmd0 other || decide (p.dtH ≤ t))
  | _ => false

/-- A switch's on-interval would begin at offset `t` and is too short, or its demand ends at `t` with its dead time: what
remains is empty (R348, R373). -/
def PwmSt.dropsAt (p : PwmSt) (minPulse sw t : Nat) : Bool :=
  match p.seg sw t with
  | some x =>
    let d := p.since sw x.1 t
    d.1 == d.2 && !p.pwmOn minPulse sw t
  | none =>
    decide (0 < minPulse) &&
      (if t = 0 then
        match nth none p.carry sw with
        | some c => decide (c.age ≤ c.dead)
        | none => false
      else
        match p.seg sw (t - 1) with
        | some x => decide ((p.since sw x.1 t).1 ≤ (p.since sw x.1 t).2)
        | none => false)

/-- The number of on-intervals dropped at offset `t` (R348). -/
def PwmSt.dropped (p : PwmSt) (minPulse t : Nat) : Nat :=
  ((List.range 6).filter (fun sw => nth 1 p.phase (sw / 2) == 0 && p.dropsAt minPulse sw t)).length

/-- The beat of the first period start after EN or a dawn release: the first tick, at least 64 st later, on which the count
is PHASE_OFS modulo PERIOD (R343). -/
def State.firstStart (s : State) (n : Nat) : Nat :=
  let per := max 1 (s.fld (pPwm n) PWM.PERIOD_PERIOD)
  s.tb.beat + 64 + (s.fld (pPwm n) PWM.PHASE_OFS_OFS % per + per - (s.tb.count + 64) % per) % per

/-- The generator waits for its first period start (R343). -/
def State.alignPwm (s : State) (n : Nat) : State :=
  s.setPw n { PwmSt.reset with due := some (s.firstStart n), histH := (s.pw n).histH, histL := (s.pw n).histL }

/-- The generators realign after a dawn release (R343). -/
def State.alignAll (s : State) : State :=
  ((List.range 4).filter (fun n => s.enabled (pPwm n))).foldl State.alignPwm s

/-! ### Gate drivers under the interlock (R354 to R356) -/

/-- The other switch of the phase. -/
def otherSw (sw : Nat) : Nat := if sw % 2 = 0 then sw + 1 else sw - 1

/-- A supply fault of Table 9.4 holds. -/
def State.supplyBad (s : State) : Bool :=
  s.on pPower POWER.RAIL_STATUS_VM_OV || !s.on pPower POWER.RAIL_STATUS_VM_OK
  || !s.on pPower POWER.RAIL_STATUS_VGD_OK || s.dr.ouvHot

/-- The switch is held off whatever its command: by a latch of its own (R358, R363), by the bootstrap supply (R360),
to the end of the period (R323, R364), by a latch of the channel, by a supply that is out of its limits (R97), while the link
is lost, during a diagnostic run or a self-test (R366), or by boundary scan (R695). -/
def State.heldOff (s : State) (n sw : Nat) : Bool :=
  let g := s.gt n
  let p := pGate n
  bitAt (s.fld p GATE.LATCH_SHORT) sw || bitAt (s.fld p GATE.LATCH_NORISE) sw
  || (sw % 2 == 0 && bitAt g.bstLow (sw / 2)) || bitAt g.cbcOff sw || g.cycOff || g.linkBad
  || s.on p GATE.LATCH_GATE_STUCK || s.on p GATE.LATCH_TRIP || s.on p GATE.LATCH_SUPPLY || s.on p GATE.LATCH_LINK
  || bitAt g.soft sw || g.diag != 0 || g.cst != 0 || s.supplyBad || s.tapHolds

/-- The current in mA that turns a gate on, by the code of its side (Table 9.3). -/
def sourceMa (code : Nat) : Nat :=
  nth 0 [25, 33, 44, 57, 76, 100, 132, 174, 230, 303, 400, 528, 696, 919, 1213, 1600] code

/-- The current in mA that turns a gate off (Table 9.3). -/
def sinkMa (code : Nat) : Nat :=
  nth 0 [50, 65, 84, 108, 140, 182, 235, 305, 394, 510, 661, 855, 1107, 1433, 1855, 2400] code

/-- The current with which a driver drives its gate now, in mA, negative for a sink (R350, R363, R365): the source of its
side while it is on; SOFT_OFF.SINK in a soft turn-off; the sink of its side until the gate has passed 1.5 V, and full sink
from then on, after a supply fault, and while GATE is not enabled (R377). -/
def State.driveMa (s : State) (n sw : Nat) : Int :=
  let g := s.gt n
  let p := pGate n
  let strong := s.on p GATE.DRIVE_STRONG
  let high := sw % 2 = 0
  if bitAt g.on sw then
    if strong then 3000 else (sourceMa (s.fld p (if high then GATE.DRIVE_SRC_H else GATE.DRIVE_SRC_L)) : Int)
  else if bitAt g.above sw && bitAt g.sunk sw && s.enabled p then -(sinkMa (s.fld p GATE.SOFT_OFF_SINK) : Int)
  else if strong then -4000
  else if bitAt g.above sw && !bitAt g.hard sw && s.enabled p then
    -(sinkMa (s.fld p (if high then GATE.DRIVE_SNK_H else GATE.DRIVE_SNK_L)) : Int)
  else -(sinkMa 15 : Int)

/-- The voltage in V at which a soft turn-off holds the gate above its source (R363). -/
def State.softLevel (s : State) (n : Nat) : Nat := 6 + s.fld (pGate n) GATE.SOFT_OFF_LEVEL

/-- A switch is turned off: its gate starts to fall. -/
def State.swOff (s : State) (n sw : Nat) : State :=
  s.modGt n (fun g => { g with on := clrBit g.on sw, wait := clrBit g.wait sw })

/-- A turn-on's g is reported, in complementary mode (R352). -/
def State.reportGap (s : State) (n sw : Nat) : State :=
  match Tab.lookup (s.gt n).gap sw with
  | none => s
  | some w =>
    if (s.pw n).compl then
      s.modPw n (fun x => if sw % 2 = 0 then { x with curH := max x.curH w } else { x with curL := max x.curL w })
    else s

/-- A switch starts to turn on: its gate rises above V_IL. -/
def State.swOn (s : State) (n sw : Nat) : State :=
  (s.reportGap n sw).modGt n (fun g => { g with
    on := setBit g.on sw, wait := clrBit g.wait sw, above := setBit g.above sw, hard := clrBit g.hard sw
    sunk := clrBit g.sunk sw, onAt := Tab.insert g.onAt sw s.tb.beat, offAt := Tab.erase g.offAt sw
    gap := Tab.erase g.gap sw })

/-- A commanded switch turns on if nothing holds it off and the opposite gate is down, and waits otherwise (R354). -/
def State.tryOn (s : State) (n sw : Nat) : State :=
  let g := s.gt n
  if s.heldOff n sw || bitAt g.on sw then s
  else if bitAt g.cmd (otherSw sw) || bitAt g.above (otherSw sw) then s.setGt n { g with wait := setBit g.wait sw }
  else s.swOn n sw

/-- The command of a switch turns off. -/
def State.cmdOff (s : State) (n sw : Nat) : State :=
  let g := s.gt n
  let s1 := s.setGt n { g with
    cmd := clrBit g.cmd sw, overlap := clrBit g.overlap (sw / 2), offAt := Tab.insert g.offAt sw s.tb.beat }
  s1.swOff n sw

/-- Both commands of a phase are on: counted once per overlap (R355, R356). -/
def State.overlapped (s : State) (n ph : Nat) : State :=
  let g := s.gt n
  if bitAt g.overlap ph then s
  else ((s.setGt n { g with overlap := setBit g.overlap ph }).bump (pPwm n) PWM.COUNTS_XCMD_COUNT).raise (pPwm n)
    PWM.evXCMD

/-- The command of a switch turns on; with the opposite command on it waits (R356). -/
def State.cmdOn (s : State) (n sw : Nat) : State :=
  let g := s.gt n
  let s1 := s.setGt n { g with cmd := setBit g.cmd sw }
  if bitAt g.cmd (otherSw sw) then
    let s2 := s1.overlapped n (sw / 2)
    let g2 := s2.gt n
    s2.setGt n { g2 with wait := setBit g2.wait sw }
  else s1.tryOn n sw

/-- A switch whose opposite command has just turned off may turn on now (R355, R356). -/
def State.afterOff (s : State) (n sw : Nat) : State :=
  let g := s.gt n
  if bitAt g.cmd (otherSw sw) && !bitAt g.on (otherSw sw) && !bitAt g.cmd sw then s.tryOn n (otherSw sw) else s

/-- New commands reach the drivers: the turn-offs first; two turn-ons of one phase together turn on neither
(R355). -/
def State.commands (s : State) (n m : Nat) : State :=
  let old := (s.gt n).cmd
  let offs := (List.range 6).filter (fun i => bitAt old i && !bitAt m i)
  let ons := (List.range 6).filter (fun i => !bitAt old i && bitAt m i)
  let s1 := offs.foldl (fun t i => t.cmdOff n i) s
  let s2 := offs.foldl (fun t i => if bitAt m (otherSw i) && bitAt old (otherSw i) then t.afterOff n i else t) s1
  ons.foldl (fun t i =>
    if ons.contains (otherSw i) then
      let g := t.gt n
      (t.setGt n { g with cmd := setBit g.cmd i, wait := setBit g.wait i }).overlapped n (i / 2)
    else t.cmdOn n i) s2

/-- The drivers take commands: GATE is enabled (R377) and the link is up. -/
def State.linked (s : State) (n : Nat) : Bool := s.enabled (pGate n) && !(s.gt n).linkBad

/-- Every gate off, commands and all, on a beat; a soft turn-off completes (Table 9.8). -/
def GateSt.off (g : GateSt) (beat : Nat) : GateSt :=
  { g with
    cmd := 0, on := 0, wait := 0, overlap := 0, test := false
    offAt := (maskBits 6 g.cmd).foldl (fun l sw => Tab.insert l sw beat) g.offAt }

/-- Every gate of the channel off (R333, R349). -/
def State.gatesOff (s : State) (n : Nat) : State := s.modGt n (fun g => g.off s.tb.beat)

/-- The channel's state in which the generator commands every switch off (R349). -/
def quietState (st : Nat) : Bool := st == 0 || st == 1 || st == 2 || st == 10 || st == 11

/-- The channel enters FAULT: every gate off (R333), and a diagnostic run ends. -/
def State.motorFault (s : State) (n : Nat) : State :=
  ((s.setMotorState n 11).gatesOff n).modGt n (fun g => { g with diag := 0, cst := 0 })

/-- The channel at rest, with what its inputs show and the trim it has reached. -/
def MotorSt.rest (m : MotorSt) : MotorSt :=
  { MotorSt.reset with
    stateAt := m.stateAt, runAt := m.runAt, hallCode := m.hallCode, hallSector := m.hallSector, hallAt := m.hallAt
    hallPrev := m.hallPrev, hallDir := m.hallDir, trimTarget := m.trimTarget, hot := m.hot }

/-- The channel goes to OFF at once; no line lock waits for a segment any more (R330). -/
def State.motorOff (s : State) (n : Nat) : State :=
  (((s.setMotorState n 0).gatesOff n).modMo n MotorSt.rest).condition (pMotor n) MOTOR.evEPH_INVALID false

/-- Some latch of GATEn is set (R376). -/
def State.latched (s : State) (n : Nat) : Bool :=
  let p := pGate n
  s.on p GATE.LATCH_NORISE || s.on p GATE.LATCH_SUPPLY || s.on p GATE.LATCH_LINK || s.on p GATE.LATCH_CST
  || s.on p GATE.LATCH_DIAG || s.on p GATE.LATCH_TRIP || s.on p GATE.LATCH_GATE_STUCK || s.on p GATE.LATCH_SHORT

/-- LATCH_CLR: every latch whose condition no longer holds clears, GATE_STUCK excepted (R375). -/
def State.latchClr (s : State) (n : Nat) : State :=
  let p := pGate n
  let s1 := (s.setFld p GATE.LATCH_SHORT 0).setFld p GATE.LATCH_NORISE 0
  let s2 := if (s.gt n).cst = 0 then s1.setFld p GATE.LATCH_CST 0 else s1
  let s3 := if (s.gt n).diag = 0 then s2.setFld p GATE.LATCH_DIAG 0 else s2
  let s4 := if (s.gt n).tripLow then s3 else s3.setFld p GATE.LATCH_TRIP 0
  let s5 := if (s.gt n).linkBad then s4 else s4.setFld p GATE.LATCH_LINK 0
  if s.supplyBad then s5 else s5.setFld p GATE.LATCH_SUPPLY 0

/-- A supply fault turns every gate of every channel off with full sink, but for one in a soft turn-off, and latches (R97,
R365, Table 9.8). -/
def State.supplyOff (s : State) : State :=
  (List.range 4).foldl (fun (t : State) n =>
    (((t.setFld (pGate n) GATE.LATCH_SUPPLY 1).raise (pGate n) GATE.evSUPPLY_OFF).motorFault n).modGt n
      (fun g => { g with hard := clrMask g.above (g.soft ||| g.sunk) })) s

/-- TRIP_N low latches (R364): all six gates off with their SNK codes. -/
def State.tripLatch (s : State) (n : Nat) : State :=
  ((s.setFld (pGate n) GATE.LATCH_TRIP 1).raise (pGate n) GATE.evTRIP).motorFault n

/-- TRIP_N is low, is enabled, and is not disconnected by a self-test (R364, R367, R377). -/
def State.tripActs (s : State) (n : Nat) : Bool :=
  let g := s.gt n
  g.tripLow && s.on (pGate n) GATE.TRIP_CFG_EN && s.enabled (pGate n) && !(g.cst == 3 || g.cst == 4)

/-- TRIP_N low acts as TRIP_CFG.MODE says (R364): it latches, or the rest of the period stays off. A period start on the same
tick counts it (Table 9.8). -/
def State.tripAct (s : State) (n : Nat) : State :=
  if !s.tripActs n || s.on (pGate n) GATE.LATCH_TRIP || (s.gt n).cycOff then s
  else if !s.on (pGate n) GATE.TRIP_CFG_MODE then s.tripLatch n
  else
    let x := s.pw n
    let t := s.modGt n (fun g => { g with
      cycOff := true, on := 0, wait := 0
      tripN := if x.running && x.start == s.tb.beat && g.tripN == 0 then 1 else g.tripN })
    (t.bump (pGate n) GATE.COUNTS_TRIP_CYCLES).raise (pGate n) GATE.evTRIP_CYCLE

/-! ### The voltage vectors of DETECT (R305) -/

/-- The switches of the voltage vector at k x 30 degrees: each phase high, low or floating as the angle lies to its axis. -/
def detectMask (k : Nat) : Nat :=
  (List.range 3).foldl (fun m ph =>
    let d := (k + 12 - 4 * ph) % 12
    if d ≤ 2 ∨ 10 ≤ d then setBit m (2 * ph) else if d = 3 ∨ d = 9 then m else setBit m (2 * ph + 1)) 0

/-- DETECT as it stands on a beat: each vector lasts `width` ticks or to the beat on which its current reached the limit, and
a gap of `gap` ticks follows it. -/
def MotorSt.detNow (m : MotorSt) (width gap beat : Nat) : Nat → MotorSt
  | 0 => m
  | fuel + 1 =>
    let next := m.detEnd.getD (m.detAt + width) + gap
    if m.detK < 12 ∧ next ≤ beat then
      MotorSt.detNow { m with detK := m.detK + 1, detAt := next, detEnd := none } width gap beat fuel
    else m

/-- DETECT of a channel as it stands now. -/
def State.detect (s : State) (n : Nat) : MotorSt :=
  (s.mo n).detNow (16 * s.fld (pMotor n) MOTOR.DETECT_WIDTH) (16 * s.fld (pMotor n) MOTOR.DETECT_GAP) s.tb.beat 12

/-- A vector of DETECT is applied now. -/
def State.detectPulse (s : State) (n : Nat) : Bool :=
  let m := s.detect n
  decide (m.detK < 12) && decide (s.tb.beat < m.detEnd.getD (m.detAt + 16 * s.fld (pMotor n) MOTOR.DETECT_WIDTH))

/-- The commands of DETECT: the vector's, or none in a gap. -/
def State.detectVector (s : State) (n : Nat) : Nat := if s.detectPulse n then detectMask (s.detect n).detK else 0

/-! ### Diagnostics and start requests -/

/-- The beat on which `halves` half steps that begin at `at_` end: a step is DIAG_CFG.STEP x 10 us (R366). -/
def State.stepEnd (s : State) (n at_ halves : Nat) : Nat := at_ + s.fld (pGate n) GATE.DIAG_CFG_STEP * 5000 * halves

/-- A diagnostic run begins (R366). -/
def State.diagBegin (s : State) (n : Nat) (forStart : Bool) : State :=
  let g := (s.gatesOff n).gt n
  ((((((s.gatesOff n).setGt n { g with
    diag := 1, stepDue := s.stepEnd n s.tb.beat 2, diagStart := forStart, cst := 0, cstFail := 0 }).setFld
    (pGate n) GATE.DIAG_RESULT_PASS 0).setFld (pGate n) GATE.DIAG_RESULT_DONE 0).setFld (pGate n)
    GATE.DIAG_RESULT_PP_SHORT 0).setFld (pGate n) GATE.DIAG_RESULT_OPEN_PHASE 0 |>.setFld (pGate n)
    GATE.DIAG_RESULT_SHORT_VM 0).setFld (pGate n) GATE.DIAG_RESULT_SHORT_GND 0

/-- A named axis channel is not owned as R298 requires, or is not enabled. -/
def State.axisRefused (s : State) (n k : Nat) : Bool :=
  decide (6 ≤ k) || s.fld pAxis (AXIS.AX_OWNER_CH.at k) != s.owner (pMotor n) || !s.on pAxis (AXIS.CFG_EN.at k)

/-- Why a start request in OFF is refused (Table 8.4); a recorded failure of the shared self-test has no cause of its
own there (Table 9.9), so its cause is a free value. -/
def State.startRefusal (s : State) (n : Nat) : Option Nat :=
  let p := pMotor n
  let sensor := s.fld p MOTOR.MODE_SENSOR
  let mode := s.fld p MOTOR.MODE_CTRL_MODE
  if !(s.enabled p && s.enabled (pPwm n) && s.enabled (pGate n)) then some 1
  else if !s.on pPower POWER.RAIL_STATUS_VM_OK || s.on pPower POWER.RAIL_STATUS_VM_OV
      || !s.on pPower POWER.RAIL_STATUS_VGD_OK then some 2
  else if (sensor == 1 && s.axisRefused n (s.fld p MOTOR.MODE_ENC_AXIS))
      || (mode == 2 && s.axisRefused n (s.fld p MOTOR.MODE_POS_AXIS))
      || (s.on p MOTOR.MODE_FACET_EN && s.axisRefused n (s.fld p MOTOR.MODE_FACET_AXIS)) then some 3
  else if s.latched n then some 4
  else if (sensor == 2 && s.fld p MOTOR.MODE_START_METHOD == 0) || (mode == 2 && sensor == 2) then some 5
  else if s.fld p MOTOR.ILIM_CBC_ILIM = 0 ∨ s.fld p MOTOR.ILIM_AVG_ILIM = 0 then some 6
  else if s.on pOuvgor OUVGOR.CST_RESULT_DONE && !s.on pOuvgor OUVGOR.CST_RESULT_PASS then some (s.freeVal 4)
  else none

/-- A start request (R302, R303); a direct test pulse ends with it (Table 9.8). -/
def State.startReq (s : State) (n hh : Nat) : State :=
  if s.motorState n ≠ 0 then s
  else
    match s.startRefusal n with
    | some c => ((s.setFld (pMotor n) MOTOR.STATUS_REFUSE_CAUSE c).raiseBy (pMotor n) MOTOR.evSTART_REFUSED hh).drew
    | none =>
      let s1 := (s.gatesOff n).setFld (pMotor n) MOTOR.STATUS_FACET_LOCKED 0
      let s2 := s1.modMo n (fun m => { m.rest with trimTarget := s1.fld (pMotor n) MOTOR.FACET_TRIM_TRIM })
      if s.on (pGate n) GATE.DIAG_CFG_DIAG_DIS then s2.setMotorState n 2
      else (s2.setMotorState n 1).diagBegin n true

/-- A stop request (R322). -/
def State.stopReq (s : State) (n : Nat) : State :=
  let st := s.motorState n
  if st = 11 ∨ st = 0 then s
  else if st = 1 ∨ st = 2 ∨ st = 10 ∨ s.on (pMotor n) MOTOR.MODE_STOP_MODE then
    (s.motorOff n).modGt n (fun g => { g with diag := 0, cst := 0 })
  else s.setMotorState n 9

/-- LIVE_FAULT stands on the channel's ENC_AXIS or POS_AXIS (Table 8.8). -/
def State.encFault (s : State) (n : Nat) : Bool :=
  let p := pMotor n
  (s.fld p MOTOR.MODE_SENSOR == 1 && (s.axis (s.fld p MOTOR.MODE_ENC_AXIS)).fault)
    || (s.fld p MOTOR.MODE_CTRL_MODE == 2 && (s.axis (s.fld p MOTOR.MODE_POS_AXIS)).fault)

/-- The sector that HALL_MAP gives a code, none for one marked invalid (R315). -/
def State.hallSector (s : State) (n code : Nat) : Option Nat :=
  let x := bitsOf (s.fld (pMotor n) MOTOR.HALL_MAP_MAP) (3 * code + 2) (3 * code)
  if x < 6 then some x else none

/-- The inputs show an invalid Hall code (R315). -/
def State.hallBad (s : State) (n : Nat) : Bool :=
  s.fld (pMotor n) MOTOR.MODE_SENSOR == 0 && (s.hallSector n (s.mo n).hallCode).isNone

/-- The position error of the profile (R314). -/
def State.followErr (s : State) (n : Nat) : Int :=
  (s.mo n).profPos / 65536 - s.axisCount (s.fld (pMotor n) MOTOR.MODE_POS_AXIS)

/-- A fault condition of Table 8.8 holds still: the temperature, a sensor, the position error, or a supply. -/
def State.faultHolds (s : State) (n : Nat) : Bool :=
  let p := pMotor n
  decide (s.fld p MOTOR.TD_TRIP_TRIP ≤ s.fld p MOTOR.TD_MEAS_TD) || s.encFault n || s.hallBad n
  || (s.fld p MOTOR.MODE_CTRL_MODE == 2 && decide (s.fld p MOTOR.FOLLOW_FOLLOW_LIM < (s.followErr n).natAbs))
  || s.supplyBad

/-- FAULT_CLR (R333, R375): eligible latches clear, and FAULT ends once no fault condition holds. -/
def State.faultClr (s : State) (n : Nat) : State :=
  let s1 := s.latchClr n
  if s1.motorState n = 11 ∧ !s1.latched n ∧ !s1.faultHolds n then s1.motorOff n else s1

/-- OFFSET_CAL from OFF (R304). -/
def State.offsetCal (s : State) (n : Nat) : State :=
  if s.motorState n = 0 then (s.setMotorState n 2).modMo n (fun m => { m with calOnly := true, calN := 0, calSum := [] })
  else s

/-! ### Writes of the pages (R325, R326, R353, R370, R371) -/

/-- Writes a register field by field: `g` says what a special field does with its new value. -/
def State.writeEach (s : State) (p : Nat) (fs : List Fld) (w : Nat) (g : State → Fld → Nat → Option State) : State :=
  fs.foldl (fun t f => (g t f (f.part w)).getD (t.writeField p f (f.part w))) s

/-- A protection limit: stricter writes always apply; looser ones set LOCK_VIOL on a locked page (R325, R371). The
value above the maximum is stored as the maximum. -/
def State.writeLimit (s : State) (p : Nat) (f : Fld) (v lo hi : Nat) (lower : Bool) (bit : Option Nat) : State :=
  let old := s.fld p f
  let c := clampNat lo hi v
  let looser := if lower then decide (old < c) else decide (c < old)
  if looser ∧ s.isLocked p then s.lockViol p
  else
    let s1 := s.setFld p f c
    match bit with
    | some b => if c = v then s1 else s1.clampBit p b
    | none => s1

/-- A locked LK field keeps its value (R185). -/
def State.lkGuard (s : State) (p : Nat) (f : Fld) (v : Nat) (k : State → State) : State :=
  if f.lk && s.isLocked p then (if v = s.fld p f then s else s.lockViol p) else k s

/-- Stores `c` in a field, with a CLAMP_STATUS bit where it is not the value written. -/
def State.storeClamped (s : State) (p : Nat) (f : Fld) (v c bit : Nat) : State :=
  s.lkGuard p f c (fun t => let t1 := t.setFld p f c; if c = v then t1 else t1.clampBit p bit)

/-- The special fields of a MOTOR page (R325, R326, R329). -/
def State.motorField (n : Nat) (w : Nat) (t : State) (f : Fld) (v : Nat) : Option State :=
  let p := pMotor n
  if f.bit = MOTOR.ILIM_CBC_ILIM.bit then some (t.writeLimit p f v 0 8191 true (some 0))
  else if f.bit = MOTOR.ILIM_AVG_ILIM.bit then some (t.writeLimit p f v 0 8191 true (some 1))
  else if f.bit = MOTOR.TD_TRIP_TRIP.bit then some (t.writeLimit p f v 0 1023 true (some 2))
  else if f.bit = MOTOR.CBC_MAX_MAX.bit then some (t.writeLimit p f v 0 255 true none)
  else if f.bit = MOTOR.STALL_STALL_I.bit then some (t.writeLimit p f v 0 8191 true (some 6))
  else if f.bit = MOTOR.STALL_STALL_TIME.bit then some (t.writeLimit p f v 0 65535 true none)
  else if f.bit = MOTOR.ILIM_AVG_AVG_TIME.bit then some (t.writeLimit p f v 0 65535 true none)
  else if f.bit = MOTOR.FOLLOW_FOLLOW_LIM.bit then some (t.writeLimit p f v 0 65535 true none)
  else if f.bit = MOTOR.DETECT_ILIM_ILIM.bit then some (t.storeClamped p f v (min v 8191) 5)
  else if f.bit = MOTOR.TIMING_SAMPLE_OFS.bit then
    some (t.storeClamped p f v (min v (t.fld (pPwm n) PWM.PERIOD_PERIOD - 1)) 7)
  else if f.bit = MOTOR.ALIGN_ALIGN_TIME.bit ∨ f.bit = MOTOR.HANDOVER_N.bit then
    some (t.lkGuard p f (max 1 v) (fun u => u.setFld p f (max 1 v)))
  else if f.bit = MOTOR.LOCK_LOCK_N.bit ∨ f.bit = MOTOR.LOCK_LOSS_LOSS_N.bit then some (t.setFld p f (max 1 v))
  else if f.bit = MOTOR.RAMP_END_V.bit then some (t.storeClamped p f v (max 65536 v) 8)
  else if f.bit = MOTOR.TD_CFG_TD_STOP.bit then
    let start := MOTOR.TD_CFG_TD_START.part w
    some (t.storeClamped p f v (if v ≤ start then min 1023 (start + 1) else v) 9)
  else if f.bit = MOTOR.OBS_ENV_MIN.bit then
    some (t.storeClamped p f v (min v (MOTOR.OBS_ENV_MAX.part w)) 3)
  else if f.bit = MOTOR.DERATE_ENV_MIN.bit then
    some (t.storeClamped p f v (min v (MOTOR.DERATE_ENV_MAX.part w)) 4)
  else if f.bit = MOTOR.OBS_GAIN_GAIN.bit then
    some (if t.on p MOTOR.ADAPT_OBS_ADAPT_EN then t.writeIgnored p
      else t.setFld p f (clampNat (t.fld p MOTOR.OBS_ENV_MIN) (t.fld p MOTOR.OBS_ENV_MAX) v))
  else if f.bit = MOTOR.DERATE_OUT_OUT.bit then
    some (if t.on p MOTOR.ADAPT_DERATE_EN then t.writeIgnored p
      else t.setFld p f (clampNat (t.fld p MOTOR.DERATE_ENV_MIN) (t.fld p MOTOR.DERATE_ENV_MAX) v))
  else none

/-- An output that lies outside its envelope is brought into it, whichever writes it (R33, R326, R353). -/
def State.inEnv (s : State) (p : Nat) (out lo hi : Fld) : State :=
  s.setFld p out (clampNat (s.fld p lo) (s.fld p hi) (s.fld p out))

/-- DERATING follows DERATE_OUT and ILIM_AVG (R324). -/
def State.showDerate (s : State) (n : Nat) : State :=
  let p := pMotor n
  let low := decide (s.fld p MOTOR.DERATE_OUT_OUT < s.fld p MOTOR.ILIM_AVG_ILIM)
  (s.setFld p MOTOR.STATUS_DERATING (b2n low)).condition p MOTOR.evTHERMAL_DERATE low

/-- RATIO as a signed number of electrical turns per µm x 2^48. -/
def State.ratio (s : State) (n : Nat) : Int := sgn 64 (s.pair (pMotor n) MOTOR.RATIO_LO_RATIO MOTOR.RATIO_HI_RATIO)

/-- `prod[63:32]` of R318. -/
def prodHi (p r : Int) : Nat := unsg 32 (p * r / 4294967296)

/-- The position that line lock uses now: none with no segment in force (R330). -/
def State.linePos (s : State) : Int := s.position.getD 0

/-- The shadows of a MOTOR page apply; a RATIO that applies alone leaves theta_line unchanged (R331). -/
def State.applyMotor (s : State) (n : Nat) : State :=
  let p := pMotor n
  let pend := fun (f : Fld) => (Tab.lookup s.shadows (regKey p f.bit)).isSome
  let moved := (pend MOTOR.RATIO_LO_RATIO || pend MOTOR.RATIO_HI_RATIO) && !pend MOTOR.ANGLE_OFFSET_OFFSET
  let s1 := s.applyShadows p
  if moved then
    s1.setFld p MOTOR.ANGLE_OFFSET_OFFSET (s.fld p MOTOR.ANGLE_OFFSET_OFFSET + prodHi s.linePos (s.ratio n)
      + (2 ^ 32 - prodHi s.linePos (s1.ratio n)))
  else s1

/-- A write of CTRL: STOP prevails over START (Table 8.7). -/
def State.motorCtrl (s : State) (n hh w : Nat) : State :=
  let s1 := if bitAt w 2 then s.faultClr n else s
  let s2 := if bitAt w 1 then s1.stopReq n else if bitAt w 0 then s1.startReq n hh else s1
  if bitAt w 3 then s2.offsetCal n else s2

/-- A write of a MOTOR page's block register. -/
def State.motorWrite (s : State) (a : Acc) (n off w : Nat) : State :=
  let p := pMotor n
  let fs := s.fieldsOf p off
  if off = 0x100 then s.motorCtrl n a.hh w
  else
    let s1 := s.writeEach p fs w (State.motorField n w)
    let s2 := if off = 0x1B4 then s1.inEnv p MOTOR.OBS_GAIN_GAIN MOTOR.OBS_ENV_MIN MOTOR.OBS_ENV_MAX
      else if off = 0x1D0 then s1.inEnv p MOTOR.DERATE_OUT_OUT MOTOR.DERATE_ENV_MIN MOTOR.DERATE_ENV_MAX
      else s1
    let s3 := if off = 0x1C0 ∨ off = 0x1D0 ∨ off = 0x1D4 then s2.showDerate n else s2
    if fs.any (fun f => f.kind == .sh) && s3.boundary p == 0 then s3.applyMotor n else s3

/-- The PWM fields that the current loop writes while the channel is not OFF (R311). -/
def pwmLoopField (off : Nat) : Bool := decide (0x10C ≤ off) && decide (off ≤ 0x124)

/-- The special fields of a PWM page (R353, R370). -/
def State.pwmField (n : Nat) (w : Nat) (t : State) (f : Fld) (v : Nat) : Option State :=
  let p := pPwm n
  if f.bit = PWM.PERIOD_PERIOD.bit then
    let c := max 2000 v
    let c2 := if t.on p PWM.CFG_MODE then c - c % 2 else c
    let t1 := t.setShadow p f c2
    some (if c2 = v then t1 else t1.clampBit p 0)
  else if f.bit = PWM.DT_ENV_MIN.bit then some (t.storeClamped p f v (min v (PWM.DT_ENV_MAX.part w)) 2)
  else if f.bit = PWM.MIN_PULSE_MIN.bit then some (t.storeClamped p f v (min v 1000) 3)
  else if f.bit = PWM.DT_OUT_DT_HS.bit ∨ f.bit = PWM.DT_OUT_DT_LS.bit then
    some (if t.on p PWM.CFG_ADT_EN then t.writeIgnored p
      else t.setShadow p f (clampNat (t.fld p PWM.DT_ENV_MIN) (t.fld p PWM.DT_ENV_MAX) v))
  else none

/-- The dead times, and those that wait in the shadow, are brought into a new envelope (R33, R352). -/
def State.dtInEnv (s : State) (n : Nat) : State :=
  let p := pPwm n
  [PWM.DT_OUT_DT_HS, PWM.DT_OUT_DT_LS].foldl (fun (t : State) f =>
    let u := t.inEnv p f PWM.DT_ENV_MIN PWM.DT_ENV_MAX
    match Tab.lookup u.shadows (regKey p f.bit) with
    | some v => u.setShadow p f (clampNat (u.fld p PWM.DT_ENV_MIN) (u.fld p PWM.DT_ENV_MAX) v.1)
    | none => u) s

/-- A write of a PWM page's block register. -/
def State.pwmWrite (s : State) (n off w : Nat) : State :=
  let p := pPwm n
  let fs := s.fieldsOf p off
  if pwmLoopField off ∧ s.motorState n ≠ 0 then s.writeIgnored p
  else
    let s0 := s.writeEach p fs w (State.pwmField n w)
    let s1 := if off = 0x12C then s0.dtInEnv n else s0
    if fs.any (fun f => f.kind == .sh) && s1.boundary p == 0 then s1.applyShadows p else s1

/-- The special fields of a GATE page (R353, R370, R371); `slew` says whether the slew loop is enabled at the write. -/
def State.gateField (n : Nat) (w : Nat) (slew : Bool) (t : State) (f : Fld) (v : Nat) : Option State :=
  let p := pGate n
  if f.bit = GATE.IL_TIME_CODE.bit then some (t.writeLimit p f v 1 20 false (some 0))
  else if f.bit = GATE.DIDT_TH_H.bit ∨ f.bit = GATE.DIDT_TH_L.bit then some (t.writeLimit p f v 0 15 true none)
  else if f.bit = GATE.TRIP_CFG_EN.bit then some (t.writeLimit p f v 0 1 false none)
  else if f.bit = GATE.TRIP_CFG_MODE.bit then some (t.writeLimit p f v 0 1 true none)
  else if f.bit = GATE.SOFT_OFF_T2L.bit then some (t.storeClamped p f v (min v 14) 1)
  else if f.bit = GATE.SLEW_ENV_H_MIN.bit then some (t.storeClamped p f v (min v (GATE.SLEW_ENV_H_MAX.part w)) 2)
  else if f.bit = GATE.SLEW_ENV_L_MIN.bit then some (t.storeClamped p f v (min v (GATE.SLEW_ENV_L_MAX.part w)) 2)
  else if f.bit = GATE.TEST_WIDTH_WIDTH.bit then some (t.storeClamped p f v (min v 100000) 3)
  else if f.bit = GATE.DRIVE_SRC_H.bit then
    some (if slew then t.writeIgnored p
      else t.setFld p f (clampNat (t.fld p GATE.SLEW_ENV_H_MIN) (t.fld p GATE.SLEW_ENV_H_MAX) v))
  else if f.bit = GATE.DRIVE_SRC_L.bit then
    some (if slew then t.writeIgnored p
      else t.setFld p f (clampNat (t.fld p GATE.SLEW_ENV_L_MIN) (t.fld p GATE.SLEW_ENV_L_MAX) v))
  else none

/-- DIAG_GO: while MOTORn is OFF (R366). -/
def State.diagGo (s : State) (n : Nat) : State :=
  if s.motorState n = 0 ∧ (s.gt n).diag = 0 ∧ (s.gt n).cst = 0 then s.diagBegin n false else s

/-- CST_GO: while MOTORn is OFF (R367). -/
def State.cstGo (s : State) (n : Nat) : State :=
  let g := s.gt n
  if s.motorState n = 0 ∧ g.diag = 0 ∧ g.cst = 0 then
    ((s.gatesOff n).modGt n (fun g => { g with cst := 1, halfDue := s.stepEnd n s.tb.beat 1, cstFail := 0 })).setFld
      (pGate n) GATE.CST_RESULT_DONE 0
  else s

/-- A write of TEST (Table 9.8): the direct test path, while the channel is OFF, with no latch set and no diagnostic run or
self-test, for TEST_WIDTH ticks. -/
def State.directTest (s : State) (n w : Nat) : State :=
  let g := s.gt n
  if bitsOf w 31 24 = 0xA7 ∧ s.motorState n = 0 ∧ !s.latched n ∧ s.linked n ∧ g.diag = 0 ∧ g.cst = 0 then
    (s.setGt n { g with
      test := true, testDue := s.tb.beat + s.fld (pGate n) GATE.TEST_WIDTH_WIDTH }).commands n (bitsOf w 5 0)
  else s

/-- A write of a GATE page's block register; TRIP_N acts as the new TRIP_CFG says. -/
def State.gateWrite (s : State) (n off w : Nat) : State :=
  let p := pGate n
  if off = 0x100 then
    let s1 := if bitAt w 0 then s.latchClr n else s
    let s2 := if bitAt w 1 then s1.diagGo n else s1
    if bitAt w 2 then s2.cstGo n else s2
  else if off = 0x138 then s.directTest n w
  else
    let s1 := s.writeEach p (s.fieldsOf p off) w (State.gateField n w (s.on p GATE.DRIVE_SLEW_EN))
    if off = 0x10C then
      (s1.inEnv p GATE.DRIVE_SRC_H GATE.SLEW_ENV_H_MIN GATE.SLEW_ENV_H_MAX).inEnv p GATE.DRIVE_SRC_L GATE.SLEW_ENV_L_MIN
        GATE.SLEW_ENV_L_MAX
    else if off = 0x120 then s1.tripAct n
    else s1

/-- REVG is driven while VCP is good and FORCE_OFF is 0 (R361). -/
def State.showRevg (s : State) : State :=
  s.setFld pOuvgor OUVGOR.PUMP_STATUS_REVG_ON
    (b2n (s.on pOuvgor OUVGOR.PUMP_STATUS_VCP_OK && !s.on pOuvgor OUVGOR.REV_CTRL_FORCE_OFF))

/-- CST_CTRL.GO of OUVGOR: while every MOTOR page is OFF (R369). -/
def State.ouvCstGo (s : State) : State :=
  if (List.range 4).all (fun n => s.motorState n == 0) then
    { s with dr := { s.dr with ouvCst := true } }.setFld pOuvgor OUVGOR.CST_RESULT_DONE 0
  else s

/-- A write of an OUVGOR block register. -/
def State.ouvWrite (s : State) (a : Acc) (off w : Nat) : State :=
  if off = 0x188 then (if bitAt w 0 then s.ouvCstGo else s)
  else (s.plainWrite a pOuvgor off w).showRevg

end Sys2Proof.Machine
end

