-- ==== Sys2Proof/Machine/Frame.lean ====
section
/-!
DEFINITION. Commons frames and the ports that carry them (Chapter 14): the layout of a frame, the send queues, credits,
and the routes that the tables name.
-/

namespace Sys2Proof

open Machine

/-! ### Frames (R539 to R542) -/

/-- The frame that all others are made from: no field set. -/
def Frame.blank : Frame :=
  ⟨0, 1, 0, false, false, false, false, false, 0, 0, 0xE, 0, 0, 0, false, false, 0, 0, 0, [], 0⟩

/-- Header word 0 (Table 14.3). -/
def Frame.word0 (f : Frame) : Nat :=
  f.kind % 16 * 2 ^ 60 + f.version % 16 * 2 ^ 56 + f.vc % 8 * 2 ^ 53 + b2n f.lcl * 2 ^ 52 + b2n f.down * 2 ^ 51
    + b2n f.bcast * 2 ^ 50 + b2n f.replayed * 2 ^ 49 + b2n f.poison * 2 ^ 48 + f.dst % 1024 * 2 ^ 38
    + f.src % 1024 * 2 ^ 28 + f.hh % 16 * 2 ^ 24 + f.epoch % 16 * 2 ^ 20 + f.payload.length % 16384

/-- Header word 1 (Table 14.3). -/
def Frame.word1 (f : Frame) : Nat :=
  f.seq % 4096 * 2 ^ 52 + f.ack % 4096 * 2 ^ 40 + b2n f.ackV * 2 ^ 39 + b2n f.nak * 2 ^ 38 + f.age % 2 ^ 32

/-- The header and the payload. -/
def Frame.body (f : Frame) : List Byte :=
  leBytes 8 f.word0 ++ leBytes 8 f.word1 ++ leBytes 8 f.arg2 ++ leBytes 8 f.arg3 ++ f.payload

/-- The frame bytes: header, payload, CRC, least significant byte first (R540, R542). -/
def Frame.bytes (f : Frame) : List Byte := f.body ++ leBytes 4 (crc32 f.body)

/-- How many frame bytes a frame has. -/
def Frame.size (f : Frame) : Nat := 36 + f.payload.length

/-- The credit units a frame takes (R549). -/
def Frame.units (f : Frame) : Nat := (f.size + 63) / 64

/-- Word `i` of a payload. -/
def Frame.word (f : Frame) (i : Nat) : Nat := ofLeBytes ((f.payload.drop (8 * i)).take 8)

/-- The words of a payload. -/
def Frame.words (f : Frame) : List Nat := (List.range (f.payload.length / 8)).map f.word

/-- A field of a payload: `n` bytes from byte `i`. -/
def Frame.bytesAt (f : Frame) (i n : Nat) : Nat := ofLeBytes ((f.payload.drop i).take n)

/-- The payload lengths that a kind allows (Tables 14.4, 14.7, 15.2, 15.5). -/
def Frame.payloadOk (f : Frame) : Bool :=
  let n := f.payload.length
  let sub := f.arg2 % 16
  match f.kind with
  | 0 => let u := bitsOf f.arg2 63 60
         (u == 0 && n == 0) || (u == 1 && n == 32)
  | 1 => decide (32 ≤ n) && n % 32 == 0 && n / 32 == bitsOf (f.word 0) 48 44 + 1 && decide (bitsOf (f.word 0) 51 50 ≤ 1) && vcOf (bitsOf (f.word 0) 51 50)
          (bitsOf (f.word 0) 49 49) == f.vc && !badHeader (f.word 0)
  | 2 => decide (f.vc ≤ 1) && decide (8 ≤ n)
  | 3 => decide (n ≤ 64) && decide (12 ≤ sub) && f.vc == 5 && (sub != 12 || n == 64) && (sub != 14 || n == 32)
  | 4 => f.vc == 4 && (match sub with
    | 0 => n == 32
    | 1 => n == 72
    | 2 => n == 24
    | 3 => n == 12 * bitsOf f.arg3 26 16 || n == (12 * bitsOf f.arg3 26 16 + 7) / 8 * 8
    | 4 => n == 0
    | 5 => n == 0
    | _ => false)
  | 5 => f.vc == 5 && f.lcl && n == 32 && decide (sub ≤ 2)
  | _ => false

/-- The reason why an accepted frame is bad (R541, R569): 1 KIND, 2 VERSION, 3 LEN, 4 payload; 0 for a good one. -/
def Frame.badReason (f : Frame) : Nat :=
  if 6 ≤ f.kind then 1
  else if f.version ≠ 1 then 2
  else if 8192 < f.payload.length ∨ f.payload.length % 8 ≠ 0 then 3
  else if f.payloadOk then 0 else 4

end Sys2Proof

namespace Sys2Proof.Machine

/-! ### Ports -/

/-- A port. -/
def State.port (s : State) (k : Nat) : PortSt := Tab.get PortSt.reset s.fab.ports k

/-- Writes a port. -/
def State.setPort (s : State) (k : Nat) (x : PortSt) : State :=
  { s with fab := { s.fab with ports := Tab.set PortSt.reset s.fab.ports k x } }

/-- LINK_STATUS.STATE (Table 14.5). -/
def State.linkState (s : State) (k : Nat) : Nat := s.fld (pFabp k) FABP.LINK_STATUS_STATE

/-- The port is UP. -/
def State.portUp (s : State) (k : Nat) : Bool := s.linkState k == 4

/-- The ports that are UP. -/
def State.upPorts (s : State) : List Nat := (List.range 4).filter s.portUp

/-- The units a channel of a port holds of frames received (R549). -/
def State.rxHeld (s : State) (k vc : Nat) : Nat :=
  ((s.fab.units.filter (fun u => u.port == k && u.vc == vc)).map HeldUnits.units).sum

/-- The credit for a channel of a port (R549). -/
def State.txCredit (s : State) (k vc : Nat) : Nat :=
  let p := s.port k
  (Tab.get 0 p.rxUnits vc + Tab.get 0 p.cum vc + 4096 - Tab.get 0 p.sentUnits vc) % 4096

/-- A received frame leaves its buffer: its units are returned, and 32 returned units make a LINK UPDATE due by
LINK_UPDATE_DUE (R549, R550). -/
def State.freePlace (s : State) (n : Nat) : State :=
  match s.fab.units.find? (fun u => u.place == n) with
  | none => s
  | some u =>
    let p := s.port u.port
    let s1 := { s with fab := { s.fab with units := s.fab.units.filter (fun x => x.place != n) } }
    s1.setPort u.port { p with back := Tab.set 0 p.back u.vc ((Tab.get 0 p.back u.vc + u.units) % 4096) }

/-- Places of received frames that no send queue and no agent holds any more are freed. -/
def State.freeUnused (s : State) : State :=
  let used := s.fab.ports.flatMap (fun e => e.2.txq.filterMap TxFrame.place) ++ s.fab.inbound.map InReq.place
  (s.fab.units.filter (fun u => !used.contains u.place)).foldl (fun t u => t.freePlace u.place) s

/-- A frame joins the send queue of a port. -/
def State.queueFrame (s : State) (k : Nat) (x : TxFrame) : State :=
  let p := s.port k
  s.setPort k { p with txq := p.txq ++ [x] }

/-- The device's number while NUM_VALID is 1. -/
def State.numValid (s : State) : Bool := s.on pDisc DISC.DISC_STATUS_NUM_VALID

/-- DEV_NUM. -/
def State.devNum (s : State) : Nat := s.fld pDisc DISC.DISC_STATUS_DEV_NUM

/-- ACTIVE_EPOCH. -/
def State.activeEpoch (s : State) : Nat := s.fld pRoute ROUTE.RT_STATUS_ACTIVE_EPOCH

/-- A frame that this device makes for the partner of a port only. -/
def State.sendLocal (s : State) (k : Nat) (f : Frame) : State :=
  if s.portUp k then
    s.queueFrame k ⟨4, none, { f with lcl := true, src := s.devNum, epoch := s.activeEpoch % 16 }⟩
  else s

/-! ### Routes (R554, R566) -/

/-- The order of a device of a map. -/
def MapEntry.below (a b : MapEntry) : Bool := decide (a.depth < b.depth) || (a.depth == b.depth && decide (a.dev < b.dev))

/-- The entry of a number in a map. -/
def mapEntry (m : List MapEntry) (d : Nat) : Option MapEntry := m.find? (fun e => e.dev == d)

/-- Port `k` of this device is a down hop in a map. -/
def State.downHopIn (s : State) (m : List MapEntry) (k : Nat) : Bool :=
  match mapEntry m s.devNum with
  | none => false
  | some me =>
    match mapEntry m (nth 0xFFFF me.nbrs k) with
    | none => false
    | some o => me.below o

/-- Port `k` is a down hop of the active map. -/
def State.downHop (s : State) (k : Nat) : Bool := s.downHopIn s.disc.map k

/-- The route of a number in the active tables. -/
def State.routeOf (s : State) (d : Nat) : Route :=
  ⟨s.fld pRoute (ROUTE.RT_ENTRY_UP_PORT.at d), s.fld pRoute (ROUTE.RT_ENTRY_DOWN_PORT.at d), s.fld pRoute (ROUTE.RT_ENTRY_HOPS.at d)⟩

/-- An unreachable route (R575). -/
def Route.none : Route := ⟨15, 15, 31⟩

/-- A drop that counts as UNROUTABLE (R569). -/
def State.unroutable (s : State) (hh : Nat) : State := (s.raiseBy pFab FAB.evUNROUTABLE hh).bump pFab FAB.DROPS_UNROUTABLE

/-- The engine stores an event frame's local copy: it is handed to the unit that takes it. -/
def State.handEvent (s : State) (f : Frame) : State := s.send "EVT" (f.arg2 % 16) (f.src :: f.words)

/-- Puts a frame, routed to a port, into that port's queue; a port that is not up loses it (Table 14.8). -/
def State.toPort (s : State) (k from_ : Nat) (place : Option Nat) (f : Frame) (down : Bool) : State :=
  if s.portUp k then s.queueFrame k ⟨from_, place, { f with down := f.down || down }⟩ else s.unroutable f.hh

/-- This device sends a frame of its own to a number: it takes UP_PORT and carries the active epoch (R554, R567). -/
def State.sendRouted (s : State) (f : Frame) : State :=
  let r := s.routeOf f.dst
  let g := { f with src := s.devNum, epoch := s.activeEpoch % 16 }
  if r.up < 4 then s.toPort r.up 4 none g (s.downHop r.up) else s.unroutable f.hh

/-! ### The constellation's part in the almanac (R597) -/

/-- The device belongs to a constellation and is its root. -/
def State.constRoot (s : State) : Bool := s.enabled pConst && s.on pDisc DISC.DISC_STATUS_IS_ROOT

/-- The device belongs to a constellation and is not its root (R135, R597). -/
def State.constMember (s : State) : Bool := s.enabled pConst && !s.on pDisc DISC.DISC_STATUS_IS_ROOT

/-- The child ports (R555). -/
def State.childPorts (s : State) : List Nat :=
  (List.range 4).filter (bitAt (s.fld pDisc DISC.DISC_STATUS_CHILD_PORTS))

/-- An exchange in progress becomes void (R581). -/
def State.voidExchange (s : State) : State :=
  { s with cst := { s.cst with exch := s.cst.exch.map (fun (x : Exchange) => { x with void := true }) } }

/-- The payload of an ALMANAC event (Table 15.5). -/
def almPayload (k op group st seq : Nat) (e : AlmEntry) : List Byte :=
  leBytes 1 k ++ leBytes 1 op ++ leBytes 1 group ++ leBytes 1 st ++ leBytes 4 seq ++ leBytes 8 e.mer
    ++ leBytes 4 (e.owner * 2 ^ 28 + e.late * 2 ^ 24 + e.target * 2 ^ 8 + e.code) ++ leBytes 4 e.arg ++ leBytes 8 0

/-- An ALMANAC event frame. -/
def almFrame (dst : Nat) (bcast : Bool) (p : List Byte) : Frame :=
  { Frame.blank with kind := 3, vc := 5, bcast := bcast, dst := dst, hh := 0xF, arg2 := 0xE, payload := p }

/-- DIST_SEQ of an entry. -/
def State.entrySeq (s : State) (k : Nat) : Nat := Tab.get 0 s.cst.seqs k

/-- The group of a distributed entry (Table 15.9). -/
def State.almGroup (s : State) (k : Nat) : Nat := s.fld pConst (CONST.DIST_GROUP_GROUP.at (k - 32))

/-- The root distributes an entry down every child port (R597). -/
def State.distribute (s : State) (k op : Nat) (e : AlmEntry) : State :=
  let f := { almFrame s.devNum true (almPayload k op (s.almGroup k) 0 (s.entrySeq k) e) with
    src := s.devNum, epoch := s.activeEpoch % 16 }
  s.childPorts.foldl (fun t p => t.toPort p 4 none f (t.downHop p)) s

end Sys2Proof.Machine
end

