-- ==== Sys2Proof/Machine/Timebase.lean ====
section
/-!
DEFINITION. The timebase (Chapter 4): reads and loads of the sidereal counter, the dawn sequence, the fields and
states of the almanac, and the reference monitor. Applying an almanac entry stands in Almanac.lean.
-/

namespace Sys2Proof.Machine

/-! ### The sidereal counter (R116 to R119) -/

/-- The page and offset of a TIME register reached directly or through an HH page (R658). -/
def timePage (via : Option (Fin 8)) : Nat :=
  match via with
  | none => pTime
  | some h => pHh h

/-- The identity under which a TIME register is read: household h's through its HH page (R658). -/
def timeIdent (a : Acc) (via : Option (Fin 8)) : Nat :=
  match via with
  | none => a.hh
  | some h => h

/-- The place of the SID latch of a master and identity (R117). -/
def latchKey (a : Acc) (ident : Nat) : Nat := a.master.id * 16 + ident

/-- Reading SID_LO returns the master count and latches its upper half (R117). -/
def State.readSidLo (s : State) (a : Acc) (ident : Nat) (both : Bool) : State :=
  let s1 := { s with tb := { s.tb with latches := Tab.insert s.tb.latches (latchKey a ident) (s.tb.count / 2 ^ 32) } }
  s1.answer [if both then s.tb.count else s.tb.count % 2 ^ 32]

/-- SID_LO_READ (R117, R162): a 64-bit read returns both halves of one count and latches as a read of SID_LO. -/
def execSidLoRead (a : Acc) (both : Bool) (via : Option (Fin 8)) (s : State) : Out :=
  .next (s.access (.sidLoRead a both via) a (timePage via) 0x100 false
    (fun t => t.readSidLo a (timeIdent a via) both))

/-- SID_HI_READ (R117): the latched half, or the live upper half where nothing is latched. -/
def execSidHiRead (a : Acc) (via : Option (Fin 8)) (s : State) : Out :=
  .next (s.access (.sidHiRead a via) a (timePage via) 0x104 false
    (fun t => t.answer [(Tab.lookup t.tb.latches (latchKey a (timeIdent a via))).getD (t.tb.count / 2 ^ 32)]))

/-- A motor channel is enabled (R119, Table 4.3). -/
def State.motorEnabled (s : State) : Bool := (List.range 4).any (fun n => s.enabled (pMotor n))

/-- A run is active in some household. -/
def State.runActive (s : State) : Bool := s.fld pSieve SIEVE.RUNNING_RUNNING != 0

/-- A trigger or strobe output is armed. -/
def State.outputArmed (s : State) : Bool :=
  s.fld pTrig TRIG.ARMED_ARMED != 0 || s.fld pStrobe STROBE.ARMED_ARMED != 0

/-- An axis channel is enabled. -/
def State.axisEnabled (s : State) : Bool := (List.range 6).any (fun k => s.on pAxis (AXIS.CFG_EN.at k))

/-- An almanac entry. -/
def State.almEntry (s : State) (k : Nat) : AlmEntry := Tab.get AlmEntry.reset s.tb.alm k

/-- Writes an almanac entry. -/
def State.setAlm (s : State) (k : Nat) (e : AlmEntry) : State :=
  { s with tb := { s.tb with alm := Tab.set AlmEntry.reset s.tb.alm k e } }

/-- The entry is ARMED or LOCKED. -/
def AlmEntry.armed (e : AlmEntry) : Bool := e.st == 1 || e.st == 2

/-- Some armed entry has a meridian that a test accepts. -/
def State.anyArmed (s : State) (p : Nat → Bool) : Bool := s.tb.alm.any (fun x => x.2.armed && p x.2.mer)

/-- The master count on a beat to come: the last load that takes effect by then, else the running count (R116, R119). -/
def State.countAt (s : State) (beat : Nat) : Nat :=
  match (s.tb.load.filter (fun l => decide (l.2 ≤ beat))).getLast? with
  | some l => cadd l.1 (beat - l.2)
  | none => cadd s.tb.count (beat - s.tb.beat)

/-- The reason to refuse a counter load of `v`, 0 for none (R119, Table 4.10). -/
def State.loadRefusal (s : State) (v : Nat) : Nat :=
  if v ≤ s.countAt (s.tb.beat + 64) then 2
  else if s.motorEnabled || s.runActive || s.outputArmed || s.axisEnabled then 3
  else if s.anyArmed (fun m => decide (m ≤ v)) then 4
  else 0

/-- The effect of writing LOAD_GO (R119). -/
def State.loadGo (s : State) : State :=
  let v := s.pair pTime TIME.LOAD_LO_V_LO TIME.LOAD_HI_V_HI
  let r := s.loadRefusal v
  if r = 0 then { s with tb := { s.tb with load := s.tb.load ++ [(v, s.tb.beat + 64)] } }
  else (s.setFld pTime TIME.LOAD_CTRL_LOAD_RESULT r).raiseBy pTime TIME.evLOAD_REFUSED 15

/-- LOAD_GO (R119). -/
def execLoadGo (a : Acc) (s : State) : Out :=
  .next (s.access (.loadGo a) a pTime 0x110 true State.loadGo)

/-- The constellation engine's own load has applied: the stored values are cleared and it measures again (R589). -/
def State.constLoaded (s : State) : State :=
  if s.fld pConst CONST.CONST_STATUS_STATE = 5 then
    { s with cst := { s.cst with vals := [], run := 0, blocked := false, rem := 0 } }.setFld pConst CONST.CONST_STATUS_STATE 4
  else s

/-- No page refills on the tick of a counter load: refill goes on from the first multiple after the loaded value (R525). -/
def State.skipRefills (s : State) : State :=
  (List.range 9).foldl (fun (t : State) g =>
    let c := Tab.get SchSt.reset t.sch g
    { t with sch := Tab.set SchSt.reset t.sch g { c with refilled := t.tb.beat + 1 } }) s

/-- COUNTER_LOAD_APPLY (R119): every replica reads V on the tick of the oldest load; with none due nothing happens. An
exchange in progress is void (R581). -/
def execCounterLoadApply (s : State) : Out :=
  match s.tb.load with
  | (v, due) :: rest =>
    if due ≤ s.tb.beat then
      .next ({ s with tb := { s.tb with count := cadd v (s.tb.beat - due), load := rest } }.setFld pTime
        TIME.LOAD_CTRL_LOAD_RESULT 1).skipRefills.voidExchange.constLoaded
    else .next s
  | [] => .next s

/-! ### The dawn sequence (R120 to R122, R145, R147) -/

/-- The router island of a side island 30 to 40 (Table 4.2). -/
def sideRouter (i : Nat) : Nat :=
  if i = 30 then 29 else if i = 31 ∨ i = 40 then 3 else if i ≤ 35 then 4 else if i ≤ 37 then 5 else 11

/-- Two islands are joined by a crossing (R114). -/
def joined (a b : Nat) : Bool :=
  if a < 30 ∧ b < 30 then
    (a / 6 == b / 6 && (a + 1 == b || b + 1 == a)) || (a % 6 == b % 6 && (a + 6 == b || b + 6 == a))
  else if a < 30 then sideRouter b == a
  else if b < 30 then sideRouter a == b
  else false

/-- The crossings in order of (source island, destination island) (R114). -/
def crossings : List (Nat × Nat) :=
  (List.range 41).flatMap (fun a => ((List.range 41).filter (joined a)).map (fun b => (a, b)))

/-- The automatic dawn starts, without a drain step, unless one has run since POR or WARM or runs (R120, R147). -/
def State.autoDawn (s : State) : State :=
  if s.tb.running || s.tb.dawned || s.tb.dawn ≠ 0 then s
  else
    ({ s with tb := { s.tb with dawn := 2, dawnAuto := true, dawnAt := s.tb.beat } }.setFld pDawn
      DAWN.DAWN_STATUS_STATE 2).setFld pDawn DAWN.DAWN_STATUS_ATTEMPTS 0

/-- The beat PLL locks (R112, R120, R147). -/
def State.pllLock (s : State) : State := (s.setFld pRefmon REFMON.STATUS_PLL_LOCK 1).autoDawn

/-- PLL_LOCK (R120, R147). -/
def execPllLock (s : State) : Out := .next s.pllLock

/-- The lowest applicable refusal of a requested dawn, 0 for none (Table 4.3). -/
def State.dawnRefusal (s : State) : Nat :=
  if s.motorEnabled then 1 else if s.runActive then 2 else if s.outputArmed then 3
  else if s.axisEnabled then 4
  else if s.anyArmed (fun m => decide (s.tb.count ≤ m) && decide (m ≤ s.tb.count + 8192)) then 5
  else if s.tb.dawn ≠ 0 then 6 else 0

/-- The effect of writing DAWN_CTRL.REQ (R120, R121). -/
def State.dawnReq (s : State) : State :=
  let r := s.dawnRefusal
  if r = 0 then
    { s with tb := { s.tb with dawn := 1, dawnAuto := false, dawnAt := s.tb.beat + 2048 } }.setFld pDawn
      DAWN.DAWN_STATUS_STATE 1
  else (s.setFld pDawn DAWN.DAWN_STATUS_REFUSE_CODE r).raiseBy pDawn DAWN.evDAWN_REFUSED 15

/-- DAWN_REQ (R120). -/
def execDawnReq (a : Acc) (s : State) : Out :=
  .next (s.access (.dawnReq a) a pDawn 0x100 true State.dawnReq)

/-- The dawn ends in DAWN_FAIL with a code and a crossing (R121, R122). -/
def State.dawnFail (s : State) (code xing : Nat) : State :=
  ((({ s with tb := { s.tb with dawn := 0, haltedIslands := false, dawned := true } }.setFld pDawn
    DAWN.DAWN_STATUS_STATE 6).setFld pDawn DAWN.DAWN_STATUS_FAIL_CODE code).setFld pDawn
    DAWN.DAWN_STATUS_FAIL_XING xing).raiseBy pDawn DAWN.evDAWN_FAIL (if s.tb.dawnAuto then 14 else 15)

/-- The running dawn stands before step `k`, whose beat has come (Table 4.4). -/
def State.dawnDue (s : State) (k : Nat) : Bool := s.tb.dawn == k && decide (s.tb.dawnAt ≤ s.tb.beat)

/-- DAWN_DRAIN_CHECK (R121), 2,048 ticks after the request: a crossing that is not empty fails the dawn with code 1 and the lowest such
crossing. -/
def execDawnDrainCheck (notEmpty : List (Fin 120)) (s : State) : Out :=
  if !s.dawnDue 1 then .next s
  else
    match notEmpty with
    | [] =>
      .next (({ s with tb := { s.tb with dawn := 2 } }.setFld pDawn DAWN.DAWN_STATUS_STATE 2).setFld pDawn
        DAWN.DAWN_STATUS_ATTEMPTS 0)
    | x :: xs => .next (s.dawnFail 1 (xs.foldl (fun m y => min m y.val) x.val))

/-- DAWN_PRIME (R121), at P_a: the islands halt and every crossing is reset and primed with 4 null entries. The spec does
not say from which tick each value of DAWN_STATUS.STATE holds: it reads PRIME until P_a, RELEASE until the release and MEASURE
after it (DESIGN CHOICE, log entry 67). -/
def execDawnPrime (s : State) : Out :=
  if !s.dawnDue 2 then .next s
  else
    .next ({ s with tb := { s.tb with dawn := 3, haltedIslands := true, dawnAt := s.tb.dawnAt + 1024,
                                      xocc := (List.range 120).map (fun i => (i, 4)) } }.setFld
      pDawn DAWN.DAWN_STATUS_STATE 3)

/-- The round robin pointers of the Commons ports return to their start at a dawn release (R553). -/
def State.portsDawn (s : State) : State :=
  (List.range 4).foldl (fun (t : State) k =>
    let p := Tab.get PortSt.reset t.fab.ports k
    { t with fab := { t.fab with ports := Tab.set PortSt.reset t.fab.ports k { p with rr := [] } } }) s

/-- DAWN_RELEASE (R121, R147, R343, R553, R581), 1,024 ticks after P_a: the islands resume with the master count, which the first release after POR or WARM
starts at 0. -/
def execDawnRelease (s : State) : Out :=
  if !s.dawnDue 3 then .next s
  else
    let c := if s.tb.running then s.tb.count else 0
    let s0 : State := if s.tb.running then s else s.axisBegin
    let s1 := ({ s0 with tb := { s.tb with dawn := 4, haltedIslands := false, running := true, count := c,
                                              dawnAt := s.tb.dawnAt + 256 } }).nocDawn.portsDawn.voidExchange.alignAll
    .next ((s1.setPair pDawn DAWN.REL_LO_REL_LO DAWN.REL_HI_REL_HI c).setFld pDawn DAWN.DAWN_STATUS_STATE 4)

/-- The margin of a phase in sixteenths of a beat (R122). -/
def marginOf (ph : Nat) : Nat := min ph (16 - ph)

/-- The crossings whose margin is below 2/16, lowest first (R121). -/
def marginal (phases : List (Fin 16)) : List Nat :=
  (List.range 120).filter (fun i => decide (marginOf (nth 0 phases i).val < 2))

/-- The measured phases and occupancies are stored (R122); a dawn without failure leaves every crossing 4 entries
(R114). -/
def State.storeXings (s : State) (phases : List (Fin 16)) (occ : List (Fin 9)) : State :=
  let occ := if (marginal phases).isEmpty then [] else occ
  { s with tb := { s.tb with
      xphase := (List.range 120).map (fun i => (i, (nth 0 phases i).val))
      xocc := (List.range 120).map (fun i => (i, (nth 4 occ i).val)) } }

/-- Shifts the destination islands of the marginal crossings by 8/16 beat (R122). -/
def shiftIslands (xs : List Nat) (sh : List (Nat × Nat)) : List (Nat × Nat) :=
  ((xs.map (fun x => (nth (0, 0) crossings x).2)).eraseDups).foldl
    (fun t d => Tab.set 0 t d ((Tab.get 0 t d + 8) % 16)) sh

/-- DAWN_MEASURE_END (R121, R122, R145), 1,280 ticks after P_a: done, a retry with a phase shift, or failure after attempt 3. -/
def execDawnMeasureEnd (phases : List (Fin 16)) (occ : List (Fin 9)) (s : State) : Out :=
  if !s.dawnDue 4 then .next s
  else
    let s1 := s.storeXings phases occ
    let a := s.fld pDawn DAWN.DAWN_STATUS_ATTEMPTS
    match marginal phases with
    | [] =>
      .next (((({ s1 with tb := { s1.tb with dawn := 0, dawned := true } }.setFld pDawn
        DAWN.DAWN_STATUS_STATE 5).setFld pDawn DAWN.DAWN_STATUS_UNALIGNED 0).incr pDawn
        DAWN.DAWN_COUNT_COUNT).raise pDawn DAWN.evDAWN_DONE)
    | x :: xs =>
      if a < 3 then
        .next ((({ s1 with tb := { s1.tb with dawn := 2, shift := shiftIslands (x :: xs) s1.tb.shift } }.setFld pDawn
          DAWN.DAWN_STATUS_STATE 2).setFld pDawn DAWN.DAWN_STATUS_ATTEMPTS (a + 1)).raise pDawn DAWN.evDAWN_RETRY)
      else
        .next (((s1.dawnFail 2 x).setFld pDawn DAWN.DAWN_STATUS_UNALIGNED 1).incr pDawn DAWN.DAWN_COUNT_COUNT)

/-! ### Almanac fields and states (R123, R124, R127) -/

/-- The entry that ALM_SEL of the page selects. -/
def State.almSel (s : State) (via : Option (Fin 8)) : Nat :=
  match via with
  | none => s.fld pTime TIME.ALM_SEL_INDEX
  | some h => s.fld (pHh h) HH.ALM_SEL_INDEX

/-- Serves an access to the selected almanac entry: through an HH page, an entry of another owner is a denial
(R658). -/
def State.almAccess (s : State) (i : Instr) (a : Acc) (via : Option (Fin 8)) (off : Nat)
    (k : State → Nat → State) : State :=
  let o := match via with
    | none => off
    | some _ => off - 0x0C
  s.access i a (timePage via) o true (fun t =>
    match via with
    | none => k t (t.almSel via)
    | some h =>
      if (t.almEntry (t.almSel via)).owner = h.val then k t (t.almSel via)
      else t.denial a (regAddr (timePage via) o) true)

/-- A value written to one of the four field registers of an entry (Table 4.10); through an HH page OWNER ignores
writes (R149). -/
def AlmEntry.write (e : AlmEntry) (viaHh : Bool) (reg : Nat) (w : Nat) : AlmEntry :=
  match reg with
  | 0 => { e with mer := e.mer / 2 ^ 32 * 2 ^ 32 + w }
  | 1 => { e with mer := w * 2 ^ 32 + e.mer % 2 ^ 32 }
  | 2 =>
    let o := bitsOf w 31 28
    { e with
      owner := if viaHh || (8 ≤ o && o ≤ 14) then e.owner else o
      late := if bitsOf w 25 24 ≤ 1 then bitsOf w 25 24 else 0
      target := bitsOf w 16 8
      code := bitsOf w 3 0 }
  | _ => { e with arg := w }

/-- The effect of a field write on the selected entry (R123). -/
def State.almFieldWrite (s : State) (hh : Nat) (viaHh : Bool) (reg w k : Nat) : State :=
  let e := s.almEntry k
  if e.armed then s.raiseBy pTime TIME.evALM_LOCKED hh
  else s.setAlm k ({ e with st := 0, now := none }.write viaHh reg w)

/-- Software may change entry `k` (R597). -/
def State.almMine (s : State) (k : Nat) : Bool :=
  if s.constMember then decide (k < 32) else if s.constRoot then k != 63 else true

/-- A field write by software: an entry of the constellation is locked (R597). -/
def State.almSoftField (s : State) (hh : Nat) (viaHh : Bool) (reg w k : Nat) : State :=
  if s.almMine k then s.almFieldWrite hh viaHh reg w k else s.raiseBy pTime TIME.evALM_LOCKED hh

/-- ALM_FIELD_WRITE (R123): registers 0 to 3 are MER_LO, MER_HI, ACTION and ARG. -/
def execAlmFieldWrite (a : Acc) (via : Option (Fin 8)) (reg : Fin 4) (w : Word) (s : State) : Out :=
  .next (s.almAccess (.almFieldWrite a via reg w) a via (0x118 + 4 * reg.val)
    (fun t k => t.almSoftField a.hh via.isSome reg w.toNat k))

/-- The entry may not be armed: a reserved action, or a REF_SWITCH to no candidate (R123). -/
def AlmEntry.bad (e : AlmEntry) : Bool :=
  decide (9 ≤ e.code) || (e.code == 7 && decide (6 ≤ e.arg % 16) && decide (e.arg % 16 ≤ 14))

/-- The effect of ARM on an entry (R123, R127). -/
def State.almArm (s : State) (hh k : Nat) : State :=
  let e := s.almEntry k
  if e.armed then s
  else if e.bad then s.raiseBy pTime TIME.evALM_BAD hh
  else if e.mer < s.tb.count + 256 then
    if e.late = 0 then
      (s.setAlm k { e with st := 4, applied := s.tb.count }).raiseBy pTime TIME.evMERIDIAN_PAST hh
    else (s.setAlm k { e with st := 1, now := some (s.tb.beat + 1) }).raiseBy pTime TIME.evMERIDIAN_LATE hh
  else s.setAlm k { e with st := 1, now := none }

/-- The root arms a distributed entry and sends it down the tree, or refuses one too near (R597). -/
def State.rootArm (s : State) (hh k : Nat) : State :=
  let e := s.almEntry k
  if e.armed || e.bad then s.almArm hh k
  else if e.mer < s.tb.count + s.fld pConst CONST.DIST_MIN_ST then s.raiseBy pConst CONST.evDIST_REFUSED hh
  else
    let n := (s.cst.distSeq + 1) % 2 ^ 32
    let s1 := s.almArm hh k
    let s2 := { s1 with cst := { s1.cst with
      distSeq := n, seqs := Tab.set 0 s1.cst.seqs k n, acks := Tab.insert s1.cst.acks k (0, 0, 0) } }
    s2.distribute k 0 e

/-- ARM by software (R123, R127, R597). -/
def State.almSoftArm (s : State) (hh k : Nat) : State :=
  if s.almMine k then
    if s.constRoot && decide (32 ≤ k) then s.rootArm hh k else s.almArm hh k
  else s.raiseBy pTime TIME.evALM_LOCKED hh

/-- ALM_ARM (R123, R127). -/
def execAlmArm (a : Acc) (via : Option (Fin 8)) (s : State) : Out :=
  .next (s.almAccess (.almArm a via) a via 0x128 (fun t k => t.almSoftArm a.hh k))

/-- An entry is LOCKED: its meridian is at most 256 st away, also on the tick on which it becomes so (R124, Table 4.7). -/
def State.almLocked (s : State) (e : AlmEntry) : Bool :=
  e.st == 2 || (e.st == 1 && e.now.isNone && decide (e.mer ≤ s.tb.count + 256))

/-- The effect of CANCEL on an entry (R124). -/
def State.almCancel (s : State) (hh k : Nat) : State :=
  let e := s.almEntry k
  if e.st = 1 ∧ !s.almLocked e then s.setAlm k { e with st := 6, now := none }
  else if e.armed then s.raiseBy pTime TIME.evALM_LOCKED hh
  else s

/-- CANCEL by software; on the root a distributed entry's is sent down the tree (R124, R597). -/
def State.almSoftCancel (s : State) (hh k : Nat) : State :=
  if s.almMine k then
    let e := s.almEntry k
    let t := s.almCancel hh k
    if s.constRoot && decide (32 ≤ k) && e.st == 1 then t.distribute k 1 e else t
  else s.raiseBy pTime TIME.evALM_LOCKED hh

/-- ALM_CANCEL (R124). -/
def execAlmCancel (a : Acc) (via : Option (Fin 8)) (s : State) : Out :=
  .next (s.almAccess (.almCancel a via) a via 0x128 (fun t k => t.almSoftCancel a.hh k))

/-- The nodes whose units an entry acts on (Tables 4.5, 5.2). -/
def State.almNodes (s : State) (e : AlmEntry) : List Nat :=
  match e.code with
  | 1 => if (s.blk e.target).isSome then [pageNode s e.target] else []
  | 2 => (((List.range 64).filter (fun t => (s.blk (pTile t)).isSome && s.owner (pTile t) == e.arg % 16)).map
      s.tileNode).eraseDups
  | 3 | 4 => [4]
  | 5 | 6 => [3]
  | _ => []

/-- The timebase sends an entry to a node as a timed event (R440, Table 11.4): its index in ARG, its words in a data flit. -/
def State.offerEntry (s : State) (k : Nat) (e : AlmEntry) (node : Nat) : State :=
  let w0 := node * 2 ^ 58 + 2 * 2 ^ 50 + 2 ^ 49 + 0xE * 2 ^ 40 + e.owner % 16 * 2 ^ 36 + 4 * 2 ^ 33
  s.offer (agentKey 29 1) 5 (packetFlits [s.sendW0 29 w0 1, 2 ^ 61, 0, k] [[e.mer, e.code, e.target, e.arg]])

/-- ALM_LOCK (R124, R440): 256 st before its meridian an ARMED entry becomes LOCKED, and on that beat it is sent to every
node whose units it acts on. -/
def execAlmLock (k : Fin 64) (s : State) : Out :=
  let e := s.almEntry k
  if e.st = 1 ∧ s.almLocked e then
    .next ((s.almNodes e).foldl (fun t n => t.offerEntry k e n) (s.setAlm k { e with st := 2 }))
  else .next s

/-! ### The reference monitor (R128 to R144, R146) -/

/-- The nominal period of a candidate in 1/32 st (R128). -/
def State.candPeriod (s : State) (c : Nat) : Nat :=
  if c = 1 ∧ s.fld pRefmon REFMON.REFIN_FREQ_F25 = 0 then 3200 else 1280

/-- The offset d_c of a candidate in 0.05 ppm (R128). -/
def candOffset (period : Nat) (m : CandMeas) : Int :=
  roundHalfAway (((m.periods * period : Nat) - (m.delta : Int)) * 20000000) m.delta

/-- A candidate's standing in a window: code, offset, valid, dependent. -/
structure CandView where
  code : Nat
  d : Int
  valid : Bool
  dep : Bool
  deriving DecidableEq, Repr

/-- The candidate FT of a window (R596): the change of O over the window less the steering applied in it; valid in
STEER and ALIGNED only. -/
def State.ftView (s : State) : CandView :=
  let o := s.sfld pConst CONST.OFFSET_O
  let d := roundHalfAway (-((o - s.cst.lastO) - (s.cst.steer - s.cst.lastSteer)) * 20000000) (64 * 1048576)
  let st := s.fld pConst CONST.CONST_STATUS_STATE
  ⟨6, d, bitAt (s.fld pRefmon REFMON.CAND_EN_EN) 6 && (st == 6 || st == 7) && decide (d.natAbs ≤ 20000), false⟩

/-- The PCS of port k is locked (R111, R573). -/
def State.pcsLocked (s : State) (k : Nat) : Bool := s.on (pFabp k) FABP.LINK_STATUS_BLOCK_LOCK

/-- What makes a candidate measurable now: it is enabled, and the PCS of a fabric candidate's port is locked (R111,
R129). -/
def State.candLive (s : State) (c : Nat) : Bool :=
  bitAt (s.fld pRefmon REFMON.CAND_EN_EN) c && (!(decide (2 ≤ c) && decide (c ≤ 5)) || s.pcsLocked (c - 2))

/-- The seven candidates of a window (R129). -/
def State.candViews (s : State) (meas : List CandMeas) : List CandView :=
  (List.range 6).map (fun c =>
    let m := nth ⟨0, 0, false, false⟩ meas c
    let d := candOffset (s.candPeriod c) m
    let v := s.candLive c && m.gapsOk && decide (m.delta ≠ 0) && decide (d.natAbs ≤ 20000)
    ⟨c, d, v, m.dependent && decide (2 ≤ c) && decide (c ≤ 5)⟩) ++ [s.ftView]

/-- Inserts an offset into an ascending list. -/
def insertSorted (x : Int) : List Int → List Int
  | [] => [x]
  | y :: ys => if x ≤ y then x :: y :: ys else y :: insertSorted x ys

/-- The list L of R130: valid and not dependent, the selected candidate included. -/
def estList (vs : List CandView) (sel : Nat) : List CandView :=
  vs.filter (fun v => (v.valid && !v.dep) || v.code == sel)

/-- The median of R130. -/
def medianOf (l : List CandView) : Int :=
  let ds := (l.map CandView.d).foldr insertSorted []
  nth 0 ds ((ds.length - 1) / 2)

/-- The estimate of R130: E, UNCHECKED, MAJ_OK. R130 takes it that a candidate is selected; with none (SOURCE 0xE, R146) the
estimate is that of a list of one (DESIGN CHOICE, log entry 67). -/
def estimate (l : List CandView) (sel : Nat) (warn : Nat) : Int × Bool × Bool :=
  match l.find? (fun v => v.code == sel) with
  | none => (0, true, false)
  | some me =>
    if l.length = 1 then (0, true, false)
    else if l.length = 2 then
      match l.find? (fun v => v.code != sel) with
      | some o => (me.d - o.d, false, false)
      | none => (0, true, false)
    else
      let m := medianOf l
      let ok := (l.filter (fun v => decide ((v.d - m).natAbs < warn))).length
      (me.d - m, false, decide (l.length / 2 + 1 ≤ ok))

/-- Stores a signed number in a 16-bit field; a number outside its format leaves a free value (log entry 10). -/
def State.set16 (s : State) (p : Nat) (f : Fld) (v : Int) : State :=
  if -32768 ≤ v ∧ v ≤ 32767 then s.setSfld p f v else (s.setFld p f (s.freeVal 16)).drew

/-- Stores what the window showed of one candidate (Table 4.12). -/
def State.storeCand (s : State) (agree : Bool) (v : CandView) : State :=
  ((((s.setFld pRefmon (REFMON.CAND_OFF_DEPENDENT.at v.code) (b2n v.dep)).setFld pRefmon
    (REFMON.CAND_OFF_AGREE.at v.code) (b2n agree)).setFld pRefmon
    (REFMON.CAND_OFF_VALID.at v.code) (b2n v.valid)).setFld pRefmon
    (REFMON.CAND_OFF_SELECTED.at v.code) (b2n (v.code == s.fld pRefmon REFMON.REF_ACTIVE_SOURCE))).set16 pRefmon
    (REFMON.CAND_OFF_D.at v.code) v.d

/-- A candidate that was valid in the previous window and is not in this one raises REF_CAND_LOST, unless it becomes
DEPENDENT in it (R142). -/
def State.candLost (s : State) (sel : Nat) (v : CandView) : State :=
  if bitAt s.tb.wasValid v.code && !v.valid && (!v.dep || s.on pRefmon (REFMON.CAND_OFF_DEPENDENT.at v.code))
      && v.code != sel then
    s.raise pRefmon REFMON.evREF_CAND_LOST
  else s

/-- The consecutive-window rule of R131 for one flag: its new value, and the run counts above and below. -/
def runRule (flag : Bool) (e lim hi lo : Nat) : Bool × Nat × Nat :=
  let hi' := if lim ≤ e then hi + 1 else 0
  let lo' := if e + 40 < lim then lo + 1 else 0
  (if 4 ≤ hi' then true else if 16 ≤ lo' then false else flag, hi', lo')

/-- A window ends with REF_LIMIT set: REF_SUSPECT is set (R136), also over a clear on the same tick (Table 4.7). -/
def State.stillAtLimit (s : State) : State :=
  { s with tb := { s.tb with limAt := some s.tb.beat } }.setFld pRefmon REFMON.STATUS_REF_SUSPECT 1

/-- What REF_LIMIT does at a window end (R132, R133, R135, R136). The spec leaves open whether it acts once or at every such
window end, whether a pending move outlasts a later window, and when POLICY_FORCED clears: it acts at every one, a pending
move stays until a switch, and POLICY_FORCED clears with REF_LIMIT (DESIGN CHOICE, log entry 67). -/
def State.limitAction (s : State) (majOk : Bool) : State :=
  if !(s.on pRefmon REFMON.STATUS_REF_LIMIT) then
    (s.condition pRefmon REFMON.evREF_AMBIGUOUS false).setFld pRefmon REFMON.STATUS_REF_AMBIGUOUS 0
      |>.setFld pRefmon REFMON.STATUS_POLICY_FORCED 0
  else
    let s1 := s.stillAtLimit
    if !majOk then
      ((s1.setFld pRefmon REFMON.STATUS_REF_AMBIGUOUS 1).setFld pRefmon REFMON.STATUS_POLICY_FORCED 1).condition
        pRefmon REFMON.evREF_AMBIGUOUS true
    else if s1.fld pRefmon REFMON.POLICY_REF_POLICY = 0 then s1
    else if s1.constMember then s1.setFld pRefmon REFMON.STATUS_POLICY_FORCED 1
    else s1.setFld pRefmon REFMON.STATUS_MOVE_PENDING 1

/-- The rules of R131 at a window end that is not discarded (R140). -/
def State.warnRules (s : State) (e : Nat) (majOk : Bool) : State :=
  let w := runRule (s.on pRefmon REFMON.STATUS_REF_WARN) e (s.fld pRefmon REFMON.THRESH_WARN) s.tb.warnRun s.tb.warnOff
  let l := runRule (s.on pRefmon REFMON.STATUS_REF_LIMIT) e (s.fld pRefmon REFMON.THRESH_LIMIT) s.tb.limRun s.tb.limOff
  let s1 := { s with tb := { s.tb with warnRun := w.2.1, warnOff := w.2.2, limRun := l.2.1, limOff := l.2.2 } }
  let s2 := (s1.setFld pRefmon REFMON.STATUS_REF_WARN (b2n w.1)).condition pRefmon REFMON.evREF_WARN w.1
  let s3 := (s2.setFld pRefmon REFMON.STATUS_REF_LIMIT (b2n l.1)).condition pRefmon REFMON.evREF_LIMIT l.1
  s3.limitAction majOk

/-- A window of the reference monitor ends (R128 to R133, R140, R142). The spec does not say what D holds of a candidate
without edges, or AGREE with no median: D is 0 and AGREE is 0 (DESIGN CHOICE, log entry 67). -/
def State.windowEnd (s : State) (meas : List CandMeas) : State :=
  let sel := s.fld pRefmon REFMON.REF_ACTIVE_SOURCE
  let warn := s.fld pRefmon REFMON.THRESH_WARN
  let vs := s.candViews meas
  let l := estList vs sel
  let m := medianOf l
  let r := estimate l sel warn
  let agree := fun (v : CandView) => decide (3 ≤ l.length) && l.contains v && decide ((v.d - m).natAbs < warn)
  let s1 := vs.foldl (fun t v => t.candLost sel v) s
  let s2 := vs.foldl (fun t v => t.storeCand (agree v) v) s1
  let s3 := (((s2.set16 pRefmon REFMON.ESTIMATE_E r.1).incr pRefmon REFMON.ESTIMATE_WINDOW_SEQ).setFld pRefmon
    REFMON.STATUS_UNCHECKED (b2n r.2.1)).setFld pRefmon REFMON.STATUS_MAJ_OK (b2n r.2.2)
  let s4 := if s3.on pRefmon REFMON.STATUS_HOLDOVER then s3.incr pRefmon REFMON.HOLD_WINDOWS_COUNT else s3
  let s5 := { s4 with
    cst := { s4.cst with lastO := s4.sfld pConst CONST.OFFSET_O, lastSteer := s4.cst.steer }
    tb := { s4.tb with wasValid := vs.foldl (fun n (v : CandView) => if v.valid then setBit n v.code else n) 0, limAt := none } }
  if s5.tb.discard then
    let s6 := { s5 with tb := { s5.tb with discard := false } }
    if s6.on pRefmon REFMON.STATUS_REF_LIMIT then s6.stillAtLimit else s6
  else s5.warnRules r.1.natAbs r.2.2

/-- REFMON_WINDOW_END (R130). -/
def execRefmonWindowEnd (meas : List CandMeas) (s : State) : Out := .next (s.windowEnd meas)

/-- A served write of REFMON: THRESH at most 20,000 and LIMIT not below WARN; REF_SUSPECT stays set where a window end on
the same tick is still at the limit (R142, Table 4.7). -/
def State.refmonWrite (s : State) (off w : Nat) : State :=
  if off = 0x10C then
    let warn := min 20000 (bitsOf w 15 0)
    s.writeFields pRefmon (s.fieldsOf pRefmon off) (max warn (min 20000 (bitsOf w 31 16)) * 65536 + warn)
  else
    let t := s.writeFields pRefmon (s.fieldsOf pRefmon off) w
    if off = 0x114 ∧ s.tb.limAt = some s.tb.beat then
      t.setFld pRefmon REFMON.STATUS_REF_SUSPECT (s.fld pRefmon REFMON.STATUS_REF_SUSPECT)
    else t

/-- Holdover sets REF_SUSPECT; entering it discards the window and starts the count of its windows (R138, R140). -/
def State.holdover (s : State) : State :=
  if s.on pRefmon REFMON.STATUS_HOLDOVER then s.setFld pRefmon REFMON.STATUS_REF_SUSPECT 1 else
  ({ s with tb := { s.tb with discard := true } }.setFld pRefmon REFMON.STATUS_HOLDOVER 1 |>.setFld pRefmon
    REFMON.STATUS_REF_SUSPECT 1).setFld pRefmon REFMON.HOLD_WINDOWS_COUNT 0

/-- REF_LOSS (R138): the selected reference has had no edge for 2,000 st; with none selected there is none to lose. -/
def execRefLoss (s : State) : Out :=
  .next (if s.fld pRefmon REFMON.REF_ACTIVE_SOURCE = 0xE then s else s.holdover.raise pRefmon REFMON.evREF_LOSS)

/-- PLL_UNLOCK (R144): lock is lost; where the selected reference is valid it is raised, then holdover. -/
def execPllUnlock (s : State) : Out :=
  let t := s.setFld pRefmon REFMON.STATUS_PLL_LOCK 0
  .next (if s.on pRefmon REFMON.STATUS_HOLDOVER ∨ s.fld pRefmon REFMON.REF_ACTIVE_SOURCE = 0xE then t
    else (t.raise pRefmon REFMON.evPLL_UNLOCK).holdover)

/-- REF_FALLBACK (R146): no edge of the reference tried since the straps were sampled; XTAL is next, then REFIN, then the
oscillator with NO_REF, which completes the dawn. Nothing once the PLL has locked. -/
def execRefFallback (s : State) : Out :=
  let n := s.tb.fallback
  let s1 := { s with tb := { s.tb with fallback := n + 1 } }
  if s.on pRefmon REFMON.STATUS_PLL_LOCK ∨ s.tb.running ∨ 3 ≤ n then .next s
  else if n = 0 then
    .next (((s1.setFld pRefmon REFMON.REF_ACTIVE_SOURCE 0).setFld pRefmon REFMON.STATUS_FALLBACK 1).raise pRefmon
      REFMON.evREF_FALLBACK)
  else if n = 1 then .next (s1.setFld pRefmon REFMON.REF_ACTIVE_SOURCE 1)
  else
    .next (((s1.setFld pRefmon REFMON.REF_ACTIVE_SOURCE 0xE).setFld pRefmon REFMON.STATUS_NO_REF 1).condition pRefmon
      REFMON.evNO_REF true).autoDawn

/-- SLEW_COMPLETE (R137). -/
def execSlewComplete (s : State) : Out := .next (s.setFld pRefmon REFMON.STATUS_SLEWING 0)

/-- The target of an AUTO switch (R134): the agreeing candidate, other than the selected one and FT, nearest to the
median; ties to the lower code. -/
def State.autoTarget (s : State) : Option Nat :=
  let sel := s.fld pRefmon REFMON.REF_ACTIVE_SOURCE
  let view := fun c => (⟨c, s.sfld pRefmon (REFMON.CAND_OFF_D.at c), s.on pRefmon (REFMON.CAND_OFF_VALID.at c),
    s.on pRefmon (REFMON.CAND_OFF_DEPENDENT.at c)⟩ : CandView)
  let m := medianOf (estList ((List.range 7).map view) sel)
  let cs := ((List.range 6).filter (fun c => c != sel && s.candLive c && s.on pRefmon (REFMON.CAND_OFF_VALID.at c)
    && !s.on pRefmon (REFMON.CAND_OFF_DEPENDENT.at c) && s.on pRefmon (REFMON.CAND_OFF_AGREE.at c))).map view
  (cs.foldl (fun (b : Option CandView) v =>
    match b with
    | none => some v
    | some u => if (v.d - m).natAbs < (u.d - m).natAbs then some v else some u) none).map CandView.code

/-- The beat takes another reference (R137, R139, R140, R143). -/
def State.switchRef (s : State) (c : Nat) : State :=
  let s1 := { s with tb := { s.tb with discard := true } }
  let s2 := (((((s1.setFld pRefmon REFMON.REF_ACTIVE_SOURCE c).setFld pRefmon REFMON.STATUS_HOLDOVER 0).setFld pRefmon
    REFMON.STATUS_MOVE_PENDING 0).setFld pRefmon REFMON.STATUS_SLEWING 1).setFld pRefmon
    REFMON.STATUS_NO_REF 0).condition pRefmon REFMON.evNO_REF false
  ((List.range 7).foldl (fun t i => t.setFld pRefmon (REFMON.CAND_OFF_SELECTED.at i) (b2n (i == c))) s2).raise pRefmon
    REFMON.evREF_SWITCHED

/-- The PCS of port k loses lock: its candidate is valid no more (R111). -/
def State.candUnlocked (s : State) (k : Nat) : State := s.setFld pRefmon (REFMON.CAND_OFF_VALID.at (2 + k)) 0

/-- A REF_SWITCH entry applies (R126, R133, R134, R139): the new state, or none where it has no target, a candidate that is
valid in the last window and may still be measured. -/
def State.refSwitch (s : State) (arg : Nat) : Option State :=
  let free := s.on pRefmon REFMON.STATUS_HOLDOVER || s.fld pRefmon REFMON.REF_ACTIVE_SOURCE == 0xE
  if bitAt arg 4 && !s.on pRefmon REFMON.STATUS_MOVE_PENDING && !free then some s
  else if arg % 16 = 15 then s.autoTarget.map s.switchRef
  else if s.on pRefmon (REFMON.CAND_OFF_VALID.at (arg % 16)) && s.candLive (arg % 16) then some (s.switchRef (arg % 16))
  else none

end Sys2Proof.Machine
end

