-- ==== Sys2Proof/Machine/Disc.lean ====
section
/-!
DEFINITION. Discovery (Chapter 14): the choice of the root, numbers, maps and route tables, and what a link that comes
up or goes down changes in them and in the constellation engine.
-/

namespace Sys2Proof.Machine

/-! ### The constellation engine's states (R585 to R594) -/

/-- CONST_STATUS.STATE (Table 15.4). -/
def State.cState (s : State) : Nat := s.fld pConst CONST.CONST_STATUS_STATE

/-- ROOT_PORT, 7 for none. -/
def State.rootPort (s : State) : Nat := s.fld pDisc DISC.DISC_STATUS_ROOT_PORT

/-- DEPTH. -/
def State.discDepth (s : State) : Nat := s.fld pDisc DISC.DISC_STATUS_DEPTH

/-- The limit against the root in ps (Table 15.3). -/
def errLimit (depth : Nat) : Nat := if depth ≤ 16 then min (200 * depth) 2000 else 2000 + 200 * (depth - 16)

/-- CONST_STATUS and ERR_BOUND follow the state, the tree and the latest SYNC (R585, R586, R594). -/
def State.constShow (s : State) : State :=
  let st := s.cState
  let rp := s.rootPort
  let d := s.discDepth
  let member := s.constMember && decide (rp < 4)
  let uncal := member && (!s.on pConst (CONST.CABLE_CAL.at rp) || bitAt s.cst.syncFlags 4)
  let far := st == 7 && decide (16 < d)
  let s1 := ((((s.setFld pConst CONST.CONST_STATUS_FAR (b2n far)).setFld pConst CONST.CONST_STATUS_UNCAL
    (b2n uncal)).setFld pConst CONST.CONST_STATUS_ROOT_SUSPECT (b2n ((st == 6 || st == 7) && bitAt s.cst.syncFlags
    0))).setFld pConst CONST.CONST_STATUS_DEPTH d).setFld pConst CONST.CONST_STATUS_PARENT_PORT rp
  let s2 := s1.setFld pConst CONST.ERR_BOUND_PS (if st = 7 ∧ uncal = false then errLimit d else 0xFFFF)
  (s2.condition pConst CONST.evFAR_DEPTH far).condition pConst CONST.evUNCAL_PATH uncal

/-- The engine enters a state; its count toward the next begins again. -/
def State.setCState (s : State) (n : Nat) : State :=
  ({ s with cst := { s.cst with run := 0 } }.setFld pConst CONST.CONST_STATUS_STATE n).constShow

/-- The engine writes entry 63 and arms it: a REF_SWITCH to a target (R588, R593). -/
def State.armEngine (s : State) (target : Nat) : State :=
  if (s.almEntry 63).armed then s
  else
    let e : AlmEntry := ⟨cadd s.tb.count 4096, 15, 1, 0, 7, target, 0, 0, none⟩
    (s.setAlm 63 e).almArm 15 63

/-- The device enters ROOT and keeps its count; a beat that follows a fabric candidate takes ROOT_REF (R587, R593). -/
def State.constTakeRoot (s : State) : State :=
  let s1 := ({ s with cst := { s.cst with acks := [], rem := 0 } }).setCState 1
  let r := s1.fld pRefmon REFMON.REF_ACTIVE_SOURCE
  if 2 ≤ r ∧ r ≤ 5 then (s1.armEngine (s1.fld pConst CONST.CONST_CFG_ROOT_REF)).raise pConst CONST.evROOT_TAKEN else s1

/-- The parent is lost in SYNTONISE to ALIGNED (R591). -/
def State.constLost (s : State) : State :=
  if 3 ≤ s.cState ∧ s.cState ≤ 7 then (s.setCState 8).raise pConst CONST.evPARENT_LOST else s

/-- A device joins: it waits for its parent's SYNC, with its steering total at 0 (R587, Table 15.9). -/
def State.constWait (s : State) : State := (s.setFld pConst CONST.STEER_SUM_SUM 0).setCState 2

/-- The engine follows what discovery says of the device: it is the root, it is not, its root port has changed (R587,
R591, R593). -/
def State.constFollow (s : State) (oldPort : Nat) : State :=
  if !s.enabled pConst then s.constShow
  else if s.constRoot then (if s.cState = 1 then s.constShow else s.constTakeRoot)
  else if s.cState = 1 then (if s.on pConst CONST.CONST_CFG_AUTO_JOIN then s.constWait else s.setCState 0)
  else if s.rootPort ≠ oldPort then s.constLost.constShow
  else s.constShow

/-! ### Routes from a map (R566) -/

/-- The entries of a map in ascending order. -/
def sortMap : List MapEntry → List MapEntry
  | [] => []
  | e :: r => ins e (sortMap r)
where
  /-- Inserts an entry in order. -/
  ins (e : MapEntry) : List MapEntry → List MapEntry
    | [] => [e]
    | x :: xs => if e.below x then e :: x :: xs else x :: ins e xs

/-- The hops of an entry that go up, or that go down: the neighbours' numbers with their ports. -/
def hopsOf (m : List MapEntry) (e : MapEntry) (down : Bool) : List (Nat × Nat) :=
  (e.nbrs.zipIdx.map (fun x => (x.2, x.1))).filter (fun x =>
    match mapEntry m x.2 with
    | some o => if down then e.below o else o.below e
    | none => false)

/-- One relaxation: the distance of `e` is at most one more than that of each listed neighbour. -/
def relax (t : List (Nat × Nat)) (e : MapEntry) (zs : List (Nat × Nat)) : List (Nat × Nat) :=
  Tab.set 32 t e.dev (zs.foldl (fun b z => min b (Tab.get 32 t z.2 + 1)) (Tab.get 32 t e.dev))

/-- The lowest port of least cost, below INF. -/
def bestPort (cs : List (Nat × Nat)) : Option (Nat × Nat) :=
  (cs.filter (fun c => decide (c.2 < 32))).foldl (fun (b : Option (Nat × Nat)) c =>
    match b with
    | none => some c
    | some d => if c.2 < d.2 ∨ (c.2 = d.2 ∧ c.1 < d.1) then some c else some d) none

/-- The route of device `x` to device `d` (R566). -/
def routeTo (m asc : List MapEntry) (x : MapEntry) (d : Nat) : Route :=
  if x.dev = d then ⟨7, 7, 0⟩
  else
    let dn := asc.reverse.foldl (fun t e => relax t e (hopsOf m e true)) (Tab.set 32 [] d 0)
    let an := asc.foldl (fun t e => relax t e (hopsOf m e false)) dn
    let downs := (hopsOf m x true).map (fun z => (z.1, Tab.get 32 dn z.2 + 1))
    let ups := (hopsOf m x false).map (fun z => (z.1, Tab.get 32 an z.2 + 1))
    let u := bestPort (downs ++ ups)
    ⟨(u.map Prod.fst).getD 15, ((bestPort downs).map Prod.fst).getD 15, (u.map Prod.snd).getD 31⟩

/-- The table of a device from a map; numbers that the map does not list are unreachable. -/
def routesOf (m : List MapEntry) (x : Nat) : List (Nat × Route) :=
  match mapEntry m x with
  | none => []
  | some me =>
    let asc := sortMap m
    asc.foldl (fun t e => Tab.insert t e.dev (routeTo m asc me e.dev)) []

/-! ### Election (R559 to R562, R570) -/

/-- The factory ID. -/
def State.myId (s : State) : Nat := s.si.factoryId

/-- PRIORITY: 0xFF with strap CFG4 (R559). -/
def State.myPrio (s : State) : Nat :=
  if bitAt (s.fld pDevice DEVICE.STRAP_CFG) 4 then 0xFF else s.fld pDisc DISC.DISC_CFG_PRIORITY

/-- The device may become root. -/
def State.eligible (s : State) : Bool := !bitAt (s.fld pDevice DEVICE.STRAP_CFG) 4

/-- A key: a lower one is better. -/
def rootKey (prio ident : Nat) : Nat := prio * 2 ^ 64 + ident

/-- `n` ANNOUNCE periods in st (R559). -/
def State.annPeriods (s : State) (n : Nat) : Nat := n * 2 ^ s.fld pDisc DISC.DISC_TIMING_ANN_EXP

/-- `n` ANNOUNCE periods have passed since a beat. -/
def State.annPassed (s : State) (at_ n : Nat) : Bool := decide (at_ + s.annPeriods n ≤ s.tb.beat)

/-- An ANNOUNCE may be used (R560). -/
def State.usable (s : State) (a : Announce) : Bool :=
  decide (s.tb.beat ≤ a.at_ + s.annPeriods 4) && decide (a.depth < 31)
    && a.upstream != s.myId && decide ((Tab.get a.rootSeq s.disc.seqs a.rootId + 2 ^ 16 - a.rootSeq) % 2 ^ 16 ≤ 2)

/-- A root, a depth and a root port that a device has chosen. -/
structure Choice where
  ident : Nat
  prio : Nat
  depth : Nat
  port : Nat
  seq : Nat
  deriving DecidableEq, Repr

/-- The lowest of some keyed items. -/
def lowest {α : Type} (key : α → Nat) : List α → Option α
  | [] => none
  | x :: xs =>
    match lowest key xs with
    | none => some x
    | some y => if key x ≤ key y then some x else some y

/-- The choice of R560; `claim` says that the device may claim root with no usable ANNOUNCE (R561). The flag says that
the depth would reach DEPTH_MAX (R570). -/
def State.choose (s : State) (claim : Bool) : Option Choice × Bool :=
  let us := s.disc.anns.filter (fun x => s.portUp x.1 && s.usable x.2)
  let mine := s.eligible && (!us.isEmpty || claim || (s.disc.hasRoot && s.on pDisc DISC.DISC_STATUS_IS_ROOT))
  let me := rootKey s.myPrio s.myId
  match lowest (fun (x : Nat × Announce) => rootKey x.2.rootPrio x.2.rootId) us with
  | none => (if mine then some ⟨s.myId, s.myPrio, 0, 7, 0⟩ else none, false)
  | some b =>
    if mine ∧ me ≤ rootKey b.2.rootPrio b.2.rootId then (some ⟨s.myId, s.myPrio, 0, 7, 0⟩, false)
    else
      let of := us.filter (fun x => x.2.rootId == b.2.rootId && x.2.rootPrio == b.2.rootPrio)
      match lowest (fun (x : Nat × Announce) => (x.2.depth * 2 ^ 72 + rootKey x.2.prio x.2.sender) * 4 + x.1) of with
      | none => (none, false)
      | some r =>
        if r.2.depth + 1 < 31 then (some ⟨b.2.rootId, b.2.rootPrio, r.2.depth + 1, r.1, r.2.rootSeq⟩, false)
        else (none, true)

/-- The parent's factory ID, 0 for none. -/
def State.upstream (s : State) : Nat := ((Tab.lookup s.disc.anns s.rootPort).map Announce.sender).getD 0

/-- A DISC frame. -/
def discFrame (sub epoch arg3 : Nat) (p : List Byte) : Frame :=
  { Frame.blank with kind := 4, vc := 4, hh := 0xF, arg2 := sub + epoch * 2 ^ 16, arg3 := arg3, payload := p }

/-- The ANNOUNCE that the device sends (Table 14.7); without a root its DEPTH is DEPTH_MAX, which nobody may use (log
entry 26). -/
def State.announcement (s : State) : Frame :=
  let r := s.disc.hasRoot
  discFrame 0 0 0 (leBytes 8 (if r then s.pair pDisc DISC.ROOT_ID_LO_ID DISC.ROOT_ID_HI_ID else 0)
    ++ leBytes 1 (if r then s.fld pDisc DISC.ROOT_INFO_ROOT_PRIO else 0xFF) ++ leBytes 1 (if r then s.discDepth else 31)
    ++ leBytes 2 (if r then s.fld pDisc DISC.ROOT_INFO_ROOT_SEQ else 0) ++ leBytes 8 s.myId ++ leBytes 8 s.upstream
    ++ leBytes 1 s.myPrio ++ leBytes 1 (b2n s.eligible + 2 * b2n s.numValid) ++ leBytes 2 s.devNum)

/-- An ANNOUNCE goes out on every UP port (R559). -/
def State.announce (s : State) : State :=
  s.upPorts.foldl (fun t k => t.sendLocal k t.announcement) s

/-- The child ports: the partner names this device as its parent, and of several links to it uses the one of lowest
partner port (R555, R560). -/
def State.isChild (s : State) (k : Nat) : Bool :=
  let up := fun j => s.portUp j && ((Tab.lookup s.disc.anns j).map Announce.upstream) == some s.myId
  let idOf := fun j => (Tab.lookup s.disc.anns j).map Announce.sender
  let pp := fun j => s.fld (pFabp j) FABP.LINK_STATUS_PARTNER_PORT
  up k && !(List.range 4).any (fun j => j != k && up j && idOf j == idOf k && decide (pp j < pp k))

/-- CHILD_PORTS and the CHILD, ROOT_PORT and DOWN_HOP bits of the ports. -/
def State.showTree (s : State) : State :=
  let mask := (List.range 4).foldl (fun m k => putBit m k (s.isChild k)) 0
  let s1 := s.setFld pDisc DISC.DISC_STATUS_CHILD_PORTS mask
  (List.range 4).foldl (fun t k => ((t.setFld (pFabp k) FABP.LINK_STATUS_CHILD (b2n (bitAt mask k))).setFld (pFabp k)
    FABP.LINK_STATUS_ROOT_PORT (b2n (t.rootPort == k))).setFld (pFabp k) FABP.LINK_STATUS_DOWN_HOP
    (b2n (t.downHop k))) s1

/-- NUM_VALID and DEV_NUM, with their copies in FAB.STATUS (Table 14.11). -/
def State.setNum (s : State) (valid : Bool) (n : Nat) : State :=
  (((s.setFld pDisc DISC.DISC_STATUS_NUM_VALID (b2n valid)).setFld pDisc DISC.DISC_STATUS_DEV_NUM n).setFld pFab
    FAB.STATUS_NUM_VALID (b2n valid)).setFld pFab FAB.STATUS_DEV_NUM n

/-- The device takes a choice, or none (R560, R561). -/
def State.takeChoice (s : State) (c : Option Choice) : State :=
  let root := c.isSome && (c.map Choice.port) == some 7
  let n := c.getD ⟨0, 0, 0, 7, 0⟩
  let seq := if root then s.fld pDisc DISC.ROOT_INFO_ROOT_SEQ else n.seq
  (((((({ s with disc := { s.disc with hasRoot := c.isSome } }.setPair pDisc DISC.ROOT_ID_LO_ID DISC.ROOT_ID_HI_ID
    n.ident).setFld pDisc DISC.ROOT_INFO_ROOT_PRIO n.prio).setFld pDisc DISC.ROOT_INFO_ROOT_SEQ seq).setFld pDisc
    DISC.DISC_STATUS_IS_ROOT (b2n root)).setFld pDisc DISC.DISC_STATUS_DEPTH n.depth).setFld pDisc
    DISC.DISC_STATUS_ROOT_PORT n.port).showTree

/-- NUM_REQ with its valid bit (R564). -/
def State.numReq (s : State) : Nat :=
  if s.numValid then s.devNum + 2 ^ 15
  else if s.on pDisc DISC.DISC_CFG_NUM_REQ_EN then s.fld pDisc DISC.DISC_CFG_NUM_REQ + 2 ^ 15 else 0

/-- The JOIN that the device sends (Table 14.7). -/
def State.joinFrame (s : State) : Frame :=
  discFrame 1 0 0 (leBytes 8 s.myId ++ leBytes 1 s.myPrio ++ leBytes 1 s.discDepth ++ leBytes 1 0 ++ leBytes 1 0
    ++ leBytes 2 s.numReq ++ leBytes 2 0 ++ leBytes 8 0
    ++ (List.range 4).flatMap (fun k =>
      leBytes 1 (s.linkState k) ++ leBytes 1 (s.fld (pFabp k) FABP.LINK_STATUS_PARTNER_PORT)
        ++ leBytes 2 (s.fld (pFabp k) FABP.LINK_STATUS_PARTNER_DEV)
        ++ leBytes 8 (s.pair (pFabp k) FABP.PARTNER_ID_LO_ID FABP.PARTNER_ID_HI_ID)))

/-- A device that is STABLE or beyond, and not the root, sends JOIN through its root port (R563). -/
def State.join (s : State) : State :=
  if s.enabled pDisc && decide (2 ≤ s.fld pDisc DISC.DISC_STATUS_STATE) && !s.on pDisc DISC.DISC_STATUS_IS_ROOT then
    ({ s with disc := { s.disc with joinAt := s.tb.beat } }).sendLocal s.rootPort s.joinFrame
  else s

/-- Since when no usable ANNOUNCE is held (R561). -/
def State.noteHold (s : State) : State :=
  let h := if s.disc.anns.any (fun x => s.portUp x.1 && s.usable x.2) then none else some (s.disc.holdFrom.getD s.tb.beat)
  { s with disc := { s.disc with holdFrom := h } }

/-- The choice is made again; a change is announced at once, and a new root ends the number (R559, R561, R570). -/
def State.elect (s : State) (claim : Bool) : State :=
  if !s.enabled pDisc then s
  else
    let r := s.choose claim
    let s0 := (if r.2 then s.raise pDisc DISC.evDISC_TOO_DEEP else s).noteHold
    let oldId := if s.disc.hasRoot then some (s.pair pDisc DISC.ROOT_ID_LO_ID DISC.ROOT_ID_HI_ID) else none
    let oldPort := s.rootPort
    let newRoot := r.1.map Choice.ident != oldId
    let changed := newRoot || (r.1.isSome && ((r.1.map Choice.depth) != some s.discDepth
      || (r.1.map Choice.port) != some oldPort))
    let s1 := s0.takeChoice r.1
    let s2 := if newRoot then
        ({ s1 with disc := { s1.disc with binds := [], devices := [], dirty := false, acks := none } }.setNum false
          s1.devNum).raise pDisc DISC.evROOT_CHANGE
      else s1
    if changed then
      let s3 : State := { s2 with disc := { s2.disc with
        changedAt := s.tb.beat, noRoot := s2.disc.noRoot && !r.1.isSome } }
      let s4 := if newRoot then s3 else s3.join
      ((s4.setFld pDisc DISC.DISC_STATUS_STATE 1).constFollow oldPort).announce
    else s2.constShow

/-! ### Numbers (R563, R564) -/

/-- The neighbours by port, as factory IDs. -/
def State.neighbours (s : State) : List (Option Nat) :=
  (List.range 4).map (fun k =>
    if s.portUp k then some (s.pair (pFabp k) FABP.PARTNER_ID_LO_ID FABP.PARTNER_ID_HI_ID) else none)

/-- The device's own neighbour list has changed (R563, R565). -/
def State.neighboursChanged (s : State) : State :=
  if s.on pDisc DISC.DISC_STATUS_IS_ROOT then { s with disc := { s.disc with dirty := true, dirtyAt := s.tb.beat } } else s.join

/-- Numbers not bound, lowest first. -/
def freeNums (binds : List (Nat × Nat)) : List Nat := (List.range 1024).filter (fun n => !binds.any (fun b => b.2 == n))

/-- The number of a factory ID on the root, with the bindings then (R564): bound already, else as requested if free,
else the lowest free; with none free, the bindings of devices that have left the map lapse. -/
def State.assignNum (s : State) (ident req : Nat) : Option Nat × List (Nat × Nat) :=
  let b := s.disc.binds
  match b.find? (fun x => x.1 == ident) with
  | some x => (some x.2, b)
  | none =>
    let here := s.myId :: s.disc.devices.map RootDev.ident
    let b1 := if (freeNums b).isEmpty then b.filter (fun x => here.contains x.1) else b
    let fr := freeNums b1
    let pick := if bitAt req 15 ∧ fr.contains (req % 1024) then some (req % 1024) else fr.head?
    match pick with
    | some n => (some n, b1 ++ [(ident, n)])
    | none => (none, b1)

/-- The device takes a number (R563, R573). -/
def State.takeNum (s : State) (n : Nat) : State :=
  let was := s.numValid && s.devNum == n
  let changed := s.disc.numbered && s.devNum != n
  let s0 := s.setNum true n
  let s1 : State := { s0 with disc := { s0.disc with numbered := true } }
  let s2 := if s1.fld pDisc DISC.DISC_STATUS_STATE = 2 then s1.setFld pDisc DISC.DISC_STATUS_STATE 3 else s1
  let s3 := if was then s2 else s2.raise pDisc DISC.evNUM_ASSIGNED
  if changed then s3.raise pDisc DISC.evNUM_CHANGED else s3

/-- The root numbers itself by the same rule (R564). -/
def State.numberSelf (s : State) : State :=
  let r := s.assignNum s.myId s.numReq
  let s1 := { s with disc := { s.disc with binds := r.2, dirty := true, dirtyAt := s.tb.beat } }
  match r.1 with
  | some n => s1.takeNum n
  | none => s1.raise pDisc DISC.evDISC_REFUSED

/-! ### Maps and tables (R565, R567) -/

/-- The map of the root: every numbered device of its table and itself, in ascending number (R565). -/
def State.rootMap (s : State) : List MapEntry :=
  let devs := ⟨s.myId, 0, s.neighbours, 0⟩ :: s.disc.devices
  let numOf := fun i => (s.disc.binds.find? (fun b => b.1 == i)).map Prod.snd
  let present := devs.map RootDev.ident
  let nbr := fun (o : Option Nat) =>
    match o with
    | none => 0xFFFF
    | some i => if present.contains i then (numOf i).getD 0xFFFF else 0xFFFF
  let es := devs.filterMap (fun d => (numOf d.ident).map (fun n => (⟨n, d.depth, d.nbrs.map nbr⟩ : MapEntry)))
  (List.range 1024).filterMap (fun n => es.find? (fun e => e.dev == n))

/-- The bytes of a map entry. -/
def MapEntry.bytes (e : MapEntry) : List Byte :=
  leBytes 2 e.dev ++ leBytes 1 e.depth ++ leBytes 1 0 ++ (List.range 4).flatMap (fun k => leBytes 2 (nth 0xFFFF e.nbrs k))

/-- The MAP frames of a map: at most 512 entries each, LEN a multiple of 8. -/
def mapFrames (epoch total first : Nat) (m : List MapEntry) : Nat → List Frame
  | 0 => []
  | n + 1 =>
    let part := m.take 512
    if part.isEmpty then []
    else
      let b := part.flatMap MapEntry.bytes
      discFrame 3 epoch (first + part.length * 2 ^ 16 + total * 2 ^ 32) (b ++ leBytes ((8 - b.length % 8) % 8) 0)
        :: mapFrames epoch total (first + 512) (m.drop 512) n

/-- Sends a frame down every child port (R555, R565). -/
def State.downTree (s : State) (f : Frame) : State := s.childPorts.foldl (fun t k => t.sendLocal k f) s

/-- The staged tables of a whole map (R565, R566). -/
def State.stage (s : State) (epoch : Nat) (m : List MapEntry) : State :=
  let s1 := { s with disc := { s.disc with staged := routesOf m s.devNum, stagedMap := m, stagedOk := true } }
  s1.setFld pRoute ROUTE.RT_STATUS_STAGED_EPOCH epoch

/-- Writes the route of a number. -/
def State.setRoute (s : State) (d : Nat) (r : Route) : State :=
  ((s.setFld pRoute (ROUTE.RT_ENTRY_UP_PORT.at d) r.up).setFld pRoute (ROUTE.RT_ENTRY_DOWN_PORT.at d) r.down).setFld
    pRoute (ROUTE.RT_ENTRY_HOPS.at d) r.hops

/-- The number of the root in a map. -/
def rootNum (m : List MapEntry) : Nat := ((m.find? (fun e => e.depth == 0)).map MapEntry.dev).getD 0

/-- The staged tables become the active ones. -/
def State.installRoutes (s : State) : State :=
  (List.range 1024).foldl (fun t d => t.setRoute d (Tab.get Route.none s.disc.staged d)) s

/-- ACTIVATE: the staged tables are installed on one beat (R567). -/
def State.activate (s : State) : State :=
  if !s.disc.stagedOk then s
  else
    let e := s.fld pRoute ROUTE.RT_STATUS_STAGED_EPOCH
    let s1 : State := { s with disc := { s.disc with map := s.disc.stagedMap } }
    let s2 := s1.installRoutes
    let s3 := ((((s2.setFld pRoute ROUTE.RT_STATUS_ACTIVE_EPOCH e).setFld pDisc DISC.MAP_INFO_MAP_EPOCH e).setFld pDisc
      DISC.MAP_INFO_DEVICES s2.disc.map.length).setFld pConst CONST.CONST_STATUS_ROOT_DEV (rootNum s2.disc.map))
    let s4 := if 2 ≤ s3.fld pDisc DISC.DISC_STATUS_STATE then s3.setFld pDisc DISC.DISC_STATUS_STATE 4 else s3
    s4.showTree.raise pDisc DISC.evMAP_ACTIVE

/-- The root sends ACTIVATE down the tree and installs its own tables. -/
def State.rootActivate (s : State) : State :=
  let e := s.fld pRoute ROUTE.RT_STATUS_STAGED_EPOCH
  ({ s with disc := { s.disc with acks := none } }.downTree (discFrame 5 e 0 [])).activate

/-! ### Links up and down (R552, R572, R573) -/

/-- PORTS_UP of FAB.STATUS (Table 14.11). -/
def State.showPorts (s : State) : State :=
  s.setFld pFab FAB.STATUS_PORTS_UP ((List.range 4).foldl (fun m k => putBit m k (s.portUp k)) 0)

/-- The wait of a port in its link state begins again (R551). -/
def State.restartWait (s : State) (k : Nat) : State := s.setPort k { s.port k with since := s.tb.beat, helloAt := none }

/-- `n` st have passed since the wait of a port began. -/
def State.linkWaited (s : State) (k n : Nat) : Bool := decide ((s.port k).since + n ≤ s.tb.beat)

/-- A port enters a link state. -/
def State.setLink (s : State) (k n : Nat) : State :=
  ((s.setFld (pFabp k) FABP.LINK_STATUS_STATE n).showPorts).restartWait k

/-- A waiting frame of a failed port is routed again; a broadcast copy for that port's child is dropped
(Table 14.8). -/
def State.reroute (s : State) (copy : Bool) (x : TxFrame) : State :=
  let r := s.routeOf x.frame.dst
  let p := if x.from_ = 4 then r.up else if x.frame.down then r.down else r.up
  if x.frame.bcast && copy then s.unroutable x.frame.hh
  else if p < 4 then s.toPort p x.from_ x.place x.frame (s.downHop p)
  else s.unroutable x.frame.hh

/-- A link goes down (R547, R572, R573). -/
def State.linkDown (s : State) (k : Nat) : State :=
  let p := s.port k
  let lost := p.unacked.length + (p.txq.filter (fun x => x.frame.lcl)).length
  let s1 := ((((s.setPort k PortSt.reset).setLink k 5).bump (pFabp k) FABP.LOST_FRAMES_LOST lost).setFld (pFabp k)
    FABP.LINK_STATUS_BLOCK_LOCK 0).candUnlocked k
  let s2 := (s1.raise (pFabp k) FABP.evLINK_DOWN).raise pFab FAB.evTOPO_CHANGE
  let s3 := { s2 with
    fab := { s2.fab with units := s2.fab.units.filter (fun u => u.port != k) }
    disc := { s2.disc with anns := Tab.erase s2.disc.anns k } }
  let s4 := (p.txq.filter (fun x => !x.frame.lcl)).foldl (fun t x => t.reroute (s.childPorts.contains k) x) s3
  let s5 := if k = s4.rootPort then s4.voidExchange.constLost else s4
  let s6 := (s5.showTree.elect false)
  (if s6.rootPort = s5.rootPort then s6.neighboursChanged else s6).freeUnused

/-- A link comes up, with sequence numbers, credits and counts at their start (R552). -/
def State.linkUp (s : State) (k : Nat) (rxUnits : List (Nat × Nat)) : State :=
  let s1 := s.setPort k { PortSt.reset with
    rxUnits := rxUnits, rxAt := s.tb.beat, updAt := s.tb.beat, fec := (s.port k).fec }
  let s2 := ((s1.setFld (pFabp k) FABP.SEQ_STATUS_NEXT_TX 0).setFld (pFabp k) FABP.SEQ_STATUS_EXPECT_RX 0).setLink k 4
  (s2.raise (pFabp k) FABP.evLINK_UP).showTree.neighboursChanged

end Sys2Proof.Machine
end

