-- ==== Sys2Proof/Machine/Queues.lean ====
section
/-!
DEFINITION. The queue engine (Chapter 12): items, pushes, pops, the held step item, mark and rewind, spill, full
queues, flush, enable, and its failures.
-/

namespace Sys2Proof.Machine

/-! ### Reading a queue -/

/-- A queue. -/
def State.q (s : State) (n : Nat) : QueueSt := Tab.get QueueSt.reset s.qs n

/-- Writes a queue. -/
def State.setQ (s : State) (n : Nat) (q : QueueSt) : State := { s with qs := Tab.set QueueSt.reset s.qs n q }

/-- The page that shows a queue. -/
def qPage (n : Nat) : Nat := pQeh (n / 32)

/-- CAP in words (R458). -/
def State.qCap (s : State) (n : Nat) : Nat := 32 + 7 * (s.qSpill n / 64)

/-- The words of the open item. -/
def QueueSt.openWords (q : QueueSt) : List QWord := match q.opened with
  | some o => o.words
  | none => []

/-- Every word whose space is not free, oldest first (R469). -/
def QueueSt.words (q : QueueSt) : List QWord := q.items.flatMap QItem.words ++ q.openWords

/-- USED (R469). -/
def QueueSt.used (q : QueueSt) : Nat := (q.items.map (fun i => i.words.length)).sum + q.openWords.length

/-- The committed items from the read position on. -/
def QueueSt.unread (q : QueueSt) : List QItem := q.items.filter (fun i => decide (q.rd ≤ i.idx) && !i.held)

/-- The item at the read position, and the offset in it (R465). -/
def QueueSt.cur (q : QueueSt) : Option (QItem × Nat) := match q.unread with
  | [] => none
  | i :: _ => some (i, if i.idx = q.rd then q.off else 0)

/-- What a pop finds at the read position: an item is visible from the beat after its commit (R460, Table 12.8). -/
def State.qCur (s : State) (n : Nat) : Option (QItem × Nat) :=
  match (s.q n).cur with
  | some (i, off) => if i.beat < s.tb.beat then some (i, off) else none
  | none => none

/-- LEVEL: unread committed words. -/
def QueueSt.level (q : QueueSt) : Nat :=
  (q.unread.map (fun i => i.words.length - (if i.idx = q.rd then q.off else 0))).sum

/-- The held item. -/
def QueueSt.heldItem (q : QueueSt) : Option QItem := q.items.find? QItem.held

/-- A word is in the spill region: being written, spilled or being read. -/
def QWord.out (w : QWord) : Bool := decide (1 ≤ w.place) && decide (w.place ≤ 3)

/-- The spill region holds a block. -/
def QueueSt.spilling (q : QueueSt) : Bool := q.words.any QWord.out

/-- Words in the tail stage. -/
def QueueSt.tail (q : QueueSt) : List QWord := q.words.filter (fun w => w.place == 0)

/-- Words in the head stage. -/
def QueueSt.headLen (q : QueueSt) : Nat := (q.words.filter (fun w => w.place == 4)).length

/-- STATUS (Table 12.12). -/
def State.qStatus (s : State) (n : Nat) : Nat :=
  let q := s.q n
  b2n (s.qOn n) * 2 ^ 31 + b2n q.opened.isSome * 2 ^ 30 + b2n (!q.discs.isEmpty) * 2 ^ 29
    + b2n q.mark.isSome * 2 ^ 28 + b2n q.heldItem.isSome * 2 ^ 27 + b2n q.spilling * 2 ^ 26 + q.refuse * 2 ^ 16
    + q.openWords.length

/-- The live registers of a QEH page (Table 12.12); `none` for one that the register file holds. -/
def State.qehView (s : State) (p off : Nat) : Option Nat :=
  let h := p - pQeh 0
  let map (f : Nat → Bool) : Nat := (List.range 32).foldl (fun m i => putBit m i (f (32 * h + i))) 0
  if off = 0x100 then some (map (fun n => (s.q n).cur.isSome))
  else if off = 0x108 then
    some (map (fun n => decide (s.fld p (QEH.THRESH_WORDS.at (n % 32)) < (s.q n).level)))
  else if 0x200 ≤ off ∧ off < 0xA00 then
    let n := 32 * h + (off - 0x200) / 0x40
    let r := (off - 0x200) % 0x40
    if r = 0x20 then some (s.q n).level
    else if r = 0x24 then some (s.q n).unread.length
    else if r = 0x28 then some (s.q n).used
    else if r = 0x2C then some (s.qStatus n)
    else none
  else none

/-! ### Events and threshold -/

/-- An event of a queue on its QEH page, with ERR_QUEUE for the first error (R487). -/
def State.qEvent (s : State) (n : Nat) (e : Ev) (hh : Nat) : State :=
  let p := qPage n
  let first := e.code ≠ 0 ∧ s.fld p HDR.ERR_COUNT_COUNT = 0
  let s1 := s.raiseBy p e hh
  if first then s1.setFld p QEH.ERR_QUEUE_INDEX (n % 32) else s1

/-- Q_THRESH at the onset of a bit of HH_THRESH (R482). -/
def State.qTouch (s : State) (n : Nat) : State :=
  let q := s.q n
  let above := decide (s.fld (qPage n) (QEH.THRESH_WORDS.at (n % 32)) < q.level)
  let s1 := s.setQ n { q with isOver := above }
  if above && !q.isOver then s1.qEvent n QEH.evQ_THRESH 0xE else s1

/-- The push result of Table 12.3, kept in PUSH_STATUS (R463). -/
def State.pushResult (s : State) (n outcome words : Nat) : State :=
  let v := (s.q n).lastSeq * 2 ^ 16 + outcome * 2 ^ 12 + min words 0x7FF
  { (s.setFld (qPage n) (QEH.PUSH_STATUS_S.at (n % 32)) v) with resp := some ⟨.ok, [v]⟩ }

/-- COUNTS.REFUSED and PUSH_REFUSED (R461, R483). -/
def State.qRefuse (s : State) (n hh : Nat) : State :=
  (s.bump (qPage n) (QEH.COUNTS_REFUSED.at (n % 32))).qEvent n QEH.evPUSH_REFUSED hh

/-- An item is lost (R476). -/
def State.qLose (s : State) (n hh : Nat) : State :=
  let p := qPage n
  let s1 := (s.bump p (QEH.LOST_ITEMS_COUNT.at (n % 32))).setQ n { s.q n with lost := true }
  (s1.orFld p QEH.HH_LOST_MAP (2 ^ (n % 32))).qEvent n QEH.evITEM_LOST hh

/-! ### Spill (R471 to R473, R487) -/

/-- Applies a function with a running count to each word of a list. -/
def threadWords (f : Nat → QWord → Nat × QWord) : Nat → List QWord → Nat × List QWord
  | c, [] => (c, [])
  | c, w :: ws =>
    let r := f c w
    let t := threadWords f r.1 ws
    (t.1, r.2 :: t.2)

/-- Applies a function with a running count to each word of each item. -/
def threadItems (f : Nat → QWord → Nat × QWord) : Nat → List QItem → Nat × List QItem
  | c, [] => (c, [])
  | c, i :: is =>
    let r := threadWords f c i.words
    let t := threadItems f r.1 is
    (t.1, { i with words := r.2 } :: t.2)

/-- Applies a function with a running count to every word of a queue, in FIFO order. -/
def QueueSt.thread (q : QueueSt) (f : Nat → QWord → Nat × QWord) (c : Nat) : QueueSt :=
  let r := threadItems f c q.items
  match q.opened with
  | none => { q with items := r.2 }
  | some o => { q with items := r.2, opened := some { o with words := (threadWords f r.1 o.words).2 } }

/-- Applies a function to every word of a queue. -/
def QueueSt.mapWords (q : QueueSt) (f : QWord → QWord) : QueueSt := q.thread (fun c w => (c, f w)) 0

/-- While the spill region holds no block, tail words move into the room of the head stage (R471). -/
def QueueSt.settle (q : QueueSt) : QueueSt :=
  if q.spilling then q
  else q.thread (fun c w => if w.place = 0 ∧ 0 < c then (c - 1, { w with place := 4 }) else (c, w)) (16 - q.headLen)

/-- The oldest tail words, up to 7, form block `b` (R471). -/
def QueueSt.formBlock (q : QueueSt) (b : Nat) : QueueSt :=
  q.thread (fun c w => if w.place = 0 ∧ c < 7 then (c + 1, { w with place := 1, blk := b, slot := c }) else (c, w)) 0

/-- The DRAM address of a block (R458). -/
def State.blockAddr (s : State) (n b : Nat) : Nat := s.qBase n + 64 * (b % (s.qSpill n / 64))

/-- The tag word of a block (Table 12.1). -/
def blockTag (b n : Nat) (ws : List QWord) : Nat :=
  let bits (f : QWord → Bool) : Nat := (ws.zipIdx).foldl (fun m e => putBit m e.2 (f e.1)) 0
  b * 2 ^ 32 + n * 2 ^ 24 + bits QWord.poison * 2 ^ 8 + bits QWord.parity

/-- A spill write of the oldest 7 tail words is issued (R471, R473). -/
def State.spillWrite (s : State) (n : Nat) : State :=
  let q := s.q n
  let ws := q.tail.take 7
  let pad := List.replicate (7 - ws.length) 0
  let a := s.blockAddr n q.bseq
  let q1 := { q.formBlock q.bseq with bseq := (q.bseq + 1) % 2 ^ 32, started := q.started || !q.spilling }
  let s1 := (s.setQ n q1).dramAsk a 64 n false
  s1.dramStore a (wordsLe (ws.map QWord.data ++ pad ++ [blockTag q.bseq n ws]))

/-- SPILL_ERR_INFO keeps the first error (Table 12.11). -/
def State.spillErrInfo (s : State) (n status : Nat) : State :=
  if s.on pQe QE.SPILL_ERR_INFO_VALID then s
  else ((s.setFld pQe QE.SPILL_ERR_INFO_VALID 1).setFld pQe QE.SPILL_ERR_INFO_STATUS status).setFld pQe
    QE.SPILL_ERR_INFO_QUEUE n

/-- The oldest block in a place. -/
def QueueSt.oldestAt (q : QueueSt) (place : Nat) : Option Nat :=
  (q.words.find? (fun w => w.place == place)).map QWord.blk

/-- The write of a block completes with a status; its words lie in the spill region (R472, R487). -/
def State.spillWritten (s : State) (n b status : Nat) : State :=
  let q := (s.q n).mapWords (fun w =>
    if w.place = 1 ∧ w.blk = b then { w with place := 2, poison := w.poison || status != 0 } else w)
  let s1 := (s.setQ n q).dramDone n 64
  if status = 0 then s1 else (s1.raise pQe QE.evSPILL_ERR).spillErrInfo n status

/-- A read of a block is issued for a client (R471, R473, R499). -/
def State.spillRead (s : State) (n b client : Nat) : State :=
  let q := (s.q n).mapWords (fun w => if w.place = 2 ∧ w.blk = b then { w with place := 3 } else w)
  (s.setQ n q).dramAsk (s.blockAddr n b) 64 client false

/-- A block returns: its words take the data, parity and poison that the DRAM holds, and a wrong tag, a bad status or
a poisoned flit poisons them (R487). -/
def State.spillReturned (s : State) (n b status flits client : Nat) : State :=
  let a := s.blockAddr n b
  let tag := s.dramWord (a + 56)
  let tagOk := bitsOf tag 63 32 == b && bitsOf tag 31 24 == n
  let q := (s.q n).mapWords (fun w =>
    if w.place = 3 ∧ w.blk = b then
      { w with
        place := 4
        data := s.dramWord (a + 8 * w.slot)
        parity := bitAt tag w.slot
        poison := w.poison || bitAt tag (8 + w.slot) || !tagOk || status != 0 || bitAt flits (w.slot / 4) }
    else w)
  let s1 := (s.setQ n q).dramDone client 64
  let s2 := if tagOk then s1 else (s1.raise pQe QE.evSPILL_TAG_ERR).spillErrInfo n 0xF
  if status = 0 ∧ flits = 0 then s2 else (s2.raise pQe QE.evSPILL_ERR).spillErrInfo n status

/-- Words `off` to `off + cnt - 1` of item `k` are not all out of the spill region. -/
def QueueSt.needs (q : QueueSt) (k off cnt : Nat) : Bool :=
  q.items.any (fun i => i.idx == k && ((i.words.drop off).take cnt).any QWord.out)

/-- The oldest spilled block is read back, whatever step of its way it is on. -/
def State.pullBlock (s : State) (n client : Nat) : State :=
  match ((s.q n).words.find? QWord.out).map QWord.blk with
  | none => s
  | some b =>
    let s1 := if ((s.q n).words.any (fun w => w.blk == b && w.place == 1)) then s.spillWritten n b 0 else s
    let s2 := if ((s1.q n).words.any (fun w => w.blk == b && w.place == 2)) then s1.spillRead n b client else s1
    s2.spillReturned n b 0 0 client

/-- A pop whose words lie in the spill region waits for the spill reads (R472); each block read leaves fewer words
there, so the bound is never reached (log entry 18). -/
def State.pull (s : State) (n k off cnt client : Nat) : Nat → State
  | 0 => s
  | f + 1 => if (s.q n).needs k off cnt then (s.pullBlock n client).pull n k off cnt client f else s

/-- A full tail stage withholds credit until a spill write completes (R472). -/
def State.makeRoom (s : State) (n : Nat) : State :=
  let q := (s.q n).settle
  let s1 := s.setQ n q
  if q.tail.length < 16 then s1
  else
    let s2 := s1.setQ n { q with stalled := true }
    let blocks := (q.words.filter (fun w => w.out && w.slot == 0)).length
    if s.qSpill n / 64 ≤ blocks then s2 else (s2.spillWrite n).spillWritten n q.bseq 0

/-! ### Space (R469) and loss (R476) -/

/-- Items read past and not held are freed unless a mark lies at or before them (R469). -/
def QueueSt.gc (q : QueueSt) : QueueSt :=
  { q with items := q.items.filter (fun i => decide (q.rd ≤ i.idx) || i.held
      || (match q.mark with
        | some m => decide (m ≤ i.idx)
        | none => false)) }

/-- The oldest committed item that is not held is overwritten (R476). -/
def State.qOverwrite (s : State) (n hh : Nat) (i : QItem) : State :=
  let q := s.q n
  let lostMark := q.mark == some i.idx
  let q1 := { q with
    items := q.items.filter (fun j => j.idx != i.idx)
    rd := if q.rd = i.idx then i.idx + 1 else q.rd
    off := if q.rd = i.idx then 0 else q.off
    mark := if lostMark then none else q.mark }
  let s1 := (s.setQ n (if lostMark then q1.gc else q1)).qLose n hh
  if lostMark then s1.qEvent n QEH.evMARK_LOST hh else s1

/-- The open item is abandoned with an outcome that counts in COUNTS.ABANDONED (R477, R484, R487). -/
def State.qAbandon (s : State) (n outcome : Nat) (disc : Bool) (hh : Nat) : State :=
  let q := s.q n
  match q.opened with
  | none => s
  | some o =>
    let d : List QDisc := if disc then q.discs ++ [⟨o.prod, true, s.tb.beat⟩] else q.discs
    let s1 := (s.setQ n { q with opened := none, discs := d }).pushResult n outcome o.words.length
    (s1.bump (qPage n) (QEH.COUNTS_ABANDONED.at (n % 32))).qEvent n QEH.evITEM_ABANDONED hh

/-! ### Pushes (R460 to R464, R476 to R478, R483) -/

/-- The parity bit that makes the number of ones in the 65 bits even (R457). -/
def wordParity (v : Nat) : Bool := popCount 64 v % 2 == 1

/-- Stores one word of the open item, or says how the item ended: 7 TOO_BIG, 8 DROPPED. -/
def State.storeWord (s : State) (n hh : Nat) (last : Bool) (v : Nat) : State × Option Nat :=
  let q := s.q n
  match q.opened with
  | none => (s, some 9)
  | some o =>
    let len := o.words.length
    let gone : QueueSt := { q with
      opened := none
      discs := if last then q.discs else q.discs ++ [⟨o.prod, true, s.tb.beat⟩] }
    if min 1024 (s.qCap n) < len + 1 then
      (((s.setQ n gone).qRefuse n hh).pushResult n 7 len, some 7)
    else
      let full := s.qCap n ≤ q.used
      let victim := if full && !s.on (qPage n) (QEH.Q_CFG_FULL_MODE.at (n % 32))
        then q.items.find? (fun i => !i.held) else none
      let s1 := match victim with
        | some i => s.qOverwrite n hh i
        | none => s
      if full && victim.isNone then
        let drop : QueueSt := { q with
          opened := none
          discs := if last then q.discs else q.discs ++ [⟨o.prod, false, s.tb.beat⟩] }
        (((s.setQ n drop).qLose n hh).pushResult n 8 len, some 8)
      else
        let s2 := s1.makeRoom n
        let q2 := s2.q n
        let ws := q2.openWords ++ [⟨v % 2 ^ 64, wordParity (v % 2 ^ 64), false, 0, 0, 0⟩]
        let o2 : QOpen := ⟨o.prod, ws, s.tb.beat⟩
        (s2.setQ n { q2 with opened := some o2 }, none)

/-- Stores the words of an access one after another; those that follow the end of an item that is too big come from a
discarding producer (R478, R483). -/
def State.storeWords (s : State) (n hh : Nat) (last : Bool) : List Nat → State × Option Nat
  | [] => (s, none)
  | v :: vs =>
    match s.storeWord n hh last v with
    | (t, some k) =>
      (if k = 7 then t.bump (qPage n) (QEH.FLUSH_DISCARD_WORDS_COUNT.at (n % 32)) vs.length else t, some k)
    | (t, none) => t.storeWords n hh last vs

/-- The schedulers' slots that are enabled and bound to a queue, as pairs of scheduler and slot (R496). -/
def State.boundTo (s : State) (n : Nat) : List (Nat × Nat) :=
  (List.range 5).flatMap (fun p => ((List.range 64).filter (fun k =>
    s.on (pSch p) (SCH.SLOT_CTRL_EN.at k) && s.fld (pSch p) (SCH.BIND_QUEUE.at k) == n)).map (fun k => (p, k)))

/-- DEPTH_HWM of the slots bound to a queue, at a commit (R514). -/
def State.depthMarks (s : State) (n : Nat) : State :=
  (s.boundTo n).foldl (fun t e =>
    t.setFld (pSch e.1) (SCH.DEPTH_HWM_WORDS.at e.2)
      (max (t.fld (pSch e.1) (SCH.DEPTH_HWM_WORDS.at e.2)) (s.q n).level)) s

/-- The open item is committed and takes the next ITEM_SEQ (R460, R464). -/
def State.qCommit (s : State) (n stall : Nat) : State :=
  let q := s.q n
  match q.opened with
  | none => s
  | some o =>
    let it : QItem := ⟨q.nextIdx, q.seq, o.words, cadd s.tb.count 1, stall, false, s.tb.beat⟩
    let s1 := s.setQ n { q with
      items := q.items ++ [it]
      opened := none
      nextIdx := q.nextIdx + 1
      lastSeq := q.seq
      seq := (q.seq + 1) % 2 ^ 16 }
    (s1.pushResult n 0 o.words.length).depthMarks n

/-- One push access of a producer, judged as enabled, discarding, collided or poisoned before it stores (R461, R478,
R487). -/
def State.qPush (s : State) (n : Nat) (pr : Producer) (ws : List Nat) (last poisoned : Bool) (stall : Nat) : State :=
  let q := s.q n
  let hh := pr.hh
  if s.qOn n = false then (s.qRefuse n hh).pushResult n 6 0
  else
    match q.discs.find? (fun d => decide (d.prod = pr)) with
    | some d =>
      let ds := if last then q.discs.filter (fun e => decide (e.prod ≠ pr))
        else q.discs.map (fun e => if e.prod = pr then { e with last := s.tb.beat } else e)
      let s1 := s.setQ n { q with discs := ds }
      let s2 := if d.counts then s1.bump (qPage n) (QEH.FLUSH_DISCARD_WORDS_COUNT.at (n % 32)) ws.length else s1
      s2.pushResult n 9 0
    | none =>
      let other := match q.opened with
        | some o => decide (o.prod ≠ pr)
        | none => false
      if other then (s.qRefuse n hh).pushResult n 5 0
      else
        let s1 := if q.opened.isSome then s else
          let o : QOpen := ⟨pr, [], s.tb.beat⟩
          s.setQ n { q with opened := some o }
        if poisoned then
          let s2 := (s1.qAbandon n 4 (!last) hh).pushResult n 4 0
          { s2 with resp := s2.resp.map (fun r => { r with status := .poisoned }) }
        else
          match s1.storeWords n hh last ws with
          | (t, some _) => t.qTouch n
          | (t, none) =>
            let t1 := t.setQ n (t.q n).settle
            let t2 := if last then t1.qCommit n stall else t1.pushResult n 1 (t1.q n).openWords.length
            t2.qTouch n

/-- Pushes a whole item in one go, as an internal producer does. -/
def State.qPushItem (s : State) (n : Nat) (pr : Producer) (ws : List Nat) (stall : Nat) : State :=
  s.qPush n pr ws true false stall

/-! ### Pops (R465 to R468, R496) -/

/-- The first word of a pop's answer (Table 12.4). -/
def popD0 (seq : Nat) (held rewound lost poison empty last start : Bool) (length offset n : Nat) : Nat :=
  seq * 2 ^ 48 + b2n held * 2 ^ 43 + b2n rewound * 2 ^ 42 + b2n lost * 2 ^ 41 + b2n poison * 2 ^ 40
    + b2n empty * 2 ^ 39 + b2n last * 2 ^ 38 + b2n start * 2 ^ 37 + length * 2 ^ 26 + offset % 1024 * 2 ^ 16 + n

/-- A word as it leaves the queue: bad parity sets its poison tag (R487). -/
def QWord.leaving (w : QWord) : QWord := { w with poison := w.poison || (w.parity != wordParity w.data) }

/-- Some word has bad parity. -/
def anyBadParity (ws : List QWord) : Bool := ws.any (fun w => w.parity != wordParity w.data)

/-- The poison mask of delivered words (Table 12.4). -/
def poisonMask (ws : List QWord) : Nat := (ws.zipIdx).foldl (fun m e => putBit m e.2 e.1.leaving.poison) 0

/-- The answer of a pop that asks for `nw` words: descriptor, mask, data, then zeros (R465). -/
def popAnswer (nw d0 mask : Nat) (ws : List QWord) : List Nat :=
  ((if 2 ≤ nw then [d0, mask] else [d0]) ++ ws.map QWord.data ++ List.replicate nw 0).take nw

/-- Answers a pop; a poisoned word makes the STATUS POISONED (R466). -/
def State.popReply (s : State) (nw d0 mask : Nat) (ws : List QWord) : State :=
  { s with resp := some ⟨if mask = 0 then .ok else .poisoned, popAnswer nw d0 mask ws⟩ }

/-- A STREAM pop of `nw` words, whose spill reads are metered for a client (R465, R472). -/
def State.popStreamFor (s : State) (n nw client hh : Nat) : State :=
  let q := s.q n
  match s.qCur n with
  | none =>
    let s1 := s.popReply nw (popD0 0 false q.rewound q.lost false true false false 0 0 0) 0 []
    if nw ≤ 2 then s1 else s1.setQ n { q with lost := false, rewound := false }
  | some (i, off) =>
    let len := i.words.length
    if nw ≤ 2 then s.popReply nw (popD0 i.seq false q.rewound q.lost false false false (off == 0) len off 0) 0 []
    else
      let cnt := min (nw - 2) (len - off)
      let s1 := s.pull n i.idx off cnt client 1100
      let q1 := s1.q n
      let ws := match q1.items.find? (fun j => j.idx == i.idx) with
        | some j => (j.words.drop off).take cnt
        | none => []
      let last := off + cnt == len
      let mask := poisonMask ws
      let items := q1.items.map (fun j => if j.idx = i.idx then
        { j with words := (j.words.zipIdx).map (fun e =>
            if off ≤ e.2 ∧ e.2 < off + cnt then { e.1 with place := 5 } else e.1) } else j)
      let q2 := { q1 with
        items := items
        rd := if last then i.idx + 1 else i.idx
        off := if last then 0 else off + cnt
        lost := false
        rewound := false }
      let s2 := s1.setQ n q2.gc.settle
      let s3 := if anyBadParity ws then s2.qEvent n QEH.evPOISON_POP hh else s2
      (s3.qTouch n).popReply nw (popD0 i.seq false q.rewound q.lost (mask != 0) false last (off == 0) len off cnt) mask
        ws

/-- A STREAM pop, metered as the queue's spill traffic. -/
def State.popStream (s : State) (n nw hh : Nat) : State := s.popStreamFor n nw n hh

/-- HELD_READ from an offset: nothing changes but LOST and REWOUND, which are shown once (R465, R468). -/
def State.heldRead (s : State) (n nw off hh : Nat) : State :=
  let q := s.q n
  let s0 := s.setQ n { q with lost := false, rewound := false }
  match q.heldItem with
  | none => s0.popReply nw (popD0 0 true q.rewound q.lost false true false false 0 0 0) 0 []
  | some i =>
    let len := i.words.length
    let cnt := if nw ≤ 2 then 0 else min (nw - 2) (len - off)
    let ws := (i.words.drop off).take cnt
    let mask := poisonMask ws
    let s1 := if anyBadParity ws then s0.qEvent n QEH.evPOISON_POP hh else s0
    s1.popReply nw (popD0 i.seq true q.rewound q.lost (mask != 0) false (0 < cnt && off + cnt == len) (off == 0) len
      off cnt) mask ws

/-- TAKE holds the item at the read position, read whole from its first word (R468). -/
def State.takeItem (s : State) (n : Nat) : State :=
  let q := s.q n
  match q.heldItem, s.qCur n with
  | none, some (i, _) =>
    let s1 := s.pull n i.idx 0 i.words.length n 1100
    let q1 := s1.q n
    let items := q1.items.map (fun j => if j.idx = i.idx then
      { j with held := true, words := j.words.map (fun w => { w with place := 5 }) } else j)
    let q2 := { q1 with items := items, rd := i.idx + 1, off := 0 }
    (s1.setQ n q2.settle).qTouch n
  | _, _ => s

/-- TAKE: holds the next item and answers as HELD_READ at offset 0; with one held already it answers at `off`; with no
unread item the answer is EMPTY (R468). -/
def State.take (s : State) (n nw off hh : Nat) : State :=
  (s.takeItem n).heldRead n nw (if (s.q n).heldItem.isSome then off else 0) hh

/-- RELEASE_HELD ends the hold, frees the space unless a mark forbids it, and answers with the descriptor (R468,
R469). -/
def State.releaseHeld (s : State) (n nw : Nat) : State :=
  let q := s.q n
  let q1 := { q with
    items := q.items.map (fun (j : QItem) => { j with held := false })
    lost := false
    rewound := false }
  let d0 := match q.heldItem with
    | some i => popD0 i.seq false q.rewound q.lost false false false true i.words.length 0 0
    | none => popD0 0 false q.rewound q.lost false true false false 0 0 0
  ((s.setQ n q1.gc.settle).qTouch n).popReply nw d0 0 []

/-! ### Mark, rewind, release and flush (R470, R477) -/

/-- MARK (R470). -/
def State.qMark (s : State) (n : Nat) : State :=
  let q := s.q n
  let m := match q.cur with
    | some (i, _) => i.idx
    | none => q.nextIdx
  let q1 := { q with mark := some m }
  s.setQ n q1.gc

/-- REWIND; with no mark it has no effect (R470). -/
def State.qRewind (s : State) (n : Nat) : State :=
  let q := s.q n
  match q.mark with
  | some m => (s.setQ n { q with rd := m, off := 0, rewound := true }).qTouch n
  | none => s

/-- RELEASE clears the mark (R470). -/
def State.qRelease (s : State) (n : Nat) : State :=
  let q := s.q n
  let q1 := { q with mark := none }
  s.setQ n q1.gc.settle

/-- The slots bound to a queue leave their lists and go idle with deficit 0 (R529, Table 13.5). -/
def State.unlistQueue (s : State) (n : Nat) : State :=
  (s.boundTo n).foldl (fun t e =>
    let c := Tab.get SchSt.reset t.sch e.1
    let k := Tab.get SlotSt.reset c.slots e.2
    let c1 : SchSt := { c with
      slots := Tab.set SlotSt.reset c.slots e.2 { k with place := 0, deficit := 0, turn := false }
      hi := c.hi.filter (· != e.2)
      lo := c.lo.filter (· != e.2)
      ex := c.ex.filter (· != e.2) }
    { t with sch := Tab.set SchSt.reset t.sch e.1 c1 }) s

/-- FLUSH (R477): what is unread or marked goes, the held item stays, the open item is abandoned. -/
def State.qFlush (s : State) (n : Nat) : State :=
  let hh := match (s.q n).opened with
    | some o => o.prod.hh
    | none => 0xE
  let s1 := s.qAbandon n 2 true hh
  let q := s1.q n
  let s2 := s1.setQ n { q with items := q.items.filter QItem.held, mark := none, rd := q.nextIdx, off := 0 }
  (s2.unlistQueue n).qTouch n

/-- The queue starts or ends empty; its sequence numbers restart (R464, R479, R480). -/
def State.qEmpty (s : State) (n : Nat) : State :=
  let s1 := s.unlistQueue n
  s1.setQ n { QueueSt.reset with refuse := (s.q n).refuse, pin := (s.q n).pin }

/-! ### Configuration (R475, R479 to R481, R485) -/

/-- The lowest applicable cause of Table 12.7, 0 for none. -/
def State.qEnableCause (s : State) (n : Nat) : Nat :=
  let base := s.qBase n
  let size := s.qSpill n
  if base % size ≠ 0 then 1
  else if (if s.qOwner n = 15 then !s.dramMapped base size else !s.dramMay (s.qOwner n) base size) then 2
  else if s.qsOn.any (fun m => m != n && decide (base < s.qBase m + s.qSpill m) && decide (s.qBase m < base + size))
    then 3
  else if s.fld pQe QE.SPILL_BUDGET_BYTES * 2 ^ 16
      < (((s.qsOn.filter (· != n)).map (fun m => s.fld (qPage m) (QEH.SPILL_RATE_RATE.at (m % 32)))).sum
        + s.fld (qPage n) (QEH.SPILL_RATE_RATE.at (n % 32))) then 4
  else 0

/-- A served write of Q_CFG (R479 to R481). -/
def State.qCfgWrite (s : State) (n w hh : Nat) : State :=
  let p := qPage n
  let i := n % 32
  let was := s.qOn n
  let size := if bitsOf w 27 24 = 15 then s.fld p (QEH.Q_CFG_SPILL_SIZE.at i) else bitsOf w 27 24
  let differs := size ≠ s.fld p (QEH.Q_CFG_SPILL_SIZE.at i) ∨ b2n (bitAt w 30) ≠ s.fld p (QEH.Q_CFG_FULL_MODE.at i)
  let s1 := if was then (if differs then s.qEvent n QEH.evCFG_REFUSED hh else s)
    else (s.setFld p (QEH.Q_CFG_SPILL_SIZE.at i) size).setFld p (QEH.Q_CFG_FULL_MODE.at i) (b2n (bitAt w 30))
  let s2 := s1.setFld p (QEH.Q_CFG_ADAPT_EN.at i) (b2n (bitAt w 29))
  if bitAt w 31 && !was then
    let c := s2.qEnableCause n
    let s3 := s2.setQ n { s2.q n with refuse := c }
    if c = 0 then ((s3.qEmpty n).setFld p (QEH.Q_CFG_EN.at i) 1)
    else s3.qEvent n QEH.evENABLE_REFUSED hh
  else if !bitAt w 31 && was then (s2.setFld p (QEH.Q_CFG_EN.at i) 0) |> fun t => t.qEmpty n
  else s2

/-- A served write of a locked configuration word (R481). -/
def State.qLockedWrite (s : State) (n : Nat) (f : Fld) (w hh : Nat) : State :=
  if s.qOn n then
    if w % 2 ^ f.width = s.fld (qPage n) f then s else s.qEvent n QEH.evCFG_REFUSED hh
  else s.setFld (qPage n) f w

/-- A stage bound: below 7 it is 7, above 16 it is 16 (R485). -/
def stageBound (v : Nat) : Nat := clampNat 7 16 v

/-- A served write of a QEH register, by offset (Table 12.12). -/
def State.qehWrite (s : State) (hh p off w : Nat) : State :=
  if off < 0x200 then s.writeFields p (s.fieldsOf p off) w
  else
    let i := (off - 0x200) / 0x40
    let n := 32 * (p - pQeh 0) + i
    let r := (off - 0x200) % 0x40
    if r = 0x00 then s.qCfgWrite n w hh
    else if r = 0x04 then s.qLockedWrite n (QEH.SPILL_BASE_LO_BASE.at i) w hh
    else if r = 0x08 then s.qLockedWrite n (QEH.SPILL_BASE_HI_BASE.at i) w hh
    else if r = 0x0C then s.qLockedWrite n (QEH.SPILL_RATE_RATE.at i) w hh
    else if r = 0x10 then
      if s.on p (QEH.Q_CFG_ADAPT_EN.at i) then s.writeIgnored p
      else s.setFld p (QEH.SPILL_WM_WM.at i) (clampNat (s.fld p (QEH.SPILL_ENV_MIN.at i))
        (s.fld p (QEH.SPILL_ENV_MAX.at i)) (stageBound (bitsOf w 4 0)))
    else if r = 0x14 then
      let hi := stageBound (bitsOf w 12 8)
      let lo := stageBound (bitsOf w 4 0)
      let s1 := (s.setFld p (QEH.SPILL_ENV_MAX.at i) hi).setFld p (QEH.SPILL_ENV_MIN.at i) (min lo hi)
      let s2 := if hi < lo then s1.clampBit p i else s1
      s2.setFld p (QEH.SPILL_WM_WM.at i) (clampNat (min lo hi) hi (s2.fld p (QEH.SPILL_WM_WM.at i)))
    else if r = 0x18 then (s.setFld p (QEH.THRESH_WORDS.at i) w).qTouch n
    else if r = 0x1C then
      let s1 := if bitAt w 0 then s.qFlush n else s
      let s2 := if bitAt w 1 then s1.qMark n else s1
      let s3 := if bitAt w 2 then s2.qRewind n else s2
      if bitAt w 3 then s3.qRelease n else s3
    else s.writeFields p (s.fieldsOf p off) w

/-- The fields of a page between two bit addresses return to their reset values. -/
def State.clearRegs (s : State) (p lo hi : Nat) : State :=
  { s with regs := Tab.keep (fun k => !(decide (regKey p lo ≤ k) && decide (k < regKey p hi))) s.regs }

/-- A queue is reset as at a disable, and its fields take their WARM values (Table 12.8). -/
def State.qRenew (s : State) (n : Nat) : State :=
  let s1 := s.unlistQueue n
  let lo := (0x200 + 0x40 * (n % 32)) * 8
  (s1.setQ n QueueSt.reset).clearRegs (qPage n) lo (lo + 512)

/-- A served write of a QE register: an ownership entry takes the band's household or the manager, and a change renews
the queue (R455, Table 12.8). -/
def State.qeWrite (s : State) (off w : Nat) : State :=
  if 0x100 ≤ off ∧ off < 0x180 then
    (List.range 8).foldl (fun t j =>
      let n := (off - 0x100) * 2 + j
      let v := bitsOf w (4 * j + 3) (4 * j)
      if (v = n / 32 ∨ v = 15) ∧ v ≠ t.qOwner n then (t.qRenew n).setFld pQe (QE.Q_OWNER_QUEUE.at n) v else t) s
  else if off = 0x180 then
    if s.isLocked pQe then
      if clampNat 16 30 (bitsOf w 4 0) = s.fld pQe QE.QE_CFG_ITEM_TMO then s else s.lockViol pQe
    else
      let v := clampNat 16 30 (bitsOf w 4 0)
      let s1 := s.setFld pQe QE.QE_CFG_ITEM_TMO v
      if v = bitsOf w 4 0 then s1 else s1.clampBit pQe 0
  else s.writeFields pQe (s.fieldsOf pQe off) w

/-! ### Waiting for spill transfers (R472) -/

/-- The blocks of a queue's ring in use. -/
def QueueSt.blocks (q : QueueSt) : Nat := (q.words.filter (fun w => w.out && w.slot == 0)).length

/-- The tail stage is full and a spill write can empty it. -/
def State.tailWait (s : State) (n : Nat) : Bool :=
  let q := (s.q n).settle
  s.qOn n && decide (16 ≤ q.tail.length) && decide (q.blocks < s.qSpill n / 64)

/-- A STREAM pop of `nw` words needs words that lie in the spill region. -/
def State.popWaits (s : State) (n nw : Nat) : Bool :=
  match s.qCur n with
  | some (i, off) => decide (2 < nw) && (s.q n).needs i.idx off (min (nw - 2) (i.words.length - off))
  | none => false

/-- The router of a queue's engine (R454). -/
def qRouter (n : Nat) : Nat := if n < 128 then 14 else 15

/-- The queue port that an address lies in, with the byte in it. -/
def portOf (addr : Nat) : Option (Nat × Nat) :=
  let l := addr % 2 ^ 38
  if 0x3000000000 ≤ l ∧ l < 0x3000200000 then some ((l - 0x3000000000) / 0x2000, (l - 0x3000000000) % 0x2000) else none

/-- The request that stands first in a node interface, on REQ bulk or timed. -/
def State.firstReq (s : State) (r vc : Nat) : Option Flit :=
  match wholePacket (flitsAt s.noc.eject (8 * agentKey r 0 + vc)) with
  | some (h :: _, _) => some h
  | _ => none

/-- The packet waits at its queue engine: a push for a tail stage that is full, a STREAM pop for its spill reads. -/
def State.packetWaits (s : State) (h : Flit) : Bool :=
  match portOf (h.word 1) with
  | none => false
  | some (n, _) =>
    let op := bitsOf (h.word 0) 43 40
    if op = 4 ∨ op = 5 then s.tailWait n
    else if op = 6 ∧ bitsOf (h.word 2) 63 62 = 0 ∧ (s.boundTo n).isEmpty = true then s.popWaits n ((bitsOf (h.word 1) 57 48 + 1) / 8)
    else false

/-- An access that waited at a queue port need wait no more. -/
def State.waitOver (s : State) (c : Instr) : Bool :=
  match c with
  | .queuePush _ q _ _ _ _ => !s.tailWait q
  | .queuePushLast _ q _ _ _ _ => !s.tailWait q
  | .queuePopStream _ q _ bytes => !s.popWaits q (bytes / 8)
  | _ => true

/-- A pop waits for words of queue `n`. -/
def State.popPending (s : State) (n : Nat) : Bool :=
  s.qwait.any (fun c => match c with
    | .queuePopStream _ q _ _ => q.val == n
    | _ => false)
  || [0, 1].any (fun vc => match s.firstReq (qRouter n) vc with
    | some h => decide ((portOf (h.word 1)).map Prod.fst = some n) && s.packetWaits h
    | none => false)

/-- The queues of an engine whose tail stage is full. -/
def State.fullTails (s : State) (r : Nat) : List Nat := (s.qs.map Prod.fst).filter (fun n => qRouter n == r && s.tailWait n)

/-- Withheld credits go back once no tail stage of the engine is full (R472). -/
def State.releaseCredits (s : State) (r : Nat) : State :=
  if (s.fullTails r).isEmpty then
    [0, 1].foldl (fun t vc =>
      let k := chan r 4 vc
      let u := (List.range (Tab.get 0 t.noc.withheld k)).foldl (fun (v : State) _ => v.flyCredit r 4 vc 7) t
      { u with noc := { u.noc with withheld := Tab.erase u.noc.withheld k } }) s
  else s

/-- A flit leaves the L output's crossing for its agent: its credit goes back unless a queue engine withholds it, and a timed
event's last flit is checked for its latency (R428, R436, R441, R472). -/
def State.ejected (s : State) (c : Cross) : State :=
  let k := 8 * agentKey c.router c.agent + c.vc
  let l := flitsAt s.noc.eject k ++ [c.flit]
  let s1 : State := { s with noc := { s.noc with eject := Tab.set [] s.noc.eject k l } }
  let full := if c.vc ≤ 1 ∧ (c.router = 14 ∨ c.router = 15) then s.fullTails c.router else []
  let s2 := if full.isEmpty then s1.flyCredit c.router 4 c.vc (8 - agentLat c.router c.agent)
    else
      let w := chan c.router 4 c.vc
      full.foldl (fun (t : State) n => t.setQ n { t.q n with stalled := true })
        { s1 with noc := { s1.noc with withheld := Tab.set 0 s1.noc.withheld w (Tab.get 0 s1.noc.withheld w + 1) } }
  if c.vc = 5 ∧ (c.flit.typ = 0 ∨ c.flit.typ = 3) then
    match (l.reverse.find? (fun f => decide (f.typ ≤ 1))) with
    | some h => s2.eventLatency (h.word 0)
    | none => s2
  else s2

/-- A flit is read out of its crossing. -/
def State.readOut (s : State) (c : Cross) : State :=
  if c.port = 5 then s.ejected c else s.arrive c.router c.port c.vc c.flit c.parity c.sideband

/-- The flits whose beat has come are read out of the crossings; withheld credits go back where they may. -/
def State.nocTick (s : State) : State :=
  if s.noc.cross.isEmpty ∧ s.noc.withheld.isEmpty then s
  else
    let due := s.noc.cross.filter (fun c => decide (c.due ≤ s.tb.beat))
    let s1 : State := { s with noc := { s.noc with cross := s.noc.cross.filter (fun c => decide (s.tb.beat < c.due)) } }
    ((due.foldl State.readOut s1).releaseCredits 14).releaseCredits 15

/-! ### Push packets (R424, R435, R462) -/

/-- Words in pieces of `n`. -/
def cutWords (n : Nat) : Nat → List Nat → List (List Nat)
  | 0, _ => []
  | k + 1, ws => if ws.length ≤ n then [ws] else ws.take n :: cutWords n k (ws.drop n)

/-- The pieces of at most `n` words in which an item is pushed. -/
def pushPieces (n : Nat) (ws : List Nat) : List (List Nat) := cutWords n (ws.length + 1) ws

/-! ### Coincidences (R486, Table 12.8) -/

/-- A command flushes queue `n`. -/
def flushes (n : Nat) (c : Instr) : Bool :=
  match c with
  | .queueFlush _ q => q.val == n
  | _ => match writesReg (qPage n) (0x200 + 0x40 * (n % 32) + 0x1C) c with
    | some w => bitAt w 0
    | none => false

/-- A command is a STREAM pop of queue `n`. -/
def popsFrom (n : Nat) (c : Instr) : Bool :=
  match c with
  | .queuePopStream _ q _ _ => q.val == n
  | _ => false

/-- A command pushes to queue `n`. -/
def pushesTo (n : Nat) (c : Instr) : Bool :=
  match c with
  | .queuePush _ q _ _ _ _ => q.val == n
  | .queuePushLast _ q _ _ _ _ => q.val == n
  | _ => false

/-- A command releases the held item of queue `n`. -/
def releasesHeld (n : Nat) (c : Instr) : Bool :=
  match c with
  | .queueReleaseHeld _ _ q => q.val == n
  | _ => false

/-- A command changes the owner of queue `n`. -/
def State.ownerChange (s : State) (n : Nat) (c : Instr) : Bool :=
  match writesReg pQe (0x100 + 4 * (n / 8)) c with
  | some w => bitsOf w (4 * (n % 8) + 3) (4 * (n % 8)) != s.qOwner n
  | none => false

/-- A command resets household `h`. -/
def resetsHousehold (h : Nat) (c : Instr) : Bool :=
  match c with
  | .hhReset _ w => bitAt w.toNat h
  | .hhCtrlReset _ k w => k.val == h && bitAt w.toNat 0
  | .vfFlr k => k.val == h
  | _ => false

/-- A command acts on queue `n` itself. -/
def actsOn (n : Nat) (c : Instr) : Bool :=
  flushes n c || popsFrom n c || pushesTo n c || releasesHeld n c ||
    (match c with
    | .queueMark _ q => q.val == n
    | .queueRewind _ q => q.val == n
    | .queueRelease _ q => q.val == n
    | .queueTake _ _ q _ _ => q.val == n
    | .queueHeldRead _ _ q _ _ => q.val == n
    | .itemTimeout q => q.val == n
    | _ => false)

/-! ### Serving a port (R456, R459, R155) -/

/-- Serves an access to a queue port: hold, decode (REMOTE, SIZE), household reset, ownership, in this order. -/
def State.portAccess (s : State) (i : Instr) (a : Acc) (n addr bytes room : Nat) (write : Bool) (k : State → State) :
    State :=
  if s.por then s
  else if s.tb.dawn ≠ 0 then { s with held := s.held ++ [i] }
  else if a.master = .fabric ∧ a.fab then s.decodeError a addr write 6
  else if addr % 8 ≠ 0 ∨ bytes % 8 ≠ 0 ∨ bytes = 0 ∨ 512 < bytes ∨ room < bytes then s.decodeError a addr write 4
  else if s.hhReset.contains a.hh.val then { s with resp := some ⟨.reset, [0]⟩ }
  else if a.hh = 15 ∨ a.hh.val = s.qOwner n then k (s.answer [0])
  else s.denial a addr write

/-- The address of a place in a queue's port (R459). -/
def portAddr (n off : Nat) : Nat := 0x3000000000 + n * 0x2000 + off

/-- The 64-bit words that bytes hold, little-endian. -/
def bytesToWords : Nat → List Byte → List Nat
  | 0, _ => []
  | n + 1, bs => ofLeBytes (bs.take 8) :: bytesToWords n (bs.drop 8)

/-- The producer that an access names (R460, Table 11.5). -/
def producerOf (a : Acc) (agent : Nat) : Producer := ⟨a.node, agent, a.master.id, a.hh⟩

/-- A push packet of a producer at router `r` (R424, Tables 11.5, 11.6). -/
def State.pushPacket (s : State) (r : Nat) (pr : Producer) (q op sc tag : Nat) (ws : List Nat) (last : Bool)
    (stall : Nat) : List Flit :=
  let ds := if ws.length ≤ 1 then [] else dataFlits ((ws.length + 3) / 4) ws
  let w0 := nodeOf (qRouter q) * 2 ^ 58 + sc * 2 ^ 49 + op * 2 ^ 40 + pr.hh % 16 * 2 ^ 36 + pr.master * 2 ^ 33 + tag * 2 ^ 24
  let w1 := pr.agent * 2 ^ 61 + (8 * ws.length - 1) * 2 ^ 48 + portAddr q (if last then 0x1000 else 0)
  (packetFlits [s.sendW0 r w0 ds.length, w1, if ws.length ≤ 1 then nth 0 ws 0 else 0, 0]
    (ds.map (fun d => d ++ List.replicate (4 - d.length) 0))).map
    (fun f => if f.typ ≤ 1 then { f with stall := stall } else f)

/-- A STREAM pop by an access: while a slot is bound to the queue, its scheduler is the only consumer (R496). -/
def State.popAccess (s : State) (a : Acc) (n addr nw : Nat) : State :=
  if (s.boundTo n).isEmpty then s.popStream n nw a.hh
  else
    let s1 := s.denial a addr false
    { s1 with resp := some ⟨.denied, List.replicate nw 0⟩ }

/-- A push access at a port: one that finds the tail stage full waits for a spill write (R472). -/
def State.pushPort (s : State) (i : Instr) (a : Acc) (n agent off room : Nat) (last : Bool) (data : List Byte)
    (poisoned : Bool) : State :=
  s.portAccess i a n (portAddr n off) data.length room true (fun t =>
    if t.tailWait n then { t with qwait := t.qwait ++ [i], resp := s.resp }
    else t.qPush n (producerOf a agent) (bytesToWords (data.length / 8) data) last poisoned 0)

/-- QUEUE_PUSH (R460 to R463, R476, R478, R483, R487); a pop, an owner change and a household reset of its beat come first
(Table 12.8). -/
def execQueuePush (a : Acc) (q : Fin 256) (agent : Fin 8) (off : Fin 4096) (data : List Byte) (poisoned : Bool)
    (s : State) : Host.Outcome State Fault Refusal :=
  .next (s.after (.queuePush a q agent off data poisoned)
    (fun c => popsFrom q c || s.ownerChange q c || resetsHousehold a.hh c)
    (s.pushPort (.queuePush a q agent off data poisoned) a q agent off (0x1000 - off) false data poisoned))

/-- QUEUE_PUSH_LAST: the last word ends the item and commits it (R460, R464); a flush of its beat comes first too. -/
def execQueuePushLast (a : Acc) (q : Fin 256) (agent : Fin 8) (off : Fin 2048) (data : List Byte) (poisoned : Bool)
    (s : State) : Host.Outcome State Fault Refusal :=
  .next (s.after (.queuePushLast a q agent off data poisoned)
    (fun c => flushes q c || popsFrom q c || s.ownerChange q c || resetsHousehold a.hh c)
    (s.pushPort (.queuePushLast a q agent off data poisoned) a q agent (0x1000 + off) (0x800 - off) true data poisoned))

/-- QUEUE_POP_STREAM (R465, R466, R496): it waits for spilled words (R472); a flush and an owner change of its beat come
first. -/
def execQueuePopStream (a : Acc) (q : Fin 256) (off : Fin 2048) (bytes : Fin 1024) (s : State) :
    Host.Outcome State Fault Refusal :=
  .next (s.after (.queuePopStream a q off bytes) (fun c => flushes q c || s.ownerChange q c)
    (s.portAccess (.queuePopStream a q off bytes) a q (portAddr q (0x1800 + off)) bytes (0x800 - off) false (fun t =>
      if (t.boundTo q).isEmpty && t.popWaits q (bytes / 8) then
        { t with qwait := t.qwait ++ [.queuePopStream a q off bytes], resp := s.resp }
      else t.popAccess a q (portAddr q (0x1800 + off)) (bytes / 8))))

/-- A request of a held-item mode is accepted only from the step-item port of a run of the queue's owner; any other
completes with DENIED and zero data, and a household's is a denial (R467); so does one while a slot is bound to the queue
(R496). -/
def State.heldAccess (s : State) (a : Acc) (port : Bool) (n nw : Nat) (k : State → State) : State :=
  if port && decide (a.hh.val < 8) && a.hh.val == s.qOwner n && bitAt s.runningMask a.hh && (s.boundTo n).isEmpty then k s
  else
    let s1 := s.denial a (portAddr n 0x1800) false
    { s1 with resp := some ⟨.denied, List.replicate nw 0⟩ }

/-- QUEUE_HELD_READ (R468). -/
def execQueueHeldRead (a : Acc) (port : Bool) (q : Fin 256) (off : Fin 1024) (words : Fin 65) (s : State) :
    Host.Outcome State Fault Refusal :=
  .next (s.heldAccess a port q words (fun t => t.heldRead q words off a.hh))

/-- QUEUE_RELEASE_HELD (R468, R469). -/
def execQueueReleaseHeld (a : Acc) (port : Bool) (q : Fin 256) (s : State) : Host.Outcome State Fault Refusal :=
  .next (s.heldAccess a port q 2 (fun t => t.releaseHeld q 2))

/-- The offset of queue `n`'s register `r` in its page. -/
def qReg (n r : Nat) : Nat := 0x200 + 0x40 * (n % 32) + r

/-- A write access to a queue's register (R456, R740). -/
def State.qRegAccess (s : State) (i : Instr) (a : Acc) (n r w : Nat) : State :=
  s.access i a (qPage n) (qReg n r) true (fun t =>
    if t.mgrDenied a.hh (qPage n) (t.fieldsOf (qPage n) (qReg n r)) w then t.denial a (regAddr (qPage n) (qReg n r)) true
    else t.qehWrite a.hh (qPage n) (qReg n r) w)

/-- QUEUE_FLUSH (R477). -/
def execQueueFlush (a : Acc) (q : Fin 256) (s : State) : Host.Outcome State Fault Refusal :=
  .next (s.qRegAccess (.queueFlush a q) a q 0x1C 1)

/-- QUEUE_MARK (R470). -/
def execQueueMark (a : Acc) (q : Fin 256) (s : State) : Host.Outcome State Fault Refusal :=
  .next (s.qRegAccess (.queueMark a q) a q 0x1C 2)

/-- The next push to a full queue overwrites the item that holds the mark (R476). -/
def State.markAtRisk (s : State) (n : Nat) : Bool :=
  let q := s.q n
  decide (s.qCap n ≤ q.used) && !s.on (qPage n) (QEH.Q_CFG_FULL_MODE.at (n % 32))
    && q.mark.isSome && (q.items.find? (fun i => !i.held)).map QItem.idx == q.mark

/-- QUEUE_REWIND (R470); an overwrite of the item that holds the mark, on its beat, comes first (Table 12.8). -/
def execQueueRewind (a : Acc) (q : Fin 256) (s : State) : Host.Outcome State Fault Refusal :=
  .next (s.after (.queueRewind a q) (fun c => s.markAtRisk q && pushesTo q c) (s.qRegAccess (.queueRewind a q) a q 0x1C 4))

/-- QUEUE_RELEASE (R470). -/
def execQueueRelease (a : Acc) (q : Fin 256) (s : State) : Host.Outcome State Fault Refusal :=
  .next (s.qRegAccess (.queueRelease a q) a q 0x1C 8)

/-- QUEUE_ENABLE: a write of Q_CFG with EN = 1 (R479). -/
def execQueueEnable (a : Acc) (q : Fin 256) (w : Word) (s : State) : Host.Outcome State Fault Refusal :=
  .next (s.qRegAccess (.queueEnable a q w) a q 0 (setBit w.toNat 31))

/-- QUEUE_DISABLE: a write of Q_CFG with EN = 0 (R480). -/
def execQueueDisable (a : Acc) (q : Fin 256) (w : Word) (s : State) : Host.Outcome State Fault Refusal :=
  .next (s.qRegAccess (.queueDisable a q w) a q 0 (clrBit w.toNat 31))

/-- QUEUE_CFG_WRITE: a write of Q_CFG, SPILL_BASE_LO, SPILL_BASE_HI or SPILL_RATE (R481). -/
def execQueueCfgWrite (a : Acc) (q : Fin 256) (reg : Fin 4) (w : Word) (s : State) : Host.Outcome State Fault Refusal :=
  .next (s.qRegAccess (.queueCfgWrite a q reg w) a q (4 * reg) w.toNat)

/-! ### Spill commands -/

/-- SPILL_WRITE: issued when the tail stage holds SPILL_WM words, or 7 while the region holds a block, and the words
cannot move directly to the head stage (R471). -/
def execSpillWrite (q : Fin 256) (s : State) : Host.Outcome State Fault Refusal :=
  let qs := (s.q q).settle
  let s1 := s.setQ q qs
  let n := qs.tail.length
  let wm := s.fld (qPage q) (QEH.SPILL_WM_WM.at (q.val % 32))
  if s.tb.haltedIslands then .next s
  else .next (if 7 ≤ n ∧ (wm ≤ n ∨ qs.spilling) ∧ qs.blocks < s.qSpill q / 64 then s1.spillWrite q else s1)

/-- SPILL_WRITE_DONE: the oldest outstanding write completes with a status, and withheld credit is released (R472, R487). -/
def execSpillWriteDone (q : Fin 256) (status : Fin 8) (s : State) : Host.Outcome State Fault Refusal :=
  if s.tb.haltedIslands then .next s
  else
    match (s.q q).oldestAt 1 with
    | some b => .next ((s.spillWritten q b status).releaseCredits (qRouter q))
    | none => .next s

/-- SPILL_READ: the oldest block is read once the head stage has 7 free words, or a pop waits for it (R471, R472). -/
def execSpillRead (q : Fin 256) (s : State) : Host.Outcome State Fault Refusal :=
  if s.tb.haltedIslands then .next s
  else
    match (s.q q).oldestAt 2 with
    | some b => if (s.q q).headLen + 7 ≤ 16 ∨ s.popPending q then .next (s.spillRead q b q) else .next s
    | none => .next s

/-- SPILL_READ_DONE: the oldest outstanding read returns (R487). -/
def execSpillReadDone (q : Fin 256) (status : Fin 8) (poisonedFlits : Fin 4) (s : State) :
    Host.Outcome State Fault Refusal :=
  if s.tb.haltedIslands then .next s
  else
    match (s.q q).oldestAt 3 with
    | some b =>
      let t := s.spillReturned q b status poisonedFlits q
      .next (t.setQ q (t.q q).settle)
    | none => .next s

/-- SPILL_WM_UPDATE: the watermark loop, every 65,536 st (R474, R475), within an envelope written on the beat (R710). -/
def execSpillWmUpdate (q : Fin 256) (s : State) : Host.Outcome State Fault Refusal :=
  let p := qPage q
  let i := q.val % 32
  let st := s.q q
  let st0 := { st with stalled := false, started := false, updated := s.tb.beat + 1 }
  if s.stands (writesField p (QEH.SPILL_ENV_MAX.at i)) then .next (s.holdBack (.spillWmUpdate q))
  else if s.tb.count % 65536 ≠ 0 ∨ st.updated = s.tb.beat + 1 then .next s
  else if s.on p (QEH.Q_CFG_ADAPT_EN.at i) then
    let v : Int := s.fld p (QEH.SPILL_WM_WM.at i)
    let w : Int := if st.stalled then v - 1 else if st.started then v + 1 else v
    let lo : Int := s.fld p (QEH.SPILL_ENV_MIN.at i)
    let hi : Int := s.fld p (QEH.SPILL_ENV_MAX.at i)
    let pin := if w < lo ∨ hi < w then st.pin + 1 else 0
    let s1 := (s.setQ q { st0 with pin := pin }).setFld p (QEH.SPILL_WM_WM.at i) (clampInt lo hi w).toNat
    .next (if pin = 256 then s1.qEvent q QEH.evLOOP_PINNED 0xE else s1)
  else .next (s.setQ q st0)

/-! ### Timeouts and the pointer mismatch -/

/-- 2^ITEM_TMO beats have passed since a beat (R484). -/
def State.itemDue (s : State) (last : Nat) : Bool := decide (last + 2 ^ s.fld pQe QE.QE_CFG_ITEM_TMO ≤ s.tb.beat)

/-- ITEM_TIMEOUT: an open item without a word for 2^ITEM_TMO beats is abandoned (R484); a word of this beat comes first
(Table 12.8). -/
def execItemTimeout (q : Fin 256) (s : State) : Host.Outcome State Fault Refusal :=
  match (s.q q).opened with
  | some o => .next (if s.itemDue o.last then s.after (.itemTimeout q) (pushesTo q) (s.qAbandon q 3 true o.prod.hh) else s)
  | none => .next s

/-- DISCARD_TIMEOUT: a discarding producer that sent no word for 2^ITEM_TMO beats ends its discarding state (R478, R484). -/
def execDiscardTimeout (q : Fin 256) (node agent master hh : Fin 64) (s : State) : Host.Outcome State Fault Refusal :=
  let st := s.q q
  .next (s.setQ q { st with discs := st.discs.filter (fun d =>
    decide (d.prod ≠ ⟨node, agent, master, hh⟩) || !s.itemDue d.last) })

/-- QPTR_MISMATCH: the engine resets that queue alone (R488). -/
def State.qMismatch (s : State) (q : Nat) : State :=
  let st := s.q q
  let lost := st.items.length
  let s0 := (s.raise pQe QE.evQPTR_MISMATCH).qEvent q QEH.evQPTR_MISMATCH 0xE
  let s1 := s0.bump pQe QE.QPTR_COUNT_COUNT
  let s2 := if s1.on pQe QE.QPTR_INFO_VALID then s1
    else (s1.setFld pQe QE.QPTR_INFO_VALID 1).setFld pQe QE.QPTR_INFO_QUEUE q
  let s3 := (s2.bump (qPage q) (QEH.LOST_ITEMS_COUNT.at (q % 32)) lost).unlistQueue q
  let base := { st with
    items := []
    opened := none
    mark := none
    rd := st.nextIdx
    off := 0
    bseq := 0
    lost := st.lost || decide (0 < lost) }
  match st.opened with
  | some o =>
    ((s3.setQ q { base with discs := st.discs ++ [⟨o.prod, true, s.tb.beat⟩] }).pushResult q 2
      o.words.length).qTouch q
  | none => (s3.setQ q base).qTouch q

/-- QPTR_MISMATCH (R488): whatever else happens to the queue on its beat, its reset prevails (Table 12.8). -/
def execQptrMismatch (q : Fin 256) (s : State) : Host.Outcome State Fault Refusal :=
  .next (s.after (.qptrMismatch q) (actsOn q) (s.qMismatch q))

end Sys2Proof.Machine
end

