-- ==== Sys2Proof/Machine/Sched.lean ====
section
/-!
DEFINITION. Egress shaping and policing (Chapter 13): buckets and refill, eligibility, the calendar wheel, rate
changes, slot enables and the policers. The decision itself stands with the ports (Egress).
-/

namespace Sys2Proof.Machine

/-! ### Slots and rates -/

/-- A scheduler. -/
def State.sc (s : State) (p : Nat) : SchSt := Tab.get SchSt.reset s.sch p

/-- Writes a scheduler. -/
def State.setSc (s : State) (p : Nat) (c : SchSt) : State := { s with sch := Tab.set SchSt.reset s.sch p c }

/-- A bind slot. -/
def State.slot (s : State) (p k : Nat) : SlotSt := Tab.get SlotSt.reset (s.sc p).slots k

/-- Writes a bind slot. -/
def State.setSlot (s : State) (p k : Nat) (x : SlotSt) : State :=
  let c := s.sc p
  s.setSc p { c with slots := Tab.set SlotSt.reset c.slots k x }

/-- The debt floor F in units of 2^-16 byte (R497). -/
abbrev debtFloor : Int := -16384 * 65536

/-- A slot's peak rate in force: a PIR below CIR is used as equal to CIR (R523). -/
def State.pir (s : State) (p k : Nat) : Nat :=
  let v := s.fld (pSch p) (SCH.PIR_LO_PIR.at k) + 2 ^ 32 * s.fld (pSch p) (SCH.RATE_HI_PIR.at k)
  max v (s.cir p k)

/-- A slot's bucket sizes in bytes. -/
def State.cbs (s : State) (p k : Nat) : Nat := s.fld (pSch p) (SCH.CBS_BYTES.at k)

/-- The peak bucket's size in bytes. -/
def State.pbs (s : State) (p k : Nat) : Nat := s.fld (pSch p) (SCH.PBS_BYTES.at k)

/-- REFILL_EXP of a scheduler. -/
def State.refillExp (s : State) (p : Nat) : Nat := s.fld (pSch p) SCH.SCH_CFG_REFILL_EXP

/-- One refill of one bucket: rate R, size S in bytes, exponent E (R500). -/
def refill (tok : Int) (rem r size e : Nat) : Int × Nat :=
  let acc := r * 2 ^ e + rem
  (min (tok + (acc / 2 ^ 16 : Nat)) (size * 2 ^ 16 : Nat), acc % 2 ^ 16)

/-- The queue a slot is bound to. -/
def State.slotQueue (s : State) (p k : Nat) : Nat := s.fld (pSch p) (SCH.BIND_QUEUE.at k)

/-- The frame length L of a slot's head item in bytes; `none` without one (R494). -/
def State.headLen (s : State) (p k : Nat) : Option Nat :=
  if s.slotQueue p k |> s.qOn then
    (s.q (s.slotQueue p k)).cur.map (fun e => 8 * (e.1.words.length - e.2) + s.fld (pSch p) (SCH.ovh p))
  else none

/-- Peak-eligible for a frame of `l` bytes (R502). -/
def State.peakOk (s : State) (p k l : Nat) : Bool :=
  s.pir p k != 0 && decide (debtFloor ≤ (s.slot p k).b.tokP - (l * 65536 : Nat))

/-- Committed-eligible for a frame of `l` bytes (R502). -/
def State.commOk (s : State) (p k l : Nat) : Bool :=
  s.peakOk p k l && s.cir p k != 0 && decide (debtFloor ≤ (s.slot p k).b.tokC - (l * 65536 : Nat))

/-! ### The calendar wheel and the lists (R503, R505, R508) -/

/-- A slot leaves every list. -/
def State.unlist (s : State) (p k : Nat) : State :=
  let c := s.sc p
  s.setSc p { c with hi := c.hi.filter (· != k), lo := c.lo.filter (· != k), ex := c.ex.filter (· != k) }

/-- A slot goes idle with deficit 0. -/
def State.idleSlot (s : State) (p k : Nat) : State :=
  let t := s.unlist p k
  let x := t.slot p k
  t.setSlot p k { x with place := 0, deficit := 0, turn := false }

/-- The eligible time: the first refill instant at which the slot becomes peak-eligible for `l` bytes at the rate in
force; `none` with PIR 0 (R508). -/
def State.eligibleTime (s : State) (p k l : Nat) : Option Nat :=
  let r := s.pir p k
  let e := s.refillExp p
  let b := (s.slot p k).b
  if r = 0 then none
  else
    let need : Int := ((l * 65536 : Nat) + debtFloor - b.tokP) * 65536 - b.remP
    let step : Int := (r * 2 ^ e : Nat)
    let n := if need ≤ 0 then 1 else (-((-need) / step)).toNat
    some ((s.tb.count / 2 ^ e + n) * 2 ^ e)

/-- Places a slot that is not peak-eligible in the wheel, or parks it (R508). -/
def State.placeSlot (s : State) (p k l : Nat) : State :=
  let t := s.unlist p k
  let x := { t.slot p k with deficit := 0, turn := false }
  match t.eligibleTime p k l with
  | none => t.setSlot p k { x with place := 5, te := 0, level := 0 }
  | some te =>
    if te < t.tb.count + 65536 then t.setSlot p k { x with place := 4, te := te, level := 0 }
    else if te < t.tb.count + 134217728 then t.setSlot p k { x with place := 4, te := te, level := 1 }
    else t.setSlot p k { x with place := 5, te := te, level := 2 }

/-- A slot joins the tail of the list that its eligibility selects, or the wheel (R503, R505). -/
def State.wakeSlot (s : State) (p k : Nat) : State :=
  match s.headLen p k with
  | none => s.idleSlot p k
  | some l =>
    if s.peakOk p k l then
      let t := s.idleSlot p k
      let x := t.slot p k
      let c := t.sc p
      if s.commOk p k l then
        if s.on (pSch p) (SCH.BIND_CLASS.at k) then
          (t.setSc p { c with hi := c.hi ++ [k] }).setSlot p k { x with place := 1 }
        else (t.setSc p { c with lo := c.lo ++ [k] }).setSlot p k { x with place := 2 }
      else (t.setSc p { c with ex := c.ex ++ [k] }).setSlot p k { x with place := 3 }
    else s.placeSlot p k l

/-- On each multiple of 32 the slots of the wheel whose eligible time has come wake, in ascending index (R508,
Table 13.5). -/
def State.wheelNow (s : State) (p : Nat) : State :=
  if s.onTick 32 then
    (List.range 64).foldl (fun t k =>
      let x := t.slot p k
      if x.place = 4 ∧ x.level = 0 ∧ x.te ≤ t.tb.count then t.wakeSlot p k else t) s
  else s

/-- A slot is re-examined: it wakes if it is peak-eligible, and is placed anew otherwise. -/
def State.reexamine (s : State) (p k : Nat) : State :=
  match s.headLen p k with
  | none => s.idleSlot p k
  | some l => if s.peakOk p k l then s.wakeSlot p k else s.placeSlot p k l

/-- WHEEL_LEVEL1_MOVE: on each multiple of 65,536 the level-1 slots of this count move into level 0, and slots parked
beyond level 1 are re-examined (R508). -/
def execWheelLevel1Move (p : Fin 5) (s : State) : Host.Outcome State Fault Refusal :=
  if s.onTick 65536 then
    .next ((List.range 64).foldl (fun t k =>
      let x := t.slot p k
      if x.place = 4 ∧ x.level = 1 ∧ x.te / 65536 ≤ t.tb.count / 65536 then t.setSlot p k { x with level := 0 }
      else if x.place = 5 ∧ x.level = 2 then t.reexamine p k
      else t) s)
  else .next s

/-! ### Applies and refills (R500, R506, R509, R510) -/

/-- Slots with a pending shadow. -/
def State.slotsPending (s : State) (p : Nat) : List Nat :=
  (List.range 64).filter (fun k => s.shadows.any (fun e =>
    decide (regKey (pSch p) ((0x100 + 0x30 * k) * 8) ≤ e.1) && decide (e.1 < regKey (pSch p) ((0x130 + 0x30 * k) * 8))))

/-- A slot takes its counts at an apply (Table 13.2), and a peak rate below the committed rate is noted (R523). -/
def State.changeSlot (s : State) (p k : Nat) : State :=
  let v := s.fld (pSch p) (SCH.PIR_LO_PIR.at k) + 2 ^ 32 * s.fld (pSch p) (SCH.RATE_HI_PIR.at k)
  let s1 := if v < s.cir p k then s.clampBit (pSch p) 4 else s
  let x := s1.slot p k
  match s1.fld (pSch p) (SCH.RATE_HI_CHG_MODE.at k) with
  | 1 => s1.setSlot p k { x with b := ⟨(s1.cbs p k * 65536 : Nat), (s1.pbs p k * 65536 : Nat), 0, 0⟩ }
  | 2 => s1.setSlot p k { x with b := ⟨0, 0, 0, 0⟩ }
  | _ => s1

/-- The slots whose counts an apply resets. -/
def State.resetsAt (s : State) (p : Nat) (ks : List Nat) : List Nat :=
  ks.filter (fun k => let m := s.fld (pSch p) (SCH.RATE_HI_CHG_MODE.at k); m == 1 || m == 2)

/-- The slot waits in the wheel or is parked. -/
def SlotSt.waits (x : SlotSt) : Bool := x.place == 4 || x.place == 5

/-- The shadows of a scheduler page apply (R509, R523): the changed slots take their counts; those reset, and every parked
one, are placed anew at once (R508). -/
def State.schApply (s : State) (p : Nat) : State :=
  let ks := s.slotsPending p
  let s1 := s.applyShadows (pSch p)
  let s2 := ks.foldl (fun t k => t.changeSlot p k) s1
  (List.range 64).foldl (fun t k =>
    if ((s2.resetsAt p ks).contains k && (t.slot p k).waits) || (t.slot p k).place == 5 then t.reexamine p k else t) s2

/-- Refills the buckets of a slot (R500). -/
def State.refillSlot (s : State) (p k : Nat) : State :=
  let x := s.slot p k
  let e := s.refillExp p
  let c := refill x.b.tokC x.b.remC (s.cir p k) (s.cbs p k) e
  let q := refill x.b.tokP x.b.remP (s.pir p k) (s.pbs p k) e
  s.setSlot p k { x with b := ⟨c.1, q.1, c.2, q.2⟩ }

/-- A slot in EX that has become committed-eligible joins HI or LO with deficit 0 (R506). -/
def State.promoteEx (s : State) (p k : Nat) : State :=
  match s.headLen p k with
  | some l => if s.commOk p k l then s.wakeSlot p k else s
  | none => s

/-- The eligible time is worked out again at a refill, with the slot not yet woken (R509, R510). -/
def State.retime (s : State) (p k : Nat) : State :=
  match s.headLen p k with
  | none => s.idleSlot p k
  | some l =>
    if s.peakOk p k l then
      let x := s.slot p k
      s.setSlot p k { x with place := 4, te := s.tb.count, level := 0 }
    else s.placeSlot p k l

/-- A refill instant of a scheduler, in the order of R510. -/
def State.schRefill (s : State) (p : Nat) : State :=
  let period := s.boundary (pSch p) == 1
  let ks := if period then s.slotsPending p else []
  let s1 := if period then s.schApply p else s
  let skip := s1.resetsAt p ks
  let s2 := ((s1.slotsOn p).filter (fun k => !skip.contains k)).foldl (fun t k => t.refillSlot p k) s1
  let s3 := ((List.range 64).filter (s2.sc p).ex.contains).foldl (fun t k => t.promoteEx p k) s2
  ((s3.slotsOn p).filter (fun k => (s3.slot p k).place == 4)).foldl (fun t k => t.retime p k) s3

/-- A policer's rates (Table 13.10). -/
def State.polCir (s : State) (k h : Nat) : Nat :=
  s.fld (pPol k) (POL.CIR_LO_CIR.at h) + 2 ^ 32 * s.fld (pPol k) (POL.RATE_HI_CIR.at h)

/-- A policer's peak rate. -/
def State.polPir (s : State) (k h : Nat) : Nat :=
  s.fld (pPol k) (POL.PIR_LO_PIR.at h) + 2 ^ 32 * s.fld (pPol k) (POL.RATE_HI_PIR.at h)

/-- A policer's buckets. -/
def State.polB (s : State) (k h : Nat) : Buckets := Tab.get Buckets.reset s.pol (8 * k + h)

/-- Writes a policer's buckets. -/
def State.setPolB (s : State) (k h : Nat) (b : Buckets) : State :=
  { s with pol := Tab.set Buckets.reset s.pol (8 * k + h) b }

/-- A refill instant of a policer page (R500, R512). -/
def State.polRefill (s : State) (k : Nat) : State :=
  let e := s.fld (pPol k) POL.POL_CFG_REFILL_EXP
  ((List.range 8).filter (fun h => s.on (pPol k) (POL.CTRL_EN.at h))).foldl (fun t h =>
    let b := t.polB k h
    let c := refill b.tokC b.remC (t.polCir k h) (t.fld (pPol k) (POL.CBS_BYTES.at h)) e
    let q := refill b.tokP b.remP (t.polPir k h) (t.fld (pPol k) (POL.PBS_BYTES.at h)) e
    t.setPolB k h ⟨c.1, q.1, c.2, q.2⟩) s

/-- REFILL_EXP of a page: 0 to 4 are the schedulers, 5 to 8 the policers. -/
def State.pageExp (s : State) (g : Nat) : Nat :=
  if g < 5 then s.refillExp g else s.fld (pPol (g - 5)) POL.POL_CFG_REFILL_EXP

/-- A page refills once on each of its refill instants: the multiples of 2^E (R500). -/
def State.refillNow (s : State) (g : Nat) : State :=
  if s.onTick (2 ^ s.pageExp g) && (s.sc g).refilled != s.tb.beat + 1 then
    let t := s.setSc g { s.sc g with refilled := s.tb.beat + 1 }
    if g < 5 then t.schRefill g else t.polRefill (g - 5)
  else s

/-- What is due on this tick before a scheduler decides: the refill and the applies, then the wheel (R510, Table 13.5). -/
def State.schDue (s : State) (p : Nat) : State := (s.refillNow p).wheelNow p

/-- REFILL_INSTANT (R500, R510). -/
def execRefillInstant (page : Fin 9) (s : State) : Host.Outcome State Fault Refusal := .next (s.refillNow page)

/-- WHEEL_TICK (R508); a refill of its tick comes first. -/
def execWheelTick (p : Fin 5) (s : State) : Host.Outcome State Fault Refusal := .next (s.schDue p)

/-! ### Policing (R512, R513) -/

/-- The colour of a frame of `bytes` on port `k` of household `h`, with the debit: 0 GREEN, 1 YELLOW, 2 RED (R512). -/
def State.colour (s : State) (k h bytes : Nat) : Nat × State :=
  if s.on (pPol k) (POL.CTRL_EN.at h) then
    let b := s.polB k h
    let d : Int := (bytes * 65536 : Nat)
    if b.tokP < d then (2, s)
    else if b.tokC < d then (1, s.setPolB k h { b with tokP := b.tokP - d })
    else (0, s.setPolB k h { b with tokP := b.tokP - d, tokC := b.tokC - d })
  else (0, s)

/-- A frame is coloured and counted, after a refill of its tick; the answer says whether it passes. A drop raises its event
at the first drop since the bit was last cleared (R512, R513, Table 13.5). -/
def State.police (s : State) (k h bytes : Nat) : Bool × State :=
  if 8 ≤ h then (true, s)
  else
    let r := (s.refillNow (5 + k)).colour k h bytes
    let c := r.1
    let p := pPol k
    let s1 := (r.2.bump p ((POL.FRAMES_COUNT.at h).at c)).bump p ((POL.BYTES_COUNT.at h).at c) bytes
    let drop := (c == 2 && s1.on p (POL.CTRL_RED.at h)) || (c == 1 && s1.on p (POL.CTRL_YELLOW.at h))
    let ev := if c = 2 then POL.evRED_DROP else POL.evYELLOW_DROP
    if drop then (false, if bitAt (s1.fld p HDR.EVT_RAW_RAW) ev.bit then s1 else s1.raiseBy p ev h) else (true, s1)

/-! ### Enables and writes (R495, R522 to R526, R528) -/

/-- A slot's committed rate as its shadow stands. -/
def State.cirShadow (s : State) (p k : Nat) : Nat :=
  s.shadow (pSch p) (SCH.CIR_LO_CIR.at k) + 2 ^ 32 * s.shadow (pSch p) (SCH.RATE_HI_CIR.at k)

/-- The sums of R524 over the enabled slots and slot `k`, which counts with rate `r`: over all, and over those with
DRAM_TOUCH. -/
def State.rateSums (s : State) (p k r : Nat) : Nat × Nat :=
  let ks := (List.range 64).filter (fun j => j == k || s.on (pSch p) (SCH.SLOT_CTRL_EN.at j))
  let v (j : Nat) : Nat := ceil16 (if j = k then r else s.cirShadow p j)
  ((ks.map v).sum, ((ks.filter (fun j => s.on (pSch p) (SCH.BIND_DRAM_TOUCH.at j))).map v).sum)

/-- The port sum fails (R524). -/
def State.portSumBad (s : State) (p k r : Nat) : Bool :=
  decide (s.fld (pSch p) (SCH.portCirMax p) < (s.rateSums p k r).1)

/-- The DRAM sum fails (R524). -/
def State.dramSumBad (s : State) (p k r : Nat) : Bool := decide (nth 0 s.dram.adm.egressRes p < (s.rateSums p k r).2)

/-- The lowest applicable cause of Table 13.6. -/
def State.slotCause (s : State) (p k : Nat) : Nat :=
  let n := s.slotQueue p k
  if s.qOwner n ≠ s.fld (pSch p) (SCH.SLOT_OWNER_SLOT.at k) then 1
  else if (s.boundTo n).any (fun e => e != (p, k)) then 2
  else if s.portSumBad p k (s.cirShadow p k) then 3
  else if s.on (pSch p) (SCH.BIND_DRAM_TOUCH.at k) && s.dramSumBad p k (s.cirShadow p k) then 4
  else 0

/-- A served write of SLOT_CTRL (R501, R522, R528). -/
def State.slotCtrlWrite (s : State) (p k w hh : Nat) : State :=
  let g := pSch p
  let quantum := max 64 (bitsOf w 15 0)
  let s1 := (s.setFld g (SCH.SLOT_CTRL_QUANTUM.at k) quantum).setFld g (SCH.SLOT_CTRL_SOJ_LIMIT.at k) (bitsOf w 27 16)
  let s2 := if bitsOf w 15 0 < 64 then s1.clampBit g 0 else s1
  let was := s.on g (SCH.SLOT_CTRL_EN.at k)
  let x := s2.slot p k
  if bitAt w 31 && !was then
    let c := s2.slotCause p k
    if c = 0 then
      (s2.setFld g (SCH.SLOT_CTRL_EN.at k) 1).setSlot p k
        { SlotSt.reset with b := ⟨(s2.cbs p k * 65536 : Nat), (s2.pbs p k * 65536 : Nat), 0, 0⟩ }
    else (s2.setSlot p k { x with refuse := c }).raiseBy g SCH.evBIND_REFUSED hh
  else if !bitAt w 31 && was then (s2.setFld g (SCH.SLOT_CTRL_EN.at k) 0).idleSlot p k
  else s2

/-- A failing CIR write leaves the shadow unchanged and raises RATE_REFUSED (R524). -/
def State.cirWrite (s : State) (p k : Nat) (f : Fld) (v new hh : Nat) : State :=
  let enabled := s.on (pSch p) (SCH.SLOT_CTRL_EN.at k)
  if enabled && (s.portSumBad p k new || (s.on (pSch p) (SCH.BIND_DRAM_TOUCH.at k) && s.dramSumBad p k new)) then
    s.raiseBy (pSch p) SCH.evRATE_REFUSED hh
  else s.setShadow (pSch p) f v

/-- The page's shadows apply at once where the boundary is IMMEDIATE (R182). -/
def State.schImmediate (s : State) (p : Nat) : State := if s.boundary (pSch p) = 0 then s.schApply p else s

/-- A bucket size above 16 MiB is stored as 16 MiB (Table 13.4). -/
def State.sizeWrite (s : State) (g : Nat) (f : Fld) (v : Nat) : State :=
  let t := s.setShadow g f (min 16777216 v)
  if 16777216 < v then t.clampBit g 1 else t

/-- A served write of a register of a slot's block, by its offset in the block. -/
def State.slotWrite (s : State) (hh p k r w : Nat) : State :=
  let g := pSch p
  if r = 0x00 then
    if s.on g (SCH.SLOT_CTRL_EN.at k) then s.raiseBy g SCH.evBIND_LOCKED hh
    else ((s.setFld g (SCH.BIND_DRAM_TOUCH.at k) (bitsOf w 31 31)).setFld g (SCH.BIND_CLASS.at k)
      (bitsOf w 29 29)).setFld g (SCH.BIND_QUEUE.at k) (bitsOf w 7 0)
  else if r = 0x04 then s.slotCtrlWrite p k w hh
  else if r = 0x08 then
    (s.cirWrite p k (SCH.CIR_LO_CIR.at k) w (w + 2 ^ 32 * s.shadow g (SCH.RATE_HI_CIR.at k)) hh).schImmediate p
  else if r = 0x0C then (s.setShadow g (SCH.PIR_LO_PIR.at k) w).schImmediate p
  else if r = 0x10 then
    let s1 := s.setShadow g (SCH.RATE_HI_PIR.at k) (bitsOf w 23 16)
    let s2 := if bitsOf w 29 28 = 3 then s1 else s1.setShadow g (SCH.RATE_HI_CHG_MODE.at k) (bitsOf w 29 28)
    (s2.cirWrite p k (SCH.RATE_HI_CIR.at k) (bitsOf w 7 0)
      (s.shadow g (SCH.CIR_LO_CIR.at k) + 2 ^ 32 * bitsOf w 7 0) hh).schImmediate p
  else if r = 0x14 then (s.sizeWrite g (SCH.CBS_BYTES.at k) (bitsOf w 24 0)).schImmediate p
  else if r = 0x18 then (s.sizeWrite g (SCH.PBS_BYTES.at k) (bitsOf w 24 0)).schImmediate p
  else s.writeFields g (s.fieldsOf g (0x100 + 0x30 * k + r)) w

/-- A served write of a scheduler page's register (Table 13.9). -/
def State.schWrite (s : State) (hh g off w : Nat) : State :=
  let p := g - pSch 0
  if 0x100 ≤ off ∧ off < 0xD00 then s.slotWrite hh p ((off - 0x100) / 0x30) ((off - 0x100) % 0x30) w
  else if off = 0xD20 then
    if s.isLocked g then (if clampNat 8 16 (bitsOf w 4 0) = s.refillExp p then s else s.lockViol g)
    else
      let v := clampNat 8 16 (bitsOf w 4 0)
      let t := s.setFld g SCH.SCH_CFG_REFILL_EXP v
      if v = bitsOf w 4 0 then t else t.clampBit g 2
  else if off = 0xD24 then
    let f := SCH.portCirMax p
    if s.isLocked g then (if min f.reset (bitsOf w 23 0) = s.fld g f then s else s.lockViol g)
    else if f.reset < bitsOf w 23 0 then (s.setFld g f f.reset).clampBit g 3
    else s.setFld g f (bitsOf w 23 0)
  else s.writeFields g (s.fieldsOf g off) w

/-- A served write of a policer page's register (Table 13.10): an owner is the household or the manager, and an enable
fills the buckets (R501). -/
def State.polWrite (s : State) (g off w : Nat) : State :=
  let k := g - pPol 0
  if off = 0x104 then
    (List.range 8).foldl (fun t h =>
      let v := bitsOf w (4 * h + 3) (4 * h)
      if v = h ∨ v = 15 then t.setFld g (POL.POL_OWNER_HH.at h) v else t) s
  else if off = 0x100 then
    if s.isLocked g then (if clampNat 8 16 (bitsOf w 4 0) = s.fld g POL.POL_CFG_REFILL_EXP then s else s.lockViol g)
    else
      let v := clampNat 8 16 (bitsOf w 4 0)
      let t := s.setFld g POL.POL_CFG_REFILL_EXP v
      if v = bitsOf w 4 0 then t else t.clampBit g 0
  else if 0x200 ≤ off ∧ off < 0x400 then
    let h := (off - 0x200) / 0x40
    let r := (off - 0x200) % 0x40
    if r = 0x0C ∨ r = 0x10 then
      let t := s.sizeWrite g (if r = 0x0C then POL.CBS_BYTES.at h else POL.PBS_BYTES.at h) (bitsOf w 24 0)
      if s.boundary g = 0 then t.applyShadows g else t
    else if r = 0x14 then
      let was := s.on g (POL.CTRL_EN.at h)
      let t := s.writeFields g (s.fieldsOf g off) w
      if bitAt w 31 && !was then
        t.setPolB k h ⟨(t.fld g (POL.CBS_BYTES.at h) * 65536 : Nat), (t.fld g (POL.PBS_BYTES.at h) * 65536 : Nat), 0, 0⟩
      else t
    else s.writeFields g (s.fieldsOf g off) w
  else s.writeFields g (s.fieldsOf g off) w

/-- The live registers of a scheduler page; `none` for one that the register file holds. -/
def State.schView (s : State) (g off : Nat) : Option Nat :=
  let p := g - pSch 0
  let map (lo : Nat) : Nat :=
    (List.range 32).foldl (fun m i => putBit m i (s.on g (SCH.SLOT_CTRL_EN.at (lo + i))
      && (s.headLen p (lo + i)).isSome)) 0
  if 0x100 ≤ off ∧ off < 0xD00 then
    let x := s.slot p ((off - 0x100) / 0x30)
    let r := (off - 0x100) % 0x30
    if r = 0x1C then some (unsg 32 (x.b.tokC / 65536))
    else if r = 0x20 then some (unsg 32 (x.b.tokP / 65536))
    else if r = 0x24 then some (x.place * 2 ^ 29 + x.refuse * 2 ^ 24 + x.deficit % 2 ^ 17)
    else none
  else if off = 0xD28 then some (((s.slotsOn p).map (fun k => ceil16 (s.cir p k))).sum % 2 ^ 24)
  else if off = 0xD2C then some (s.dramUse p % 2 ^ 24)
  else if off = 0xD30 then some (map 0)
  else if off = 0xD34 then some (map 32)
  else none

/-- The live registers of a policer page. -/
def State.polView (s : State) (g off : Nat) : Option Nat :=
  if 0x200 ≤ off ∧ off < 0x400 then
    let b := s.polB (g - pPol 0) ((off - 0x200) / 0x40)
    let r := (off - 0x200) % 0x40
    if r = 0x18 then some (unsg 32 (b.tokC / 65536))
    else if r = 0x1C then some (unsg 32 (b.tokP / 65536))
    else none
  else none

/-- A write access to a register of a slot's block (R495, R533, R740). -/
def State.slotAccess (s : State) (i : Instr) (a : Acc) (p k r w : Nat) : State :=
  let off := 0x100 + 0x30 * k + r
  s.access i a (pSch p) off true (fun t =>
    if t.mgrDenied a.hh (pSch p) (t.fieldsOf (pSch p) off) w then t.denial a (regAddr (pSch p) off) true
    else t.schWrite a.hh (pSch p) off w)

/-- What a command writes to SLOT_CTRL of slot `k` of scheduler `p`. -/
def ctrlWritten (p k : Nat) (c : Instr) : Option Nat :=
  match c with
  | .slotEnable _ q j w => if q.val = p ∧ j.val = k then some (setBit w.toNat 31) else none
  | .bindWrite _ q j ctrl w => if q.val = p ∧ j.val = k ∧ ctrl then some w.toNat else none
  | _ => writesReg (pSch p) (0x104 + 0x30 * k) c

/-- A command commits the staged DRAM values. -/
def commitsAdm (c : Instr) : Bool :=
  match c with
  | .admCommit _ => true
  | _ => match writesReg pDramadm 0x100 c with
    | some w => bitAt w 0
    | none => false

/-- A command enables a slot of the queue of slot `k` of scheduler `p` that comes before it: a lower slot, or the same slot
of a lower scheduler (Table 13.5). -/
def State.enablesBefore (s : State) (p k : Nat) (c : Instr) : Bool :=
  (List.range 5).any (fun q => (List.range (k + 1)).any (fun j =>
    (decide (j < k) || decide (q < p)) && s.slotQueue q j == s.slotQueue p k
      && (match ctrlWritten q j c with
        | some w => bitAt w 31
        | none => false)))

/-- A command disables a slot of scheduler `p`. -/
def disablesOf (p : Nat) (c : Instr) : Bool :=
  (List.range 64).any (fun k => match ctrlWritten p k c with
    | some w => !bitAt w 31
    | none => false)

/-- SLOT_ENABLE: a write of SLOT_CTRL with EN = 1 (R528); a commit, and an enable of a lower slot with the same queue, of its
beat come first (Table 13.5). -/
def execSlotEnable (a : Acc) (p : Fin 5) (k : Fin 64) (w : Word) (s : State) : Host.Outcome State Fault Refusal :=
  .next (s.after (.slotEnable a p k w) (fun c => commitsAdm c || s.enablesBefore p k c)
    (s.slotAccess (.slotEnable a p k w) a p k 4 (setBit w.toNat 31)))

/-- CIR_WRITE: a write of CIR_LO or RATE_HI (R524); a commit of its beat comes first (Table 13.5). -/
def execCirWrite (a : Acc) (p : Fin 5) (k : Fin 64) (hi : Bool) (w : Word) (s : State) :
    Host.Outcome State Fault Refusal :=
  .next (s.after (.cirWrite a p k hi w) commitsAdm
    (s.slotAccess (.cirWrite a p k hi w) a p k (if hi then 0x10 else 0x08) w.toNat))

/-- BIND_WRITE: a write of BIND or SLOT_CTRL (R526). -/
def execBindWrite (a : Acc) (p : Fin 5) (k : Fin 64) (ctrl : Bool) (w : Word) (s : State) :
    Host.Outcome State Fault Refusal :=
  .next (s.slotAccess (.bindWrite a p k ctrl w) a p k (if ctrl then 4 else 0) w.toNat)

end Sys2Proof.Machine
end

