-- ==== Sys2Proof/Machine/Link.lean ====
section
/-!
DEFINITION. The link level of a Commons port (Chapter 14): bring-up, sequencing, acknowledgement, replay, credits, and
the frame that a port sends at a frame boundary.
-/

namespace Sys2Proof.Machine

/-! ### Bring-up (R551, R552, R570) -/

/-- The level of Fk_TXDIS (R551). -/
def State.txDisable (s : State) (k : Nat) : Bool := s.linkState k == 0 || s.on (pFabp k) FABP.PORT_CFG_TX_DISABLE

/-- FEC_EN. -/
def State.fecEn (s : State) (k : Nat) : Bool := s.on (pFabp k) FABP.PORT_CFG_FEC_EN

/-- RS-FEC is in force: as FEC_EN was at block lock, until the link next goes down (R537). -/
def State.fecOn (s : State) (k : Nat) : Bool :=
  if s.linkState k = 3 ∨ s.linkState k = 4 then (s.port k).fec else s.fecEn k

/-- TX_LAT of Table 14.2. -/
def State.txLat (s : State) (k : Nat) : Nat := if s.fecOn k then 108 else 44

/-- RX_LAT of Table 14.2. -/
def State.rxLat (s : State) (k : Nat) : Nat := if s.fecOn k then 262 else 58

/-- 1 ms in st (R551). -/
abbrev oneMs : Nat := 1000000

/-- MODULE_READY: MODABS low and LOS high for 1 ms (R551; log entry 27). -/
def execModuleReady (k : Fin 4) (s : State) : Host.Outcome State Fault Refusal :=
  if s.linkState k = 1 ∧ s.linkWaited k oneMs = true then
    .next (((s.setFld (pFabp k) FABP.LINK_STATUS_MODABS 0).setFld (pFabp k) FABP.LINK_STATUS_LOS 1).setLink k 2)
  else .next s

/-- The loopback calibration of a block lock (R579). -/
def State.loopCal (s : State) (k tx rx : Nat) (stable : Bool) : State :=
  let s1 := (s.setFld pConst (CONST.LOOP_PHASE_TX_FRAC.at k) tx).setFld pConst (CONST.LOOP_PHASE_RX_FRAC.at k) rx
  let vp := s1.cst.voidPorts.filter (fun x => x != k)
  let s2 : State := { s1 with cst := { s1.cst with voidPorts := if stable then vp else vp ++ [k] } }
  if stable then s2 else s2.raise pConst CONST.evLOOP_FAIL

/-- PCS_LOCKED (R551, R579): `los` and `fec`: the level of Fk_LOS, and FEC alignment; `tx`, `rx` and `stable`: what the
loopback calibration measured. With FEC_EN, no FEC alignment is no lock; the conditions have held for 65,536 st. -/
def execPcsLocked (k : Fin 4) (los fec : Bool) (tx rx : Fin 64) (stable : Bool) (s : State) :
    Host.Outcome State Fault Refusal :=
  if s.linkState k = 2 ∧ s.phyOk ∧ (s.fecEn k → fec) ∧ s.linkWaited k 65536 = true then
    .next (((((((s.setPort k { s.port k with fec := s.fecEn k }).setFld (pFabp k) FABP.LINK_STATUS_LOS (b2n los)).setFld (pFabp k) FABP.LINK_STATUS_BLOCK_LOCK 1).setFld
      (pFabp k) FABP.LINK_STATUS_HI_BER 0).setFld (pFabp k) FABP.LINK_STATUS_FEC_LOCK (b2n (fec && s.fecEn k))).loopCal k
      tx rx stable).setLink k 3)
  else .next s

/-- RX_UNITS of every channel here (R549). -/
def rxUnitsHere : List (Nat × Nat) := (List.range 6).map (fun v => (v, 256))

/-- The header fields of a frame that word 1 carries at every transmission (R543). -/
def State.stampAck (s : State) (k : Nat) (f : Frame) : Frame :=
  { f with ack := (s.fld (pFabp k) FABP.SEQ_STATUS_EXPECT_RX + 4095) % 4096, ackV := (s.port k).accepted }

/-- CREDIT_CUM of the six channels in words 2 and 3 (Table 14.4). -/
def PortSt.cumWords (p : PortSt) : Nat × Nat :=
  ((List.range 5).foldl (fun v c => v + Tab.get 0 p.back c * 2 ^ (12 * c)) 0, Tab.get 0 p.back 5)

/-- A frame goes out of a port: its bytes leave the device (R539, R540). -/
def State.emitFrame (s : State) (k : Nat) (f : Frame) : State :=
  (s.send "FRAME" k (f.bytes.map BitVec.toNat)).bump (pFabp k) FABP.FRAMES_TX_COUNT

/-- The HELLO of a port (Table 14.6). -/
def State.helloFrame (s : State) (k : Nat) : Frame :=
  let c := (s.port k).cumWords
  { Frame.blank with
    lcl := true, src := s.devNum, hh := 0xF, arg2 := 2 ^ 60 + c.1, arg3 := c.2
    payload := leBytes 8 s.myId ++ leBytes 2 (s.devNum + b2n s.numValid * 2 ^ 15) ++ leBytes 1 k
      ++ leBytes 1 (b2n (s.fecEn k) + 2 * b2n s.eligible) ++ rxUnitsHere.flatMap (fun u => leBytes 2 u.2)
      ++ leBytes 8 (s.pair (pFabp k) FABP.PARTNER_ID_LO_ID FABP.PARTNER_ID_HI_ID) }

/-- A HELLO is due: the first on entering HELLO, then every 65,536 st (R552; log entry 88). -/
def State.helloDue (s : State) (k : Nat) : Bool :=
  s.linkState k == 3 && (match (s.port k).helloAt with
    | some t => decide (t + 65536 ≤ s.tb.beat)
    | none => true)

/-- HELLO_SEND (R552). -/
def execHelloSend (k : Fin 4) (s : State) : Host.Outcome State Fault Refusal :=
  if s.helloDue k then
    .next ((s.setPort k { s.port k with helloAt := some s.tb.beat }).emitFrame k (s.stampAck k (s.helloFrame k)))
  else .next s

/-- What a port keeps of a HELLO (Table 14.11). -/
def State.keepHello (s : State) (k : Nat) (f : Frame) : State :=
  (((s.setPair (pFabp k) FABP.PARTNER_ID_LO_ID FABP.PARTNER_ID_HI_ID (f.bytesAt 0 8)).setFld (pFabp k)
    FABP.LINK_STATUS_PARTNER_DEV (f.bytesAt 8 2)).setFld (pFabp k) FABP.LINK_STATUS_PARTNER_NUM_VALID
    (bitsOf (f.bytesAt 8 2) 15 15)).setFld (pFabp k) FABP.LINK_STATUS_PARTNER_PORT (f.bytesAt 10 1)

/-- A frame of good CRC has come in. -/
def State.frameIn (s : State) (k : Nat) (f : Frame) : State :=
  ((s.bump (pFabp k) FABP.FRAMES_RX_COUNT).bump (pFabp k) FABP.FEC_CORR_COUNT f.corrected).setPort k
    { s.port k with rxAt := s.tb.beat }

/-- A bad frame (R569, R573): counted, raised, and the first one's reason kept. -/
def State.badFrame (s : State) (k reason : Nat) : State :=
  let s1 := (s.raise pFab FAB.evBAD_FRAME).bump pFab FAB.BAD_FRAMES_COUNT
  if s1.on pFab FAB.BAD_INFO_VALID then s1
  else ((s1.setFld pFab FAB.BAD_INFO_VALID 1).setFld pFab FAB.BAD_INFO_PORT k).setFld pFab FAB.BAD_INFO_REASON reason

/-- HELLO_RECEIVE (R552, R570, Table 14.8). -/
def execHelloReceive (k : Fin 4) (f : Frame) (s : State) : Host.Outcome State Fault Refusal :=
  let ident := f.bytesAt 0 8
  if (s.linkState k ≠ 3 ∧ s.linkState k ≠ 4) ∨ (f.kind = 0 ∧ bitsOf f.arg2 63 60 = 0) ∨ (1 ≤ f.kind ∧ f.kind ≤ 5) then
    .next s
  else
    let s1 := s.frameIn k f
    if f.badReason ≠ 0 then .next (s1.badFrame k f.badReason)
    else if s.portUp k then
      if ident = s.pair (pFabp k) FABP.PARTNER_ID_LO_ID FABP.PARTNER_ID_HI_ID then .next s1
      else .next ((s1.raise (pFabp k) FABP.evPARTNER_CHANGE).linkDown k)
    else if ident = s.myId then .next (s1.bump (pFabp k) FABP.LOST_SELF_LOOP)
    else
      let s2 := s1.keepHello k f
      if bitAt (f.bytesAt 11 1) 0 ≠ s.fecEn k then .next (s2.bump (pFabp k) FABP.LOST_FEC_MISMATCH)
      else if f.bytesAt 24 8 = s.myId then
        .next (s2.linkUp k ((List.range 6).map (fun v => (v, f.bytesAt (12 + 2 * v) 2))))
      else .next s2

/-- LINK_DOWN_WAIT_END: 1 ms in DOWN (R551). -/
def execLinkDownWaitEnd (k : Fin 4) (s : State) : Host.Outcome State Fault Refusal :=
  if s.linkState k = 5 ∧ s.linkWaited k oneMs = true then .next (s.setLink k 1) else .next s

/-- LINK_LOS: LOS, or MODABS, goes high (R573); MODABS breaks the wait for a module (R551). -/
def execLinkLos (k : Fin 4) (modabs : Bool) (s : State) : Host.Outcome State Fault Refusal :=
  let s1 := if modabs then s.setFld (pFabp k) FABP.LINK_STATUS_MODABS 1 else s.setFld (pFabp k) FABP.LINK_STATUS_LOS 1
  if s.portUp k then
    .next ((s1.raise (pFabp k) (if modabs then FABP.evMOD_ABSENT else FABP.evLOS)).linkDown k)
  else if modabs ∧ s.linkState k = 1 then .next (s1.restartWait k)
  else .next s1

/-- PCS_LOCK_LOST: block lock is lost, or hi_ber has held for 65,536 st (R573); either breaks the wait for the PCS (R551). -/
def execPcsLockLost (k : Fin 4) (hiBer : Bool) (s : State) : Host.Outcome State Fault Refusal :=
  let s1 := if hiBer then s.setFld (pFabp k) FABP.LINK_STATUS_HI_BER 1
    else ((s.setFld (pFabp k) FABP.LINK_STATUS_BLOCK_LOCK 0).setFld (pFabp k) FABP.LINK_STATUS_FEC_LOCK 0).candUnlocked k
  if s.portUp k then .next ((s1.raise (pFabp k) FABP.evHI_BER).linkDown k)
  else if s.linkState k = 2 then .next (s1.restartWait k)
  else .next s1

/-- LINK_IDLE_TIMEOUT: no valid frame for 2^20 st (R573). -/
def execLinkIdleTimeout (k : Fin 4) (s : State) : Host.Outcome State Fault Refusal :=
  if s.portUp k ∧ (s.port k).rxAt + 2 ^ 20 ≤ s.tb.beat then .next (s.linkDown k) else .next s

/-! ### Acknowledgement and replay (R543 to R548) -/

/-- A LINK UPDATE becomes due. -/
def State.wantUpdate (s : State) (k : Nat) (nak : Bool) : State :=
  let p := s.port k
  s.setPort k { p with updateDue := true, nak := p.nak || nak }

/-- A replay starts from a sequence number, or the port retrains; two that fall due on one beat are one replay, from the
earlier point (R546, R547, Table 14.8). -/
def State.startReplay (s : State) (k from_ : Nat) : State :=
  let p := s.port k
  match p.unacked.find? (fun u => decide ((u.frame.seq + 4096 - from_) % 4096 < 2048)) with
  | none => s
  | some u =>
    let at_ := match p.replayAt with
      | some r => if (u.frame.seq + 4096 - r) % 4096 < 2048 then r else u.frame.seq
      | none => u.frame.seq
    if p.replayBeat = s.tb.beat + 1 then s.setPort k { p with replayAt := some at_ }
    else if s.fld (pFabp k) FABP.REPLAY_CFG_REPLAY_LIMIT ≤ p.replays then
      (s.raise (pFabp k) FABP.evRETRAIN).linkDown k
    else
      ((s.setPort k { p with replayAt := some at_, replays := p.replays + 1, replayBeat := s.tb.beat + 1 }).bump (pFabp k)
        FABP.ERRS_REPLAYS).raise (pFabp k) FABP.evREPLAY

/-- An acknowledgement is accepted, possibly with NAK (R545, R546). -/
def State.takeAck (s : State) (k : Nat) (f : Frame) : State :=
  if !f.ackV && !f.nak then s
  else
    let p := s.port k
    let left := if f.ackV then p.unacked.filter (fun u => decide (2048 ≤ (f.ack + 4096 - u.frame.seq) % 4096))
      else p.unacked
    let moved := decide (left.length < p.unacked.length)
    let at_ := match p.replayAt with
      | some r => if left.any (fun u => u.frame.seq == r) then some r else left.head?.map (fun u => u.frame.seq)
      | none => none
    let s1 := s.setPort k { p with unacked := left, replayAt := at_, replays := if moved then 0 else p.replays }
    if f.nak then s1.startReplay k (if f.ackV then (f.ack + 1) % 4096 else 0) else s1

/-- A port asks for a replay, once in an error episode (R544). -/
def State.openEpisode (s : State) (k : Nat) : State :=
  let p := s.port k
  if p.episode then s else (s.setPort k { p with episode := true }).wantUpdate k true

/-- The retry stall of an accepted frame (R548): a replayed frame that ends an episode, or that is the first of a
replay seen only by the sender, adds its REPLAY_AGE to RETRY_ST. -/
def State.retryStall (s : State) (k : Nat) (f : Frame) : State :=
  let p := s.port k
  let s1 := s.setPort k { p with episode := false, inReplay := f.replayed, nakAt := none }
  if f.replayed && (p.episode || !p.inReplay) then
    s1.setPair (pFabp k) FABP.RETRY_ST_LO_ST FABP.RETRY_ST_HI_ST
      ((s1.pair (pFabp k) FABP.RETRY_ST_LO_ST FABP.RETRY_ST_HI_ST + f.age) % 2 ^ 64)
  else s1

/-- The response opcode of a request (Table 11.6). -/
def rspOp (op : Nat) : Option Nat :=
  match op with
  | 1 => some 8
  | 2 => some 9
  | 4 => some 9
  | 6 => some 10
  | _ => none

/-- The packet that answers a request from an agent of router `r` (R422, R424, R466, Tables 11.5 to 11.7). -/
def State.replyFlits (s : State) (r agent w0 w1 status : Nat) (data : List Nat) : List Flit :=
  match rspOp (bitsOf w0 43 40) with
  | none => []
  | some op =>
    let inline := data.length ≤ 1 && op != 10
    let flits := if inline then [] else dataFlits ((data.length + 3) / 4) data
    let v := bitsOf w0 57 52 * 2 ^ 58 + 2 ^ 50 + bitsOf w0 49 49 * 2 ^ 49 + op * 2 ^ 40 + bitsOf w0 39 33 * 2 ^ 33
      + bitsOf w0 31 24 * 2 ^ 24 + status * 2 ^ 16
    let hdr := [s.sendW0 r v flits.length, agent * 2 ^ 61 + bitsOf w1 63 61 * 2 ^ 58 + w1 % 2 ^ 58,
      if inline then nth 0 data 0 else 0, 0]
    packetFlits hdr (flits.map (fun d => d ++ List.replicate (4 - d.length) 0))

/-- Zero data for a request's length (R424, R465). -/
def zeroData (w0 w1 : Nat) : List Nat :=
  if bitsOf w0 43 40 = 6 ∨ (bitsOf w0 43 40 = 1 ∧ 8 ≤ bitsOf w1 57 48) then
    List.replicate ((bitsOf w1 57 48 + 8) / 8) 0
  else [0]

/-- A response at a FABP agent goes back to its requester's device, with the requester's header restored (R556). -/
def State.returnResponse (s : State) (q : RemoteReq) (p : List Flit) : State :=
  match p with
  | [] => s
  | h :: ds =>
    let w0 := h.word 0
    let v0 := bitsOf q.w0 57 52 * 2 ^ 58 + w0 % 2 ^ 58 - bitsOf w0 39 24 * 2 ^ 24 + bitsOf q.w0 39 24 * 2 ^ 24
    let v1 := bitsOf (h.word 1) 63 61 * 2 ^ 61 + bitsOf q.w1 63 61 * 2 ^ 58 + q.w1 % 2 ^ 58
    s.sendRouted { Frame.blank with
      kind := 1, vc := vcOf 1 (bitsOf w0 49 49), poison := ds.any Flit.poison, dst := q.src, hh := q.hh
      payload := (v0 :: v1 :: h.word 2 :: h.word 3 :: ds.flatMap Flit.words).flatMap (leBytes 8) }

/-- The router of a port's FABP agent. -/
def fabRouter (k : Nat) : Nat := if k < 2 then 5 else 11

/-- The policer of a port meters a frame of a household (R498, R512): one that passes is delivered as if unpoliced; a dropped
request that needs a response is answered with DENIED and zero data (R513). -/
def State.policed (s : State) (k : Nat) (f : Frame) (k' : State → State) : State :=
  let r := s.police k f.hh f.size
  if r.1 then k' r.2
  else
    let w0 := f.word 0
    let w1 := f.word 1
    if f.kind = 1 ∧ bitsOf w0 51 50 = 0 then
      r.2.returnResponse ⟨f.src, f.hh, w0, w1⟩ (r.2.replyFlits (fabRouter k) (k % 2) w0 w1 1 (zeroData w0 w1))
    else r.2

/-- A sequenced frame at the link (R544, R548, R549): an accepted frame is handed on with its receive buffer place, a
bad one is dropped there, and so is one that its policer drops; every other is discarded. -/
def State.linkAccept (s : State) (k : Nat) (f : Frame) (k' : State → Nat → State) : State :=
  if !s.portUp k then s
  else
    let s1 := s.frameIn k f
    let e := s1.fld (pFabp k) FABP.SEQ_STATUS_EXPECT_RX
    let behind := (e + 4096 - f.seq) % 4096
    if behind = 0 then
      if 256 < s1.rxHeld k f.vc + f.units then (s1.raise (pFabp k) FABP.evCREDIT_ERR).linkDown k
      else
        let n := s1.fab.next
        let s2 : State := { s1 with fab := { s1.fab with
          next := n + 1, units := s1.fab.units ++ [⟨n, k, f.vc, f.units⟩] } }
        let s3 := s2.setFld (pFabp k) FABP.SEQ_STATUS_EXPECT_RX ((e + 1) % 4096)
        let p := s3.port k
        let s4 := (s3.setPort k { p with accepted := true, ackFrom := some (p.ackFrom.getD s.tb.beat) }).retryStall k f
        let s5 := s4.takeAck k f
        (if f.badReason ≠ 0 then s5.badFrame k f.badReason else s5.policed k f (fun t => k' t n)).freeUnused
    else if behind ≤ 2047 then s1.wantUpdate k false
    else s1.openEpisode k

/-- A row's frame: one of the row's own kind, or one that is bad (R541, R569). -/
def frameFor (f : Frame) (own : Bool) : Bool := f.kind != 0 && (own || f.badReason != 0)

/-- FRAME_BAD_CRC (R544, R573): discarded, CRC_ERR, NAK. The operands count RS-FEC codewords of the frame. -/
def execFrameBadCrc (k : Fin 4) (corrected uncorrectable : BitVec 16) (s : State) : Host.Outcome State Fault Refusal :=
  if s.portUp k then
    let s1 := (s.bump (pFabp k) FABP.FEC_CORR_COUNT corrected.toNat).bump (pFabp k) FABP.FEC_UNCORR_COUNT
      uncorrectable.toNat
    let s2 := if uncorrectable = 0 then s1 else s1.raise (pFabp k) FABP.evFEC_UNCORR
    .next (((s2.raise (pFabp k) FABP.evCRC_ERR).bump (pFabp k) FABP.ERRS_CRC_ERRS).openEpisode k)
  else .next s

/-- LINK_UPDATE_RECEIVE (R544, R546, R549): the partner's cumulative credits and its acknowledgement. -/
def execLinkUpdateReceive (k : Fin 4) (f : Frame) (s : State) : Host.Outcome State Fault Refusal :=
  if !s.portUp k ∨ (1 ≤ f.kind ∧ f.kind ≤ 5) ∨ (f.kind = 0 ∧ bitsOf f.arg2 63 60 = 1) then .next s
  else
    let s1 := s.frameIn k f
    if f.badReason ≠ 0 then .next (s1.badFrame k f.badReason)
    else
      let p := s1.port k
      let cum := (List.range 6).foldl (fun t v =>
        Tab.set 0 t v (if v = 5 then bitsOf f.arg3 11 0 else bitsOf f.arg2 (12 * v + 11) (12 * v))) p.cum
      .next ((s1.setPort k { p with cum := cum }).takeAck k f)

/-- A LINK UPDATE is due (R550): an accepted frame has gone unacknowledged for 512 st, the returned units of a channel have
grown by 32 since they were last reported, or 65,536 st have passed since the last. -/
def State.updateNeeded (s : State) (k : Nat) : Bool :=
  let p := s.port k
  s.portUp k && ((match p.ackFrom with
      | some t => decide (t + 512 ≤ s.tb.beat)
      | none => false)
    || (List.range 6).any (fun v => decide (32 ≤ (Tab.get 0 p.back v + 4096 - Tab.get 0 p.told v) % 4096))
    || decide (p.updAt + 65536 ≤ s.tb.beat))

/-- LINK_UPDATE_DUE (R550). -/
def execLinkUpdateDue (k : Fin 4) (s : State) : Host.Outcome State Fault Refusal :=
  .next (if s.updateNeeded k then s.wantUpdate k false else s)

/-- 2^REPLAY_EXP st have passed since a beat. -/
def State.replayPassed (s : State) (k at_ : Nat) : Bool :=
  decide (at_ + 2 ^ s.fld (pFabp k) FABP.REPLAY_CFG_REPLAY_EXP ≤ s.tb.beat)

/-- REPLAY_TIMEOUT (R546, R547): a replay from the oldest unacknowledged frame, 2^REPLAY_EXP st after its latest
transmission; one that a running replay has still to send is in that replay already. -/
def execReplayTimeout (k : Fin 4) (s : State) : Host.Outcome State Fault Refusal :=
  match (s.port k).unacked with
  | [] => .next s
  | u :: _ =>
    if s.portUp k && s.replayPassed k u.last && (s.port k).replayAt != some u.frame.seq then
      .next (s.startReplay k u.frame.seq)
    else .next s

/-- NAK_RESEND: 2^REPLAY_EXP st after the previous NAK, while the episode lasts (R544). -/
def execNakResend (k : Fin 4) (s : State) : Host.Outcome State Fault Refusal :=
  match (s.port k).nakAt with
  | some t =>
    if s.portUp k && (s.port k).episode && s.replayPassed k t then .next (s.wantUpdate k true) else .next s
  | none => .next s

/-! ### Above the link (R554, R555, R567, R569) -/

/-- A transit frame takes the tables of its epoch: the active ones, or staged ones that are one newer (R554, R567). -/
def State.forward (s : State) (k n : Nat) (f : Frame) : State :=
  let act := s.activeEpoch
  let stg := s.fld pRoute ROUTE.RT_STATUS_STAGED_EPOCH
  let newer := s.disc.stagedOk && stg == (act + 1) % 2 ^ 16 && stg % 16 == f.epoch % 16
  if f.epoch % 16 ≠ act % 16 ∧ newer = false then (s.raise pRoute ROUTE.evSTALE_DROP).bump pFab FAB.DROPS_STALE
  else
    let cur := decide (f.epoch % 16 = act % 16)
    let r := if cur then s.routeOf f.dst else Tab.get Route.none s.disc.staged f.dst
    let m := if cur then s.disc.map else s.disc.stagedMap
    let p := if f.down then r.down else r.up
    if p < 4 then s.toPort p k (some n) f (s.downHopIn m p) else s.unroutable f.hh

/-- Copies of a broadcast go down the child ports; a segment's only where EPH_PORT_EN is set (R555, R600). -/
def State.copyDown (s : State) (k n : Nat) (f : Frame) : State :=
  let en := if f.arg2 % 16 = 0xC then s.fld pConst CONST.EPH_PORT_EN_EN else 15
  (s.childPorts.filter (bitAt en)).foldl (fun t p => t.toPort p k (some n) f (t.downHop p)) s

/-- What becomes of an accepted frame: LOCAL frames and those for this device are delivered, a broadcast goes down the
tree, any other is forwarded (R554, R555, R569). -/
def State.above (s : State) (k n : Nat) (f : Frame) (deliver : State → State) : State :=
  if f.lcl then deliver s
  else if !s.numValid then s.unroutable f.hh
  else if f.bcast then
    if s.on pDisc DISC.DISC_STATUS_IS_ROOT ∨ k = s.rootPort then
      let t := s.copyDown k n f
      if f.src = s.devNum then t else deliver t
    else s.forward k n f
  else if f.dst = s.devNum then deliver s
  else s.forward k n f

/-! ### Transmission (R545, R549, R553) -/

/-- The bytes of the replay buffer. -/
def PortSt.bufBytes (p : PortSt) : Nat := (p.unacked.map (fun u => u.frame.size)).sum

/-- The frame that a channel would send next: the sources in round robin, each its oldest (R553). -/
def PortSt.nextOf (p : PortSt) (vc : Nat) : Option TxFrame :=
  let first := Tab.get 0 p.rr vc
  ((List.range 5).map (fun i => (first + i) % 5)).findSome? (fun src =>
    p.txq.find? (fun x => x.from_ == src && x.frame.vc == vc))

/-- The ready frame of highest rank whose channel has credit, while the replay buffer has room (R545, R553). -/
def State.nextFrame (s : State) (k : Nat) : Option TxFrame :=
  let p := s.port k
  (rankOrder.filterMap p.nextOf).find? (fun x => decide (x.frame.units ≤ s.txCredit k x.frame.vc)
    && decide (p.unacked.length < 64) && decide (p.bufBytes + x.frame.size ≤ 131072))

/-- The stamp of a transmit decision on a port, in units (R578). -/
def State.txStamp (s : State) (k : Nat) : Nat :=
  (s.tb.count + s.txLat k) * 64 + s.fld pConst (CONST.LOOP_PHASE_TX_FRAC.at k)

/-- A SYNC or a DELAY_REQ carries the stamp of its own transmit decision; the child keeps its t3 (R580, R581). -/
def State.stampTime (s : State) (k : Nat) (f : Frame) : State × Frame :=
  if f.kind = 5 ∧ f.arg2 % 16 ≤ 1 then
    let t := s.txStamp k
    let g := { f with payload := leBytes 8 (t / 64 % 2 ^ 64) ++ leBytes 1 (t % 64) ++ f.payload.drop 9 }
    if f.arg2 % 16 = 1 then
      ({ s with cst := { s.cst with exch := s.cst.exch.map (fun (x : Exchange) =>
        if x.num = bitsOf f.arg2 63 32 then { x with t3 := some t } else x) } }, g)
    else (s, g)
  else (s, f)

/-- A new sequenced frame goes out (R543, R545, R549). -/
def State.sendNew (s : State) (k : Nat) (x : TxFrame) : State :=
  let r := s.stampTime k x.frame
  let s1 := r.1
  let p := s1.port k
  let n := s1.fld (pFabp k) FABP.SEQ_STATUS_NEXT_TX
  let f := s1.stampAck k { r.2 with seq := n, replayed := false, nak := false, age := 0 }
  let rest := match takeFirst (fun y : TxFrame => y == x) p.txq with
    | some (_, l) => l
    | none => p.txq
  let sent := Tab.set 0 p.sentUnits f.vc ((Tab.get 0 p.sentUnits f.vc + f.units) % 4096)
  let s2 := s1.setPort k { p with
    txq := rest, rr := Tab.set 0 p.rr f.vc ((x.from_ + 1) % 5), sentUnits := sent
    ackFrom := none, unacked := p.unacked ++ [⟨f, s.tb.beat, s.tb.beat⟩] }
  ((s2.setFld (pFabp k) FABP.SEQ_STATUS_NEXT_TX ((n + 1) % 4096)).emitFrame k f).freeUnused

/-- The frame of a running replay goes out (R546); a DELAY_REQ sent again makes its exchange void (R581; log entry 28). -/
def State.sendReplay (s : State) (k : Nat) (u : Unacked) : State :=
  let p := s.port k
  let f := s.stampAck k { u.frame with replayed := true, nak := false, age := min (s.tb.beat - u.first) 0xFFFFFFFF }
  let later := p.unacked.filter (fun v => decide (0 < (v.frame.seq + 4096 - f.seq) % 4096)
    && decide ((v.frame.seq + 4096 - f.seq) % 4096 < 2048))
  let s1 := if f.kind = 5 ∧ f.arg2 % 16 = 1 then s.voidExchange else s
  let us := p.unacked.map (fun (v : Unacked) => if v.frame.seq = f.seq then { v with last := s.tb.beat } else v)
  (s1.setPort k { p with replayAt := later.head?.map (fun v => v.frame.seq), ackFrom := none, unacked := us }).emitFrame k f

/-- A LINK UPDATE goes out (R544, R550). -/
def State.sendUpdate (s : State) (k : Nat) : State :=
  let p := s.port k
  let c := p.cumWords
  let f := s.stampAck k { Frame.blank with
    lcl := true, src := s.devNum, hh := 0xF, nak := p.nak, arg2 := c.1, arg3 := c.2 }
  (s.setPort k { p with
    updateDue := false, nak := false, ackFrom := none, updAt := s.tb.beat, told := p.back
    nakAt := if p.nak then some s.tb.beat else p.nakAt }).emitFrame k f

/-- FRAME_TRANSMIT (R553). -/
def execFrameTransmit (k : Fin 4) (s : State) : Host.Outcome State Fault Refusal :=
  let p := s.port k
  if !s.portUp k then .next s
  else if p.updateDue then .next (s.sendUpdate k)
  else
    match p.replayAt.bind (fun r => p.unacked.find? (fun u => u.frame.seq == r)) with
    | some u => .next (s.sendReplay k u)
    | none =>
      match s.nextFrame k with
      | some x => .next (s.sendNew k x)
      | none => .next s

/-- What live and fixed registers of a port page read (Table 14.11). -/
def State.fabpView (s : State) (k off : Nat) : Option Nat :=
  if off = 0x110 then some (s.rxLat k * 2 ^ 16 + s.txLat k)
  else if off = 0x11C then
    some (((s.port k).unacked.map (fun u => u.frame.units)).sum % 4096 * 2 ^ 16 + (s.port k).unacked.length)
  else if 0x120 ≤ off ∧ off < 0x140 then
    let v := (off - 0x120) / 4
    if v < 6 then some (s.txCredit k v % 512) else none
  else none

/-- A served write of a port page register (R571, Table 14.11): a SLOT_DEST is frozen while its slot is enabled. -/
def State.fabpWrite (s : State) (k off w : Nat) : State :=
  let p := pFabp k
  if off = 0x114 then
    s.writeFields p [FABP.REPLAY_CFG_REPLAY_EXP.clamped 10 20 0, FABP.REPLAY_CFG_REPLAY_LIMIT.clamped 1 15 0] w
  else if 0x400 ≤ off ∧ off < 0x500 then
    if s.on (pSch (k + 1)) (SCH.SLOT_CTRL_EN.at ((off - 0x400) / 4)) then s else s.writeFields p (s.fieldsOf p off) w
  else s.writeFields p (s.fieldsOf p off) w

/-- PAGE_CTRL.EN of a port has been set or cleared (R551). -/
def State.fabpEnable (s : State) (k : Nat) : State :=
  if s.enabled (pFabp k) then (if s.linkState k = 0 then s.setLink k 1 else s)
  else if s.portUp k then (s.linkDown k).setLink k 0
  else s.setLink k 0

end Sys2Proof.Machine
end

