-- ==== Sys2Proof/Machine/Const.lean ====
section
/-!
DEFINITION. The constellation engine (Chapter 15): exchanges, the servo, joining and leaving, and the distribution of
almanac entries.
-/

namespace Sys2Proof.Machine

/-! ### TIME frames (R578 to R581) -/

/-- The flags of a device's own TIME frames (Table 15.2, R586, R594). -/
def State.timeFlags (s : State) : Nat :=
  let st := s.cState
  let sus := if st = 1 then s.on pRefmon REFMON.STATUS_REF_SUSPECT
    else (st == 6 || st == 7) && bitAt s.cst.syncFlags 0
  let far := s.on pConst CONST.CONST_STATUS_FAR || (st != 1 && bitAt s.cst.syncFlags 2)
  b2n sus + 2 * b2n (st == 7) + 4 * b2n far + 8 * b2n (s.on pRefmon REFMON.STATUS_HOLDOVER)
    + 16 * b2n (s.on pConst CONST.CONST_STATUS_UNCAL)

/-- A TIME frame of a SUB, an exchange number and a stamp in units (Table 15.2). -/
def State.timeFrame (s : State) (k sub exch t : Nat) : Frame :=
  { Frame.blank with
    kind := 5, vc := 5, hh := 0xF, arg2 := sub + exch % 2 ^ 32 * 2 ^ 32
    payload := leBytes 8 (t / 64 % 2 ^ 64) ++ leBytes 1 (t % 64) ++ leBytes 1 s.timeFlags ++ leBytes 2 s.discDepth
      ++ leBytes 2 (s.fld pConst (CONST.PORT_PS_TX_PS.at k)) ++ leBytes 2 (s.fld pConst (CONST.PORT_PS_RX_PS.at k))
      ++ leBytes 2 (s.fld pConst CONST.ERR_BOUND_PS) ++ leBytes 14 0 }

/-- The stamp in a TIME frame. -/
def timeStamp (f : Frame) : Nat := f.bytesAt 0 8 * 64 + f.bytesAt 8 1 % 64

/-- The RX stamp of a frame that started at a tick (R578). -/
def State.rxStamp (s : State) (k start : Nat) : Nat :=
  (start + 2 ^ 64 - s.rxLat k) % 2 ^ 64 * 64 + s.fld pConst (CONST.LOOP_PHASE_RX_FRAC.at k)

/-- The difference of two stamps (R116). -/
def stampDiff (a b : Nat) : Int := sgn 70 (unsg 70 ((a : Int) - (b : Int)))

/-- The exchange period, 2^SYNC_EXP st (R581). -/
def State.exchPeriod (s : State) : Nat := 2 ^ s.fld pConst CONST.CONST_CFG_SYNC_EXP

/-- SYNC_SEND: a SYNC on each child port, each with its next EXCH, once on each multiple of the exchange period (R581). -/
def execSyncSend (s : State) : Host.Outcome State Fault Refusal :=
  if s.enabled pConst && (s.cState == 1 || s.cState == 7) && s.onTick s.exchPeriod && s.cst.syncAt != s.tb.beat + 1 then
    .next ((s.childPorts.filter s.portUp).foldl (fun t k =>
      let u := t.incr pConst (CONST.EXCH_SEQ_SEQ.at k)
      u.sendLocal k (u.timeFrame k 0 (u.fld pConst (CONST.EXCH_SEQ_SEQ.at k)) 0))
      { s with cst := { s.cst with syncAt := s.tb.beat + 1 } })
  else .next s

/-- An exchange that is not valid (R581). -/
def State.timeVoid (s : State) : State :=
  ({ s with cst := { s.cst with exch := none } }.bump pConst CONST.EXCH_VOID).raise pConst CONST.evTIME_VOID

/-! ### The servo (R582 to R584) -/

/-- The filtered offset of stored values, none without one (R583). -/
def State.filtered (s : State) : Option Int :=
  let vs := s.cst.vals
  if vs.isEmpty then none
  else some ((vs.foldl (fun a v => a + v.off + (s.cst.steer - v.steer)) (0 : Int)) / (vs.length : Int))

/-- Stores a signed number in a 32-bit field; a number outside its format leaves a free value (log entry 29). -/
def State.set32 (s : State) (f : Fld) (v : Int) : State :=
  if -2147483648 ≤ v ∧ v ≤ 2147483647 then s.setSfld pConst f v else (s.setFld pConst f (s.freeVal 32)).drew

/-- A value is stored unless its RTT lies outside the window (R584). -/
def State.storeOff (s : State) (off rtt : Int) : State :=
  let c := s.cst
  let n : Int := c.vals.length
  let sum := c.vals.foldl (fun a v => a + v.rtt) (0 : Int)
  if 0 < n ∧ 32 * n < (rtt * n - sum).natAbs then
    let j := c.jumps + 1
    { s with cst := { c with jumps := if j = 4 then 0 else j, vals := if j = 4 then [] else c.vals } }.raise pConst
      CONST.evRTT_JUMP
  else
    let l := c.vals ++ [⟨off, c.steer, rtt⟩]
    { s with cst := { c with jumps := 0, vals := l.drop (l.length - 8) } }

/-- A load is requested under R119: the count at the load tick and what the device is behind (R589). -/
def State.loadRequest (s : State) : State :=
  match s.filtered, s.tb.load with
  | some o, [] =>
    let v := cadd (s.countAt (s.tb.beat + 64)) (-o / 64).toNat
    if s.loadRefusal v = 0 then { s with tb := { s.tb with load := [(v, s.tb.beat + 64)] } }
    else if s.cst.blocked then s
    else { s with cst := { s.cst with blocked := true } }.raise pConst CONST.evJOIN_BLOCKED
  | _, _ => s

/-- STEP_LIMIT in units. -/
def State.stepLimit (s : State) : Nat := s.fld pConst CONST.CONST_CFG_STEP_LIMIT * 64

/-- ALMANAC traffic of a member to the root (R598, R599). -/
def State.toRoot (s : State) (p : List Byte) : State :=
  s.sendRouted (almFrame (s.fld pConst CONST.CONST_STATUS_ROOT_DEV) false p)

/-- The state's count toward its next transition. -/
def State.setRunLen (s : State) (n : Nat) : State := { s with cst := { s.cst with run := n } }

/-- What a valid exchange does to the join state (R589, R590, R599). -/
def State.constAdvance (s : State) (o : Int) : State :=
  let n := s.cst.run + 1
  let win := s.fld pConst CONST.CONST_CFG_ALIGN_WIN
  match s.cState with
  | 4 =>
    if n < 8 then s.setRunLen n
    else if o.natAbs ≤ s.stepLimit then s.setCState 6
    else if o < 0 then (s.setCState 5).loadRequest
    else ((s.setFld pConst CONST.CONST_STATUS_REFUSE 1).setCState 9).raise pConst CONST.evJOIN_REFUSED
  | 6 =>
    if win < o.natAbs then s.setRunLen 0
    else if n < 8 then s.setRunLen n
    else
      ((s.setCState 7).raise pConst CONST.evJOINED).toRoot (almPayload 0 3 0 0 0 AlmEntry.reset)
  | 7 =>
    if o.natAbs ≤ 2 * win then s.setRunLen 0
    else if n < 4 then s.setRunLen n
    else (s.setCState 6).raise pConst CONST.evALIGN_LOST
  | _ => s

/-- The figures of a valid exchange (R582): off, raw, RTT. -/
def State.figures (s : State) (k : Nat) (x : Exchange) (t3 t4 : Nat) : Int × Int × Int :=
  let c := fun (f : Fld) => (s.fld pConst (f.at k) : Int)
  let base : Int := ((x.txPs : Int) - (x.rxPs : Int)) + (c CONST.PORT_PS_RX_PS - c CONST.PORT_PS_TX_PS)
  let a := roundHalfAway ((base + s.sfld pConst (CONST.CABLE_ASYM_PS.at k)) * 64) 1000
  let b := roundHalfAway (base * 64) 1000
  let d21 := stampDiff x.t2 x.t1
  let d43 := stampDiff t4 t3
  ((d21 - d43 - a) / 2, (d21 - d43 - b) / 2, d21 + d43)

/-- A valid exchange (R582 to R584, R594). -/
def State.validExchange (s : State) (k : Nat) (x : Exchange) (t3 t4 : Nat) : State :=
  let r := s.figures k x t3 t4
  let s0 := { s with cst := { s.cst with exch := none, validAt := s.tb.beat } }.bump pConst CONST.EXCH_VALID
  let s1 := ((s0.set32 CONST.RAW_OFF_OFF r.1).set32 CONST.RAW_NOCABLE_RAW r.2.1).set32 CONST.RTT_RTT r.2.2
  let s2 := s1.storeOff r.1 r.2.2
  let s3 := if x.suspect && (s2.cState == 6 || s2.cState == 7) then s2.setFld pRefmon REFMON.STATUS_REF_SUSPECT 1 else s2
  match s3.filtered with
  | none => s3
  | some o =>
    let s4 : State := { s3 with cst := { s3.cst with rem := -o } }
    (s4.set32 CONST.OFFSET_O o).constAdvance o

/-! ### Receiving (R581, R587 to R591) -/

/-- A SYNC from the root port (R581, R587, R588, R589, R591). -/
def State.syncIn (s : State) (k : Nat) (f : Frame) (start : Nat) : State :=
  let st := s.cState
  if !s.enabled pConst ∨ k ≠ s.rootPort ∨ st = 0 ∨ st = 1 ∨ st = 9 then s
  else
    let s0 := if s.cst.exch.isSome then s.timeVoid else s
    let n := bitsOf f.arg2 63 32
    let x : Exchange := ⟨n, timeStamp f, s0.rxStamp k start, none, f.bytesAt 12 2, f.bytesAt 14 2,
      bitAt (f.bytesAt 9 1) 0, f.replayed || s0.cst.voidPorts.contains k⟩
    let s1 : State := { s0 with cst := { s0.cst with exch := some x, syncFlags := f.bytesAt 9 1 } }
    let s2 := s1.setFld pConst (CONST.EXCH_SEQ_SEQ.at k) n
    let join := fun (t : State) =>
      let u : State := { t with cst := { t.cst with port := k, validAt := t.tb.beat } }
      (u.setCState 3).armEngine (2 + k)
    let s3 :=
      if st = 2 then (if s2.numValid ∧ s2.activeEpoch ≠ 0 then join s2 else s2)
      else if st = 8 then
        (if s2.cst.port = k then ({ s2 with cst := { s2.cst with validAt := s2.tb.beat } }).setCState 4 else join s2)
      else if st = 3 ∧ (s2.almEntry 63).st = 7 then s2.armEngine (2 + k)
      else if st = 5 then s2.loadRequest
      else s2
    s3.constShow.sendLocal k (s3.timeFrame k 1 n 0)

/-- SYNC_RECEIVE (R581): `start`: the tick of the frame's start in the beat domain. -/
def execSyncReceive (k : Fin 4) (f : Frame) (start : BitVec 64) (s : State) : Host.Outcome State Fault Refusal :=
  if frameFor f (f.kind == 5 && f.arg2 % 16 == 0) then
    .next (s.linkAccept k f (fun t _ => t.syncIn k f start.toNat))
  else .next s

/-- A DELAY_REQ is answered with the stamp of its arrival (R581). -/
def State.delayReqIn (s : State) (k : Nat) (f : Frame) (start : Nat) : State :=
  if s.enabled pConst && s.cState != 0 then
    s.sendLocal k (s.timeFrame k 2 (bitsOf f.arg2 63 32) (s.rxStamp k start))
  else s

/-- DELAY_REQ_RECEIVE (R581). -/
def execDelayReqReceive (k : Fin 4) (f : Frame) (start : BitVec 64) (s : State) : Host.Outcome State Fault Refusal :=
  if frameFor f (f.kind == 5 && f.arg2 % 16 == 1) then
    .next (s.linkAccept k f (fun t _ => t.delayReqIn k f start.toNat))
  else .next s

/-- A DELAY_RESP completes the exchange, valid or void (R581). -/
def State.delayRespIn (s : State) (k : Nat) (f : Frame) : State :=
  match s.cst.exch with
  | none => s
  | some x =>
    let limit : Int := (s.exchPeriod / 2 * 64 : Nat)
    let ok := x.num == bitsOf f.arg2 63 32 && !x.void && !f.replayed && k == s.rootPort
      && !s.cst.voidPorts.contains k && decide (stampDiff (s.tb.count * 64) x.t2 ≤ limit)
    match x.t3 with
    | some t3 => if ok then s.validExchange k x t3 (timeStamp f) else s.timeVoid
    | none => s.timeVoid

/-- DELAY_RESP_RECEIVE (R582). -/
def execDelayRespReceive (k : Fin 4) (f : Frame) (s : State) : Host.Outcome State Fault Refusal :=
  if frameFor f (f.kind == 5 && f.arg2 % 16 == 2) then .next (s.linkAccept k f (fun t _ => t.delayRespIn k f)) else .next s

/-- The steps applied in this window of 65,536 st (R583; log entry 87). -/
def State.stepsNow (s : State) : Nat := if s.cst.stepWin = s.tb.count / 65536 then s.cst.stepN else 0

/-- STEER_STEP: the beat PLL applies one unit toward zero remaining correction, at most STEER_MAX in 65,536 st (R583); none
in OFF, ROOT, WAIT, COAST and REFUSED (log entry 87). -/
def execSteerStep (s : State) : Host.Outcome State Fault Refusal :=
  let c := s.cst
  if c.rem = 0 ∨ s.on pConst CONST.CONST_CTRL_HOLD ∨ s.cState < 3 ∨ 7 < s.cState
      ∨ s.fld pConst CONST.CONST_CFG_STEER_MAX ≤ s.stepsNow then .next s
  else
    let d : Int := if 0 < c.rem then 1 else -1
    let s1 : State := { s with cst := { c with
      rem := c.rem - d, steer := c.steer + d, stepWin := s.tb.count / 65536, stepN := s.stepsNow + 1 } }
    .next (s1.setSfld pConst CONST.STEER_SUM_SUM (s1.sfld pConst CONST.STEER_SUM_SUM + d))

/-! ### Joining and leaving (R587, R588, R591, R592) -/

/-- CTRL.JOIN (R587). -/
def State.constJoin (s : State) : State := if s.constMember && s.cState == 0 then s.constWait else s

/-- CTRL.LEAVE (R592); REFUSED lasts until WARM or POR (Table 15.7). -/
def State.constLeave (s : State) : State :=
  if s.cState = 0 ∨ s.cState = 9 then s
  else ({ s with cst := { s.cst with exch := none, rem := 0 } }.setCState 0).raise pConst CONST.evLEFT

/-- A served write of CONST_CTRL; JOIN and LEAVE in one write: LEAVE applies (Table 15.6). -/
def State.constCtrl (s : State) (w : Nat) : State :=
  let t := s.setFld pConst CONST.CONST_CTRL_HOLD (bitsOf w 2 2)
  if bitAt w 1 then t.constLeave else if bitAt w 0 then t.constJoin else t

/-- CONST_JOIN: CTRL.JOIN, with HOLD as it is. -/
def execConstJoin (a : Acc) (s : State) : Host.Outcome State Fault Refusal :=
  .next (s.mgrAccess (.constJoin a) a pConst 0x104 (fun t => t.constCtrl (4 * t.fld pConst CONST.CONST_CTRL_HOLD + 1)))

/-- CONST_LEAVE: CTRL.LEAVE, with HOLD as it is. -/
def execConstLeave (a : Acc) (s : State) : Host.Outcome State Fault Refusal :=
  .next (s.mgrAccess (.constLeave a) a pConst 0x104 (fun t => t.constCtrl (4 * t.fld pConst CONST.CONST_CTRL_HOLD + 2)))

/-- SYNTONISE_DONE (R588). -/
def execSyntoniseDone (s : State) : Host.Outcome State Fault Refusal :=
  if s.cState = 3 ∧ (s.almEntry 63).st = 3 ∧ s.on pRefmon REFMON.STATUS_SLEWING = false then .next (s.setCState 4)
  else .next s

/-- PARENT_TIMEOUT: 16 exchange periods without a valid exchange (R591). -/
def execParentTimeout (s : State) : Host.Outcome State Fault Refusal :=
  .next (if s.cst.validAt + 16 * s.exchPeriod ≤ s.tb.beat then s.constLost else s)

/-- CONST.PAGE_CTRL.EN has been set or cleared (R587, Table 15.4). -/
def State.constEnable (s : State) : State :=
  if !s.enabled pConst then
    if s.cState = 9 then s else { s with cst := { s.cst with exch := none } }.setCState 0
  else if s.constRoot then (if s.cState = 1 then s else s.constTakeRoot)
  else if s.cState = 0 ∧ s.on pConst CONST.CONST_CFG_AUTO_JOIN then s.constWait
  else s.constShow

/-! ### Almanac distribution (R597 to R599) -/

/-- The group of an entry is one of this member's (R599, Table 15.9). -/
def State.inGroup (s : State) (g : Nat) : Bool :=
  g == 0 || bitAt (s.fld pConst CONST.GROUP_MASK_MASK * 2) g

/-- The entry that an ALMANAC payload carries. -/
def almOfPayload (e : AlmEntry) (f : Frame) : AlmEntry :=
  ((({ e with st := 0, now := none }.write false 0 (f.bytesAt 8 4)).write false 1 (f.bytesAt 12 4)).write false 2
    (f.bytesAt 16 4)).write false 3 (f.bytesAt 20 4)

/-- A member acknowledges with the resulting state: DONE for an entry that applies at once (R598, Table 15.6). -/
def State.almAck (s : State) (f : Frame) : State :=
  let i := f.bytesAt 0 1
  let e := s.almEntry i
  let st := if s.inGroup (f.bytesAt 2 1) then
      (if e.now.isSome then 3 else if e.st = 1 ∧ s.almLocked e = true then 2 else e.st) else 0xF
  s.toRoot (almPayload i 2 (f.bytesAt 2 1) st (f.bytesAt 4 4) e)

/-- OP ARM at a member (R595, R598). -/
def State.distArm (s : State) (f : Frame) : State :=
  let i := f.bytesAt 0 1
  let q := f.bytesAt 4 4
  if !s.constMember ∨ i < 32 ∨ 62 < i ∨ (s.entrySeq i = q ∧ (s.almEntry i).st ≠ 0) then s
  else
    let s1 : State := { s with cst := { s.cst with seqs := Tab.set 0 s.cst.seqs i q } }
    let e0 := almOfPayload (s1.almEntry i) f
    let e := if e0.code = 7 then { e0 with arg := 2 + s1.rootPort } else e0
    let s2 := if s1.inGroup (f.bytesAt 2 1) then (s1.setAlm i e).almArm 15 i
      else s1.setAlm i { s1.almEntry i with st := 0, now := none }
    s2.almAck f

/-- OP CANCEL at a member (R598). -/
def State.distCancel (s : State) (f : Frame) : State :=
  let i := f.bytesAt 0 1
  if !s.constMember ∨ i < 32 ∨ 62 < i then s else (s.almCancel 15 i).almAck f

/-- OP ACK at the root: counted for the entry's latest distribution (R598, R602). -/
def State.distAck (s : State) (f : Frame) : State :=
  let i := f.bytesAt 0 1
  let st := f.bytesAt 3 1
  if !s.constRoot ∨ s.entrySeq i ≠ f.bytesAt 4 4 ∨ (Tab.lookup s.cst.acks i).isNone = true then s
  else
    let c := Tab.get (0, 0, 0) s.cst.acks i
    let up := fun n => min 1023 (n + 1)
    let d := if 1 ≤ st ∧ st ≤ 3 then (up c.1, c.2) else if st = 4 then (c.1, up c.2.1, c.2.2) else (c.1, c.2.1, up c.2.2)
    let s1 : State := { s with cst := { s.cst with acks := Tab.insert s.cst.acks i d } }
    if st = 4 then s1.raise pConst CONST.evDIST_MISSED else s1

/-- OP RESEND_REQ at the root: every entry of 32 to 62 that is ARMED or LOCKED goes to the requester; one whose meridian is
this tick becomes DONE (R599, Table 15.6). -/
def State.distResend (s : State) (f : Frame) : State :=
  if !s.constRoot then s
  else
    ((List.range 31).map (· + 32)).foldl (fun t i =>
      if (t.almEntry i).armed && decide (t.tb.count < (t.almEntry i).mer) then
        t.sendRouted (almFrame f.src false (almPayload i 0 (t.almGroup i) 0 (t.entrySeq i) (t.almEntry i)))
      else t) s

/-- An ALMANAC event at this device, by its OP (Table 15.5). -/
def State.almEvent (s : State) (f : Frame) : State :=
  match f.bytesAt 1 1 with
  | 0 => s.distArm f
  | 1 => s.distCancel f
  | 2 => s.distAck f
  | 3 => s.distResend f
  | _ => s

/-! ### The CONST page (R602, R606) -/

/-- What live registers of the CONST page read (Table 15.9). -/
def State.constView (s : State) (off : Nat) : Option Nat :=
  if off = 0x144 then
    let c := Tab.get (0, 0, 0) s.cst.acks (32 + s.fld pConst CONST.DIST_SEL_INDEX)
    some (c.1 * 2 ^ 20 + c.2.1 * 2 ^ 10 + c.2.2)
  else none

/-- A served write of a CONST register (R602). -/
def State.constWrite (s : State) (off w : Nat) : State :=
  if off = 0x100 then
    let r := bitsOf w 27 24
    let fs := [CONST.CONST_CFG_AUTO_JOIN, CONST.CONST_CFG_SYNC_EXP.clamped 16 24 0, CONST.CONST_CFG_STEP_LIMIT.clamped 1
      255 0, CONST.CONST_CFG_STEER_MAX.clamped 1 8 0, CONST.CONST_CFG_ALIGN_WIN.clamped 1 15 0]
    let t := s.writeFields pConst (if r ≤ 1 ∨ r = 15 then CONST.CONST_CFG_ROOT_REF :: fs else fs) w
    if t.cState = 0 then t.constEnable else t
  else if off = 0x104 then s.constCtrl w
  else if off = 0x12C then s.writeFields pConst [CONST.DIST_MIN_ST.clamped 65536 0xFFFFFFFF 0] w
  else (s.writeFields pConst (s.fieldsOf pConst off) w).constShow

end Sys2Proof.Machine
end

