-- ==== Sys2Proof/Machine/Ingest.lean ====
section
/-!
DEFINITION. Image ingest (R231 to R235, R240, R242, R249): CSI-2 packets, stamps, lines and the items they become.
-/

namespace Sys2Proof.Machine

/-- A receiver. -/
def State.rx (s : State) (m : Nat) : RxSt := Tab.get RxSt.reset s.ln.rx m

/-- Writes a receiver; IN_LINE follows its open lines. -/
def State.setRx (s : State) (m : Nat) (x : RxSt) : State :=
  let s1 := { s with ln := { s.ln with rx := Tab.set RxSt.reset s.ln.rx m x } }
  s1.setFld (pIngest m) INGEST.RX_STATUS_IN_LINE (b2n (!x.lines.isEmpty))

/-- The agent of a receiver (Table 11.2). -/
def rxAgent (m : Nat) : Nat := agentKey (1 + m / 2) (m % 2)

/-- A receiver injects its waiting pushes while one of its 8 response slots is free (R435, R462). -/
def State.rxPump (s : State) (m : Nat) : Nat → State
  | 0 => s
  | n + 1 =>
    let x := s.rx m
    let k := 256 * rxAgent m
    match x.out, (List.range 8).find? (fun t => (Tab.lookup s.noc.slots (k + t)).isNone) with
    | p :: rest, some tag =>
      let s1 := s.setRx m { x with out := rest }
      let slot : RspSlot := ⟨nodeOf (qRouter p.queue), false, p.hh, s.tb.beat⟩
      let s2 : State := { s1 with noc := { s1.noc with slots := Tab.insert s1.noc.slots (k + tag) slot } }
      (s2.offer (rxAgent m) 1 (s2.pushPacket (1 + m / 2) ⟨1 + m / 2, m % 2, 4, p.hh⟩ p.queue 4 1 tag p.words p.last
        0)).rxPump m n
    | _, _ => s

/-- A response has come to router `r`: its receivers go on. -/
def State.rxPumps (s : State) (r : Nat) : State :=
  if r = 1 ∨ r = 2 then (s.rxPump (2 * r - 2) 8).rxPump (2 * r - 1) 8 else s

/-- The bytes of ended lines that still wait in a receiver or in its node interface. -/
def State.rxWaiting (s : State) (m : Nat) : Nat :=
  let fs := ((s.noc.waiting.filter (fun o => o.agent == rxAgent m && o.vc == 1)).map (fun o => o.flits)).flatten
    ++ flitsAt s.noc.inject (8 * rxAgent m + 1)
  ((s.rx m).out.map (fun p => 8 * p.words.length)).sum + 32 * (fs.filter (fun f => decide (2 ≤ f.typ))).length

/-- Opens, changes or closes the line of a virtual channel. -/
def State.setLine (s : State) (m vc : Nat) (l : Option LineBuf) : State :=
  let x := s.rx m
  s.setRx m { x with lines := match l with
    | some b => Tab.insert x.lines vc b
    | none => Tab.erase x.lines vc }

/-- A line or a packet is dropped and counted (Table 6.15). -/
def State.rxDrop (s : State) (m vc : Nat) : State := s.bump (pIngest m) (INGEST.DROPPED_COUNT.at vc)

/-- A binding's queue and schedule are owned by the page's OWNER (Table 6.9). -/
def State.bindOwned (s : State) (m q sched : Nat) : Bool :=
  let o := s.owner (pIngest m)
  s.qOwner q == o && s.fld pTrig (TRIG.TRG_OWNER_OUT.at (sched / 2)) == o

/-- The queue of a binding. -/
def State.bindQueue (s : State) (m v : Nat) : Nat := s.fld (pIngest m) (INGEST.BIND_CFG_QUEUE.at v)

/-- The schedule of a binding. -/
def State.bindSched (s : State) (m v : Nat) : Nat := s.fld (pIngest m) (INGEST.BIND_CFG_SCHEDULE.at v)

/-- What every packet passes first (R231, Table 6.9): the page enabled, the header readable, VCX zero, a binding
enabled; then `k`. -/
def State.csiPacket (s : State) (m : Nat) (p : CsiHead) (k : State) : State :=
  if !s.enabled (pIngest m) || !s.phyOk then s
  else
    match p.ecc with
    | .uncorrectable => s.raise (pIngest m) INGEST.evHDR_ECC
    | _ =>
      if p.vcx then s.rxDrop m p.vc
      else if !s.on (pIngest m) (INGEST.BIND_CFG_BIND_EN.at p.vc) then s.rxDrop m p.vc
      else k

/-- CSI_FRAME_SHORT_PACKET: frame start and frame end are accepted and ignored (R231). -/
def execCsiFrameShortPacket (m : Fin 4) (p : CsiHead) (_isEnd : Bool) (s : State) : Host.Outcome State Fault Refusal :=
  if !s.enabled (pIngest m) || !s.phyOk then .next s
  else if p.ecc == .uncorrectable then .next (s.raise (pIngest m) INGEST.evHDR_ECC)
  else if p.vcx then .next (s.rxDrop m p.vc)
  else .next s

/-- Pops stamps for a line that starts at tick `t` (R232): entries older than STAMP_AGE_MAX are missed lines. -/
def State.popStamps (s : State) (m v t : Nat) : List StampEntry → State × Option StampEntry × List StampEntry
  | [] => (s, none, [])
  | e :: r =>
    if s.fld (pIngest m) (INGEST.STAMP_AGE_MAX_AGE.at v) + e.t < t then
      ((s.bump (pIngest m) (INGEST.STAMP_ERR_MISSED.at v)).raise (pIngest m) INGEST.evLINE_MISSED).popStamps m v t r
    else (s, some e, r)

/-- A line start (R232, Table 6.9). -/
def State.lineStart (s : State) (m v lineNo : Nat) (corrected : Bool) : State :=
  let pg := pIngest m
  let s1 := match Tab.lookup (s.rx m).lines v with
    | some b => if b.drop then s else (s.rxDrop m v).raise pg INGEST.evLINE_INCOMPLETE
    | none => s
  let t := s1.tb.count - s1.fld pg INGEST.RX_STATUS_RX_LATENCY
  let line : LineBuf :=
    { vc := v, lineNo := lineNo, startT := t, stamp := none, dt := 0, wc := 0, bytes := [], crcErr := false,
      corrected := corrected, got := false, unpack := s1.on pg (INGEST.BIND_CFG_UNPACK16.at v), trunc := false
      drop := false }
  if !s1.bindOwned m (s1.bindQueue m v) (s1.bindSched m v) then
    ((s1.setLine m v (some { line with drop := true })).rxDrop m v).raise pg INGEST.evBIND_DENIED
  else
    -- a stamp of this very tick is pushed after the pop (Table 6.8)
    let q := Tab.get [] (s1.rx m).fifos v
    let x := s1.popStamps m v t (q.filter (fun e => e.t != s1.tb.count))
    let left := x.2.2 ++ q.filter (fun e => e.t == s1.tb.count)
    let s2 := x.1
    let rx := s2.rx m
    let s3 := (s2.setRx m { rx with fifos := Tab.set [] rx.fifos v left }).setFld pg (INGEST.FIFO_LEVEL.at v) left.length
    let s4 := if x.2.1.isSome then s3
      else (s3.bump pg (INGEST.STAMP_ERR_NO_STAMP.at v)).raise pg INGEST.evLINE_NO_STAMP
    s4.setLine m v (some { line with stamp := x.2.1 })

/-- CSI_LINE_START (R232). -/
def execCsiLineStart (m : Fin 4) (p : CsiHead) (lineNo : BitVec 16) (s : State) : Host.Outcome State Fault Refusal :=
  .next (s.csiPacket m p (s.lineStart m p.vc lineNo.toNat (p.ecc == .corrected)))

/-- The pixel width of a packed RAW type, which UNPACK16 spreads (R234). -/
def packedBits (dt : Nat) : Option Nat :=
  match dt with
  | 0x2B => some 10
  | 0x2C => some 12
  | 0x2D => some 14
  | _ => none

/-- The longest payload kept of a line: 8,160 bytes, or 4,080 pixels unpacked (R240). -/
def lineRoom (dt : Nat) (unpack : Bool) : Nat :=
  match packedBits dt with
  | some b => if unpack then 4080 * b / 8 else 8160
  | none => 8160

/-- A long packet of a virtual channel with an enabled binding (R231, R233, R240, Table 6.9). -/
def State.longPacket (s : State) (m v dt wc : Nat) (payload : List Byte) (crcGood corrected : Bool) : State :=
  let pg := pIngest m
  let want := s.fld pg (INGEST.BIND_CFG_DT.at v)
  let known := decide (0x2A ≤ dt ∧ dt ≤ 0x2E) || dt == s.fld pg INGEST.RX_CFG_UDT
  if !known || (want != 0x3F && want != dt) then (s.rxDrop m v).raise pg INGEST.evDT_UNSUPPORTED
  else
    match Tab.lookup (s.rx m).lines v with
    | none => (s.rxDrop m v).raise pg INGEST.evLINE_INCOMPLETE
    | some b =>
      if b.drop then s
      else
        let room := lineRoom (if b.got then b.dt else dt) b.unpack
        let cut := decide (room < b.bytes.length + payload.length)
        let bytes := (b.bytes ++ payload).take room
        let used := ((s.rx m).lines.filter (fun e => e.1 != v)).foldl (fun n e => n + e.2.bytes.length) (s.rxWaiting m)
        let s1 := if crcGood then s else s.raise pg INGEST.evCRC_ERR
        if 16384 < used + bytes.length then
          ((s1.setLine m v (some { b with drop := true, bytes := [] })).rxDrop m v).raise pg INGEST.evRX_OVERFLOW
        else
          let s2 := if cut then s1.raise pg INGEST.evLINE_TRUNC else s1
          s2.setLine m v (some { b with
            dt := if b.got then b.dt else dt
            wc := if b.got then b.wc else wc
            bytes := bytes
            crcErr := b.crcErr || !crcGood
            corrected := b.corrected || corrected
            got := true
            trunc := b.trunc || cut })

/-- CSI_LONG_PACKET (R231, R233). -/
def execCsiLongPacket (m : Fin 4) (vc : Fin 4) (dt : Fin 64) (wc : BitVec 16) (payload : List Byte) (crcGood : Bool)
    (x : CsiCheck) (s : State) : Host.Outcome State Fault Refusal :=
  .next (s.csiPacket m ⟨vc, x.vcx, x.ecc⟩ (s.longPacket m vc dt wc.toNat payload crcGood (x.ecc == .corrected)))

/-- A RAW10, RAW12 or RAW14 pixel group: the high bits of each pixel in its own byte, then the low bits packed (CSI-2
v2.1, which R231 names; log entry 25). -/
def unpackGroup (w : Nat) (g : List Byte) : List Nat :=
  let n := if w = 12 then 2 else 4
  let low := ofLeBytes (g.drop n)
  (List.range n).map (fun i => (nth 0 g i).toNat * 2 ^ (w - 8) + low / 2 ^ ((w - 8) * i) % 2 ^ (w - 8))

/-- The pixels of a packed line. -/
def unpackLine (w : Nat) (bytes : List Byte) : List Nat :=
  let gb := if w = 12 then 3 else if w = 10 then 5 else 7
  (List.range (bytes.length / gb)).flatMap (fun i => unpackGroup w ((bytes.drop (gb * i)).take gb))

/-- The data words of a line (R234). -/
def lineWords (dt : Nat) (unpack : Bool) (bytes : List Byte) : List Nat :=
  let raw := bytesToWords ((bytes.length + 7) / 8) bytes
  match packedBits dt with
  | some w =>
    if unpack then
      let px := unpackLine w bytes
      (List.range ((px.length + 3) / 4)).map (fun i =>
        (List.range 4).foldl (fun v j => v + nth 0 px (4 * i + j) * 2 ^ (16 * j)) 0)
    else raw
  | none => raw

/-- The ingest tag of a line (Table 6.7). -/
def State.lineTag (s : State) (m v : Nat) (b : LineBuf) : List Nat :=
  let unpacked := b.unpack && (packedBits b.dt).isSome
  let sf := match b.stamp with
    | some e => bitsOf e.flags 4 1 * 2 + e.flags % 2 * 64
    | none => 1
  let fl := sf + b2n b.crcErr * 32 + b2n b.corrected * 128
  let t := match b.stamp with
    | some e => e.t
    | none => 0
  let p := match b.stamp with
    | some e => e.p
    | none => 0
  let seq := match b.stamp with
    | some e => e.seq
    | none => 0
  let delay := match b.stamp with
    | some e => min 0x7FFFFFF (b.startT - e.t)
    | none => 0
  [0xA5 * 2 ^ 56 + fl * 2 ^ 48 + v * 2 ^ 46 + b.dt * 2 ^ 40 + m * 2 ^ 38 + b2n b.trunc * 2 ^ 37 + b2n unpacked * 2 ^ 36
      + b.lineNo * 2 ^ 16 + b.wc, t, p, seq % 2 ^ 32 * 2 ^ 32 + s.bindSched m v * 2 ^ 27 + delay]

/-- A line end: the tagged item goes to the bound queue as PUSH packets of 28 words and a final PUSH_LAST packet, under the
identity of the page's OWNER (R233, R456, R462). -/
def State.lineEnd (s : State) (m v : Nat) (corrected : Bool) : State :=
  match Tab.lookup (s.rx m).lines v with
  | none => s.rxDrop m v
  | some b0 =>
    let s1 := s.setLine m v none
    if b0.drop then s1
    else
      let b := { b0 with corrected := b0.corrected || corrected }
      let words := s1.lineTag m v b ++ lineWords b.dt b.unpack b.bytes
      let s2 := s1.bump (pIngest m) (INGEST.LINES_COUNT.at v)
      let ps := pushPieces 28 words
      let q := s2.bindQueue m v
      let out := (ps.zipIdx).map (fun e => (⟨q, s2.owner (pIngest m), e.1, e.2 + 1 == ps.length⟩ : RxPush))
      (s2.setRx m { s2.rx m with out := (s2.rx m).out ++ out }).rxPump m 8

/-- CSI_LINE_END (R233); the line's number is that of its line start. -/
def execCsiLineEnd (m : Fin 4) (p : CsiHead) (_lineNo : BitVec 16) (s : State) : Host.Outcome State Fault Refusal :=
  .next (s.csiPacket m p (s.lineEnd m p.vc (p.ecc == .corrected)))

/-- LANE_SYNC_LOSS: the open lines are discarded (R242). `lanes` are still synchronised; `clk`: the clock lane still runs. -/
def execLaneSyncLoss : LanesOff → State → Host.Outcome State Fault Refusal
  | ⟨m, lanes, clk⟩, s0 =>
  let pg := pIngest m
  let was := s0.fld pg INGEST.RX_STATUS_LANE_SYNC
  let s := if clk then s0 else s0.setFld pg INGEST.RX_STATUS_CLK_ACTIVE 0
  if was &&& lanes.toNat = was then .next s
  else
    let s1 := (s.rx m).lines.foldl (fun t e => if e.2.drop then t else t.rxDrop m e.1) s
    let s2 := (s1.setRx m { s1.rx m with lines := [] }).setFld pg INGEST.RX_STATUS_LANE_SYNC
      (was &&& lanes.toNat)
    .next (if s2.enabled pg then s2.raise pg INGEST.evLANE_SYNC_ERR else s2)

/-- LANE_SYNC_GAINED: every configured lane is synchronised and RX_LATENCY is reported (R235). -/
def execLaneSyncGained (m : Fin 4) (latency : Fin 181) (s : State) : Host.Outcome State Fault Refusal :=
  let pg := pIngest m
  let lanes := nth 0xF [1, 3, 0xF, 0xF] (s.fld pg INGEST.RX_CFG_LANES)
  .next (((s.setFld pg INGEST.RX_STATUS_LANE_SYNC lanes).setFld pg INGEST.RX_STATUS_CLK_ACTIVE 1).setFld pg
    INGEST.RX_STATUS_RX_LATENCY latency)

/-- A served write of an INGEST register; a binding that is not owned stays disabled (R249, Table 6.9). -/
def State.ingestWrite (s : State) (hh m off w : Nat) : State :=
  let pg := pIngest m
  if 0x200 ≤ off ∧ (off - 0x200) % 0x20 = 0 then
    let v := (off - 0x200) / 0x20
    let s1 := s.writeFields pg (s.fieldsOf pg off) w
    if bitAt w 31 && !s1.bindOwned m (bitsOf w 15 8) (bitsOf w 20 16) then
      (s1.setFld pg (INGEST.BIND_CFG_BIND_EN.at v) 0).raiseBy pg INGEST.evBIND_DENIED hh
    else s1
  else s.writeFields pg (s.fieldsOf pg off) w

/-- BIND_CFG_WRITE (R249). -/
def execBindCfgWrite (a : Acc) (m : Fin 4) (v : Fin 4) (w : Word) (s : State) : Host.Outcome State Fault Refusal :=
  .next (s.access (.bindCfgWrite a m v w) a (pIngest m) (0x200 + 0x20 * v.val) true
    (fun t => t.ingestWrite a.hh m (0x200 + 0x20 * v.val) w.toNat))

end Sys2Proof.Machine
end

