-- ==== Sys2Proof/Machine/Fp32.lean ====
section
/-!
DEFINITION. The fp32 arithmetic of the vector unit (R390): IEEE 754 binary32 computed exactly on integers and rounded
once, with subnormals read and written as zeros and one NaN. Words are natural numbers below 2^32.
-/

namespace Sys2Proof.Machine

/-- What an fp32 word says: a NaN, or a sign with an infinity, a zero, or a magnitude `m * 2^e`. -/
inductive Fp where
  | nan
  | inf (neg : Bool)
  | zero (neg : Bool)
  | num (neg : Bool) (m : Nat) (e : Int)
  deriving DecidableEq, Repr

/-- The only NaN result (R390). -/
abbrev fpNaN : Nat := 0x7FC00000

/-- The sign bit of a word. -/
def fpSign (neg : Bool) : Nat := if neg then 0x80000000 else 0

/-- Reads a word: a subnormal is a zero of the same sign (R390). -/
def fpRead (x : Nat) : Fp :=
  let neg := bitAt x 31
  let ex := bitsOf x 30 23
  let fr := bitsOf x 22 0
  if ex = 255 then (if fr = 0 then .inf neg else .nan)
  else if ex = 0 then .zero neg
  else .num neg (fr + 2 ^ 23) ((ex : Int) - 150)

/-- `m / 2^k`, to nearest, ties to even. -/
def shiftEven (m k : Nat) : Nat :=
  let q := m / 2 ^ k
  let r := m % 2 ^ k
  if 2 ^ k < 2 * r ∨ (2 * r = 2 ^ k ∧ q % 2 = 1) then q + 1 else q

/-- The number of bits of a number. -/
def bitLen (m : Nat) : Nat := if m = 0 then 0 else Nat.log2 m + 1

/-- The word of `m * 2^e` with a sign: rounded to 24 bits as if the exponent range were unbounded, then to zero below
2^-126 and to infinity beyond the largest finite value (R390). -/
def fpRound (neg : Bool) (m : Nat) (e : Int) : Nat :=
  if m = 0 then fpSign neg
  else
    let n := bitLen m
    let m1 := if 24 < n then shiftEven m (n - 24) else m * 2 ^ (24 - n)
    let e1 : Int := e + n - 24
    let m2 := if m1 = 2 ^ 24 then 2 ^ 23 else m1
    let e2 : Int := if m1 = 2 ^ 24 then e1 + 1 else e1
    let ex := e2 + 150
    if 255 ≤ ex then fpSign neg + 0x7F800000
    else if ex ≤ 0 then fpSign neg
    else fpSign neg + ex.toNat * 2 ^ 23 + (m2 - 2 ^ 23)

/-- The exact sum of two magnitudes with signs, rounded once; an exact zero is +0. -/
def fpSum (a : Bool) (m : Nat) (e : Int) (b : Bool) (n : Nat) (f : Int) : Nat :=
  let g := min e f
  let x : Int := (m * 2 ^ (e - g).toNat : Nat)
  let y : Int := (n * 2 ^ (f - g).toNat : Nat)
  let v := (if a then -x else x) + (if b then -y else y)
  if v = 0 then 0 else fpRound (decide (v < 0)) v.natAbs g

/-- The sum of two read values (R390). -/
def fpAddF : Fp → Fp → Nat
  | .nan, _ => fpNaN
  | _, .nan => fpNaN
  | .inf a, .inf b => if a = b then fpSign a + 0x7F800000 else fpNaN
  | .inf a, _ => fpSign a + 0x7F800000
  | _, .inf b => fpSign b + 0x7F800000
  | .zero a, .zero b => fpSign (a && b)
  | .zero _, .num b n f => fpRound b n f
  | .num a m e, .zero _ => fpRound a m e
  | .num a m e, .num b n f => fpSum a m e b n f

/-- VFADD (R390). -/
def fpAdd (x y : Nat) : Nat := fpAddF (fpRead x) (fpRead y)

/-- The value with its sign changed. -/
def Fp.negate : Fp → Fp
  | .nan => .nan
  | .inf a => .inf (!a)
  | .zero a => .zero (!a)
  | .num a m e => .num (!a) m e

/-- VFSUB (R390). -/
def fpSub (x y : Nat) : Nat := fpAddF (fpRead x) (fpRead y).negate

/-- The exact product of two read values. -/
def fpProd : Fp → Fp → Fp
  | .nan, _ => .nan
  | _, .nan => .nan
  | .inf a, .inf b => .inf (a != b)
  | .inf _, .zero _ => .nan
  | .zero _, .inf _ => .nan
  | .inf a, .num b _ _ => .inf (a != b)
  | .num a _ _, .inf b => .inf (a != b)
  | .zero a, .zero b => .zero (a != b)
  | .zero a, .num b _ _ => .zero (a != b)
  | .num a _ _, .zero b => .zero (a != b)
  | .num a m e, .num b n f => .num (a != b) (m * n) (e + f)

/-- The word of a value. -/
def Fp.word : Fp → Nat
  | .nan => fpNaN
  | .inf a => fpSign a + 0x7F800000
  | .zero a => fpSign a
  | .num a m e => fpRound a m e

/-- VFMUL (R390). -/
def fpMul (x y : Nat) : Nat := (fpProd (fpRead x) (fpRead y)).word

/-- VFFMA: x times y plus z, rounded once (R390). -/
def fpFma (x y z : Nat) : Nat := fpAddF (fpProd (fpRead x) (fpRead y)) (fpRead z)

/-- The place of a word in the order of VFMAX and VFMIN, with -0 below +0 (R390). -/
def fpKey (x : Nat) : Int := if bitAt x 31 then -(x % 2 ^ 31 : Nat) - 1 else (x % 2 ^ 31 : Nat)

/-- VFMAX (R390). -/
def fpMax (x y : Nat) : Nat :=
  match fpRead x, fpRead y with
  | .nan, _ => fpNaN
  | _, .nan => fpNaN
  | a, b => if fpKey a.word < fpKey b.word then b.word else a.word

/-- VFMIN (R390). -/
def fpMin (x y : Nat) : Nat :=
  match fpRead x, fpRead y with
  | .nan, _ => fpNaN
  | _, .nan => fpNaN
  | a, b => if fpKey b.word < fpKey a.word then b.word else a.word

/-- VFCMPLT: false if either is a NaN; zeros of either sign are equal (R387, R390; log entry 19). -/
def fpLt (x y : Nat) : Bool :=
  match fpRead x, fpRead y with
  | .nan, _ => false
  | _, .nan => false
  | .zero _, .zero _ => false
  | a, b => decide (fpKey a.word < fpKey b.word)

/-- VCVTIF: the word read as int32 (R390). -/
def fpOfInt (x : Nat) : Nat := let v := sgn 32 x; fpRound (decide (v < 0)) v.natAbs 0

/-- VCVTFI: to nearest even, saturated to int32, 0 for a NaN (R390). -/
def fpToInt (x : Nat) : Nat :=
  match fpRead x with
  | .nan => 0
  | .zero _ => 0
  | .inf a => if a then 0x80000000 else 0x7FFFFFFF
  | .num a m e =>
    let q : Int := if 0 ≤ e then (m * 2 ^ (min e 40).toNat : Nat) else (shiftEven m (-e).toNat : Nat)
    unsg 32 (clampInt (-2147483648) 2147483647 (if a then -q else q))

end Sys2Proof.Machine
end

