-- ==== Sys2Proof/Machine/Crypto.lean ====
section
/-!
DEFINITION. SHA-256 (FIPS 180-4) and deterministic ECDSA over P-256 (FIPS 186-5, with the nonce of RFC 6979), which
the Weighhouse (R263, R267, R273), the provenance unit and the Wicket use. Byte strings are lists of bytes.
-/

namespace Sys2Proof.Machine

/-! ### SHA-256 -/

/-- The eight words that a 256-bit number spells, the most significant first. -/
def wordsOf256 (n : Nat) : List (BitVec 32) := (List.range 8).map (fun i => BitVec.ofNat 32 (n >>> (224 - 32 * i)))

/-- The round constants, eight to a number. -/
def sha256K : List (BitVec 32) :=
  wordsOf256 0x428a2f9871374491b5c0fbcfe9b5dba53956c25b59f111f1923f82a4ab1c5ed5 ++
  wordsOf256 0xd807aa9812835b01243185be550c7dc372be5d7480deb1fe9bdc06a7c19bf174 ++
  wordsOf256 0xe49b69c1efbe47860fc19dc6240ca1cc2de92c6f4a7484aa5cb0a9dc76f988da ++
  wordsOf256 0x983e5152a831c66db00327c8bf597fc7c6e00bf3d5a7914706ca635114292967 ++
  wordsOf256 0x27b70a852e1b21384d2c6dfc53380d13650a7354766a0abb81c2c92e92722c85 ++
  wordsOf256 0xa2bfe8a1a81a664bc24b8b70c76c51a3d192e819d6990624f40e3585106aa070 ++
  wordsOf256 0x19a4c1161e376c082748774c34b0bcb5391c0cb34ed8aa4a5b9cca4f682e6ff3 ++
  wordsOf256 0x748f82ee78a5636f84c878148cc7020890befffaa4506cebbef9a3f7c67178f2

/-- The initial hash value. -/
def sha256Init : List (BitVec 32) := wordsOf256 0x6a09e667bb67ae853c6ef372a54ff53a510e527f9b05688c1f83d9ab5be0cd19

/-- The padded message. -/
def sha256Pad (m : List Byte) : List Byte :=
  m ++ [0x80] ++ List.replicate ((119 - m.length % 64) % 64) 0 ++ beBytes 8 (8 * m.length)

/-- The big-endian words of a block. -/
def beWords : Nat → List Byte → List (BitVec 32)
  | 0, _ => []
  | n + 1, b => BitVec.ofNat 32 (ofBeBytes (b.take 4)) :: beWords n (b.drop 4)

/-- The message schedule, newest word first: `n` more words. -/
def sha256Sched : Nat → List (BitVec 32) → List (BitVec 32)
  | 0, w => w
  | n + 1, w =>
    let g := nth (0 : BitVec 32) w
    let x := g 14
    let y := g 1
    let s0 := x.rotateRight 7 ^^^ x.rotateRight 18 ^^^ (x >>> 3)
    let s1 := y.rotateRight 17 ^^^ y.rotateRight 19 ^^^ (y >>> 10)
    sha256Sched n ((g 15 + s0 + g 6 + s1) :: w)

/-- One round on the eight working variables. -/
def sha256Round (v : List (BitVec 32)) (kw : BitVec 32 × BitVec 32) : List (BitVec 32) :=
  let g := nth (0 : BitVec 32) v
  let e := g 4
  let a := g 0
  let t1 := g 7 + (e.rotateRight 6 ^^^ e.rotateRight 11 ^^^ e.rotateRight 25) + ((e &&& g 5) ^^^ (~~~e &&& g 6))
    + kw.1 + kw.2
  let t2 := (a.rotateRight 2 ^^^ a.rotateRight 13 ^^^ a.rotateRight 22)
    + ((a &&& g 1) ^^^ (a &&& g 2) ^^^ (g 1 &&& g 2))
  [t1 + t2, a, g 1, g 2, g 3 + t1, e, g 5, g 6]

/-- One block. -/
def sha256Block (h : List (BitVec 32)) (b : List Byte) : List (BitVec 32) :=
  let w := (sha256Sched 48 (beWords 16 b).reverse).reverse
  List.zipWith (· + ·) h ((List.zip sha256K w).foldl sha256Round h)

/-- The blocks of a padded message, one after another. -/
def sha256Blocks : Nat → List (BitVec 32) → List Byte → List (BitVec 32)
  | 0, h, _ => h
  | n + 1, h, m => sha256Blocks n (sha256Block h (m.take 64)) (m.drop 64)

/-- The SHA-256 digest: 32 bytes. -/
def sha256 (m : List Byte) : List Byte :=
  let p := sha256Pad m
  (sha256Blocks (p.length / 64) sha256Init p).flatMap (fun w => beBytes 4 w.toNat)

/-- HMAC with SHA-256; the key is at most 64 bytes long. -/
def hmacSha256 (key m : List Byte) : List Byte :=
  let k := key ++ List.replicate (64 - key.length) 0
  sha256 (k.map (· ^^^ 0x5C) ++ sha256 (k.map (· ^^^ 0x36) ++ m))

/-! ### P-256 -/

/-- The field prime. -/
def p256P : Nat := 0xffffffff00000001000000000000000000000000ffffffffffffffffffffffff

/-- The group order. -/
def p256N : Nat := 0xffffffff00000000ffffffffffffffffbce6faada7179e84f3b9cac2fc632551

/-- The curve's constant term; its linear term is -3. -/
def p256B : Nat := 0x5ac635d8aa3a93e7b3ebbd55769886bc651d06b0cc53b0f63bce3c3e27d2604b

/-- The base point. -/
def p256G : Nat × Nat :=
  (0x6b17d1f2e12c4247f8bce6e563a440f277037d812deb33a0f4a13945d898c296,
   0x4fe342e2fe1a7f9b8ee7eb4a7c0f9e162bce33576b315ececbb6406837bf51f5)

/-- `a^e mod m` over the lowest `n` bits of `e`. -/
def powMod (m a e : Nat) : Nat → Nat
  | 0 => 1 % m
  | n + 1 =>
    let r := powMod m (a * a % m) (e / 2) n
    if e % 2 = 1 then r * a % m else r

/-- The inverse modulo a prime. -/
def invMod (m a : Nat) : Nat := powMod m (a % m) (m - 2) 256

/-- A point of the curve in affine coordinates; `none` is the point at infinity. -/
abbrev EcPoint := Option (Nat × Nat)

/-- The coordinates are those of a point on the curve. -/
def onP256 (x y : Nat) : Bool :=
  decide (x < p256P) && decide (y < p256P) && (y * y % p256P == (x * x * x + (p256P - 3) * x + p256B) % p256P)

/-- Point addition. -/
def ecAdd (a b : EcPoint) : EcPoint :=
  match a, b with
  | none, _ => b
  | _, none => a
  | some (x1, y1), some (x2, y2) =>
    if x1 = x2 ∧ (y1 + y2) % p256P = 0 then none
    else
      let l := if x1 = x2 then (3 * x1 * x1 + (p256P - 3)) * invMod p256P (2 * y1) % p256P
        else (y2 + p256P - y1) * invMod p256P (x2 + p256P - x1) % p256P
      let x3 := (l * l + 2 * p256P - x1 - x2) % p256P
      some (x3, (l * (x1 + p256P - x3) + p256P - y1) % p256P)

/-- Scalar multiplication over the lowest `n` bits of the scalar. -/
def ecMul (k : Nat) (q : EcPoint) : Nat → EcPoint
  | 0 => none
  | n + 1 =>
    let r := ecMul (k / 2) (ecAdd q q) n
    if k % 2 = 1 then ecAdd r q else r

/-- The public key of a private key. -/
def ecPublic (d : Nat) : Nat × Nat := (ecMul d (some p256G) 256).getD (0, 0)

/-- The signature (r, s) verifies over a digest under a public key. -/
def ecdsaVerify (q : Nat × Nat) (digest : List Byte) (r s : Nat) : Bool :=
  if r = 0 ∨ p256N ≤ r ∨ s = 0 ∨ p256N ≤ s ∨ !onP256 q.1 q.2 then false
  else
    let w := invMod p256N s
    let z := ofBeBytes digest
    match ecAdd (ecMul (z * w % p256N) (some p256G) 256) (ecMul (r * w % p256N) (some q) 256) with
    | some (x, _) => x % p256N == r
    | none => false

/-- The signature with a given nonce, if it is one. -/
def ecdsaWith (d z k : Nat) : Option (Nat × Nat) :=
  if k = 0 ∨ p256N ≤ k then none
  else
    match ecMul k (some p256G) 256 with
    | none => none
    | some (x, _) =>
      let r := x % p256N
      let s := invMod p256N k * ((z + r * d) % p256N) % p256N
      if r = 0 ∨ s = 0 then none else some (r, s)

/-- The candidates for the nonce, one after another; a run of 64 rejections does not occur. -/
def ecdsaLoop (d z : Nat) : Nat → List Byte → List Byte → Nat × Nat
  | 0, _, _ => (0, 0)
  | n + 1, k, v =>
    let v1 := hmacSha256 k v
    match ecdsaWith d z (ofBeBytes v1) with
    | some rs => rs
    | none =>
      let k1 := hmacSha256 k (v1 ++ [0])
      ecdsaLoop d z n k1 (hmacSha256 k1 v1)

/-- The deterministic signature of a message under a private key. -/
def ecdsaSign (d : Nat) (m : List Byte) : Nat × Nat :=
  let h := sha256 m
  let z := ofBeBytes h
  let x := beBytes 32 d ++ beBytes 32 (z % p256N)
  let v0 := List.replicate 32 (1 : Byte)
  let k1 := hmacSha256 (List.replicate 32 0) (v0 ++ [0] ++ x)
  let v1 := hmacSha256 k1 v0
  let k2 := hmacSha256 k1 (v1 ++ [1] ++ x)
  ecdsaLoop d z 64 k2 (hmacSha256 k2 v1)

/-- The Weighhouse's private key as a scalar (R271). -/
def whKey : Nat := Config.whPrivateKey % (p256N - 1) + 1

/-- The signature bytes of R263: r then s, each 32 bytes big-endian. -/
def sigBytes (rs : Nat × Nat) : List Byte := beBytes 32 rs.1 ++ beBytes 32 rs.2

end Sys2Proof.Machine
end

