-- ==== Sys2Proof/Machine/Prov.lean ====
section
/-!
DEFINITION. The provenance engine (Chapter 16): digests, the provenance header, the timing ledger, record and
replay.
-/

namespace Sys2Proof.Machine

/-! ### Access to runs and to the engine -/

/-- A household's run. -/
def State.runOf (s : State) (h : Nat) : Option RunSt := Tab.lookup s.run h

/-- Writes a household's run. -/
def State.setRun (s : State) (h : Nat) (r : RunSt) : State := { s with run := Tab.insert s.run h r }

/-- MODE of a slot: native. -/
def State.slotNative (s : State) (k : Nat) : Bool := s.on pSieve (SIEVE.CFG_MODE.at k)

/-- C of a slot. -/
def State.slotChips (s : State) (k : Nat) : Nat := s.fld pSieve (SIEVE.CFG_CHIPS_M1.at k) + 1

/-- CHIP of a slot. -/
def State.slotChip (s : State) (k : Nat) : Nat := s.fld pSieve (SIEVE.CFG_CHIP.at k)

/-- A seed of a slot. -/
def State.slotSeed (s : State) (k i : Nat) : Nat := s.fld pSieve ((SIEVE.SEED_SEED.at k).at i)

/-- An argument of a slot. -/
def State.slotArg (s : State) (k i : Nat) : Nat := s.fld pSieve ((SIEVE.ARG_ARG.at k).at i)

/-- STREAM of a slot. -/
def State.slotStream (s : State) (k : Nat) : Nat := s.fld pSieve (SIEVE.STREAM_STREAM.at k)

/-- STEP_BASE of a slot. -/
def State.slotStepBase (s : State) (k : Nat) : Nat :=
  s.pair pSieve (SIEVE.STEP_BASE_LO_BASE.at k) (SIEVE.STEP_BASE_HI_BASE.at k)

/-- The step counter of a slot's run (R400). -/
def State.slotStep (s : State) (k : Nat) : Nat := s.pair pSieve (SIEVE.STEP_LO_STEP.at k) (SIEVE.STEP_HI_STEP.at k)

/-- IN_QUEUE of a slot. -/
def State.slotInQ (s : State) (k : Nat) : Nat := s.fld pSieve (SIEVE.IN_QUEUE_QUEUE.at k)

/-- STATE of a slot (Table 10.12). -/
def State.slotState (s : State) (k : Nat) : Nat := s.fld pSieve (SIEVE.STATUS_STATE.at k)

/-- The owner of a slot. -/
def State.slotOwner (s : State) (k : Nat) : Nat := s.fld pSieve (SIEVE.SLOT_OWNER_SLOT.at k)

/-- The household's PROV block field `f`. -/
def State.pf (s : State) (h : Nat) (f : Fld) : Nat := s.fld pProv (f.at h)

/-- The held step item of a run (R398). -/
def State.stepItem (s : State) (r : RunSt) : Option QItem :=
  if r.got then (s.q (s.slotInQ r.slot)).heldItem else none

/-- The words of an item. -/
def QItem.data (i : QItem) : List Nat := i.words.map QWord.data

/-! ### Halts (R686, R691) -/

/-- The run of a household is halted. -/
def State.runHalted (s : State) (h : Nat) : Bool := s.on pDebug (DEBUG.RUN_STATUS_HALTED.at h)

/-- Ticks from HALT_SID to now. -/
def State.haltedFor (s : State) (h : Nat) : Nat :=
  s.tb.count - s.pair pDebug (DEBUG.HALT_SID_LO_T.at h) (DEBUG.HALT_SID_HI_T.at h)

/-- HALT_TICKS as it reads: the ticks of a halt in force count too (R691). -/
def State.haltTicks (s : State) (h : Nat) : Nat :=
  min (2 ^ 64 - 1) (s.pair pDebug (DEBUG.HALT_TICKS_LO_N.at h) (DEBUG.HALT_TICKS_HI_N.at h)
    + (if s.runHalted h then s.haltedFor h else 0))

/-- The ticks of the execution that RETRY may not take: those charged to REFRESH, and those of halts (R622, R691). -/
def State.spent (s : State) (h : Nat) : Nat :=
  s.pair pProv (PROV.REF_RUN_LO_N.at h) (PROV.REF_RUN_HI_N.at h) + s.haltTicks h

/-! ### Flags (Table 16.4) and digests -/

/-- A flag of Table 16.4 that stays set for the rest of the execution. -/
def State.setRunFlag (s : State) (h b : Nat) : State :=
  s.setFld pProv (PROV.RUN_FLAGS_FLAGS.at h) (setBit (s.pf h PROV.RUN_FLAGS_FLAGS) b)

/-- A flag, with its event at the first setting. -/
def State.flagOnce (s : State) (h b : Nat) (e : Ev) : State :=
  if bitAt (s.pf h PROV.RUN_FLAGS_FLAGS) b then s else (s.setRunFlag h b).raiseBy pProv e h

/-- Stores a 32-byte digest in eight registers, bytes 4i to 4i + 3 in register i (Table 16.11). -/
def State.putDigest (s : State) (h : Nat) (f : Fld) (d : List Byte) : State :=
  (List.range 8).foldl (fun t i => t.setFld pProv ((f.at h).at i) (ofLeBytes ((d.drop (4 * i)).take 4))) s

/-- The 32 bytes of a stored digest. -/
def State.getDigest (s : State) (h : Nat) (f : Fld) : List Byte :=
  (List.range 8).flatMap (fun i => leBytes 4 (s.fld pProv ((f.at h).at i)))

/-- 32 zero bytes. -/
def zeroDigest : List Byte := List.replicate 32 0

/-- The words of an ingest tag, if the step item has one and it is stamped: T, P, FIRE_SEQ, FLAGS (Table 16.4
NO_STAMP). -/
def State.itemTag (s : State) (r : RunSt) : Option (Nat × Nat × Nat × Nat) :=
  match s.stepItem r with
  | none => none
  | some i =>
    match i.data with
    | w0 :: t :: p :: w3 :: _ =>
      if bitsOf w0 63 56 = 0xA5 ∧ bitAt w0 48 = false then some (t, p, bitsOf w3 63 32, bitsOf w0 55 48) else none
    | _ => none

/-- The flags in force now (R617): the sticky ones, and those of this tick. -/
def State.headerFlags (s : State) (h : Nat) (r : RunSt) (poisoned : Bool) : Nat :=
  let st := s.fld pConst CONST.CONST_STATUS_STATE
  let f0 := s.pf h PROV.RUN_FLAGS_FLAGS
  let f1 := putBit f0 0 (s.on pRefmon REFMON.STATUS_REF_SUSPECT)
  let f2 := putBit f1 1 (s.on pDawn DAWN.DAWN_STATUS_UNALIGNED)
  let f3 := putBit f2 2 poisoned
  let f4 := putBit f3 3 (s.enabled pConst && st != 1 && st != 7)
  let f5 := putBit f4 4 (s.on pConst CONST.CONST_STATUS_FAR)
  let f6 := putBit f5 5 (s.on pConst CONST.CONST_STATUS_UNCAL)
  let f7 := putBit f6 6 (s.itemTag r).isNone
  putBit f7 7 (!r.got)

/-! ### The header (R616, R618) -/

/-- The 160-byte provenance block (Table 16.5). -/
def State.provBlock (s : State) (h : Nat) (r : RunSt) (leaf idx : Nat) : List Byte :=
  let k := r.slot
  let nat := s.slotNative k
  s.getDigest h PROV.PROG_DIGEST_W ++ s.getDigest h PROV.WEIGHTS_DIGEST_W
    ++ (if r.got then s.getDigest h PROV.INPUT_DIGEST_W else zeroDigest)
    ++ (List.range 4).flatMap (fun i => leBytes 4 (s.slotSeed k i)) ++ leBytes 4 (s.slotStream k)
    ++ leBytes 1 (b2n nat)
    ++ (if nat then leBytes 1 (s.slotChips k) ++ leBytes 1 (s.slotChip k) ++ leBytes 1 r.tiles.length
        else [0, 0, 0])
    ++ leBytes 8 (s.slotStep k) ++ (List.range 4).flatMap (fun i => leBytes 4 (s.slotArg k i))
    ++ leBytes 1 leaf ++ leBytes 2 idx ++ List.replicate 13 0

/-- Words 1 to 4 of a 32-byte digest, byte 0 in bits [7:0] of the first (R616). -/
def digestWords (d : List Byte) : List Nat := (List.range 4).map (fun i => ofLeBytes ((d.drop (8 * i)).take 8))

/-- Word 2 of the header (Table 16.3). -/
def State.headerWord2 (s : State) (h : Nat) (r : RunSt) (leaf idx : Nat) : Nat :=
  let k := r.slot
  let valid := s.on pFab FAB.STATUS_NUM_VALID
  (if valid then s.fld pFab FAB.STATUS_DEV_NUM * 2 ^ 54 + 2 ^ 53 else 0) + h * 2 ^ 49 + k * 2 ^ 45
    + b2n (s.slotNative k) * 2 ^ 44 + (s.slotChips k - 1) * 2 ^ 38 + s.slotChip k * 2 ^ 32 + leaf * 2 ^ 26
    + idx * 2 ^ 16 + (match s.stepItem r with
      | some i => i.seq
      | none => 0)

/-- The charges on ticks at or after the anchor (R624). -/
def ProvSt.anchored (v : ProvSt) (log : List (Nat × Nat)) : Nat :=
  ((log.filter (fun e => decide (v.anchorSid ≤ e.1))).map Prod.snd).sum

/-- Word 13 of the header (Table 16.3). -/
def State.headerWord13 (s : State) (h : Nat) (r : RunSt) : Nat :=
  s.fld pConst CONST.ERR_BOUND_PS * 2 ^ 48 + s.fld pConst CONST.CONST_STATUS_STATE * 2 ^ 44
    + s.fld pConst CONST.CONST_STATUS_DEPTH * 2 ^ 39 + s.fld pConst CONST.CONST_STATUS_ROOT_DEV * 2 ^ 29
    + r.tiles.length * 2 ^ 16 + min ((s.pvOf h).anchored (s.pvOf h).ovlLog) 0xFFFF

/-- The 24-word provenance header of an item, on its commit tick (R616, R617, R618). -/
def State.provHeader (s : State) (h : Nat) (r : RunSt) (leaf idx : Nat) (poisoned : Bool) : List Nat :=
  let k := r.slot
  let v := s.pvOf h
  let tag := s.itemTag r
  let t : Nat × Nat × Nat × Nat := tag.getD (0, 0, 0, 0)
  [0x9D * 2 ^ 56 + 2 ^ 48 + 24 * 2 ^ 40 + s.headerFlags h r poisoned, s.si.factoryId, s.headerWord2 h r leaf idx,
    r.launched, s.slotStep k, t.1, t.2.1, t.2.2.1 * 2 ^ 32 + t.2.2.2 * 2 ^ 24, s.tb.count, v.anchorSid,
    min (v.anchored v.refLog) 0xFFFFFFFF * 2 ^ 32 + min (v.anchored v.rtyLog) 0xFFFFFFFF,
    s.pair pProv (PROV.REF_RUN_LO_N.at h) (PROV.REF_RUN_HI_N.at h),
    s.pair pProv (PROV.RTY_RUN_LO_N.at h) (PROV.RTY_RUN_HI_N.at h), s.headerWord13 h r,
    s.slotSeed k 1 * 2 ^ 32 + s.slotSeed k 0, s.slotSeed k 3 * 2 ^ 32 + s.slotSeed k 2,
    s.slotStream k * 2 ^ 32 + min 0xFFFFFFFF ((s.slotStep k + 2 ^ 64 - v.anchorStep) % 2 ^ 64),
    s.slotArg k 1 * 2 ^ 32 + s.slotArg k 0, s.slotArg k 3 * 2 ^ 32 + s.slotArg k 2, s.slotStepBase k]
    ++ digestWords (sha256 (s.provBlock h r leaf idx))

/-! ### The timing ledger (R620 to R624, R632) -/

/-- A 64-bit ledger field grows and saturates. -/
def State.ledger64 (s : State) (h : Nat) (lo hi : Fld) (n : Nat) : State :=
  let v := s.pair pProv (lo.at h) (hi.at h) + n
  let t := s.setPair pProv (lo.at h) (hi.at h) (min v (2 ^ 64 - 1))
  if 2 ^ 64 - 1 < v then t.flagOnce h 15 PROV.evLEDGER_SAT else t

/-- A charge enters a log at its tick. -/
def charged (log : List (Nat × Nat)) (t n : Nat) : List (Nat × Nat) :=
  if n = 0 then log else Tab.set 0 log t (Tab.get 0 log t + n)

/-- Ticks charged to REFRESH (R621). -/
def State.chargeRef (s : State) (h n : Nat) : State :=
  let v := s.pvOf h
  let w := { v with refLog := charged v.refLog s.tb.count n, refSince := v.refSince + n }
  let t := (s.setPv h w).ledger64 h PROV.REF_RUN_LO_N PROV.REF_RUN_HI_N n
  if 0xFFFFFFFF < w.anchored w.refLog then t.flagOnce h 15 PROV.evLEDGER_SAT else t

/-- Ticks charged to RETRY (R622, R623). -/
def State.chargeRty (s : State) (h n : Nat) : State :=
  let v := s.pvOf h
  let w := { v with rtyLog := charged v.rtyLog s.tb.count n, rtySince := v.rtySince + n }
  let t := (s.setPv h w).ledger64 h PROV.RTY_RUN_LO_N PROV.RTY_RUN_HI_N n
  if 0xFFFFFFFF < w.anchored w.rtyLog then t.flagOnce h 15 PROV.evLEDGER_SAT else t

/-- Ticks counted in OVL (R621); LEDGER_OVERLAP stays set from the first (Table 16.4). -/
def State.chargeOvl (s : State) (h n : Nat) : State :=
  if n = 0 then s
  else
    let v := s.pvOf h
    let w := { v with ovlLog := charged v.ovlLog s.tb.count n }
    let run := s.pf h PROV.OVL_RUN_N + n
    let t := ((s.setPv h w).setFld pProv (PROV.OVL_RUN_N.at h) (min run 0xFFFFFFFF)).setRunFlag h 14
    if 0xFFFF < w.anchored w.ovlLog ∨ 0xFFFFFFFF < run then t.flagOnce h 15 PROV.evLEDGER_SAT else t

/-- The charges of a cross-chip completion. A result that came in a replay is charged first, with the ticks by which the
stall delayed it (R622); then, for each cause, the smaller of the returned value and the held ticks not yet charged,
REFRESH first (R623). -/
def State.chargeCross (s : State) (h refMax rtyMax stall held : Nat) : State :=
  let c := min stall held
  let a := min refMax (held - c)
  let b := min rtyMax (held - c - a)
  let t := (s.chargeRef h a).chargeRty h (c + b)
  let v := t.pvOf h
  t.setPv h { v with refSince := 0, rtySince := 0 }

/-- DRAM_REFRESH: a controller refreshes a bank, and requests of the executions in `waits` wait for it over so many beats
(R621, R709); which bank a request lies in is the controller's. An early refresh counts as finding an idle bank, and a
committed request may wait behind a refresh (R520). -/
def execDramRefresh (c : Fin 2) (early behind : Bool) (waits : List (Fin 8 × BitVec 32)) (s : State) :
    Host.Outcome State Fault Refusal :=
  let d := s.dram
  let waiting := d.waiting.any (fun q => q.ch == c.val && q.committed && !q.timed)
  let ahead := s.fld pDramadm DRAMADM.REF_AHEAD_AHEAD != 0
  let s1 := { s with dram := { d with
    refBehind := d.refBehind || (behind && waiting)
    refIdle := d.refIdle || (early && ahead) } }
  .next (waits.foldl (fun t w =>
    match t.runOf w.1 with
    | some r => t.setRun w.1 { r with refUntil := max r.refUntil (t.tb.beat + w.2.toNat) }
    | none => t) s1)

/-- A DRAM request issued for the execution waits on this tick because its bank is refreshing, and no halt keeps the wait
out of the ledger (R621, R691). -/
def State.refWaits (s : State) (h : Nat) (r : RunSt) : Bool :=
  decide (s.tb.beat < r.refUntil) && s.dram.waiting.any (fun q => q.client == 256 + h) && !s.runHalted h
    && decide (r.resumeAt ≤ s.tb.beat)

/-- The ledger's work on one tick: a tick on which the execution was held counts, and a refresh wait is charged to REFRESH
on such a tick and to OVL on any other (R620, R621). -/
def State.ledgerTick (s : State) (h : Nat) (r : RunSt) : State :=
  let w := s.refWaits h r
  if r.active then (s.setRun h { r with active := false }).chargeOvl h (b2n w)
  else (s.ledger64 h PROV.HELD_RUN_LO_N PROV.HELD_RUN_HI_N 1).chargeRef h (b2n w)

/-! ### Record (R626, R627) -/

/-- The base of the record region. -/
def State.recBase (s : State) (h : Nat) : Nat :=
  s.pair pProv (PROV.RECORD_BASE_LO_BASE.at h) (PROV.RECORD_BASE_HI_BASE.at h)

/-- The base of the replay region. -/
def State.repBase (s : State) (h : Nat) : Nat :=
  s.pair pProv (PROV.REPLAY_BASE_LO_BASE.at h) (PROV.REPLAY_BASE_HI_BASE.at h)

/-- The record region's size in bytes. -/
def State.recSize (s : State) (h : Nat) : Nat := s.pf h PROV.RECORD_SIZE_SIZE * 65536

/-- The replay region's size in bytes. -/
def State.repSize (s : State) (h : Nat) : Nat := s.pf h PROV.REPLAY_SIZE_SIZE * 65536

/-- Recording stops with RECORD_LOST (R627). -/
def State.recordLost (s : State) (h : Nat) : State :=
  ((s.setPv h { s.pvOf h with recording := false }).setFld pProv (PROV.PSTATUS_RECORDING.at h) 0 |>.setRunFlag h 16)
    |>.raiseBy pProv PROV.evRECORD_LOST h

/-- The record header (Table 16.6). -/
def State.recordHeader (s : State) (h : Nat) (r : RunSt) (entries used : Nat) : List Nat :=
  let k := r.slot
  [0xD5C1 * 2 ^ 48 + 2 ^ 40, s.si.factoryId,
    bitsOf (s.headerWord2 h r 0 0) 63 32 * 2 ^ 32 + r.tiles.length * 2 ^ 16 + s.slotInQ k, r.launched]
    ++ digestWords (s.getDigest h PROV.PROG_DIGEST_W) ++ digestWords (s.getDigest h PROV.WEIGHTS_DIGEST_W)
    ++ [s.slotSeed k 1 * 2 ^ 32 + s.slotSeed k 0, s.slotSeed k 3 * 2 ^ 32 + s.slotSeed k 2, s.slotStream k,
      s.slotStepBase k, s.slotArg k 1 * 2 ^ 32 + s.slotArg k 0, s.slotArg k 3 * 2 ^ 32 + s.slotArg k 2, entries, used]
    ++ List.replicate 12 0

/-- The record region is unusable (R627, R631). -/
def State.recordBad (s : State) (h : Nat) : Bool :=
  let a := s.recBase h
  let n := s.recSize h
  n == 0 || a % 64 != 0 || !s.dramMapped a n || !s.dramMay h a n
    || (0 < s.repSize h && decide (a < s.repBase h + s.repSize h) && decide (s.repBase h < a + n))

/-- Recording begins at a launch with RECORD_EN = 1 (R626, R631). -/
def State.recordStart (s : State) (h : Nat) (r : RunSt) : State :=
  if s.recordBad h then s.recordLost h
  else
    let hd := wordsLe (s.recordHeader h r 0 0)
    let u := (s.dramAsk (s.recBase h) 256 (256 + h) false).dramStore (s.recBase h) hd
    let t := u.setPv h { u.pvOf h with recording := true, recBytes := 0 }
    ((t.setFld pProv (PROV.PSTATUS_RECORDING.at h) 1).setFld pProv (PROV.RECORD_ENTRIES_N.at h) 0).setFld pProv
      (PROV.RECORD_USED_BLOCKS.at h) 4

/-- A record entry (Table 16.7). -/
def recordEntry (launched : Nat) (i : QItem) : List Nat :=
  let n := i.words.length
  [(i.commit + 2 ^ 64 - launched) % 2 ^ 64, i.stall * 2 ^ 32 + i.seq * 2 ^ 16
      + b2n (i.words.any QWord.poison) * 2 ^ 15 + n]
    ++ i.data ++ List.replicate ((8 - (n + 2) % 8) % 8) 0

/-- A TAKE that holds an item appends an entry, or recording stops: the entry does not fit, or its write is denied
(R626, R627). The write is metered as the household's tile traffic. -/
def State.recordAppend (s : State) (h : Nat) (r : RunSt) (i : QItem) : State :=
  let v := s.pvOf h
  if v.recording then
    let e := wordsLe (recordEntry r.launched i)
    let a := s.recBase h + 256 + v.recBytes
    if s.recSize h < 256 + v.recBytes + e.length ∨ s.dramMapped a e.length = false ∨ s.dramMay h a e.length = false then
      s.recordLost h
    else
      let used := v.recBytes + e.length
      let n := s.pf h PROV.RECORD_ENTRIES_N + 1
      let t := ((s.dramAsk a e.length (256 + h) false).dramStore (s.recBase h + 256 + v.recBytes) e).dramStore (s.recBase h + 144) (wordsLe [n, used])
      ((t.setPv h { t.pvOf h with recBytes := used }).setFld pProv (PROV.RECORD_ENTRIES_N.at h) n).setFld pProv
        (PROV.RECORD_USED_BLOCKS.at h) ((256 + used) / 64)
  else s

/-! ### Replay (R628 to R630, R633) -/

/-- FEED_STATE (Table 16.11). -/
def State.setFeed (s : State) (h v : Nat) : State := s.setFld pProv (PROV.PSTATUS_FEED_STATE.at h) v

/-- The feeder fails (R635). -/
def State.replayFail (s : State) (h : Nat) : State := (s.setFeed h 4).raiseBy pProv PROV.evREPLAY_FAIL h

/-- The producer that the feeder is: the provenance engine at node 36, with the household's identity (R628). -/
def feeder (h : Nat) : Producer := ⟨36, 0, 4, h⟩

/-- The slot of a household that the feeder serves: the one that is LOADED or RUNNING. -/
def State.feedSlot (s : State) (h : Nat) : Option Nat :=
  (List.range 16).find? (fun k => s.slotOwner k == h && (s.slotState k == 2 || s.slotState k == 3))

/-- The length in words of the entry at a record offset, with its padding. -/
def State.entrySpan (s : State) (a : Nat) : Nat := (bitsOf (s.dramWord (a + 8)) 10 0 + 2 + 7) / 8 * 8

/-- The feeder pushes the entry at its place whole, and moves on (R628, R633). -/
def State.feedOne (s : State) (h q : Nat) : State :=
  let v := s.pvOf h
  let a := s.repBase h + v.feedAt
  let w1 := s.dramWord (a + 8)
  let n := bitsOf w1 10 0
  let ws := (List.range n).map (fun i => s.dramWord (a + 16 + 8 * i))
  let t := s.qPushItem q (feeder h) ws 0
  let ok := bitsOf (nth 0 (match t.resp with
    | some r => r.data
    | none => []) 0) 15 12 == 0
  let t1 := t.setPv h { v with feedAt := v.feedAt + 8 * s.entrySpan a, feedLeft := v.feedLeft - 1 }
  let t2 := t1.incr pProv (PROV.FEED_ENTRIES_N.at h)
  let t3 := if bitAt w1 15 then
      t2.setFld pProv (PROV.REPLAY_CHECK_BITS.at h) (setBit (t2.pf h PROV.REPLAY_CHECK_BITS) 8)
    else t2
  if n = 0 ∨ 1024 < n ∨ ok = false then t3.replayFail h
  else if v.feedLeft ≤ 1 then t3.setFeed h 3 else t3

/-- The entries with REL ≤ 0 are pushed in order (R628); the count of entries bounds the work. -/
def State.feedEarly (s : State) (h q : Nat) : Nat → State
  | 0 => s
  | n + 1 =>
    let v := s.pvOf h
    if v.feedLeft = 0 ∨ s.pf h PROV.PSTATUS_FEED_STATE = 4 then s
    else if 0 < sgn 64 (s.dramWord (s.repBase h + v.feedAt)) then s
    else (s.feedOne h q).feedEarly h q n

/-- REPLAY_EN is written to 1: on a LOADED slot the feeder starts (R628, R631, R635). -/
def State.replayStart (s : State) (h : Nat) : State :=
  match (List.range 16).find? (fun k => s.slotOwner k == h && s.slotState k == 2) with
  | none => if s.repSize h = 0 then s.replayFail h else s
  | some k =>
    let a := s.repBase h
    let n := s.repSize h
    let w := s.dramWord a
    if n = 0 ∨ s.dramMapped a n = false ∨ s.dramMay h a n = false ∨ bitsOf w 63 48 ≠ 0xD5C1 ∨ bitsOf w 47 40 ≠ 1 then
      s.replayFail h
    else
      let left := s.dramWord (a + 144)
      let t := (s.setPv h { s.pvOf h with feedAt := 256, feedLeft := left, slipping := false }).setFeed h
        (if left = 0 then 3 else 1)
      let t1 := t.setFld pProv (PROV.FEED_ENTRIES_N.at h) 0
      t1.feedEarly h (s.slotInQ k) left

/-- At launch with REPLAY_EN = 1 the record header is compared with the slot, and the count of the recorded launch
kept (R629, R630). -/
def State.replayCheck (s : State) (h : Nat) (r : RunSt) : State :=
  let a := s.repBase h
  let rec_ (i : Nat) : Nat := s.dramWord (a + 8 * i)
  let hd := s.recordHeader h r 0 0
  let cmp (l : List Nat) : Bool := l.any (fun i => rec_ i != nth 0 hd i)
  let w2 := rec_ 2 ^^^ nth 0 hd 2
  let m := b2n (cmp [4, 5, 6, 7]) + b2n (cmp [8, 9, 10, 11]) * 2 + b2n (cmp [12, 13]) * 4 + b2n (cmp [14]) * 8
    + b2n (cmp [15]) * 16 + b2n (cmp [16, 17]) * 32 + b2n (bitsOf w2 44 32 != 0) * 64 + b2n (bitsOf w2 22 16 != 0) * 128
  let t := s.setFld pProv (PROV.REPLAY_CHECK_BITS.at h) (m ||| (s.pf h PROV.REPLAY_CHECK_BITS &&& 256))
  let t1 := t.setPv h { t.pvOf h with replay := true, recSid := rec_ 3 }
  let t2 := if m = 0 then t1 else t1.raiseBy pProv PROV.evREPLAY_MISMATCH h
  if t2.pf h PROV.PSTATUS_FEED_STATE = 1 then t2.setFeed h 2 else t2

/-- REPLAY_FEED: the next entry is pushed, not before it becomes visible from t*; an item visible after t* is a slip
(R628). -/
def execReplayFeed (h : Fin 8) (s : State) : Host.Outcome State Fault Refusal :=
  let v := s.pvOf h
  match s.runOf h with
  | none => .next s
  | some r =>
    if v.feedLeft = 0 ∨ s.pf h PROV.PSTATUS_FEED_STATE ≠ 2 then .next s
    else
      let a := s.repBase h + v.feedAt
      let target : Int := r.launched + sgn 64 (s.dramWord a) - bitsOf (s.dramWord (a + 8)) 63 32
      let t := s.feedOne h (s.slotInQ r.slot)
      let late : Int := (s.tb.count + 1 : Nat) - target
      if late < 0 then .next s
      else if 0 < late then
        let t1 := (t.bump pProv (PROV.SLIP_SLIP_COUNT.at h)).setFld pProv (PROV.SLIP_SLIP_MAX.at h)
          (min 0xFFFF (max late.toNat (t.pf h PROV.SLIP_SLIP_MAX)))
        let t2 := if v.slipping then t1 else t1.raiseBy pProv PROV.evREPLAY_SLIP h
        .next (t2.setPv h { t2.pvOf h with slipping := true })
      else .next (t.setPv h { t.pvOf h with slipping := false })

/-! ### Launch and end of an execution -/

/-- A launch begins an execution in the provenance engine: the ledger, the flags and the scratch bitmap start afresh,
and record and replay begin (R611, R614, R617, R624, R626, R630). -/
def State.provLaunch (s : State) (h : Nat) (r : RunSt) : State :=
  let v := s.pvOf h
  let v1 : ProvSt := { v with
    scratch := []
    anchorSid := r.launched
    anchorStep := s.slotStepBase r.slot
    refLog := []
    rtyLog := []
    ovlLog := []
    refSince := 0
    rtySince := 0
    replay := false
    recording := false }
  let replay := s.on pProv (PROV.PCFG_REPLAY_EN.at h)
  let flags := b2n v.dirty * 2 ^ 8 + b2n r.usesSid * 2 ^ 11 + b2n replay * 2 ^ 12
  let s1 := [PROV.REF_RUN_LO_N, PROV.REF_RUN_HI_N, PROV.RTY_RUN_LO_N, PROV.RTY_RUN_HI_N, PROV.OVL_RUN_N,
    PROV.HELD_RUN_LO_N, PROV.HELD_RUN_HI_N, PROV.DIGEST_WAIT_N].foldl (fun t f => t.setFld pProv (f.at h) 0)
    (s.setPv h v1)
  let s2 := s1.setFld pProv (PROV.RUN_FLAGS_FLAGS.at h) flags
  let s3 := if s2.on pProv (PROV.PCFG_RECORD_EN.at h) then s2.recordStart h r else s2
  if replay then s3.replayCheck h r else s3

/-- An execution ends: recording ends with its entries current (R635). -/
def State.provEnd (s : State) (h : Nat) : State :=
  (s.setPv h { s.pvOf h with recording := false }).setFld pProv (PROV.PSTATUS_RECORDING.at h) 0

/-! ### DMA tracking (R612, R614) -/

/-- The blocks of a transfer. -/
def blocksOf (a n : Nat) : List Nat := (List.range (n / 64)).map (fun i => a + 64 * i)

/-- The scratch block that a DRAM address lies in (R614). -/
def State.scratchBlock (s : State) (h a : Nat) : Option Nat :=
  let b := s.pair pProv (PROV.SCRATCH_BASE_LO_BASE.at h) (PROV.SCRATCH_BASE_HI_BASE.at h)
  let n := s.pf h PROV.SCRATCH_SIZE_SIZE * 65536
  if b ≤ a ∧ a + 64 ≤ b + n then some ((a - b) / 64) else none

/-- A block read by DMAGET is tracked (R614). -/
def State.trackedBlock (s : State) (h a : Nat) : Bool :=
  let v := s.pvOf h
  (match v.weights with
    | some (b, n) => decide (b ≤ a) && decide (a + 64 ≤ b + n)
    | none => false)
  || (match s.scratchBlock h a with
    | some k => v.scratch.contains k
    | none => false)

/-- A DMAGET of an execution: the first untracked one sets UNTRACKED_READ (R614). -/
def State.trackGet (s : State) (h a n : Nat) : State :=
  if (blocksOf a n).all (s.trackedBlock h) then s else s.flagOnce h 9 PROV.evUNTRACKED_READ

/-- A DMAPUT of an execution marks the scratch blocks it writes (R614). -/
def State.trackPut (s : State) (h a n : Nat) : State :=
  let ks := (blocksOf a n).filterMap (s.scratchBlock h)
  let v := s.pvOf h
  s.setPv h { v with scratch := ks.foldl (fun l k => if l.contains k then l else k :: l) v.scratch }

/-- WEIGHTS_WRITE_DETECT: the report of a write that reached the weights region; the first sets WEIGHTS_DIRTY
(R612). -/
def execWeightsWriteDetect (h : Fin 8) (s : State) : Host.Outcome State Fault Refusal :=
  let v := s.pvOf h
  if v.written && v.weights.isSome && !v.dirty then
    let t := (s.setPv h { v with written := false, dirty := true }).raiseBy pProv PROV.evWEIGHTS_DIRTY h
    .next (if (t.runOf h).isSome then t.setRunFlag h 8 else t)
  else .next s

/-- Every leaf of the run waits at the STEP barrier. -/
def State.atStep (s : State) (r : RunSt) : Bool :=
  (r.tiles.flatMap (fun t => (Tab.get TileSt.reset s.tile t).ctxs)).all (fun c =>
    match c.bar with
    | some b => b.cls == 8 && b.op == 0
    | none => false)

/-- The 64-byte blocks of a SHA-256 over n bytes (FIPS 180-4). -/
def shaBlocks (n : Nat) : Nat := (n + 9 + 63) / 64

/-- INPUT_DIGEST_DONE: the digest of the step item's words, 8 bytes little-endian each (R613), 80 beats for each block
(R607). -/
def execInputDigestDone (h : Fin 8) (s : State) : Host.Outcome State Fault Refusal :=
  match s.runOf h with
  | none => .next s
  | some r =>
    match s.stepItem r with
    | none => .next s
    | some i =>
      if r.digested ∨ s.tb.beat < r.gotAt + 80 * shaBlocks (8 * i.words.length) then .next s
      else
        let t := (s.putDigest h PROV.INPUT_DIGEST_W (sha256 (wordsLe i.data))).setRun h { r with digested := true }
        .next (if s.atStep r then t.bump pProv (PROV.DIGEST_WAIT_N.at h) (s.tb.count - r.readyAt) else t)

/-! ### Writes of the page (R631, R635, R637) -/

/-- A served write of a PROV register (Table 16.11). -/
def State.provWrite (s : State) (hh off w : Nat) : State :=
  if off = 0x100 then
    (List.range 8).foldl (fun t h =>
      let v := bitsOf w (4 * h + 3) (4 * h)
      if v = h ∨ v = 15 then t.setFld pProv (PROV.PROV_OWNER_HH.at h) v else t) s
  else if 0x200 ≤ off then
    let h := (off - 0x200) / 0x100
    let r := (off - 0x200) % 0x100
    if bitAt s.runningMask h then
      (if (s.fieldsOf pProv off).any (fun f => f.kind == .rw) then s.raiseBy pProv PROV.evPCFG_REFUSED hh else s)
    else if r = 0x00 then
      let was := s.on pProv (PROV.PCFG_REPLAY_EN.at h)
      let t := (s.setFld pProv (PROV.PCFG_RECORD_EN.at h) (bitsOf w 31 31)).setFld pProv (PROV.PCFG_REPLAY_EN.at h)
        (bitsOf w 30 30)
      if bitAt w 30 && !was then t.replayStart h else if bitAt w 30 then t else t.setFeed h 0
    else if r = 0x10 then s.setFld pProv (PROV.RECORD_BASE_LO_BASE.at h) (w / 64 * 64)
    else if r = 0x20 then s.setFld pProv (PROV.REPLAY_BASE_LO_BASE.at h) (w / 64 * 64)
    else if r = 0x2C then s.setFld pProv (PROV.SCRATCH_BASE_LO_BASE.at h) (w / 64 * 64)
    else if r = 0x34 then
      let v := bitsOf w 6 0
      let t := s.setFld pProv (PROV.SCRATCH_SIZE_SIZE.at h) (min 64 v)
      if 64 < v then t.clampBit pProv 0 else t
    else s.writeFields pProv (s.fieldsOf pProv off) w
  else s.writeFields pProv (s.fieldsOf pProv off) w

/-- The live registers of the PROV page: the cores that digest, and the flags of the execution (Table 16.11). -/
def State.provView (s : State) (off : Nat) : Option Nat :=
  if off = 0x104 then
    some ((List.range 8).foldl (fun m h => putBit m h
      ((match s.runOf h with
        | some r => r.got && !r.digested
        | none => false)
      || (List.range 16).any (fun k => s.slotOwner k == h && s.slotState k == 1))) 0)
  else if 0x200 ≤ off ∧ (off - 0x200) % 0x100 = 8 then
    let h := (off - 0x200) / 0x100
    match s.runOf h with
    | some r => some (s.headerFlags h r (!r.poison.isEmpty))
    | none => none
  else none

/-- A write access to a register of a PROV block. -/
def State.provAccess (s : State) (i : Instr) (a : Acc) (h r w : Nat) : State :=
  s.access i a pProv (0x200 + 0x100 * h + r) true (fun t => t.provWrite a.hh (0x200 + 0x100 * h + r) w)

/-- A launch: PCFG of its beat is the old one, and a write of that beat is refused (Table 16.8). -/
def launches (c : Instr) : Bool :=
  match c with
  | .slotLaunch .. => true
  | .almApply .. => true
  | _ => (List.range 16).any (fun k => (writesReg pSieve (0x200 + 0x80 * k) c).isSome)

/-- REPLAY_ENABLE: a write of PCFG with REPLAY_EN = 1 (R628). -/
def execReplayEnable (a : Acc) (h : Fin 8) (w : Word) (s : State) : Host.Outcome State Fault Refusal :=
  .next (s.after (.replayEnable a h w) launches (s.provAccess (.replayEnable a h w) a h 0 (setBit w.toNat 30)))

/-- PCFG_WRITE: a write to a register of a PROV block (R637). -/
def execPcfgWrite (a : Acc) (h : Fin 8) (off : Fin 64) (w : Word) (s : State) : Host.Outcome State Fault Refusal :=
  .next (s.after (.pcfgWrite a h off w) (fun c => off.val == 0 && launches c)
    (s.provAccess (.pcfgWrite a h off w) a h (4 * off) w.toNat))

end Sys2Proof.Machine
end

