-- ==== Sys2Proof/Machine/Tile.lean ====
section
/-!
DEFINITION. The tiles: fetching and issuing an instruction (R384 to R386, R397), leaf registers, window accesses and
their faults (R411), breakpoints and watchpoints (R407 to R409), and the end of a run (R414).
-/

namespace Sys2Proof.Machine

/-! ### Instruction words (Table 10.3) -/

/-- The fields of an instruction word. -/
structure Ins where
  cls : Nat
  op : Nat
  rd : Nat
  ra : Nat
  rb : Nat
  pred : Nat
  pneg : Bool
  imm : Int
  deriving DecidableEq, Repr

/-- Reads an instruction word (R385). -/
def insOf (w : Nat) : Ins :=
  ⟨bitsOf w 63 60, bitsOf w 59 54, bitsOf w 53 48, bitsOf w 47 42, bitsOf w 41 36, bitsOf w 35 33, bitAt w 32,
    sgn 32 (bitsOf w 31 0)⟩

/-- CLASS and OP are listed in Table 10.4 (R386). -/
def insLegal (cls op : Nat) : Bool :=
  match cls with
  | 0 => decide (op ≤ 0x08)
  | 1 => decide (op ≤ 0x0A) || op == 0x10 || op == 0x11
  | 2 => decide (op ≤ 0x0E) || (decide (0x10 ≤ op) && decide (op ≤ 0x14))
  | 3 => decide (op ≤ 0x08)
  | 4 => decide (op ≤ 0x03) || (decide (0x08 ≤ op) && decide (op ≤ 0x0A))
  | 5 => decide (op ≤ 0x01)
  | 6 => decide (op ≤ 0x05) || (decide (0x10 ≤ op) && decide (op ≤ 0x15)) || (decide (0x20 ≤ op) && decide (op ≤ 0x25))
  | 7 => op == 0
  | 8 => decide (op ≤ 0x01)
  | _ => false

/-! ### Leaf registers (R382) -/

/-- A scalar register; s0 reads 0. -/
def LeafSt.sreg (c : LeafSt) (i : Nat) : Nat := if i = 0 then 0 else Tab.get 0 c.s i

/-- Writes a scalar register modulo 2^64; s0 ignores writes. -/
def LeafSt.setS (c : LeafSt) (i v : Nat) : LeafSt := if i = 0 then c else { c with s := Tab.set 0 c.s i (v % 2 ^ 64) }

/-- A lane of a vector register. -/
def LeafSt.lane (c : LeafSt) (r l : Nat) : Nat := Tab.get 0 c.v (16 * r + l)

/-- The 16 lanes of a vector register. -/
def LeafSt.vec (c : LeafSt) (r : Nat) : List Nat := (List.range 16).map (c.lane r)

/-- A predicate register; p0 reads all ones. -/
def LeafSt.preg (c : LeafSt) (i : Nat) : Nat := if i = 0 then 0xFFFF else Tab.get 0 c.p i

/-- Writes a predicate register; p0 ignores writes. -/
def LeafSt.setP (c : LeafSt) (i v : Nat) : LeafSt := if i = 0 then c else { c with p := Tab.set 0 c.p i (v % 2 ^ 16) }

/-- Lane `l` is selected: p[PRED].l XOR PNEG (R386). -/
def LeafSt.sel (c : LeafSt) (i : Ins) (l : Nat) : Bool := bitAt (c.preg i.pred) l != i.pneg

/-- Writes the lanes of a vector register that a test selects, modulo 2^32. -/
def LeafSt.setV (c : LeafSt) (r : Nat) (sel : Nat → Bool) (f : Nat → Nat) : LeafSt :=
  { c with v := (List.range 16).foldl (fun t l =>
      if sel l then Tab.set 0 t (16 * r + l) (f l % 2 ^ 32) else t) c.v }

/-! ### Issue timing (R384, Table 10.2) -/

/-- A source register's number among the s, v and p registers. -/
def vReg (r : Nat) : Nat := 64 + r

/-- The predicate register of an instruction. -/
def Ins.pReg (n : Ins) : Nat := 128 + n.pred

/-- The registers that an instruction reads: s from 0, v from 64, p from 128 (Table 10.4). -/
def Ins.sources (n : Ins) : List Nat :=
  match n.cls with
  | 0 => if n.op = 3 ∨ n.op = 4 then [n.ra] else if n.op = 5 ∨ n.op = 6 then [n.ra, n.rb] else []
  | 1 => if n.op < 0x10 then [n.ra, n.rb] else [n.ra]
  | 2 =>
    if n.op = 0x0D then [n.ra, n.pReg]
    else if n.op = 0x10 ∨ n.op = 0x11 then [vReg n.ra, vReg n.rb, vReg n.rd, n.pReg]
    else if n.op = 0x12 then [vReg n.ra, n.rb, n.pReg]
    else if n.op = 0x13 then [n.pReg]
    else if n.op = 0x14 then [vReg n.ra]
    else [vReg n.ra, vReg n.rb, n.pReg]
  | 3 =>
    if n.op = 3 then [vReg n.ra, vReg n.rb, vReg n.rd, n.pReg]
    else if n.op = 6 ∨ n.op = 7 then [vReg n.ra, n.pReg]
    else [vReg n.ra, vReg n.rb, n.pReg]
  | 4 =>
    if n.op = 1 then [n.ra, vReg n.rd, n.pReg]
    else if n.op = 3 then [n.ra, n.rd]
    else if n.op = 8 ∨ n.op = 9 then [n.ra, n.rb]
    else if n.op = 0x0A then []
    else [n.ra]
  | 5 => [n.ra, n.rb]
  | 6 => if 0x10 ≤ n.op ∧ n.op < 0x20 then [n.ra] else [vReg n.ra]
  | 7 => [n.ra, n.pReg]
  | _ => []

/-- The register that an instruction writes, and its latency in beats (Table 10.2); 1 where the table lists none (log
entry 89). A reduction's result comes with its barrier. -/
def Ins.result (n : Ins) : Option (Nat × Nat) :=
  match n.cls with
  | 0 => if n.op = 8 then some (n.rd, 1) else none
  | 1 => some (n.rd, if n.op = 2 then 3 else 1)
  | 2 =>
    if n.op = 0x0B ∨ n.op = 0x0C then some (128 + n.rd % 8, 2)
    else if n.op = 0x14 then some (n.rd, 2)
    else some (vReg n.rd, if n.op = 0x10 ∨ n.op = 0x11 ∨ n.op = 0x12 then 3 else 2)
  | 3 => some (if n.op = 8 then 128 + n.rd % 8 else vReg n.rd, 4)
  | 4 => if n.op = 0 then some (vReg n.rd, 4) else if n.op = 2 then some (n.rd, 3) else none
  | 5 => if n.op = 0 then some (n.rd, 1) else none
  | 6 => if 0x20 ≤ n.op then some (vReg n.rd, 1) else none
  | 7 => some (vReg n.rd, 6)
  | _ => none

/-- Every source register of an instruction is ready on a beat (R384). -/
def LeafSt.readyFor (c : LeafSt) (n : Ins) (beat : Nat) : Bool :=
  n.sources.all (fun k => decide (Tab.get 0 c.ready k ≤ beat))

/-- The context once an instruction has issued: its result is ready after its latency, and s0 and p0 always are. -/
def LeafSt.marked (c : LeafSt) (n : Ins) (beat : Nat) : LeafSt :=
  match n.result with
  | none => c
  | some (k, l) =>
    if k = 0 ∨ k = 128 then c else { c with ready := Tab.set 0 c.ready k (max (Tab.get 0 c.ready k) (beat + l)) }

/-! ### Tiles -/

/-- A tile. -/
def State.tl (s : State) (t : Nat) : TileSt := Tab.get TileSt.reset s.tile t

/-- Writes a tile. -/
def State.setTl (s : State) (t : Nat) (x : TileSt) : State := { s with tile := Tab.set TileSt.reset s.tile t x }

/-- The owner of a tile. -/
def State.tileOwner (s : State) (t : Nat) : Nat := s.owner (pTile t)

/-- The tile set of a household, in ascending logical number (R383). -/
def State.tileSet (s : State) (h : Nat) : List Nat :=
  (List.range 64).filter (fun t => (s.blk (pTile t)).isSome && s.tileOwner t == h)

/-- A byte of a tile's SRAM. -/
def TileSt.byte (x : TileSt) (a : Nat) : Byte := Tab.get 0 x.sram a

/-- Bytes of a tile's SRAM. -/
def TileSt.bytes (x : TileSt) (a n : Nat) : List Byte := (List.range n).map (fun i => x.byte (a + i))

/-- Writes bytes of a tile's SRAM. -/
def TileSt.put : TileSt → Nat → List Byte → TileSt
  | x, _, [] => x
  | x, a, b :: bs => ({ x with sram := Tab.set 0 x.sram a b }).put (a + 1) bs

/-- The base of the window of a tile's k-th leaf (R393). -/
def winBase (leafSram k : Nat) : Nat := 0x10000 + k * leafSram

/-- A tile's state in T_STATUS (Table 10.11): 0 IDLE, 1 INIT, 2 RUN, 3 BARRIER, 4 HALTED, 5 STOPPED. -/
def State.tileState (s : State) (t v : Nat) : State := s.setFld (pTile t) TILE.T_STATUS_STATE v

/-! ### The end of a run (R401, R414, R416) -/

/-- A run ends: its tiles stop, outstanding transfers and staged items are discarded, the step item is dropped. -/
def State.endRun (s : State) (h : Nat) (r : RunSt) (slotSt code : Nat) (tile : Option Nat) : State :=
  let s1 := r.tiles.foldl (fun t n =>
    let x := t.tl n
    let y := t.setTl n { x with
      ctxs := x.ctxs.map (fun c => { c with dma := [], popWait := false, dmaWait := false, bar := none })
      halted := false
      steps := 0
      passed := false }
    if x.ctxs.isEmpty then y else y.tileState n (if slotSt = 4 then 0 else 5)) s
  let s2 := if r.got then { s1.releaseHeld (s1.slotInQ r.slot) 2 with resp := s1.resp } else s1
  let s3 := { s2 with run := Tab.erase s2.run h }
  let s4 := s3.setFld pSieve SIEVE.RUNNING_RUNNING (clrBit s3.runningMask h)
  let s4a := s4.setFld pSieve (SIEVE.STATUS_STATE.at r.slot) slotSt
  let s5 := if slotSt = 4 then s4a else s4a.setFld pSieve (SIEVE.STATUS_FAIL_CODE.at r.slot) code
  let s6 := match tile with
    | some t => s5.setFld pSieve (SIEVE.STATUS_FAIL_TILE.at r.slot) t
    | none => s5
  ((s6.provEnd h).setFld pDebug (DEBUG.RUN_STATUS_HALTED.at h) 0).setFld pDebug (DEBUG.RUN_STATUS_STEPPING.at h) 0

/-- A run fails with a code of Table 10.9 that no leaf of this chip caused (R414). -/
def State.runFail (s : State) (h : Nat) (r : RunSt) (code : Nat) : State :=
  (s.endRun h r 5 code none).raiseBy pSieve SIEVE.evRUN_FAILED h

/-- An abort (R416); the run block of a halted run returns to its WARM values (Table 18.8). -/
def State.abortRun (s : State) (h : Nat) (r : RunSt) (cause : Nat) : State :=
  let t := (s.endRun h r 6 cause none).raiseBy pSieve SIEVE.evRUN_ABORTED h
  if s.runHalted h then t.clearRegs pDebug ((0x200 + 0x40 * h) * 8) ((0x240 + 0x40 * h) * 8) else t

/-- A fault of a leaf (R411, R414): T_FAULT holds `shown`, which is TRAP's IMM[7:0] or the code; the run ends with the
beat. -/
def State.leafFault (s : State) (h t : Nat) (c : LeafSt) (code shown : Nat) : State :=
  let p := pTile t
  let s1 := ((s.setFld p TILE.T_FAULT_PC c.pc).setFld p TILE.T_FAULT_LEAF c.leaf).setFld p TILE.T_FAULT_CODE shown
  let s2 := s1.raiseBy p ⟨TILE.evTILE_FAULT.bit, code⟩ h
  match s2.runOf h with
  | some r => s2.setRun h { r with faults := r.faults ++ [(t, code)] }
  | none => s2

/-- The fault of the lowest logical tile of those that have faulted (Table 10.8). -/
def RunSt.firstFault (r : RunSt) : Option (Nat × Nat) :=
  (List.range 64).findSome? (fun t => r.faults.find? (fun e => e.1 == t))

/-- The faults of a beat stop the run: the slot enters FAILED with the code and the tile (R414). -/
def State.faultsEnd (s : State) (h : Nat) (r : RunSt) : State :=
  match r.firstFault with
  | some (t, code) => (s.endRun h r 5 code (some t)).raiseBy pSieve SIEVE.evRUN_FAILED h
  | none => s

/-! ### Issue (R384, R397, R407) -/

/-- An instruction about to issue: the household and its run, the tile and its context. -/
structure Issue where
  h : Nat
  r : RunSt
  t : Nat
  x : TileSt
  c : LeafSt
  deriving DecidableEq, Repr

/-- The context that a tile issues from, if it may issue: its household's run has started, the tile is not halted, and
its context waits for nothing, neither it has issued nor is it held off on this beat, and it has not faulted (R384, R395, R397,
R414, R686). -/
def State.issuing (s : State) (t : Nat) : Option Issue :=
  let h := s.tileOwner t
  match s.runOf h with
  | none => none
  | some r =>
    let x := s.tl t
    if r.tiles.contains t && r.started && (!x.halted || decide (0 < x.steps)) && decide (x.freeAt ≤ s.tb.beat)
        && !r.faults.any (fun e => e.1 == t) then
      match x.ctxs[x.cur]? with
      | none => none
      | some c => if c.bar.isSome || c.halted || c.popWait || c.dmaWait then none else some ⟨h, r, t, x, c⟩
    else none

/-- The instruction word at a context's PC, or the code of the fetch's fault (R385, R411; log entry 20). -/
def Issue.fetch (i : Issue) : Except Nat Nat :=
  if i.r.codeSize ≤ i.c.pc then .error 2
  else if i.c.pc % 8 ≠ 0 then .error 4
  else .ok (ofLeBytes (i.x.bytes i.c.pc 8))

/-- The enabled breakpoint at a context's PC, if it has not been reported (R407). -/
def State.bpAt (s : State) (i : Issue) : Option Nat :=
  if i.x.passed then none
  else
    (List.range 8).find? (fun k =>
      let p := pTile i.t
      s.on p (TILE.BP_CTRL_EN.at k) && s.fld p (TILE.BP_ADDR_ADDR.at k) * 8 == i.c.pc
        && (s.on p (TILE.BP_CTRL_ANY_LEAF.at k) || s.fld p (TILE.BP_CTRL_LEAF.at k) == i.c.leaf))

/-- The first hit since cleared is recorded in HIT (R407, R408). -/
def State.recordHit (s : State) (t : Nat) (watch : Bool) (k leaf pc : Nat) : State :=
  let p := pTile t
  if s.on p TILE.HIT_VALID then s
  else
    ((((s.setFld p TILE.HIT_VALID 1).setFld p TILE.HIT_WATCH (b2n watch)).setFld p TILE.HIT_INDEX k).setFld p
      TILE.HIT_LEAF leaf).setFld p TILE.HIT_PC pc

/-- The household has the HALT right (R409). -/
def State.haltRight (s : State) (h : Nat) : Bool := bitAt (s.fld pDebug (DEBUG.RIGHTS_HH.at h)) 2

/-- Every tile of a run halts at its next instruction boundary (R409, R686), or only the tile itself during a step
(R687); a tile of the run that already causes the halt keeps the lower number. -/
def State.haltRun (s : State) (h : Nat) (cause t : Nat) : State :=
  match s.runOf h with
  | none => s
  | some r =>
    let ts := if s.on pDebug (DEBUG.RUN_STATUS_STEPPING.at h) then [t] else r.tiles
    let s1 := ts.foldl (fun u n => let x := u.tl n; u.setTl n { x with halted := true, steps := 0 }) s
    let q := match r.haltReq with
      | some (c, m) => some (c, min m t)
      | none => some (cause, t)
    s1.setRun h { r with haltReq := q }

/-- A hit raises its event, and halts the run with ACTION = 1 and the HALT right (R409). -/
def State.hit (s : State) (i : Issue) (watch : Bool) (k : Nat) : State :=
  let p := pTile i.t
  let s1 := (s.recordHit i.t watch k i.c.leaf i.c.pc).raiseBy p (if watch then TILE.evWATCH_HIT else TILE.evBKPT_HIT)
    i.h
  let act := if watch then s1.on p (TILE.WP_CTRL_ACTION.at k) else s1.on p (TILE.BP_CTRL_ACTION.at k)
  if act && s1.haltRight i.h then s1.haltRun i.h (if watch then 3 else 2) i.t else s1

/-- A breakpoint hits and the instruction is not executed; the next issue passes it (R407; log entry 21). -/
def State.bpHit (s : State) (i : Issue) (k : Nat) : State :=
  (s.setTl i.t { i.x with passed := true }).hit i false k

/-- One more instruction of a tile has issued (Table 10.11, R620, R687). -/
def State.issued (s : State) (h t : Nat) : State :=
  let p := pTile t
  let n := s.pair p TILE.T_ISSUED_LO_N TILE.T_ISSUED_HI_N + 1
  let x := s.tl t
  let s1 := (s.setPair p TILE.T_ISSUED_LO_N TILE.T_ISSUED_HI_N n).setTl t
    { x with passed := false, steps := x.steps - 1, freeAt := s.tb.beat + 1, issuedAt := s.tb.beat }
  match s1.runOf h with
  | some r => s1.setRun h { r with active := true }
  | none => s1

/-- Writes the context that an instruction leaves. -/
def State.putCtx (s : State) (i : Issue) (c : LeafSt) : State :=
  let x := s.tl i.t
  s.setTl i.t { x with ctxs := x.ctxs.set i.x.cur c }

/-- The instruction completes: its context is written with the PC moved past it. -/
def State.retire (s : State) (i : Issue) (c : LeafSt) : State := (s.putCtx i { c with pc := c.pc + 8 }).issued i.h i.t

/-- A tile issues nothing until a beat. -/
def State.freeFrom (s : State) (t beat : Nat) : State :=
  let x := s.tl t
  s.setTl t { x with freeAt := max x.freeAt beat }

/-- A tile issues its next instruction, if that is the one with this CLASS and OP: a fetch fault, a breakpoint, a
register field that names no register (ILLEGAL; log entry 20), or the instruction's effect `k`. A tile whose next
instruction is another, or waits for a source register, does nothing (R384). -/
def State.issue (s : State) (t cls op : Nat) (uses : Ins → List Nat) (k : Issue → Ins → State) : State :=
  match s.issuing t with
  | none => s
  | some i =>
    match i.fetch with
    | .error code => s.leafFault i.h t i.c code code
    | .ok w =>
      let n := insOf w
      if n.cls = cls ∧ n.op = op then
        match s.bpAt i with
        | some b => s.bpHit i b
        | none =>
          if (uses n).all (fun r => decide (r < 32)) then
            if i.c.readyFor n s.tb.beat then k { i with c := i.c.marked n s.tb.beat } n else s
          else s.leafFault i.h t i.c 1 1
      else s

/-- An instruction that changes only its context's registers. -/
def State.issueRegs (s : State) (t cls op : Nat) (uses : Ins → List Nat) (f : LeafSt → Ins → LeafSt) : State :=
  s.issue t cls op uses (fun i n => s.retire i (f i.c n))

/-! ### Watchpoints and windows (R408, R411) -/

/-- The watchpoints that an access of window bytes `off` to `off + n - 1` hits, lowest first. -/
def State.watched (s : State) (i : Issue) (off n : Nat) (write : Bool) : List Nat :=
  (List.range 4).filter (fun k =>
    let p := pTile i.t
    s.on p (TILE.WP_CTRL_EN.at k) && decide (0 < n) && decide (s.fld p (TILE.WP_LO_OFF.at k) < off + n)
      && decide (off ≤ s.fld p (TILE.WP_HI_OFF.at k))
      && (s.on p (TILE.WP_CTRL_ANY_LEAF.at k) || s.fld p (TILE.WP_CTRL_LEAF.at k) == i.c.leaf)
      && s.on p (if write then TILE.WP_CTRL_WR.at k else TILE.WP_CTRL_RD.at k))

/-- A completed access hits its watchpoints (R408). -/
def State.watch (s : State) (i : Issue) (off n : Nat) (write : Bool) : State :=
  (s.watched i off n write).foldl (fun t k => t.hit i true k) s

/-- The fault of an access: its alignment, then its window (R411). -/
def Issue.winFault (i : Issue) (off n align : Nat) : Option Nat :=
  if off % align ≠ 0 then some 4 else if 0 < n ∧ i.r.leafSram < off + n then some 3 else none

/-- The SRAM address of a window offset. -/
def Issue.addr (i : Issue) (off : Nat) : Nat := winBase i.r.leafSram i.x.cur + off

/-- A window offset s[RA] + IMM. -/
def Issue.offset (i : Issue) (n : Ins) : Nat := unsg 64 ((i.c.sreg n.ra : Int) + n.imm)

/-! ### Barriers (R397, R400, R401) -/

/-- Every leaf of a run on this chip. -/
def State.leaves (s : State) (r : RunSt) : List LeafSt := r.tiles.flatMap (fun t => (s.tl t).ctxs)

/-- A leaf stands at HALT, or at another barrier (R401). -/
def LeafSt.mismatch (c : LeafSt) (b : Option BarAt) : Bool :=
  match b with
  | none => c.bar.isSome
  | some y => c.halted || (match c.bar with
    | some z => z.cls != y.cls || z.op != y.op
    | none => false)

/-- The next context of a tile that has reached no barrier and not ended (R397). -/
def TileSt.next (x : TileSt) : Option Nat := x.ctxs.findIdx? (fun c => c.bar.isNone && !c.halted)

/-- A leaf reaches a barrier, or HALT (R397, R400, R401): the tile goes on with its next leaf after two beats (Table 10.2),
or waits. -/
def State.reach (s : State) (i : Issue) (b : Option BarAt) : State :=
  if (s.leaves i.r).any (fun c => c.mismatch b) then s.leafFault i.h i.t i.c 9 9
  else
    let c := match b with
      | some y => { i.c with bar := some y, pc := i.c.pc + 8 }
      | none => { i.c with halted := true }
    let s1 := (s.putCtx i c).issued i.h i.t
    let x := s1.tl i.t
    let s2 := match x.next with
      | some k => s1.setTl i.t { x with cur := k, freeAt := if k = x.cur then x.freeAt else s1.tb.beat + 3 }
      | none => (s1.setTl i.t { x with arrived := s1.tb.count }).tileState i.t (if b.isNone then 0 else 3)
    match s2.runOf i.h with
    | none => s2
    | some r =>
      let ls := s2.leaves r
      if ls.all LeafSt.halted then (s2.endRun i.h r 4 0 none).raiseBy pSieve SIEVE.evRUN_DONE i.h
      else if ls.all (fun c => c.bar.isSome) then
        let v := s2.pvOf i.h
        s2.setRun i.h { r with readyAt := s2.tb.count, readyRef := s2.spent i.h, sentRef := v.refSince, sentRty := v.rtySince }
      else s2

/-- The leaves leave their barrier with their registers changed by `f`; each tile resumes with its lowest leaf
(R397). -/
def State.resume (s : State) (r : RunSt) (f : LeafSt → LeafSt) : State :=
  r.tiles.foldl (fun t n =>
    let x := t.tl n
    if x.ctxs.isEmpty then t
    else
      let w := t.tb.count - x.arrived
      let y := { x with
        ctxs := x.ctxs.map (fun c => { f c with bar := none })
        cur := 0
        freeAt := max x.freeAt (t.tb.beat + (if x.cur = 0 then 1 else 3)) }
      ((t.setTl n y).setFld (pTile n) TILE.T_WAIT_BEATS (min 0xFFFFFFFF (t.fld (pTile n) TILE.T_WAIT_BEATS + w))).tileState
        n (if x.halted then 4 else 2)) s

/-! ### The step item (R398, R610, R622, R624) -/

/-- The step-item port's TAKE: the item becomes held, the anchor and the arrival stall are charged, and the record takes
an entry (R468, R622, R624, R626). -/
def State.portTake (s : State) (h : Nat) (r : RunSt) : State :=
  let n := s.slotInQ r.slot
  let s1 := s.takeItem n
  let ref := s.spent h
  let r0 := if r.tried then r else { r with tried := true, takeAt := s.tb.count, takeRef := ref }
  match (s1.q n).heldItem with
  | none => s1.setRun h { r0 with anchor := true }
  | some i =>
    let v := s1.pvOf h
    let s2 := if r0.anchor then
        s1.setPv h { v with
          anchorSid := i.commit - i.stall
          anchorStep := s.slotStep r.slot }
      else s1
    let early := max r0.takeAt (i.commit - i.stall)
    let grid := if early ≤ r0.takeAt then r0.takeAt else r.launched + (early - r.launched + 63) / 64 * 64
    let late := if i.stall = 0 then 0 else s.tb.count - grid - (ref - r0.takeRef)
    ((s2.chargeRty h late).setRun h { r0 with got := true, digested := false, gotAt := s.tb.beat }).recordAppend h r i

/-- The words that a POP copies, and whether one of them is poisoned (R398, R415). -/
def popWords (i : QItem) (start n : Nat) : List Nat × Bool :=
  let ws := (i.words.drop start).take n
  (ws.map QWord.data ++ List.replicate (n - ws.length) 0, ws.any (fun w => w.leaving.poison))

/-- A POP completes on the step item: its words go to the window and the item's length to s[RD] (R398, R411). -/
def State.popFinish (s : State) (i : Issue) (n : Ins) : State :=
  let cnt := n.imm.toNat
  let off := i.c.sreg n.rb
  let item := match s.runOf i.h with
    | some r => s.stepItem r
    | none => none
  let len := match item with
    | some it => it.words.length
    | none => 0
  let pw := match item with
    | some it => popWords it (i.c.sreg n.ra) cnt
    | none => (List.replicate cnt 0, false)
  let x := s.tl i.t
  let s1 := s.setTl i.t (x.put (i.addr off) (wordsLe pw.1))
  let s2 := s1.retire i (({ i.c with popWait := false }.marked n s.tb.beat).setS n.rd len)
  let s3 := if pw.2 then
      let t := s2.raiseBy (pTile i.t) TILE.evPOISON_IN i.h
      match t.runOf i.h with
      | some r => t.setRun i.h { r with poison := if r.poison.contains i.c.leaf then r.poison else i.c.leaf :: r.poison }
      | none => t
    else s2
  s3.watch i off (8 * cnt) true

/-! ### Reduction trees (R402, R403) -/

/-- One level of a tree: adjacent pairs, an odd last value carried up. -/
def treeLevel (f : Nat → Nat → Nat) : List Nat → List Nat
  | x :: y :: r => f x y :: treeLevel f r
  | l => l

/-- The tree over a list; `n` levels are enough for 2^n values. -/
def treeOf (f : Nat → Nat → Nat) : Nat → List Nat → Nat
  | 0, l => nth 0 l 0
  | n + 1, l => treeOf f n (treeLevel f l)

/-- The operation of a RED code on 32-bit lanes or, for integer SRED, on 64 bits (R388, R390, Table 10.4). -/
def redOp (code w a b : Nat) : Nat :=
  match code with
  | 0 => (a + b) % 2 ^ w
  | 1 => fpAdd (a % 2 ^ 32) (b % 2 ^ 32)
  | 2 => if sgn w a < sgn w b then b else a
  | 3 => if sgn w b < sgn w a then b else a
  | 4 => fpMax (a % 2 ^ 32) (b % 2 ^ 32)
  | _ => fpMin (a % 2 ^ 32) (b % 2 ^ 32)

/-- Combines the operands of several leaves or chips, lane by lane (R402, R403). -/
def combine (op : Nat) (vals : List (List Nat)) : List Nat :=
  let scalar := 0x10 ≤ op
  let lanes := if scalar then 1 else 16
  (List.range lanes).map (fun l => treeOf (redOp (op % 16) (if scalar then 64 else 32)) 7 (vals.map (fun v => nth 0 v l)))

end Sys2Proof.Machine
end

