-- ==== Sys2Proof/Machine/Fabric.lean ====
section
/-!
DEFINITION. The Commons fabric above the link (Chapter 14): remote requests and their responses, items, events,
discovery's frames, and the module management bus.
-/

namespace Sys2Proof.Machine

/-! ### Remote requests (R556, R557) -/

/-- The FABP agent of a port. -/
def fabAgent (k : Nat) : Nat := agentKey (fabRouter k) (k % 2)

/-- The port of a FABP agent. -/
def portOfAgent (ak : Nat) : Option Nat := (List.range 4).find? (fun k => fabAgent k == ak)

/-- The node that serves a local address: a populated target's own, node 37 for any other (R159, R454, Tables 5.1, 5.2). -/
def State.nodeFor (s : State) (a : Nat) : Nat :=
  if s.dramMapped a 1 then (if s.dramChan a = 0 then 0 else 32)
  else if 0x1000000000 ≤ a ∧ a < 0x1001000000 then
    let t := (a - 0x1000000000) / 0x40000
    if (s.blk (pTile t)).isSome then s.tileNode t else 37
  else if 0x2000000000 ≤ a ∧ a < 0x2000200000 then
    let p := (a - 0x2000000000) / 4096
    if (s.blk p).isSome then pageNode s p else 37
  else if 0x3000000000 ≤ a ∧ a < 0x3000200000 then (if (a - 0x3000000000) / 0x2000 < 128 then 18 else 19)
  else if 0x3800000000 ≤ a ∧ a < 0x3800100000 then 29
  else 37

/-- Puts POISON on the flits of a packet that carry data. -/
def poisonFlits (p : Bool) (fs : List Flit) : List Flit := fs.map (fun f => if f.typ = 1 then f else { f with poison := p })

/-- Serves one frame that waits at a FABP agent, if it can be injected now (R556): a response and an item at once, a
request that asks for a response when a slot is free. -/
def State.injectFrame (s : State) (x : InReq) : Option State :=
  let f := x.frame
  let ws := f.words
  let w0 := nth 0 ws 0
  let w1 := nth 0 ws 1
  let n := bitsOf w0 48 44
  let r := fabRouter x.port
  let ak := fabAgent x.port
  if bitsOf w0 51 50 = 1 then
    let hdr := [s.sendW0 r w0 n, (x.port % 2) * 2 ^ 61 + w1 % 2 ^ 61, nth 0 ws 2, nth 0 ws 3]
    some (s.offer ak (vcOf 1 (bitsOf w0 49 49)) (poisonFlits f.poison (packetFlits hdr (dataFlits n (ws.drop 4)))))
  else
    let asks := [1, 2, 4, 6].contains (bitsOf w0 43 40)
    let slot := (List.range 32).find? (fun t => (Tab.lookup s.noc.slots (256 * ak + t)).isNone)
    match asks, slot with
    | true, none => none
    | _, _ =>
      let t := slot.getD 0
      let dst := s.nodeFor (bitsOf w1 37 0)
      let v := dst * 2 ^ 58 + bitsOf w0 51 40 * 2 ^ 40 + f.hh % 16 * 2 ^ 36 + 2 * 2 ^ 33 + (if asks then t else 0) * 2 ^ 24
      let hdr := [s.sendW0 r v n, (x.port % 2) * 2 ^ 61 + w1 % 2 ^ 58, nth 0 ws 2, nth 0 ws 3]
      let s1 : State := if asks then
          { s with
            noc := { s.noc with slots := Tab.insert s.noc.slots (256 * ak + t) ⟨dst, false, f.hh % 16, s.tb.beat⟩ }
            fab := { s.fab with remote := Tab.insert s.fab.remote (256 * ak + t) ⟨f.src, f.hh, w0, w1⟩ } }
        else s
      some (s1.offer ak (vcOf 0 (bitsOf w0 49 49)) (poisonFlits f.poison (packetFlits hdr (dataFlits n (ws.drop 4)) true)))

/-- An item at its destination, once its policer has let it pass (R558, R548, R622): sent whole as PUSH_NR packets with the
FABP agent as producer. -/
def State.itemIn (s : State) (k : Nat) (f : Frame) : State :=
  let q := f.arg2 % 256
  let sc := f.vc % 2
  let ps := pushPieces (if sc = 1 then 28 else 64) f.words
  (ps.zipIdx).foldl (fun (t : State) e =>
    let last := e.2 + 1 == ps.length
    t.offer (fabAgent k) sc (poisonFlits f.poison (t.pushPacket (fabRouter k)
      ⟨nodeOf (fabRouter k), k % 2, 2, f.hh⟩ q 5 sc 0 e.1 last (if f.replayed then f.age else 0)))) s

/-- A push by a FABP agent that its queue has refused or denied is counted (R558). -/
def State.itemDenied (s : State) (q hh : Nat) (served : Bool) : State :=
  let out := bitsOf (s.fld (qPage q) (QEH.PUSH_STATUS_S.at (q % 32))) 15 12
  if served && out != 5 && out != 6 then s
  else (s.raiseBy pFab FAB.evITEM_DENIED hh).bump pFab FAB.ITEM_DENIED_COUNT

/-- An event that has come to port `k` (R598, R600): a segment goes to EPHEM as a timed event of the NoC (Table 11.4). -/
def State.eventIn (s : State) (k : Nat) (f : Frame) : State :=
  if f.arg2 % 16 = 0xC then s.offerSegment (fabRouter k) (k % 2) 3 0 ⟨f.words⟩
  else if f.arg2 % 16 = 0xE then s.almEvent f
  else s.handEvent f

/-- Delivers a frame that waits, if it can be. -/
def State.deliverHeld (s : State) (x : InReq) : Option State :=
  if s.nocMoves then
    match x.frame.kind with
    | 1 => s.injectFrame x
    | 2 => some (s.itemIn x.port x.frame)
    | _ => some (s.eventIn x.port x.frame)
  else none

/-- The frames of a port that wait first in their channels. -/
def heads (k : Nat) : List InReq → List Nat → List InReq
  | [], _ => []
  | x :: xs, seen =>
    if x.port = k ∧ seen.contains x.frame.vc = false then x :: heads k xs (x.frame.vc :: seen) else heads k xs seen

/-- Serves one waiting frame of a port, if any can be delivered now; its credit is returned (R549, R556). -/
def State.serveInbound (s : State) (k : Nat) : State :=
  match (heads k s.fab.inbound []).findSome? (fun x => (s.deliverHeld x).map (fun t => (x, t))) with
  | none => s
  | some (x, t) =>
    let s1 : State := { t with fab := { t.fab with inbound := t.fab.inbound.filter (fun y => y.place != x.place) } }
    s1.freeUnused

/-- A frame for this device enters its FABP agent. -/
def State.toAgent (s : State) (k n : Nat) (f : Frame) : State :=
  let x : InReq := ⟨k, f, n⟩
  ({ s with fab := { s.fab with inbound := s.fab.inbound ++ [x] } }).serveInbound k

/-- TRANSPORT_RECEIVE (R556). -/
def execTransportReceive (k : Fin 4) (f : Frame) (s : State) : Host.Outcome State Fault Refusal :=
  if frameFor f (f.kind == 1) then
    .next (s.linkAccept k f (fun t n => t.above k n f (fun u => u.toAgent k n f)))
  else .next s

/-- FABP_REQUEST_INJECT (R556): the first frame that waits at a port's agent and can be delivered. -/
def execFabpRequestInject (k : Fin 4) (s : State) : Host.Outcome State Fault Refusal := .next (s.serveInbound k)

/-- ITEM_FRAME_RECEIVE (R558). -/
def execItemFrameReceive (k : Fin 4) (f : Frame) (s : State) : Host.Outcome State Fault Refusal :=
  if frameFor f (f.kind == 2) then
    .next (s.linkAccept k f (fun t n => t.above k n f (fun u => u.toAgent k n f)))
  else .next s

/-- SEGMENT_FRAME_RECEIVE: an EVENT frame other than ALMANAC (R555, R600). -/
def execSegmentFrameReceive (k : Fin 4) (f : Frame) (s : State) : Host.Outcome State Fault Refusal :=
  if frameFor f (f.kind == 3 && f.arg2 % 16 != 0xE) then
    .next (s.linkAccept k f (fun t n => t.above k n f (fun u => u.toAgent k n f)))
  else .next s

/-- An ALMANAC event frame with an OP (R597 to R599). -/
def State.almFrameIn (s : State) (k : Nat) (f : Frame) (op : Nat) : State :=
  if frameFor f (f.kind == 3 && f.arg2 % 16 == 0xE && f.bytesAt 1 1 == op) then
    s.linkAccept k f (fun t n => t.above k n f (fun u => u.toAgent k n f))
  else s

/-- ALM_DIST_ARM_RECEIVE (R598). -/
def execAlmDistArmReceive (k : Fin 4) (f : Frame) (s : State) : Host.Outcome State Fault Refusal :=
  .next (s.almFrameIn k f 0)

/-- ALM_DIST_CANCEL_RECEIVE (R598). -/
def execAlmDistCancelReceive (k : Fin 4) (f : Frame) (s : State) : Host.Outcome State Fault Refusal :=
  .next (s.almFrameIn k f 1)

/-- ALM_DIST_ACK_RECEIVE (R598). -/
def execAlmDistAckReceive (k : Fin 4) (f : Frame) (s : State) : Host.Outcome State Fault Refusal :=
  .next (s.almFrameIn k f 2)

/-- ALM_RESEND_REQ_RECEIVE (R599). -/
def execAlmResendReqReceive (k : Fin 4) (f : Frame) (s : State) : Host.Outcome State Fault Refusal :=
  .next (s.almFrameIn k f 3)

/-- A request that its FABP agent carries to another device (R556): a TRANSPORT frame to the device that the address
names. -/
def State.carryRequest (s : State) (p : List Flit) : State :=
  match p with
  | [] => s
  | h :: ds =>
    let w0 := h.word 0
    let ws := h.words ++ ds.flatMap Flit.words
    s.sendRouted { Frame.blank with
      kind := 1, vc := vcOf (bitsOf w0 51 50) (bitsOf w0 49 49), poison := ds.any Flit.poison
      dst := bitsOf (h.word 1) 47 38, hh := bitsOf w0 39 36, payload := ws.flatMap (leBytes 8) }

/-- An agent answers a request; WRITE_NR and PUSH_NR have no answer. -/
def State.reply (s : State) (r agent w0 w1 status : Nat) (data : List Nat) : State :=
  let fs := s.replyFlits r agent w0 w1 status data
  if fs.isEmpty then s else s.offer (agentKey r agent) (vcOf 1 (bitsOf w0 49 49)) fs

/-- UNROUTABLE_REQUEST: the FAB agent answers with DECODE and zero data (R557). The words are the request's header. -/
def execUnroutableRequest (w0 w1 : BitVec 64) (s : State) : Host.Outcome State Fault Refusal :=
  .next ((s.unroutable (bitsOf w0.toNat 39 36)).reply 5 0 w0.toNat w1.toNat 2 (zeroData w0.toNat w1.toNat))

/-- A whole response at a node interface goes to its requester's slot; a FABP agent carries it on to
the requester's device (R435, R556). -/
def State.responseArrive (s : State) (r : Nat) (timed : Bool) : State :=
  match s.takePacket r (if timed then 3 else 2) with
  | none => s
  | some (p, t) =>
    let key := match p with
      | [] => 0
      | h :: _ => 256 * agentKey r (bitsOf (h.word 1) 60 58) + bitsOf (h.word 0) 31 24
    match Tab.lookup t.noc.slots key, Tab.lookup t.fab.remote key with
    | some x, some q =>
      let u := t.response r p
      let v : State := { u with resp := t.resp, fab := { u.fab with remote := Tab.erase u.fab.remote key } }
      if x.quarantined || t.slotExpired x then v else v.returnResponse q p
    | _, _ => (t.response r p).rxPumps r

/-- RESPONSE_ARRIVE (R435, R556). -/
def execResponseArrive (r : Fin 30) (timed : Bool) (s : State) : Host.Outcome State Fault Refusal :=
  .next (s.responseArrive r timed)

/-! ### Discovery's frames (R559 to R567) -/

/-- A DISC frame with a SUB, at a device whose DISC page is enabled. -/
def State.discIn (s : State) (k : Nat) (f : Frame) (sub : Nat) (deliver : State → State) : State :=
  if frameFor f (f.kind == 4 && f.arg2 % 16 == sub) then
    s.linkAccept k f (fun t n => t.above k n f (fun u => if u.enabled pDisc then deliver u else u))
  else s

/-- ANNOUNCE_SEND: every 2^ANN_EXP st; the root counts ROOT_SEQ (R559, R560). -/
def execAnnounceSend (s : State) : Host.Outcome State Fault Refusal :=
  if s.enabled pDisc && s.annPassed s.disc.annAt 1 then
    let s1 := ({ s with disc := { s.disc with annAt := s.tb.beat } }).elect false
    let s2 := if s1.on pDisc DISC.DISC_STATUS_IS_ROOT then s1.incr pDisc DISC.ROOT_INFO_ROOT_SEQ else s1
    .next s2.announce
  else .next s

/-- An ANNOUNCE is kept, with the newest ROOT_SEQ of its root, and the choice is made again (R560). -/
def State.announceIn (s : State) (k : Nat) (f : Frame) : State :=
  let a : Announce := ⟨f.bytesAt 0 8, f.bytesAt 8 1, f.bytesAt 9 1, f.bytesAt 10 2, f.bytesAt 12 8, f.bytesAt 20 8,
    f.bytesAt 28 1, s.tb.beat⟩
  let newest := match Tab.lookup s.disc.seqs a.rootId with
    | some n => if (a.rootSeq + 2 ^ 16 - n) % 2 ^ 16 < 2 ^ 15 then a.rootSeq else n
    | none => a.rootSeq
  let s1 : State := { s with disc := { s.disc with
    anns := Tab.insert s.disc.anns k a, seqs := Tab.insert s.disc.seqs a.rootId newest } }
  let s2 := (s1.setFld (pFabp k) FABP.LINK_STATUS_PARTNER_DEV (f.bytesAt 30 2)).setFld (pFabp k)
    FABP.LINK_STATUS_PARTNER_NUM_VALID (bitsOf (f.bytesAt 29 1) 1 1)
  s2.showTree.elect false

/-- ANNOUNCE_RECEIVE (R560). -/
def execAnnounceReceive (k : Fin 4) (f : Frame) (s : State) : Host.Outcome State Fault Refusal :=
  .next (s.discIn k f 0 (fun t => t.announceIn k f))

/-- ROOT_HOLD periods have passed without a usable ANNOUNCE (R561). -/
def State.holdOver (s : State) : Bool :=
  match s.disc.holdFrom with
  | some t => s.annPassed t (s.fld pDisc DISC.DISC_TIMING_ROOT_HOLD)
  | none => false

/-- ROOT_HOLD_EXPIRE (R561, R570): DISC_NO_ROOT is raised once for a lack of a root. -/
def execRootHoldExpire (s : State) : Host.Outcome State Fault Refusal :=
  let s0 := s.noteHold
  if !s.enabled pDisc ∨ s.disc.hasRoot ∨ s0.holdOver = false then .next s
  else
    let t := s0.elect true
    if t.disc.hasRoot ∨ t.disc.noRoot then .next t
    else .next (({ t with disc := { t.disc with noRoot := true } }).raise pDisc DISC.evDISC_NO_ROOT)

/-- TREE_STABLE, SETTLE_N periods after the last change (R562 to R564): the root numbers itself; any other device sends
JOIN. -/
def execTreeStable (s : State) : Host.Outcome State Fault Refusal :=
  if !s.enabled pDisc ∨ s.disc.hasRoot = false ∨ s.fld pDisc DISC.DISC_STATUS_STATE ≠ 1
      ∨ s.annPassed s.disc.changedAt (s.fld pDisc DISC.DISC_TIMING_SETTLE_N) = false then .next s
  else
    let t := (s.setFld pDisc DISC.DISC_STATUS_STATE 2).raise pDisc DISC.evTREE_STABLE
    if t.on pDisc DISC.DISC_STATUS_IS_ROOT then .next t.numberSelf else .next t.join

/-- JOIN_SEND: at least every 64 ANNOUNCE periods (R563). -/
def execJoinSend (s : State) : Host.Outcome State Fault Refusal :=
  .next (if s.annPassed s.disc.joinAt 64 then s.join else s)

/-- Replaces bytes of a payload from byte `i`. -/
def putBytes (p : List Byte) (i : Nat) (b : List Byte) : List Byte := p.take i ++ b ++ p.drop (i + b.length)

/-- The neighbours that a JOIN lists, by port (Table 14.7). -/
def joinNbrs (f : Frame) : List (Option Nat) :=
  (List.range 4).map (fun k => if f.bytesAt (24 + 12 * k) 1 = 4 then some (f.bytesAt (28 + 12 * k) 8) else none)

/-- The ASSIGN that answers a JOIN (Table 14.7). -/
def assignFrame (f : Frame) (n : Option Nat) : Frame :=
  discFrame 2 0 0 (leBytes 8 (f.bytesAt 0 8) ++ leBytes 2 (n.getD (2 ^ 15)) ++ leBytes 1 (f.bytesAt 10 1) ++ leBytes 5 0
    ++ leBytes 8 (f.bytesAt 16 8))

/-- A JOIN at the root: a number, and the table of devices (R564). -/
def State.joinAtRoot (s : State) (k : Nat) (f : Frame) : State :=
  let d : RootDev := ⟨f.bytesAt 0 8, f.bytesAt 9 1, joinNbrs f, s.tb.beat⟩
  let r := s.assignNum d.ident (f.bytesAt 12 2)
  let others := s.disc.devices.filter (fun x => x.ident != d.ident)
  let same := s.disc.devices.any (fun x => x.ident == d.ident && x.depth == d.depth && x.nbrs == d.nbrs)
  let s1 : State := { s with disc := { s.disc with binds := r.2 } }
  let s2 : State := if r.1.isNone then s1
    else { s1 with disc := { s1.disc with
      devices := others ++ [d], dirty := s1.disc.dirty || !same, dirtyAt := if same then s1.disc.dirtyAt else s.tb.beat } }
  s2.sendLocal k (assignFrame f r.1)

/-- A JOIN in transit carries the port it came in on (R563). -/
def State.joinIn (s : State) (k : Nat) (f : Frame) : State :=
  if s.on pDisc DISC.DISC_STATUS_IS_ROOT then s.joinAtRoot k f
  else
    let h := f.bytesAt 10 1
    let path := f.bytesAt 16 8 ||| k * 2 ^ (2 * h)
    if 32 ≤ h then s
    else s.sendLocal s.rootPort
      (discFrame 1 0 0 (putBytes (putBytes f.payload 10 (leBytes 1 (h + 1))) 16 (leBytes 8 path)))

/-- JOIN_RECEIVE (R563, R564). -/
def execJoinReceive (k : Fin 4) (f : Frame) (s : State) : Host.Outcome State Fault Refusal :=
  .next (s.discIn k f 1 (fun t => t.joinIn k f))

/-- JOIN_EXPIRE (R564): a device whose JOIN has not been refreshed for 4 JOIN periods, each of 64 ANNOUNCE periods, leaves the
root's table; its binding stays. -/
def execJoinExpire (ident : BitVec 64) (s : State) : Host.Outcome State Fault Refusal :=
  if s.disc.devices.any (fun d => d.ident == ident.toNat && s.annPassed d.at_ 256) then
    .next { s with disc := { s.disc with
      devices := s.disc.devices.filter (fun d => d.ident != ident.toNat), dirty := true, dirtyAt := s.tb.beat } }
  else .next s

/-- An ASSIGN goes down by its PATH, or sets this device's number (R563, R564). -/
def State.assignIn (s : State) (f : Frame) : State :=
  let h := f.bytesAt 10 1
  if 0 < h then
    s.sendLocal (bitsOf (f.bytesAt 16 8) (2 * (h - 1) + 1) (2 * (h - 1)))
      (discFrame 2 0 0 (putBytes f.payload 10 (leBytes 1 (h - 1))))
  else if f.bytesAt 0 8 ≠ s.myId then s
  else if bitAt (f.bytesAt 8 2) 15 then s.raise pDisc DISC.evDISC_REFUSED
  else s.takeNum (f.bytesAt 8 2 % 1024)

/-- ASSIGN_RECEIVE (R563). -/
def execAssignReceive (k : Fin 4) (f : Frame) (s : State) : Host.Outcome State Fault Refusal :=
  .next (s.discIn k f 2 (fun t => t.assignIn f))

/-- The root sends a new map; with no other device in it, the tables are active at once (R565). -/
def State.mapSettle (s : State) : State :=
  if !s.enabled pDisc || !s.on pDisc DISC.DISC_STATUS_IS_ROOT || !s.numValid || !s.disc.dirty
      || !s.annPassed s.disc.dirtyAt (s.fld pDisc DISC.DISC_TIMING_SETTLE_N) then s
  else
    let e := (s.fld pRoute ROUTE.RT_STATUS_STAGED_EPOCH + 1) % 2 ^ 16
    let m := s.rootMap
    let want := (m.map MapEntry.dev).filter (fun d => d != s.devNum)
    let s1 := s.stage e m
    let s2 : State := { s1 with disc := { s1.disc with dirty := false, acks := some want, mapAt := s.tb.beat } }
    let s3 := (mapFrames e m.length 0 m 2).foldl (fun t f => t.downTree f) s2
    if want.isEmpty then s3.rootActivate else s3

/-- A command brings a JOIN. -/
def bringsJoin (c : Instr) : Bool :=
  match c with
  | .joinReceive _ _ => true
  | _ => false

/-- MAP_SETTLE (R565), SETTLE_N periods after the last change of the table; a JOIN of its beat comes first (Table 14.8). -/
def execMapSettle (s : State) : Host.Outcome State Fault Refusal := .next (s.after .mapSettle bringsJoin s.mapSettle)

/-- The entries of a MAP frame (Table 14.7). -/
def mapOf (f : Frame) : List MapEntry :=
  (List.range (bitsOf f.arg3 26 16)).map (fun i =>
    ⟨f.bytesAt (12 * i) 2, f.bytesAt (12 * i + 2) 1, (List.range 4).map (fun k => f.bytesAt (12 * i + 4 + 2 * k) 2)⟩)

/-- MAP_ACK goes to the root by the staged tables (R565, R567). -/
def State.mapAck (s : State) : State :=
  let root := rootNum s.disc.stagedMap
  let r := Tab.get Route.none s.disc.staged root
  let e := s.fld pRoute ROUTE.RT_STATUS_STAGED_EPOCH
  let f := { discFrame 4 e 0 [] with dst := root, src := s.devNum, epoch := e % 16 }
  if r.up < 4 then s.toPort r.up 4 none f (s.downHopIn s.disc.stagedMap r.up) else s.unroutable f.hh

/-- A MAP frame is passed on to the child ports; the last entry of its epoch stages the tables (R565). -/
def State.mapIn (s : State) (f : Frame) : State :=
  let e := bitsOf f.arg2 31 16
  let s1 := s.downTree { f with seq := 0, ack := 0, ackV := false, nak := false, replayed := false, age := 0 }
  let old := if s1.disc.rxEpoch = e ∧ s1.disc.rxTotal = bitsOf f.arg3 42 32 then s1.disc.rxMap else []
  let new := mapOf f
  let m := old.filter (fun x => !new.any (fun y => y.dev == x.dev)) ++ new
  let s2 : State := { s1 with disc := { s1.disc with rxEpoch := e, rxTotal := bitsOf f.arg3 42 32, rxMap := m } }
  if m.length = bitsOf f.arg3 42 32 then (s2.stage e m).mapAck else s2

/-- MAP_RECEIVE (R565). -/
def execMapReceive (k : Fin 4) (f : Frame) (s : State) : Host.Outcome State Fault Refusal :=
  .next (s.discIn k f 3 (fun t => t.mapIn f))

/-- A MAP_ACK at the root; the last one sends ACTIVATE (R565). -/
def State.mapAckIn (s : State) (f : Frame) : State :=
  match s.disc.acks with
  | none => s
  | some l =>
    if bitsOf f.arg2 31 16 ≠ s.fld pRoute ROUTE.RT_STATUS_STAGED_EPOCH then s
    else
      let rest := l.filter (fun d => d != f.src)
      if rest.isEmpty then s.rootActivate else { s with disc := { s.disc with acks := some rest } }

/-- MAP_ACK_RECEIVE (R565). -/
def execMapAckReceive (k : Fin 4) (f : Frame) (s : State) : Host.Outcome State Fault Refusal :=
  .next (s.discIn k f 4 (fun t => t.mapAckIn f))

/-- MAP_ACK_TIMEOUT: 2^24 st after the first MAP frame (R565). -/
def execMapAckTimeout (s : State) : Host.Outcome State Fault Refusal :=
  match s.disc.acks with
  | none => .next s
  | some _ =>
    if s.disc.mapAt + 2 ^ 24 ≤ s.tb.beat then .next (s.raise pDisc DISC.evDISC_ACK_MISSING).rootActivate else .next s

/-- ACTIVATE_RECEIVE (R567): passed on down the tree, and the staged tables of its epoch are installed. -/
def execActivateReceive (k : Fin 4) (f : Frame) (s : State) : Host.Outcome State Fault Refusal :=
  .next (s.discIn k f 5 (fun t =>
    let e := bitsOf f.arg2 31 16
    let u := t.downTree (discFrame 5 e 0 [])
    if u.fld pRoute ROUTE.RT_STATUS_STAGED_EPOCH = e then u.activate else u))

/-! ### Segments sent, module management (R215, R600, R577) -/

/-- EPHEM_PUBLISH, a tick after the fit instant: the formed segment goes to the master's own line unit and toward the fabric: down the enabled child
ports from the root, toward the root from any other device (R215, R600). -/
def execEphemPublish (s : State) : Host.Outcome State Fault Refusal :=
  match s.ln.eph.formed with
  | none => .next s
  | some g =>
    if g.word 6 = s.tb.count then .next s
    else
    let s1 := ({ s with ln := { s.ln with eph := { s.ln.eph with formed := none } } }).acceptSegment g
    let f := { Frame.blank with
      kind := 3, vc := 5, bcast := true, hh := 0xF, arg2 := 0xC, payload := g.words.flatMap (leBytes 8)
      dst := s1.fld pConst CONST.CONST_STATUS_ROOT_DEV, src := s1.devNum, epoch := s1.activeEpoch % 16 }
    if !s1.numValid then .next s1
    else if s1.on pDisc DISC.DISC_STATUS_IS_ROOT then
      .next ((s1.childPorts.filter (bitAt (s1.fld pConst CONST.EPH_PORT_EN_EN))).foldl
        (fun t p => t.toPort p 4 none f (t.downHop p)) s1)
    else .next (s1.sendRouted f)

/-- A served write of a FAB register; GO starts a transaction unless one is running (Table 14.11). -/
def State.fabWrite (s : State) (off w : Nat) : State :=
  if off = 0x118 then
    let s1 := s.writeFields pFab [FAB.I2C_CTRL_READ, FAB.I2C_CTRL_FAST, FAB.I2C_CTRL_LEN_M1, FAB.I2C_CTRL_ADDR,
      FAB.I2C_CTRL_REG] w
    if bitAt w 31 && !s.on pFab FAB.I2C_CTRL_BUSY then
      ((s1.setFld pFab FAB.I2C_CTRL_BUSY 1).setFld pFab FAB.I2C_CTRL_NACK 0).send "I2C" (bitsOf w 22 16)
        [bitsOf w 15 8, bitsOf w 25 24 + 1, bitsOf w 28 28, bitsOf w 27 27, s1.fld pFab FAB.I2C_DATA_DATA]
    else s1
  else s.writeFields pFab (s.fieldsOf pFab off) w

/-- I2C_GO: a write of I2C_CTRL with GO = 1 (Table 14.11). -/
def execI2cGo (a : Acc) (w : Word) (s : State) : Host.Outcome State Fault Refusal :=
  .next (s.mgrAccess (.i2cGo a w) a pFab 0x118 (fun t => t.fabWrite 0x118 (setBit w.toNat 31)))

/-- I2C_DONE (Table 14.11): `data` is what a read brought. -/
def execI2cDone (nack : Bool) (data : Word) (s : State) : Host.Outcome State Fault Refusal :=
  if s.on pFab FAB.I2C_CTRL_BUSY then
    let s1 := (s.setFld pFab FAB.I2C_CTRL_BUSY 0).setFld pFab FAB.I2C_CTRL_NACK (b2n nack)
    let n := s1.fld pFab FAB.I2C_CTRL_LEN_M1 + 1
    let s2 := if s1.on pFab FAB.I2C_CTRL_READ && !nack then
        s1.setFld pFab FAB.I2C_DATA_DATA (data.toNat % 2 ^ (8 * n))
      else s1
    .next (s2.raise pFab (if nack then FAB.evI2C_ERR else FAB.evI2C_DONE))
  else .next s

/-- A served write of a DISC register (R571); PRIORITY is read only with strap CFG4. -/
def State.discWrite (s : State) (off w : Nat) : State :=
  if off = 0x100 then
    let fs := [DISC.DISC_CFG_NUM_REQ, DISC.DISC_CFG_NUM_REQ_EN]
    s.writeFields pDisc (if s.eligible then DISC.DISC_CFG_PRIORITY.clamped 0 0xFE 0 :: fs else fs) w
  else if off = 0x104 then
    s.writeFields pDisc [DISC.DISC_TIMING_ANN_EXP.clamped 16 24 0, DISC.DISC_TIMING_SETTLE_N.clamped 1 15 0,
      DISC.DISC_TIMING_ROOT_HOLD.clamped 1 15 0] w
  else s.writeFields pDisc (s.fieldsOf pDisc off) w

/-- What DISC_CFG reads (Table 14.11): PRIORITY is 0xFF with strap CFG4. -/
def State.discView (s : State) (off : Nat) : Option Nat :=
  if off = 0x100 then
    some (s.myPrio * 2 ^ 24 + s.fld pDisc DISC.DISC_CFG_NUM_REQ * 2 ^ 8 + s.fld pDisc DISC.DISC_CFG_NUM_REQ_EN)
  else none

/-- DISC.PAGE_CTRL.EN has been set or cleared (R559, Table 14.11). -/
def State.discEnable (s : State) : State :=
  if s.enabled pDisc then
    if s.fld pDisc DISC.DISC_STATUS_STATE = 0 then
      (({ s with disc := { s.disc with
        annAt := s.tb.beat, holdFrom := none, changedAt := s.tb.beat, noRoot := false } }).setFld pDisc
        DISC.DISC_STATUS_STATE 1).elect false
    else s
  else
    let s0 := s.takeChoice none
    let s1 : State := { s0 with disc := { s0.disc with anns := [] } }
    ((s1.setNum false s1.devNum).setFld pDisc DISC.DISC_STATUS_STATE 0).showTree

end Sys2Proof.Machine
end

