-- ==== Sys2Proof/Machine/HostIf.lean ====
section
/-!
DEFINITION. The PCIe endpoint's part of Chapter 17: functions and configuration requests, MSI-X, egress rings,
mailboxes, and the registers of the HOST and HH pages.
-/

namespace Sys2Proof.Machine

/-! ### Functions and MSI-X (R638, R640, R646) -/

/-- A function: 0 the PF, k the VF k. -/
def State.func (s : State) (f : Nat) : FuncSt := Tab.get FuncSt.reset s.host.funcs f

/-- Writes a function. -/
def State.setFunc (s : State) (f : Nat) (x : FuncSt) : State :=
  { s with host := { s.host with funcs := Tab.set FuncSt.reset s.host.funcs f x } }

/-- The function exists (R640). -/
def State.funcExists (s : State) (f : Nat) : Bool := f == 0 || (s.host.vfEnable && decide (f ≤ s.host.numVfs))

/-- The function of a household code (R640). -/
def funcOf (hh : Nat) : Nat := if hh < 8 then hh + 1 else 0

/-- Bus Master Enable of a function that exists. -/
def State.busMaster (s : State) (f : Nat) : Bool := s.funcExists f && (s.func f).bme

/-- The endpoint is enabled by strap CFG2 and its link is up (R667). -/
def State.hostUp (s : State) : Bool := s.host.linkUp && !bitAt (s.fld pDevice DEVICE.STRAP_CFG) 2

/-- A vector of a function. -/
def FuncSt.vec (x : FuncSt) (v : Nat) : MsixVec := Tab.get MsixVec.reset x.vecs v

/-- The function may send messages on a vector. -/
def FuncSt.mayMsg (x : FuncSt) (v : Nat) : Bool := x.bme && x.msix && !x.fmask && !(x.vec v).mask

/-- A source signals a vector of a function (R646): the message is sent, or its pending bit is set; a household reset
sends none (Table 17.11). -/
def State.signal (s : State) (f v : Nat) : State :=
  if s.funcExists f && !(decide (0 < f) && s.hhReset.contains (f - 1)) then
    let x := s.func f
    if x.mayMsg v then s.send "MSIX" (x.vec v).addr [f, v, (x.vec v).data]
    else s.setFunc f { x with pend := setBit x.pend v }
  else s

/-- The pending messages of a function that nothing masks any more are sent, in the order of their vectors (R646). -/
def State.flushMsgs (s : State) (f : Nat) : State :=
  ((maskBits 64 (s.func f).pend).filter (s.func f).mayMsg).foldl (fun t v =>
    let x := t.func f
    (t.setFunc f { x with pend := clrBit x.pend v }).send "MSIX" (x.vec v).addr [f, v, (x.vec v).data]) s

/-- MSIX_UNMASK (R646). -/
def execMsixUnmask (f : Fin 9) (what : Unmask) (s : State) : Host.Outcome State Fault Refusal :=
  if s.funcExists f then
    let x := s.func f
    let y : FuncSt := match what with
      | .vector v => { x with vecs := Tab.set MsixVec.reset x.vecs v { x.vec v with mask := false } }
      | .function => { x with fmask := false }
      | .busMaster => { x with bme := true }
    .next ((s.setFunc f y).flushMsgs f)
  else .next s

/-- VF Enable and NumVFs: VFs that no longer exist lose their configuration (R640). -/
def State.setVfs (s : State) (en : Bool) (n : Nat) : State :=
  { s with host := { s.host with
      vfEnable := en
      numVfs := n
      funcs := Tab.keep (fun f => f == 0 || (en && decide (f ≤ n))) s.host.funcs } }

/-- What a configuration request does to its function (Table 17.2, R646). -/
def State.config (s : State) (f : Nat) (req : CfgReq) : State :=
  let x := s.func f
  match req with
  | .ids => s.answer (if f = 0 then [0x1F3A, if s.si.is9656 then 0x9656 else 0x9664, 0x118000, s.si.factoryId]
      else [0x1F3A, 0x96F0, 0x118000])
  | .busMaster on => ((s.setFunc f { x with bme := on }).answer []).flushMsgs f
  | .msix en mask => ((s.setFunc f { x with msix := en, fmask := mask }).answer []).flushMsgs f
  | .vfs en n => if f = 0 then (s.setVfs en n).answer [] else s.answer []
  | .payload c => if f = 0 then { s.answer [] with host := { s.host with mps := 128 * 2 ^ c.val } } else s.answer []
  | .aer clear =>
    let t := s.answer [b2n s.host.aerMalformed, b2n s.host.aerPoisoned, b2n s.host.aerUr]
    if clear then { t with host := { t.host with aerMalformed := false, aerPoisoned := false, aerUr := false } } else t

/-- The household code of a function's requests: the manager's for the PF (R641); 9 and up stand for no function. -/
def funcHh (f : Nat) : Nat := if f = 0 then 15 else if f < 9 then f - 1 else 14

/-- A request of a function that Table 17.1 lacks, or that hits no BAR (R666). -/
def State.unsupported (s : State) (f : Nat) (posted : Bool) : State :=
  let t := (s.raiseBy pHost HOST.evUR_SENT (funcHh f)).bump pHost HOST.ERR_COUNTS_UR_SENT
  let u : State := { t with host := { t.host with aerUr := true } }
  if posted then u else { u with resp := some ⟨.unsupported, []⟩ }

/-- HOST_CONFIG_REQUEST: answered with CRS until the first dawn has ended (R148, R667), then served; a function that
does not exist is not there. -/
def execHostConfigRequest (f : Fin 9) (req : CfgReq) (s : State) : Host.Outcome State Fault Refusal :=
  if !s.hostUp then .next s
  else if !s.tb.dawned then .next { s with resp := some ⟨.crs, []⟩ }
  else if s.funcExists f then .next (s.config f req)
  else .next (s.unsupported f false)

/-- HOST_UNSUPPORTED_REQUEST (R666). -/
def execHostUnsupportedRequest (posted : Bool) (s : State) : Host.Outcome State Fault Refusal :=
  .next (if s.hostUp then s.unsupported 9 posted else s)

/-- HOST_MALFORMED_TLP (R666): the packet is discarded. -/
def execHostMalformedTlp (s : State) : Host.Outcome State Fault Refusal :=
  if s.hostUp then
    let t := (s.raise pHost HOST.evMALFORMED).bump pHost HOST.ERR_COUNTS_MALFORMED
    .next { t with host := { t.host with aerMalformed := true } }
  else .next s

/-- The PHY latencies of a rate (Table 17.3). -/
def phyLat (speed : Nat) : Nat × Nat :=
  match speed with
  | 1 => (420, 300)
  | 2 => (240, 170)
  | 3 => (160, 110)
  | 4 => (96, 70)
  | _ => (0, 0)

/-- The speed ceiling of strap CFG5 (Table 2.11). -/
def State.speedCap (s : State) : Nat := if bitAt (s.fld pDevice DEVICE.STRAP_CFG) 5 then 3 else 4

/-- HOST_LINK_UP (R638, R639): the link enters L0 at a rate, at most TARGET_SPEED (log entry 91), and a width; the LTSSM
code is free. -/
def execHostLinkUp (speed : Fin 4) (width : Fin 3) (s : State) : Host.Outcome State Fault Refusal :=
  let v := speed.val + 1
  if bitAt (s.fld pDevice DEVICE.STRAP_CFG) 2 ∨ !s.phyOk ∨ s.speedCap < v
      ∨ max 1 (s.fld pHost HOST.LINK_CFG_TARGET_SPEED) < v then .next s
  else
    let t : State := { s with host := { s.host with
      linkUp := true, speed := v, width := 2 ^ width.val, ltssm := s.freeVal 6 } }
    .next (t.drew.raise pHost HOST.evLINK_UP)

/-! ### Egress rings (R647 to R652, R664) -/

/-- A ring's state. -/
def State.ring (s : State) (k : Nat) : RingSt := Tab.get RingSt.reset s.host.rings k

/-- Writes a ring's state. -/
def State.setRing (s : State) (k : Nat) (x : RingSt) : State :=
  { s with host := { s.host with rings := Tab.set RingSt.reset s.host.rings k x } }

/-- The owner of an SCHP slot, and so of its ring. -/
def State.ringOwner (s : State) (k : Nat) : Nat := s.fld (pSch 0) (SCH.SLOT_OWNER_SLOT.at k)

/-- SIZE of a ring in bytes (R647). -/
def State.ringSize (s : State) (k : Nat) : Nat := 4096 * 2 ^ s.fld pHost (HOST.RING_CFG_SIZE_CODE.at k)

/-- RING_BASE. -/
def State.ringBase (s : State) (k : Nat) : Nat :=
  s.fld pHost (HOST.RING_BASE_LO_BASE.at k) * 4096 + 2 ^ 32 * s.fld pHost (HOST.RING_BASE_HI_BASE.at k)

/-- TAIL. -/
def State.ringTail (s : State) (k : Nat) : Nat := s.fld pHost (HOST.RING_TAIL_TAIL.at k)

/-- HEAD. -/
def State.ringHead (s : State) (k : Nat) : Nat := s.fld pHost (HOST.RING_HEAD_HEAD.at k)

/-- How far TAIL is past HEAD, modulo 2 x SIZE. -/
def State.ringUsed (s : State) (k : Nat) : Nat :=
  (s.ringTail k + 2 * s.ringSize k - s.ringHead k % (2 * s.ringSize k)) % (2 * s.ringSize k)

/-- The free space (R647). -/
def State.ringFree (s : State) (k : Nat) : Nat := s.ringSize k - s.ringUsed k

/-- The bytes of the entry of a frame of `w` words (R648). -/
def ringEntryBytes (w : Nat) : Nat := 64 * ((8 * (w + 1) + 63) / 64)

/-- The bytes of the pad entry that a frame of `w` words needs first, 0 for none (R648). -/
def State.ringPad (s : State) (k w : Nat) : Nat :=
  let r := s.ringSize k - s.ringTail k % s.ringSize k
  if r < ringEntryBytes w then r else 0

/-- Why a frame of `w` words cannot be written: 0 none, 1 space, 2 disabled, 3 Bus Master Enable (R649,
Table 17.16). -/
def State.ringBlock (s : State) (k w : Nat) : Nat :=
  if !s.on pHost (HOST.RING_CFG_EN.at k) then 2
  else if !s.busMaster (funcOf (s.ringOwner k)) then 3
  else if s.ringFree k < ringEntryBytes w + s.ringPad k w then 1
  else 0

/-- Cuts the words of a write into posted writes of at most Max_Payload_Size bytes that cross no 4 KiB boundary
(R650): each is an address and its words. -/
def cutWrites (mps : Nat) : Nat → Nat → List Nat → List (Nat × List Nat)
  | 0, _, _ => []
  | _, _, [] => []
  | n + 1, a, w :: ws =>
    let m := max 1 (min (mps / 8) ((4096 - a % 4096) / 8))
    (a, (w :: ws).take m) :: cutWrites mps n (a + 8 * m) ((w :: ws).drop m)

/-- Posts words to host memory (R650). -/
def State.postWords (s : State) (a : Nat) (ws : List Nat) : State :=
  (cutWrites s.host.mps ws.length a ws).foldl (fun (t : State) (e : Nat × List Nat) => t.send "PCIE_WRITE" e.1 e.2) s

/-- A ring entry's header word (Table 17.7). -/
def ringHeader (seq : Nat) (pad poison err : Bool) (len queue blocks : Nat) : Nat :=
  seq % 65536 * 2 ^ 48 + b2n pad * 2 ^ 47 + b2n poison * 2 ^ 46 + b2n err * 2 ^ 45 + len % 2048 * 2 ^ 34
    + queue % 256 * 2 ^ 16 + blocks % 65536

/-- A ring signals its vector, and starts counting anew (R652). -/
def State.ringSignal (s : State) (k : Nat) : State :=
  (s.setRing k { s.ring k with since := 0, unsig := none }).signal (funcOf (s.ringOwner k))
    (s.fld pHost (HOST.RING_CFG_VEC.at k))

/-- Writes a frame to a ring: the pad entry if one is due, the entry, the write-back word (R648, R650, R652). -/
def State.ringWrite (s : State) (k seq queue : Nat) (ws : List Nat) (poison err : Bool) : State :=
  let size := s.ringSize k
  let e := ringEntryBytes ws.length
  let pad := s.ringPad k ws.length
  let pos := s.ringTail k % size
  let s1 := if pad = 0 then s
    else s.postWords (s.ringBase k + pos) [ringHeader 0 true false false 0 queue (pad / 64)]
  let entry := (ringHeader seq false poison err ws.length queue (e / 64) :: ws) ++ List.replicate (e / 8 - 1 - ws.length) 0
  let s2 := s1.postWords (s.ringBase k + (pos + pad) % size) entry
  let tail := (s.ringTail k + pad + e) % (2 * size)
  let x := s2.ring k
  let n := (x.entries + 1) % 2 ^ 32
  let wb := s.fld pHost (HOST.WB_ADDR_LO_ADDR.at k) * 8 + 2 ^ 32 * s.fld pHost (HOST.WB_ADDR_HI_ADDR.at k)
  let s3 := (s2.setFld pHost (HOST.RING_TAIL_TAIL.at k) tail).postWords wb [n * 2 ^ 32 + tail]
  let y : RingSt := { entries := n, since := x.since + 1, unsig := some (x.unsig.getD s.tb.beat) }
  let s4 := s3.setRing k y
  if s.fld pHost (HOST.RING_IRQ_COAL_N.at k) ≤ y.since then s4.ringSignal k else s4

/-- RING_COAL_TIMEOUT (R652): COAL_ST × 1,024 st have passed since the first write-back not signalled yet; COAL_ST 0
disables the condition. -/
def execRingCoalTimeout (k : Fin 64) (s : State) : Host.Outcome State Fault Refusal :=
  let c := s.fld pHost (HOST.RING_IRQ_COAL_ST.at k)
  match (s.ring k).unsig with
  | some b => .next (if c ≠ 0 ∧ b + c * 1024 ≤ s.tb.beat then s.ringSignal k else s)
  | none => .next s

/-- A ring is disabled with TAIL and HEAD at 0 (R661, Table 17.11). -/
def State.ringOff (s : State) (k : Nat) : State :=
  (((s.setFld pHost (HOST.RING_CFG_EN.at k) 0).setFld pHost (HOST.RING_TAIL_TAIL.at k) 0).setFld pHost
    (HOST.RING_HEAD_HEAD.at k) 0).setRing k RingSt.reset

/-- RING_ERR, on the page of the ring's owner (R651, Table 17.12). -/
def State.ringErr (s : State) (k hh : Nat) : State :=
  let o := s.ringOwner k
  if o < 8 then s.raiseBy (pHh o) HH.evRING_ERR hh else s.raiseBy pHost HOST.evRING_ERR hh

/-- A write of RING_HEAD (R651). -/
def State.ringHeadWrite (s : State) (k v hh : Nat) : State :=
  let m := 2 * s.ringSize k
  if v % 64 = 0 ∧ v < m ∧ (v + m - s.ringHead k % m) % m ≤ s.ringUsed k then s.setFld pHost (HOST.RING_HEAD_HEAD.at k) v
  else s.ringErr k hh

/-- RING_BASE is kept a multiple of SIZE: its low part is cut, and the answer says whether bits were lost (R647,
R663). -/
def State.alignBase (s : State) (k lo : Nat) : Nat × Bool :=
  let v := lo / s.ringSize k * s.ringSize k
  (v / 4096, v != lo)

/-- A write of RING_CFG (R647, R663, R664): while the ring is enabled only EN can change, and an enable sets TAIL,
HEAD and ENTRIES to 0. `pg` is the page of the access. -/
def State.ringCfgWrite (s : State) (pg k w : Nat) : State :=
  if s.on pHost (HOST.RING_CFG_EN.at k) then
    if bitAt w 31 then s else s.setFld pHost (HOST.RING_CFG_EN.at k) 0
  else
    let c := bitsOf w 3 0
    let s1 := (s.setFld pHost (HOST.RING_CFG_VEC.at k) (bitsOf w 29 24)).setFld pHost (HOST.RING_CFG_SIZE_CODE.at k)
      (min 12 c)
    let b := s1.alignBase k (s1.fld pHost (HOST.RING_BASE_LO_BASE.at k) * 4096)
    let s2 := s1.setFld pHost (HOST.RING_BASE_LO_BASE.at k) b.1
    let s3 := if 12 < c ∨ b.2 then s2.clampBit pg 0 else s2
    if bitAt w 31 then (s3.ringOff k).setFld pHost (HOST.RING_CFG_EN.at k) 1 else s3

/-- A served write of register `r` of ring block `k`, through page `pg` (Table 17.16). -/
def State.ringRegWrite (s : State) (pg hh k r w : Nat) : State :=
  let off := s.on pHost (HOST.RING_CFG_EN.at k)
  if r = 0x00 then s.ringCfgWrite pg k w
  else if r = 0x04 then
    if off then s
    else
      let b := s.alignBase k w
      let t := s.setFld pHost (HOST.RING_BASE_LO_BASE.at k) b.1
      if b.2 then t.clampBit pg 0 else t
  else if r = 0x08 then (if off then s else s.setFld pHost (HOST.RING_BASE_HI_BASE.at k) w)
  else if r = 0x0C then
    if off then s
    else
      let t := s.setFld pHost (HOST.WB_ADDR_LO_ADDR.at k) (w / 8)
      if w % 8 = 0 then t else t.clampBit pg 0
  else if r = 0x10 then (if off then s else s.setFld pHost (HOST.WB_ADDR_HI_ADDR.at k) w)
  else if r = 0x14 then s.ringHeadWrite k (bitsOf w 24 0) hh
  else if r = 0x1C then
    (s.setFld pHost (HOST.RING_IRQ_COAL_N.at k) (max 1 (bitsOf w 23 16))).setFld pHost (HOST.RING_IRQ_COAL_ST.at k)
      (bitsOf w 15 0)
  else s

/-- The page through which a ring block is accessed. -/
def ringPage (via : Option (Fin 8)) : Nat := match via with
  | some h => pHh h
  | none => pHost

/-- A write access to a register of a ring block (R658). -/
def State.ringAccess (s : State) (i : Instr) (a : Acc) (via : Option (Fin 8)) (k r w : Nat) : State :=
  s.access i a (ringPage via) (0x400 + 0x20 * k + r) true (fun t => t.ringRegWrite (ringPage via) a.hh k r w)

/-- RING_HEAD_WRITE (R651). -/
def execRingHeadWrite (a : Acc) (via : Option (Fin 8)) (k : Fin 64) (w : Word) (s : State) :
    Host.Outcome State Fault Refusal :=
  .next (s.ringAccess (.ringHeadWrite a via k w) a via k 0x14 w.toNat)

/-- RING_ENABLE: a write of RING_CFG with EN = 1 (R664). -/
def execRingEnable (a : Acc) (via : Option (Fin 8)) (k : Fin 64) (w : Word) (s : State) :
    Host.Outcome State Fault Refusal :=
  .next (s.ringAccess (.ringEnable a via k w) a via k 0 (setBit w.toNat 31))

/-! ### Mailboxes (R653 to R656) -/

/-- A mailbox. -/
def State.mb (s : State) (h m : Nat) : MbSt := Tab.get MbSt.reset s.host.mbs (16 * h + m)

/-- Writes a mailbox. -/
def State.setMb (s : State) (h m : Nat) (x : MbSt) : State :=
  { s with host := { s.host with mbs := Tab.set MbSt.reset s.host.mbs (16 * h + m) x } }

/-- The status word as it is held (Table 17.8). -/
def MbSt.word (x : MbSt) : Nat :=
  x.seq % 65536 * 2 ^ 48 + x.st % 4 * 2 ^ 46 + (if x.st = 2 then
    b2n x.poison * 2 ^ 45 + b2n x.trunc * 2 ^ 44 + x.len % 2048 * 2 ^ 33 + x.itemSeq % 65536 * 2 ^ 16 else 0)

/-- The queue of a mailbox. -/
def State.mbQueue (s : State) (h m : Nat) : Nat := s.fld (pHh h) (HH.MB_CFG_QUEUE.at m)

/-- MAILBOX_FILL (R653, Table 17.12): an enabled EMPTY mailbox pops the next item whole; a queue that is not the
household's, or that an enabled slot is bound to, holds the mailbox until its QUEUE is rewritten. -/
def execMailboxFill (h : Fin 8) (m : Fin 16) (s : State) : Host.Outcome State Fault Refusal :=
  let x := s.mb h m
  let n := s.mbQueue h m
  if !s.on (pHh h) (HH.MB_CFG_EN.at m) || x.st != 0 || x.err || decide (s.tb.beat < x.freeAt) then .next s
  else if s.qOwner n ≠ h.val ∨ (s.boundTo n).isEmpty = false then
    .next ((s.setMb h m { x with err := true }).raiseBy (pHh h) HH.evMB_ERR h)
  else
    match s.qCur n with
    | none => .next s
    | some (i, off) =>
      let t := s.popStreamFor n (i.words.length - off + 2) n h
      let data := match t.resp with
        | some r => r.data
        | none => []
      let ws := (data.drop 2).take (i.words.length - off)
      let y : MbSt := { x with
        words := ws.take 511, st := 1, poison := nth 0 data 1 != 0, trunc := decide (511 < ws.length)
        len := ws.length, itemSeq := i.seq }
      .next { t.setMb h m y with resp := s.resp }

/-- A command is a consume read of a mailbox, or a host read that may be one. -/
def consumes (h m : Nat) (c : Instr) : Bool :=
  match c with
  | .mailboxConsumeRead _ g k _ _ => g.val == h && k.val == m
  | .hostMemRead _ true off _ => decide (0x880000 ≤ off.toNat) && off.toNat % 0x10000 / 0x1000 == m
  | _ => false

/-- The last word is written (R653). -/
def State.mbReady (s : State) (h m : Nat) : State :=
  let x := s.mb h m
  if x.st = 1 then
    let t := s.setMb h m { x with st := 2, seq := (x.seq + 1) % 65536, consumed := false }
    let u := if x.trunc then t.raise (pHh h) HH.evMB_TRUNC else t
    u.signal (h + 1) (s.fld (pHh h) (HH.MB_CFG_VEC.at m))
  else s

/-- MAILBOX_READY (R653): the last word is written, and the mailbox's vector is signalled (Table 17.6). A consume read of
the beat sees FILLING (Table 17.11). -/
def execMailboxReady (h : Fin 8) (m : Fin 16) (s : State) : Host.Outcome State Fault Refusal :=
  .next (s.after (.mailboxReady h m) (consumes h m) (s.mbReady h m))

/-- The words of a mailbox that a read of `bytes` bytes from byte `off` covers (R654, Table 17.9). -/
def MbSt.read (x : MbSt) (off bytes : Nat) : List Nat :=
  let n := if bytes = 0 then 0 else (off + bytes - 1) / 8 + 1 - off / 8
  let ws := (List.range n).map (fun i =>
    let j := off / 8 + i
    if j = 0 then x.word else if x.st = 2 then nth 0 x.words (j - 1) else 0)
  bytesToWords ((bytes + 7) / 8) (((wordsLe ws).drop (off % 8)).take bytes)

/-- What a consume read does to a mailbox (Table 17.9). -/
def State.mbConsume (s : State) (h m : Nat) : State :=
  let x := s.mb h m
  if x.st = 2 then s.setMb h m { x with st := 0, consumed := true, freeAt := s.tb.beat + 1 }
  else if x.st = 1 || !x.consumed then s.bump (pHh h) (HH.MB_COUNTS_EARLY_READS.at m)
  else s.bump (pHh h) (HH.MB_COUNTS_DOUBLE_READS.at m)

/-- The address of a place in a mailbox (Tables 5.1, 17.5). -/
def mbAddr (consume : Bool) (h m off : Nat) : Nat :=
  (if consume then 0x3800080000 else 0x3800000000) + h * 0x10000 + m * 0x1000 + off

/-- A read of a mailbox through one of its aliases (R155, R641, R654, R655): hold, decode, household reset, ownership,
then the read; through the consume alias a read of the whole status word consumes. -/
def State.mbRead (s : State) (i : Instr) (a : Acc) (h m : Nat) (consume : Bool) (off bytes : Nat) : State :=
  let addr := mbAddr consume h m off
  if s.por then s
  else if s.tb.dawn ≠ 0 then { s with held := s.held ++ [i] }
  else if a.master = .fabric then s.decodeError a addr false 6
  else if s.hhReset.contains a.hh.val then { s with resp := some ⟨.reset, [0]⟩ }
  else if a.hh.val ≠ 15 ∧ a.hh.val ≠ h then s.denial a addr false
  else
    let t := s.answer ((s.mb h m).read off bytes)
    if consume && off == 0 && decide (8 ≤ bytes) then t.mbConsume h m else t

/-- MAILBOX_CONSUME_READ (R654, R655). -/
def execMailboxConsumeRead (a : Acc) (h : Fin 8) (m : Fin 16) (off : Fin 4096) (bytes : Fin 4097) (s : State) :
    Host.Outcome State Fault Refusal :=
  .next (s.mbRead (.mailboxConsumeRead a h m off bytes) a h m true off bytes)

/-- MAILBOX_PEEK_READ (R654, R655): a read through the peek alias, or one through the consume alias that does not
cover the status word. -/
def execMailboxPeekRead (a : Acc) (h : Fin 8) (m : Fin 16) (consume : Bool) (off : Fin 4096) (bytes : Fin 4097)
    (s : State) : Host.Outcome State Fault Refusal :=
  if consume && off.val == 0 && decide (8 ≤ bytes.val) then .next s
  else .next (s.mbRead (.mailboxPeekRead a h m consume off bytes) a h m consume off bytes)

/-- A served write of MB_CFG (R653, R664): QUEUE accepts writes only while EN is 0, and its rewriting ends a hold. -/
def State.mbCfgWrite (s : State) (h m w : Nat) : State :=
  let g := pHh h
  let s1 := (s.setFld g (HH.MB_CFG_EN.at m) (bitsOf w 31 31)).setFld g (HH.MB_CFG_VEC.at m) (bitsOf w 29 24)
  if s.on g (HH.MB_CFG_EN.at m) then s1
  else (s1.setFld g (HH.MB_CFG_QUEUE.at m) (bitsOf w 7 0)).setMb h m { s.mb h m with err := false }

/-- A mailbox is disabled and EMPTY, with SEQ kept (R661). -/
def State.mbOff (s : State) (h m : Nat) : State :=
  let x := s.mb h m
  s.setMb h m { MbSt.reset with seq := x.seq, consumed := x.consumed }

/-! ### The registers (R663, R669, R670) -/

/-- A served write of a HOST register, but for HH_RESET. -/
def State.hostWrite (s : State) (hh off w : Nat) : State :=
  if 0x400 ≤ off ∧ off < 0xC00 then s.ringRegWrite pHost hh ((off - 0x400) / 0x20) ((off - 0x400) % 0x20) w
  else if off = 0x104 then
    let cur := s.fld pHost HOST.LINK_CFG_TARGET_SPEED
    let sp := min s.speedCap (bitsOf w 7 4)
    let act (f : Fld) (v : Nat) : Nat := if v < 2 then v else s.fld pHost f
    let ld := act HOST.LINK_CFG_LINKDOWN_ACTION (bitsOf w 3 2)
    let pe := act HOST.LINK_CFG_PERST_ACTION (bitsOf w 1 0)
    if s.isLocked pHost then
      if sp = cur ∧ ld = s.fld pHost HOST.LINK_CFG_LINKDOWN_ACTION
        ∧ pe = s.fld pHost HOST.LINK_CFG_PERST_ACTION then s else s.lockViol pHost
    else
      let t := ((s.setFld pHost HOST.LINK_CFG_TARGET_SPEED sp).setFld pHost HOST.LINK_CFG_LINKDOWN_ACTION ld).setFld pHost
        HOST.LINK_CFG_PERST_ACTION pe
      if s.speedCap < bitsOf w 7 4 then t.clampBit pHost 0 else t
  else if off = 0x118 then
    let t := s.setFld pHost HOST.APERTURE_BASE_LO_BASE (bitsOf w 31 24)
    if bitsOf w 23 0 = 0 then t else t.clampBit pHost 0
  else s.writeFields pHost (s.fieldsOf pHost off) w

/-- A served write of an HH register, but for the almanac alias and HH_CTRL. -/
def State.hhWrite (s : State) (hh p off w : Nat) : State :=
  let h := p - pHh 0
  if 0x400 ≤ off ∧ off < 0xC00 then s.ringRegWrite p hh ((off - 0x400) / 0x20) ((off - 0x400) % 0x20) w
  else if 0x200 ≤ off ∧ off < 0x300 ∧ off % 0x10 = 0 then s.mbCfgWrite h ((off - 0x200) / 0x10) w
  else if off = 0x15C then
    let t := s.setFld p HH.APERTURE_BASE_LO_BASE (bitsOf w 31 24)
    if bitsOf w 23 0 = 0 then t else t.clampBit p 0
  else s.writeFields p (s.fieldsOf p off) w

/-- RING_TAIL as it reads: a blocked slot shows the cause (R649). -/
def State.ringTailView (s : State) (k : Nat) : Nat :=
  let cause := match s.headLen 0 k with
    | some l => if (s.slot 0 k).place = 6 then s.ringBlock k (l / 8) else 0
    | none => 0
  cause * 2 ^ 28 + s.ringTail k

/-- BME of the functions as FUNC_STATUS shows it. -/
def State.bmeMask (s : State) : Nat := (List.range 9).foldl (fun m f => putBit m f (s.busMaster f)) 0

/-- The live registers of the HOST page. -/
def State.hostView (s : State) (off : Nat) : Option Nat :=
  let h := s.host
  if off = 0x100 then some (b2n h.linkUp * 2 ^ 31 + h.speed % 16 * 2 ^ 16 + h.width % 64 * 2 ^ 8 + h.ltssm % 64)
  else if off = 0x10C then some (s.bmeMask * 2 ^ 16 + h.numVfs % 16 * 2 ^ 8 + b2n h.vfEnable)
  else if off = 0x110 then some (s.hhReset.foldl setBit 0)
  else if off = 0x124 then some ((phyLat h.speed).1 * 2 ^ 16 + (phyLat h.speed).2)
  else if 0x400 ≤ off ∧ off < 0xC00 ∧ off % 0x20 = 0x18 then some (s.ringTailView ((off - 0x400) / 0x20))
  else none

/-- The live registers of an HH page, but for the time alias. -/
def State.hhView (s : State) (p off : Nat) : Option Nat :=
  let h := p - pHh 0
  if off = 0x140 then
    some (b2n (s.host.flrs.contains h) * 8 + b2n (s.hhReset.contains h) * 4 + b2n (s.busMaster (h + 1)) * 2
      + b2n (s.funcExists (h + 1)))
  else if 0x200 ≤ off ∧ off < 0x300 ∧ off % 0x10 = 4 then
    let x := s.mb h ((off - 0x200) / 0x10)
    some (x.seq % 65536 * 2 ^ 16 + x.st % 4 * 2 ^ 14 + (if x.st = 2 then
      b2n x.poison * 2 ^ 13 + b2n x.trunc * 2 ^ 12 + x.len % 2048 else 0))
  else if 0x400 ≤ off ∧ off < 0xC00 ∧ off % 0x20 = 0x18 then some (s.ringTailView ((off - 0x400) / 0x20))
  else none

/-! ### Endpoint resets (R662) -/

/-- The endpoint, its configuration space and the HOST fields marked ENDPOINT return to their WARM values. -/
def State.endpointReset (s : State) : State :=
  let h := s.host
  { s.setFld pHost HOST.PF_EVT_VEC_VEC 0 with
    host := { HostSt.reset with
      linkUp := h.linkUp, speed := h.speed, width := h.width, ltssm := h.ltssm
      rings := h.rings, mbs := h.mbs, late := h.late, flrs := h.flrs, reads := h.reads, asked := h.asked } }

/-- PF_FLR (R662): always as ENDPOINT. -/
def execPfFlr (s : State) : Host.Outcome State Fault Refusal :=
  .next (if s.hostUp then s.endpointReset.raise pHost HOST.evPF_FLR else s)

end Sys2Proof.Machine
end

