-- ==== Sys2Proof/Machine/Faults.lean ====
section
/-!
DEFINITION. Fault reporting (Chapter 19): what a page reports, the FAULT unit's map and summaries, FAULT_N, and the
summaries at the endpoint.
-/

namespace Sys2Proof.Machine

/-! ### Page state and NOTIFY (R702, R703, R721) -/

/-- The ERR_FIRST codes of a block's events, by bit; 0 for an event that is no error (Table 19.9). A tile fault's own code
is that of Table 10.9. -/
def evCodes : Blk → List Nat
  | .device => [1]
  | .power => [1, 2, 3, 4, 5, 6, 7, 0, 0, 0x0A, 0]
  | .time => [1, 2, 3, 4, 5, 6, 7, 0]
  | .refmon => [1, 2, 3, 4, 0, 6, 0, 8, 9]
  | .dawn => [0, 0, 3, 4]
  | .matrix => [1, 2, 0, 0, 5]
  | .nocr => [1, 2, 3, 4, 5]
  | .noc => [1, 2, 3, 0, 0]
  | .line => [1, 2, 0]
  | .axis => [1, 2, 3, 4, 5, 6, 0]
  | .ephem => [1, 2, 3, 4, 5, 0, 7, 0]
  | .trig => [1, 2, 3, 0]
  | .strobe => [1, 2, 3, 4, 0]
  | .ingest => [1, 2, 3, 4, 5, 6, 7, 8, 9, 0x0A, 0x0B]
  | .whb => [0, 2, 3, 4, 0, 0, 7, 8, 0, 0, 0, 0x0C, 0x0D]
  | .motor => [1, 0, 3, 4, 5, 0, 7, 8, 9, 0x0A, 0x0B, 0, 0x0D, 0, 0x0F, 0x10, 0x11, 0x12, 0x13, 0x14, 0x15, 0, 0x17]
  | .pwm => [1, 2, 0, 4, 0]
  | .gate => [1, 2, 3, 4, 5, 6, 7, 8, 0, 0, 0x0B, 0]
  | .ouvgor => [1, 2, 0, 4]
  | .tile => [0, 0, 0, 0, 0x10]
  | .sieve => [1, 2, 3, 4, 0, 0, 0]
  | .dramc => [0, 0, 3, 0, 5]
  | .dramadm => [1, 2, 3, 0, 5]
  | .qe => [1, 2, 3]
  | .qeh => [1, 0, 3, 4, 5, 6, 0, 8, 9, 0x0A]
  | .sch => [1, 2, 3, 4, 0, 0]
  | .pol => [0, 0]
  | .fab => [0, 2, 3, 4, 0, 6]
  | .fabp => [0, 2, 3, 0, 5, 6, 7, 8, 9, 0x0A, 0]
  | .disc => [0, 0, 0, 0, 5, 6, 7, 8, 9]
  | .route => [0]
  | .const => [0, 0, 3, 4, 5, 6, 0, 8, 9, 0x0A, 0x0B, 0, 0, 0]
  | .prov => [1, 0, 3, 4, 5, 0, 7, 8, 9]
  | .host => [0, 2, 0, 0, 5, 6, 7, 8, 0, 0x0A]
  | .hh => [1, 0, 3, 4, 0, 6, 0]
  | .debug => [0, 2, 0, 0, 5, 6, 7, 8, 0]
  | .fault => [0, 2]

/-- A page's ANY state (R702). -/
def State.pageAny (s : State) (p : Nat) : Bool := s.fld p HDR.EVT_PEND_PEND != 0

/-- A page's attribution (R702). -/
def State.attribution (s : State) (p : Nat) : Nat :=
  match blkOf p with
  | some b => match b.own with
    | .p => s.owner p
    | .f => (HDR.owner p).reset
    | _ => 15
  | none => 15

/-- The lowest pending bit of a page, 0 with none. -/
def State.lowBit (s : State) (p : Nat) : Nat := nth 0 (maskBits 32 (s.fld p HDR.EVT_PEND_PEND)) 0

/-- The code of a page's event: a tile fault carries the code that its page has captured or shows. -/
def State.codeOf (s : State) (p bit : Nat) : Nat :=
  match blkOf p with
  | some .tile =>
    if bit = 0 then
      let c := s.fld p HDR.ERR_COUNT_FIRST_CODE
      if 1 ≤ c ∧ c < 0x10 then c else s.fld p TILE.T_FAULT_CODE
    else nth 0 (evCodes .tile) bit
  | some b => nth 0 (evCodes b) bit
  | none => 0

/-- The ARG of a page's NOTIFY (Table 19.2). -/
def State.notifyArg (s : State) (p : Nat) : Nat :=
  let any := s.pageAny p
  let low := s.lowBit p
  s.tb.count % 2 ^ 32 * 2 ^ 32 + (if any then s.codeOf p low else 0) % 256 * 2 ^ 24 + low * 2 ^ 16
    + s.attribution p * 2 ^ 12 + b2n any * 2 ^ 9 + p % 512

/-- The packet of a NOTIFY to a node: a timed EVT with OP 0xF and LEN 0 (R703). -/
def State.notifyPacket (s : State) (r dst arg : Nat) : List Flit :=
  packetFlits [s.sendW0 r (dst * 2 ^ 58 + 2 * 2 ^ 50 + 2 ^ 49 + 0xF * 2 ^ 40 + bitsOf arg 15 12 * 2 ^ 36 + 4 * 2 ^ 33) 0,
    0, 0, arg] []

/-- Agent 0 of a node offers a NOTIFY (R702). -/
def State.offerNotify (s : State) (node dst arg : Nat) : State :=
  match routerOf node with
  | some r => s.offer (agentKey r 0) 5 (s.notifyPacket r dst arg)
  | none => s

/-- A page offers its NOTIFY to node 37. -/
def State.notifyPage (s : State) (p : Nat) : State :=
  let t := s.offerNotify (pageNode s p) 37 (s.notifyArg p)
  { t with flt := { t.flt with
      told := Tab.set 0 t.flt.told p (if s.pageAny p then s.attribution p + 1 else 0) } }

/-- NOTIFY_SEND (R702): the page's ANY state, or its attribution while ANY is 1, has changed since its latest NOTIFY. -/
def execNotifySend (page : Fin 512) (s : State) : Host.Outcome State Fault Refusal :=
  let p := page.val
  let now := if s.pageAny p then s.attribution p + 1 else 0
  if (s.blk p).isSome && now != Tab.get 0 s.flt.told p then .next (s.notifyPage p) else .next s

/-- NOTIFY_PERIODIC (R702): every populated page, at each multiple of 65,536. -/
def execNotifyPeriodic (s : State) : Host.Outcome State Fault Refusal :=
  if s.onTick 65536 && s.flt.perAt != s.tb.beat + 1 then
    let t := ((List.range 512).filter (fun p => (s.blk p).isSome)).foldl (fun (t : State) p => t.notifyPage p) s
    .next { t with flt := { t.flt with perAt := s.tb.beat + 1 } }
  else .next s

/-! ### The FAULT unit (R704 to R707, R715, R718) -/

/-- Bit `p` of PEND_MAP. -/
def State.pended (s : State) (p : Nat) : Bool := bitAt (s.fld pFault (FAULT.PEND_MAP_MAP.at (p / 32))) (p % 32)

/-- The pages whose bit of PEND_MAP is 1. -/
def State.pendPages (s : State) : List Nat := (List.range 512).filter s.pended

/-- The recorded attribution of a page. -/
def State.attribOf (s : State) (p : Nat) : Nat := Tab.get 15 s.flt.attrib p

/-- MGR_MASK of a page; an unpopulated page has none (R715). -/
def State.mgrMasked (s : State) (p : Nat) : Bool := (s.blk p).isSome && s.on pFault (FAULT.mgrMask p)

/-- FAULTN_MASK of a page (R715). -/
def State.faultnMasked (s : State) (p : Nat) : Bool := (s.blk p).isSome && p != pFault && s.on pFault (FAULT.faultnMask p)

/-- The manager summary (R704). -/
def State.mgrSummary (s : State) : Bool := s.pendPages.any s.mgrMasked

/-- The household summaries, bit h for household h (R704). -/
def State.hhSummary (s : State) : Nat :=
  s.pendPages.foldl (fun m p => if s.attribOf p < 8 then setBit m (s.attribOf p) else m) 0

/-- A summary NOTIFY goes to node 29 (R707). -/
def State.sendSummary (s : State) : State :=
  s.offerNotify 37 29 (s.tb.count % 2 ^ 32 * 2 ^ 32 + s.fld pFault FAULT.SUMMARY_HH * 2 ^ 24
    + s.fld pFault FAULT.SUMMARY_MGR * 2 ^ 9 + pFault)

/-- The summaries are formed again; a change is reported (R704, R707). -/
def State.summarise (s : State) : State :=
  let m := b2n s.mgrSummary
  let h := s.hhSummary
  if m = s.fld pFault FAULT.SUMMARY_MGR ∧ h = s.fld pFault FAULT.SUMMARY_HH then s
  else ((s.setFld pFault FAULT.SUMMARY_MGR m).setFld pFault FAULT.SUMMARY_HH h).sendSummary

/-- FIRST_INFO and FIRST_SID (R705). -/
def State.firstInfo (s : State) (arg : Nat) : State :=
  let q := pFault
  (((((s.setFld q FAULT.FIRST_INFO_VALID 1).setFld q FAULT.FIRST_INFO_HH (bitsOf arg 15 12)).setFld q
    FAULT.FIRST_INFO_PAGE (bitsOf arg 8 0)).setFld q FAULT.FIRST_INFO_BIT (bitsOf arg 20 16)).setFld q
    FAULT.FIRST_INFO_CODE (bitsOf arg 31 24)).setFld q FAULT.FIRST_SID_T (arg / 2 ^ 32)

/-- Some page drives FAULT_N, or FORCE does (R706). -/
def State.faultWanted (s : State) : Bool := s.on pFault FAULT.FAULTN_CTRL_FORCE || s.pendPages.any s.faultnMasked

/-- The level that FAULT_N takes once what is under way has reached it. -/
def State.faultnNext (s : State) : Bool :=
  match s.flt.line.getLast? with
  | some e => e.2
  | none => s.on pFault FAULT.SUMMARY_FAULTN

/-- A change of what drives FAULT_N reaches the ball 8 st later (R706). -/
def State.noteFaultn (s : State) : State :=
  if s.faultWanted = s.faultnNext then s
  else { s with flt := { s.flt with line := s.flt.line ++ [(s.tb.beat + 8, s.faultWanted)] } }

/-- A NOTIFY is applied (R704, R705). -/
def State.applyNotify (s : State) (arg : Nat) : State :=
  let p := bitsOf arg 8 0
  let any := bitAt arg 9
  let was := s.pended p
  let f := FAULT.PEND_MAP_MAP.at (p / 32)
  let s1 := (s.setFld pFault f (putBit (s.fld pFault f) (p % 32) any)).bump pFault FAULT.NOTIFY_COUNT_COUNT
  let s2 : State := { s1 with flt := { s1.flt with attrib := Tab.set 15 s1.flt.attrib p (bitsOf arg 15 12) } }
  let s3 := if any && !was && s2.mgrMasked p && !s2.on pFault FAULT.FIRST_INFO_VALID then s2.firstInfo arg else s2
  s3.summarise.noteFaultn

/-- A command clears FIRST_INFO.VALID: it goes before a NOTIFY of its beat (Table 19.6). -/
def clearsFirst (c : Instr) : Bool :=
  match writesReg pFault (FAULT.FIRST_INFO_VALID.bit / 32 * 4) c with
  | some w => bitAt w 31
  | none => false

/-- The first NOTIFY that has arrived two beats ago is applied; one whose page is not populated, or is not served at its
source node, changes nothing (R704, R715, R718). -/
def State.notifyIn (s : State) : State :=
  match s.flt.inbox with
  | [] => s
  | n :: rest =>
    if s.tb.beat < n.at_ + 2 then s
    else
      let t : State := { s with flt := { s.flt with inbox := rest } }
      let p := bitsOf n.arg 8 0
      if (t.blk p).isSome && pageNode t p == n.src then
        let u := t.applyNotify n.arg
        if n.poison then u.raise pFault FAULT.evNOTIFY_BAD else u
      else t.raise pFault FAULT.evNOTIFY_BAD

/-- NOTIFY_RECEIVE (R704). -/
def execNotifyReceive (s : State) : Host.Outcome State Fault Refusal :=
  .next (s.after .notifyReceive clearsFirst s.notifyIn)

/-- FAULT_N_UPDATE (R706, R719): from the first DAWN_DONE or DAWN_FAIL on, the ball takes a level 8 st after its cause. -/
def execFaultNUpdate (s : State) : Host.Outcome State Fault Refusal :=
  match s.flt.line with
  | [] => .next s
  | (b, low) :: rest =>
    if !s.tb.dawned ∨ s.tb.beat < b then .next s
    else
      let t : State := { s with flt := { s.flt with line := rest } }
      let u := t.setFld pFault FAULT.SUMMARY_FAULTN (b2n low)
      .next (if low && !s.on pFault FAULT.SUMMARY_FAULTN then u.raise pFault FAULT.evFAULTN_ON else u)

/-- FAULT_N is driven low at the ball (R706, R719). -/
def State.faultnLow (s : State) : Bool := !s.tb.dawned || s.on pFault FAULT.SUMMARY_FAULTN

/-- FAULTN_FORCE_WRITE (R706): the ball follows 8 st later. -/
def execFaultnForceWrite (a : Acc) (w : Word) (s : State) : Host.Outcome State Fault Refusal :=
  .next (s.mgrAccess (.faultnForceWrite a w) a pFault 0x1CC (fun t =>
    (t.setFld pFault FAULT.FAULTN_CTRL_FORCE (w.toNat % 2)).noteFaultn))

/-- SUMMARY_NOTIFY_PERIODIC (R718): every 65,536 st, at the multiples (log entry 92). -/
def execSummaryNotifyPeriodic (s : State) : Host.Outcome State Fault Refusal :=
  if s.onTick 65536 && s.flt.sumAt != s.tb.beat + 1 then
    let t := s.sendSummary
    .next { t with flt := { t.flt with sumAt := s.tb.beat + 1 } }
  else .next s

/-- SUMMARY_NOTIFY_RECEIVE (R646, R707, R716): a rising summary signals its function's vector. -/
def execSummaryNotifyReceive (s : State) : Host.Outcome State Fault Refusal :=
  match s.flt.epInbox with
  | [] => .next s
  | n :: rest =>
    let m := bitAt n.arg 9
    let h := bitsOf n.arg 31 24
    let t : State := { s with flt := { s.flt with epInbox := rest, epMgr := m, epHh := h } }
    let u := if m && !s.flt.epMgr then t.signal 0 (t.fld pHost HOST.PF_EVT_VEC_VEC) else t
    .next ((maskBits 8 (clrMask h s.flt.epHh)).foldl (fun v k => v.signal (k + 1) (v.fld (pHh k) HH.EVT_VEC_VEC)) u)

/-! ### The FAULT page -/

/-- A served write of a FAULT register (R715): a mask bit of an unpopulated page ignores writes. -/
def State.faultWrite (s : State) (off w : Nat) : State :=
  let fs := s.fieldsOf pFault off
  if 0x140 ≤ off ∧ off < 0x180 then
    (s.writeFields pFault (fs.filter (fun f => (s.blk (f.bit - 0x140 * 8)).isSome)) w).summarise
  else if 0x180 ≤ off ∧ off < 0x1C0 then
    (s.writeFields pFault (fs.filter (fun f => (s.blk (f.bit - 0x180 * 8)).isSome && f.bit != 0x180 * 8 + pFault))
      w).noteFaultn
  else (s.writeFields pFault fs w).noteFaultn

/-- The live registers of the FAULT page. -/
def State.faultView (s : State) (off : Nat) : Option Nat :=
  let word (f : Nat → Bool) (lo : Nat) : Nat := (List.range 32).foldl (fun m i => putBit m i (f (lo + i))) 0
  if 0x140 ≤ off ∧ off < 0x180 then some (word s.mgrMasked ((off - 0x140) * 8))
  else if 0x180 ≤ off ∧ off < 0x1C0 then some (word s.faultnMasked ((off - 0x180) * 8))
  else if off = 0x1D8 then some (s.attribOf (s.fld pFault FAULT.ATTRIB_SEL_PAGE))
  else none

end Sys2Proof.Machine
end

