-- ==== Sys2Proof/Machine/Motor.lean ====
section
/-!
DEFINITION. The motor channels (Chapter 8). What the spec gives in exact arithmetic is computed: references, ramps,
line lock, the facet trim, the limits and the counts of consecutive updates. What it leaves to the controllers' inner
form (transforms, PI outputs, the observer, the duties) is a free value (log entry 15).
-/

namespace Sys2Proof.Machine

/-! ### Commands of CTRL -/

/-- MOTOR_START (R302). -/
def execMotorStart (a : Acc) (n : Fin 4) (s : State) : Out :=
  .next (s.access (.motorStart a n) a (pMotor n) 0x100 true (fun t => t.startReq n a.hh))

/-- MOTOR_STOP (R322). -/
def execMotorStop (a : Acc) (n : Fin 4) (s : State) : Out :=
  .next (s.access (.motorStop a n) a (pMotor n) 0x100 true (fun t => t.stopReq n))

/-- MOTOR_FAULT_CLR (R333). -/
def execMotorFaultClr (a : Acc) (n : Fin 4) (s : State) : Out :=
  .next (s.access (.motorFaultClr a n) a (pMotor n) 0x100 true (fun t => t.faultClr n))

/-- MOTOR_OFFSET_CAL (R304). -/
def execMotorOffsetCal (a : Acc) (n : Fin 4) (s : State) : Out :=
  .next (s.access (.motorOffsetCal a n) a (pMotor n) 0x100 true (fun t => t.offsetCal n))

/-! ### The start sequence (R303 to R308) -/

/-- The channel enters RUN; the position profile starts where the axis stands, which the spec leaves open (DESIGN CHOICE, log
entry 15). -/
def State.enterRun (s : State) (n : Nat) : State :=
  (s.setMotorState n 6).modMo n (fun m => { m with
    profPos := s.axisCount (s.fld (pMotor n) MOTOR.MODE_POS_AXIS) * 65536, profVel := 0, posOk := 0 })

/-- The channel enters RAMP from a taken angle (R308). -/
def State.enterRamp (s : State) (n theta : Nat) : State :=
  (s.setMotorState n 5).modMo n (fun m => { m with rampTheta := theta, rampW := 0, rampTop := none, agree := 0 })

/-- Step 3 of the start (R303): DETECT, ALIGN, or neither. -/
def State.startAngle (s : State) (n : Nat) : State :=
  let p := pMotor n
  match s.fld p MOTOR.MODE_START_METHOD with
  | 1 => s.setMotorState n 4
  | 2 => (s.setMotorState n 3).modMo n (fun m => { m with detK := 0, detAt := s.tb.beat, detEnd := none })
  | _ => if s.fld p MOTOR.MODE_SENSOR = 2 then s.enterRamp n 0 else s.enterRun n

/-- The rotor angle of an encoder (R316). -/
def State.encAngle (s : State) (n : Nat) (offset : Nat) : Nat :=
  let p := pMotor n
  unsg 32 ((offset : Int) + s.axisCount (s.fld p MOTOR.MODE_ENC_AXIS) * (s.fld p MOTOR.ENC_SCALE_SCALE : Nat) / 256)

/-- The rotor angle has been taken (R307, R308). -/
def State.angleTaken (s : State) (n theta : Nat) : State :=
  let p := pMotor n
  match s.fld p MOTOR.MODE_SENSOR with
  | 1 => (s.setFld p MOTOR.ENC_OFFSET_OFFSET (theta + (2 ^ 32 - s.encAngle n 0))).enterRun n
  | 2 => s.enterRamp n theta
  | _ => s.enterRun n

/-- A sample in CAL (R304): the first 63 count, the 64th is MOTOR_CAL_DONE's. -/
def State.calSample (s : State) (n : Nat) (codes : List Nat) : State :=
  s.modMo n (fun m =>
    if m.calN < 63 then
      { m with calN := m.calN + 1, calSum := (List.range 3).map (fun k => nth 0 m.calSum k + nth 0 codes k) }
    else m)

/-- The first index with the largest value. -/
def argMax (l : List Nat) : Nat := l.findIdx (fun x => x == l.foldl max 0)

/-- MOTOR_DETECT_DONE (R305, Table 8.8), after the gap of the last vector: the peak magnitudes of the 12 vectors. -/
def execMotorDetectDone (n : Fin 4) (peaks : List (Fin 16384)) (s : State) : Out :=
  if s.motorState n ≠ 3 ∨ (s.detect n).detK < 12 then .next s
  else
    let l := (List.range 12).map (fun k => nth 0 (peaks.map Fin.val) k)
    let hi := l.foldl max 0
    let lo := l.foldl min hi
    if (hi - lo) * 32 < lo then .next ((s.raise (pMotor n) MOTOR.evDETECT_FAIL).setMotorState n 4)
    else
      let k := argMax l
      .next ((s.setFld (pMotor n) MOTOR.STATUS_SECTOR k).angleTaken n (k * 2 ^ 32 / 12))

/-- ALIGN_TIME in ticks (R306). -/
def State.alignTime (s : State) (n : Nat) : Nat := s.fld (pMotor n) MOTOR.ALIGN_ALIGN_TIME * 65536

/-- The current along angle 0 in ALIGN (R306): it rises linearly to ALIGN_I over the first quarter of the time. -/
def State.alignRef (s : State) (n : Nat) : Int :=
  let q := s.alignTime n / 4
  (s.fld (pMotor n) MOTOR.ALIGN_ALIGN_I * min (s.tb.beat - (s.mo n).stateAt) q / q : Nat)

/-- MOTOR_ALIGN_DONE (R306), at the end of ALIGN_TIME: the rotor angle is taken as 0. -/
def execMotorAlignDone (n : Fin 4) (s : State) : Out :=
  if s.motorState n ≠ 4 ∨ s.tb.beat < (s.mo n).stateAt + s.alignTime n then .next s else .next (s.angleTaken n 0)

/-! ### Stall and restart (R327, R328) -/

/-- A stall (R328). -/
def State.stall (s : State) (n : Nat) : State :=
  let p := pMotor n
  let s1 := s.raise p MOTOR.evSTALL
  if s.fld p MOTOR.RESTART_RESTART_MAX ≤ s.fld p MOTOR.STATUS_RESTARTS then
    (s1.raise p MOTOR.evSTALL_LATCH).motorFault n
  else (s1.setMotorState n 10).gatesOff n

/-- MOTOR_RESTART (R328): the delay has expired; the channel begins again at step 3. -/
def execMotorRestart (n : Fin 4) (s : State) : Out :=
  if s.motorState n ≠ 10 ∨ s.tb.beat < (s.mo n).stateAt + s.fld (pMotor n) MOTOR.RESTART_DELAY * 65536 then .next s
  else
    let s1 := (s.bump (pMotor n) MOTOR.STATUS_RESTARTS).raise (pMotor n) MOTOR.evRESTART
    .next ((s1.modMo n MotorSt.rest).startAngle n)

/-- RESTARTS_CLEAR (R328): 2^30 st without interruption in RUN, LOCKING or LOCKED. -/
def execRestartsClear (n : Fin 4) (s : State) : Out :=
  .next (if runState (s.motorState n) && decide ((s.mo n).runAt + 2 ^ 30 ≤ s.tb.beat) then
    s.setFld (pMotor n) MOTOR.STATUS_RESTARTS 0 else s)

/-- HANDOVER_TIMEOUT (R327, Table 8.8): TMO x 65,536 st after the open-loop speed reached RAMP_END. -/
def execHandoverTimeout (n : Fin 4) (s : State) : Out :=
  match (s.mo n).rampTop with
  | some b =>
    if s.motorState n = 5 ∧ b + s.fld (pMotor n) MOTOR.HANDOVER_TMO * 65536 ≤ s.tb.beat then
      .next ((s.raise (pMotor n) MOTOR.evHANDOVER_FAIL).stall n)
    else .next s
  | none => .next s

/-! ### Angle sources (R315) -/

/-- The Hall sector: that of the code now, or the last valid one. -/
def State.hallNow (s : State) (n : Nat) : Nat := (s.hallSector n (s.mo n).hallCode).getD (s.mo n).hallSector

/-- HALL_TRANSITION (R315): the filtered code changes. -/
def execHallTransition (n : Fin 4) (code : Fin 8) (s : State) : Out :=
  let old := s.hallNow n
  let m := { s.mo n with hallCode := code.val, hallSector := old }
  match s.hallSector n code with
  | none => .next (s.setMo n m)
  | some x =>
    if x = old then .next (s.setMo n m)
    else
      let dir : Int := if (old + 1) % 6 = x then 1 else if (x + 1) % 6 = old then -1 else m.hallDir
      .next (s.setMo n { m with hallSector := x, hallPrev := m.hallAt, hallAt := s.tb.beat, hallDir := dir })

/-- The Hall speed: a sixth of a turn between the last two transitions, in units of 2^-48 turn per st (R315). -/
def MotorSt.hallSpeed (m : MotorSt) : Int :=
  if m.hallAt ≤ m.hallPrev then 0
  else m.hallDir * clampInt 0 2147483647 (2 ^ 48 / 6 / (m.hallAt - m.hallPrev : Nat))

/-- The Hall angle: the sector's centre, and in FOC the travel since the last transition within 30° (R315). -/
def State.hallAngle (s : State) (n : Nat) : Nat :=
  let m := s.mo n
  let lim : Int := 2 ^ 32 / 12
  let travel := if s.on (pMotor n) MOTOR.MODE_COMMUT then 0
    else clampInt (-lim) lim (m.hallSpeed * ((s.tb.beat : Int) - m.hallAt) / 65536)
  unsg 32 ((s.hallNow n * 2 ^ 32 / 6 + 2 ^ 32 / 12 : Nat) + travel)

/-! ### One update (R309 to R321) -/

/-- The square root of a number, rounded down, over `n` bits. -/
def isqrt (v : Nat) : Nat → Nat
  | 0 => 0
  | n + 1 =>
    let r := 2 * isqrt (v / 4) n
    if (r + 1) * (r + 1) ≤ v then r + 1 else r

/-- The ticks from one update to the next (R309). -/
def State.updatePeriod (s : State) (n : Nat) : Nat :=
  s.fld (pPwm n) PWM.PERIOD_PERIOD * (s.fld (pMotor n) MOTOR.TIMING_LOOP_DIV + 1)

/-- I_LIM (R313). -/
def State.iLim (s : State) (n : Nat) : Nat :=
  min (s.fld (pMotor n) MOTOR.ILIM_AVG_ILIM) (s.fld (pMotor n) MOTOR.DERATE_OUT_OUT)

/-- The current reference limited in magnitude: i_q is reduced first, i_d kept up to I_LIM (R313). -/
def limitRef (lim : Nat) (d q : Int) : Int × Int :=
  let d' := clampInt (-(lim : Int)) lim d
  let room : Int := isqrt (lim * lim - d'.natAbs * d'.natAbs) 16
  (d', clampInt (-room) room q)

/-- The magnitude of a reference. -/
def refMag (r : Int × Int) : Nat := isqrt (r.1.natAbs * r.1.natAbs + r.2.natAbs * r.2.natAbs) 20

/-- The speed reference moves toward its target by at most ACCEL per 65,536 st when its magnitude rises, and DECEL
when it falls (R314); in 1/65,536 of a unit. -/
def rampTo (cur target : Int) (accel decel : Nat) (t : Nat) : Int :=
  let up := decide (cur.natAbs < target.natAbs) && (decide (0 ≤ cur * target))
  let step : Int := (if up then accel else decel) * t
  if (target - cur).natAbs ≤ step.natAbs then target else if cur < target then cur + step else cur - step

/-- What the angle source gives at an update: the angle, the speed, and the free values drawn (R315 to R317). -/
def State.rotor (s : State) (n : Nat) : Nat × Int :=
  match s.fld (pMotor n) MOTOR.MODE_SENSOR with
  | 0 => (s.hallAngle n, (s.mo n).hallSpeed)
  | 1 => (s.encAngle n (s.fld (pMotor n) MOTOR.ENC_OFFSET_OFFSET), sgn 32 (s.freeAt 0 32))
  | _ => (s.freeAt 1 32, sgn 32 (s.freeAt 0 32))

/-- The observer-gain loop (R317, R326). -/
def State.obsAdapt (s : State) (n : Nat) (w : Int) : State :=
  let p := pMotor n
  if s.fld p MOTOR.MODE_SENSOR ≠ 2 ∨ !s.on p MOTOR.ADAPT_OBS_ADAPT_EN then s
  else
    let v := s.fld p MOTOR.OBS_SHAPE_BASE + s.fld p MOTOR.OBS_SHAPE_SLOPE * w.natAbs / 2 ^ 32
    let lo := s.fld p MOTOR.OBS_ENV_MIN
    let hi := s.fld p MOTOR.OBS_ENV_MAX
    let m := s.mo n
    let k := if v < lo ∨ hi < v then m.obsPin + 1 else 0
    let s1 := (s.setFld p MOTOR.OBS_GAIN_GAIN (clampNat lo hi v)).setMo n { m with obsPin := k }
    if k = 256 then s1.raise p MOTOR.evLOOP_PINNED else s1

/-- A phase current: the code after offset removal; at either end of its range it is taken as saturated (Table 8.8). -/
def State.phaseCurrent (s : State) (n ph : Nat) : Int :=
  let c := s.fld pOuvgor (OUVGOR.ADC_LAST_CODE.at (3 * n + ph))
  if c = 0 then -8192 else if c = 16383 then 8191 else (c : Int) - s.fld pOuvgor (OUVGOR.ADC_OFFSET_OFFSET.at (3 * n + ph))

/-- (i_d, i_q) of the sample at a rotor angle (R312). -/
def State.currents (s : State) (n theta : Nat) : Int × Int :=
  Config.park (s.phaseCurrent n 0) (s.phaseCurrent n 1) (s.phaseCurrent n 2) theta

/-- One step of a PI controller with gains in Q8.16: its output, and its integrator in 1/65,536 (R312, R314; the form of the
step is a DESIGN CHOICE, log entry 15). -/
def piStep (kp ki : Nat) (acc err : Int) : Int × Int :=
  let acc' := acc + ki * err
  ((kp * err + acc') / 65536, acc')

/-- The sampled codes (R309, Table 8.11): the stamp is that of the sample tick, 340 st before the update. -/
def State.sampleAdc (s : State) (n : Nat) (codes : List Nat) : State :=
  let t := (s.tb.count + 2 ^ 16 - 340) % 2 ^ 16
  let s1 := (List.range 3).foldl (fun (u : State) ph =>
    (u.setFld pOuvgor (OUVGOR.ADC_LAST_STAMP.at (3 * n + ph)) t).setFld pOuvgor (OUVGOR.ADC_LAST_CODE.at (3 * n + ph))
      (nth 0 codes ph)) s
  let s2 := if codes.any (fun c => c == 0 || c == 16383) then s1.raise (pMotor n) MOTOR.evADC_SAT else s1
  let x := s.pw n
  let per := if x.running then x.period else s.fld (pPwm n) PWM.PERIOD_PERIOD
  let late := decide (per ≤ s.fld (pMotor n) MOTOR.TIMING_SAMPLE_OFS + 340)
  let s3 := s2.condition (pMotor n) MOTOR.evADC_LATE late
  if late then s3.bump (pMotor n) MOTOR.COUNTS_ADC_LATE_COUNT else s3

/-- A step toward a target on the 32-bit circle, by at most `lim` (R321). -/
def circleStep (cur target lim : Nat) : Nat :=
  let d := sgn 32 (target + 2 ^ 32 - cur)
  unsg 32 ((cur : Int) + clampInt (-(lim : Int)) lim d)

/-- A facet edge at position `q` is measured (R321). -/
def State.facetMeasure (s : State) (n : Nat) (q : Int) : State :=
  let p := pMotor n
  let pitch : Int := s.fld p MOTOR.FACET_PITCH_PITCH
  let r := (q - sgn 64 (s.pair p MOTOR.FACET_START_LO_POS MOTOR.FACET_START_HI_POS)) % pitch
  let ef := if 2 * r ≤ pitch then r else r - pitch
  let s1 := (s.modMo n (fun m => { m with
    trimTarget := (m.trimTarget + prodHi ef (s.ratio n)) % 2 ^ 32 })).setSfld p MOTOR.FACET_ERR_EF ef
  if ef.natAbs ≤ s.fld p MOTOR.FACET_TOL_TOL ∧ !s.on p MOTOR.STATUS_FACET_LOCKED then
    (s1.setFld p MOTOR.STATUS_FACET_LOCKED 1).raise p MOTOR.evFACET_LOCKED
  else s1

/-- Facets are measured: LOCKED, with FACET_EN and a pitch (R321). -/
def State.facetOn (s : State) (n : Nat) : Bool :=
  s.motorState n == 8 && s.on (pMotor n) MOTOR.MODE_FACET_EN && s.fld (pMotor n) MOTOR.FACET_PITCH_PITCH != 0

/-- The facet trim moves (R321); an edge on the tick of its last step is measured (Table 8.7), and one missing over two
pitches of travel is reported (Table 8.8). -/
def State.facetUpdate (s : State) (n : Nat) : State :=
  let p := pMotor n
  let m := s.mo n
  let trim := circleStep (s.fld p MOTOR.FACET_TRIM_TRIM) m.trimTarget (s.fld p MOTOR.FACET_SLEW_SLEW)
  let s1 := (s.setFld p MOTOR.FACET_TRIM_TRIM trim).setMo n { m with edge := none }
  match m.edge with
  | some e => if e.1 = s.tb.beat ∧ trim = m.trimTarget ∧ s.facetOn n then s1.facetMeasure n e.2 else s1
  | none =>
    match s.position with
    | some q =>
      if s.facetOn n && decide (2 * s.fld p MOTOR.FACET_PITCH_PITCH < (q - m.facetFrom).natAbs) then
        ((s.setMo n { m with facetFrom := q, trimTarget := s.fld p MOTOR.FACET_TRIM_TRIM }).setFld p
          MOTOR.STATUS_FACET_LOCKED 0).raise p MOTOR.evFACET_MISSING
      else s1
    | none => s1

/-- Line lock's arithmetic at this update (R318, R330): w_ff, theta_line, and whether a segment is in force. -/
def State.lineLock (s : State) (n : Nat) : Int × Nat × Bool :=
  let p := pMotor n
  let m := s.mo n
  let t := s.tb.count
  match s.ln.eph.cur, s.position with
  | some g, some q =>
    let v := g.v + 2 * g.acc * ((t : Int) - (g.t0 : Int)) / 65536
    let w0 := clampInt (-2147483648) 2147483647 (v * s.ratio n / 4294967296)
    let w1 := if s.on p MOTOR.MODE_NO_REVERSE ∧ w0 < 0 then 0 else w0
    let vm : Int := s.fld p MOTOR.VMAX_V
    (clampInt (-vm) vm w1, (s.fld p MOTOR.ANGLE_OFFSET_OFFSET + s.fld p MOTOR.FACET_TRIM_TRIM
      + prodHi q (s.ratio n)) % 2 ^ 32, true)
  | _, _ => (m.wff, unsg 32 ((m.thetaLine : Int) + m.wff * (s.updatePeriod n : Nat) / 65536), false)

/-- The change of state that line lock makes (R319, R320, R330), given the rotor's speed and the error. A lock lost with its
segment is captured again if AUTO_RELOCK is 1 when one is in force again. -/
def State.lockStep (s : State) (n : Nat) (w e : Int) (covered : Bool) : State :=
  let p := pMotor n
  let m := s.mo n
  let st := s.motorState n
  let relock := s.on p MOTOR.MODE_AUTO_RELOCK
  if !covered then
    if st = 7 ∨ st = 8 then
      (s.setMotorState n 6).modMo n (fun m => { m with segLost := true, lockN := 0, lossN := 0 })
    else s
  else if st = 6 then
    let never := if m.segLost then !relock else m.noCapture
    let s1 := s.setMo n { m with segLost := false, noCapture := never }
    if !never ∧ (w - m.wff).natAbs ≤ s.fld p MOTOR.CAPTURE_BAND_V then
      (s1.setMotorState n 7).modMo n (fun m => { m with lockN := 0 })
    else s1
  else if st = 7 then
    let k := if e.natAbs ≤ s.fld p MOTOR.LOCK_WINDOW * 65536 then m.lockN + 1 else 0
    if s.fld p MOTOR.LOCK_LOCK_N ≤ k then
      ((s.setMotorState n 8).modMo n (fun m => { m with
        lockN := 0, lossN := 0, edge := none, facetFrom := s.position.getD 0 })).raise p MOTOR.evLOCKED
    else s.setMo n { m with lockN := k }
  else if st = 8 then
    let k := if s.fld p MOTOR.LOCK_LOSS_LOSS_WINDOW * 65536 < e.natAbs then m.lossN + 1 else 0
    if s.fld p MOTOR.LOCK_LOSS_LOSS_N ≤ k then
      ((s.setMotorState n 6).modMo n (fun m => { m with lossN := 0, noCapture := !relock })).raise p MOTOR.evLOCK_LOST
    else s.setMo n { m with lossN := k }
  else s

/-- The speed target of line lock (R319). -/
def State.lockTarget (s : State) (n : Nat) (e : Int) : Int :=
  let p := pMotor n
  let c := (s.fld p MOTOR.KP_LOCK_GAIN : Int) * e / 65536
  let sl : Int := s.fld p MOTOR.CAPTURE_SLEW_V
  match s.motorState n with
  | 7 => (s.mo n).wff + clampInt (-sl) sl c
  | 8 => (s.mo n).wff + c
  | _ => (s.mo n).wff

/-- The position profile and its error (R314): the profile approaches POS_TARGET within PVMAX and PACCEL. -/
def State.profile (s : State) (n : Nat) : State :=
  let p := pMotor n
  let m := s.mo n
  let t := s.updatePeriod n
  let target := sgn 64 (s.pair p MOTOR.POS_TARGET_LO_POS MOTOR.POS_TARGET_HI_POS) * 65536
  let left := target - m.profPos
  let acc : Int := s.fld p MOTOR.PACCEL_A * t
  let vmax : Int := s.fld p MOTOR.PVMAX_V * 65536
  -- the fastest speed from which the profile can still stop within the distance left
  let stop : Int := isqrt (2 * (s.fld p MOTOR.PACCEL_A) * left.natAbs * 65536) 64
  let want := (if left < 0 then -1 else 1) * min vmax stop
  let vel := if want < m.profVel - acc then m.profVel - acc else if m.profVel + acc < want then m.profVel + acc else want
  let move := vel * t / 65536
  let pos := if left.natAbs ≤ move.natAbs then target else m.profPos + move
  let s1 := s.setMo n { m with profPos := pos, profVel := if pos = target then 0 else vel }
  let err := s1.followErr n
  let ok := pos = target ∧ err.natAbs ≤ s.fld p MOTOR.FOLLOW_POS_TOL
  let k := if ok then m.posOk + 1 else 0
  let s2 := s1.modMo n (fun m => { m with posOk := min 17 k })
  let s3 := if k = 16 then s2.raise p MOTOR.evPOS_REACHED else s2
  if s.fld p MOTOR.FOLLOW_FOLLOW_LIM < err.natAbs then (s3.raise p MOTOR.evFOLLOW_ERR).motorFault n else s3

/-- The speed target of the control mode (Table 8.2, R314, R319). -/
def State.speedTarget (s : State) (n : Nat) (e : Int) : Int :=
  let p := pMotor n
  if s.motorState n = 9 then 0
  else
    match s.fld p MOTOR.MODE_CTRL_MODE with
    | 1 => s.sfld p MOTOR.SPEED_REF_REF
    | 2 => (s.fld p MOTOR.KP_POS_GAIN : Int) * s.followErr n / 65536
    | 3 => s.lockTarget n e
    | _ => 0

/-- The duties and phase states of the update go to the shadows of PWMn (R309, R311). -/
def State.newDuties (s : State) (n : Nat) (duty phase : Nat → Nat) : State :=
  let p := pPwm n
  let top := if s.on p PWM.CFG_MODE then s.fld p PWM.PERIOD_PERIOD / 2 else s.fld p PWM.PERIOD_PERIOD
  let s1 := (List.range 3).foldl (fun (t : State) k => t.setShadow p (PWM.CMP_CMP.at k) (min top (duty k))) s
  let s2 := (List.range 3).foldl (fun (t : State) k => t.setShadow p (PWM.PHASE_STATE_PH.at k) (phase k)) s1
  if s.boundary p = 0 then s2.applyShadows p else s2

/-- The current loop at an update (R312), with the reference (i_d, i_q) already limited (R313): a PI controller per axis in
FOC, one on the conducting pair in TRAP. Beyond the modulation limit the integrators hold and VOLT_SAT is set. -/
def State.currentLoop (s : State) (n theta : Nat) (r : Int × Int) : State :=
  let p := pMotor n
  let m := s.mo n
  let kp := s.fld p (MOTOR.KP_I_GAIN)
  let ki := s.fld p (MOTOR.KI_I_GAIN)
  let i := s.currents n theta
  let trap := s.on p MOTOR.MODE_COMMUT
  let sector := theta * 6 / 2 ^ 32
  let pd := piStep kp ki m.intD (r.1 - i.1)
  let pq := if trap then
      piStep kp ki m.intQ (r.2 - Config.pairCurrent (s.phaseCurrent n 0) (s.phaseCurrent n 1) (s.phaseCurrent n 2) sector)
    else piStep kp ki m.intQ (r.2 - i.2)
  let vd := if trap then 0 else pd.1
  let sat := Config.overModulated vd pq.1
  let m' := if sat then m else { m with intD := if trap then m.intD else pd.2, intQ := pq.2 }
  let s1 := ((s.setMo n { m' with ref := r }).setFld p MOTOR.STATUS_VOLT_SAT (b2n sat)).setSfld p MOTOR.I_MEAS_ID
    (clampInt (-32768) 32767 i.1)
  (s1.setSfld p MOTOR.I_MEAS_IQ (clampInt (-32768) 32767 i.2)).newDuties n (Config.duty vd pq.1 theta)
    (fun k => if trap then Config.sixStep sector k % 4 else 0)

/-- The tests that every update makes from ALIGN to STOPPING (R327, Table 8.8): sensors, the mean current, and in RUN,
LOCKING and LOCKED a stall, given the reference in force. -/
def State.watchMotor (s : State) (n : Nat) (w : Int) : State :=
  let p := pMotor n
  let m := s.mo n
  let id := sgn 16 (s.fld p MOTOR.I_MEAS_ID)
  let iq := sgn 16 (s.fld p MOTOR.I_MEAS_IQ)
  let lim := s.fld p MOTOR.ILIM_AVG_ILIM
  let exceeds := decide (25 * lim * lim < 16 * (id.natAbs * id.natAbs + iq.natAbs * iq.natAbs))
  let a := if exceeds then m.avgN + 1 else 0
  let running := runState (s.motorState n)
  let k := if running ∧ w.natAbs < s.fld p MOTOR.STALL_SPEED_V ∧ s.fld p MOTOR.STALL_STALL_I ≤ refMag m.ref then
    m.stallN + 1 else 0
  let o := if running ∧ s.fld p MOTOR.MODE_SENSOR = 2 ∧ 2 * w.natAbs < s.fld p MOTOR.RAMP_END_V then m.obsN + 1 else 0
  let h := if s.hallBad n then m.hallN + 1 else 0
  let s1 := s.setMo n { m with avgN := a, stallN := k, obsN := o, hallN := h }
  if s.encFault n then (s1.raise p MOTOR.evENC_FAULT).motorFault n
  else if 64 ≤ h then (s1.raise p MOTOR.evHALL_INVALID).motorFault n
  else if exceeds ∧ s.fld p MOTOR.ILIM_AVG_AVG_TIME ≤ a then (s1.raise p MOTOR.evAVG_OVERCURRENT).motorFault n
  else if 16 ≤ o then (s1.raise p MOTOR.evOBS_LOST).stall n
  else if k ≠ 0 ∧ s.fld p MOTOR.STALL_STALL_TIME ≤ k then s1.stall n
  else s1

/-- An update in ALIGN (R306): the current along angle 0. -/
def State.alignStep (s : State) (n : Nat) (w : Int) : State :=
  (s.currentLoop n 0 (limitRef (s.iLim n) (s.alignRef n) 0)).watchMotor n w

/-- An update in RAMP (R308): RAMP_I on the q-axis of the open-loop angle, which advances; RUN follows once the observer
agrees, with the q-current in force in the speed loop's integrator. -/
def State.rampStep (s : State) (n : Nat) (theta : Nat) (w : Int) : State :=
  let p := pMotor n
  let m := s.mo n
  let t := s.updatePeriod n
  let top : Int := s.fld p MOTOR.RAMP_END_V * 65536
  let w' := min top (m.rampW + s.fld p MOTOR.RAMP_ACCEL_A * t)
  let th := unsg 32 ((m.rampTheta : Int) + m.rampW / 65536 * t / 65536)
  let near := decide ((sgn 32 (theta + 2 ^ 32 - th)).natAbs ≤ s.fld p MOTOR.HANDOVER_WINDOW * 2 ^ 24)
  let neg := decide (w < 0)
  let k := if !near then 0 else if m.agree ≠ 0 ∧ m.agreeNeg ≠ neg then 1 else m.agree + 1
  let r := limitRef (s.iLim n) 0 (s.fld p MOTOR.RAMP_I_I : Nat)
  let s1 := (s.setMo n { m with
    rampW := w', rampTheta := th, agree := min 256 k, agreeNeg := neg
    rampTop := if w' = top then m.rampTop <|> some s.tb.beat else none }).setFld p MOTOR.THETA_THETA th
  let s2 := (s1.currentLoop n th r).watchMotor n w
  if s2.motorState n = 5 ∧ w' = top ∧ s.fld p MOTOR.HANDOVER_N ≤ k then
    (s2.enterRun n).modMo n (fun m => { m with wRef := w', intW := r.2 * 65536 })
  else s2

/-- The reference of the current loop (Table 8.2, R314): given in CURRENT mode, else i_q from the speed loop, whose own
reference moves toward its target within ACCEL, DECEL and VMAX. -/
def State.reference (s : State) (n : Nat) (w e : Int) : State × (Int × Int) :=
  let p := pMotor n
  let m := s.mo n
  let vm : Int := s.fld p MOTOR.VMAX_V
  let target := clampInt (-vm) vm (s.speedTarget n e)
  let wr := clampInt (-(vm * 65536)) (vm * 65536)
    (rampTo m.wRef (target * 65536) (s.fld p MOTOR.ACCEL_A) (s.fld p MOTOR.DECEL_A) (s.updatePeriod n))
  let sp := piStep (s.fld p MOTOR.KP_W_GAIN) (s.fld p MOTOR.KI_W_GAIN) m.intW (wr / 65536 - w)
  let direct := s.fld p MOTOR.MODE_CTRL_MODE = 0 ∧ s.motorState n ≠ 9
  let iq := if direct then s.sfld p MOTOR.CUR_REF_IQ_REF else sp.1
  (s.setMo n { m with wRef := wr, intW := if direct then m.intW else sp.2 },
    limitRef (s.iLim n) (s.sfld p MOTOR.CUR_REF_ID_REF) iq)

/-- An update in RUN, LOCKING, LOCKED or STOPPING (R312 to R322). -/
def State.runStep (s : State) (n : Nat) (theta : Nat) (w : Int) : State :=
  let p := pMotor n
  let mode := s.fld p MOTOR.MODE_CTRL_MODE
  let ll := s.lineLock n
  let e := sgn 32 (ll.2.1 + 2 ^ 32 - theta)
  let s1 := if mode = 3 then
      (((s.modMo n (fun m => { m with wff := ll.1, thetaLine := ll.2.1 })).setFld p MOTOR.LOCK_ERR_E (unsg 32 e)).condition p
        MOTOR.evEPH_INVALID (!ll.2.2)).lockStep n w e ll.2.2 |>.facetUpdate n
    else if mode = 2 then s.profile n else s
  if s1.motorState n = 11 then s1
  else
    let r := s1.reference n w e
    let s3 := (r.1.currentLoop n theta r.2).watchMotor n w
    let slow := if s3.fld p MOTOR.MODE_SENSOR = 2 then decide (w.natAbs < s3.fld p MOTOR.RAMP_END_V)
      else decide (w.natAbs ≤ s3.fld p MOTOR.STALL_SPEED_V)
    if s3.motorState n = 9 ∧ slow then s3.motorOff n else s3

/-- A sample in DETECT (R305): a vector whose current has reached DETECT_ILIM ends. -/
def State.detectSample (s : State) (n : Nat) : State :=
  let m := s.detect n
  if s.detectPulse n && decide (s.fld (pMotor n) MOTOR.DETECT_ILIM_ILIM ≤ refMag (s.currents n 0)) then
    s.setMo n { m with detEnd := some s.tb.beat }
  else s.setMo n m

/-- What every sample tick does (R309, R183): the codes are stored, and a pending boundary applies. -/
def State.sampleTick (s : State) (n : Fin 4) (codes : List Nat) : State :=
  let s1 := s.sampleAdc n codes
  if s1.boundary (pMotor n) = 1 then s1.applyMotor n else s1

/-- MOTOR_CAL_DONE (R304): the 64th sample in CAL; the rounded means of the 64 are stored. -/
def execMotorCalDone (n : Fin 4) (u v w : BitVec 14) (s : State) : Out :=
  let m := s.mo n
  if s.motorState n ≠ 2 ∨ m.calN < 63 then .next s
  else
    let codes := [u.toNat, v.toNat, w.toNat]
    let s1 := (List.range 3).foldl (fun (t : State) k =>
      t.setFld pOuvgor (OUVGOR.ADC_OFFSET_OFFSET.at (3 * n + k)) ((nth 0 m.calSum k + nth 0 codes k + 32) / 64))
      (s.sampleTick n codes)
    if m.calOnly then .next (s1.motorOff n) else .next (s1.startAngle n)

/-- MOTOR_UPDATE (R309): the sample of three codes, the PERIOD boundary, the loops, the new duties; an envelope written on
the beat bounds the update (R710). -/
def execMotorUpdate (n : Fin 4) (u v w : BitVec 14) (s : State) : Out :=
  let p := pMotor n
  if s.stands (writesField p MOTOR.OBS_ENV_MAX) then .next (s.holdBack (.motorUpdate n u v w))
  else if !s.enabled p then .next s
  else
    let s2 := s.sampleTick n [u.toNat, v.toNat, w.toNat]
    let st := s2.motorState n
    if st = 2 then .next (s2.calSample n [u.toNat, v.toNat, w.toNat])
    else if st = 3 then .next (s2.detectSample n)
    else if st < 4 ∨ 9 < st then .next s2
    else
      let r := s2.rotor n
      let theta := if st = 4 then 0 else r.1
      let s3 := (((s2.setFld p MOTOR.THETA_THETA theta).setSfld p MOTOR.SPEED_MEAS_V r.2).obsAdapt n r.2).drew 2
      if st = 4 then .next (s3.alignStep n r.2)
      else if st = 5 then .next (s3.rampStep n r.1 r.2)
      else .next (s3.runStep n r.1 r.2)

/-! ### Facets, temperature, current (R321, R323, R324) -/

/-- FACET_INDEX_EDGE (R321): a qualified index edge of FACET_AXIS, with its stamp. One that comes while the trim moves is
discarded, unless it comes on the tick of the last step (Table 8.7). -/
def execFacetIndexEdge (n : Fin 4) (s : State) : Out :=
  if !s.facetOn n then .next s
  else
    match s.positionAt (s.axisStamp (s.fld (pMotor n) MOTOR.MODE_FACET_AXIS)) with
    | none => .next s
    | some q =>
      let idle := s.fld (pMotor n) MOTOR.FACET_TRIM_TRIM = (s.mo n).trimTarget
      let s1 := s.modMo n (fun m => { m with facetFrom := q, edge := if idle then none else some (s.tb.beat, q) })
      .next (if idle then s1.facetMeasure n q else s1)

/-- The derated limit (R324). -/
def State.derated (s : State) (n td : Nat) : Nat :=
  let p := pMotor n
  let lim := s.fld p MOTOR.ILIM_AVG_ILIM
  let a := s.fld p MOTOR.TD_CFG_TD_START
  let b := s.fld p MOTOR.TD_CFG_TD_STOP
  if td ≤ a then lim else if b ≤ td then 0 else lim - lim * (td - a) / (b - a)

/-- A reading of the temperature and the derate loop (R324, R326, Table 8.8). -/
def State.readTd (s : State) (n : Nat) (td : Nat) : State :=
  let p := pMotor n
  let s1 := (s.setFld p MOTOR.TD_MEAS_TD td).setFld pOuvgor (OUVGOR.TD_RAW_CODE.at n) td
  let l := s.derated n td
  let lo := s.fld p MOTOR.DERATE_ENV_MIN
  let hi := s.fld p MOTOR.DERATE_ENV_MAX
  let m := s.mo n
  let k := if l < lo ∨ hi < l then m.deratePin + 1 else 0
  let s2 := if s.on p MOTOR.ADAPT_DERATE_EN then
      let t := (s1.setFld p MOTOR.DERATE_OUT_OUT (clampNat lo hi l)).setMo n { m with deratePin := k }
      if k = 256 then t.raise p MOTOR.evLOOP_PINNED else t
    else s1.setMo n { m with deratePin := 0 }
  let hot := decide (s.fld p MOTOR.TD_TRIP_TRIP ≤ td)
  let s3 := (s2.showDerate n).modMo n (fun m => { m with hot := hot })
  if hot && !m.hot then (s3.raise p MOTOR.evTHERMAL_TRIP).motorFault n else s3

/-- MOTOR_DERATE_UPDATE (R324, R326): every 65,536 st, within an envelope written on the beat (R710). -/
def execMotorDerateUpdate (n : Fin 4) (td : BitVec 10) (s : State) : Out :=
  .next (s.after (.motorDerateUpdate n td) (writesField (pMotor n) MOTOR.DERATE_ENV_MAX)
    (if s.onTick 65536 && (s.mo n).derateAt != s.tb.beat + 1 then
      (s.readTd n td.toNat).modMo n (fun m => { m with derateAt := s.tb.beat + 1 })
    else s))

/-- CBC_TRIP (R323, Table 8.8): the conducting switch of the phase is off to the end of the period, also where a compare edge
or a soft turn-off takes it on the same tick (Table 9.8); a self-test disconnects the comparator (R367). -/
def execCbcTrip (n : Fin 4) (ph : Fin 3) (s : State) : Out :=
  let p := pMotor n
  let m := s.mo n
  let g := s.gt n
  let takes (sw : Nat) : Bool := bitAt g.on sw
  if g.cst = 3 ∨ g.cst = 4 then .next s
  else
    let s1 := s.setGt n { g with
      cbcOff := putBit (putBit g.cbcOff (2 * ph) (takes (2 * ph) || bitAt g.cbcOff (2 * ph))) (2 * ph + 1)
        (takes (2 * ph + 1) || bitAt g.cbcOff (2 * ph + 1))
      on := clrBit (clrBit g.on (2 * ph)) (2 * ph + 1) }
    let s2 := (s1.bump p MOTOR.COUNTS_CBC_COUNT).setFld p MOTOR.STATUS_CBC_ACTIVE 1
    let k := if m.cbcNow then m.cbcN else m.cbcN + 1
    let s3 := s2.setMo n { m with cbcNow := true, cbcN := k }
    .next (if s.fld p MOTOR.CBC_MAX_MAX ≤ k ∧ s.motorState n ≠ 11 then (s3.raise p MOTOR.evOVERCURRENT).motorFault n
      else s3)

/-! ### Writes with rows of their own -/

/-- The registers that hold protection limits (R325, R371). -/
def isLimitReg (p off : Nat) : Bool :=
  (inRange 0x090 4 p && (off == 0x148 || off == 0x1BC || off == 0x1C0 || off == 0x1C4 || off == 0x1CC || off == 0x1D8))
  || (inRange 0x098 4 p && (off == 0x114 || off == 0x118 || off == 0x120))

/-- The registers that hold outputs of adaptive loops (R326, R353). -/
def isLoopReg (p off : Nat) : Bool :=
  (inRange 0x090 4 p && (off == 0x1B0 || off == 0x1D4))
  || (inRange 0x094 4 p && (pwmLoopField off || off == 0x128)) || (inRange 0x098 4 p && off == 0x104)

/-- A write of a block register of a drive page. -/
def State.driveWrite (s : State) (a : Acc) (p off w : Nat) : State :=
  if inRange 0x090 4 p then s.motorWrite a (p - 0x090) off w
  else if inRange 0x094 4 p then s.pwmWrite (p - 0x094) off w
  else if inRange 0x098 4 p then s.gateWrite (p - 0x098) off w
  else s.ouvWrite a off w

/-- PROTECTION_LIMIT_WRITE (R325, R371). -/
def execProtectionLimitWrite (a : Acc) (page : Fin 512) (off : Fin 1024) (w : Word) (s : State) : Out :=
  if !isLimitReg page (4 * off) then .next s
  else .next (s.access (.protectionLimitWrite a page off w) a page (4 * off) true
    (fun t => t.driveWrite a page (4 * off) w.toNat))

/-- LOOP_OUTPUT_WRITE (R326, R353). -/
def execLoopOutputWrite (a : Acc) (page : Fin 512) (off : Fin 1024) (w : Word) (s : State) : Out :=
  if !isLoopReg page (4 * off) then .next s
  else .next (s.access (.loopOutputWrite a page off w) a page (4 * off) true
    (fun t => t.driveWrite a page (4 * off) w.toNat))

end Sys2Proof.Machine
end

