-- ==== Sys2Proof/Machine/Isa.lean ====
section
/-!
DEFINITION. The instructions of the tiles (R387 to R390, R398 to R406, R411): a command issues the next instruction of a
tile, if that is the instruction it names.
-/

namespace Sys2Proof.Machine

/-! ### CTRL -/

/-- A branch relative to its own address; the PC is kept modulo 2^32 (log entry 20). Two further beats pass before the tile
issues again (Table 10.2). -/
def State.branch (s : State) (t op : Nat) (uses : Ins → List Nat) (taken : LeafSt → Ins → Bool) : State :=
  s.issue t 0 op uses (fun i n =>
    if taken i.c n then
      ((s.putCtx i { i.c with pc := unsg 32 ((i.c.pc : Int) + n.imm) }).issued i.h i.t).freeFrom i.t (s.tb.beat + 3)
    else s.retire i i.c)

/-- The value of GETS, and whether it depends on the arrangement (Table 10.5, R615); none for another value of IMM. -/
def State.special (s : State) (i : Issue) (code : Nat) : Option (Nat × Bool) :=
  let k := i.r.slot
  match code with
  | 0 => some (i.c.leaf, false)
  | 1 => some ((s.leaves i.r).length, true)
  | 2 => some (i.r.tiles.findIdx (· == i.t), true)
  | 3 => some (i.h, true)
  | 4 => some (s.slotStep k, false)
  | 5 => some (s.slotStream k, false)
  | 6 => some (s.slotChip k, true)
  | 7 => some (s.slotChips k, true)
  | 8 => some (k, true)
  | 9 =>
    let v := s.pvOf i.h
    some (if v.replay then cadd (s.tb.count - i.r.launched) v.recSid else s.tb.count, false)
  | _ => none

/-- GETS: the special value to s[RD] (R387); SID needs USES_SID (Table 10.9). -/
def State.gets (s : State) (i : Issue) (n : Ins) : State :=
  match (if n.imm < 0 then none else s.special i n.imm.toNat) with
  | none => s.leafFault i.h i.t i.c 1 1
  | some (v, arr) =>
    if n.imm = 9 ∧ i.r.usesSid = false then s.leafFault i.h i.t i.c 11 11
    else (if arr then s.setRunFlag i.h 10 else s).retire i (i.c.setS n.rd v)

/-- The register fields of an instruction. -/
def Ins.rdRaRb (n : Ins) : List Nat := [n.rd, n.ra, n.rb]

/-- RD and RA. -/
def Ins.rdRa (n : Ins) : List Nat := [n.rd, n.ra]

/-- RA and RB. -/
def Ins.raRb (n : Ins) : List Nat := [n.ra, n.rb]

/-- No register. -/
def Ins.none (_ : Ins) : List Nat := []

/-- NOP: nothing but the PC changes (R387). -/
def execNop (t : Fin 64) (s : State) : Host.Outcome State Fault Refusal :=
  .next (s.issueRegs t 0 0 Ins.none (fun c _ => c))

/-- HALT: the leaf ends; when every leaf has halted the slot becomes DONE (R401). -/
def execHalt (t : Fin 64) (s : State) : Host.Outcome State Fault Refusal :=
  .next (s.issue t 0 1 Ins.none (fun i _ => s.reach i none))

/-- BR: PC = PC + IMM (R387). -/
def execBr (t : Fin 64) (s : State) : Host.Outcome State Fault Refusal :=
  .next (s.branch t 2 Ins.none (fun _ _ => true))

/-- BZ: a branch if s[RA] = 0 (R387). -/
def execBz (t : Fin 64) (s : State) : Host.Outcome State Fault Refusal :=
  .next (s.branch t 3 (fun n => [n.ra]) (fun c n => c.sreg n.ra == 0))

/-- BNZ: a branch if s[RA] is not 0 (R387). -/
def execBnz (t : Fin 64) (s : State) : Host.Outcome State Fault Refusal :=
  .next (s.branch t 4 (fun n => [n.ra]) (fun c n => c.sreg n.ra != 0))

/-- BLT: a branch if s[RA] < s[RB], signed (R387). -/
def execBlt (t : Fin 64) (s : State) : Host.Outcome State Fault Refusal :=
  .next (s.branch t 5 Ins.raRb (fun c n => decide (sgn 64 (c.sreg n.ra) < sgn 64 (c.sreg n.rb))))

/-- BGE: a branch if s[RA] ≥ s[RB], signed (R387). -/
def execBge (t : Fin 64) (s : State) : Host.Outcome State Fault Refusal :=
  .next (s.branch t 6 Ins.raRb (fun c n => decide (sgn 64 (c.sreg n.rb) ≤ sgn 64 (c.sreg n.ra))))

/-- TRAP: the run fails with TRAP, and T_FAULT holds IMM[7:0] (R414). -/
def execTrap (t : Fin 64) (s : State) : Host.Outcome State Fault Refusal :=
  .next (s.issue t 0 7 Ins.none (fun i n => s.leafFault i.h i.t i.c 8 (unsg 8 n.imm)))

/-- GETS: a special value to s[RD] (R387, R615). -/
def execGets (t : Fin 64) (s : State) : Host.Outcome State Fault Refusal :=
  .next (s.issue t 0 8 (fun n => [n.rd]) (fun i n => s.gets i n))

/-! ### SALU -/

/-- A scalar operation s[RD] = f s[RA] s[RB], modulo 2^64. -/
def State.salu (s : State) (t op : Nat) (f : Nat → Nat → Nat) : State :=
  s.issueRegs t 1 op Ins.rdRaRb (fun c n => c.setS n.rd (f (c.sreg n.ra) (c.sreg n.rb)))

/-- A scalar operation with IMM, s[RD] = f s[RA] IMM, modulo 2^64. -/
def State.saluImm (s : State) (t op : Nat) (f : Nat → Int → Nat) : State :=
  s.issueRegs t 1 op Ins.rdRa (fun c n => c.setS n.rd (f (c.sreg n.ra) n.imm))

/-- ADD: scalar add (R388). -/
def execAdd (t : Fin 64) (s : State) : Host.Outcome State Fault Refusal :=
  .next (s.salu t 0 (fun a b => a + b))

/-- SUB: scalar subtract (R388). -/
def execSub (t : Fin 64) (s : State) : Host.Outcome State Fault Refusal :=
  .next (s.salu t 1 (fun a b => a + 2 ^ 64 - b))

/-- MUL: the low half of the product (R388). -/
def execMul (t : Fin 64) (s : State) : Host.Outcome State Fault Refusal :=
  .next (s.salu t 2 (fun a b => a * b))

/-- AND: scalar AND (R387). -/
def execAnd (t : Fin 64) (s : State) : Host.Outcome State Fault Refusal :=
  .next (s.salu t 3 (fun a b => a &&& b))

/-- OR: scalar OR (R387). -/
def execOr (t : Fin 64) (s : State) : Host.Outcome State Fault Refusal :=
  .next (s.salu t 4 (fun a b => a ||| b))

/-- XOR: scalar XOR (R387). -/
def execXor (t : Fin 64) (s : State) : Host.Outcome State Fault Refusal :=
  .next (s.salu t 5 (fun a b => a ^^^ b))

/-- SHL: shift left by s[RB][5:0] (R387). -/
def execShl (t : Fin 64) (s : State) : Host.Outcome State Fault Refusal :=
  .next (s.salu t 6 (fun a b => a <<< (b % 64)))

/-- SHR: logical shift right by s[RB][5:0] (R387). -/
def execShr (t : Fin 64) (s : State) : Host.Outcome State Fault Refusal :=
  .next (s.salu t 7 (fun a b => a >>> (b % 64)))

/-- SRA: arithmetic shift right by s[RB][5:0] (R387). -/
def execSra (t : Fin 64) (s : State) : Host.Outcome State Fault Refusal :=
  .next (s.salu t 8 (fun a b => unsg 64 (sgn 64 a >>> (b % 64))))

/-- SLT: 1 if s[RA] < s[RB], signed, or 0 (R387). -/
def execSlt (t : Fin 64) (s : State) : Host.Outcome State Fault Refusal :=
  .next (s.salu t 9 (fun a b => b2n (decide (sgn 64 a < sgn 64 b))))

/-- SLTU: 1 if s[RA] < s[RB], unsigned, or 0 (R387). -/
def execSltu (t : Fin 64) (s : State) : Host.Outcome State Fault Refusal :=
  .next (s.salu t 10 (fun a b => b2n (decide (a < b))))

/-- ADDI: s[RD] = s[RA] + sext(IMM) (R387). -/
def execAddi (t : Fin 64) (s : State) : Host.Outcome State Fault Refusal :=
  .next (s.saluImm t 0x10 (fun a m => unsg 64 ((a : Int) + m)))

/-- LIH: s[RD] = IMM × 2^32 + s[RA][31:0] (R387). -/
def execLih (t : Fin 64) (s : State) : Host.Outcome State Fault Refusal :=
  .next (s.saluImm t 0x11 (fun a m => unsg 64 (m * 2 ^ 32 + ((a % 2 ^ 32 : Nat) : Int))))

/-! ### VINT -/

/-- A predicated vector operation v[RD].l = f v[RA].l v[RB].l v[RD].l, modulo 2^32 (R386). -/
def State.vecOp (s : State) (t cls op : Nat) (f : Nat → Nat → Nat → Nat) : State :=
  s.issueRegs t cls op Ins.rdRaRb (fun c n =>
    c.setV n.rd (c.sel n) (fun l => f (c.lane n.ra l) (c.lane n.rb l) (c.lane n.rd l)))

/-- A predicated operation on one vector, v[RD].l = f v[RA].l (R386). -/
def State.vecOp1 (s : State) (t cls op : Nat) (f : Nat → Nat) : State :=
  s.issueRegs t cls op Ins.rdRa (fun c n => c.setV n.rd (c.sel n) (fun l => f (c.lane n.ra l)))

/-- A compare to p[RD[2:0]]; lanes not written read 0 (Table 10.4; log entry 22 for VFCMPLT). -/
def State.vecCmp (s : State) (t cls op : Nat) (f : Nat → Nat → Bool) : State :=
  s.issueRegs t cls op Ins.raRb (fun c n =>
    c.setP (n.rd % 8) ((List.range 16).foldl (fun m l =>
      putBit m l (c.sel n l && f (c.lane n.ra l) (c.lane n.rb l))) 0))

/-- The dot product of four bytes, added to an accumulator (R389). -/
def dot4 (a b d : Nat) (uns : Bool) : Nat :=
  unsg 32 ((List.range 4).foldl (fun (x : Int) j =>
    let p := bitsOf a (8 * j + 7) (8 * j)
    x + (if uns then (p : Int) else sgn 8 p) * sgn 8 (bitsOf b (8 * j + 7) (8 * j))) (d : Int))

/-- Requantisation: halves round toward plus infinity, and the result saturates to int8 (R389). -/
def requant (a k sh : Nat) : Nat :=
  let x := sgn 32 a * sgn 32 k
  let y := if sh = 0 then x else (x + 2 ^ (sh - 1)) >>> sh
  unsg 32 (clampInt (-128) 127 y)

/-- VADD: vector add (R388). -/
def execVadd (t : Fin 64) (s : State) : Host.Outcome State Fault Refusal :=
  .next (s.vecOp t 2 0 (fun a b _ => a + b))

/-- VSUB: vector subtract (R388). -/
def execVsub (t : Fin 64) (s : State) : Host.Outcome State Fault Refusal :=
  .next (s.vecOp t 2 1 (fun a b _ => a + 2 ^ 32 - b))

/-- VMUL: the low half of each product (R388). -/
def execVmul (t : Fin 64) (s : State) : Host.Outcome State Fault Refusal :=
  .next (s.vecOp t 2 2 (fun a b _ => a * b))

/-- VAND: vector AND (R387). -/
def execVand (t : Fin 64) (s : State) : Host.Outcome State Fault Refusal :=
  .next (s.vecOp t 2 3 (fun a b _ => a &&& b))

/-- VOR: vector OR (R387). -/
def execVor (t : Fin 64) (s : State) : Host.Outcome State Fault Refusal :=
  .next (s.vecOp t 2 4 (fun a b _ => a ||| b))

/-- VXOR: vector XOR (R387). -/
def execVxor (t : Fin 64) (s : State) : Host.Outcome State Fault Refusal :=
  .next (s.vecOp t 2 5 (fun a b _ => a ^^^ b))

/-- VSHL: shift left by v[RB].l[4:0] (R387). -/
def execVshl (t : Fin 64) (s : State) : Host.Outcome State Fault Refusal :=
  .next (s.vecOp t 2 6 (fun a b _ => a <<< (b % 32)))

/-- VSHR: logical shift right by v[RB].l[4:0] (R387). -/
def execVshr (t : Fin 64) (s : State) : Host.Outcome State Fault Refusal :=
  .next (s.vecOp t 2 7 (fun a b _ => a >>> (b % 32)))

/-- VSRA: arithmetic shift right by v[RB].l[4:0] (R387). -/
def execVsra (t : Fin 64) (s : State) : Host.Outcome State Fault Refusal :=
  .next (s.vecOp t 2 8 (fun a b _ => unsg 32 (sgn 32 a >>> (b % 32))))

/-- VMIN: signed minimum (R387). -/
def execVmin (t : Fin 64) (s : State) : Host.Outcome State Fault Refusal :=
  .next (s.vecOp t 2 9 (fun a b _ => if sgn 32 b < sgn 32 a then b else a))

/-- VMAX: signed maximum (R387). -/
def execVmax (t : Fin 64) (s : State) : Host.Outcome State Fault Refusal :=
  .next (s.vecOp t 2 10 (fun a b _ => if sgn 32 a < sgn 32 b then b else a))

/-- VCMPEQ: equality of lanes to a predicate (R387). -/
def execVcmpeq (t : Fin 64) (s : State) : Host.Outcome State Fault Refusal :=
  .next (s.vecCmp t 2 0x0B (fun a b => a == b))

/-- VCMPLT: signed less-than of lanes to a predicate (R387). -/
def execVcmplt (t : Fin 64) (s : State) : Host.Outcome State Fault Refusal :=
  .next (s.vecCmp t 2 0x0C (fun a b => decide (sgn 32 a < sgn 32 b)))

/-- VBCAST: s[RA][31:0] to the selected lanes (R387). -/
def execVbcast (t : Fin 64) (s : State) : Host.Outcome State Fault Refusal :=
  .next (s.issueRegs t 2 0x0D Ins.rdRa (fun c n => c.setV n.rd (c.sel n) (fun _ => c.sreg n.ra)))

/-- VSEL: each lane from v[RA] where selected, or from v[RB] (R387). -/
def execVsel (t : Fin 64) (s : State) : Host.Outcome State Fault Refusal :=
  .next (s.issueRegs t 2 0x0E Ins.rdRaRb (fun c n =>
    c.setV n.rd (fun _ => true) (fun l => if c.sel n l then c.lane n.ra l else c.lane n.rb l)))

/-- VDOT4: the signed dot product (R389). -/
def execVdot4 (t : Fin 64) (s : State) : Host.Outcome State Fault Refusal :=
  .next (s.vecOp t 2 0x10 (fun a b d => dot4 a b d false))

/-- VDOT4U: the dot product with the bytes of v[RA] unsigned (R389). -/
def execVdot4u (t : Fin 64) (s : State) : Host.Outcome State Fault Refusal :=
  .next (s.vecOp t 2 0x11 (fun a b d => dot4 a b d true))

/-- VREQ: requantisation by s[RB][31:0] and a shift by IMM[4:0] (R389). -/
def execVreq (t : Fin 64) (s : State) : Host.Outcome State Fault Refusal :=
  .next (s.issueRegs t 2 0x12 Ins.rdRaRb (fun c n =>
    c.setV n.rd (c.sel n) (fun l => requant (c.lane n.ra l) (c.sreg n.rb) (unsg 5 n.imm))))

/-- VLANE: each lane its own index (R387). -/
def execVlane (t : Fin 64) (s : State) : Host.Outcome State Fault Refusal :=
  .next (s.issueRegs t 2 0x13 (fun n => [n.rd]) (fun c n => c.setV n.rd (c.sel n) (fun l => l)))

/-- VEXT: one lane to s[RD], sign-extended (R387). -/
def execVext (t : Fin 64) (s : State) : Host.Outcome State Fault Refusal :=
  .next (s.issueRegs t 2 0x14 Ins.rdRa (fun c n =>
    c.setS n.rd (unsg 64 (sgn 32 (c.lane n.ra (unsg 4 n.imm))))))

/-! ### VFP -/

/-- VFADD: fp32 add (R390). -/
def execVfadd (t : Fin 64) (s : State) : Host.Outcome State Fault Refusal :=
  .next (s.vecOp t 3 0 (fun a b _ => fpAdd a b))

/-- VFSUB: fp32 subtract (R390). -/
def execVfsub (t : Fin 64) (s : State) : Host.Outcome State Fault Refusal :=
  .next (s.vecOp t 3 1 (fun a b _ => fpSub a b))

/-- VFMUL: fp32 multiply (R390). -/
def execVfmul (t : Fin 64) (s : State) : Host.Outcome State Fault Refusal :=
  .next (s.vecOp t 3 2 (fun a b _ => fpMul a b))

/-- VFFMA: v[RA].l × v[RB].l + v[RD].l with one rounding (R390). -/
def execVffma (t : Fin 64) (s : State) : Host.Outcome State Fault Refusal :=
  .next (s.vecOp t 3 3 fpFma)

/-- VFMAX: fp32 maximum (R390). -/
def execVfmax (t : Fin 64) (s : State) : Host.Outcome State Fault Refusal :=
  .next (s.vecOp t 3 4 (fun a b _ => fpMax a b))

/-- VFMIN: fp32 minimum (R390). -/
def execVfmin (t : Fin 64) (s : State) : Host.Outcome State Fault Refusal :=
  .next (s.vecOp t 3 5 (fun a b _ => fpMin a b))

/-- VCVTIF: int32 to fp32 (R390). -/
def execVcvtif (t : Fin 64) (s : State) : Host.Outcome State Fault Refusal :=
  .next (s.vecOp1 t 3 6 fpOfInt)

/-- VCVTFI: fp32 to int32, saturating (R390). -/
def execVcvtfi (t : Fin 64) (s : State) : Host.Outcome State Fault Refusal :=
  .next (s.vecOp1 t 3 7 fpToInt)

/-- VFCMPLT: fp32 less-than to a predicate, false for a NaN (R387). -/
def execVfcmplt (t : Fin 64) (s : State) : Host.Outcome State Fault Refusal :=
  .next (s.vecCmp t 3 8 fpLt)

/-! ### MEM (R387, R411) -/

/-- A window access of `w` bytes, aligned to `w`, at s[RA] + IMM: `k` gets the state, the SRAM address and the offset. -/
def State.winOp (s : State) (t op w : Nat) (k : Issue → Ins → Nat → State) : State :=
  s.issue t 4 op Ins.rdRa (fun i n =>
    let off := i.offset n
    match i.winFault off w w with
    | some code => s.leafFault i.h i.t i.c code code
    | none => k i n off)

/-- What the ECC of a tile's SRAM found in the words that an instruction reads (R415): a corrected error counts and the
instruction goes on, one that is not correctable faults with SRAM_ECC. -/
def State.eccRead (s : State) (i : Issue) (e : EccResult) (k : State → State) : State :=
  match e with
  | .clean => k s
  | .corrected => k ((s.bump (pTile i.t) TILE.T_ECC_CORRECTED).raiseBy (pTile i.t) TILE.evECC_CORR i.h)
  | .uncorrectable => s.leafFault i.h i.t i.c 5 5

/-- A load: the context takes the bytes. -/
def State.load (s : State) (t op w : Nat) (e : EccResult) (f : LeafSt → Ins → List Byte → LeafSt) : State :=
  s.winOp t op w (fun i n off => s.eccRead i e (fun u =>
    (u.retire i (f i.c n (i.x.bytes (i.addr off) w))).watch i off w false))

/-- A store: the SRAM takes bytes at places. -/
def State.store (s : State) (t op w : Nat) (f : LeafSt → Ins → List (Nat × List Byte)) : State :=
  s.winOp t op w (fun i n off =>
    let x := (f i.c n).foldl (fun (x : TileSt) ab => x.put (i.addr off + ab.1) ab.2) i.x
    let j := { i with x := x }
    ((s.setTl i.t x).retire j i.c).watch j off w true)

/-- VLD: 64 bytes of the window to v[RD], lane 0 lowest (R387). -/
def execVld : TileRead → State → Host.Outcome State Fault Refusal
  | ⟨t, e⟩, s =>
  .next (s.load t 0 64 e (fun c n bs => c.setV n.rd (fun _ => true) (fun l => ofLeBytes ((bs.drop (4 * l)).take 4))))

/-- VST: the selected lanes of v[RD] to 64 bytes of the window (R387). -/
def execVst (t : Fin 64) (s : State) : Host.Outcome State Fault Refusal :=
  .next (s.store t 1 64 (fun c n =>
    ((List.range 16).filter (c.sel n)).map (fun l => (4 * l, leBytes 4 (c.lane n.rd l)))))

/-- SLD: 8 bytes of the window to s[RD] (R387). -/
def execSld : TileRead → State → Host.Outcome State Fault Refusal
  | ⟨t, e⟩, s =>
  .next (s.load t 2 8 e (fun c n bs => c.setS n.rd (ofLeBytes bs)))

/-- SST: s[RD] to 8 bytes of the window (R387). -/
def execSst (t : Fin 64) (s : State) : Host.Outcome State Fault Refusal :=
  .next (s.store t 3 8 (fun c n => [(0, leBytes 8 (c.sreg n.rd))]))

/-- A DMA starts: ILLEGAL, ALIGN, WINDOW, DMA_DENIED, or a transfer in flight; IMM = 0 copies nothing (R411, R614). -/
def State.dmaStart (s : State) (t op : Nat) (put : Bool) (e : EccResult) : State :=
  s.issue t 4 op Ins.raRb (fun i n =>
    let bad (code : Nat) := s.leafFault i.h i.t i.c code code
    if n.imm < 0 ∨ 1024 < n.imm then bad 1
    else
      let len := 64 * n.imm.toNat
      let off := i.c.sreg n.rb
      let a := i.c.sreg n.ra
      match i.winFault off len 64 with
      | some code => bad code
      | none =>
        if len = 0 then s.retire i i.c
        else if s.dramMapped a len && s.dramMay i.h a len then
          s.eccRead i e (fun u =>
            let d : DmaSt := ⟨put, a, off, len, if put then i.x.bytes (i.addr off) len else []⟩
            let s1 := if put then u.trackPut i.h a len else u.trackGet i.h a len
            let s2 := s1.retire i { i.c with dma := i.c.dma ++ [d] }
            (s2.dramAsk a len (256 + i.h) false).watch i off len (!put))
        else
          let acc : Acc := ⟨.tile, ⟨i.h % 16, by omega⟩, ⟨s.tileNode i.t % 64, by omega⟩, 0, false⟩
          let s1 := { s.denial acc a put with resp := s.resp }
          s1.leafFault i.h i.t i.c 6 6)

/-- DMAGET: IMM × 64 bytes from DRAM address s[RA] to window offset s[RB] (R387). -/
def execDmaget (t : Fin 64) (s : State) : Host.Outcome State Fault Refusal :=
  .next (s.dmaStart t 8 false .clean)

/-- DMAPUT: IMM × 64 bytes from window offset s[RB] to DRAM address s[RA] (R387). -/
def execDmaput : TileRead → State → Host.Outcome State Fault Refusal
  | ⟨t, e⟩, s =>
  .next (s.dmaStart t 9 true e)

/-- DMAWAIT: waits until every DMA of the leaf has completed (R387). -/
def execDmawait (t : Fin 64) (s : State) : Host.Outcome State Fault Refusal :=
  .next (s.issue t 4 0x0A Ins.none (fun i _ =>
    if i.c.dma = [] then s.retire i i.c else s.putCtx i { i.c with dmaWait := true }))

/-- DMA_COMPLETE: the oldest outstanding DMA of a leaf completes; the last one releases a waiting DMAWAIT
(R387). A transfer from DRAM reads it now, a transfer to DRAM wrote what the window held when it was issued (log entry
23). -/
def execDmaComplete (t leaf : Fin 64) (s : State) : Host.Outcome State Fault Refusal :=
  let x := s.tl t
  match x.ctxs.findIdx? (fun c => c.leaf == leaf.val), s.runOf (s.tileOwner t) with
  | some k, some r =>
    match nth ([] : List DmaSt) (x.ctxs.map LeafSt.dma) k with
    | [] => .next s
    | d :: rest =>
      let s1 := s.dramDone (256 + s.tileOwner t) d.len
      let s2 := if d.put then s1.dramStore d.dram d.data else s1
      let got := s2.dramFetch d.dram d.len
      let y := if d.put then x else x.put (winBase r.leafSram k + d.win) got.1
      let ctxs := modifyNth (fun (c : LeafSt) => { c with dma := rest }) y.ctxs k
      let z := { y with ctxs := ctxs }
      let s3 := (if d.put then s2 else got.2.2).setTl t z
      match ctxs[k]? with
      | some c =>
        if c.dmaWait && rest.isEmpty then
          let i : Issue := ⟨s.tileOwner t, r, t, { z with cur := k }, c⟩
          .next (s3.retire { i with x := { z with cur := k } } { c with dmaWait := false })
        else .next s3
      | none => .next s3
  | _, _ => .next s

/-! ### QUEUE (R398, R399) -/

/-- The first POP of a step issues the TAKE; one that finds no item waits (R398). -/
def State.pop (s : State) (i : Issue) (n : Ins) : State :=
  if n.imm < 0 then s.leafFault i.h i.t i.c 1 1
  else
    match i.winFault (i.c.sreg n.rb) (8 * n.imm.toNat) 1 with
    | some code => s.leafFault i.h i.t i.c code code
    | none =>
      let s1 := if i.r.tried then s else s.portTake i.h i.r
      let got := match s1.runOf i.h with
        | some r => r.got
        | none => false
      if got then s1.popFinish i n else s1.putCtx i { i.c with popWait := true }

/-- POP: words of the step item to the window, and its length to s[RD] (R398). -/
def execPop (t : Fin 64) (s : State) : Host.Outcome State Fault Refusal :=
  .next (s.issue t 5 0 Ins.rdRaRb (fun i n => s.pop i n))

/-- POP_ITEM_OBTAINED: a POP that waits obtains the step item and completes (R398). -/
def execPopItemObtained (t : Fin 64) (s : State) : Host.Outcome State Fault Refusal :=
  let h := s.tileOwner t
  match s.runOf h, (s.tl t).ctxs[(s.tl t).cur]? with
  | some r, some c =>
    if r.got && c.popWait then
      let x := s.tl t
      .next (s.popFinish ⟨h, r, t, x, c⟩ (insOf (ofLeBytes (x.bytes c.pc 8))))
    else .next s
  | _, _ => .next s

/-- EMIT stages an item of IMM words for the STEP barrier (R399): at most 1,000 words, since an item of 24 + IMM words
must fit a queue's longest item (R618). -/
def State.emit (s : State) (i : Issue) (n : Ins) (e : EccResult) : State :=
  let bad (code : Nat) := s.leafFault i.h i.t i.c code code
  if n.imm < 0 ∨ 1000 < n.imm then bad 1
  else
    let len := 8 * n.imm.toNat
    let off := i.c.sreg n.rb
    match i.winFault off len 1 with
    | some code => bad code
    | none =>
      let q := i.c.sreg n.ra % 256
      if s.qOwner q ≠ i.h then bad 7
      else
        s.eccRead i e (fun u =>
          let ws := (List.range n.imm.toNat).map (fun k => ofLeBytes (i.x.bytes (i.addr off + 8 * k) 8))
          let s1 := (u.retire i i.c).setRun i.h
            (match (u.retire i i.c).runOf i.h with
            | some r => { r with emits := r.emits ++ [⟨i.c.leaf, q, ws⟩] }
            | none => i.r)
          s1.watch i off len false)

/-- EMIT: stages an item for the STEP barrier (R399). -/
def execEmit : TileRead → State → Host.Outcome State Fault Refusal
  | ⟨t, e⟩, s =>
  .next (s.issue t 5 1 Ins.raRb (fun i n => s.emit i n e))

/-! ### RED (R402, R405) -/

/-- A leaf reaches a reduction across leaves with its operand. -/
def State.reduce (s : State) (t op : Nat) : State :=
  s.issue t 6 op Ins.rdRa (fun i n =>
    s.reach i (some ⟨6, op, n.rd, if 0x10 ≤ op then [i.c.sreg n.ra] else i.c.vec n.ra⟩))

/-- The lane tree of v[RA], to every lane of v[RD] (R405). -/
def State.laneTree (s : State) (t op : Nat) : State :=
  s.issueRegs t 6 op Ins.rdRa (fun c n =>
    let v := treeOf (redOp (op % 16) 32) 4 (c.vec n.ra)
    c.setV n.rd (fun _ => true) (fun _ => v))

/-- VRED_IADD: integer add of v[RA] across leaves, per lane (R402). -/
def execVredIadd (t : Fin 64) (s : State) : Host.Outcome State Fault Refusal :=
  .next (s.reduce t 0)

/-- VRED_FADD: fp32 add of v[RA] across leaves, per lane (R402). -/
def execVredFadd (t : Fin 64) (s : State) : Host.Outcome State Fault Refusal :=
  .next (s.reduce t 1)

/-- VRED_IMAX: integer maximum of v[RA] across leaves, per lane (R402). -/
def execVredImax (t : Fin 64) (s : State) : Host.Outcome State Fault Refusal :=
  .next (s.reduce t 2)

/-- VRED_IMIN: integer minimum of v[RA] across leaves, per lane (R402). -/
def execVredImin (t : Fin 64) (s : State) : Host.Outcome State Fault Refusal :=
  .next (s.reduce t 3)

/-- VRED_FMAX: fp32 maximum of v[RA] across leaves, per lane (R402). -/
def execVredFmax (t : Fin 64) (s : State) : Host.Outcome State Fault Refusal :=
  .next (s.reduce t 4)

/-- VRED_FMIN: fp32 minimum of v[RA] across leaves, per lane (R402). -/
def execVredFmin (t : Fin 64) (s : State) : Host.Outcome State Fault Refusal :=
  .next (s.reduce t 5)

/-- SRED_IADD: integer add of s[RA] across leaves (R402). -/
def execSredIadd (t : Fin 64) (s : State) : Host.Outcome State Fault Refusal :=
  .next (s.reduce t 0x10)

/-- SRED_FADD: fp32 add of s[RA] across leaves (R402). -/
def execSredFadd (t : Fin 64) (s : State) : Host.Outcome State Fault Refusal :=
  .next (s.reduce t 0x11)

/-- SRED_IMAX: integer maximum of s[RA] across leaves (R402). -/
def execSredImax (t : Fin 64) (s : State) : Host.Outcome State Fault Refusal :=
  .next (s.reduce t 0x12)

/-- SRED_IMIN: integer minimum of s[RA] across leaves (R402). -/
def execSredImin (t : Fin 64) (s : State) : Host.Outcome State Fault Refusal :=
  .next (s.reduce t 0x13)

/-- SRED_FMAX: fp32 maximum of s[RA] across leaves (R402). -/
def execSredFmax (t : Fin 64) (s : State) : Host.Outcome State Fault Refusal :=
  .next (s.reduce t 0x14)

/-- SRED_FMIN: fp32 minimum of s[RA] across leaves (R402). -/
def execSredFmin (t : Fin 64) (s : State) : Host.Outcome State Fault Refusal :=
  .next (s.reduce t 0x15)

/-- VLTREE_IADD: the integer add lane tree (R405). -/
def execVltreeIadd (t : Fin 64) (s : State) : Host.Outcome State Fault Refusal :=
  .next (s.laneTree t 0x20)

/-- VLTREE_FADD: the fp32 add lane tree (R405). -/
def execVltreeFadd (t : Fin 64) (s : State) : Host.Outcome State Fault Refusal :=
  .next (s.laneTree t 0x21)

/-- VLTREE_IMAX: the integer maximum lane tree (R405). -/
def execVltreeImax (t : Fin 64) (s : State) : Host.Outcome State Fault Refusal :=
  .next (s.laneTree t 0x22)

/-- VLTREE_IMIN: the integer minimum lane tree (R405). -/
def execVltreeImin (t : Fin 64) (s : State) : Host.Outcome State Fault Refusal :=
  .next (s.laneTree t 0x23)

/-- VLTREE_FMAX: the fp32 maximum lane tree (R405). -/
def execVltreeFmax (t : Fin 64) (s : State) : Host.Outcome State Fault Refusal :=
  .next (s.laneTree t 0x24)

/-- VLTREE_FMIN: the fp32 minimum lane tree (R405). -/
def execVltreeFmin (t : Fin 64) (s : State) : Host.Outcome State Fault Refusal :=
  .next (s.laneTree t 0x25)

/-! ### RNG (R406) -/

/-- One round of the generator on the state and the two keys. -/
def rngRound : (Nat × Nat × Nat × Nat) × Nat × Nat → (Nat × Nat × Nat × Nat) × Nat × Nat
  | ((x0, x1, x2, x3), k0, k1) =>
    let a := x0 * 0xC2B2AE35
    let b := x2 * 0x85EBCA77
    ((b / 2 ^ 32 ^^^ x1 ^^^ k0, b % 2 ^ 32, a / 2 ^ 32 ^^^ x3 ^^^ k1, a % 2 ^ 32), (k0 + 0x9E3779B9) % 2 ^ 32,
      (k1 + 0xBB67AE85) % 2 ^ 32)

/-- n rounds. -/
def rngRounds : Nat → (Nat × Nat × Nat × Nat) × Nat × Nat → Nat × Nat × Nat × Nat
  | 0, x => x.1
  | n + 1, x => rngRounds n (rngRound x)

/-- Word `i` of G(seed, step, stream, c). -/
def rngWord (seed : Nat → Nat) (step stream c i : Nat) : Nat :=
  let r := rngRounds 10 ((step % 2 ^ 32 ^^^ seed 2, step / 2 ^ 32 % 2 ^ 32 ^^^ seed 3, stream, c), seed 0, seed 1)
  match i with
  | 0 => r.1
  | 1 => r.2.1
  | 2 => r.2.2.1
  | _ => r.2.2.2

/-- VRND: word IMM[1:0] of the generator to the selected lanes (R406). -/
def execVrnd (t : Fin 64) (s : State) : Host.Outcome State Fault Refusal :=
  .next (s.issue t 7 0 Ins.rdRa (fun i n =>
    let k := i.r.slot
    let stream := if s.slotNative k then (s.slotStream k + s.slotChip k) % 2 ^ 32 else s.slotStream k
    let c (l : Nat) := i.c.leaf % 64 * 2 ^ 26 + l * 2 ^ 22 + i.c.sreg n.ra % 2 ^ 22
    s.retire i (i.c.setV n.rd (i.c.sel n) (fun l =>
      rngWord (s.slotSeed k) (s.slotStep k) stream (c l) (unsg 2 n.imm)))))

/-! ### SYNC (R400) -/

/-- STEP: a leaf reaches the step barrier (R400). -/
def execStep (t : Fin 64) (s : State) : Host.Outcome State Fault Refusal :=
  .next (s.issue t 8 0 Ins.none (fun i _ => s.reach i (some ⟨8, 0, 0, []⟩)))

/-- BAR: a leaf reaches a barrier without a step (R400). -/
def execBar (t : Fin 64) (s : State) : Host.Outcome State Fault Refusal :=
  .next (s.issue t 8 1 Ins.none (fun i _ => s.reach i (some ⟨8, 1, 0, []⟩)))

/-! ### Breakpoints and illegal instructions -/

/-- BREAKPOINT_HIT: the next instruction of a tile stands at an enabled breakpoint; it is recorded and not executed
(R407). -/
def execBreakpointHit (t : Fin 64) (s : State) : Host.Outcome State Fault Refusal :=
  match s.issuing t with
  | none => .next s
  | some i =>
    match s.bpAt i with
    | some b => .next (s.bpHit i b)
    | none => .next s

/-- ILLEGAL_INSTRUCTION: the next instruction has a reserved CLASS or an unlisted OP, and faults (R386). -/
def execIllegalInstruction (t : Fin 64) (s : State) : Host.Outcome State Fault Refusal :=
  match s.issuing t with
  | none => .next s
  | some i =>
    match i.fetch with
    | .error code => .next (s.leafFault i.h i.t i.c code code)
    | .ok w =>
      let n := insOf w
      if insLegal n.cls n.op then .next s
      else
        match s.bpAt i with
        | some b => .next (s.bpHit i b)
        | none => .next (s.leafFault i.h i.t i.c 1 1)

end Sys2Proof.Machine
end

