-- ==== Sys2Proof/Machine/Sieve.lean ====
section
/-!
DEFINITION. Kernel images, launches, barriers and the ends of runs (R391 to R404, R410 to R416, R610, R613), and accesses
to tile SRAM from outside (R410, R643, R688).
-/

namespace Sys2Proof.Machine

/-! ### Loading (R391, R392, R611) -/

/-- The DRAM address of a slot's image. -/
def State.imageAddr (s : State) (k : Nat) : Nat := s.pair pSieve (SIEVE.IMAGE_LO_ADDR.at k) (SIEVE.IMAGE_HI_ADDR.at k)

/-- The weights region of a slot: its address and size. -/
def State.weightsOf (s : State) (k : Nat) : Nat × Nat :=
  (s.pair pSieve (SIEVE.WEIGHTS_LO_ADDR.at k) (SIEVE.WEIGHTS_HI_ADDR.at k), s.fld pSieve (SIEVE.WEIGHTS_SIZE_SIZE.at k))

/-- A household may read a range of DRAM. -/
def State.mayRead (s : State) (h a n : Nat) : Bool := n == 0 || (decide (h < 8) && s.dramMapped a n && s.dramMay h a n)

/-- The image header's fields (Table 10.6), by their offsets. -/
def imgField (hd : List Byte) (off n : Nat) : Nat := ofLeBytes ((hd.drop off).take n)

/-- The end of the code in the code region: CODE_SIZE rounded up to 64 (R393). -/
def codeEnd (codeSize : Nat) : Nat := (codeSize + 63) / 64 * 64

/-- The first failed check of a slot's image, as an IMG_ERR, or 0 (Table 10.6, Table 10.12; log entry 24). -/
def State.imageErr (s : State) (k : Nat) : Nat :=
  let h := s.slotOwner k
  let a := s.imageAddr k
  let w := s.weightsOf k
  if !s.mayRead h a 128 then 5
  else
    let hd := s.dramRead a 128
    let cs := imgField hd 0x08 4
    let ks := imgField hd 0x0C 4
    let ls := imgField hd 0x10 4
    let en := imgField hd 0x14 4
    if hd.take 4 ≠ [0x45, 0x44, 0x42, 0x01] then 1
    else if imgField hd 0x04 2 ≠ 1 ∨ imgField hd 0x18 2 ≠ 1 ∨ 8 ≤ imgField hd 0x06 2 ∨ imgField hd 0x1A 6 ≠ 0 then 2
    else if cs = 0 ∨ cs % 8 ≠ 0 ∨ ks % 64 ≠ 0 ∨ ls % 64 ≠ 0 ∨ ls < ks ∨ en % 8 ≠ 0 ∨ cs ≤ en ∨ 65536 < codeEnd cs + ks then 3
    else if !s.mayRead h a (128 + cs + ks) || !s.mayRead h w.1 w.2 then 5
    else 0

/-- A failed load: IMG_ERR and IMAGE_BAD; the slot becomes EMPTY unless the load was turned away with BUSY (R392). -/
def State.loadFail (s : State) (k code who : Nat) : State :=
  let s1 := s.setFld pSieve (SIEVE.STATUS_IMG_ERR.at k) code
  let s2 := if code = 6 then s1 else s1.setFld pSieve (SIEVE.STATUS_STATE.at k) 0
  s2.raiseBy pSieve SIEVE.evIMAGE_BAD who

/-- LOAD (R392): the slot enters LOADING, or the header is refused; BUSY while a slot of the household is LOADING or
RUNNING (log entry 24). -/
def State.load_ (s : State) (k who : Nat) : State :=
  let h := s.slotOwner k
  if (List.range 16).any (fun j => s.slotOwner j == h && (s.slotState j == 1 || s.slotState j == 3)) then s.loadFail k 6 who
  else
    let err := s.imageErr k
    if err ≠ 0 then s.loadFail k err who
    else
      let w := s.weightsOf k
      let s1 := { s.setFld pSieve (SIEVE.STATUS_STATE.at k) 1 with img := Tab.insert s.img k ⟨[], 0, 0, 0, 0, 0, who, s.tb.beat⟩ }
      s1.setPv h { s1.pvOf h with weights := if w.2 = 0 then none else some w, written := false, dirty := false }

/-- The code and the constants go to every tile's code region (R392, R393). -/
def State.copyCode (s : State) (code consts : List Byte) (ts : List Nat) : State :=
  ts.foldl (fun t n => t.setTl n (((t.tl n).put 0 code).put (codeEnd code.length) consts)) s

/-- The blocks that the digests of a load take: the image's and the weights', by one core (R391, R607, R611). -/
def State.loadBlocks (s : State) (k : Nat) : Nat :=
  let hd := s.dramRead (s.imageAddr k) 128
  let w := s.weightsOf k
  shaBlocks (96 + imgField hd 0x08 4 + imgField hd 0x0C 4) + (if w.2 = 0 then 0 else shaBlocks w.2)

/-- SLOT_LOAD_DONE: 80 beats for each block after the load, the image and weights digests complete, and the slot becomes LOADED, or EMPTY with IMG_ERR (R392,
R611, R635). `readOk`: every read of the weights region completed with OK. -/
def execSlotLoadDone (k : Fin 16) (readOk : Bool) (s : State) : Host.Outcome State Fault Refusal :=
  if s.slotState k ≠ 1 then .next s
  else
    let h := s.slotOwner k
    let who := match Tab.lookup s.img k with
      | some m => m.by_
      | none => h
    let a := s.imageAddr k
    let err := s.imageErr k
    let at_ := match Tab.lookup s.img k with
      | some m => m.at_
      | none => 0
    if err ≠ 0 then .next (s.loadFail k err who)
    else if s.tb.beat < at_ + 80 * s.loadBlocks k then .next s
    else if !readOk then .next ((s.raiseBy pProv PROV.evWEIGHTS_READ_ERR h).loadFail k 5 who)
    else
      let hd := s.dramRead a 128
      let cs := imgField hd 0x08 4
      let ks := imgField hd 0x0C 4
      let ls := imgField hd 0x10 4
      let body := s.dramRead (a + 128) (cs + ks)
      let prog := sha256 (hd.take 32 ++ hd.drop 64 ++ body)
      let w := s.weightsOf k
      let s1 := (s.putDigest h PROV.PROG_DIGEST_W prog).putDigest h PROV.WEIGHTS_DIGEST_W
        (if w.2 = 0 then zeroDigest else sha256 (s.dramRead w.1 w.2))
      if prog ≠ (hd.drop 32).take 32 then .next (s1.loadFail k 4 who)
      else
        let ts := s1.tileSet h
        let s2 := s1.copyCode (body.take cs) (body.drop cs) ts
        let s3 := (List.range 16).foldl (fun t j =>
          if j ≠ k.val ∧ t.slotOwner j = h ∧ t.slotState j ≠ 0 then t.setFld pSieve (SIEVE.STATUS_STATE.at j) 0 else t) s2
        let s4 := { s3 with img := Tab.insert s3.img k ⟨ts, imgField hd 0x14 4, cs, ks, ls, imgField hd 0x06 2, who, at_⟩ }
        let s5 := (s4.setFld pSieve (SIEVE.STATUS_STATE.at k) 2).setFld pSieve (SIEVE.STATUS_IMG_ERR.at k) 0
        let s6 := (s5.setFld pSieve (SIEVE.IMG_INFO_LEAF_SRAM64.at k) (ls / 64)).setFld pSieve (SIEVE.IMG_INFO_CODE_SIZE8.at k)
          (cs / 8)
        .next (s6.raiseBy pSieve SIEVE.evLOAD_DONE who)

/-! ### Launch (R394 to R396) -/

/-- The leaves that a run of a slot has on this chip (R396). -/
def State.chipLeaves (s : State) (k n : Nat) : Nat := if s.slotNative k then n else 64 / s.slotChips k

/-- The number of leaves on tile r of n (R396). -/
def tileLeaves (native : Bool) (leaves n r : Nat) : Nat := if native then 1 else (leaves + n - 1 - r) / n

/-- C is a power of two from 1 to 64. -/
def powerOfTwo (c : Nat) : Bool := [1, 2, 4, 8, 16, 32, 64].contains c

/-- The lowest code of Table 10.7 that applies to a launch of a slot, 0 for none (R394). -/
def State.launchCause (s : State) (k : Nat) : Nat :=
  let h := s.slotOwner k
  let ts := s.tileSet h
  let n := if h < 8 then ts.length else 0
  let st := s.slotState k
  let nat := s.slotNative k
  let c := s.slotChips k
  let m := if n = 0 then 0 else tileLeaves nat (s.chipLeaves k n) n 0
  match Tab.lookup s.img k with
  | none => 1
  | some g =>
    if st = 0 ∨ st = 1 ∨ st = 3 then 1
    else if (s.runOf h).isSome then 2
    else if (nat || powerOfTwo c) ∧ 196608 < m * g.leafSram then 3
    else if (!nat && !powerOfTwo c) ∨ c ≤ s.slotChip k then 4
    else if n = 0 ∨ g.tiles ≠ ts then 5
    else if s.qOwner (s.slotInQ k) ≠ h then 6
    else if !bitAt g.flags (b2n nat) then 7
    else if s.tb.dawn ≠ 0 then 8
    else 0

/-- The context of a leaf at launch (R395). -/
def State.newLeaf (s : State) (k entry leaf : Nat) : LeafSt :=
  let c : LeafSt := ⟨leaf, entry, [], [], [], none, false, [], false, false, []⟩
  (List.range 4).foldl (fun c i => c.setS (i + 1) (s.slotArg k i)) c

/-- Tile r of a launch: its windows hold the constants with zeros above, its contexts are initialised (R395, R396). -/
def State.launchTile (s : State) (k : Nat) (g : SlotImg) (n t r : Nat) : State :=
  let nat := s.slotNative k
  let lc := s.chipLeaves k n
  let m := tileLeaves nat lc n r
  let base := if nat then 0 else s.slotChip k * lc
  let x := s.tl t
  let consts := x.bytes (codeEnd g.codeSize) g.constSize
  let y := { x with sram := Tab.keep (fun a => decide (a < 0x10000) || decide (0x10000 + m * g.leafSram ≤ a)) x.sram }
  let z := (List.range m).foldl (fun (z : TileSt) j => z.put (winBase g.leafSram j) consts) y
  let w := { z with
    ctxs := (List.range m).map (fun j => s.newLeaf k g.entry (base + r + j * n))
    cur := 0
    halted := false
    steps := 0
    passed := false
    arrived := 0
    freeAt := 0
    issuedAt := s.tb.beat }
  let p := pTile t
  ([TILE.T_FAULT_PC, TILE.T_FAULT_LEAF, TILE.T_FAULT_CODE, TILE.T_ISSUED_LO_N, TILE.T_ISSUED_HI_N,
    TILE.T_WAIT_BEATS].foldl (fun u f => u.setFld p f 0) (((s.setTl t w).setFld p TILE.T_STATUS_SLOT k).setFld p
      TILE.T_STATUS_LEAVES m)).tileState t (if m = 0 then 0 else 1)

/-- Numbers a list from `i`. -/
def numbered {α : Type} : Nat → List α → List (Nat × α)
  | _, [] => []
  | i, x :: xs => (i, x) :: numbered (i + 1) xs

/-- A launch of a slot requested by `who`: refused with the lowest code, or a run starts (R394, R395). -/
def State.launch (s : State) (k who : Nat) : State :=
  let cause := s.launchCause k
  match Tab.lookup s.img k with
  | none => (s.setFld pSieve (SIEVE.STATUS_REFUSE.at k) 1).raiseBy pSieve SIEVE.evLAUNCH_REFUSED who
  | some g =>
    if cause ≠ 0 then (s.setFld pSieve (SIEVE.STATUS_REFUSE.at k) cause).raiseBy pSieve SIEVE.evLAUNCH_REFUSED who
    else
      let h := s.slotOwner k
      let ts := s.tileSet h
      let s1 := (numbered 0 ts).foldl (fun t e => t.launchTile k g ts.length e.2 e.1) s
      let s2 := (s1.setFld pSieve (SIEVE.STATUS_STATE.at k) 3).setPair pSieve (SIEVE.STEP_LO_STEP.at k)
        (SIEVE.STEP_HI_STEP.at k) (s.slotStepBase k)
      let s3 := (s2.setPair pSieve (SIEVE.LAUNCH_SID_LO_T.at k) (SIEVE.LAUNCH_SID_HI_T.at k) s.tb.count).setFld pSieve
        SIEVE.RUNNING_RUNNING (setBit s2.runningMask h)
      let r : RunSt := { slot := k, launched := s.tb.count, started := false, tiles := ts, entry := g.entry,
                         codeSize := g.codeSize, leafSram := g.leafSram, usesSid := bitAt g.flags 2, tried := false,
                         got := false, digested := false, takeAt := 0, takeRef := 0, anchor := false, gotAt := 0,
                         emits := [], poison := [], redDone := false, readyAt := 0, readyRef := 0, sentRef := 0,
                         sentRty := 0, faults := [], refUntil := 0, resumeAt := 0, active := false, haltReq := none }
      ((s3.setRun h r).provLaunch h r).setPair pDebug (DEBUG.HALT_TICKS_LO_N.at h) (DEBUG.HALT_TICKS_HI_N.at h) 0

/-- RUN_FIRST_ISSUE: 3,200 st after the launch every tile of the run may issue (R395). -/
def execRunFirstIssue (h : Fin 8) (s : State) : Host.Outcome State Fault Refusal :=
  match s.runOf h with
  | none => .next s
  | some r =>
    if r.started ∨ s.tb.count < r.launched + 3200 then .next s
    else
      let s1 := r.tiles.foldl (fun t n =>
        if (t.tl n).ctxs.isEmpty then t else t.tileState n (if (t.tl n).halted then 4 else 2)) s
      .next (s1.setRun h { r with started := true })

/-! ### SLOT_CTRL and the slot registers (R412, R413, R416) -/

/-- ABORT: a RUNNING slot's run is aborted (R416); a slot that is not RUNNING is unchanged (Table 10.8). -/
def State.slotAbort (s : State) (k : Nat) : State :=
  (List.range 8).foldl (fun t h =>
    match t.runOf h with
    | some r => if r.slot = k then t.abortRun h r 0 else t
    | none => t) s

/-- A write of SLOT_CTRL (Table 10.8; ABORT before LOAD, log entry 24). -/
def State.sieveCtrl (s : State) (k w who : Nat) : State :=
  let s1 := if bitAt w 2 then s.slotAbort k else s
  let s2 := if bitAt w 0 then s1.load_ k who else s1
  if bitAt w 1 && !bitAt w 2 then
    if bitAt w 0 then (s2.setFld pSieve (SIEVE.STATUS_REFUSE.at k) 1).raiseBy pSieve SIEVE.evLAUNCH_REFUSED who
    else s2.launch k who
  else s2

/-- A served write of a SIEVE register (Table 10.12, R412). -/
def State.sieveWrite (s : State) (hh off w : Nat) : State :=
  if off < 0x200 then s.writeFields pSieve (s.fieldsOf pSieve off) w
  else
    let k := (off - 0x200) / 0x80
    let r := (off - 0x200) % 0x80
    if r = 0 then s.sieveCtrl k w hh
    else if s.slotState k = 3 then s
    else if r = 0x50 then
      let v := bitsOf w 4 0
      let t := s.setFld pSieve (SIEVE.RED_TMO_EXP.at k) (clampNat 16 30 v)
      if v < 16 ∨ 30 < v then t.clampBit pSieve k else t
    else s.writeFields pSieve (s.fieldsOf pSieve off) w

/-- What live SIEVE registers read (Table 10.12). -/
def State.sieveView (s : State) (off : Nat) : Option Nat :=
  if off = 0x108 ∨ off = 0x10C then
    some ((List.range 4).foldl (fun v j => v + (s.tileSet ((off - 0x108) + j)).length / 4 % 32 * 2 ^ (8 * j)) 0)
  else none

/-- What live TILE registers read (Table 10.11, R158). -/
def State.tileView (s : State) (t off : Nat) : Option Nat :=
  let x := s.tl t
  let p := pTile t
  match x.ctxs[x.cur]? with
  | some c =>
    if off = 0x100 then some (s.fld p TILE.T_STATUS_SLOT * 2 ^ 20 + c.leaf * 2 ^ 8 + s.fld p TILE.T_STATUS_LEAVES * 2 ^ 3
      + s.fld p TILE.T_STATUS_STATE)
    else if off = 0x104 then some (s.tileNode t * 2 ^ 8 + s.physTile t)
    else if off = 0x108 then some (c.pc % 2 ^ 16)
    else none
  | none => if off = 0x104 then some (s.tileNode t * 2 ^ 8 + s.physTile t) else none

/-- A write access to SLOT_CTRL. -/
def State.ctrlAccess (s : State) (i : Instr) (a : Acc) (k w : Nat) : State :=
  let off := 0x200 + 0x80 * k
  s.access i a pSieve off true (fun t => t.sieveWrite a.hh off w)

/-- SLOT_LOAD (R392). -/
def execSlotLoad (a : Acc) (k : Fin 16) (s : State) : Host.Outcome State Fault Refusal :=
  .next (s.ctrlAccess (.slotLoad a k) a k 1)

/-- SLOT_LAUNCH (R394). -/
def execSlotLaunch (a : Acc) (k : Fin 16) (s : State) : Host.Outcome State Fault Refusal :=
  .next (s.ctrlAccess (.slotLaunch a k) a k 2)

/-- SLOT_ABORT (R416). -/
def execSlotAbort (a : Acc) (k : Fin 16) (s : State) : Host.Outcome State Fault Refusal :=
  .next (s.ctrlAccess (.slotAbort a k) a k 4)

/-! ### The step item (R398, R468, R610) -/

/-- TAKE_RETRY: the step-item port repeats a TAKE that found the queue empty, every 64 ticks from the launch (R610). -/
def execTakeRetry (h : Fin 8) (s : State) : Host.Outcome State Fault Refusal :=
  match s.runOf h with
  | some r => .next (if r.tried && !r.got && (s.tb.count - r.launched) % 64 == 0 then s.portTake h r else s)
  | none => .next s

/-- QUEUE_TAKE (R468): the run's own port charges the ledger and the record; a TAKE of another queue only holds its
item; a RELEASE_HELD of its beat comes first (Table 12.8). -/
def execQueueTake (a : Acc) (port : Bool) (q : Fin 256) (off : Fin 1024) (words : Fin 65) (s : State) :
    Host.Outcome State Fault Refusal :=
  .next (s.after (.queueTake a port q off words) (releasesHeld q) (s.heldAccess a port q words (fun t =>
    match t.runOf a.hh with
    | some r =>
      if t.slotInQ r.slot = q.val ∧ r.got = false then (t.portTake a.hh r).heldRead q words 0 a.hh
      else t.take q words off a.hh
    | none => t.take q words off a.hh)))

/-! ### Barriers and reductions (R400 to R404, R613, R623) -/

/-- The barrier that every leaf of a run on this chip has reached. -/
def State.barrierOf (s : State) (r : RunSt) : Option BarAt :=
  let ls := s.leaves r
  match ls with
  | [] => none
  | c :: _ => if ls.all (fun d => d.bar.isSome) then c.bar else none

/-- The leaves of a run on this chip in ascending leaf order. -/
def State.leavesUp (s : State) (r : RunSt) : List LeafSt :=
  (List.range 64).filterMap (fun g => (s.leaves r).find? (fun c => c.leaf == g))

/-- The result of a cross-chip barrier charges the ledger, over the ticks that the chip waited for it and that no other
cause has taken (R622, R623); a barrier of one chip charges nothing. `refMax`, `rtyMax`: the largest among the other chips'
contributions; `age`: the REPLAY_AGE of the frame that brought it. -/
def State.crossed (s : State) (h : Nat) (r : RunSt) (refMax rtyMax age : Nat) : State :=
  if s.slotChips r.slot ≤ 1 then s
  else
    s.chargeCross h (max refMax r.sentRef) (max rtyMax r.sentRty) age
      (s.tb.count - r.readyAt - (s.spent h - r.readyRef))

/-- The provenance engine's producer for a household (R399, R460). -/
def engineProducer (h : Nat) : Producer := ⟨36, 0, 4, h⟩

/-- Commits the items of a step: ascending leaf, then issue order, each with its header (R399, R415). -/
def State.commitEmits (s : State) (h : Nat) (r : RunSt) : State :=
  (List.range 64).foldl (fun t g =>
    (numbered 0 (r.emits.filter (fun e => e.leaf == g))).foldl (fun t e =>
      let bad := r.poison.contains g || (r.redDone && !r.poison.isEmpty)
      let hd := t.provHeader h r g e.1 bad
      { t.qPushItem e.2.queue (engineProducer h) (hd ++ e.2.words) 0 with resp := t.resp }) t) s

/-- A step completes: its items are committed, the counter increments and the step item is released (R400). -/
def State.stepDone (s : State) (h : Nat) (r : RunSt) : State :=
  let k := r.slot
  let s1 := s.commitEmits h r
  let s2 := s1.setPair pSieve (SIEVE.STEP_LO_STEP.at k) (SIEVE.STEP_HI_STEP.at k) ((s.slotStep k + 1) % 2 ^ 64)
  let s3 := if r.got then { s2.releaseHeld (s2.slotInQ k) 2 with resp := s2.resp } else s2
  let since := (s2.slotStep k + 2 ^ 64 - (s2.pvOf h).anchorStep) % 2 ^ 64
  let s4 := if 0xFFFFFFFF < since then s3.flagOnce h 15 PROV.evLEDGER_SAT else s3
  s4.setRun h { r with
    tried := false
    got := false
    digested := false
    takeAt := 0
    takeRef := 0
    anchor := false
    emits := []
    poison := []
    redDone := false
    active := true }

/-- The result of a cross-chip completion carries the HALTED bit of the other chips (R690). -/
def State.heardHalt (s : State) (h : Nat) (r : RunSt) (halted : Bool) : State :=
  if halted && decide (1 < s.slotChips r.slot) then s.setRunFlag h 13 else s

/-- What goes before a completion of a household's run on the same beat: a failure of another chip (Table 10.8), and what
moves a flag that the step's headers show (Table 16.8). -/
def beforeStep (h : Nat) (c : Instr) : Bool :=
  match c with
  | .remoteFail g => g.val == h
  | .refmonWindowEnd _ => true
  | .refLoss => true
  | .pllUnlock => true
  | .syncReceive .. => true
  | .delayRespReceive .. => true
  | .syntoniseDone => true
  | .parentTimeout => true
  | .constJoin _ => true
  | .constLeave _ => true
  | _ => false

/-- BARRIER_COMPLETE: every leaf of the run, on every chip, has reached STEP or BAR (R400); a STEP waits for the input
digest (R613), and a fault of the beat prevails (Table 10.8). -/
def execBarrierComplete : Fin 8 → RefReport → BitVec 32 → Bool → State → Host.Outcome State Fault Refusal
  | h, ⟨refMax, age⟩, rtyMax, halted, s =>
  .next (s.after (.barrierComplete h ⟨refMax, age⟩ rtyMax halted) (beforeStep h)
    (match s.runOf h with
    | none => s
    | some r =>
      match s.barrierOf r with
      | none => s
      | some b =>
        if b.cls ≠ 8 ∨ r.faults ≠ [] then s
        else if b.op = 0 ∧ r.got ∧ r.digested = false then s
        else
          let s1 := (s.crossed h r refMax.toNat rtyMax.toNat age.toNat).heardHalt h r halted
          let s2 := if b.op = 0 then s1.stepDone h r else s1.setRun h { r with active := true }
          s2.resume r id))

/-- What a reduction writes to a leaf's destination (Table 10.4). -/
def LeafSt.reduced (c : LeafSt) (vals : List Nat) : LeafSt :=
  match c.bar with
  | none => c
  | some b => if 0x10 ≤ b.op then c.setS b.rd (nth 0 vals 0) else c.setV b.rd (fun _ => true) (fun l => nth 0 vals l)

/-- The result of a reduction: this chip's subtree root, completed over the chip roots in chip order (R402 to
R404). -/
def State.reduction (s : State) (r : RunSt) (op : Nat) (roots : List (List Nat)) : List Nat :=
  let own := combine op ((s.leavesUp r).map (fun c =>
    match c.bar with
    | some b => b.vals
    | none => []))
  let n := s.slotChips r.slot
  if n ≤ 1 then own
  else combine op ((List.range n).map (fun k => if k = s.slotChip r.slot then own else nth [] roots k))

/-- REDUCTION_RESULT: the network, 40 beats after the last leaf value of a run on one chip, or the collector returns the
result to every leaf (R404). `roots`: the roots of the chips in chip order, for a run of several chips. -/
def execReductionResult : Fin 8 → List (List (BitVec 64)) → RefReport → BitVec 32 → Bool → State →
    Host.Outcome State Fault Refusal
  | h, roots, ⟨refMax, age⟩, rtyMax, halted, s =>
  match s.runOf h with
  | none => .next s
  | some r =>
    match s.barrierOf r with
    | none => .next s
    | some b =>
      if b.cls ≠ 6 ∨ r.faults ≠ [] ∨ (s.slotChips r.slot ≤ 1 ∧ s.tb.count < r.readyAt + 40) then .next s
      else
        let vals := s.reduction r b.op (roots.map (fun v => v.map BitVec.toNat))
        let s1 := ((s.crossed h r refMax.toNat rtyMax.toNat age.toNat).heardHalt h r halted).setRun h
          { r with active := true, redDone := true }
        .next (s1.resume r (fun c => c.reduced vals))

/-! ### Failures from other chips (R414) -/

/-- REMOTE_FAIL: another chip of the run failed (R414); a fault of this chip on the beat has stopped the run already. -/
def execRemoteFail (h : Fin 8) (s : State) : Host.Outcome State Fault Refusal :=
  match s.runOf h with
  | some r => .next (if s.slotChips r.slot ≤ 1 ∨ r.faults ≠ [] then s else s.runFail h r 12)
  | none => .next s

/-- RED_TIMEOUT: a chip's contribution is missing at the collector, which is this device, 2^RED_TMO.EXP st after the first
(Table 10.9; log entry 90). -/
def execRedTimeout (h : Fin 8) (s : State) : Host.Outcome State Fault Refusal :=
  match s.runOf h with
  | some r =>
    if s.slotChips r.slot ≤ 1 ∨ r.faults ≠ [] ∨ s.fld pSieve (SIEVE.CFG_COLLECTOR.at r.slot) ≠ s.fld pFab FAB.STATUS_DEV_NUM
        ∨ s.tb.count < r.launched + 3200 + 2 ^ s.fld pSieve (SIEVE.RED_TMO_EXP.at r.slot) then .next s
    else .next ((s.raiseBy pSieve SIEVE.evRED_TIMEOUT h).runFail h r 10)
  | none => .next s

/-! ### Tile SRAM from outside (R410, R643, R688, R690) -/

/-- The first address of tile SRAM (Table 5.1). -/
def sramBase : Nat := 0x1000000000

/-- The tiles that an access of region bytes `off` to `off + n - 1` covers. -/
def tilesOf (off n : Nat) : List Nat := (List.range ((off + n + 0x3FFFF) / 0x40000)).filter (fun t => off < (t + 1) * 0x40000)

/-- A write of tile SRAM by this master takes effect: no slot of the household is RUNNING, or it is the Wicket with the
WRITE right and the run is halted (R410, R688). -/
def State.sramOpen (s : State) (a : Acc) (t : Nat) : Bool :=
  let h := s.tileOwner t
  match s.runOf h with
  | none => true
  | some _ =>
    a.master == .wicket && s.on pDebug (DEBUG.RUN_STATUS_HALTED.at h)
      && (a.hh == 15 || bitAt (s.fld pDebug (DEBUG.RIGHTS_HH.at a.hh)) 1)

/-- Writes one byte of the tile SRAM region, if the tile is open to the write. -/
def State.sramPut (s : State) (a : Acc) : Nat → List Byte → State
  | _, [] => s
  | o, b :: bs =>
    let t := o / 0x40000
    (if s.sramOpen a t then s.setTl t ((s.tl t).put (o % 0x40000) [b]) else s).sramPut a (o + 1) bs

/-- The bookkeeping of a write that covers a tile: counted while the household runs, or marked in its headers (R410,
R690). -/
def State.sramMark (s : State) (a : Acc) (t : Nat) : State :=
  let h := s.tileOwner t
  if (s.runOf h).isNone then s
  else if s.sramOpen a t then s.setRunFlag h 13
  else s.bump (pTile t) TILE.T_XWRITE_COUNT

/-- Serves an access to tile SRAM of region bytes `off` to `off + n - 1` (R742, R643, R410). -/
def State.sramAccess (s : State) (i : Instr) (a : Acc) (off n : Nat) (write : Bool) (data : List Byte) : State :=
  let ts := tilesOf off n
  if s.por then s
  else if s.tb.dawn ≠ 0 then { s with held := s.held ++ [i] }
  else if 0x1000000 < off + n then s.decodeError a (sramBase + off) write 1
  else if ts.any (fun t => (s.blk (pTile t)).isNone) then s.decodeError a (sramBase + off) write 2
  else if s.hhReset.contains a.hh.val then { s with resp := some ⟨.reset, [0]⟩ }
  else if a.hh ≠ 15 ∧ ts.any (fun t => s.tileOwner t != a.hh.val) then s.denial a (sramBase + off) write
  else if write then
    let bs := (data ++ List.replicate n 0).take n
    ts.foldl (fun u t => u.sramMark a t) ((s.answer [0]).sramPut a off bs)
  else
    s.answer (bytesToWords ((n + 7) / 8) ((List.range n).map (fun k => (s.tl ((off + k) / 0x40000)).byte ((off + k) % 0x40000))))

/-- TILE_SRAM_ACCESS: an access of `words` 64-bit words from outside the tile (R410). -/
def execTileSramAccess (a : Acc) (t : Fin 64) (off : BitVec 18) (write : Bool) (words : Fin 65) (data : List Byte)
    (s : State) : Host.Outcome State Fault Refusal :=
  .next (s.sramAccess (.tileSramAccess a t off write words data) a (t * 0x40000 + off.toNat) (8 * words) write data)

end Sys2Proof.Machine
end

