-- ==== Sys2Proof/Machine/Almanac.lean ====
section
/-!
DEFINITION. The actions of the almanac (R125, R126, Table 4.5) and the boundary of a page's shadows, with what each block
adds to it.
-/

namespace Sys2Proof.Machine

/-- The EPHEM page's shadows apply; a changed POS_OFFSET restarts the fit (R216). -/
def State.applyEphem (s : State) : State :=
  let pos (t : State) := t.pair pEphem EPHEM.POS_OFFSET_LO_OFFSET EPHEM.POS_OFFSET_HI_OFFSET
  let t := s.applyShadows pEphem
  if pos s = pos t then t else t.ephRestart

/-- The pending shadows of a page apply on this beat, with what its block adds (R182, R331, R509, Table 6.8). -/
def State.applyPage (s : State) (p : Nat) : State :=
  match s.blk p with
  | some .motor => s.applyMotor (p - pMotor 0)
  | some .trig | some .strobe => s.applySched p
  | some .sch => if s.hasPending p then s.schApply (p - pSch 0) else s
  | some .ephem => s.applyEphem
  | some _ => s.applyShadows p
  | none => s

/-- A page counts as owned by h for APPLY_PAGE only if it is of kind P with OWNER h, or h's page of kind F (R126). -/
def State.pageOwned (s : State) (p h : Nat) : Bool :=
  match s.blk p with
  | some b => (b.own == .p || b.own == .f) && s.owner p == h
  | none => false

/-- The motor channels of an ALM_ARG. -/
def almMotors (arg : Nat) : List Nat := maskBits 4 arg

/-- The schedules of an ALM_ARG: bit k of the trigger mask acts on schedules 2k and 2k + 1 (R223). -/
def almScheds (arg : Nat) : List SchedF :=
  (maskBits 16 arg).flatMap (fun k => [trigF (2 * k), trigF (2 * k + 1)]) ++ (maskBits 8 (arg / 65536)).map stbF

/-- Every resource that an entry acts on is owned by its OWNER h (R126). -/
def State.almOwned (s : State) (e : AlmEntry) : Bool :=
  match e.code with
  | 1 => s.pageOwned e.target e.owner
  | 2 => e.arg % 16 == e.owner && s.slotOwner (bitsOf e.arg 11 8) == e.owner
  | 3 | 4 => (almMotors e.arg).all (fun n => s.owner (pMotor n) == e.owner)
  | 5 | 6 => (maskBits 16 e.arg).all (fun k => s.fld pTrig (TRIG.TRG_OWNER_OUT.at k) == e.owner)
      && (maskBits 8 (e.arg / 65536)).all (fun k => s.fld pStrobe (STROBE.STB_OWNER_OUT.at k) == e.owner)
  | 7 => false
  | _ => true

/-- The action of an entry, none where a REF_SWITCH has no target (Table 4.5). A RUN_LAUNCH of the manager that names
another household than the slot's owner launches nothing (DESIGN CHOICE, log entry 41). -/
def State.almAct (s : State) (e : AlmEntry) : Option State :=
  match e.code with
  | 1 => some (if s.boundary e.target = 2 then s.applyPage e.target else s)
  | 2 => some (if s.slotOwner (bitsOf e.arg 11 8) = e.arg % 16 then s.launch (bitsOf e.arg 11 8) e.owner else s)
  | 3 => some ((almMotors e.arg).foldl (fun t n => t.startReq n e.owner) s)
  | 4 => some ((almMotors e.arg).foldl (fun t n => t.stopReq n) s)
  | 5 => some ((almScheds e.arg).foldl (fun t f => t.arm f) s)
  | 6 => some ((almScheds e.arg).foldl (fun t f => t.disarm f) s)
  | 7 => s.refSwitch e.arg
  | 8 => some (s.raise pTime TIME.evALMANAC_MARK)
  | _ => some s

/-- The denial of an entry in the HH page of its owner; the spec names no address and no node of it, so they are free
values (R126, R659). -/
def State.almDenial (s : State) (h : Nat) : State :=
  let a : Acc := ⟨.engine, ⟨h % 16, by omega⟩, ⟨s.freeAt 1 6 % 64, by omega⟩, 0, false⟩
  { (s.denial a (s.freeVal 38) true).drew 2 with resp := s.resp }

/-- An entry applies (R125, R126): DENIED, NO_TARGET, or its action and DONE, with the count recorded. -/
def State.almFire (s : State) (k : Nat) (e : AlmEntry) : State :=
  let c := s.tb.count
  let ends (t : State) (st : Nat) : State := t.setAlm k { e with st := st, applied := c, now := none }
  if e.owner ≠ 15 ∧ !s.almOwned e then
    ((ends s 5).almDenial e.owner).raiseBy pTime TIME.evALM_DENIED e.owner
  else
    match (ends s 3).almAct e with
    | some t => t
    | none => (ends s 7).raise pTime TIME.evALM_NO_TARGET

/-- The moment of an armed entry has come: its meridian, or the tick after it was armed late (R125, R127). -/
def State.almDue (s : State) (e : AlmEntry) : Bool :=
  e.armed && (match e.now with
    | some b => decide (b ≤ s.tb.beat)
    | none => decide (e.mer ≤ s.tb.count))

/-- An entry of lower index and the same meridian has still to apply (Table 4.7). -/
def State.almBehind (s : State) (k : Nat) (e : AlmEntry) : Bool :=
  s.tb.alm.any (fun x => decide (x.1 < k) && x.2.armed && x.2.now.isNone && e.now.isNone && x.2.mer == e.mer)

/-- ALM_APPLY (R125): the meridian of an armed entry has come, or it was armed late with LATE = NOW (R127); entries of one
meridian apply in ascending index (Table 4.7). -/
def execAlmApply (k : Fin 64) (s : State) : Host.Outcome State Fault Refusal :=
  let e := s.almEntry k
  .next (if s.almDue e && !s.almBehind k e then s.almFire k e else s)

end Sys2Proof.Machine
end

