-- ==== Sys2Proof/Machine/Debug.lean ====
section
/-!
DEFINITION. The Wicket port's sessions and line, the debug keys, run control and boundary scan (Chapter 18). A Wicket READ
or WRITE reaches its target in Access.
-/

namespace Sys2Proof.Machine

/-! ### The line (R671, R675, R698, R699) -/

/-- Strap CFG3 has disabled the port (R671). -/
def State.wkStrapped (s : State) : Bool := s.dbg.off

/-- The port answers: it is not strapped off, a dawn has ended, and boundary scan does not hold it in line reset (R671,
R695, R699). -/
def State.wkAlive (s : State) : Bool := !s.wkStrapped && s.tb.dawned && !s.tapHolds

/-- The bits of a number, least significant first (R674). -/
def lineBits (n v : Nat) : List Bool := (List.range n).map (bitAt v)

/-- The CRC-16 of the line over bits in transmission order (R674). -/
def crc16 (bs : List Bool) : Nat :=
  bs.foldl (fun c b => let x := c / 2; if bitAt c 0 != b then x ^^^ 0x8408 else x) 0xFFFF

/-- A response after READY: the ACK, and the payload of words of `width` bits with its CRC, if there is one (R675). -/
def wkBits (width ack : Nat) (ws : List Nat) : List Bool :=
  let p := ws.flatMap (lineBits width)
  lineBits 3 ack ++ (if ws.isEmpty then [] else p ++ lineBits 16 (crc16 p))

/-- A response with payload words of so many bits goes out on the line. -/
def State.wkSend (s : State) (width ack : Nat) (ws : List Nat) : State :=
  let t := s.send "WICKET" ack ws
  { t with dbg := { t.dbg with sent := wkBits width ack ws } }

/-- A response: ACK 1 OK, 2 WAIT or 4 FAULT, with its payload words (R675). -/
def State.wkReply (s : State) (ack : Nat) (ws : List Nat) : State := s.wkSend 64 ack ws

/-- A FAULT response, kept as LAST_FAULT (Tables 18.4, 18.5). -/
def State.wkFault (s : State) (code : Nat) : State :=
  let t := s.wkSend 8 4 [code]
  { t with dbg := { t.dbg with lastFault := code } }

/-- What a request on the line does: nothing while the port does not answer, which the probe reads as ACK 7. -/
def State.wk (s : State) (k : State → State) : State := if s.wkAlive then k s else s

/-- A protocol fault: the first in a window of 2^20 st raises WICKET_PROTO (R698). -/
def State.wkProto (s : State) (f : Fld) : State :=
  let t := s.bump pDebug f
  let fresh := match s.dbg.protoAt with
    | none => true
    | some c => decide (c + 2 ^ 20 ≤ s.tb.beat)
  if fresh then
    let u : State := { t with dbg := { t.dbg with protoAt := some s.tb.beat } }
    u.raise pDebug DEBUG.evWICKET_PROTO
  else t

/-- WICKET_BAD_OP (R675). -/
def execWicketBadOp (s : State) : Host.Outcome State Fault Refusal := .next (s.wk (fun t => t.wkFault 2))

/-- WICKET_CRC_FAULT (R698): answered when the header can be framed. -/
def execWicketCrcFault (framed : Bool) (s : State) : Host.Outcome State Fault Refusal :=
  .next (s.wk (fun t =>
    let u := t.wkProto DEBUG.PROTO_ERRS_CRC
    if framed then u.wkFault 1 else u))

/-- WICKET_LINE_RESET (R678, R698): the request is discarded; no session ends. -/
def execWicketLineReset (s : State) : Host.Outcome State Fault Refusal :=
  .next (s.wk (fun t => t.wkProto DEBUG.PROTO_ERRS_OTHER))

/-- The accesses that are not orphans: the pending one. -/
def State.wkPending (s : State) : Option WkAcc := s.dbg.acc.find? (fun x => !x.orphan)

/-- The STATUS word (Table 18.5). -/
def State.wkStatusWord (s : State) : Nat :=
  s.si.factoryId % 2 ^ 32 * 2 ^ 32 + s.fld pDebug DEBUG.AUTH_FAILS_COUNT * 2 ^ 16 + s.dbg.lastFault % 256 * 2 ^ 8
    + b2n s.wkPending.isSome * 2 ^ 7 + s.fld pDebug DEBUG.SESSION_OPEN_BOOT * 2 ^ 6
    + s.fld pDebug DEBUG.SESSION_LOCKOUT * 2 ^ 5 + s.fld pDebug DEBUG.SESSION_AUTH * 2 ^ 4 + s.fld pDebug DEBUG.SESSION_ID

/-- WICKET_STATUS (R675). -/
def execWicketStatus (s : State) : Host.Outcome State Fault Refusal :=
  .next (s.wk (fun t => t.wkReply 1 [t.wkStatusWord]))

/-- WICKET_ABORT (R677): the pending access is forgotten; a response that still comes is discarded. -/
def State.wkForget (s : State) : State :=
  { s with dbg := { s.dbg with
      acc := (s.dbg.acc.filter (fun x => x.done.isNone)).map (fun (x : WkAcc) => { x with orphan := true })
      busy := false } }

/-- WICKET_ABORT. -/
def execWicketAbort (s : State) : Host.Outcome State Fault Refusal :=
  .next (s.wk (fun t => t.wkForget.wkReply 1 []))

/-- WICKET_BUSY_LIMIT (R677): WAIT is answered and the access stays pending. -/
def execWicketBusyLimit (s : State) : Host.Outcome State Fault Refusal :=
  .next (s.wk (fun t =>
    if t.dbg.busy then
      let u : State := { t with dbg := { t.dbg with busy := false } }
      u.wkReply 2 []
    else t))

/-! ### Sessions (R678 to R683) -/

/-- A session ends (R678). -/
def State.endSession (s : State) : State :=
  if s.on pDebug DEBUG.SESSION_AUTH then
    ((s.setFld pDebug DEBUG.SESSION_AUTH 0).setFld pDebug DEBUG.SESSION_ID 0xE).raise pDebug DEBUG.evSESSION_END
  else s

/-- WICKET_LOGOUT. -/
def execWicketLogout (s : State) : Host.Outcome State Fault Refusal :=
  .next (s.wk (fun t => t.endSession.wkReply 1 []))

/-- DBG_RST: DBG_RST_N low for 1 µs ends the session; a pending access completes and its response is discarded (R671,
R678, Table 18.8). -/
def execDbgRst (s : State) : Host.Outcome State Fault Refusal :=
  .next (if s.wkStrapped then s else s.wkForget.endSession)

/-- SESSION_END_WRITE: the manager's write of SESSION_CTRL.END (R678). -/
def execSessionEndWrite (a : Acc) (s : State) : Host.Outcome State Fault Refusal :=
  .next (s.mgrAccess (.sessionEndWrite a) a pDebug 0x10C State.endSession)

/-- WICKET_CHALLENGE (R679, R681): a fresh nonce, or LOCKOUT. -/
def execWicketChallenge (s : State) : Host.Outcome State Fault Refusal :=
  .next (s.wk (fun t =>
    if t.on pDebug DEBUG.SESSION_LOCKOUT then t.wkFault 5
    else
      let n := t.freeVal 256
      let u : State := { t.drew with dbg := { t.dbg with nonce := some n, nonceAt := t.tb.beat } }
      u.wkReply 1 ((List.range 4).map (fun i => n / 2 ^ (64 * i) % 2 ^ 64))))

/-- The nonce is still valid: 2^30 st have not passed (R679). -/
def State.freshNonce (s : State) : Option Nat := if s.tb.beat < s.dbg.nonceAt + 2 ^ 30 then s.dbg.nonce else none

/-- WICKET_NONCE_EXPIRE: 2^30 st after the CHALLENGE (R679). -/
def execWicketNonceExpire (s : State) : Host.Outcome State Fault Refusal :=
  .next { s with dbg := { s.dbg with nonce := s.freshNonce } }

/-- WICKET_AUTH (R680, R681): the check starts and spends the nonce. -/
def execWicketAuth (arg : Fin 16) (mac : BitVec 256) (s : State) : Host.Outcome State Fault Refusal :=
  .next (s.wk (fun t =>
    if t.on pDebug DEBUG.SESSION_LOCKOUT then t.wkFault 5
    else { t with dbg := { t.dbg with
      check := some ⟨arg.val, leBytes 32 mac.toNat, t.freshNonce, false⟩, checkAt := t.tb.beat + 400
      nonce := none } }))

/-- The key index of an identity (R680). -/
def keyOf (i : Nat) : Nat := if i < 8 then i else 8

/-- An AUTH check succeeds (R680, R682). -/
def State.authOk (s : State) (c : AuthCheck) : Bool :=
  let k := keyOf c.ident
  (c.ident == 15 && !c.stale && s.on pDebug DEBUG.SESSION_OPEN_BOOT)
  || (decide (c.ident < 8 ∨ c.ident = 15) && !c.stale && bitAt (s.fld pDebug DEBUG.KEY_STATUS_KEY_SET) k
      && (c.ident == 15 || s.fld pDebug (DEBUG.RIGHTS_HH.at c.ident) != 0)
      && (match c.nonce with
        | none => false
        | some n => hmacSha256 (leBytes 32 (Tab.get 0 s.dbg.keys k))
            (leBytes 32 n ++ leBytes 8 s.si.factoryId ++ leBytes 1 c.ident) == c.mac))

/-- AUTH_CHECK_DONE (R680, R681): after 400 beats a session opens, or the failure is counted and three in a row lock
out for 2^30 st. A write of the key on the same beat makes it fail (Table 18.8). -/
def execAuthCheckDone (s : State) : Host.Outcome State Fault Refusal :=
  match (if s.tb.beat < s.dbg.checkAt then none else s.dbg.check) with
  | none => .next s
  | some c =>
    let t : State := { s with dbg := { s.dbg with check := none } }
    if s.authOk c then
      let u := ((t.setFld pDebug DEBUG.SESSION_AUTH 1).setFld pDebug DEBUG.SESSION_ID c.ident).raise pDebug
        DEBUG.evAUTH_OK
      .next ({ u with dbg := { u.dbg with fails := 0 } }.wkReply 1 [])
    else
      let n := min 3 (s.dbg.fails + 1)
      let u := (t.bump pDebug DEBUG.AUTH_FAILS_COUNT).raise pDebug DEBUG.evAUTH_FAIL
      let v := ({ u with dbg := { u.dbg with fails := n } } : State).wkFault 6
      let x : State := { v with dbg := { v.dbg with lockAt := v.tb.beat + 2 ^ 30 } }
      .next (if n = 3 then (x.setFld pDebug DEBUG.SESSION_LOCKOUT 1).raise pDebug DEBUG.evAUTH_LOCKOUT else v)

/-- AUTH_LOCKOUT_END (R681). -/
def execAuthLockoutEnd (s : State) : Host.Outcome State Fault Refusal :=
  .next (if s.tb.beat < s.dbg.lockAt then s else s.setFld pDebug DEBUG.SESSION_LOCKOUT 0)

/-- A served write of word `i` of key `k` (R678, R682, R683): it ends a session of the key's identity and fails a check
for it; the last word sets the key, and key 8 then ends OPEN_BOOT. -/
def State.keyWrite (s : State) (k i w : Nat) : State :=
  let old := Tab.get 0 s.dbg.keys k
  let new := old - bitsOf old (32 * i + 31) (32 * i) * 2 ^ (32 * i) + w % 2 ^ 32 * 2 ^ (32 * i)
  if s.isLocked pDebug then (if new = old then s else s.lockViol pDebug)
  else
    let chk := s.dbg.check.map (fun (c : AuthCheck) => if keyOf c.ident = k then { c with stale := true } else c)
    let t : State := { s with dbg := { s.dbg with keys := Tab.set 0 s.dbg.keys k new, check := chk } }
    let u := if t.on pDebug DEBUG.SESSION_AUTH && keyOf (t.fld pDebug DEBUG.SESSION_ID) == k then t.endSession else t
    if i = 7 then
      let v := u.orFld pDebug DEBUG.KEY_STATUS_KEY_SET (2 ^ k)
      if k = 8 then v.setFld pDebug DEBUG.SESSION_OPEN_BOOT 0 else v
    else u

/-- DEBUG_KEY_WRITE (R683). -/
def execDebugKeyWrite (a : Acc) (k : Fin 9) (i : Fin 8) (w : Word) (s : State) : Host.Outcome State Fault Refusal :=
  .next (s.mgrAccess (.debugKeyWrite a k i w) a pDebug (0x800 + 0x20 * k.val + 4 * i.val) (fun t => t.keyWrite k i w.toNat))

/-! ### Halt, step and resume (R686, R687, R690, R691) -/

/-- HALT (R686): a RUNNING run that is neither halted nor halting begins to halt. -/
def State.haltReq (s : State) (h : Nat) : State :=
  match s.runOf h with
  | none => s
  | some r => if s.runHalted h || r.haltReq.isSome then s else s.haltRun h 1 64

/-- RESUME (R687, R691): the tiles issue again 8 beats later, and the halted ticks are counted. -/
def State.resumeRun (s : State) (h : Nat) : State :=
  match s.runOf h with
  | none => s
  | some r =>
    if s.runHalted h then
      let s1 := r.tiles.foldl (fun t n =>
        let x := t.tl n
        let u := t.setTl n { x with halted := false, steps := 0, freeAt := max x.freeAt (s.tb.beat + 8) }
        if t.fld (pTile n) TILE.T_STATUS_STATE = 4 then u.tileState n (if x.next.isNone then 3 else 2) else u) s
      let ticks := min (2 ^ 64 - 1) (s.pair pDebug (DEBUG.HALT_TICKS_LO_N.at h) (DEBUG.HALT_TICKS_HI_N.at h)
        + s.haltedFor h + 8)
      ((((s1.setRun h { r with haltReq := none, resumeAt := s.tb.beat + 8 }).setPair pDebug (DEBUG.HALT_TICKS_LO_N.at h)
        (DEBUG.HALT_TICKS_HI_N.at h) ticks).setFld pDebug (DEBUG.RUN_STATUS_HALTED.at h) 0).setFld pDebug
        (DEBUG.RUN_STATUS_STEPPING.at h) 0).raiseBy pDebug DEBUG.evRESUMED h
    else s

/-- STEP (R687, R696): each halted tile may issue STEP_N instructions. -/
def State.stepRun (s : State) (h : Nat) : State :=
  match s.runOf h with
  | none => s
  | some r =>
    if s.runHalted h && !s.on pDebug (DEBUG.RUN_STATUS_STEPPING.at h) then
      let n := s.fld pDebug (DEBUG.RUN_CTRL_STEP_N.at h)
      let s1 := r.tiles.foldl (fun t k => t.setTl k { t.tl k with steps := n, issuedAt := s.tb.beat }) s
      (s1.setRun h { r with haltReq := none }).setFld pDebug (DEBUG.RUN_STATUS_STEPPING.at h) 1
    else s

/-- A served write of RUN_CTRL of block `h`: STEP_N written as 0 is 1 (R696); HALT goes before RESUME (Table 18.8). -/
def State.runCtrlWrite (s : State) (h w : Nat) : State :=
  let t := s.setFld pDebug (DEBUG.RUN_CTRL_STEP_N.at h) (max 1 (bitsOf w 15 0))
  if bitAt w 31 then t.haltReq h else if bitAt w 30 then t.resumeRun h else if bitAt w 29 then t.stepRun h else t

/-- A write access to a register of block `h` (R685). -/
def State.blockAccess (s : State) (i : Instr) (a : Acc) (h r : Nat) (write : Bool) (k : State → State) : State :=
  s.access i a pDebug (0x200 + 0x40 * h + r) write k

/-- RUN_HALT (R686). -/
def execRunHalt (a : Acc) (h : Fin 8) (w : Word) (s : State) : Host.Outcome State Fault Refusal :=
  .next (s.blockAccess (.runHalt a h w) a h 0 true (fun t => t.runCtrlWrite h (setBit w.toNat 31)))

/-- RUN_RESUME (R687). -/
def execRunResume (a : Acc) (h : Fin 8) (w : Word) (s : State) : Host.Outcome State Fault Refusal :=
  .next (s.blockAccess (.runResume a h w) a h 0 true (fun t => t.runCtrlWrite h (setBit w.toNat 30)))

/-- RUN_STEP (R687). -/
def execRunStep (a : Acc) (h : Fin 8) (w : Word) (s : State) : Host.Outcome State Fault Refusal :=
  .next (s.blockAccess (.runStep a h w) a h 0 true (fun t => t.runCtrlWrite h (setBit w.toNat 29)))

/-- RUN_STATUS takes a cause and a tile; no tile caused a requested halt or a step's end, and TILE is then free. -/
def State.haltCause (s : State) (h cause tile : Nat) : State :=
  let t := s.setFld pDebug (DEBUG.RUN_STATUS_CAUSE.at h) cause
  if tile < 64 then t.setFld pDebug (DEBUG.RUN_STATUS_TILE.at h) tile
  else (t.setFld pDebug (DEBUG.RUN_STATUS_TILE.at h) (s.freeVal 6)).drew

/-- RUN_HALTED: the last tile has stopped (R686, R690). -/
def execRunHalted (h : Fin 8) (s : State) : Host.Outcome State Fault Refusal :=
  match s.runOf h with
  | none => .next s
  | some r =>
    match r.haltReq with
    | none => .next s
    | some (cause, tile) =>
      if s.runHalted h ∨ r.faults ≠ [] then .next s
      else
        let s1 := r.tiles.foldl (fun t n => if (t.tl n).ctxs.isEmpty then t else t.tileState n 4) s
        let s2 := (s1.setRun h { r with haltReq := none }).haltCause h cause tile
        let s3 := (s2.setFld pDebug (DEBUG.RUN_STATUS_HALTED.at h) 1).setPair pDebug (DEBUG.HALT_SID_LO_T.at h)
          (DEBUG.HALT_SID_HI_T.at h) s.tb.count
        .next (((s3.bump pDebug (DEBUG.HALT_COUNT_N.at h)).setRunFlag h 13).raiseBy pDebug DEBUG.evHALTED h)

/-- A tile has finished its step: it has issued its instructions, has hit a breakpoint, or has issued nothing for 1,024
beats (R687). -/
def State.stepped (s : State) (t : Nat) : Bool :=
  let x := s.tl t
  x.ctxs.isEmpty || x.steps == 0 || decide (x.issuedAt + 1024 ≤ s.tb.beat)

/-- RUN_STEP_DONE (R687): every tile has finished its step; a breakpoint hit during it keeps its own cause. -/
def execRunStepDone (h : Fin 8) (s : State) : Host.Outcome State Fault Refusal :=
  match s.runOf h with
  | none => .next s
  | some r =>
    if s.on pDebug (DEBUG.RUN_STATUS_STEPPING.at h) && r.tiles.all s.stepped && r.faults.isEmpty then
      let s1 := r.tiles.foldl (fun t n => t.setTl n { t.tl n with halted := true, steps := 0 }) s
      let q := r.haltReq.getD (4, 64)
      .next (((s1.setRun h { r with haltReq := none }).haltCause h q.1 q.2).setFld pDebug
        (DEBUG.RUN_STATUS_STEPPING.at h) 0)
    else .next s

/-! ### Leaf contexts (R688) -/

/-- The tile and the position of the leaf that CTX_SEL names. -/
def State.ctxAt (s : State) (h : Nat) : Option (Nat × Nat × LeafSt) :=
  match (s.tileSet h)[s.fld pDebug (DEBUG.CTX_SEL_TILE.at h)]? with
  | none => none
  | some t =>
    match (s.tl t).ctxs.findIdx? (fun c => c.leaf == s.fld pDebug (DEBUG.CTX_SEL_LEAF.at h)) with
    | none => none
    | some i => ((s.tl t).ctxs[i]?).map (fun c => (t, i, c))

/-- The register of a leaf that CTX_SEL names. -/
def State.ctxRead (s : State) (h : Nat) (c : LeafSt) : Nat :=
  let r := s.fld pDebug (DEBUG.CTX_SEL_REG.at h)
  match s.fld pDebug (DEBUG.CTX_SEL_FILE.at h) with
  | 0 => c.sreg r
  | 1 => c.lane r (s.fld pDebug (DEBUG.CTX_SEL_LANE.at h))
  | 2 => c.preg (r % 8)
  | _ => c.pc

/-- Sets the register of a leaf that CTX_SEL names. -/
def State.ctxSet (s : State) (h : Nat) (c : LeafSt) (v : Nat) : LeafSt :=
  let r := s.fld pDebug (DEBUG.CTX_SEL_REG.at h)
  let l := s.fld pDebug (DEBUG.CTX_SEL_LANE.at h)
  match s.fld pDebug (DEBUG.CTX_SEL_FILE.at h) with
  | 0 => c.setS r v
  | 1 => c.setV r (· == l) (fun _ => v)
  | 2 => c.setP (r % 8) v
  | _ => { c with pc := v % 2 ^ 32 }

/-- A read of CTX_DATA_LO or _HI: refused while the run is not halted; a leaf or tile that is not there reads as a free
value. -/
def State.ctxDataRead (s : State) (h : Nat) (hi : Bool) : Nat × State :=
  if s.runHalted h then
    match s.ctxAt h with
    | none => (s.freeVal 32, s.drew)
    | some (_, _, c) =>
      let v := s.ctxRead h c
      (if hi then (if s.fld pDebug (DEBUG.CTX_SEL_FILE.at h) = 0 then v / 2 ^ 32 else 0) else v % 2 ^ 32, s)
  else (0, s.raiseBy pDebug DEBUG.evCTX_DENIED h)

/-- A write of CTX_DATA_LO or _HI. -/
def State.ctxDataWrite (s : State) (h : Nat) (hi : Bool) (w : Nat) : State :=
  if s.runHalted h then
    match s.ctxAt h with
    | none => s
    | some (t, i, c) =>
      let scalar := s.fld pDebug (DEBUG.CTX_SEL_FILE.at h) == 0
      let v := s.ctxRead h c
      let d := if scalar then (if hi then w * 2 ^ 32 + v % 2 ^ 32 else v / 2 ^ 32 * 2 ^ 32 + w) else w
      let x := s.tl t
      if hi && !scalar then s else s.setTl t { x with ctxs := x.ctxs.set i (s.ctxSet h c d) }
  else s.raiseBy pDebug DEBUG.evCTX_DENIED h

/-- CTX_DATA_ACCESS (R688). -/
def execCtxDataAccess (a : Acc) (h : Fin 8) (hi write : Bool) (w : Word) (s : State) :
    Host.Outcome State Fault Refusal :=
  .next (s.blockAccess (.ctxDataAccess a h hi write w) a h (if hi then 0x20 else 0x1C) write (fun t =>
    if write then t.ctxDataWrite h hi w.toNat
    else
      let r := t.ctxDataRead h hi
      r.2.answer [r.1]))

/-! ### The DEBUG page -/

/-- A served write of a DEBUG register. -/
def State.debugWrite (s : State) (off w : Nat) : State :=
  if off = 0x10C then (if bitAt w 0 then s.endSession else s)
  else if 0x200 ≤ off ∧ off < 0x400 then
    let h := (off - 0x200) / 0x40
    let r := (off - 0x200) % 0x40
    if r = 0 then s.runCtrlWrite h w
    else if r = 0x1C then s.ctxDataWrite h false w
    else if r = 0x20 then s.ctxDataWrite h true w
    else s.writeFields pDebug (s.fieldsOf pDebug off) w
  else if 0x800 ≤ off ∧ off < 0x920 then s.keyWrite ((off - 0x800) / 0x20) ((off - 0x800) % 0x20 / 4) w
  else s.writeFields pDebug (s.fieldsOf pDebug off) w

/-- The live registers of the DEBUG page. -/
def State.debugView (s : State) (off : Nat) : Option Nat :=
  if 0x200 ≤ off ∧ off < 0x400 then
    let h := (off - 0x200) / 0x40
    let r := (off - 0x200) % 0x40
    if r = 0x10 then some (s.haltTicks h % 2 ^ 32)
    else if r = 0x14 then some (s.haltTicks h / 2 ^ 32)
    else none
  else none

/-- A household reset returns its block to its WARM values, and keeps RIGHTS and the keys (R699). -/
def State.debugHouseholdReset (s : State) (h : Nat) : State :=
  s.clearRegs pDebug ((0x200 + 0x40 * h) * 8) ((0x240 + 0x40 * h) * 8)

/-! ### Boundary scan (R693 to R695) -/

/-- A TAP instruction comes into force; with CFG3 = 1 only BYPASS and IDCODE do (Table 18.7). EXTEST, CLAMP and HIGHZ
hold every gate off, and the port in line reset. -/
def State.tapSet (s : State) (code : Nat) : State :=
  let c := if s.wkStrapped ∧ code ≠ 1 then 0x3F else code
  let t : State := { s with dbg := { s.dbg with tap := c } }
  if t.tapHolds then (List.range 4).foldl (fun u n => u.gatesOff n) t else t

/-- TAP_BYPASS. -/
def execTapBypass (s : State) : Host.Outcome State Fault Refusal := .next (s.tapSet 0x3F)

/-- TAP_IDCODE (R694): the ID register is selected and shifted out. -/
def execTapIdcode (s : State) : Host.Outcome State Fault Refusal :=
  .next ((s.tapSet 1).send "TDO" 0 [if s.si.is9656 then 0x096569AB else 0x096649AB])

/-- TAP_SAMPLE_PRELOAD. -/
def execTapSamplePreload (s : State) : Host.Outcome State Fault Refusal := .next (s.tapSet 2)

/-- TAP_EXTEST. -/
def execTapExtest (s : State) : Host.Outcome State Fault Refusal := .next (s.tapSet 0)

/-- TAP_CLAMP. -/
def execTapClamp (s : State) : Host.Outcome State Fault Refusal := .next (s.tapSet 3)

/-- TAP_HIGHZ. -/
def execTapHighz (s : State) : Host.Outcome State Fault Refusal := .next (s.tapSet 4)

/-- TAP_RESET (R695): IDCODE is the reset instruction. -/
def execTapReset (s : State) : Host.Outcome State Fault Refusal := .next (s.tapSet 1)

end Sys2Proof.Machine
end

