-- ==== Sys2Proof/Machine/Gate.lean ====
section
/-!
DEFINITION. PWM periods, command edges, the gate drivers' events, protection and diagnostics (Chapter 9), and the
power-stage supplies (R97).
-/

namespace Sys2Proof.Machine

/-! ### PWM periods (R342 to R348, R352) -/

/-- The dead-time loop of one side: the value in force, and whether it lay outside the envelope (R352). -/
def State.deadTime (s : State) (n : Nat) (hist : List Nat) : Nat × Bool :=
  let p := pPwm n
  let v := hist.foldl max 0 + s.fld p PWM.DT_ADAPT_MARGIN
  let lo := s.fld p PWM.DT_ENV_MIN
  let hi := s.fld p PWM.DT_ENV_MAX
  (clampNat lo hi v, decide (v < lo) || decide (hi < v))

/-- The dead-time loop at a period start (R352, R353). -/
def State.adaptDeadTime (s : State) (n : Nat) : State :=
  let p := pPwm n
  let x := s.pw n
  let hh := (x.curH :: x.histH).take 16
  let hl := (x.curL :: x.histL).take 16
  let x1 := { x with histH := hh, histL := hl, curH := 0, curL := 0 }
  if !s.on p PWM.CFG_ADT_EN then s.setPw n { x1 with pinH := 0, pinL := 0 }
  else
    let dh := s.deadTime n hh
    let dl := s.deadTime n hl
    let kh := if dh.2 then x.pinH + 1 else 0
    let kl := if dl.2 then x.pinL + 1 else 0
    let s1 := ((((s.setPw n { x1 with pinH := kh, pinL := kl }).setFld p PWM.MEAS_WAIT_G_HS (hh.foldl max 0)).setFld p
      PWM.MEAS_WAIT_G_LS (hl.foldl max 0)).setFld p PWM.DT_OUT_DT_HS dh.1).setFld p PWM.DT_OUT_DT_LS dl.1
    if kh = 256 ∨ kl = 256 then s1.raise p PWM.evLOOP_PINNED else s1

/-- The generator takes its values at a period start (R344), which began on beat `b`; compares are limited to the period's
maximum (Table 9.7), and the next start follows back to back (R343). -/
def State.takePeriod (s : State) (n b : Nat) : State :=
  let p := pPwm n
  let ud := s.on p PWM.CFG_MODE
  let per0 := s.fld p PWM.PERIOD_PERIOD
  let per := if ud then per0 - per0 % 2 else per0
  let top := if ud then per / 2 else per
  let cmp := (List.range 3).map (fun k => s.fld p (PWM.CMP_CMP.at k))
  let cmpl := (List.range 3).map (fun k => s.fld p (PWM.CMPL_CMPL.at k))
  let hit := cmp.any (fun c => decide (top < c))
  let x := s.pw n
  let s1 := s.setPw n { x with
    running := true, start := b, due := some (b + per), period := per, updown := ud, compl := s.on p PWM.CFG_COMPL
    cmp := cmp.map (min top), cmpl := cmpl.map (min top)
    phase := (List.range 3).map (fun k => s.fld p (PWM.PHASE_STATE_PH.at k))
    dtH := s.fld p PWM.DT_OUT_DT_HS, dtL := s.fld p PWM.DT_OUT_DT_LS, cmd0 := (s.gt n).cmd
    carry := if x.running then (List.range 6).map (x.carryOut (s.fld p PWM.MIN_PULSE_MIN)) else [] }
  let s2 := s1.setPair p PWM.LAST_START_LO_T PWM.LAST_START_HI_T ((s.tb.count + 2 ^ 64 - (s.tb.beat - b)) % 2 ^ 64)
  if hit then s2.clampBit p 1 else s2

/-- The commands of the channel apply again to the switches that nothing holds off any more (R323, R364). -/
def State.retry (s : State) (n : Nat) : State :=
  ((List.range 6).filter (bitAt (s.gt n).cmd)).foldl (fun t sw => t.tryOn n sw) s

/-- The protection state that a period start ends (R323, R364): with TRIP_N high the commands apply again; low, the new
period stays off, and the sixteenth such start in a row latches. -/
def State.gatePeriod (s : State) (n : Nat) : State :=
  let g := s.gt n
  let k := if g.tripLow then g.tripN + 1 else 0
  let s1 := (s.setGt n { g with cbcOff := 0, cycOff := s.tripActs n && g.cycOff, tripN := k }).modMo n
    (fun m => { m with cbcNow := false, cbcN := if m.cbcNow then m.cbcN else 0 })
  let s2 := s1.setFld (pMotor n) MOTOR.STATUS_CBC_ACTIVE 0
  if 16 ≤ k ∧ s2.tripActs n ∧ !s2.on (pGate n) GATE.LATCH_TRIP then s2.tripLatch n else s2.retry n

/-- PWM_PERIOD_START (R343, R344): a start is due; the PERIOD boundary, the values taken, the dead-time loop within an
envelope written on the beat (R710). -/
def execPwmPeriodStart (n : Fin 4) (s : State) : Out :=
  match (s.pw n).due with
  | some b =>
    if s.stands (writesField (pPwm n) PWM.DT_ENV_MAX) then .next (s.holdBack (.pwmPeriodStart n))
    else if s.enabled (pPwm n) && decide (b ≤ s.tb.beat) then
      .next ((((s.adaptDeadTime n).periodBoundary (pPwm n)).takePeriod n b).gatePeriod n)
    else .next s
  | none => .next s

/-- The commands that the generator sends now (R345 to R349). In DETECT they are those of its vectors (R305). -/
def State.scheduled (s : State) (n : Nat) : Nat :=
  let x := s.pw n
  if quietState (s.motorState n) || !x.running then 0
  else if s.motorState n = 3 then s.detectVector n
  else (List.range 6).foldl (fun m sw =>
    putBit m sw (x.command (s.fld (pPwm n) PWM.MIN_PULSE_MIN) sw (s.tb.beat - x.start))) 0

/-- PWM_COMMAND_EDGE (R345): the scheduled commands of this tick reach the drivers; a pulse too short is dropped and
counted (R348). At the end of the period its successor's start comes first. -/
def execPwmCommandEdge (n : Fin 4) (s : State) : Out :=
  let x := s.pw n
  let t := s.tb.beat - x.start
  if !s.linked n || (s.gt n).test || (x.running && decide (x.period ≤ t)) then .next s
  else
    let d := if quietState (s.motorState n) || s.motorState n == 3 || !x.running || x.edgeAt == some s.tb.beat then 0
      else x.dropped (s.fld (pPwm n) PWM.MIN_PULSE_MIN) t
    let s0 := s.setPw n { x with edgeAt := some s.tb.beat }
    let s1 := if d = 0 then s0
      else (s0.bump (pPwm n) PWM.COUNTS_DROP_COUNT d).raise (pPwm n) PWM.evPULSE_DROP
    .next (s1.commands n (s1.scheduled n))

/-- PWM_LINK_LOSS (R340): a credit stall, a parity error or a gap; `none` is a valid word after it, with all 8 credits
back. -/
def execPwmLinkLoss (n : Fin 4) (cause : Option (Fin 3)) (s : State) : Out :=
  match cause with
  | none =>
    .next ((s.modGt n (fun g => { g with linkBad := false, credits := 8 })).setFld (pPwm n) PWM.LINK_STATUS_UP 1)
  | some c =>
    let s0 := if c.val = 1 then s.bump (pPwm n) PWM.LINK_STATUS_PARITY_ERRS else s
    .next (((((s0.modGt n (fun g => { g with
      linkBad := true, credits := if c.val = 0 then 0 else g.credits })).setFld (pPwm n) PWM.LINK_STATUS_UP 0).setFld
      (pGate n) GATE.LATCH_LINK 1).raise (pPwm n) PWM.evLINK_ERR).motorFault n)

/-! ### The interlock (R352, R354, R357, R358) -/

/-- INTERLOCK_RELEASE (R354): the gate opposite to `sw` has stayed below V_IL for IL_TIME. The ticks since its off-command
are g of the turn-on that follows (R352); a waiting switch whose command is not withdrawn on this tick (Table 9.8) turns on,
its turn-on extended beyond its command. -/
def execInterlockRelease (n : Fin 4) (sw : Fin 6) (s : State) : Out :=
  let g := s.gt n
  let o := otherSw sw
  if bitAt g.on o then .next s
  else
    let gap := match Tab.lookup g.offAt o with
      | some b => Tab.insert g.gap sw.val (min 1023 (s.tb.beat - b))
      | none => g.gap
    let s1 := s.setGt n { g with above := clrBit g.above o, offAt := Tab.erase g.offAt o, gap := gap }
    if bitAt g.wait sw && bitAt g.cmd sw && !bitAt g.cmd o && !s.heldOff n sw && (g.test || bitAt (s.scheduled n) sw) then
      .next (((s1.swOn n sw).bump (pPwm n) PWM.IL_EXT_COUNT_COUNT).raise (pPwm n) PWM.evIL_EXTEND)
    else .next s1

/-- GATE_STUCK_TIMEOUT (R357): 2,000 ticks after its off-command a gate is not down, and a turn-on waits on it. -/
def execGateStuckTimeout (n : Fin 4) (ph : Fin 3) (s : State) : Out :=
  let g := s.gt n
  let stuck := fun (sw : Nat) => bitAt g.wait sw && bitAt g.above (otherSw sw) && !bitAt g.cmd (otherSw sw)
    && (match Tab.lookup g.offAt (otherSw sw) with
      | some b => decide (b + 2000 ≤ s.tb.beat)
      | none => false)
  if stuck (2 * ph) || stuck (2 * ph + 1) then
    .next (((s.orFld (pGate n) GATE.LATCH_GATE_STUCK (2 ^ ph.val)).raise (pGate n) GATE.evGATE_STUCK).motorFault n)
  else .next s

/-- GATE_NORISE_TIMEOUT (R358): 2,000 ticks after its turn-on a gate is not up; the channel's other commands turn off as
FAULT has them (R349). -/
def execGateNoriseTimeout (n : Fin 4) (sw : Fin 6) (s : State) : Out :=
  let g := s.gt n
  let due := match Tab.lookup g.onAt sw with
    | some b => decide (b + 2000 ≤ s.tb.beat)
    | none => false
  if bitAt g.on sw && due then
    .next ((((s.swOff n sw).orFld (pGate n) GATE.LATCH_NORISE (2 ^ sw.val)).raise (pGate n)
      GATE.evGATE_NORISE).setMotorState n 11)
  else .next s

/-! ### The slew loop (R351, R353) -/

/-- The next source code of a side, before its envelope, from the sum of `num` times (R351): one step down would be -1 below
code 0. -/
def slewNext (src sum num target tol : Nat) : Int :=
  if (sum : Int) < ((target : Int) - tol) * num then (src : Int) - 1
  else if (target + tol) * num < sum then src + 1 else src

/-- SLEW_TRANSITION (R351): the time of one attributed transition in 0.25 ns; an envelope written on the beat bounds the
update (R710). -/
def execSlewTransition (n : Fin 4) (low : Bool) (m : BitVec 12) (s : State) : Out :=
  let p := pGate n
  let g := s.gt n
  if s.stands (writesField p GATE.SLEW_ENV_H_MAX) then .next (s.holdBack (.slewTransition n low m))
  else if s.on p GATE.DRIVE_STRONG || !s.on p GATE.DRIVE_SLEW_EN then .next s
  else
    let sum := (if low then g.sumL else g.sumH) + m.toNat
    let num := (if low then g.numL else g.numH) + 1
    let put := fun (t : State) (a b c : Nat) =>
      let h := t.gt n
      t.setGt n (if low then { h with sumL := a, numL := b, pinL := c } else { h with sumH := a, numH := b, pinH := c })
    let pin := if low then g.pinL else g.pinH
    if num < 2 ^ s.fld p GATE.SLEW_DIV then .next (put s sum num pin)
    else
      let f := if low then GATE.DRIVE_SRC_L else GATE.DRIVE_SRC_H
      let lo := s.fld p (if low then GATE.SLEW_ENV_L_MIN else GATE.SLEW_ENV_H_MIN)
      let hi := s.fld p (if low then GATE.SLEW_ENV_L_MAX else GATE.SLEW_ENV_H_MAX)
      let v := slewNext (s.fld p f) sum num (s.fld p GATE.SLEW_TARGET) (s.fld p GATE.SLEW_TOL)
      let k := if v < lo ∨ (hi : Int) < v then pin + 1 else 0
      let s1 := (put ((s.setFld p f (clampInt lo hi v).toNat).setFld p
        (if low then GATE.SLEW_MEAS_MEAN_L else GATE.SLEW_MEAS_MEAN_H) (sum / num)) 0 0 k)
      .next (if k = 256 then s1.raise p GATE.evLOOP_PINNED else s1)

/-! ### Supplies and monitors (R359 to R361, R365, R97) -/

/-- The bootstrap monitors act on what the pins show (R360): each phase at its onset is counted and raised, and its high
side turned off; one that is back follows its command again. -/
def State.bstAct (s : State) (n : Nat) : State :=
  let g := s.gt n
  let fall := (List.range 3).filter (fun ph => bitAt g.bstPin ph && !bitAt g.bstLow ph)
  let rise := (List.range 3).filter (fun ph => !bitAt g.bstPin ph && bitAt g.bstLow ph)
  let s1 := fall.foldl (fun (t : State) ph =>
    let u := ((t.swOff n (2 * ph)).modGt n (fun x => { x with bstLow := setBit x.bstLow ph })).bump (pGate n)
      GATE.COUNTS_BST_UV_COUNT
    if bitAt (u.liveMask (pGate n)) GATE.evBST_UV.bit then u.raise (pGate n) GATE.evBST_UV
    else u.condition (pGate n) GATE.evBST_UV true) s
  rise.foldl (fun (t : State) ph =>
    let u := (t.modGt n (fun x => { x with bstLow := clrBit x.bstLow ph })).condition (pGate n) GATE.evBST_UV
      (g.bstPin != 0)
    if bitAt g.cmd (2 * ph) then u.tryOn n (2 * ph) else u) s1

/-- BST_UV_CROSS (R360); a self-test of the monitors disconnects them from the balls (R367). -/
def execBstUvCross (n : Fin 4) (ph : Fin 3) (below : Bool) (s : State) : Out :=
  let g := s.gt n
  let s1 := s.setGt n { g with bstPin := putBit g.bstPin ph below }
  .next (if g.cst = 5 ∨ g.cst = 6 then s1 else s1.bstAct n)

/-- VCP is low (R359, R361): the trickle sources stop, and REVG is driven no more. -/
def State.vcpAct (s : State) : State :=
  ((s.setFld pOuvgor OUVGOR.PUMP_STATUS_VCP_OK (b2n (!s.dr.vcpPin))).condition pOuvgor OUVGOR.evVCP_UV s.dr.vcpPin).showRevg

/-- The Ouvgor die is at 150 °C (R365). -/
def State.hotAct (s : State) : State :=
  let s1 := { s with dr := { s.dr with ouvHot := s.dr.hotPin } }.condition pOuvgor OUVGOR.evOUV_OT s.dr.hotPin
  if s.dr.hotPin && !s.dr.ouvHot then s1.supplyOff else s1

/-- VCP_UV_CROSS (R359, R361); the shared self-test disconnects the monitor (R369). -/
def execVcpUvCross (below : Bool) (s : State) : Out :=
  let s1 : State := { s with dr := { s.dr with vcpPin := below } }
  .next (if s.dr.ouvCst then s1 else s1.vcpAct)

/-- OUV_OVERTEMP (R365): the Ouvgor die reaches 150 °C, or falls below it again. -/
def execOuvOvertemp (hot : Bool) (s : State) : Out :=
  let s1 : State := { s with dr := { s.dr with hotPin := hot } }
  .next (if s.dr.ouvCst then s1 else s1.hotAct)

/-- The levels of Table 3.8 for the power stage, in mV: VM_OV_LIM and VM_UV_LIM are registers. -/
def State.vmOvLim (s : State) : Nat := 500 * s.fld pPower POWER.VM_LIMITS_VM_OV_LIM

/-- VM_UV_LIM in mV. -/
def State.vmUvLim (s : State) : Nat := 250 * s.fld pPower POWER.VM_LIMITS_VM_UV_LIM

/-- A monitor with hysteresis: good falls below `lo`, returns at `hi`. -/
def hyster (good : Bool) (mv lo hi : Nat) : Bool := if good then decide (lo ≤ mv) else decide (hi ≤ mv)

/-- VSTB below its limit drives every strobe output low (R97): running pulses end. -/
def State.vstbOff (s : State) : State :=
  (List.range 8).foldl (fun (t : State) k => if (t.sched (stbF k)).pulse then t.stopPulse k else t) s

/-- VGD is at a level in mV (Table 3.8, R97). -/
def State.vgdRail (s : State) (mv : Nat) : State :=
  let was := s.on pPower POWER.RAIL_STATUS_VGD_OK
  let ok := hyster was mv 8500 9000
  let s1 := (s.setFld pPower POWER.RAIL_STATUS_VGD_OK (b2n ok)).condition pPower POWER.evVGD_UV (!ok)
  if was && !ok then s1.supplyOff else s1

/-- VM is at a level in mV: judged against VM_UV_LIM and VM_OV_LIM (Table 3.8, R97). -/
def State.vmRail (s : State) (mv : Nat) : State :=
  let wasOk := s.on pPower POWER.RAIL_STATUS_VM_OK
  let wasOv := s.on pPower POWER.RAIL_STATUS_VM_OV
  let ok := hyster wasOk mv s.vmUvLim (s.vmUvLim + 250)
  let ov := if wasOv then decide (s.vmOvLim ≤ mv + 500) else decide (s.vmOvLim < mv)
  let s1 := (((s.setFld pPower POWER.RAIL_STATUS_VM_OK (b2n ok)).setFld pPower POWER.RAIL_STATUS_VM_OV
    (b2n ov)).condition pPower POWER.evVM_UV (!ok)).condition pPower POWER.evVM_OV ov
  if (wasOk && !ok) || (!wasOv && ov) then s1.supplyOff else s1

/-- VSTB is at a level in mV (Table 3.8, R97). -/
def State.vstbRail (s : State) (mv : Nat) : State :=
  let was := s.on pPower POWER.RAIL_STATUS_VSTB_OK
  let ok := hyster was mv 4400 4500
  let s1 := (s.setFld pPower POWER.RAIL_STATUS_VSTB_OK (b2n ok)).condition pPower POWER.evVSTB_UV (!ok)
  if was && !ok then s1.vstbOff else s1

/-- The monitors of VM and VGD judge the last levels seen at their inputs. -/
def State.stageAct (s : State) : State :=
  let s1 := match s.dr.vmPin with
    | some mv => s.vmRail mv
    | none => s
  match s.dr.vgdPin with
  | some mv => s1.vgdRail mv
  | none => s1

/-- POWER_STAGE_SUPPLY_CROSS (R97, Table 3.8): a rail is at a new level, in mV; the shared self-test disconnects the monitors
of VM and VGD (R369). -/
def execPowerStageSupplyCross (rail : StageRail) (mv : Nat) (s : State) : Out :=
  match rail with
  | .vstb => .next (s.vstbRail mv)
  | .vm =>
    let s1 : State := { s with dr := { s.dr with vmPin := some mv } }
    .next (if s.dr.ouvCst then s1 else s1.vmRail mv)
  | .vgd =>
    let s1 : State := { s with dr := { s.dr with vgdPin := some mv } }
    .next (if s.dr.ouvCst then s1 else s1.vgdRail mv)

/-! ### Trips and shorts (R363, R364) -/

/-- DIDT_FIRE (R363): the detector is armed while its switch's command is on, and on the tick on which it turns off
(Table 9.8). Only this switch is turned off; the others follow their commands, which FAULT turns off (R349). -/
def execDidtFire (n : Fin 4) (sw : Fin 6) (s : State) : Out :=
  let g := s.gt n
  let armed := bitAt g.cmd sw || Tab.lookup g.offAt sw == some s.tb.beat
  if !armed || bitAt g.soft sw || !s.enabled (pGate n) || g.cst == 1 || g.cst == 2 then .next s
  else
    .next ((((s.setGt n { g with
      soft := setBit g.soft sw, softAt := Tab.insert g.softAt sw s.tb.beat, sunk := setBit g.sunk sw
      on := clrBit g.on sw, wait := clrBit g.wait sw }).orFld
      (pGate n) GATE.LATCH_SHORT (2 ^ sw.val)).raise (pGate n) GATE.evSW_SHORT).setMotorState n 11)

/-- SOFT_OFF_HOLD_END (R363): 200 + 100 x T2L ns after the sink started, the gate is sunk to its source return with the same
current. -/
def execSoftOffHoldEnd (n : Fin 4) (sw : Fin 6) (s : State) : Out :=
  let g := s.gt n
  match Tab.lookup g.softAt sw with
  | some b =>
    if b + 200 + 100 * s.fld (pGate n) GATE.SOFT_OFF_T2L ≤ s.tb.beat then
      .next (s.setGt n { g with soft := clrBit g.soft sw, softAt := Tab.erase g.softAt sw })
    else .next s
  | none => .next s

/-- TRIP_N_LOW (R364): TRIP_N changes level. -/
def execTripNLow (n : Fin 4) (low : Bool) (s : State) : Out :=
  let g := s.gt n
  .next (if low = g.tripLow then s else (s.setGt n { g with tripLow := low }).tripAct n)

/-! ### Diagnostics (R366 to R369) -/

/-- DIAG_GO (R366). -/
def execDiagGo (a : Acc) (n : Fin 4) (s : State) : Out :=
  .next (s.access (.diagGo a n) a (pGate n) 0x100 true (fun t => t.diagGo n))

/-- CST_GO (R367). -/
def execCstGo (a : Acc) (n : Fin 4) (s : State) : Out :=
  .next (s.access (.cstGo a n) a (pGate n) 0x100 true (fun t => t.cstGo n))

/-- GATE_LATCH_CLR (R375). -/
def execGateLatchClr (a : Acc) (n : Fin 4) (s : State) : Out :=
  .next (s.access (.gateLatchClr a n) a (pGate n) 0x100 true (fun t => t.latchClr n))

/-- The verdict of a diagnostic step on the phase nodes in mV (Table 9.5). -/
def State.diagVerdict (s : State) (n step : Nat) (nodes : List Nat) : State :=
  let p := pGate n
  let v := fun (k : Nat) => nth 0 nodes (k % 3)
  if step ≤ 3 then
    if v (step - 1) < 1000 then s.orFld p GATE.DIAG_RESULT_SHORT_GND (2 ^ (step - 1)) else s
  else if step ≤ 6 then
    if 3000 < v (step - 4) then s.orFld p GATE.DIAG_RESULT_SHORT_VM (2 ^ (step - 4)) else s
  else if step ≤ 9 then
    let k := step - 7
    let d : Int := (v k : Int) - (v (k + 1) : Int)
    if s.on p GATE.DIAG_CFG_NO_LOAD then
      if d < 2000 then s.orFld p GATE.DIAG_RESULT_PP_SHORT (2 ^ k) else s
    else if 2000 < d then s.orFld p GATE.DIAG_RESULT_OPEN_PHASE (2 ^ k) else s
  else s

/-- The end of a diagnostic run (R366, R303). -/
def State.diagEnd (s : State) (n : Nat) : State :=
  let p := pGate n
  let g := s.gt n
  let bad := s.on p GATE.DIAG_RESULT_SHORT_GND || s.on p GATE.DIAG_RESULT_SHORT_VM
    || s.on p GATE.DIAG_RESULT_OPEN_PHASE || s.on p GATE.DIAG_RESULT_PP_SHORT || g.cstFail != 0
  let s1 := (((s.setGt n { g with diag := 0, cst := 0 }).setFld p GATE.DIAG_RESULT_DONE 1).setFld p
    GATE.DIAG_RESULT_PASS (b2n (!bad))).raise p GATE.evDIAG_DONE
  if bad then ((s1.setFld p GATE.LATCH_DIAG 1).raise p GATE.evDIAG_FAIL).motorFault n
  else if g.diagStart && s1.motorState n == 1 then s1.setMotorState n 2 else s1

/-- DIAG_STEP_END (R366): a step of DIAG_CFG.STEP x 10 us ends with its verdict; steps 10 to 12 are those of the comparator
self-test, whose half steps have then ended. -/
def execDiagStepEnd (n : Fin 4) (u v w : Nat) (s : State) : Out :=
  let g := s.gt n
  if g.diag = 0 ∨ s.tb.beat < g.stepDue ∨ (9 < g.diag ∧ g.cst ≠ 0 ∧ g.cst ≤ 2 * (g.diag - 9)) then .next s
  else
    let s1 := s.diagVerdict n g.diag [u, v, w]
    let last := if s.on (pGate n) GATE.DIAG_CFG_SKIP_CST then 9 else 12
    if last ≤ g.diag then .next (s1.diagEnd n)
    else
      .next (s1.modGt n (fun h => { h with
        diag := g.diag + 1, stepDue := s.stepEnd n g.stepDue 2
        cst := if g.diag = 9 then 1 else h.cst, halfDue := if g.diag = 9 then s.stepEnd n g.stepDue 1 else h.halfDue }))

/-- The comparators of the group that half step `k` tests, in the places of CST_RESULT (Table 9.6). -/
def cstGroup (k : Nat) : Nat := if k ≤ 2 then 0x3F else if k ≤ 4 then 0x3C0 else 0x7FC00

/-- The results of a self-test (R367); one within a diagnostic run leaves its failure to the run's end. -/
def State.cstEnd (s : State) (n : Nat) : State :=
  let p := pGate n
  let g := s.gt n
  let f := g.cstFail
  let s1 := (((((((s.setGt n { g with cst := 0 }).setFld p GATE.CST_RESULT_DONE 1).setFld p GATE.CST_RESULT_PASS
    (b2n (f == 0))).setFld p GATE.CST_RESULT_DIDT (bitsOf f 5 0)).setFld p GATE.CST_RESULT_CBC (bitsOf f 8 6)).setFld p
    GATE.CST_RESULT_TRIP (bitsOf f 9 9)).setFld p GATE.CST_RESULT_VIL (bitsOf f 15 10)).setFld p GATE.CST_RESULT_BST
    (bitsOf f 18 16)
  let s2 := s1.raise p GATE.evCST_DONE
  if f = 0 then s2
  else
    let s3 := (s2.setFld p GATE.LATCH_CST 1).raise p GATE.evCST_FAIL
    if g.diag = 0 then s3.motorFault n else s3

/-- CST_HALF_STEP_END (R367): with 0.75 x its threshold a comparator must read inactive, with 1.25 x active. A group whose
test ends is connected to its balls again. -/
def execCstHalfStepEnd (n : Fin 4) (active : BitVec 19) (s : State) : Out :=
  let g := s.gt n
  if g.cst = 0 ∨ s.tb.beat < g.halfDue then .next s
  else
    let grp := cstGroup g.cst
    let seen := active.toNat &&& grp
    let bad := if g.cst % 2 = 1 then seen else clrMask grp seen
    let s1 := s.setGt n { g with
      cstFail := g.cstFail ||| bad, cst := g.cst + 1, halfDue := s.stepEnd n g.halfDue 1 }
    .next (if g.cst = 6 then (s1.cstEnd n).bstAct n else if g.cst = 4 then s1.tripAct n else s1)

/-- OUV_CST_GO (R369). -/
def execOuvCstGo (a : Acc) (s : State) : Out :=
  .next (s.access (.ouvCstGo a) a pOuvgor 0x188 true (fun t => t.ouvCstGo))

/-- OUV_CST_DONE (R369): the comparators that failed, in the places of CST_RESULT; the monitors are connected again. -/
def execOuvCstDone (failed : BitVec 5) (s : State) : Out :=
  if !s.dr.ouvCst then .next s
  else
    let s1 := ((({ s with dr := { s.dr with ouvCst := false } }.setFld pOuvgor OUVGOR.CST_RESULT_DONE 1).setFld pOuvgor
      OUVGOR.CST_RESULT_PASS (b2n (failed == 0))).setFld pOuvgor OUVGOR.CST_RESULT_FAILED failed.toNat).raise pOuvgor
      OUVGOR.evOUV_CST_DONE
    .next ((if failed = 0 then s1 else s1.raise pOuvgor OUVGOR.evOUV_CST_FAIL).vcpAct.hotAct.stageAct)

/-- DIRECT_TEST_PULSE (Table 9.8): a write of TEST. -/
def execDirectTestPulse (a : Acc) (n : Fin 4) (w : Word) (s : State) : Out :=
  .next (s.access (.directTestPulse a n w) a (pGate n) 0x138 true (fun t => t.directTest n w.toNat))

/-- DIRECT_TEST_END (Table 9.8), TEST_WIDTH ticks after the write. -/
def execDirectTestEnd (n : Fin 4) (s : State) : Out :=
  if (s.gt n).test ∧ (s.gt n).testDue ≤ s.tb.beat then
    let s1 := s.commands n 0
    .next (s1.setGt n { s1.gt n with test := false })
  else .next s

end Sys2Proof.Machine
end

