-- ==== Sys2Proof/Machine/Matrix.lean ====
section
/-!
DEFINITION. The control-plane matrix (R164 to R170, R193) and the writes of the common header that every page shares
(R178 to R185).
-/

namespace Sys2Proof.Machine

/-! ### Requests -/

/-- The assigned QoS of a request (Table 5.3). -/
def State.qosOf (s : State) (a : Acc) : Nat :=
  match a.master with
  | .host => if a.hh = 15 then s.fld pMatrix MATRIX.QOS_MASTER_PF else s.fld pMatrix (MATRIX.QOS_HH_HH.at a.hh)
  | .tile => s.fld pMatrix (MATRIX.QOS_HH_HH.at a.hh)
  | .fabric => s.fld pMatrix MATRIX.QOS_MASTER_FABRIC
  | .wicket => s.fld pMatrix MATRIX.QOS_MASTER_WICKET
  | .engine => s.fld pMatrix MATRIX.QOS_MASTER_ENGINE

/-- How long a request has waited, from the beat on which it reached its master port or its bus (R166, R170). -/
def State.waited (s : State) (r : MxReq) : Nat := s.tb.beat - r.arrived

/-- A request has waited AGE_PROMOTE beats at its port (R166). -/
def State.aged (s : State) (r : MxReq) : Bool := decide (s.fld pMatrix MATRIX.AGE_PROMOTE_BEATS ≤ s.waited r)

/-- The effective QoS of a request (R166). -/
def State.effQos (s : State) (r : MxReq) : Nat := if r.promoted || s.aged r then 15 else s.qosOf r.acc

/-- `r` is granted before `q` at one port (R165). -/
def State.beats (s : State) (r q : MxReq) : Bool :=
  if s.effQos r ≠ s.effQos q then decide (s.effQos q < s.effQos r)
  else if s.waited r ≠ s.waited q then decide (s.waited q < s.waited r)
  else if r.acc.master.id ≠ q.acc.master.id then decide (r.acc.master.id < q.acc.master.id)
  else decide (r.acc.hh.val ≤ q.acc.hh.val)

/-- Two requests have the same transaction ID (R167). -/
def sameId (r q : MxReq) : Bool :=
  r.acc.master == q.acc.master && r.acc.hh == q.acc.hh && r.acc.tag == q.acc.tag

/-- The master port of a request: 0 NOC_IN, 1 WICKET, 2 ENGINE (Table 5.4). -/
def masterPort (m : Master) : Nat :=
  match m with
  | .wicket => 1
  | .engine => 2
  | _ => 0

/-- The response slots of a master port (Table 5.4). -/
def slotsOf (port : Nat) : Nat := if port = 0 then 16 else 4

/-- The requests that have left their master port, a response slot reserved, and are not answered (R168). -/
def State.mxOut (s : State) : List MxReq :=
  (s.mx.issued ++ s.mx.waiting).filter (fun q => q.reserved && decide (q.port < 5))

/-- Held for order: an earlier request with its ID is not answered, at another target port (R168). -/
def heldForOrder (earlier : List MxReq) (r : MxReq) : Bool :=
  earlier.any (fun q => sameId r q && q.port != r.port && decide (q.port < 5))

/-- Held for a slot: its master port, NOC_OUT or the WHB has none free (R168). -/
def State.heldForSlot (s : State) (r : MxReq) : Bool :=
  let out := s.mxOut
  let mine := (out.filter (fun q => masterPort q.acc.master == masterPort r.acc.master)).length
  decide (slotsOf (masterPort r.acc.master) ≤ mine)
  || (r.port == 3 && decide (8 ≤ (out.filter (fun q => q.port == 3)).length))
  || (r.port == 2 && out.any (fun q => q.port == 2))

/-- OUTSTANDING shows the slots in use (Table 5.12). -/
def State.showOutstanding (s : State) : State :=
  let out := s.mxOut
  let n := fun k => (out.filter (fun q => masterPort q.acc.master == k)).length
  (((s.setFld pMatrix MATRIX.OUTSTANDING_NOC_IN (n 0)).setFld pMatrix MATRIX.OUTSTANDING_WICKET (n 1)).setFld pMatrix
    MATRIX.OUTSTANDING_ENGINE (n 2)).setFld pMatrix MATRIX.OUTSTANDING_NOC_OUT (out.filter (fun q => q.port == 3)).length

/-- The matrix judges the waiting request at index `k`: it leaves its master port with a slot, or is held there; a hold is
counted as it begins (R168, R170). -/
def State.mxAdmit (s : State) (k : Nat) : State :=
  match s.mx.waiting[k]? with
  | none => s
  | some r =>
    if r.reserved ∨ 5 ≤ r.port then s
    else
      let h := if heldForOrder (s.mx.issued ++ s.mx.waiting.take k) r then 1 else if s.heldForSlot r then 2 else 0
      let t := if h = r.hold then s
        else if h = 1 then s.bump pMatrix MATRIX.HOLD_COUNT_ORDER
        else if h = 2 then s.bump pMatrix MATRIX.HOLD_COUNT_SLOT else s
      { t with mx := { t.mx with waiting := t.mx.waiting.set k { r with hold := h, reserved := h == 0 } } }

/-- What the matrix holds is judged again, in order of age, after a request has come or gone. -/
def State.mxSettle (s : State) : State := ((List.range s.mx.waiting.length).foldl State.mxAdmit s).showOutstanding

/-- A request reaches its master port, or the peripheral bus of its node. -/
def State.mxSubmit (s : State) (r : MxReq) : State :=
  ({ s with mx := { s.mx with waiting := s.mx.waiting ++ [r] } } : State).mxSettle

/-- The index of the request that a port grants, of those that `ok` accepts (R165). -/
def State.pickGrant (s : State) (port : Nat) (ok : MxReq → Bool) : Option Nat :=
  let cands := (List.range s.mx.waiting.length).filter (fun i =>
    match s.mx.waiting[i]? with
    | some r => r.port == port && ok r
    | none => false)
  cands.foldl (fun b i =>
    match b with
    | none => some i
    | some j =>
      match s.mx.waiting[i]?, s.mx.waiting[j]? with
      | some r, some q => if s.beats q r then some j else some i
      | _, _ => some j) none

/-- AGE_PROMOTE (R166): a request that has waited AGE_PROMOTE beats is promoted, once. -/
def execAgePromote (k : Nat) (s : State) : Out :=
  match s.mx.waiting[k]? with
  | none => .next s
  | some r =>
    if r.promoted ∨ s.aged r = false then .next s
    else
      .next ((({ s with mx := { s.mx with waiting := s.mx.waiting.set k { r with promoted := true } } }).bump pMatrix
        MATRIX.PROMOTE_COUNT_COUNT).raise pMatrix MATRIX.evAGE_PROMOTED)

/-! ### The common header -/

/-- Writing 1s to EVT_PEND (R178): the pending bits clear, and the raw bits whose condition no longer holds. -/
def State.pendClear (s : State) (p m : Nat) : State :=
  (s.clrFld p HDR.EVT_PEND_PEND m).clrFld p HDR.EVT_RAW_RAW (clrMask m (s.liveMask p))

/-- EVT_PEND_CLEAR (R178). -/
def execEvtPendClear (a : Acc) (page : Fin 512) (w : Word) (s : State) : Out :=
  .next (s.access (.evtPendClear a page w) a page 0x01C true (fun t => t.pendClear page w.toNat))

/-- Writing EVT_EN (R178): newly enabled bits whose raw bit is 1 become pending. -/
def State.evtEnable (s : State) (p w : Nat) : State :=
  let newly := clrMask w (s.fld p HDR.EVT_EN_EN)
  (s.orFld p HDR.EVT_PEND_PEND (newly &&& s.fld p HDR.EVT_RAW_RAW)).setFld p HDR.EVT_EN_EN w

/-- EVT_EN_WRITE (R178). -/
def execEvtEnWrite (a : Acc) (page : Fin 512) (w : Word) (s : State) : Out :=
  .next (s.access (.evtEnWrite a page w) a page 0x018 true (fun t => t.evtEnable page w.toNat))

/-- The event bits that a page has. -/
def evtMask (p : Nat) : Nat :=
  match blkOf p with
  | some b => 2 ^ evtBits b - 1
  | none => 0

/-- Writing EVT_FORCE (R179): occurrences for reporting only. -/
def State.evtForce (s : State) (p w : Nat) : State := (maskBits 32 (w &&& evtMask p)).foldl (fun t n => t.occur p n) s

/-- EVT_FORCE (R179). -/
def execEvtForce (a : Acc) (page : Fin 512) (w : Word) (s : State) : Out :=
  .next (s.access (.evtForce a page w) a page 0x020 true (fun t => t.evtForce page w.toNat))

/-- Writing PAGE_CTRL.ERR_CLR (R181). -/
def State.errClr (s : State) (p : Nat) : State :=
  (((s.setFld p HDR.ERR_FIRST_STAMP_LO 0).setFld p HDR.ERR_COUNT_FIRST_CODE 0).setFld p HDR.ERR_COUNT_FIRST_HH 0).setFld
    p HDR.ERR_COUNT_COUNT 0

/-- ERR_CLR (R181). -/
def execErrClr (a : Acc) (page : Fin 512) (s : State) : Out :=
  .next (s.access (.errClr a page) a page 0x00C true (fun t => t.errClr page))

/-- SHADOW_DISCARD (R184): the shadows take the active values and PENDING clears. -/
def execShadowDiscard (a : Acc) (page : Fin 512) (s : State) : Out :=
  .next (s.access (.shadowDiscard a page) a page 0x034 true (fun t => t.dropShadows page))

/-- LOCK is set; the lock of the DEBUG page ends OPEN_BOOT (R185, R682). -/
def State.lockPage (s : State) (p : Nat) : State :=
  let t := s.setFld p HDR.PAGE_LOCK_LOCK 1
  if p = pDebug then t.setFld pDebug DEBUG.SESSION_OPEN_BOOT 0 else t

/-- PAGE_LOCK_SET (R185): only the manager sets LOCK. -/
def execPageLockSet (a : Acc) (page : Fin 512) (s : State) : Out :=
  .next (s.mgrAccess (.pageLockSet a page) a page 0x02C (fun t => t.lockPage page))

end Sys2Proof.Machine
end

