-- ==== Sys2Proof/Machine/Weighhouse.lean ====
section
/-!
DEFINITION. The Weighhouse die (Chapter 7): counting, tallies, the ledger, commits, the seal and the requests of the
bridge. Its power path and charger stand in Power.lean.
-/

namespace Sys2Proof.Machine

/-! ### Parameters, lengths and flags -/

/-- A nanosecond passes while the RTC runs (log entry 93). -/
def Weigh.clock (w : Weigh) : Weigh :=
  if w.rtcStopped then w
  else
    let acc := w.rtcAcc + 32768
    if acc < 1000000000 then { w with ns := w.ns + 1, rtcAcc := acc }
    else { w with ns := w.ns + 1, rtcAcc := acc - 1000000000, rtc := w.rtc + 1 }

/-- RTC seconds. -/
def Weigh.rtcSec (w : Weigh) : Nat := w.rtc / 32768 % 2 ^ 32

/-- The RTC as records carry it: seconds in [46:15], sub-seconds in [14:0] (Table 7.5). -/
def Weigh.rtcWord (w : Weigh) : Nat := w.rtc % 2 ^ 47

/-- The value that a copy of the sealed parameters holds for an ID. -/
def ParamCopy.get (c : ParamCopy) (id : Nat) : Nat := (Tab.lookup c.vals id).getD (whFactory id)

/-- The bytes of a copy: the values in ID order without RTC_SEC, then OPENER_KEY, zeros where it is not set (log entry
81). -/
def ParamCopy.bytes (c : ParamCopy) : List Byte :=
  let q := c.opener.getD (0, 0)
  [1, 2, 3, 4, 5, 6, 7, 8, 9, 12].flatMap (fun id => leBytes 4 (c.get id)) ++ beBytes 32 q.1 ++ beBytes 32 q.2

/-- The copy with the CRC-32 of what it holds (R270). -/
def ParamCopy.withCrc (c : ParamCopy) : ParamCopy := { c with crc := crc32 c.bytes }

/-- The CRC-32 of the copy is good. -/
def ParamCopy.sound (c : ParamCopy) : Bool := c.crc == crc32 c.bytes

/-- A sealed parameter by ID (Table 7.12); RTC_SEC reads the clock. -/
def Weigh.param (w : Weigh) (id : Nat) : Nat := if id = 10 then w.rtcSec else w.parA.get id

/-- OPENER_KEY. -/
def Weigh.opener (w : Weigh) : Option (Nat × Nat) := w.parA.opener

/-- Both copies are rewritten, each with its CRC-32 (R270). -/
def Weigh.setCopies (w : Weigh) (c : ParamCopy) : Weigh := { w with parA := c.withCrc, parB := c.withCrc }

/-- Channel `n` is enabled in MCFG. -/
def Weigh.enabled (w : Weigh) (n : Nat) : Bool := bitAt (w.param 5) (6 + n)

/-- The calibration factor of channel `n`; with both parameter copies bad every channel is treated as CAL = 0
(Table 7.16). -/
def Weigh.cal (w : Weigh) (n : Nat) : Nat := if w.paramsBad then 0 else w.param (1 + n)

/-- Channel `n`. -/
def Weigh.ch (w : Weigh) (n : Nat) : MeterCh := if n = 0 then w.w0 else w.w1

/-- Writes channel `n`. -/
def Weigh.setCh (w : Weigh) (n : Nat) (c : MeterCh) : Weigh := if n = 0 then { w with w0 := c } else { w with w1 := c }

/-- Channel `n` counts (R251, R289). -/
def Weigh.counts (w : Weigh) (n : Nat) : Bool := !w.halted && w.enabled n && w.cal n != 0

/-- The length of channel `n` in µm (R252, R289). -/
def Weigh.length (w : Weigh) (n : Nat) : Int :=
  if w.enabled n then (w.ch n).edges * (w.cal n : Nat) / 16777216 else 0

/-- The primary channel (R253). -/
def Weigh.primary (w : Weigh) : Nat :=
  if w.enabled 0 && w.enabled 1 then bitsOf (w.param 5) 8 8 else if w.enabled 1 then 1 else 0

/-- The tally is single: not both channels are enabled (R253, R289). -/
def Weigh.single (w : Weigh) : Bool := !(w.enabled 0 && w.enabled 1)

/-- The primary length of the open tally (R253). -/
def Weigh.primaryLen (w : Weigh) : Int := w.length w.primary

/-- FLAGS of the open tally with a close reason (Table 7.6). -/
def Weigh.flags (w : Weigh) (reason : Nat) : Nat :=
  let t := w.tally
  reason + 16 * b2n t.suspect + 32 * b2n t.xfail + 64 * b2n w.single + 128 * w.primary + 256 * b2n t.unsealed
    + 512 * b2n t.full + 1024 * b2n t.gap + 2048 * b2n t.torn + 4096 * b2n t.rtcLost + 8192 * b2n t.halted

/-! ### The ledger (R265 to R269, R285, R288) -/

/-- FREE (R268), with LSEQ modulo 2^32 (R288). -/
def Weigh.free (w : Weigh) : Nat := 4096 - (w.lseq + 2 ^ 32 - w.ackLseq) % 2 ^ 32

/-- The codes still written at FREE ≤ 16 (R285). -/
def alwaysLedgered (code : Nat) : Bool := code == 1 || code == 2 || code == 3 || code == 5 || code == 0xE

/-- Word 0 of an entry (Table 7.8). -/
def entryWord0 (lseq code ch aux sub : Nat) : Nat :=
  lseq * 2 ^ 32 + code * 2 ^ 26 + ch * 2 ^ 24 + aux * 2 ^ 16 + sub

/-- The 16 bytes of an entry. -/
def entryBytes (e : Nat × Nat) : List Byte := leBytes 8 e.1 ++ leBytes 8 e.2

/-- Writes an entry at a given RTC, and extends the hash chain (R265, R267). -/
def Weigh.append (w : Weigh) (rtc code ch aux data : Nat) : Weigh :=
  let e := (entryWord0 w.lseq code ch aux (rtc % 32768), rtc / 32768 % 2 ^ 32 * 2 ^ 32 + data % 2 ^ 32)
  { w with
    ledger := Tab.set (0, 0) w.ledger (w.lseq % 4096) e
    lseq := (w.lseq + 1) % 2 ^ 32
    hash := sha256 (w.hash ++ entryBytes e) }

/-- LEDGER_OVERFLOW is written first once FREE exceeds 16 again (R285). -/
def Weigh.flushOverflow (w : Weigh) : Weigh :=
  if w.ovf ≠ 0 ∧ 16 < w.free then { w.append w.rtc 0xE 2 0 w.ovf with ovf := 0 } else w

/-- The ledger takes an entry of this code now (R285). -/
def Weigh.takes (w : Weigh) (code : Nat) : Bool :=
  w.flushOverflow.free != 0 && (decide (16 < w.flushOverflow.free) || alwaysLedgered code)

/-- Writes an entry with a given RTC, or counts it where the ledger has no room (R285). -/
def Weigh.ledgerAt (w : Weigh) (rtc code ch aux data : Nat) : Weigh :=
  let w1 := w.flushOverflow
  if w.takes code then w1.append rtc code ch aux data
  else { w1 with ovf := w1.ovf + 1, tally := { w1.tally with full := true } }

/-- Writes an entry with the present RTC (R266). -/
def Weigh.log (w : Weigh) (code ch aux data : Nat) : Weigh := w.ledgerAt w.rtc code ch aux data

/-- An entry is held and not overwritten (R268). -/
def Weigh.entry (w : Weigh) (k : Nat) : Option (Nat × Nat) :=
  let back := (w.lseq + 2 ^ 32 - k) % 2 ^ 32
  if back = 0 ∨ 4096 < back then none
  else (Tab.lookup w.ledger (k % 4096)).bind (fun e => if e.1 / 2 ^ 32 = k then some e else none)

/-- Sets MEAS_SUSPECT on the open tally and ledgers it with its cause (R259, Table 7.9). -/
def Weigh.suspectBy (w : Weigh) (ch cause : Nat) : Weigh :=
  { w with tally := { w.tally with suspect := true } }.log 0x0B ch cause w.tallyNo

/-- The cross-check (R255). -/
def Weigh.crossCheck (w : Weigh) : Weigh :=
  if w.single then w
  else
    let l0 := w.length 0
    let l1 := w.length 1
    let lmax := max l0.natAbs l1.natAbs
    let allow := w.param 8 + w.param 7 * lmax / 1000000
    let diff := (l0 - l1).natAbs
    if allow < diff ∧ !w.tally.xfail then
      let w1 := w.log 0x0C 2 0 (min diff 0xFFFFFFFF)
      { w1 with tally := { w1.tally with xfail := true } }.suspectBy 2 2
    else w

/-! ### Index and wiring (R256 to R260) -/

/-- INDEX_DEV's DATA (Table 7.9, R290). -/
def indexDevData (d : Int) (n : Nat) : Nat := unsg 16 (clampInt (-32767) 32767 d) * 65536 + n % 65536

/-- The index run of channel `n` ends and is ledgered (R257). -/
def Weigh.endRun (w : Weigh) (n : Nat) : Weigh :=
  let c := w.ch n
  if c.runN = 0 then w
  else (w.log 0x09 n 0 (indexDevData c.runD c.runN)).setCh n { c with runN := 0, runD := 0 }

/-- A revolution, or a missing index, within or beyond tolerance (R259). -/
def Weigh.tolerance (w : Weigh) (n : Nat) (beyond : Bool) : Weigh :=
  let c := w.ch n
  if !beyond then w.setCh n { c with beyond := 0 }
  else
    let w1 := w.setCh n { c with beyond := c.beyond + 1 }
    if c.beyond + 1 = 3 then w1.suspectBy n 1 else w1

/-- A revolution with deviation `d` (R257, R259, R290). -/
def Weigh.revolution (w : Weigh) (n : Nat) (d : Int) : Weigh :=
  let c := w.ch n
  let w1 :=
    if d.natAbs ≤ 1 then w.endRun n
    else
      let w2 := if c.runN ≠ 0 ∧ c.runD ≠ d then w.endRun n else w
      let c2 := w2.ch n
      let w3 := w2.setCh n { c2 with runD := d, runN := c2.runN + 1 }
      if c2.runN + 1 = 65535 then w3.endRun n else w3
  w1.tolerance n (decide (w.param 6 < d.natAbs))

/-- The missing-index check (R258): 1.5 x EPR counts since the previous index edge. -/
def Weigh.missingIndex (w : Weigh) (n : Nat) : Weigh :=
  let c := w.ch n
  let epr := w.param (3 + n)
  if epr = 0 ∨ !c.seen ∨ 2 * c.pos.natAbs < 3 * epr then w
  else ((w.setCh n { c with pos := 0 }).log 0x0A n 0 0).tolerance n true

/-- The onset of a wiring condition (R260): ledgered once per tally. -/
def Weigh.wireFault (w : Weigh) (n kind : Nat) : Weigh :=
  let c := w.ch n
  if bitAt c.wired kind then w
  else ((w.setCh n { c with wired := setBit c.wired kind }).log 0x10 n (2 ^ kind) 0).suspectBy n 3

/-- A counted edge (R251), with the direction check (DIR_CHECK 64, EXPECT_DIR up) and the idle-state check of Z over the
latest 1,024 counting edges (R211, R212, R260). -/
def Weigh.counted (w : Weigh) (n : Nat) (d : Int) : Weigh :=
  let c := w.ch n
  let back := max 0 (c.back - d)
  let swap := decide (64 ≤ back)
  let h := (2 * c.zHist + b2n c.z) % 2 ^ 1024
  let rev := decide (512 < popCount 1024 h)
  let w1 := w.setCh n { c with
    edges := c.edges + d, pos := c.pos + d, back := back, swap := swap, zHist := h, revZ := rev }
  let w2 := if rev && !c.revZ then w1.wireFault n 5 else w1
  let w3 := if swap && !c.swap then w2.wireFault n 6 else w2
  w3.missingIndex n

/-- A measure that has not begun: no index edge yet, no furthest count, no history of Z (R209, R211, R212). -/
def MeterCh.fresh (c : MeterCh) : MeterCh := { c with pos := 0, seen := false, back := 0, swap := false, zHist := 0, revZ := false }

/-- Channel `n` measures its index edges: it counts, and EPR is not 0 (R256, R289). -/
def Weigh.measures (w : Weigh) (n : Nat) : Bool := w.counts n && w.param (3 + n) != 0

/-- The parameters have changed from those of `o`: the measures of a channel that now counts or measures, and did not, begin
afresh (R212, R256, R258). -/
def Weigh.restartMeasures (w o : Weigh) : Weigh :=
  [0, 1].foldl (fun (x : Weigh) n =>
    if (x.counts n && !o.counts n) || (x.measures n && !o.measures n) then x.setCh n (x.ch n).fresh else x) w

/-- Levels of A and B are accepted (R251); a halted die counts nothing (R102). -/
def Weigh.edge (w : Weigh) (n : Nat) (a b : Bool) : Weigh :=
  if w.halted then w.setCh n { w.ch n with a := a, b := b }
  else
    let c := w.ch n
    let mode := bitsOf (w.param 5) (2 * n + 1) (2 * n)
    let d := edgeDelta mode c.a c.b a b
    let w1 := w.setCh n { c with a := a, b := b }
    if d = 0 ∨ !w.counts n then w1 else w1.counted n (if bitAt (w.param 5) (4 + n) then -d else d)

/-- The level of Z is accepted; its assertion measures d (R256). -/
def Weigh.index (w : Weigh) (n : Nat) (z : Bool) : Weigh :=
  let c := w.ch n
  let w1 := w.setCh n { c with z := z }
  let epr := w.param (3 + n)
  if !z || c.z || !w.measures n then w1
  else
    let w2 := w1.setCh n { c with z := z, pos := 0, seen := true }
    if c.seen then w2.revolution n ((c.pos.natAbs : Int) - epr) else w2

/-- METER_EDGE (R251). -/
def execMeterEdge (ch : Fin 2) (la lb : Bool) (s : State) : Out := .next { s with wh := s.wh.edge ch la lb }

/-- METER_INDEX_EDGE (R256). -/
def execMeterIndexEdge (ch : Fin 2) (lz : Bool) (s : State) : Out := .next { s with wh := s.wh.index ch lz }

/-- METER_WIRE_FAULT (R260): the onset of an open wire or of a pair that the receiver finds reversed; REV_Z and AB_SWAPPED
are found from the counted edges themselves. -/
def execMeterWireFault (ch : Fin 2) (kind : Fin 7) (s : State) : Out :=
  .next (if s.wh.halted ∨ 5 ≤ kind.val then s else { s with wh := s.wh.wireFault ch kind })

/-! ### Commits (R87, R250, R294) -/

/-- What a commit writes now. -/
def Weigh.slot (w : Weigh) (good : Bool) : CommitSlot :=
  { seq := w.bankSeq, tallyNo := w.tallyNo, tally := w.tally, total := w.total, lseq := w.lseq, rtc := w.rtc,
    ovf := w.ovf, w0 := w.w0, w1 := w.w1, hash := w.hash, good := good }

/-- A slot before the first commit. -/
def CommitSlot.empty : CommitSlot :=
  ⟨0, 0, Tally.fresh 0 false false false, 0, 0, 0, 0, MeterCh.reset, MeterCh.reset, List.replicate 32 0, false⟩

/-- What the 64 bytes of a slot hold of a channel: its count, its index run, and the conditions ledgered (R294). -/
def MeterCh.kept (c : MeterCh) : MeterCh :=
  { MeterCh.reset with edges := c.edges, runD := c.runD, runN := c.runN, wired := c.wired }

/-- The state of a slot that R87 compares: all but its sequence number, its RTC and its seal. -/
def CommitSlot.body (c : CommitSlot) : CommitSlot :=
  { c with
    seq := 0, rtc := 0, good := true
    w0 := c.w0.kept
    w1 := c.w1.kept }

/-- The newest committed slot. -/
def Weigh.newest (w : Weigh) : Option CommitSlot :=
  (w.ring.map (·.2)).foldl (fun b c =>
    if !c.good then b
    else match b with
      | none => some c
      | some x => if x.seq < c.seq then some c else b) none

/-- A commit starts: its slot holds no valid CRC until it completes. -/
def Weigh.startCommit (w : Weigh) : Weigh :=
  { w with
    commit := true
    ring := Tab.set CommitSlot.empty w.ring (w.bankSeq % 512) (w.slot false)
    bankSeq := w.bankSeq + 1 }

/-- The 1 ms pulse of an impedance probe begins (R81, R82). -/
def Weigh.startProbe (w : Weigh) : Weigh := { w with probing := true, probeDue := false, probeAt := some w.ns }

/-- The commit in progress is sealed with its CRC; a probe that waited for its end begins (R100). -/
def Weigh.sealCommit (w : Weigh) : Weigh :=
  let x := { w with commit := false, ring := w.ring.map (fun e => (e.1, { e.2 with good := true })) }
  if w.probeDue then x.startProbe else x

/-- A commit that completes: the commit of a close runs on the hold-up capacitor (R262). A routine commit that has begun
is the same one (R291). -/
def Weigh.commitNow (w : Weigh) : Weigh :=
  (if w.commit then { w with bankSeq := w.bankSeq - 1 } else w).startCommit.sealCommit

/-- A routine commit, one second after the last: the cross-check, then a commit unless nothing has changed (R87, R101, R255,
R294; log entry 93). -/
def Weigh.routine (w : Weigh) : Weigh :=
  if w.halted ∨ w.commit ∨ w.ns < w.routineAt + 1000000000 then w
  else
    let w1 := { w with routineAt := w.ns }.crossCheck
    match w1.newest with
    | some c => if c.body = (w1.slot true).body then w1 else w1.startCommit
    | none => w1.startCommit

/-- ROUTINE_COMMIT (R87). -/
def execRoutineCommit (s : State) : Out := .next { s with wh := s.wh.routine }

/-- COMMIT_COMPLETE (R88, R99): the bank is sealed. -/
def execCommitComplete (s : State) : Out :=
  .next (if s.wh.commit && !s.wh.halted then { s with wh := s.wh.sealCommit } else s)

/-! ### Tallies (R261 to R263) -/

/-- A tally number stands below ACK_TALLY (R288). -/
def Weigh.tallyReleased (w : Weigh) (n : Nat) : Bool := decide (2 ^ 31 ≤ (n + 2 ^ 32 - w.ackTally) % 2 ^ 32)

/-- Store slots that hold records at or above ACK_TALLY, those waiting for their signature counted. -/
def Weigh.storeUsed (w : Weigh) : Nat :=
  (w.store.filter (fun e => !w.tallyReleased e.1)).length + w.signing.length

/-- The data words of a tally record (Table 7.5). -/
def Weigh.tallyWords (w : Weigh) (reason ledgerEnd coil sid : Nat) : List Nat :=
  [0x7A * 2 ^ 56 + 2 ^ 48 + w.flags reason * 2 ^ 32 + w.tallyNo,
   w.sealCount * 2 ^ 32 + ledgerEnd,
   w.tally.openRtc, w.rtcWord,
   unsg 64 w.primaryLen, unsg 64 (w.length 0), unsg 64 (w.length 1),
   unsg 64 (if w.enabled 0 then w.w0.edges else 0), unsg 64 (if w.enabled 1 then w.w1.edges else 0),
   w.cal 0 * 2 ^ 32 + w.cal 1, coil, sid]

/-- A channel at the opening of a tally: its count is zero and its run has ended; the measure of d continues. -/
def MeterCh.newTally (c : MeterCh) : MeterCh := { c with edges := 0, wired := 0 }

/-- Closes the open tally (R261, R262): the runs end, TALLY_CLOSE, the cross-check, the next tally, the commit, and
the record, whose signature follows. `fv` stands for LEDGER_END where TALLY_CLOSE found no room. -/
def Weigh.close (w : Weigh) (fv reason coil sid : Nat) (after : Weigh → Weigh) (answer : Option WhRsp) : Weigh :=
  let w1 := (w.endRun 0).endRun 1
  let w2 := w1.log 0x0D 2 reason w1.tallyNo
  let lend := if w1.takes 0x0D then (w2.lseq + 2 ^ 32 - 1) % 2 ^ 32 else fv % 2 ^ 32
  let w3 := w2.crossCheck
  let ws := w3.tallyWords reason lend coil sid
  let w4 := after { w3 with
    total := w3.total + w3.primaryLen
    signing := w3.signing ++ [⟨w3.tallyNo, ws, answer⟩]
    tallyNo := (w3.tallyNo + 1) % 2 ^ 32
    w0 := w3.w0.newTally
    w1 := w3.w1.newTally }
  { w4 with tally := Tally.fresh w4.rtcWord (w4.sealSt != 1) w4.rtcLost w4.paramsBad }.commitNow

/-- A record enters the tally store; a released record makes room, and where none is released the record is not
stored (R269). -/
def Weigh.storeTally (w : Weigh) (no : Nat) (r : List Byte) : Weigh :=
  if w.store.length < 128 then { w with store := w.store ++ [(no, r)] }
  else if w.store.any (fun e => w.tallyReleased e.1) then
    { w with store := w.store.eraseIdx (w.store.findIdx (fun e => w.tallyReleased e.1)) ++ [(no, r)] }
  else w

/-- The frame of a response (R277, Table 7.10): two bytes 0x55, 0xD5, the header, the payload, and the CRC-32. -/
def rspFrame (r : WhRsp) : List Byte :=
  let h := leBytes 4 (r.op * 2 ^ 28 + r.result * 2 ^ 24 + r.tag * 2 ^ 16 + r.payload.length) ++ r.payload
  [0x55, 0x55, 0xD5] ++ h ++ leBytes 4 (crc32 h)

/-- The response that a frame spells, none if its form or its CRC is wrong (R277, R293); a frame repeats no SUB. -/
def rspOf (f : List Byte) : Option WhRsp :=
  let b := f.drop 3
  let h := ofLeBytes (b.take 4)
  let n := bitsOf h 15 0
  if f.take 3 = [0x55, 0x55, 0xD5] ∧ b.length = n + 8 ∧ ofLeBytes (b.drop (n + 4)) = crc32 (b.take (n + 4)) then
    some ⟨bitsOf h 31 28, 0, bitsOf h 27 24, bitsOf h 23 16, (b.drop 4).take n⟩
  else none

/-- A request has been completed: its response is sent and kept (R280). -/
def Weigh.reply (w : Weigh) (r : WhRsp) : Weigh := { w with lane := some (rspFrame r), last := some r }

/-- The bytes of a signed record (R263). -/
def signedRecord (ws : List Nat) : List Byte :=
  let b := ws.flatMap (leBytes 8)
  b ++ sigBytes (ecdsaSign whKey b)

/-- RECORD_SIGNED (R262): the oldest unsigned record is signed, stored and answered; signing needs main power and the
identity area. -/
def execRecordSigned (s : State) : Out :=
  let w := s.wh
  match w.signing with
  | [] => .next s
  | u :: r =>
    if w.src ≠ 0 ∨ w.halted ∨ w.idBad then .next s
    else
      let w1 := { w with signing := r }.storeTally u.no (signedRecord u.words)
      .next { s with wh := match u.answer with
        | some a => w1.reply a
        | none => w1 }

/-! ### Requests (R278 to R281) -/

/-- A signing is in progress: requests wait for it (R262, R281). -/
def Weigh.busy (w : Weigh) : Bool := !w.signing.isEmpty && !w.idBad

/-- Serves a request: not while halted, NOT_READY off main power, one at a time in arrival order, so behind a signing in
progress and the requests that wait already, and with the stored response for the TAG and OP of the last one (R280,
R281). -/
def State.whServe (s : State) (i : Instr) (op sub tag : Nat) (k : State → State) : State :=
  let w := { s.wh with turn := false }
  let t : State := { s with wh := w }
  if w.halted then t
  else if w.src ≠ 0 then { s with wh := { w with lane := some (rspFrame ⟨op, sub, 2, tag, []⟩) } }
  else if w.busy || (!s.wh.turn && !w.queue.isEmpty) then { s with wh := { w with queue := w.queue ++ [i] } }
  else
    match w.last with
    | some l => if l.op = op ∧ l.tag = tag then { s with wh := { w with lane := some (rspFrame l) } } else k t
    | none => k t

/-- The request that has waited longest, once no signing is in progress (R281). -/
def State.whNext (s : State) : Option (Instr × State) :=
  if s.wh.halted || s.wh.busy || s.wh.src != 0 then none
  else
    match s.wh.queue with
    | [] => none
    | c :: rest => some (c, { s with wh := { s.wh with queue := rest, turn := true } })

/-- Answers a request. -/
def State.whAnswer (s : State) (op sub result tag : Nat) (p : List Byte) : State :=
  { s with wh := s.wh.reply ⟨op, sub, result, tag, p⟩ }

/-- An NVM_ERROR entry that is not released stands in the ledger (Table 7.17). -/
def Weigh.nvmSeen (w : Weigh) : Bool :=
  w.ledger.any (fun e => bitsOf e.2.1 31 26 == 0x12
    && decide ((w.lseq + 2 ^ 32 - e.2.1 / 2 ^ 32) % 2 ^ 32 ≤ (w.lseq + 2 ^ 32 - w.ackLseq) % 2 ^ 32))

/-- The words of READ STATUS (log entry 12): the WHB mirror registers 0x108 to 0x130 in order, then BAK_MIRROR,
BAK_LEVELS and BAK_CHARGE, a word whose bit 0 says that an NVM_ERROR entry stands, and a word of zeros. -/
def Weigh.statusWords (w : Weigh) (fHold fIchg : Nat) : List Nat :=
  let len := unsg 64 w.primaryLen
  let tot := unsg 64 w.total
  let ichg :=
    if w.chg = 1 then 100
    else if w.chg = 2 then
      nth 0 [100, 150, 200, 250, 300, 400, 500, 600, 750, 900, 1000, 1200, 1400, 1600, 1800, 2000]
        (bitsOf (w.param 9) 3 0)
    else if w.chg = 3 then fIchg % 4096 else 0
  [w.sealSt * 2 ^ 29 + b2n w.sealLow * 2 ^ 28 + w.flags 0, w.sealCount, w.tallyNo,
   len % 2 ^ 32, len / 2 ^ 32, tot % 2 ^ 32, tot / 2 ^ 32, w.lseq, w.ackLseq,
   w.free * 65536 + (128 - w.storeUsed), w.rtcSec,
   w.src * 2 ^ 13 + b2n w.bakLow * 2 ^ 12 + b2n w.absent * 2 ^ 11 + w.chg * 256 + bitsOf (w.param 9) 5 0,
   fHold % 4096 * 65536 + min 4095 w.vbak.toNat, ichg, b2n w.nvmSeen, 0]

/-- WH_READ_STATUS (R278). -/
def execWhReadStatus (tag : BitVec 8) (s : State) : Out :=
  .next (s.whServe (.whReadStatus tag) 1 0 tag.toNat (fun t =>
    (t.whAnswer 1 0 0 tag.toNat
      ((t.wh.statusWords (Config.free t.freeIdx) (Config.free (t.freeIdx + 1))).flatMap (leBytes 4))).drew 2))

/-- An uncorrectable word of the non-volatile memory is ledgered (Table 7.16). -/
def Weigh.nvmError (w : Weigh) (area addr : Nat) : Weigh := w.log 0x12 2 area addr

/-- WH_READ_LEDGER (R278): the entries, or NOT_FOUND. `bad` is the address of an uncorrectable word among them. -/
def execWhReadLedger (tag : BitVec 8) (lseq : BitVec 32) (n : BitVec 16) (bad : Option (BitVec 32)) (s : State) : Out :=
  .next (s.whServe (.whReadLedger tag lseq n bad) 1 1 tag.toNat (fun t =>
    match bad with
    | some a => ({ t with wh := t.wh.nvmError 1 a.toNat }).whAnswer 1 1 4 tag.toNat []
    | none =>
      if 256 < n.toNat then t.whAnswer 1 1 5 tag.toNat []
      else
        let es := (List.range n.toNat).map (fun k => t.wh.entry ((lseq.toNat + k) % 2 ^ 32))
        if es.all Option.isSome && n != 0 then
          t.whAnswer 1 1 0 tag.toNat (es.flatMap (fun e => entryBytes (e.getD (0, 0))))
        else t.whAnswer 1 1 4 tag.toNat []))

/-- WH_READ_TALLY (R278). -/
def execWhReadTally (tag : BitVec 8) (no : BitVec 32) (bad : Option (BitVec 32)) (s : State) : Out :=
  .next (s.whServe (.whReadTally tag no bad) 1 2 tag.toNat (fun t =>
    match bad with
    | some a => ({ t with wh := t.wh.nvmError 3 a.toNat }).whAnswer 1 2 4 tag.toNat []
    | none =>
      match t.wh.store.find? (fun e => e.1 == no.toNat) with
      | some e => t.whAnswer 1 2 0 tag.toNat e.2
      | none => t.whAnswer 1 2 4 tag.toNat []))

/-- WH_READ_KEY (R278). -/
def execWhReadKey (tag : BitVec 8) (s : State) : Out :=
  .next (s.whServe (.whReadKey tag) 1 3 tag.toNat (fun t =>
    let q := ecPublic whKey
    t.whAnswer 1 3 0 tag.toNat
      (beBytes 32 q.1 ++ beBytes 32 q.2 ++ beBytes 64 t.si.attestation ++ leBytes 8 t.si.whSerial)))

/-- WH_READ_IDENT (R278). -/
def execWhReadIdent (tag : BitVec 8) (s : State) : Out :=
  .next (s.whServe (.whReadIdent tag) 1 4 tag.toNat (fun t =>
    t.whAnswer 1 4 0 tag.toNat
      (leBytes 4 t.si.fwId ++ leBytes 4 t.wh.sealCount ++ leBytes 8 t.si.whSerial ++ beBytes 32 t.si.romDigest)))

/-- The digest of OPENER_KEY; an unset key has none, and the spec states no bytes for it (log entry 13). -/
def Weigh.openerDigest (w : Weigh) (fv : Nat) : List Byte :=
  match w.opener with
  | some q => sha256 (beBytes 32 q.1 ++ beBytes 32 q.2)
  | none => beBytes 32 (fv % 2 ^ 256)

/-- WH_READ_PARAMS (R278): the values in ID order, OPENER_KEY as its digest. -/
def execWhReadParams (tag : BitVec 8) (s : State) : Out :=
  .next (s.whServe (.whReadParams tag) 1 5 tag.toNat (fun t =>
    (t.whAnswer 1 5 0 tag.toNat
      ((List.range 10).flatMap (fun k => leBytes 4 (t.wh.param (k + 1)))
        ++ t.wh.openerDigest (Config.free t.freeIdx) ++ leBytes 4 (t.wh.param 12))).drew))

/-- WH_READ_STAMP (R278): the last stamp record; with none yet, NOT_FOUND. -/
def execWhReadStamp (tag : BitVec 8) (s : State) : Out :=
  .next (s.whServe (.whReadStamp tag) 1 6 tag.toNat (fun t =>
    match t.wh.stamp with
    | some r => t.whAnswer 1 6 0 tag.toNat r
    | none => t.whAnswer 1 6 4 tag.toNat []))

/-- CLOSE_TALLY (R262, R287): the answer waits for the signature. -/
def execCloseTally (tag : BitVec 8) (coil sid : BitVec 64) (s : State) : Out :=
  .next (s.whServe (.closeTally tag coil sid) 2 0 tag.toNat (fun t =>
    if t.wh.idBad then t.whAnswer 2 0 3 tag.toNat []
    else if 128 ≤ t.wh.storeUsed then
      ({ t with wh := t.wh.log 0x14 2 0 t.wh.tallyNo }).whAnswer 2 0 3 tag.toNat []
    else
      let ans : WhRsp := ⟨2, 0, 0, tag.toNat, leBytes 4 t.wh.tallyNo⟩
      let w := t.wh.close (Config.free t.freeIdx) 0 coil.toNat sid.toNat id (some ans)
      { t with wh := w }.drew))

/-- A release point moved up to a requested number, at most to the next number to come (R269, R288). -/
def releaseTo (cur next a : Nat) : Nat :=
  let d := (a + 2 ^ 32 - cur) % 2 ^ 32
  if d = 0 ∨ 2 ^ 31 ≤ d then cur else if (next + 2 ^ 32 - cur) % 2 ^ 32 < d then next else a

/-- The acknowledgements of a STAMP (R269): ACK is ledgered when ACK_LSEQ moves. -/
def Weigh.acknowledge (w : Weigh) (al at_ : Nat) : Weigh :=
  let a := releaseTo w.ackLseq w.lseq al
  let w1 := { w with ackLseq := a, ackTally := releaseTo w.ackTally w.tallyNo at_ }
  let w2 := w1.flushOverflow
  if a = w.ackLseq then w2 else w2.log 0x11 2 0 a

/-- The data words of a stamp record (Table 7.7). -/
def Weigh.stampWords (w : Weigh) (sid nonce : Nat) : List Nat :=
  [0x7B * 2 ^ 56 + 2 ^ 48 + w.flags 0 * 2 ^ 32 + w.tallyNo,
   w.sealCount * 2 ^ 32 + (w.lseq + 2 ^ 32 - 1) % 2 ^ 32, w.rtcWord, unsg 64 w.primaryLen,
   unsg 64 w.w0.edges, unsg 64 w.w1.edges, sid, nonce]
  ++ (List.range 4).map (fun k => ofLeBytes ((w.hash.drop (8 * k)).take 8))
  ++ [w.ackLseq * 2 ^ 32 + w.ackTally]

/-- WH_STAMP (R264). -/
def execWhStamp (tag : BitVec 8) (sid nonce : BitVec 64) (ackLseq ackTally : BitVec 32) (s : State) : Out :=
  .next (s.whServe (.whStamp tag sid nonce ackLseq ackTally) 3 0 tag.toNat (fun t =>
    if t.wh.idBad then t.whAnswer 3 0 3 tag.toNat []
    else
      let w := t.wh.acknowledge ackLseq.toNat ackTally.toNat
      let r := signedRecord (w.stampWords sid.toNat nonce.toNat)
      { t with wh := { w with stamp := some r } }.whAnswer 3 0 0 tag.toNat r))

/-! ### The seal (R272 to R276, R286) -/

/-- SEAL_NONCE (R273): a fresh nonce from the entropy source, a free value. -/
def execSealNonce (tag : BitVec 8) (s : State) : Out :=
  .next (s.whServe (.sealNonce tag) 4 0 tag.toNat (fun t =>
    let n := beBytes 32 (t.freeVal 256)
    ({ t with wh := { t.wh with nonce := some n, nonceAt := t.wh.ns } }.whAnswer 4 0 0 tag.toNat
      (n ++ leBytes 8 t.si.whSerial ++ leBytes 4 t.wh.sealCount)).drew))

/-- What the opening signature signs (R273). -/
def State.openerDigest (s : State) (n : List Byte) : List Byte :=
  sha256 (n ++ leBytes 8 s.si.whSerial ++ leBytes 4 s.wh.sealCount)

/-- The nonce that is valid still: 60 s of RTC time from its issue (R273). -/
def Weigh.freshNonce (w : Weigh) : Option (List Byte) := if w.ns < w.nonceAt + 60000000000 then w.nonce else none

/-- The refusal of a SEAL/OPEN, if any (Table 7.11, R286; log entry 14 for the order). -/
def State.openRefusal (s : State) (r sg : Nat) : Option Nat :=
  let w := s.wh
  let soon := match w.refusedAt with
    | some t => decide (w.ns < t + 60000000000)
    | none => false
  let ok := match w.freshNonce, w.opener with
    | some n, some q => ecdsaVerify q (s.openerDigest n) r sg
    | _, _ => false
  if soon then some 7
  else if !w.sealLow then some 1
  else if w.freshNonce.isNone then some 2
  else if !ok then some 3
  else if w.free < 256 then some 4
  else if w.sealCount = 0xFFFFFFFF then some 5
  else if w.src ≠ 0 then some 6
  else if w.sealSt = 2 then some 8
  else none

/-- SEAL_OPEN (R273, R274). -/
def execSealOpen (tag : BitVec 8) (r s : BitVec 256) (st : State) : Out :=
  .next (st.whServe (.sealOpen tag r s) 4 1 tag.toNat (fun t =>
    let w := { t.wh with nonce := none }
    match t.openRefusal r.toNat s.toNat with
    | some 7 => { t with wh := { w with rate := w.rate + 1 } }.whAnswer 4 1 3 tag.toNat [7]
    | some c =>
      let w1 := w.log 0x06 2 c w.rate
      { t with wh := if w.takes 0x06 then { w1 with rate := 0, refusedAt := some w.ns } else w1 }.whAnswer 4 1 3
        tag.toNat [BitVec.ofNat 8 c]
    | none =>
      let w1 := { w with sealCount := w.sealCount + 1 }
      let w2 := w1.log 0x04 2 0 w1.sealCount
      let ans : WhRsp := ⟨4, 1, 0, tag.toNat, leBytes 4 2⟩
      let w3 := w2.close (Config.free t.freeIdx) 1 0 0 (fun x => { x with sealSt := 2 }) (some ans)
      { t with wh := w3 }.drew))

/-- The widths of the parameters' fields (Table 7.12). -/
def whWidth (id : Nat) : Nat :=
  match id with
  | 5 => 9
  | 6 => 16
  | 7 => 16
  | 9 => 6
  | 12 => 2
  | _ => 32

/-- The parameter closes the tally when it changes (Table 7.12). -/
def whCloses (id : Nat) : Bool := id != 9 && id != 10 && id != 11

/-- The DATA of PARAM_OLD and PARAM_NEW: the value, or the first 32 bits of a digest (R270). -/
def digest32 (d : List Byte) : Nat := ofBeBytes (d.take 4)

/-- The IDs of the parameters that the copies hold, by bit. -/
def whParamMask : Nat := 0x1BFE

/-- A parameter has been rewritten: once all are, a die whose copies were both bad has good ones again (Table 7.16). -/
def Weigh.rewrote (w : Weigh) (id : Nat) : Weigh :=
  let m := setBit w.rewritten id
  { w with rewritten := m, paramsBad := w.paramsBad && m &&& whParamMask != whParamMask }

/-- Stores a parameter (R270): RTC_SEC sets the clock, any other is written to both copies. -/
def Weigh.setParam (w : Weigh) (id v : Nat) : Weigh :=
  if id = 10 then { w with rtc := v * 32768, rtcAcc := 0, rtcLost := false }
  else ((w.setCopies { w.parA with vals := Tab.insert w.parA.vals id v }).rewrote id).restartMeasures w

/-- Stores OPENER_KEY in both copies. -/
def Weigh.setOpener (w : Weigh) (q : Nat × Nat) : Weigh :=
  ((w.setCopies { w.parA with opener := some q }).rewrote 11).restartMeasures w

/-- The key that 64 bytes spell. -/
def openerOf (b : List Byte) : Nat × Nat := (ofBeBytes (b.take 32), ofBeBytes (b.drop 32))

/-- The answer of a SEAL/PARAM that is turned away (R279). -/
def Weigh.paramRefusal (w : Weigh) (id : Nat) (body : List Byte) : Option (Nat × List Byte) :=
  if id = 0 ∨ 12 < id then some (4, [])
  else if body.length ≠ (if id = 11 then 64 else 4) then some (3, [3])
  else if w.sealSt = 1 then some (3, [1])
  else if w.free ≤ 16 then some (3, [4])
  else if id = 11 then (if onP256 (openerOf body).1 (openerOf body).2 then none else some (3, [2]))
  else if 2 ^ whWidth id ≤ ofLeBytes body then some (3, [2])
  else none

/-- A FACTORY die changes parameters only with WH_SEAL_N low (R276). -/
def Weigh.factorySwitch (w : Weigh) : Bool := w.sealSt == 0 && !w.sealLow

/-- The charger's state at the level of VBAK (R78, R84, R85, R93, R94, R106): suspended above 90 °C, none without an
element, the pre-charge of a LIMN cell below 2.0 V, constant voltage from 3.10 V, constant current between. -/
def Weigh.charge (w : Weigh) : Weigh :=
  let ty := bitsOf (w.param 9) 5 4
  if w.src ≠ 0 ∨ w.halted ∨ ty = 0 ∨ ty = 2 then { w with chg := 0 }
  else if w.hot then { w with chg := 5 }
  else if w.absent then { w with chg := 4 }
  else if w.vbak < 0 then { w with chg := 0 }
  else if ty = 1 ∧ w.vbak < 2000 then { w with chg := 1 }
  else if 3100 ≤ w.vbak then { w with chg := 3 }
  else { w with chg := 2 }

/-- The charger starts anew (R83, R89): pre-charge for a LIMN cell below 2.0 V, otherwise constant current. -/
def Weigh.restartCharge (w : Weigh) : Weigh :=
  let x := w.charge
  if x.chg = 3 then { x with chg := 2 } else x

/-- The payload and the state after an accepted SEAL/PARAM: ledgered, then the tally closes where Table 7.12 says so
(R270, R271). -/
def Weigh.changeParam (w : Weigh) (fv tag id : Nat) (body : List Byte) : Weigh :=
  if id = 11 then
    let nd := sha256 body
    let w1 := (w.log 0x07 2 id (digest32 (w.openerDigest fv))).log 0x08 2 id (digest32 nd)
    (w1.setOpener (openerOf body)).reply ⟨4, 2, 0, tag, nd.take 4⟩
  else
    let v := ofLeBytes body
    let w1 := (w.log 0x07 2 id (w.param id)).log 0x08 2 id v
    if whCloses id then w1.close fv 3 0 0 (fun x => x.setParam id v) (some ⟨4, 2, 0, tag, body⟩)
    else
      let w2 := w1.setParam id v
      (if id = 9 then w2.charge else w2).reply ⟨4, 2, 0, tag, body⟩

/-- SEAL_PARAM (R279); in FACTORY a change needs WH_SEAL_N low (R276), else it is refused with reason STATE. -/
def execSealParam (tag : BitVec 8) (id : BitVec 8) (body : List Byte) (s : State) : Out :=
  .next (s.whServe (.sealParam tag id body) 4 2 tag.toNat (fun t =>
    match t.wh.paramRefusal id.toNat body with
    | some (r, p) => t.whAnswer 4 2 r tag.toNat p
    | none =>
      if t.wh.factorySwitch then t.whAnswer 4 2 3 tag.toNat [1]
      else { t with wh := t.wh.changeParam (Config.free t.freeIdx) tag.toNat id.toNat body }.drew))

/-- The pairs of OP and SUB that Table 7.11 lists. -/
def whListed (op sub : Nat) : Bool :=
  (op == 1 && decide (sub ≤ 6)) || (op == 2 && sub == 0) || (op == 3 && sub == 0) || (op == 4 && decide (sub ≤ 2))

/-- WHB_BAD_OP (R278). A listed pair is no such request. -/
def execWhbBadOp (tag : BitVec 8) (op sub : Fin 16) (s : State) : Out :=
  if whListed op sub then .next s
  else .next (s.whServe (.whbBadOp tag op sub) op sub tag.toNat (fun t => t.whAnswer op sub 1 tag.toNat []))

/-- SEAL_SWITCH_LOW (R272). -/
def execSealSwitchLow (s : State) : Out :=
  .next (if s.wh.halted then s else { s with wh := { s.wh with sealLow := true } })

/-- The seal closes (R275). -/
def Weigh.closeSeal (w : Weigh) (fv : Nat) : Weigh :=
  (w.log 0x05 2 0 w.sealCount).close fv 2 0 0 (fun x => { x with sealSt := 1 }) none

/-- SEAL_SWITCH_HIGH (R275, R276). -/
def execSealSwitchHigh (s : State) : Out :=
  let w := { s.wh with sealLow := false }
  if s.wh.halted then .next s
  else if w.sealSt = 2 ∨ (w.sealSt = 0 ∧ w.opener.isSome) then
    .next ({ s with wh := w.closeSeal (Config.free s.freeIdx) }.drew)
  else .next { s with wh := w }

/-- SEAL_NONCE_EXPIRE (R273): 60 s of RTC time after its issue. -/
def execSealNonceExpire (s : State) : Out := .next { s with wh := { s.wh with nonce := s.wh.freshNonce } }

/-! ### The core side of the bridge (R282 to R284, R297) -/

/-- A byte of the request buffer. -/
def Whb.reqBytes (b : Whb) (n : Nat) : List Byte := (List.range n).map (fun k => Tab.get 0 b.reqBuf k)

/-- The frame of a request (R277). -/
def bridgeFrame (op sub tag : Nat) (p : List Byte) : List Byte :=
  let h := leBytes 4 (op * 2 ^ 28 + sub * 2 ^ 24 + tag * 2 ^ 16 + p.length) ++ p
  [0x55, 0x55, 0xD5] ++ h ++ leBytes 4 (crc32 h)

/-- The block sends a new request with the next TAG (R282). -/
def State.whbSend (s : State) (kind slId op sub : Nat) (p : List Byte) : State :=
  let s1 := (((s.incr pWhb WHB.REQ_STATUS_TAG).setFld pWhb WHB.REQ_STATUS_BUSY 1).setFld pWhb
    WHB.REQ_STATUS_ATTEMPTS 1)
  { s1 with wb := { s1.wb with req := some (op, sub, p), kind := kind, slId := slId, sentAt := s1.tb.beat } }.send "BRIDGE" 0
    ((bridgeFrame op sub (s1.fld pWhb WHB.REQ_STATUS_TAG) p).map BitVec.toNat)

/-- The software request of REQ_CTRL is sent. -/
def State.whbGo (s : State) : State :=
  s.whbSend 0 0 (s.fld pWhb WHB.REQ_CTRL_OP) (s.fld pWhb WHB.REQ_CTRL_SUB) (s.wb.reqBytes (s.fld pWhb WHB.REQ_CTRL_LEN))

/-- A written SL register is passed on as SEAL/PARAM (R297). -/
def State.slSend (s : State) (id w : Nat) : State := s.whbSend 2 id 4 2 ([BitVec.ofNat 8 id, 0, 0, 0] ++ leBytes 4 w)

/-- The request in flight has ended; a mirror refresh that waited is sent, or a GO or an SL write that waited for the first
READ STATUS (R284, R714). -/
def State.whbFree (s : State) : State :=
  let s1 := { s with wb := { s.wb with req := none } }.setFld pWhb WHB.REQ_STATUS_BUSY 0
  if s1.wb.mirrorDue then { s1 with wb := { s1.wb with mirrorDue := false } }.whbSend 1 0 1 0 []
  else if !s1.wb.ready then (if s1.wb.goDue || s1.wb.slDue.isSome then s1.setFld pWhb WHB.REQ_STATUS_BUSY 1 else s1)
  else if s1.wb.goDue then { s1 with wb := { s1.wb with goDue := false } }.whbGo
  else
    match s1.wb.slDue with
    | some (id, w) => { s1 with wb := { s1.wb with slDue := none } }.slSend id w
    | none => s1

/-- A write of REQ_CTRL; LEN above 256 is stored as 256, and GO is ignored while BUSY (Table 7.18); a GO before the
first READ STATUS waits, with BUSY set (R714). -/
def State.reqCtrl (s : State) (w : Nat) : State :=
  let s1 := ((s.setFld pWhb WHB.REQ_CTRL_OP (bitsOf w 27 24)).setFld pWhb WHB.REQ_CTRL_SUB (bitsOf w 23 20)).setFld
    pWhb WHB.REQ_CTRL_LEN (min 256 (bitsOf w 8 0))
  if bitAt w 31 && !s.on pWhb WHB.REQ_STATUS_BUSY then
    if s.wb.ready then s1.whbGo
    else { s1 with wb := { s1.wb with goDue := true } }.setFld pWhb WHB.REQ_STATUS_BUSY 1
  else s1

/-- WHB_GO (R282): a write of REQ_CTRL. -/
def execWhbGo (a : Acc) (w : Word) (s : State) : Out :=
  .next (s.access (.whbGo a w) a pWhb 0x100 true (fun t => t.reqCtrl w.toNat))

/-- The mirror registers take the payload of a READ STATUS, and the mirrored events are raised (R284, Table 7.17). -/
def State.mirror (s : State) (p : List Byte) : State :=
  let g := fun k => ofLeBytes ((p.drop (4 * k)).take 4)
  let old := fun (f : Fld) => s.fld pWhb f
  let s1 := ((((((((((((((s.setFld pWhb WHB.MIRROR_MIRROR_STALE 0).setFld pWhb WHB.MIRROR_SEAL_STATE
    (bitsOf (g 0) 30 29)).setFld pWhb WHB.MIRROR_SEAL_N (bitsOf (g 0) 28 28)).setFld pWhb WHB.MIRROR_OPEN_FLAGS
    (bitsOf (g 0) 15 0)).setFld pWhb WHB.SEAL_COUNT_COUNT (g 1)).setFld pWhb WHB.TALLY_NO_OPEN (g 2)).setFld pWhb
    WHB.OPEN_LEN_LO_LEN (g 3)).setFld pWhb WHB.OPEN_LEN_HI_LEN (g 4)).setFld pWhb WHB.TOTAL_LO_TOTAL (g 5)).setFld
    pWhb WHB.TOTAL_HI_TOTAL (g 6)).setFld pWhb WHB.LSEQ_NEXT_NEXT (g 7)).setFld pWhb WHB.ACK_LSEQ_ACK (g 8)).setFld
    pWhb WHB.FREE_LEDGER (bitsOf (g 9) 28 16)).setFld pWhb WHB.FREE_TALLY (bitsOf (g 9) 7 0)).setFld pWhb
    WHB.RTC_SEC (g 10)
  let s2 := (((((((((s1.setFld pPower POWER.BAK_MIRROR_WH_SRC (bitsOf (g 11) 14 13)).setFld pPower
    POWER.BAK_MIRROR_BAK_LOW (bitsOf (g 11) 12 12)).setFld pPower POWER.BAK_MIRROR_BAT_ABSENT
    (bitsOf (g 11) 11 11)).setFld pPower POWER.BAK_MIRROR_CHG_STATE (bitsOf (g 11) 10 8)).setFld pPower
    POWER.BAK_MIRROR_BAK_TYPE (bitsOf (g 11) 5 4)).setFld pPower POWER.BAK_MIRROR_ICC_CODE (bitsOf (g 11) 3 0)).setFld
    pPower POWER.BAK_LEVELS_VHOLD_MV (bitsOf (g 12) 27 16)).setFld pPower POWER.BAK_LEVELS_VBAK_MV
    (bitsOf (g 12) 11 0)).setFld pPower POWER.BAK_CHARGE_ICHG_UA (bitsOf (g 13) 11 0)).incr pPower
    POWER.BAK_MIRROR_MIRROR_SEQ
  let s3 := (((((s2.setFld pPower POWER.BAK_MIRROR_MIRROR_STALE 0).condition pPower POWER.evMIRROR_STALE
    false).condition pPower POWER.evBAK_LOW (bitAt (g 11) 12)).condition pPower POWER.evBAT_ABSENT
    (bitAt (g 11) 11)).condition pPower POWER.evCHG_HOT (bitsOf (g 11) 10 8 == 5))
  let ev := fun (t : State) (b : Bool) (e : Ev) => if b then t.raise pWhb e else t
  let s4 := ev s3 (g 7 != old WHB.LSEQ_NEXT_NEXT) WHB.evLEDGER_NEW
  let s5 := (s4.condition pWhb WHB.evLEDGER_NEAR_FULL (decide (bitsOf (g 9) 28 16 < 512))).condition pWhb
    WHB.evLEDGER_FULL (decide (bitsOf (g 9) 28 16 ≤ 16))
  let s6 := ((s5.condition pWhb WHB.evMEAS_SUSPECT (bitAt (g 0) 4)).condition pWhb WHB.evTALLY_STORE_FULL
    (decide (bitsOf (g 9) 7 0 = 0))).condition pWhb WHB.evWH_FAULT (bitAt (g 14) 0)
  let st := bitsOf (g 0) 30 29
  let s7 := ev s6 (st == 2 && old WHB.MIRROR_SEAL_STATE != 2) WHB.evSEAL_OPENED
  let s8 := ev s7 (st == 1 && old WHB.MIRROR_SEAL_STATE != 1) WHB.evSEAL_CLOSED
  ev s8 (g 2 != old WHB.TALLY_NO_OPEN) WHB.evTALLY_CLOSED

/-- A ledger payload carries an NVM_ERROR entry (Table 7.17). -/
def hasNvmError : Nat → List Byte → Bool
  | 0, _ => false
  | n + 1, p => (!p.isEmpty && (ofLeBytes ((p.drop 3).take 1)) / 4 == 0x12) || hasNvmError n (p.drop 16)

/-- The response buffer holds a payload. -/
def Whb.fill (b : Whb) (p : List Byte) : Whb :=
  { b with rspBuf := ((List.range p.length).zip p).foldl (fun t e => Tab.set 0 t e.1 e.2) b.rspBuf }

/-- The household code of the request in flight: the manager's, but for the block's own READ STATUS (R180, R284). -/
def Whb.asker (b : Whb) : Nat := if b.kind = 1 then 14 else 15

/-- A READ STATUS has failed: both mirrors are stale (Table 3.13, Table 7.18). -/
def State.staleMirror (s : State) : State :=
  ((s.setFld pPower POWER.BAK_MIRROR_MIRROR_STALE 1).setFld pWhb WHB.MIRROR_MIRROR_STALE 1).condition pPower
    POWER.evMIRROR_STALE true

/-- The parameter register of an ID takes a value that the Weighhouse has confirmed (R297). -/
def State.confirmParam (s : State) (id v : Nat) : State :=
  if id = 0 ∨ 12 < id ∨ id = 11 then s else s.setFld pWhb (WHB.paramValue id) v

/-- What a response confirms of the parameters: the new value of a SEAL/PARAM, or the values of a READ PARAMS (R297). -/
def State.confirm (s : State) (op sub : Nat) (req p : List Byte) : State :=
  if op = 4 ∧ sub = 2 then s.confirmParam (ofLeBytes (req.take 1)) (ofLeBytes p)
  else if op = 1 ∧ sub = 5 then
    ((List.range 10).foldl (fun (t : State) k => t.confirmParam (k + 1) (ofLeBytes ((p.drop (4 * k)).take 4))) s).confirmParam
      12 (ofLeBytes ((p.drop 72).take 4))
  else s

/-- A valid response completes the request in flight (R282, R284, R293, R297). -/
def State.whbComplete (s : State) (op sub : Nat) (req : List Byte) (r : WhRsp) : State :=
  let s1 := (s.setFld pWhb WHB.REQ_STATUS_RESULT r.result).setFld pWhb WHB.REQ_STATUS_RSP_LEN r.payload.length
  let s2 := if s.wb.kind = 0 then { s1 with wb := s1.wb.fill r.payload }.setFld pWhb WHB.REQ_STATUS_DONE 1 else s1
  let s3 := if r.result ≠ 0 then s2.raiseBy pWhb WHB.evREQ_FAIL s.wb.asker
    else if s.wb.kind = 0 then s2.raise pWhb WHB.evREQ_DONE else s2
  let s4 := if r.result = 0 ∧ op = 1 ∧ sub = 0 then s3.mirror r.payload else s3
  let s5 := if r.result = 0 ∧ op = 1 ∧ sub = 1 ∧ hasNvmError 256 r.payload then s4.raise pWhb WHB.evWH_FAULT else s4
  let s6 := if r.result = 0 then s5.confirm op sub req r.payload else s5
  let s7 := if op = 1 ∧ sub = 0 ∧ r.result ≠ 0 then s6.staleMirror else s6
  let s8 : State := if op = 1 ∧ sub = 0 then { s7 with wb := { s7.wb with ready := true } } else s7
  s8.whbFree

/-- WHB_RESPONSE (R282): the frame on the record lane completes the request whose TAG and OP it carries; another, or one
whose CRC is wrong, is counted and awaits the retry (R293). -/
def execWhbResponse (s : State) : Out :=
  match s.wh.lane with
  | none => .next s
  | some f =>
    let s1 := { s with wh := { s.wh with lane := none } }
    match s.wb.req with
    | none => .next s1
    | some (op, sub, req) =>
      match rspOf f with
      | none => .next (s1.bump pWhb WHB.BRIDGE_STATS_ERRORS)
      | some r =>
        if r.op = op ∧ r.tag = s.fld pWhb WHB.REQ_STATUS_TAG then .next (s1.whbComplete op sub req r)
        else .next (s1.bump pWhb WHB.BRIDGE_STATS_ERRORS)

/-- WHB_FRAME_BAD_CRC (R278, R293): the frame is discarded; the core side counts one on the record lane. -/
def execWhbFrameBadCrc (toCore : Bool) (s : State) : Out :=
  .next (if toCore then { s with wh := { s.wh with lane := none } }.bump pWhb WHB.BRIDGE_STATS_ERRORS else s)

/-- WHB_RETRY_TIMEOUT (R282), 200 ms after a frame: up to two retransmissions, then TIMEOUT and BRIDGE_ERR. -/
def execWhbRetryTimeout (s : State) : Out :=
  match s.wb.req with
  | none => .next s
  | some (op, sub, p) =>
    let n := s.fld pWhb WHB.REQ_STATUS_ATTEMPTS
    if s.tb.beat < s.wb.sentAt + 200000000 then .next s
    else if n < 3 then
      let s0 : State := { s with wb := { s.wb with sentAt := s.tb.beat } }
      .next (((s0.setFld pWhb WHB.REQ_STATUS_ATTEMPTS (n + 1)).bump pWhb WHB.BRIDGE_STATS_RETRIES).send "BRIDGE" 0
        ((bridgeFrame op sub (s.fld pWhb WHB.REQ_STATUS_TAG) p).map BitVec.toNat))
    else
      let s1 := ((s.setFld pWhb WHB.REQ_STATUS_RESULT 7).raiseBy pWhb WHB.evBRIDGE_ERR s.wb.asker)
      let s2 := if s.wb.kind = 0 then (s1.setFld pWhb WHB.REQ_STATUS_DONE 1).setFld pWhb WHB.REQ_STATUS_RSP_LEN 0
        else s1
      .next (if op = 1 ∧ sub = 0 then s2.staleMirror else s2).whbFree

/-- A write of an SL register (R297): passed as SEAL/PARAM while the seal reads open or FACTORY and the block is idle; before
the first READ STATUS it waits, with BUSY set (R714). OPENER_KEY is written through the request buffer only. -/
def State.slWrite (s : State) (id w : Nat) : State :=
  if s.fld pWhb WHB.MIRROR_SEAL_STATE = 1 ∨ s.on pWhb WHB.REQ_STATUS_BUSY ∨ id = 11 then
    s.raiseBy pWhb WHB.evPARAM_REFUSED 15
  else if s.wb.ready then s.slSend id w
  else { s with wb := { s.wb with slDue := some (id, w) } }.setFld pWhb WHB.REQ_STATUS_BUSY 1

/-- SL_PARAM_WRITE (R297). -/
def execSlParamWrite (a : Acc) (reg : Fin 12) (w : Word) (s : State) : Out :=
  .next (s.access (.slParamWrite a reg w) a pWhb (0x200 + 4 * reg.val) true (fun t => t.slWrite (reg.val + 1) w.toNat))

/-- The status read of a mirror refresh: it waits for a request that is outstanding (R284). -/
def State.mirrorRead (s : State) : State :=
  if s.wb.req.isSome then { s with wb := { s.wb with mirrorDue := true } } else s.whbSend 1 0 1 0 []

/-- A mirror refresh is due: MIRROR_EN is 1, and 2^(16 + PERIOD) st have passed since the last (Table 3.16). -/
def State.mirrorDueNow (s : State) : Bool :=
  s.on pPower POWER.MIRROR_CTRL_MIRROR_EN && (match s.wb.mirrorLast with
    | some b => decide (b + 2 ^ (16 + s.fld pPower POWER.MIRROR_CTRL_PERIOD) ≤ s.tb.beat)
    | none => true)

/-- MIRROR_REFRESH (R284, Table 3.16): an internal requester asks for a status read through the ENGINE master port and the
WHB target port (R160, Tables 5.3, 5.4). -/
def execMirrorRefresh (s : State) : Out :=
  if s.mirrorDueNow then
    .next (({ s with wb := { s.wb with mirrorLast := some s.tb.beat } } : State).mxSubmit
      { port := 2, acc := ⟨.engine, 15, 37, 0, false⟩, addr := 0x2800000000, write := false, size := 8, data := []
        words := 1, arrived := s.tb.beat, promoted := false, hdr := none, ref := 0, slot := none })
  else .next s

end Sys2Proof.Machine
end

