-- ==== Sys2Proof/Machine/Power.lean ====
section
/-!
DEFINITION. The Weighhouse's power path, backup element and charger (Chapter 3, R73 to R107), and the straps (R58 to
R60).
-/

namespace Sys2Proof.Machine

/-! ### Going onto backup and returning -/

/-- Changes the Weighhouse die. -/
def State.onWh (s : State) (f : Weigh → Weigh) : State := { s with wh := f s.wh }

/-- VDDW falls below 2.90 V (R86): a gap starts, unless one has not ended yet, and the charger stops (R75). -/
def Weigh.vddwFall (w : Weigh) : Weigh :=
  if w.src = 1 then w
  else
    let g := match w.gap with
      | some t => t
      | none => w.rtcWord
    { w with src := 1, gap := some g, chg := 0, probing := false, probeDue := false, low := false, tally := { w.tally with gap := true } }

/-- VDDW_FALL (R86). -/
def execVddwFall (s : State) : Out := .next (s.onWh Weigh.vddwFall)

/-- VDDW_RISE (R73, R74): above 3.05 V, main power is qualified. -/
def execVddwRise (s : State) : Out :=
  .next (s.onWh (fun w => if w.src = 0 then w else { w with src := 2, riseAt := w.ns }))

/-- AUX of the POWER_GAP entries (Table 7.9). -/
def Weigh.gapAux (w : Weigh) : Nat := 2 * b2n w.gapRtc + 4 * b2n w.gapHalt

/-- Main power is accepted (R88, R89, R95): the POWER_GAP entries, BACKUP_ABSENT again while absent, the charger. -/
def Weigh.accept (w : Weigh) : Weigh :=
  if w.halted ∨ w.commit ∨ w.src ≠ 2 then w
  else
    let w1 := { w with src := 0 }
    let w2 := match w.gap with
      | some t => (w1.ledgerAt t 0x01 2 w.gapAux 0).log 0x01 2 (w.gapAux + 1) 0
      | none => w1
    let w3 := if w2.absent then w2.log 0x03 2 0 0 else w2
    { w3 with
      gap := none
      gapHalt := false
      gapRtc := false
      low := false
      tally := { w3.tally with gap := true } }.restartCharge

/-- ACCEPT_MAIN_POWER (R88): 20 ms after VDDW rose, or at once where VBAK_HOLD has been below VBAK_COMMIT. -/
def execAcceptMainPower (s : State) : Out :=
  .next (s.onWh (fun w => if w.low ∨ w.riseAt + 20000000 ≤ w.ns then w.accept else w))

/-- VBAK_COMMIT_CROSS (R74, R100): on BACKUP, and on the tick on which VDDW rises (Table 3.7), a commit starts; with one
running, that one serves. -/
def execVbakCommitCross (s : State) : Out :=
  .next (s.onWh (fun w =>
    let x := { w with low := w.low || w.src != 0 }
    if w.halted ∨ w.commit ∨ w.src = 0 ∨ (w.src = 2 ∧ w.riseAt ≠ w.ns) then x else x.startCommit))

/-- WEIGHHOUSE_HALT (R101, R102): on BACKUP, VBAK_HOLD reaches VBAK_DEAD; a commit in progress stays torn. -/
def execWeighhouseHalt (s : State) : Out :=
  .next (s.onWh (fun w => if w.halted ∨ w.src ≠ 1 then w
    else { w with halted := true, gapHalt := true, low := true, commit := false, nonce := none, lane := none, queue := [], probing := false
                  probeDue := false }))

/-- RTC_STOP (R103): the clock stops and keeps its value; RTC_LOST stands until RTC_SEC is written. -/
def execRtcStop (s : State) : Out :=
  .next (s.onWh (fun w => { w with
    rtcStopped := true, rtcLost := true, gapRtc := w.gap.isSome || w.gapRtc
    tally := { w.tally with rtcLost := true } }))

/-- The backup element is declared absent (R82, R93). -/
def Weigh.declareAbsent (w : Weigh) : Weigh :=
  if w.absent then w
  else ({ w with absent := true, passes := 0, probing := false }.log 0x03 2 0 0).charge

/-- One more passing probe or sample; the second in a row ends the absence (R83, R93). -/
def Weigh.passed (w : Weigh) : Weigh :=
  if !w.absent then w
  else if w.passes + 1 < 2 then { w with passes := w.passes + 1 }
  else ({ w with absent := false, passes := 0 }.log 0x03 2 1 0).restartCharge

/-- BAK_TYPE is one that the charger charges: LIMN or SUPERCAP. -/
def Weigh.charges (w : Weigh) : Bool := bitsOf (w.param 9) 5 4 % 2 == 1

/-- A sample of VBAK (R93, R94). -/
def Weigh.sampleVbak (w : Weigh) (mv : Int) : Weigh :=
  if w.halted then w
  else
    let w1 := { w with vbak := mv }
    if mv < 0 then { w1.declareAbsent with passes := 0 }
    else if w1.charges then w1
    else if mv < 1000 then { w1.declareAbsent with passes := 0 }
    else w1.passed

/-- The newest slot that is torn and newer than the newest sealed one. -/
def Weigh.tornSlot (w : Weigh) : Option CommitSlot :=
  (w.ring.map (·.2)).find? (fun c => !c.good && (match w.newest with
    | some x => decide (x.seq < c.seq)
    | none => true))

/-- What a die that has committed nothing loads: tally 1, opened in FACTORY state. -/
def CommitSlot.first : CommitSlot := { CommitSlot.empty with tallyNo := 1, tally := Tally.fresh 0 true false false }

/-- What a slot holds of a channel is loaded; the levels of its inputs are those of now, and its measures begin afresh. -/
def MeterCh.loaded (c now : MeterCh) : MeterCh := { c.kept with a := now.a, b := now.b, z := now.z }

/-- The state that the newest sealed slot holds is loaded (R101, R294); edges since are lost. A clock that stopped goes on
from the slot's time. -/
def Weigh.load (w : Weigh) : Weigh :=
  let c := w.newest.getD CommitSlot.first
  { w with
    tallyNo := c.tallyNo, total := c.total, ovf := c.ovf, lseq := c.lseq, hash := c.hash
    tally := { c.tally with
      gap := c.tally.gap || w.tally.gap, halted := c.tally.halted || w.keyed, rtcLost := c.tally.rtcLost || w.rtcLost }
    w0 := c.w0.loaded w.w0, w1 := c.w1.loaded w.w1
    rtc := if w.rtcStopped then c.rtc else w.rtc
    bankSeq := if w.newest.isSome then c.seq + 1 else 0 }

/-- The ledger entries from LSEQ_NEXT on that are in sequence, up to one that reads with an error, are adopted, and H is
computed over them (R294). -/
def Weigh.adopt (bad : Option Nat) : Nat → Weigh → Weigh
  | 0, w => w
  | n + 1, w =>
    match Tab.lookup w.ledger (w.lseq % 4096) with
    | some e =>
      if e.1 / 2 ^ 32 = w.lseq ∧ bad ≠ some w.lseq then
        Weigh.adopt bad n { w with lseq := (w.lseq + 1) % 2 ^ 32, hash := sha256 (w.hash ++ entryBytes e) }
      else w
    | none => w

/-- The two parameter copies and the identity area as a start finds them: one bad copy is rewritten from the other (Table
7.16). -/
def Weigh.checkCopies (w : Weigh) (copyA copyB identity : Bool) : Weigh :=
  let a := copyA && w.parA.sound
  let b := copyB && w.parB.sound
  { w with
    idBad := !identity
    paramsBad := !a && !b
    rewritten := 0
    parA := if !a && b then w.parB else w.parA
    parB := if a && !b then w.parA else w.parB }

/-- What a start ledgers of the areas that it found bad, in the order of its steps (Table 7.16). -/
def Weigh.logAreas (w : Weigh) (a b identity : Bool) (slot ledger : Option Nat) : Weigh :=
  let w1 := if a then w else w.log 0x12 2 4 0x1D000
  let w2 := if b then w1 else w1.log 0x12 2 4 0x1E000
  let w3 := if identity then w2 else w2.log 0x12 2 5 0x1F000
  let w4 := match slot with
    | some k => w3.log 0x12 2 2 (0x10000 + 64 * k)
    | none => w3
  match ledger with
  | some k => w4.log 0x12 2 1 (16 * (k % 4096))
  | none => w4

/-- A slot of the commit ring with an uncorrectable word is no valid one. -/
def Weigh.spoil (w : Weigh) (slot : Option Nat) : Weigh :=
  match slot with
  | some k => { w with ring := w.ring.map (fun e => if e.1 = k then (e.1, { e.2 with good := false }) else e) }
  | none => w

/-- Step 2 of R294: a slot that a halt left torn is ledgered, marks the open tally and is erased. -/
def Weigh.ledgerTorn (w : Weigh) (torn : Option CommitSlot) : Weigh :=
  match torn with
  | some c =>
    let x := w.log 0x02 2 0 c.seq
    { x with tally := { x.tally with torn := true }, ring := Tab.set CommitSlot.empty x.ring (c.seq % 512) CommitSlot.empty }
  | none => w

/-- The key pair that the first application of power generates (Table 7.9). -/
def Weigh.makeKey (w : Weigh) (serial : Nat) : Weigh :=
  if w.keyed then w else { w with keyed := true }.log 0x15 2 0 (serial % 2 ^ 32)

/-- The last steps of a start: WH_START, a suspect tally where both parameter copies failed, and the first sample of VBAK
(R294, R292, R93). -/
def Weigh.started (w : Weigh) (seq : Nat) (vbakMv : Int) : Weigh :=
  let x := { w with rtcStopped := false, sampleAt := w.ns, routineAt := w.ns, probeAt := none }.log 0x13 2 0 seq
  { x with tally := { x.tally with suspect := x.tally.suspect || x.paramsBad } }.sampleVbak vbakMv

/-- WEIGHHOUSE_START (R294, R107, R93): after a halt or at the first application of power, when the key pair is generated
(Table 7.9). The three flags say which areas read without error; `slot` is a slot of the commit ring and `ledger` the LSEQ
of an entry that do not; the level is the first sample of VBAK. Entries are ledgered once the ledger's end is known (log
entry 82). -/
def execWeighhouseStart : Bool → Bool → StartAreas → Int → State → Out
  | copyA, copyB, ⟨identity, slot, ledger⟩, vbakMv, s =>
  .next (s.onWh (fun w =>
    if !w.halted then w
    else
      let sl := slot.map Fin.val
      let lb := ledger.map BitVec.toNat
      let w1 := ({ w with halted := false }.checkCopies copyA copyB identity).spoil sl
      let w2 := ((w1.load.adopt lb 4096).logAreas (copyA && w.parA.sound) (copyB && w.parB.sound) identity sl lb).ledgerTorn
        w1.tornSlot
      (w2.makeKey s.si.whSerial).started ((w2.newest.map CommitSlot.seq).getD 0) vbakMv))

/-! ### The backup element and its charger -/

/-- BAK_LOW_CROSS (R92). -/
def execBakLowCross (below : Bool) (s : State) : Out :=
  .next (s.onWh (fun w => if w.halted then w else { w with bakLow := below }))

/-- CHARGER_LEVEL_CROSS (R78, R84, R94): VBAK crosses one of the charger's levels. Constant voltage stays as a float
level, but never for a LIMN cell below 2.0 V. -/
def execChargerLevelCross (mv : Nat) (s : State) : Out :=
  .next (s.onWh (fun w =>
    let w1 := { w with vbak := mv }
    if w.halted ∨ w.absent ∨ w.hot then w1
    else if w.chg = 3 ∧ !(bitsOf (w.param 9) 5 4 = 1 ∧ mv < 2000) then w1
    else w1.charge))

/-- VBAK_FAST_RISE (R81): at constant current, the rise declares the element absent. -/
def execVbakFastRise (s : State) : Out :=
  .next (s.onWh (fun w => if w.halted ∨ w.chg ≠ 2 then w else w.declareAbsent))

/-- IMPEDANCE_PROBE_START (R81, R82, R85, R100): every 8 s the 1 ms pulse begins; it waits while a commit runs. -/
def execImpedanceProbeStart (s : State) : Out :=
  .next (s.onWh (fun w =>
    let early : Bool := match w.probeAt with
      | some t => decide (w.ns < t + 8000000000)
      | none => false
    if w.halted ∨ w.src ≠ 0 ∨ !w.charges ∨ !(w.absent ∨ w.chg = 3 ∨ w.chg = 5) ∨ early then w
    else if w.commit then { w with probeDue := true } else w.startProbe))

/-- IMPEDANCE_PROBE_DONE (R81 to R83), 1 ms after its start: the probe passes if VBAK rose by 50 mV or less. -/
def execImpedanceProbeDone (riseMv vbakMv : Nat) (s : State) : Out :=
  .next (s.onWh (fun w =>
    let due : Bool := match w.probeAt with
      | some t => decide (t + 1000000 ≤ w.ns)
      | none => false
    if !w.probing ∨ !due then w
    else
      let w1 := { w with probing := false, vbak := vbakMv }
      if riseMv ≤ 50 then w1.passed
      else if w1.absent then { w1 with passes := 0 } else w1.declareAbsent))

/-- VBAK_SAMPLE (R93, R94), every 8 s from the start with BAK_TYPE NONE or PRIMARY. -/
def execVbakSample (mv : Int) (s : State) : Out :=
  .next (s.onWh (fun w =>
    if w.charges then w.sampleVbak mv
    else if w.ns < w.sampleAt + 8000000000 then w
    else { w with sampleAt := w.sampleAt + 8000000000 }.sampleVbak mv))

/-- WH_TEMP_CROSS (R85): above 90 °C charging is suspended, below 85 °C it resumes. -/
def execWhTempCross (hot : Bool) (vbakMv : Nat) (s : State) : Out :=
  .next (s.onWh (fun w => if w.halted then w else { w with hot := hot, vbak := vbakMv }.charge))

/-! ### Straps (R58 to R60) -/

/-- The majority of three samples, bit by bit. -/
def majority (a b c : Nat) : Nat := (a &&& b) ||| (a &&& c) ||| (b &&& c)

/-- The latched straps: CFG0 to CFG5 in bits 0 to 5, A0_MODE to A5_MODE in bits 6 to 11. STRAP_ERR is set where the
samples disagree, or where CFG1 and CFG0 spell the reserved value (Table 2.11, R59). -/
def State.latchStraps (s : State) (s1 s2 s3 : Nat) : State :=
  let m := majority s1 s2 s3
  let dis := (s1 ^^^ s2) ||| (s2 ^^^ s3)
  let err := dis != 0 || m % 4 == 3
  let t := (((s.setFld pDevice DEVICE.STRAP_CFG (m % 64)).setFld pDevice DEVICE.STRAP_AMODE (m / 64)).setFld pDevice
    DEVICE.STRAP_STRAP_ERR (b2n err)).setFld pDevice DEVICE.STRAP_ERR_MASK dis
  let u : State := { t with dbg := { t.dbg with off := t.dbg.off || bitAt m 3 } }
  if err then u.raise pDevice DEVICE.evSTRAP_ERR else u

/-- The reference that CFG1 and CFG0 select (Table 2.11, R147). -/
def State.strapRef (s : State) : State :=
  let c := s.fld pDevice DEVICE.STRAP_CFG % 4
  let s1 := s.setFld pRefmon REFMON.REF_ACTIVE_SOURCE (if c = 1 ∨ c = 2 then 1 else 0)
  if c = 1 then s1.setFld pRefmon REFMON.REFIN_FREQ_F25 0
  else if c = 2 then s1.setFld pRefmon REFMON.REFIN_FREQ_F25 1 else s1

/-- STRAP_SAMPLE (R58, R59): the three samples of every strap; they select the reference where no dawn has released
the counters (R147). -/
def execStrapSample (s1 s2 s3 : BitVec 12) (s : State) : Out :=
  let t := s.latchStraps s1.toNat s2.toNat s3.toNat
  .next (if t.tb.running then t else t.strapRef)

end Sys2Proof.Machine
end

