-- ==== Sys2Proof/Machine/Resets.lean ====
section
/-!
DEFINITION. The reset classes (R80, R186, R187, R660 to R662, R713) and what enables, owners and supplies do to the
blocks (R105, R175, R741).
-/

namespace Sys2Proof.Machine

/-! ### Fields of a page -/

/-- The field at a key of the register file. -/
def State.fieldAt (s : State) (key : Nat) : Option Fld :=
  (s.fieldsOf (key / 32768) (key % 32768 / 32 * 4)).find? (fun f => f.bit == key % 32768)

/-- The fields of a page from bit address `lo` up to `hi` return to their reset values, and their shadows are dropped,
but for those that `keep` keeps. -/
def State.clearFields (s : State) (p lo hi : Nat) (keep : Fld → Bool) : State :=
  let stays (key : Nat) : Bool :=
    key < regKey p lo || regKey p hi ≤ key || (match s.fieldAt key with
      | some f => keep f
      | none => false)
  { s with regs := Tab.keep stays s.regs, shadows := Tab.keep stays s.shadows }

/-- An LK field of a locked page (R185). -/
def State.frozen (s : State) (p : Nat) (f : Fld) : Bool := f.lk && s.isLocked p

/-- The header registers that SRST and HOUSEHOLD keep: PAGE_LOCK, OWNER and SHADOW_CTRL (R187, Table 5.5). -/
def keptHeader (f : Fld) : Bool := decide (11 ≤ f.bit / 32) && decide (f.bit / 32 ≤ 13)

/-- The conditions of a page hold no longer, but for those that `m` names. -/
def State.calmPage (s : State) (p m : Nat) : State :=
  let l := s.liveMask p &&& m
  { s with live := Tab.set 0 s.live p l }.setFld p HDR.EVT_RAW_RAW l

/-! ### The blocks with EN_CTL (R187, R741) -/

/-- A stage that has turned every gate off and keeps what its pins and supplies show. -/
def GateSt.rest (g : GateSt) : GateSt :=
  { GateSt.reset with
    above := g.above, offAt := g.offAt, bstPin := g.bstPin, bstLow := g.bstLow, tripLow := g.tripLow
    linkBad := g.linkBad, credits := g.credits }

/-- A block starts again from its WARM state, its registers apart. -/
def State.blockRest (s : State) (p : Nat) : State :=
  match s.blk p with
  | some .ephem => s.setEph Ephem.reset
  | some .ingest => s.setRx (p - pIngest 0) RxSt.reset
  | some .motor => (s.gatesOff (p - pMotor 0)).modMo (p - pMotor 0) (fun m =>
      { MotorSt.reset with hallCode := m.hallCode, hallSector := m.hallSector })
  | some .pwm => (s.gatesOff (p - pPwm 0)).setPw (p - pPwm 0) PwmSt.reset
  | some .gate => s.setGt (p - pGate 0) (s.gt (p - pGate 0)).rest
  | some .fabp => if s.portUp (p - pFabp 0) then s.linkDown (p - pFabp 0) else s.setPort (p - pFabp 0) PortSt.reset
  | some .disc => ({ s with disc := DiscSt.reset }.setNum false 0).voidExchange.constLost
  | some .const => { s with cst := ConstSt.reset }
  | _ => s

/-- The live condition that outlasts a reset of the page: a low bootstrap supply (R360). -/
def lastingMask (p : Nat) : Nat := if inRange 0x098 4 p then 2 ^ GATE.evBST_UV.bit else 0

/-- A block that is enabled begins; one that is disabled holds its outputs in reset state (R196, R741). -/
def State.blockEnable (s : State) (p : Nat) : State :=
  let on := s.enabled p
  match s.blk p with
  | some .ingest => if on then s else s.setRx (p - pIngest 0) { s.rx (p - pIngest 0) with lines := [] }
  | some .motor => if on ∨ s.motorState (p - pMotor 0) = 11 then s else s.motorOff (p - pMotor 0)
  | some .pwm =>
    let n := p - pPwm 0
    if !on then (s.gatesOff n).setPw n PwmSt.reset else if (s.pw n).due.isSome then s else s.alignPwm n
  | some .gate => if on then s.tripAct (p - pGate 0) else s.gatesOff (p - pGate 0)
  | some .fabp => s.fabpEnable (p - pFabp 0)
  | some .disc => s.discEnable.constFollow s.rootPort
  | some .const => s.constEnable
  | _ => s

/-- PAGE_CTRL.EN takes a value; without EN_CTL it ignores writes (R741). -/
def State.setEnable (s : State) (p : Nat) (en : Bool) : State :=
  match s.blk p with
  | some b =>
    if b.enCtl && s.on p HDR.PAGE_CTRL_EN != en then (s.setFld p HDR.PAGE_CTRL_EN (b2n en)).blockEnable p else s
  | none => s

/-- PAGE_ENABLE (R741). -/
def execPageEnable (a : Acc) (page : Fin 512) (en : Bool) (s : State) : Host.Outcome State Fault Refusal :=
  .next (s.access (.pageEnable a page en) a page 0x00C true (fun t => t.setEnable page en))

/-- A soft reset (R187): every field of the page returns to its WARM value, but for OWNER, PAGE_LOCK, SHADOW_CTRL, EN and
the LK fields of a locked page; the shadows are discarded; RESET_BUSY is 1 until it ends. -/
def State.softReset (s : State) (p : Nat) : State :=
  match s.blk p with
  | some b =>
    if b.enCtl then
      let keep (f : Fld) : Bool := keptHeader f || f.bit == HDR.PAGE_CTRL_EN.bit || s.frozen p f
      let t := (((s.dropShadows p).blockRest p).clearFields p 0 32768 keep).calmPage p (lastingMask p)
      let u := if t.enabled p then t.blockEnable p else t
      { u with
        srstBusy := if u.srstBusy.contains p then u.srstBusy else u.srstBusy ++ [p]
        srstAt := Tab.insert u.srstAt p u.tb.beat }
    else s
  | none => s

/-- PAGE_SRST (R187). -/
def execPageSrst (a : Acc) (page : Fin 512) (s : State) : Host.Outcome State Fault Refusal :=
  .next (s.access (.pageSrst a page) a page 0x00C true (fun t => t.softReset page))

/-- PAGE_SRST_DONE (R187): not on the beat of the write itself. -/
def execPageSrstDone (page : Fin 512) (s : State) : Host.Outcome State Fault Refusal :=
  if Tab.lookup s.srstAt page = some s.tb.beat then .next s
  else .next { s with srstBusy := s.srstBusy.filter (fun p => p != page.val) }

/-- A served write of PAGE_CTRL: ERR_CLR, then EN, then SRST. -/
def State.pageCtrl (s : State) (p w : Nat) : State :=
  let s1 := if bitAt w 2 then s.errClr p else s
  let s2 := s1.setEnable p (bitAt w 0)
  if bitAt w 1 then s2.softReset p else s2

/-! ### Boundaries (R182 to R184) -/

/-- The page supports a value of BOUNDARY (R183); MERIDIAN only where it has an SH field (DESIGN CHOICE, log entry 43). -/
def State.boundaryOk (s : State) (p b : Nat) : Bool :=
  match s.blk p with
  | some k => b == 0 || (b == 1 && k.hasPeriod) || (b == 2 && k.hasShadow)
  | none => false

/-- BOUNDARY takes a value; a change to IMMEDIATE applies the pending shadows (R183). -/
def State.setBoundary (s : State) (p b : Nat) : State :=
  if s.boundaryOk p b then
    let t := s.setFld p (HDR.boundary p) b
    if b = 0 then t.applyPage p else t
  else s

/-- SHADOW_BOUNDARY_WRITE (R183). -/
def execShadowBoundaryWrite (a : Acc) (page : Fin 512) (b : Fin 4) (s : State) : Host.Outcome State Fault Refusal :=
  .next (s.access (.shadowBoundaryWrite a page b) a page 0x034 true (fun t => t.setBoundary page b))

/-- A served write of SHADOW_CTRL: DISCARD, then VIEW and BOUNDARY. -/
def State.shadowCtrl (s : State) (p w : Nat) : State :=
  let s1 := if bitAt w 9 then s.dropShadows p else s
  (s1.setFld p HDR.SHADOW_CTRL_VIEW (bitsOf w 4 4)).setBoundary p (bitsOf w 1 0)

/-! ### Owners (R175, R176, Table 10.8) -/

/-- The pages whose OWNER a write of one page's OWNER sets: a logical quad, or a motor channel (R175). -/
def ownerGroup (p : Nat) : List Nat :=
  if inRange 0x100 64 p then (List.range 4).map (fun i => p - p % 4 + i)
  else if inRange 0x090 12 p then (List.range 3).map (fun i => 0x090 + 4 * i + p % 4)
  else [p]

/-- A running household loses a quad: its run is aborted with cause OWNER, and its LOADED slots become EMPTY (Table
10.8). -/
def State.tileLost (s : State) (h : Nat) : State :=
  match s.runOf h with
  | some r =>
    (List.range 16).foldl (fun (t : State) k =>
      if t.slotOwner k = h ∧ t.slotState k = 2 then
        { t with img := Tab.erase t.img k }.setFld pSieve (SIEVE.STATUS_STATE.at k) 0
      else t) (s.abortRun h r 13)
  | none => s

/-- A served write of OWNER by the manager (R175, R176): only pages of kind P take it, and only 0 to 7 and 0xF. -/
def State.setOwner (s : State) (p v : Nat) : State :=
  match s.blk p with
  | some b =>
    if b.own = .p ∧ (v < 8 ∨ v = 15) then
      let s1 := if b = .tile ∧ s.owner p ≠ v then s.tileLost (s.owner p) else s
      (ownerGroup p).foldl (fun t q => t.setFld q (HDR.owner q) v) s1
    else s
  | none => s

/-- OWNER_WRITE (R173, R175, R176). -/
def execOwnerWrite (a : Acc) (page : Fin 512) (v : Fin 16) (s : State) : Host.Outcome State Fault Refusal :=
  .next (s.mgrAccess (.ownerWrite a page v) a page 0x030 (fun t => t.setOwner page v))

/-! ### HOUSEHOLD reset (R186, R660, R661, Table 5.5) -/

/-- The header and block of a page of kind P or F return to their WARM values: OWNER, PAGE_LOCK, SHADOW_CTRL, LK fields of
a locked page and what `keep` names stay. -/
def State.pageHousehold (s : State) (p : Nat) (keep : Fld → Bool) : State :=
  let t := (s.blockRest p).clearFields p 0 32768 (fun f => keptHeader f || s.frozen p f || keep f)
  t.calmPage p (lastingMask p)

/-- A resource's block on a page of kind A returns to its WARM values. -/
def State.blockHousehold (s : State) (p off size : Nat) (keep : Fld → Bool) : State :=
  s.clearFields p (off * 8) ((off + size) * 8) (fun f => s.frozen p f || keep f)

/-- The entries of the almanac that h owns become FREE (Chapter 4). -/
def State.almHousehold (s : State) (h : Nat) : State :=
  { s with tb := { s.tb with alm := s.tb.alm.map (fun (x : Nat × AlmEntry) =>
      if x.2.owner = h then (x.1, { AlmEntry.reset with owner := h }) else x) } }

/-- h's axis channels, outputs, receivers (R244). -/
def State.lineHousehold (s : State) (h : Nat) : State :=
  let s1 := ((List.range 6).filter (fun k => s.fld pAxis (AXIS.AX_OWNER_CH.at k) == h)).foldl (fun (t : State) k =>
    let x := t.axis k
    (t.blockHousehold pAxis (0x200 + 0x40 * k) 0x40 (fun _ => false)).setAxis k (x.inputs true)) s
  let s2 := ((List.range 16).filter (fun k => s.fld pTrig (TRIG.TRG_OWNER_OUT.at k) == h)).foldl (fun (t : State) k =>
    [2 * k, 2 * k + 1].foldl (fun (u : State) i => (u.disarm (trigF i)).setSched (trigF i) SchedSt.reset)
      (t.blockHousehold pTrig (0x200 + 0x80 * k) 0x80 (fun _ => false))) s1
  let s3 := ((List.range 8).filter (fun k => s.fld pStrobe (STROBE.STB_OWNER_OUT.at k) == h)).foldl (fun (t : State) k =>
    ((t.blockHousehold pStrobe (0x200 + 0x40 * k) 0x40 (fun _ => false)).disarm (stbF k)).setSched (stbF k)
      SchedSt.reset) s2
  ((List.range 4).filter (fun m => s.owner (pIngest m) == h)).foldl (fun (t : State) m =>
    t.pageHousehold (pIngest m) (fun _ => false)) s3

/-- h's motor channels: gates off, OFF, and WARM values, GATE_STUCK kept (R335, R378). -/
def State.driveHousehold (s : State) (h : Nat) : State :=
  ((List.range 4).filter (fun n => s.owner (pMotor n) == h)).foldl (fun (t : State) n =>
    ((t.pageHousehold (pMotor n) (fun _ => false)).pageHousehold (pPwm n) (fun _ => false)).pageHousehold (pGate n)
      (fun f => f.bit == GATE.LATCH_GATE_STUCK.bit)) s

/-- h's run, slots, tiles and debug block (R416, R417, R699): cause 3 aborts the run. -/
def State.sieveHousehold (s : State) (h : Nat) : State :=
  let s1 := match s.runOf h with
    | some r => s.abortRun h r 3
    | none => s
  let s2 := ((List.range 16).filter (fun k => s.slotOwner k == h)).foldl (fun (t : State) k =>
    { t with img := Tab.erase t.img k }.blockHousehold pSieve (0x200 + 0x80 * k) 0x80 (fun _ => false)) s1
  let s3 := ((List.range 64).filter (fun n => (s.blk (pTile n)).isSome && s.tileOwner n == h)).foldl
    (fun (t : State) n => (t.pageHousehold (pTile n) (fun _ => false)).setTl n TileSt.reset) s2
  s3.debugHouseholdReset h

/-- h's queues are disabled and empty; what only the manager writes stays (R490). -/
def State.queueHousehold (s : State) (h : Nat) : State :=
  let t := ((List.range 32).filter (fun i => s.qOwner (32 * h + i) == h)).foldl (fun (t : State) i =>
    ((t.unlistQueue (32 * h + i)).setQ (32 * h + i) QueueSt.reset).blockHousehold (pQeh h) (0x200 + 0x40 * i) 0x40
      Fld.mgr) s
  let u := (t.clearFields (pQeh h) 0 0x800 keptHeader).calmPage (pQeh h) 0
  (u.setFld (pQeh h) QEH.HH_LOST_MAP 0).setFld (pQeh h) QEH.ERR_QUEUE_INDEX 0

/-- h's egress slots are disabled and its rings with them; h's policers clear their counters and fill (R531, R661). -/
def State.egressHousehold (s : State) (h : Nat) : State :=
  let s1 := (List.range 5).foldl (fun (t : State) p =>
    ((List.range 64).filter (fun k => s.fld (pSch p) (SCH.SLOT_OWNER_SLOT.at k) == h)).foldl (fun (u : State) k =>
      let v := ((u.idleSlot p k).setSlot p k SlotSt.reset).blockHousehold (pSch p) (0x100 + 0x30 * k) 0x30 Fld.mgr
      if p = 0 then (v.ringOff k).clearRegs pHost ((0x400 + 0x20 * k) * 8) ((0x420 + 0x20 * k) * 8) else v) t) s
  (List.range 4).foldl (fun (t : State) k =>
    let g := pPol k
    (t.clearFields g ((0x200 + 0x40 * h) * 8) ((0x240 + 0x40 * h) * 8) (fun f => f.kind != .rc)).setPolB k h
      ⟨(t.fld g (POL.CBS_BYTES.at h) * 65536 : Nat), (t.fld g (POL.PBS_BYTES.at h) * 65536 : Nat), 0, 0⟩) s1

/-- h's provenance block (R636). -/
def State.provHousehold (s : State) (h : Nat) : State :=
  (s.blockHousehold pProv (0x200 + 0x100 * h) 0x100 (fun _ => false)).setPv h ProvSt.reset

/-- h's page, mailboxes and pending messages (R661, Table 17.11); a Function Level Reset also resets the function. -/
def State.hostHousehold (s : State) (h : Nat) (flr : Bool) : State :=
  let s1 := (s.clearFields (pHh h) 0 32768 keptHeader).calmPage (pHh h) 0
  let s2 := (List.range 16).foldl (fun (t : State) m => t.mbOff h m) s1
  if flr then s2.setFunc (h + 1) FuncSt.reset else s2.setFunc (h + 1) { s2.func (h + 1) with pend := 0 }

/-- Every unit applies the HOUSEHOLD values of its chapter to h's resources, and h's reset is running (R661); a request
while it runs has no effect (R660). -/
def State.applyHousehold (s : State) (h : Nat) (flr : Bool) : State :=
  if s.hhReset.contains h then s
  else
    let t := (((((((s.almHousehold h).sieveHousehold h).lineHousehold h).driveHousehold h).queueHousehold
      h).egressHousehold h).provHousehold h).hostHousehold h flr
    { t with
      hhReset := t.hhReset ++ [h]
      host := { t.host with flrs := if flr then t.host.flrs ++ [h] else t.host.flrs } }

/-- HOUSEHOLD_RESET_DONE (R661). -/
def execHouseholdResetDone (h : Fin 8) (s : State) : Host.Outcome State Fault Refusal :=
  if s.hhReset.contains h.val then
    let t : State := { s with
      hhReset := s.hhReset.filter (fun x => x != h.val)
      host := { s.host with flrs := s.host.flrs.filter (fun x => x != h.val) } }
    .next ((t.raise (pHh h) HH.evRESET_DONE).raise pHost HOST.evRESET_DONE)
  else .next s

/-! ### POR and WARM (R80, R186, R713) -/

/-- What an input shows that no reset changes: RAIL_STATUS and the thermal inputs (Tables 3.10 and 8.11). -/
def liveField (p : Nat) (f : Fld) : Bool :=
  (p == pOuvgor && inRange OUVGOR.TD_RAW_CODE.bit 128 f.bit) || (p == pPower && [POWER.RAIL_STATUS_VM_OV, POWER.RAIL_STATUS_VM_OK, POWER.RAIL_STATUS_VSTB_OK, POWER.RAIL_STATUS_VGD_OK,
    POWER.RAIL_STATUS_VDDQX_OK, POWER.RAIL_STATUS_VDD2X_OK, POWER.RAIL_STATUS_VPHY_OK].any (fun g => g.bit == f.bit))

/-- The pages whose events are named after conditions that no reset ends, and their bits: the rails, the charge pump and
temperature of the Ouvgor die, the bootstrap supplies, and the temperatures of the DRAM controllers. -/
def lasting (p : Nat) : Nat :=
  if p = pPower then 0x7F
  else if p = pOuvgor then 2 ^ OUVGOR.evVCP_UV.bit + 2 ^ OUVGOR.evOUV_OT.bit
  else if inRange (pDram 0) 2 p then 2 ^ DRAMC.evREFRESH_2X.bit + 2 ^ DRAMC.evTHROTTLE.bit
  else lastingMask p

/-- A DRAM rail is low (Table 3.8). -/
def State.dramRailLow (s : State) : Bool :=
  !s.on pPower POWER.RAIL_STATUS_VDD2X_OK || !s.on pPower POWER.RAIL_STATUS_VDDQX_OK

/-- The core die and the Ouvgor die as a POR or WARM leaves them: what `keep` keeps of the registers, what pins and
supplies show, the Weighhouse (R11), the queue of commands, and what has left the device. The mirrors are stale (R108),
DRAM is trained afresh (R743), and the reference is the one that the straps, where they are kept, select (R147). -/
def State.coreReset (s : State) (keep : Nat → Fld → Bool) : State :=
  let r := State.reset
  let held := s.live.filterMap (fun (e : Nat × Nat) =>
    if e.2 &&& lasting e.1 = 0 then none else some (e.1, e.2 &&& lasting e.1))
  let live := Tab.set 0 held pPower (setBit (Tab.get 0 held pPower) POWER.evMIRROR_STALE.bit)
  let regs := Tab.keep (fun key => match s.fieldAt key with
    | some f => keep (key / 32768) f
    | none => false) s.regs
  let t : State := { r with
    pending := s.pending
    freeIdx := s.freeIdx
    trainings := s.trainings + 1
    si := s.si
    wh := s.wh
    sent := s.sent
    regs := regs
    live := live
    tb := { r.tb with beat := s.tb.beat }
    ln := { r.ln with axis := s.ln.axis.filterMap (fun (e : Nat × AxisSt) =>
      if e.2.inputs false = AxisSt.reset then none else some (e.1, e.2.inputs false)) }
    dr := { r.dr with
      ouvHot := s.dr.hotPin
      vmPin := s.dr.vmPin, vgdPin := s.dr.vgdPin, vcpPin := s.dr.vcpPin, hotPin := s.dr.hotPin
      gate := s.dr.gate.filterMap (fun (e : Nat × GateSt) =>
        if e.2.rest = GateSt.reset then none else some (e.1, e.2.rest)) }
    dram := { r.dram with dead := s.dramRailLow, hot := s.dram.hot, slow := s.dram.slow }
    dbg := { r.dbg with tap := s.dbg.tap, off := s.dbg.off } }
  let u := live.foldl (fun (t : State) e => t.setFld e.1 HDR.EVT_RAW_RAW e.2) t
  u.vcpAct.strapRef

/-- The code of a POR cause (Table 3.16). -/
def PorCause.code (c : PorCause) : Nat :=
  match c with
  | .vio33 => 1
  | .resetIn => 2
  | .vcore => 3
  | .vaux18 => 4

/-- POR_ASSERT (R80): every field of the core die and of the Ouvgor die resets, every gate is off, and the straps are
forgotten; a further cause while POR holds changes nothing. -/
def execPorAssert (c : PorCause) (s : State) : Host.Outcome State Fault Refusal :=
  if s.por then .next s
  else
    let t := s.coreReset liveField
    let u : State := { t with por := true, dbg := DebugSt.reset }
    .next (u.setFld pPower POWER.POR_CAUSE_CAUSE (PorCause.code c))

/-- POR_RELEASE (R80): POR has held every field at its reset value until now (R46); POR_CAUSE stays. -/
def execPorRelease (s : State) : Host.Outcome State Fault Refusal :=
  if s.por then
    .next { s.coreReset (fun p f => liveField p f || (p == pPower && f.bit == POWER.POR_CAUSE_CAUSE.bit)) with por := false }
  else .next s

/-- A WARM reset is requested with a RESET_CAUSE: it takes effect 4,096 beats later (R186). A request that another waits
for changes nothing. -/
def State.warmRequest (s : State) (cause : Nat) : State :=
  if s.por ∨ s.warmDue.isSome then s else { s with warmDue := some (s.tb.beat + 4096, cause) }

/-- A served write of RESET_CTRL (Table 5.10). -/
def State.resetCtrl (s : State) (w : Nat) : State :=
  if bitAt w 0 && bitsOf w 15 8 == 0x5A then s.warmRequest 1 else s

/-- WARM_REQ (R186). -/
def execWarmReq (a : Acc) (w : Word) (s : State) : Host.Outcome State Fault Refusal :=
  .next (s.mgrAccess (.warmReq a w) a pDevice 0x120 (fun t => t.resetCtrl w.toNat))

/-- WARM_TAKE_EFFECT (R186, R713): 4,096 beats after a WARM was requested, everything but the fields marked "kept" and what
the inputs show resets, and every access still outstanding is discarded. -/
def execWarmTakeEffect (s : State) : Host.Outcome State Fault Refusal :=
  match s.warmDue with
  | some d =>
    if d.1 ≤ s.tb.beat then .next { s.coreReset (fun p f => f.keepWarm || liveField p f) with lastRst := d.2 } else .next s
  | none => .next s

/-! ### Host link resets (R662) -/

/-- A link reset acts as a LINK_CFG field selects: WARM with RESET_CAUSE 2, or ENDPOINT. -/
def State.linkReset (s : State) (f : Fld) : State :=
  if s.fld pHost f = 0 then s.warmRequest 2 else s.endpointReset

/-- The host link is down. -/
def State.linkGone (s : State) : State := { s with host := { s.host with linkUp := false, speed := 0, width := 0 } }

/-- The endpoint is inert with strap CFG2 = 1 (Table 2.11). -/
def State.inert (s : State) : Bool := bitAt (s.fld pDevice DEVICE.STRAP_CFG) 2

/-- PE_PERST (R662): a fundamental reset. -/
def execPePerst (s : State) : Host.Outcome State Fault Refusal :=
  .next (if s.por ∨ s.inert then s
    else ((s.linkGone.linkReset HOST.LINK_CFG_PERST_ACTION).raise pHost HOST.evPERST))

/-- HOT_RESET (R662): LINK_CFG has two fields; a hot reset is a reset and acts as PERST_ACTION selects. -/
def execHotReset (s : State) : Host.Outcome State Fault Refusal :=
  .next (if s.hostUp then s.linkGone.linkReset HOST.LINK_CFG_PERST_ACTION else s)

/-- The link drops out of L0 to Detect (R662). -/
def State.hostLinkDown (s : State) : State :=
  if s.hostUp then (s.linkGone.linkReset HOST.LINK_CFG_LINKDOWN_ACTION).raise pHost HOST.evLINK_DOWN else s

/-- HOST_LINK_DOWN. -/
def execHostLinkDown (s : State) : Host.Outcome State Fault Refusal := .next s.hostLinkDown

/-! ### Supply monitors (R98, R105) -/

/-- The PHYs are held in reset and links drop (Table 3.8): the Commons ports, those in training, the host link, and the
lines being received. -/
def State.phyReset (s : State) : State :=
  let s1 := (List.range 4).foldl (fun (t : State) k =>
    if t.portUp k then t.linkDown k
    else if t.linkState k = 2 ∨ t.linkState k = 3 then t.setLink k 1 else t) s
  let s2 := (List.range 4).foldl (fun (t : State) m =>
    ((t.setRx m { t.rx m with lines := [] }).setFld (pIngest m) INGEST.RX_STATUS_LANE_SYNC 0).setFld (pIngest m)
      INGEST.RX_STATUS_CLK_ACTIVE 0) s1
  s2.hostLinkDown

/-- VPHY_MONITOR_CROSS (R105): VPHY is at a new level, in mV. -/
def execVphyMonitorCross (mv : Nat) (s : State) : Host.Outcome State Fault Refusal :=
  let ok := hyster s.phyOk mv 830 850
  let t := (s.setFld pPower POWER.RAIL_STATUS_VPHY_OK (b2n ok)).condition pPower POWER.evVPHY_LOW (!ok)
  .next (if s.phyOk && !ok then t.phyReset else t)

/-- DRAM_RAIL_MONITOR_CROSS (R105): a DRAM rail is at a new level, in mV. A low rail holds both controllers in reset until
a WARM, and what DRAM held is lost. -/
def execDramRailMonitorCross (rail : DramRail) (mv : Nat) (s : State) : Host.Outcome State Fault Refusal :=
  let f := match rail with
    | .vdd2x => POWER.RAIL_STATUS_VDD2X_OK
    | .vddqx => POWER.RAIL_STATUS_VDDQX_OK
  let e := match rail with
    | .vdd2x => POWER.evVDD2X_LOW
    | .vddqx => POWER.evVDDQX_LOW
  let was := s.on pPower f
  let ok := match rail with
    | .vdd2x => hyster was mv 1000 1020
    | .vddqx => hyster was mv 540 550
  let t := (s.setFld pPower f (b2n ok)).condition pPower e (!ok)
  .next (if was && !ok then { t with dram := { t.dram with dead := true, mem := [] } } else t)

/-- A served write of VM_LIMITS (R98, R185): a limit beyond its reset value is stored as that value; on a locked page only
a stricter one is taken; the monitors judge VM against the new limits at once. -/
def State.vmLimits (s : State) (w : Nat) : State :=
  ((s.writeLimit pPower POWER.VM_LIMITS_VM_OV_LIM (bitsOf w 15 8) 0 126 true (some 0)).writeLimit pPower
    POWER.VM_LIMITS_VM_UV_LIM (bitsOf w 7 0) 30 255 false (some 1)).stageAct

/-- VM_LIMITS_WRITE (R98). -/
def execVmLimitsWrite (a : Acc) (w : Word) (s : State) : Host.Outcome State Fault Refusal :=
  .next (s.mgrAccess (.vmLimitsWrite a w) a pPower 0x104 (fun t => t.vmLimits w.toNat))

end Sys2Proof.Machine
end

