-- ==== Sys2Proof/Machine/Bus.lean ====
section
/-!
DEFINITION. A register access without a row of its own, and an access to any address of Table 5.1: decode, ownership,
then field type and lock (R152 to R155, R162, R163, R171 to R174, R188 to R192).
-/

namespace Sys2Proof.Machine

/-! ### Writes (R163, R171, R185) -/

/-- A served write of a header register (Table 5.8). -/
def State.headerWrite (s : State) (p off w : Nat) : State :=
  if off = 0x00C then s.pageCtrl p w
  else if off = 0x018 then s.evtEnable p w
  else if off = 0x01C then s.pendClear p w
  else if off = 0x020 then s.evtForce p w
  else if off = 0x02C then (if bitAt w 0 then s.lockPage p else s)
  else if off = 0x030 then s.setOwner p (w % 16)
  else if off = 0x034 then s.shadowCtrl p w
  else s.writeFields p (s.fieldsOf p off) w

/-- The household whose HH page a page is. -/
def hhOf (p : Nat) : Option (Fin 8) := if inRange 0x1B1 8 p then some ⟨(p - 0x1B1) % 8, by omega⟩ else none

/-- The TIME register behind a register of an HH page's alias, from ALM_MER_LO to ALM_APPLIED_HI (R658). -/
def timeOff (p off : Nat) : Option Nat :=
  if p = pTime then some off
  else if (hhOf p).isSome ∧ 0x10C ≤ off ∧ off ≤ 0x124 then some (off + 0x0C) else none

/-- A served write of a TIME register, directly or through an HH page (Table 4.10, R658): ARM goes before CANCEL. -/
def State.timeWrite (s : State) (hh : Nat) (via : Option (Fin 8)) (off w : Nat) : State :=
  let k := s.almSel via
  if off = 0x110 then (if bitAt w 0 then s.loadGo else s)
  else if 0x118 ≤ off ∧ off < 0x128 then s.almSoftField hh via.isSome ((off - 0x118) / 4) w k
  else if off = 0x128 then
    let t := if bitAt w 0 then s.almSoftArm hh k else s
    if bitAt w 1 then t.almSoftCancel hh k else t
  else s.writeFields pTime (s.fieldsOf pTime off) w

/-- A served write of a WHB register (Table 7.18). -/
def State.whbWrite (s : State) (off w : Nat) : State :=
  if off = 0x100 then s.reqCtrl w
  else if 0x200 ≤ off ∧ off < 0x230 then s.slWrite ((off - 0x200) / 4 + 1) w
  else s.writeFields pWhb (s.fieldsOf pWhb off) w

/-- The rings whose SLOT_OWNER entry a write of the port's ownership array changes are disabled first (Table 17.11). -/
def State.ringsLost (s : State) (off w : Nat) : State :=
  (List.range 8).foldl (fun t j =>
    let k := (off - 0xD00) * 2 + j
    if bitsOf w (4 * j + 3) (4 * j) = t.fld (pSch 0) (SCH.SLOT_OWNER_SLOT.at k) then t else t.ringOff k) s

/-- A served write of a block register. `hr` requests a household's reset. -/
def State.blockWrite (hr : State → Nat → State) (s : State) (a : Acc) (p off w : Nat) : Blk → State
  | .device => if off = 0x120 then s.resetCtrl w else s.writeFields p (s.fieldsOf p off) w
  | .power => if off = 0x104 then s.vmLimits w else s.writeFields p (s.fieldsOf p off) w
  | .time => s.timeWrite a.hh none off w
  | .dawn => if off = 0x100 ∧ bitAt w 0 then s.dawnReq else s.writeFields p (s.fieldsOf p off) w
  | .noc => s.nocWrite off w
  | .line =>
    let t := s.writeFields p (s.fieldsOf p off) w
    if off = 0x100 then t.condition pLine LINE.evOUT_SAFE (bitAt w 0) else t
  | .axis => s.axisWrite a off w
  | .ephem => s.ephWrite a off w
  | .trig =>
    if off = 0x108 ∨ off = 0x10C then s.armWrite false (off == 0x108) w else s.schedWrite a p off w
  | .strobe =>
    if off = 0x104 ∨ off = 0x108 then s.armWrite true (off == 0x104) w else s.schedWrite a p off w
  | .ingest => s.ingestWrite a.hh (p - pIngest 0) off w
  | .whb => s.whbWrite off w
  | .motor | .pwm | .gate | .ouvgor => s.driveWrite a p off w
  | .sieve => s.sieveWrite a.hh off w
  | .dramadm => s.admWrite off w
  | .qe => s.qeWrite off w
  | .qeh => s.qehWrite a.hh p off w
  | .sch => (if p = pSch 0 ∧ 0xD00 ≤ off ∧ off < 0xD20 then s.ringsLost off w else s).schWrite a.hh p off w
  | .pol => s.polWrite p off w
  | .fab => s.fabWrite off w
  | .fabp => s.fabpWrite (p - pFabp 0) off w
  | .disc => s.discWrite off w
  | .const => s.constWrite off w
  | .prov => s.provWrite a.hh off w
  | .host => if off = 0x110 then (maskBits 8 w).foldl hr s else s.hostWrite a.hh off w
  | .hh =>
    match timeOff p off with
    | some o => s.timeWrite a.hh (hhOf p) o w
    | none =>
      if off = 0x144 then (if bitAt w 0 && bitsOf w 15 8 == 0x5A then hr s (p - pHh 0) else s)
      else s.hhWrite a.hh p off w
  | .debug => s.debugWrite off w
  | .fault => s.faultWrite off w
  | .refmon => s.refmonWrite off w
  | .matrix | .nocr | .tile | .dramc | .route => s.writeFields p (s.fieldsOf p off) w

/-- A served write of one register. -/
def State.wordWrite (hr : State → Nat → State) (s : State) (a : Acc) (p off w : Nat) : State :=
  if off < 0x100 then s.headerWrite p off w
  else
    match s.blk p with
    | some b => s.blockWrite hr a p off w b
    | none => s

/-- An access through the almanac alias of an HH page to an entry that is not the household's (R658). -/
def State.notMine (s : State) (p off : Nat) : Bool :=
  match hhOf p with
  | some h => (timeOff p off).isSome && (s.almEntry (s.almSel (some h))).owner != h.val
  | none => false

/-- A write of an arming or disarming mask that names a schedule of another owner (R31; log entry 68). -/
def State.maskDenied (s : State) (hh p off w : Nat) : Bool :=
  (p == pTrig && (off == 0x108 || off == 0x10C) && !s.maskMine hh false w)
  || (p == pStrobe && (off == 0x104 || off == 0x108) && !s.maskMine hh true w)

/-- A served write access: one word, or two on the same beat (R162, R172). If either is a denial, neither is written;
shadows that both apply count as one boundary (R182). -/
def State.regWrite (hr : State → Nat → State) (s : State) (a : Acc) (addr p : Nat) (ws : List (Nat × Nat)) : State :=
  if ws.any (fun x => s.mgrDenied a.hh p (s.fieldsOf p x.1) x.2 || s.notMine p x.1 || s.maskDenied a.hh p x.1 x.2) then
    s.denial a addr true
  else
    let t := ws.foldl (fun (t : State) x => t.wordWrite hr a p x.1 x.2) s
    let f := HDR.SHADOW_CTRL_APPLY_SEQ
    if ws.length = 2 ∧ t.fld p f = (s.fld p f + 2) % 2 ^ 16 then t.setFld p f (s.fld p f + 1) else t

/-! ### Reads (R6, R162, R182) -/

/-- The page that stores a register: the rings of HH pages are the HOST page's (R658). -/
def storePage (p off : Nat) : Nat := if (hhOf p).isSome ∧ 0x400 ≤ off ∧ off < 0xC00 then pHost else p

/-- A field as it reads: the shadow of an SH field with VIEW = 1 (R184); a write-only field reads 0. -/
def State.fieldRead (s : State) (p q : Nat) (f : Fld) : Nat :=
  match f.kind with
  | .wo => 0
  | .sh => if s.on p HDR.SHADOW_CTRL_VIEW then s.shadow q f else s.fld q f
  | _ => s.fld q f

/-- A register as the register file holds it. -/
def State.stored (s : State) (p off : Nat) : Nat :=
  ((s.fieldsOf p off).map (fun f => s.fieldRead p (storePage p off) f * 2 ^ (f.bit % 32))).sum

/-- The registers of the header that the register file does not hold whole (Table 5.8). -/
def State.headerView (s : State) (b : Blk) (p off : Nat) : Option Nat :=
  if off = 0x000 then some (typeCode p b * 2 ^ 8 + pageNo p b)
  else if off = 0x008 then some (pageCaps b)
  else if off = 0x00C then some (b2n (s.srstBusy.contains p) * 2 + b2n (s.enabled p))
  else if off = 0x010 then
    some (s.stored p off + b2n (s.srstBusy.contains p) * 2 ^ 28 + b2n (s.isLocked p) * 2 ^ 27
      + b2n (s.enabled p) * 2 ^ 26)
  else if off = 0x034 then some (s.stored p off + b2n (s.hasPending p) * 2 ^ 8)
  else none

/-- What the silicon and the last reset fix (Table 5.10). -/
def State.deviceView (s : State) (off : Nat) : Option Nat :=
  if off = 0x100 then some (0x5357 * 2 ^ 16 + (if s.si.is9656 then 0x9656 else 0x9664))
  else if off = 0x104 then some (s.si.revision % 2 ^ 8)
  else if off = 0x108 then some (s.si.factoryId % 2 ^ 32)
  else if off = 0x10C then some (s.si.factoryId / 2 ^ 32 % 2 ^ 32)
  else if off = 0x110 then some ((if s.si.is9656 then 56 else 64) * 2 ^ 24 + 0x444865)
  else if off = 0x114 then some (s.si.tileMap % 2 ^ 32)
  else if off = 0x118 then some (s.si.tileMap / 2 ^ 32 % 2 ^ 32)
  else if off = 0x124 then some s.lastRst
  else none

/-- An almanac entry's registers, in the numbering of the TIME page (Table 4.10). -/
def State.almView (s : State) (k off : Nat) : Option Nat :=
  let e := s.almEntry k
  if off = 0x118 then some (e.mer % 2 ^ 32)
  else if off = 0x11C then some (e.mer / 2 ^ 32)
  else if off = 0x120 then some (e.owner * 2 ^ 28 + e.late * 2 ^ 24 + e.target * 2 ^ 8 + e.code)
  else if off = 0x124 then some e.arg
  else if off = 0x128 then some (e.st * 2 ^ 4)
  else if off = 0x12C then some (e.applied % 2 ^ 32)
  else if off = 0x130 then some (e.applied / 2 ^ 32)
  else none

/-- The live registers of the TIME page but for SID_LO and SID_HI. -/
def State.timeView (s : State) (via : Option (Fin 8)) (off : Nat) : Option Nat :=
  let armed (lo : Nat) : Nat := (List.range 32).foldl (fun m i => putBit m i (s.almEntry (lo + i)).armed) 0
  if off = 0x134 then some (armed 0)
  else if off = 0x138 then some (armed 32)
  else s.almView (s.almSel via) off

/-- DAWN_CTRL and XING_DATA (R114, R122): 120 to 127 read 0. -/
def State.dawnView (s : State) (off : Nat) : Option Nat :=
  if off = 0x100 then some (b2n (s.tb.dawn != 0))
  else if off = 0x118 then
    let i := s.fld pDawn DAWN.XING_SEL_XING
    match crossings[i]? with
    | some c =>
      let ph := Tab.get 0 s.tb.xphase i
      some (c.1 * 2 ^ 26 + c.2 * 2 ^ 20 + 4 * 2 ^ 12 + Tab.get 0 s.tb.xocc i % 16 * 2 ^ 8 + ph % 16 * 2 ^ 4 + marginOf ph)
    | none => some 0
  else none

/-- STATUS with VALID and STALE as they stand (Table 6.13), and POS_NOW: the position on the access beat, 0 if invalid. -/
def State.ephView (s : State) (off : Nat) : Option Nat :=
  let v := unsg 64 (s.position.getD 0)
  if off = 0x120 then
    some (s.fld pEphem EPHEM.STATUS_CUR_SEQ * 2 ^ 16 + s.fld pEphem EPHEM.STATUS_FLAGS / 4 * 4
      + 2 * (s.stampFlags s.tb.count / 4 % 2) + b2n s.position.isSome)
  else if off = 0x124 then some (v % 2 ^ 32) else if off = 0x128 then some (v / 2 ^ 32) else none

/-- ON_TIME of a strobe as it stands (R230). -/
def State.strobeView (s : State) (off : Nat) : Option Nat :=
  if 0x200 ≤ off ∧ off < 0x400 ∧ off % 0x40 = 0x2C then some (s.onTime ((off - 0x200) / 0x40)) else none

/-- GATE_STATE (R357, R360). -/
def State.gateView (s : State) (n off : Nat) : Option Nat :=
  let x := s.gt n
  if off = 0x134 then
    some ((List.range 6).foldl (fun m i => putBit m i (!bitAt x.bstLow (i / 2))) 0 * 2 ^ 16 + x.above % 64 * 2 ^ 8
      + x.cmd % 64)
  else none

/-- The live and fixed registers of a block; `none` for one that the register file holds. -/
def State.blockView (s : State) (b : Blk) (p off : Nat) : Option Nat :=
  match b with
  | .device => s.deviceView off
  | .time => s.timeView none off
  | .dawn => s.dawnView off
  | .nocr => s.nocrView (p - pNocr 0) off
  | .noc => s.nocView off
  | .ephem => s.ephView off
  | .strobe => s.strobeView off
  | .gate => s.gateView (p - pGate 0) off
  | .tile => s.tileView (p - pTile 0) off
  | .sieve => s.sieveView off
  | .dramadm => s.admView off
  | .qe => if off = 0x188 then some (ceil16 s.spillSum % 2 ^ 32) else none
  | .qeh => s.qehView p off
  | .sch => s.schView p off
  | .pol => s.polView p off
  | .fabp => s.fabpView (p - pFabp 0) off
  | .disc => s.discView off
  | .const => s.constView off
  | .prov => s.provView off
  | .host => s.hostView off
  | .hh =>
    match timeOff p off with
    | some o => s.timeView (hhOf p) o
    | none => s.hhView p off
  | .debug => s.debugView off
  | .fault => s.faultView off
  | _ => none

/-- A register as it reads, but for those whose read does more. -/
def State.regView (s : State) (p off : Nat) : Nat :=
  match s.blk p with
  | some b => ((if off < 0x100 then s.headerView b p off else s.blockView b p off).getD (s.stored p off)) % 2 ^ 32
  | none => 0

/-- The RC fields of a register clear (R6). -/
def State.clearRead (s : State) (p off : Nat) : State :=
  ((s.fieldsOf p off).filter (fun f => f.kind == .rc)).foldl (fun t f => t.setFld (storePage p off) f 0) s

/-- A read of one register: its value, and what the read leaves. The temperature of the Ouvgor die follows
hardware that the spec gives no value for: it is a free value. -/
def State.wordRead (s : State) (a : Acc) (p off : Nat) : Nat × State :=
  if (p = pTime ∨ (hhOf p).isSome) ∧ off = 0x104 then
    ((Tab.lookup s.tb.latches (latchKey a (timeIdent a (hhOf p)))).getD (s.tb.count / 2 ^ 32), s)
  else if p = pDebug ∧ 0x200 ≤ off ∧ off < 0x400 ∧ (off % 0x40 = 0x1C ∨ off % 0x40 = 0x20) then
    s.ctxDataRead ((off - 0x200) / 0x40) (off % 0x40 == 0x20)
  else if inRange 0x094 4 p ∧ off = 0x14C then
    let v := s.stored p off
    (v / 2 ^ 12 * 2 ^ 12 + (s.gt (p - pPwm 0)).credits % 16 * 2 ^ 8 + bitsOf v 7 1 * 2
      + b2n (!(s.gt (p - pPwm 0)).linkBad), s.clearRead p off)
  else if p = pOuvgor ∧ off = 0x190 then (s.freeVal 10, s.drew)
  else (s.regView p off, s.clearRead p off)

/-- A served read access: one register, or two on the same beat, the lower address in the lower half (R117, R162). -/
def State.regRead (s : State) (a : Acc) (addr p off : Nat) (wide : Bool) : State :=
  if s.notMine p off || (wide && s.notMine p (off + 4)) then s.denial a addr false
  else if (p = pTime ∨ (hhOf p).isSome) ∧ off = 0x100 then s.readSidLo a (timeIdent a (hhOf p)) wide
  else
    let r := s.wordRead a p off
    if wide then
      let q := r.2.wordRead a p (off + 4)
      q.2.answer [r.1 + 2 ^ 32 * q.1]
    else r.2.answer [r.1]

/-! ### The register pages on a bus (R162, R171, R172, R188) -/

/-- An access to `n` bytes at byte `o` of the register pages; a byte of it on an unpopulated page makes it ABSENT (R742). -/
def State.pageAccess (hr : State → Nat → State) (s : State) (i : Instr) (a : Acc) (addr o n : Nat) (write : Bool) (v : Nat) :
    State :=
  let p := o / 4096
  let off := o % 4096
  let wide := n == 8
  let offs := if wide then [off, off + 4] else [off]
  match s.blk p with
  | none => s.decodeError a addr write 2
  | some b =>
    if (List.range (n / 4096 + 2)).any (fun j => decide (p * 4096 + j * 4096 < o + n) && (s.blk (p + j)).isNone) then
      s.decodeError a addr write 2
    else if !((n == 4 || n == 8) && off % n == 0) then s.decodeError a addr write 4
    else if offs.any (fun x => (regFields b p x).isEmpty) then s.decodeError a addr write 3
    else if s.srstBusy.contains p then { s with held := s.held ++ [i] }
    else if s.hhReset.contains a.hh.val then { s with resp := some ⟨.reset, [0]⟩ }
    else if offs.all (fun x => s.mayReach a.hh p x write || s.wicketMay a p x write) then
      s.serve a p write (fun t =>
        if write then
          t.regWrite hr a addr p (if wide then [(off, v % 2 ^ 32), (off + 4, v / 2 ^ 32 % 2 ^ 32)] else [(off, v % 2 ^ 32)])
        else t.regRead a addr p off wide)
    else s.denial a addr write

/-! ### The other regions of Table 5.1 -/

/-- The region of a local byte address, with its base and size. -/
def regionOf (x : Nat) : Option (Nat × Nat × Nat) :=
  [(0, 0, 2 ^ 34), (1, 0x1000000000, 2 ^ 24), (2, 0x2000000000, 2 ^ 21), (3, 0x2800000000, 2 ^ 16),
    (4, 0x3000000000, 2 ^ 21), (5, 0x3800000000, 2 ^ 19), (6, 0x3800080000, 2 ^ 19)].find?
    (fun r => decide (r.2.1 ≤ x) && decide (x < r.2.1 + r.2.2))

/-- A write by the Wicket that lands in DRAM regions or TILE pages of a household marks its execution (R690). -/
def State.wicketMark (s : State) (a : Acc) (mine : Nat → Bool) : State :=
  if a.master == .wicket then
    (List.range 8).foldl (fun t h => if (t.runOf h).isSome && mine h then t.setRunFlag h 13 else t) s
  else s

/-- An access to DRAM (R153, R517, R742, R743). -/
def State.dramAccess (s : State) (a : Acc) (addr l n : Nat) (write : Bool) (data : List Byte) : State :=
  if !s.dramMapped l n then s.decodeError a addr write 2
  else if s.hhReset.contains a.hh.val then { s with resp := some ⟨.reset, [0]⟩ }
  else if !s.dramMay a.hh l n then s.denial a addr write
  else if write then
    ((s.dramStore l ((data ++ List.replicate n 0).take n)).wicketMark a (fun h =>
      s.dram.adm.regions.any (fun r => r.owner == h && decide (r.base * 2 ^ 20 < l + n)
        && decide (l < (r.base + r.size) * 2 ^ 20)))).answer [0]
  else
    let r := s.dramFetch l n
    { r.2.2 with resp := some ⟨if r.2.1 then .poisoned else .ok, bytesToWords ((n + 7) / 8) r.1⟩ }

/-- The size of a window access fits the rule (R283). -/
def windowSize (o n : Nat) : Bool :=
  (n == 4 && o % 4 == 0) || (decide (0 < n) && n % 8 == 0 && o % 8 == 0 && decide (n ≤ 512))

/-- An access to the Weighhouse window, which serves only the manager on the host and ENGINE (R155, R189, R283). -/
def State.windowAccess (s : State) (a : Acc) (addr o n : Nat) (write : Bool) (data : List Byte) : State :=
  if a.master = .wicket then (s.decodeError a addr write 7)
  else if a.master = .fabric then s.decodeError a addr write 6
  else if 0x1100 ≤ o then s.decodeError a addr write 3
  else if !windowSize o n || !(decide (o + n ≤ 0x1000) || (decide (0x1000 ≤ o) && decide (o + n ≤ 0x1100))) then
    s.decodeError a addr write 4
  else if s.hhReset.contains a.hh.val then { s with resp := some ⟨.reset, [0]⟩ }
  else if !((a.master == .host && a.hh == 15) || a.master == .engine) then s.denial a addr write
  else if write then
    let put (b : List (Nat × Byte)) : List (Nat × Byte) :=
      ((List.range n).zip data).foldl (fun b e => Tab.set 0 b (o - 0x1000 + e.1) e.2) b
    (if o < 0x1000 then s else { s with wb := { s.wb with reqBuf := put s.wb.reqBuf } }).answer [0]
  else
    let byte (i : Nat) : Byte :=
      if o < 0x1000 then Tab.get 0 s.wb.rspBuf (o + i) else Tab.get 0 s.wb.reqBuf (o - 0x1000 + i)
    s.answer (bytesToWords ((n + 7) / 8) ((List.range n).map byte))

/-- An access to a queue port at byte `o` of the region, by agent `ag` (R155, R459, R460, R465). -/
def State.portBus (s : State) (i : Instr) (a : Acc) (ag addr o n : Nat) (write : Bool) (data : List Byte) (bad : Bool)
    (stall : Nat := 0) : State :=
  let q := o / 0x2000
  let x := o % 0x2000
  let room := (if x < 0x1000 then 0x1000 else if x < 0x1800 then 0x1800 else 0x2000) - x
  let sized := x % 8 == 0 && n % 8 == 0 && decide (0 < n) && decide (n ≤ 512) && decide (n ≤ room)
  if !(a.master == .fabric && a.fab) && sized && (write == decide (0x1800 ≤ x)) then s.decodeError a addr write 3
  else
    s.portAccess i a q addr n room write (fun t =>
      if write then t.qPush q (producerOf a ag) (bytesToWords (n / 8) data) (decide (0x1000 ≤ x)) bad stall
      else t.popAccess a q addr (n / 8))

/-- An access to a mailbox; one that runs into the next reads both (R654, R656). -/
def State.mailBus (s : State) (i : Instr) (a : Acc) (addr o n : Nat) (consume write : Bool) : State :=
  if a.master = .fabric then s.decodeError a addr write 6
  else if write then s.decodeError a addr write 3
  else
    let x := o % 0x1000
    let rd (t : State) (o n : Nat) : State := t.mbRead i a (o / 0x10000) (o % 0x10000 / 0x1000) consume (o % 0x1000) n
    if x + n ≤ 0x1000 then rd s o n
    else
      let n1 := 0x1000 - x
      let t := rd s o n1
      let u := rd t (o + n1) (n - n1)
      match t.resp, u.resp with
      | some q, some r => if q.status = .ok ∧ r.status = .ok then { u with resp := some ⟨.ok, q.data ++ r.data⟩ } else u
      | _, _ => u

/-- An access to `n` bytes from local address `l`, given as `addr`: all its bytes lie in one region and are mapped there, or
it is a decode error (R152, R742; for one that runs from the peek into the consume alias the spec names no cause: SIZE, log
entry 83). Held during a dawn (R121), discarded while POR is asserted. -/
def State.busAccess (hr : State → Nat → State) (s : State) (i : Instr) (a : Acc) (ag addr n : Nat) (write : Bool)
    (data : List Byte) : State :=
  let l := addr % 2 ^ 38
  if s.por then s
  else if s.tb.dawn ≠ 0 then { s with held := s.held ++ [i] }
  else if n = 0 then s.answer []
  else
    match regionOf l, regionOf (l + n - 1) with
    | some (k, base, _), some (k2, _, _) =>
      let o := l - base
      if k ≠ k2 then s.decodeError a addr write (if 5 ≤ k then 4 else 1)
      else
        match k with
        | 0 => s.dramAccess a addr l n write data
        | 1 => s.sramAccess i a o n write data
        | 2 =>
          let t := s.pageAccess hr i a addr o n write (ofLeBytes data)
          if write && inRange 0x100 64 (o / 4096) && t.resp == some ⟨.ok, [0]⟩ then
            t.wicketMark a (fun h => s.owner (o / 4096) == h)
          else t
        | 3 => s.windowAccess a addr o n write data
        | 4 => s.portBus i a ag addr o n write data false
        | 5 => s.mailBus i a addr o n false write
        | _ => s.mailBus i a addr o n true write
    | _, _ => s.decodeError a addr write 1

/-- An access would wait: a dawn runs, or a soft reset of the page that it names (R121, R187). -/
def State.busHeld (s : State) (addr : Nat) : Bool :=
  let l := addr % 2 ^ 38
  s.tb.dawn != 0 || (decide (0x2000000000 ≤ l) && decide (l < 0x2000200000)
    && s.srstBusy.contains ((l - 0x2000000000) / 4096))

/-- An address in fabric form names this device: its number is the device's own (R154). A local address, whose bits
[47:38] are 0, always does. -/
def State.namesSelf (s : State) (fab : Bool) (addr : Nat) : Bool :=
  !fab || (s.numValid && addr / 2 ^ 38 == s.devNum)

end Sys2Proof.Machine
end

