-- ==== Sys2Proof/Machine/Access.lean ====
section
/-!
DEFINITION. Who brings an access to the bus: the matrix, the network, the host and the Wicket; the reset of a household,
whose accepted accesses complete first; and what the device does while no command waits.
-/

namespace Sys2Proof.Machine

/-! ### Requests to another device (R154, R159, R556) -/

/-- A request in fabric form that leaves from agent 0 of router `r`: to the FABP agent of the device's UP_PORT, or to
the FAB agent at node 5 where there is none (R556, R557). -/
def State.remotePacket (s : State) (r : Nat) (a : Acc) (op tag addr n : Nat) (data : List Byte) : List Flit :=
  let up := (s.routeOf (addr / 2 ^ 38)).up
  let go := s.numValid && decide (up < 4)
  let dst := if go then nodeOf (fabRouter up) else 5
  let w0 := dst * 2 ^ 58 + op * 2 ^ 40 + a.hh.val * 2 ^ 36 + a.master.id * 2 ^ 33 + tag * 2 ^ 24
  let w1 := (if go then up % 2 else 0) * 2 ^ 58 + (n - 1) % 1024 * 2 ^ 48 + addr % 2 ^ 48
  let inline := decide (n ≤ 8) || data.isEmpty
  let ds := if inline then [] else dataFlits ((n + 31) / 32) (bytesToWords ((n + 7) / 8) data)
  packetFlits [s.sendW0 r w0 ds.length, w1, if inline then ofLeBytes data else 0, 0]
    (ds.map (fun d => d ++ List.replicate (4 - d.length) 0)) true

/-- The first free response slot of agent 0 of a router. -/
def State.freeSlot (s : State) (r : Nat) : Option Nat :=
  (List.range (agentSlots r 0)).find? (fun t => (Tab.lookup s.noc.slots (256 * agentKey r 0 + t)).isNone)

/-- Agent 0 of router `r` offers a request that asks for a response, under a response slot. -/
def State.sendRemote (s : State) (r tag : Nat) (a : Acc) (write : Bool) (addr n : Nat) (data : List Byte) : State :=
  let p := s.remotePacket r a (if write then 2 else 1) tag addr n (if write then data else [])
  let dst := match p with
    | h :: _ => h.dst
    | [] => 0
  ({ s with noc := { s.noc with slots := Tab.insert s.noc.slots (256 * agentKey r 0 + tag) ⟨dst, false, a.hh, s.tb.beat⟩ } }).offer
    (agentKey r 0) 0 p

/-- The pieces of at most 512 bytes of an access: offset and length (Table 11.5). -/
def chunks (n : Nat) : List (Nat × Nat) := (List.range ((n + 511) / 512)).map (fun i => (512 * i, min 512 (n - 512 * i)))

/-- The beat on which a host read came: the first that is kept for it, or now. -/
def State.askedAt (s : State) (i : Instr) : Nat :=
  match s.host.asked.find? (fun e => decide (e.1 = i)) with
  | some e => e.2
  | none => s.tb.beat

/-- The manager on the host reaches another device through its aperture: writes are posted, and each read holds a
response slot of the endpoint. A read with no free slot waits. -/
def State.hostRemote (s : State) (i : Instr) (f : Nat) (a : Acc) (addr n : Nat) (write : Bool) (data : List Byte) : State :=
  let cs := chunks n
  if write then
    cs.foldl (fun t c =>
      t.offer (agentKey 23 0) 0 (t.remotePacket 23 a 3 0 (addr + c.1) c.2 ((data.drop c.1).take c.2))) s
  else if agentSlots 23 0 < (s.noc.slots.filter (fun e => e.1 / 256 == agentKey 23 0)).length + cs.length then
    { s with held := s.held ++ [i] }
  else
    cs.foldl (fun t c =>
      match t.freeSlot 23 with
      | some tag =>
        let u := t.sendRemote 23 tag a false (addr + c.1) c.2 []
        { u with host := { u.host with reads := Tab.insert u.host.reads tag (f, s.askedAt i) } }
      | none => t) s

/-- An access that names another device: the manager on the host and the Wicket may form it, any other is a LOOP (R159,
R169); while the device has no number every one is answered as R557 says. -/
def State.foreignAccess (s : State) (i : Instr) (a : Acc) (addr n : Nat) (write : Bool) (data : List Byte) : State :=
  if s.por then s
  else if s.tb.dawn ≠ 0 then { s with held := s.held ++ [i] }
  else if (a.master = .host ∧ a.hh = 15) ∨ a.master = .wicket then s.hostRemote i 0 a addr n write data
  else if s.numValid then s.decodeError a addr write 5
  else { s.unroutable a.hh with resp := some ⟨.decode, [0]⟩ }

/-- The master of an ID; the IDs 5 to 7 are unused. -/
def masterOf (n : Nat) : Master :=
  match n with
  | 0 => .host
  | 1 => .tile
  | 2 => .fabric
  | 3 => .wicket
  | _ => .engine

/-- The node and agent to which an interface sends a request (R159, R556, R557): the node that serves the address; for
another device the FABP agent of its UP_PORT if the requester may form the address, else node 37; the FAB agent at node 5
where there is no route or no number. -/
def State.requestDst (s : State) (a : Acc) (addr : Nat) : Nat × Nat :=
  let up := (s.routeOf (addr / 2 ^ 38)).up
  if s.namesSelf a.fab addr then (s.nodeFor (addr % 2 ^ 38), 0)
  else if s.numValid && !((a.master == .host && a.hh == 15) || a.master == .wicket) then (37, 0)
  else if s.numValid && decide (up < 4) then (nodeOf (fabRouter up), up % 2)
  else (5, 0)

/-- PACKET_INJECT: an agent offers a packet; one that asks for a response needs a free response slot, named by TAG
(R435, R437). The words give MC, SC, OP, HH, MASTER, TAG, STATUS and all of W1 but AGENT; the interface decodes a request's
address to its DST and DAGENT (R159), the words give those of a response or an event. -/
def execPacketInject (r : Fin 30) (agent : Fin 8) (w0 w1 w2 w3 : BitVec 64) (flits : List (BitVec 256)) (s : State) :
    Host.Outcome State Fault Refusal :=
  let req := bitsOf w0.toNat 51 50 == 0
  let fab := bitsOf w1.toNat 47 38 != 0
  let acc : Acc := ⟨masterOf (bitsOf w0.toNat 35 33), ⟨bitsOf w0.toNat 39 36 % 16, by omega⟩, 0, 0, fab⟩
  let dst := s.requestDst acc (bitsOf w1.toNat 47 0)
  let v := if req then dst.1 * 2 ^ 58 + w0.toNat % 2 ^ 58 else w0.toNat
  let u := if req then dst.2 * 2 ^ 58 + w1.toNat % 2 ^ 58 else w1.toNat % 2 ^ 61
  let ak := agentKey r agent
  let tag := bitsOf v 31 24
  let k := 256 * ak + tag
  let asks := bitsOf v 51 50 == 0 && [1, 2, 4, 6].contains (bitsOf v 43 40)
  if s.tb.dawn ≠ 0 then .next { s with held := s.held ++ [.packetInject r agent w0 w1 w2 w3 flits] }
  else if !s.nocMoves || decide (agentsAt r ≤ agent.val) || (asks && (decide (agentSlots r agent ≤ tag)
      || (Tab.lookup s.noc.slots k).isSome)) then .next s
  else
    let hdr := [s.sendW0 r v flits.length, agent.val * 2 ^ 61 + u, w2.toNat, w3.toNat]
    let s1 := if asks then
        { s with noc := { s.noc with slots := Tab.insert s.noc.slots k ⟨bitsOf v 63 58, false, bitsOf v 39 36, s.tb.beat⟩ } }
      else s
    .next (s1.offer ak (vcOf (bitsOf v 51 50) (bitsOf v 49 49)) (packetFlits hdr (flits.map (fun d => flitWords d.toNat)) fab))

/-! ### The matrix (R160, R164 to R170, R193) -/

/-- The target port of a request (Tables 5.2, 5.4). -/
def State.mxPort (s : State) (a : Acc) (addr : Nat) : Nat :=
  let l := addr % 2 ^ 38
  if !s.namesSelf a.fab addr then 3
  else
    match regionOf l with
    | none => 4
    | some (0, _, _) => if s.dramMapped l 1 then 3 else 4
    | some (1, b, _) => if (s.blk (pTile ((l - b) / 0x40000))).isSome then 3 else 4
    | some (2, b, _) =>
      let p := (l - b) / 4096
      if (s.blk p).isNone then 4
      else if [0x000, 0x001, 0x008, 0x060, 0x080, 0x140, 0x1C0, 0x1D0].contains p then 0
      else if [0x002, 0x003, 0x004, 0x190].contains p then 1
      else 3
    | some (3, _, _) => 2
    | some _ => 3

/-- The code of an answer in a response packet (Table 11.7): a time-out in the matrix and a household reset complete as
OK with zero data. -/
def statusCode : RespStatus → Nat
  | .denied => 1
  | .decode => 2
  | .poisoned => 3
  | _ => 0

/-- An answer goes back to the requester of a packet, from agent `ag` of router `r`. -/
def State.answerPacket (s : State) (r ag w0 w1 : Nat) (x : Option Resp) : State :=
  match x with
  | some ⟨st, d⟩ =>
    s.reply r ag w0 w1 (statusCode st)
      (if st = .ok ∨ st = .poisoned then (if bitsOf w0 43 40 = 2 then [0] else d) else zeroData w0 w1)
  | none => s

/-- The payload of a Wicket response: the words read, zeros where the access was not served, none for a write. -/
def wkPayload (r : MxReq) (x : Option Resp) : List Nat :=
  let n := (r.size + 7) / 8
  if r.write then []
  else
    match x with
    | some ⟨.ok, d⟩ => (d ++ List.replicate n 0).take n
    | some ⟨.poisoned, d⟩ => (d ++ List.replicate n 0).take n
    | _ => List.replicate n 0

/-- A Wicket access has its answer (R676, R677): an orphan's is discarded, a waiting line takes it, else it is kept for a
retry. -/
def State.wkFinish (s : State) (r : MxReq) (x : Option Resp) : State :=
  let drop : State := { s with dbg := { s.dbg with acc := s.dbg.acc.filter (fun w => w.ref != r.ref) } }
  match s.dbg.acc.find? (fun w => w.ref == r.ref) with
  | none => s
  | some w =>
    if w.orphan then drop
    else if s.dbg.busy && s.wkAlive then
      ({ drop with dbg := { drop.dbg with busy := false } } : State).wkSend (if r.size = 4 then 32 else 64) 1 (wkPayload r x)
    else
      { s with dbg := { s.dbg with acc := s.dbg.acc.map (fun (v : WkAcc) =>
          if v.ref = r.ref then { v with done := some (wkPayload r x) } else v) } }

/-- The answer of a matrix request goes where the request came from. -/
def State.mxFinish (s : State) (r : MxReq) (x : Option Resp) : State :=
  match r.hdr with
  | some (w0, w1) => s.answerPacket (if r.port < 5 then 29 else r.port - 5) (bitsOf w1 60 58) w0 w1 x
  | none => s.wkFinish r x

/-- What a request does at its target (R169); that of an internal requester reads the status of the Weighhouse (R284). -/
def State.mxPerform (hr : State → Nat → State) (s : State) (i : Instr) (r : MxReq) : State :=
  if r.acc.master = .engine then s.mirrorRead.answer [0]
  else if r.port = 4 ∧ s.mxPort r.acc r.addr = 3 then s.decodeError r.acc r.addr r.write 5
  else s.busAccess hr i r.acc 0 r.addr r.size r.write r.data

/-- A request may complete at its target: nothing holds it there, and another device has answered. -/
def State.mxReady (s : State) (r : MxReq) : Bool :=
  match r.slot with
  | some k => (Tab.lookup s.mx.answers k).isSome
  | none => !s.por && !s.busHeld r.addr

/-- The response of a request with the words of bad parity as zeros, each of which is an event (R194). -/
def State.rspParity (s : State) (r : MxReq) : Option Resp × State :=
  match s.resp with
  | none => (none, s)
  | some x =>
    let bad := if r.write then [] else (List.range x.data.length).filter (fun k => bitAt r.badRsp k)
    (some { x with data := ((List.range x.data.length).zip x.data).map (fun e => if bad.contains e.1 then 0 else e.2) },
      bad.foldl (fun t _ => t.raiseBy pMatrix MATRIX.evMATRIX_PARITY r.acc.hh) s)

/-- A request performs at its target and is answered; it has left the matrix. -/
def State.mxAnswered (hr : State → Nat → State) (s : State) (i : Instr) (r : MxReq) : State :=
  match r.slot with
  | some k =>
    let x := Tab.lookup s.mx.answers k
    let y := ({ s with resp := x, mx := { s.mx with answers := Tab.erase s.mx.answers k } } : State).rspParity r
    ({ y.2 with resp := s.resp } : State).mxFinish r y.1
  | none =>
    let t := s.mxPerform hr i r
    let x := t.rspParity r
    ({ x.2 with resp := s.resp } : State).mxFinish r x.1

/-- The index of the first issued request that a test accepts and that may complete: none with its ID is older (R167). -/
def State.mxNext (s : State) (p : MxReq → Bool) : Option Nat :=
  (List.range s.mx.issued.length).find? (fun k =>
    match s.mx.issued[k]? with
    | some r => p r && s.mxReady r && !(s.mx.issued.take k).any (sameId r)
    | none => false)

/-- Completes an issued request. -/
def State.mxComplete (hr : State → Nat → State) (s : State) (i : Instr) (k : Nat) : State :=
  match s.mx.issued[k]? with
  | some r =>
    let t : State := { s with mx := { s.mx with issued := s.mx.issued.eraseIdx k } }
    (t.mxAnswered hr i r).mxSettle
  | none => s

/-- TARGET_TIMEOUT (R193): a request that was issued 2^TIMEOUT.EXP beats ago completes with zero data, and its slot is
freed. -/
def execTargetTimeout (k : Nat) (s : State) : Host.Outcome State Fault Refusal :=
  match s.mx.issued[k]? with
  | none => .next s
  | some r =>
    if s.tb.beat < r.issuedAt + 2 ^ s.fld pMatrix MATRIX.TIMEOUT_EXP then .next s
    else
    let t : State := { s with mx := { s.mx with issued := s.mx.issued.eraseIdx k, late := s.mx.late ++ [r] } }
    .next (((t.raiseBy pMatrix MATRIX.evTARGET_TIMEOUT r.acc.hh).mxFinish r (some ⟨.timeout, [0]⟩)).mxSettle)

/-! ### HOUSEHOLD reset (R660, R661) -/

/-- Household h's accesses that the matrix and the buses have accepted complete, those of one ID in order (R167, R661). -/
def State.mxFlush (s : State) (h : Nat) : State :=
  let mine (kept : List MxReq) (r : MxReq) : Bool := r.acc.hh.val == h && s.mxReady r && !kept.any (sameId r)
  let part (a : List MxReq × List MxReq) (r : MxReq) : List MxReq × List MxReq :=
    if mine a.2 r then (a.1 ++ [r], a.2) else (a.1, a.2 ++ [r])
  let x := s.mx.issued.foldl part ([], [])
  let y := s.mx.waiting.foldl part (x.1, x.2)
  let t : State := { s with mx := { s.mx with issued := x.2, waiting := y.2.drop x.2.length } }
  (y.1.foldl (fun (u : State) r =>
    u.mxAnswered (fun v k => v.applyHousehold k false) .wicketAccessComplete r) t).mxSettle

/-- A reset of household h: what was accepted completes, then every unit applies it (R661). -/
def State.householdReset (s : State) (h : Nat) (flr : Bool) : State :=
  if s.hhReset.contains h then s else (s.mxFlush h).applyHousehold h flr

/-- A reset of household h that a register requests. -/
def State.hhRequest (s : State) (h : Nat) : State := s.householdReset h false

/-- A port issues the request that it has granted, whole: one for another device leaves by NOC_OUT under a response slot;
a peripheral bus of a node serves it at once. -/
def State.mxIssue (s : State) (i : Instr) (k : Nat) (r : MxReq) : State :=
  let out : State := { s with mx := { s.mx with waiting := s.mx.waiting.eraseIdx k } }
  let issue (t : State) (q : MxReq) : State := { t with mx := { t.mx with issued := t.mx.issued ++ [q] } }
  if 5 ≤ r.port then out.mxAnswered State.hhRequest i r
  else if r.port = 3 ∧ s.namesSelf r.acc.fab r.addr = false then
    match s.freeSlot 29 with
    | none => s
    | some tag =>
      issue (out.sendRemote 29 tag r.acc r.write r.addr r.size r.data) { r with slot := some (256 * agentKey 29 0 + tag) }
  else issue out r

/-- MATRIX_GRANT (R164, R165, R194): a target port, or the peripheral bus of a node, takes a piece of at most 4 words of the
request that it grants; with the last piece the request is issued. `bad`: a word of the piece has bad parity, so that the
request completes with zero data and no effect; `badRsp`: the words of its response that will have bad parity. -/
def execMatrixGrant : Grant → State → Host.Outcome State Fault Refusal
  | ⟨port, bad, badRsp⟩, s =>
  if s.por ∨ s.tb.dawn ≠ 0 then .next s
  else
    match s.pickGrant port (fun r => r.reserved || (decide (5 ≤ r.port) && s.mxReady r)) with
    | none => .next s
    | some k =>
      match s.mx.waiting[k]? with
      | none => .next s
      | some r =>
        if bad ∧ r.port < 5 then
          let out : State := { s with mx := { s.mx with waiting := s.mx.waiting.eraseIdx k } }
          .next (((out.raiseBy pMatrix MATRIX.evMATRIX_PARITY r.acc.hh).mxFinish r
            (some ⟨.ok, List.replicate ((r.size + 7) / 8) 0⟩)).mxSettle)
        else if 4 < r.words then
          .next { s with mx := { s.mx with waiting := s.mx.waiting.set k { r with words := r.words - 4 } } }
        else
          .next (s.mxIssue (.matrixGrant ⟨port, bad, badRsp⟩) k
            { r with words := 0, issuedAt := s.tb.beat, badRsp := badRsp.toNat }).mxSettle

/-- LATE_RSP (R193): the target has performed the request that timed out, and its response is discarded; a response that
comes through NOC_OUT is counted as it arrives (`State.mxAnswer`). -/
def execLateRsp (k : Nat) (s : State) : Host.Outcome State Fault Refusal :=
  match s.mx.late[k]? with
  | none => .next s
  | some r =>
    if r.slot.isSome || !s.mxReady r then .next s
    else
      let t : State := { s with mx := { s.mx with late := s.mx.late.eraseIdx k } }
      let u : State := { t.mxPerform State.hhRequest (.lateRsp k) r with resp := s.resp }
      .next ((u.bump pMatrix MATRIX.LATE_RSP_COUNT_COUNT).raise pMatrix MATRIX.evLATE_RSP)

/-- VF_FLR (R660). -/
def execVfFlr (h : Fin 8) (s : State) : Host.Outcome State Fault Refusal :=
  .next (if s.hostUp && s.funcExists (h + 1) then s.householdReset h true else s)

/-! ### Register accesses without a row of their own (R6, R162, R171, R182) -/

/-- An access at an address as its requester gave it. -/
def State.anyAccess (s : State) (i : Instr) (a : Acc) (addr n : Nat) (write : Bool) (data : List Byte) : State :=
  if s.namesSelf a.fab addr then s.busAccess State.hhRequest i a 0 addr n write data
  else s.foreignAccess i a addr n write data

/-- An address is that of a mask of the FAULT page: a write stands back behind a NOTIFY of its beat (Table 19.6). -/
def masksFault (addr : Nat) : Bool :=
  decide (regAddr pFault 0x140 ≤ addr % 2 ^ 38) && decide (addr % 2 ^ 38 < regAddr pFault 0x1C0)

/-- REGISTER_WRITE (R171): 32 bits, or 64 with `wide` (R162). -/
def execRegisterWrite (a : Acc) (addr : BitVec 48) (wide : Bool) (v : BitVec 64) (s : State) :
    Host.Outcome State Fault Refusal :=
  let n := if wide then 8 else 4
  .next (s.after (.registerWrite a addr wide v) (fun c => masksFault addr.toNat && decide (c = .notifyReceive))
    (s.anyAccess (.registerWrite a addr wide v) a addr.toNat n true (leBytes n v.toNat)))

/-- RC_COUNTER_READ (R6). -/
def execRcCounterRead (a : Acc) (addr : BitVec 48) (wide : Bool) (s : State) : Host.Outcome State Fault Refusal :=
  .next (s.anyAccess (.rcCounterRead a addr wide) a addr.toNat (if wide then 8 else 4) false [])

/-- A write of one register of a page. -/
def State.pageWrite (s : State) (i : Instr) (a : Acc) (p off w : Nat) : State :=
  s.busAccess State.hhRequest i a 0 (regAddr p off) 4 true (leBytes 4 w)

/-- SH_FIELD_WRITE (R182): `off` counts words. -/
def execShFieldWrite (a : Acc) (page : Fin 512) (off : Fin 1024) (w : Word) (s : State) : Host.Outcome State Fault Refusal :=
  .next (s.pageWrite (.shFieldWrite a page off w) a page (4 * off) w.toNat)

/-- HH_RESET (R660): a write of HOST.HH_RESET. -/
def execHhReset (a : Acc) (w : Word) (s : State) : Host.Outcome State Fault Refusal :=
  .next (s.pageWrite (.hhReset a w) a pHost 0x110 w.toNat)

/-- HH_CTRL_RESET (R660): a write of HH_CTRL. -/
def execHhCtrlReset (a : Acc) (h : Fin 8) (w : Word) (s : State) : Host.Outcome State Fault Refusal :=
  .next (s.pageWrite (.hhCtrlReset a h w) a (pHh h) 0x144 w.toNat)

/-! ### Packets at their node (R423, R424, R441, R446, R463, R467) -/

/-- Who makes the request of a packet (R154, Table 11.5). -/
def packetAcc (h : Flit) : Acc :=
  let w0 := h.word 0
  ⟨masterOf (bitsOf w0 35 33), ⟨bitsOf w0 39 36 % 16, by omega⟩, ⟨bitsOf w0 57 52 % 64, by omega⟩,
    ⟨bitsOf w0 27 24 % 16, by omega⟩, h.fab⟩

/-- The address of a packet names this device (R154). -/
def State.packetSelf (s : State) (h : Flit) : Bool := s.namesSelf h.fab (bitsOf (h.word 1) 47 0)

/-- The queue port that a packet's POP names, with a held-item mode (R467). -/
def heldPop (w0 w1 w2 : Nat) : Option Nat :=
  let l := bitsOf w1 37 0
  if bitsOf w0 43 40 = 6 ∧ bitsOf w2 63 62 ≠ 0 ∧ 0x3000000000 ≤ l ∧ l < 0x3000200000 ∧ 0x1800 ≤ l % 0x2000 then
    some ((l - 0x3000000000) / 0x2000)
  else none

/-- A request performs at its target, whose answer is left in `resp`. -/
def State.requestAt (s : State) (i : Instr) (h : Flit) (data : List Byte) (bad : Bool) : State :=
  let w0 := h.word 0
  let w1 := h.word 1
  let w2 := h.word 2
  let a := packetAcc h
  let op := bitsOf w0 43 40
  let addr := bitsOf w1 47 0
  let l := bitsOf w1 37 0
  let n := bitsOf w1 57 48 + 1
  let write := [2, 3, 4, 5].contains op
  let port := decide (0x3000000000 ≤ l) && decide (l < 0x3000200000)
  match heldPop w0 w1 w2 with
  | some q =>
    let step := a.master == .tile
    if bitsOf w2 63 62 = 1 then s.heldAccess a step q (n / 8) (fun t => t.take q (n / 8) (bitsOf w2 9 0) a.hh)
    else if bitsOf w2 63 62 = 2 then s.heldAccess a step q (n / 8) (fun t => t.heldRead q (n / 8) (bitsOf w2 9 0) a.hh)
    else s.heldAccess a step q (n / 8) (fun t => t.releaseHeld q (n / 8))
  | none =>
    if port && write then s.portBus i a (bitsOf w1 63 61) addr (l - 0x3000000000) n true data bad h.stall
    else if bad && write then
      { s with resp := some ⟨.poisoned, [0]⟩ }
    else s.busAccess State.hhRequest i a (bitsOf w1 63 61) addr n write data

/-- A request at router `r`: one for a register page waits at the matrix or at the peripheral bus of its node (R159, R165,
R169, R556, R557). -/
def State.requestIn (s : State) (i : Instr) (r : Nat) (p : List Flit) : State :=
  match p with
  | [] => s
  | h :: ds =>
    let w0 := h.word 0
    let w1 := h.word 1
    let a := packetAcc h
    let op := bitsOf w0 43 40
    let addr := bitsOf w1 47 0
    let n := bitsOf w1 57 48 + 1
    let write := [2, 3, 4, 5].contains op
    let data := if ds.isEmpty then (leBytes 8 (h.word 2)).take n else (wordsLe (ds.flatMap Flit.words)).take n
    let bad := p.any Flit.poison
    let ag := bitsOf w1 60 58
    let self := s.packetSelf h
    let l := bitsOf w1 37 0
    if self = false ∧ (r = 5 ∨ r = 11) then
      if s.numValid && decide ((s.routeOf (bitsOf w1 47 38)).up < 4) then s.carryRequest p
      else (s.unroutable a.hh).reply r 0 w0 w1 2 (zeroData w0 w1)
    else if bad = false ∧ (r = 29 ∨ (self = true ∧ 0x2000000000 ≤ l ∧ l < 0x2000200000)) then
      let port := if self then s.mxPort { a with fab := false } l else 3
      s.mxSubmit { port := if r ≠ 29 then 5 + r else if port = 3 then 4 else port, acc := a, addr := addr, write := write
                   size := n, data := data, words := (n + 7) / 8, arrived := s.tb.beat, promoted := false
                   hdr := some (w0, w1), ref := 0, slot := none }
    else
      let t0 := if self then s.requestAt i h data bad else s.decodeError a addr write 5
      let t : State := match portOf addr with
        | some (q, _) =>
          if op = 5 ∧ a.master = Master.fabric ∧ a.fab = false then
            t0.itemDenied q a.hh (decide (a.hh = 15) || decide (a.hh.val = s.qOwner q))
          else t0
        | none => t0
      let q := t.resp
      let status := fun (d : List Nat) => if op = 4 ∧ 0x3000000000 ≤ l then
          let k := (l - 0x3000000000) / 0x2000
          [t.fld (qPage k) (QEH.PUSH_STATUS_S.at (k % 32))]
        else d
      ({ t with resp := s.resp } : State).answerPacket r ag w0 w1
        (q.map (fun (x : Resp) => if x.status = .ok ∨ x.status = .poisoned then { x with data := status x.data } else x))

/-- An event at router `r`: a NOTIFY goes to the FAULT unit or to the endpoint, a segment from the fabric to EPHEM, any
other to its unit (R704). -/
def State.eventPacket (s : State) (r : Nat) (p : List Flit) : State :=
  match p with
  | [] => s
  | h :: _ =>
    let w0 := h.word 0
    let t := s
    let n : Notify := ⟨bitsOf w0 57 52, h.word 3, p.any Flit.poison, s.tb.beat⟩
    if bitsOf w0 43 40 = 0xF ∧ r = 29 then { t with flt := { t.flt with inbox := t.flt.inbox ++ [n] } }
    else if bitsOf w0 43 40 = 0xF ∧ r = 23 then { t with flt := { t.flt with epInbox := t.flt.epInbox ++ [n] } }
    else if bitsOf w0 43 40 = 0xC ∧ r = 3 ∧ (bitsOf w0 57 52 = 5 ∨ bitsOf w0 57 52 = 13) then
      t.receiveSegment ⟨(p.drop 1).flatMap Flit.words⟩
    else t.send "EVT" (nodeOf r) (p.flatMap Flit.words)

/-- PACKET_DELIVER (R423): the first whole packet that a node interface holds on a channel goes to its agent. -/
def execPacketDeliver (r : Fin 30) (vc : Fin 6) (s : State) : Host.Outcome State Fault Refusal :=
  if s.por ∨ s.tb.dawn ≠ 0 then .next s
  else
    match s.takePacket r vc with
    | none => .next s
    | some (p, t) =>
      if vc.val = 2 ∨ vc.val = 3 then .next (s.responseArrive r (vc.val == 3))
      else if decide (vc.val ≤ 1) && (p.take 1).any s.packetWaits then .next s
      else if 4 ≤ vc.val then .next (t.eventPacket r p)
      else .next (t.requestIn (.packetDeliver r vc) r p)

/-! ### The host (R641 to R645, R666) -/

/-- Where an offset of a BAR leads (Tables 17.4, 17.5). -/
inductive BarHit where
  | bus (addr : Nat)
  | msix (o : Nat)
  | pba (o : Nat)
  | hole
  deriving DecidableEq, Repr

/-- The identity of a function's accesses (Table 5.3). -/
def funcAcc (f : Fin 9) : Acc :=
  ⟨.host, if f.val = 0 then 15 else ⟨f.val - 1, by omega⟩, 29, 0, false⟩

/-- APERTURE_BASE of a function (R642). -/
def State.aperture (s : State) (f : Nat) : Nat :=
  if f = 0 then s.fld pHost HOST.APERTURE_BASE_LO_BASE * 2 ^ 24 + s.fld pHost HOST.APERTURE_BASE_HI_BASE * 2 ^ 32
  else s.fld (pHh (f - 1)) HH.APERTURE_BASE_LO_BASE * 2 ^ 24 + s.fld (pHh (f - 1)) HH.APERTURE_BASE_HI_BASE * 2 ^ 32

/-- `n` bytes at `off` lie in a part of a BAR. -/
def inPart (base size off n : Nat) : Bool := decide (base ≤ off) && decide (off + n ≤ base + size)

/-- Table 17.4. -/
def State.bar0 (s : State) (f off n : Nat) : BarHit :=
  if inPart 0 0x200000 off n then .bus (0x2000000000 + off)
  else if inPart 0x200000 0x10000 off n then .bus (0x2800000000 + off - 0x200000)
  else if inPart 0x1000000 0x1000000 off n then .bus (0x1000000000 + off - 0x1000000)
  else if inPart 0x2000000 0x1000000 off n then .bus (s.aperture f + off - 0x2000000)
  else if inPart 0x3F00000 0x400 off n then .msix (off - 0x3F00000)
  else if inPart 0x3F01000 8 off n then .pba (off - 0x3F01000)
  else .hole

/-- Table 17.5: the PF reaches every household's part, a VF its own. -/
def bar2 (f off n : Nat) : BarHit :=
  let part (base size : Nat) (addr : Nat) : Option BarHit :=
    let sz := if f = 0 then 8 * size else size
    if inPart base sz off n then some (.bus (addr + (if f = 0 then 0 else (f - 1) * size) + off - base)) else none
  ((part 0 0x40000 0x3000000000).orElse (fun _ => (part 0x800000 0x10000 0x3800000000).orElse
    (fun _ => part 0x880000 0x10000 0x3800080000))).getD .hole

/-- The 16 bytes of an MSI-X table entry: address, data, and the mask in the vector control. -/
def MsixVec.bytes (v : MsixVec) : List Byte := leBytes 8 v.addr ++ leBytes 4 v.data ++ leBytes 4 (b2n v.mask)

/-- Writes bytes into a list of bytes. -/
def splice (old : List Byte) (o : Nat) (new : List Byte) : List Byte :=
  (List.range old.length).map (fun i => if o ≤ i ∧ i < o + new.length then nth 0 new (i - o) else nth 0 old i)

/-- The MSI-X table of a function as bytes. -/
def State.msixBytes (s : State) (f : Nat) : List Byte := (List.range 64).flatMap (fun v => ((s.func f).vec v).bytes)

/-- A write of a function's MSI-X table; what is no longer masked is sent (R641, R646). -/
def State.msixWrite (s : State) (f o : Nat) (data : List Byte) : State :=
  let b := splice (s.msixBytes f) o data
  let x := s.func f
  let vecs := (List.range 64).foldl (fun (t : List (Nat × MsixVec)) v =>
    let e := (b.drop (16 * v)).take 16
    Tab.set MsixVec.reset t v ⟨ofLeBytes (e.take 8), ofLeBytes ((e.drop 8).take 4), bitAt (ofLeBytes ((e.drop 12).take 4)) 0⟩)
    x.vecs
  (s.setFunc f { x with vecs := vecs }).flushMsgs f

/-- A function answers memory requests: it exists, and the first dawn has ended. -/
def State.barLive (s : State) (f : Nat) : Bool := s.tb.dawned && s.funcExists f

/-- A host access to a BAR (R641 to R644). -/
def State.barAccess (s : State) (i : Instr) (f : Fin 9) (two : Bool) (off n : Nat) (write : Bool) (data : List Byte) :
    State :=
  let a := funcAcc f
  match (if two then bar2 f off n else s.bar0 f off n) with
  | .bus addr =>
    let fab := f.val == 0 && !two && inPart 0x2000000 0x1000000 off n
    let b : Acc := { a with fab := fab }
    if s.namesSelf fab addr then s.busAccess State.hhRequest i b 0 addr n write data
    else if s.tb.dawn ≠ 0 then { s with held := s.held ++ [i] }
    else s.hostRemote i f b addr n write data
  | .msix o =>
    if write then s.msixWrite f o data else s.answer (bytesToWords ((n + 7) / 8) (((s.msixBytes f).drop o).take n))
  | .pba o =>
    if write then s
    else s.answer (bytesToWords ((n + 7) / 8) (((leBytes 8 (s.func f).pend).drop o).take n))
  | .hole => s.decodeError a off write 1

/-- HOST_MEM_WRITE (R641, R666): a poisoned write has no effect. -/
def execHostMemWrite (f : Fin 9) (two : Bool) (off : BitVec 26) (data : List Byte) (poisoned : Bool) (s : State) :
    Host.Outcome State Fault Refusal :=
  if !s.hostUp then .next s
  else if !s.barLive f ∨ (two ∧ 2 ^ 24 ≤ off.toNat) then .next (s.unsupported f true)
  else if poisoned then
    let t := (s.raiseBy pHost HOST.evPOISONED_RX (funcHh f)).bump pHost HOST.ERR_COUNTS_POISONED_RX
    .next { t with host := { t.host with aerPoisoned := true } }
  else .next (s.barAccess (.hostMemWrite f two off data poisoned) f two off.toNat data.length true data)

/-- A host read waits no longer. -/
def State.notAsked (s : State) (i : Instr) : State :=
  match takeFirst (fun (e : Instr × Nat) => decide (e.1 = i)) s.host.asked with
  | some (_, rest) => { s with host := { s.host with asked := rest } }
  | none => s

/-- A host read (R641): while it waits, the beat on which it came is kept (R645). A read that comes is told from one that
waited by the number of its kind that wait. -/
def State.hostRead (s : State) (i : Instr) (f : Fin 9) (two : Bool) (off n : Nat) : State :=
  let kept := (s.host.asked.filter (fun e => decide (e.1 = i))).length
  let waiting := (s.held.filter (fun c => decide (c = i))).length
  let t : State := if kept ≤ waiting then { s with host := { s.host with asked := s.host.asked ++ [(i, s.tb.beat)] } } else s
  let u := t.barAccess i f two off n false []
  if waiting < (u.held.filter (fun c => decide (c = i))).length then u
  else u.notAsked i

/-- HOST_MEM_READ (R641). -/
def execHostMemRead (f : Fin 9) (two : Bool) (off : BitVec 26) (bytes : Fin 4097) (s : State) :
    Host.Outcome State Fault Refusal :=
  if !s.hostUp then .next s
  else if !s.barLive f ∨ (two ∧ 2 ^ 24 ≤ off.toNat) then .next (s.unsupported f false)
  else .next (s.hostRead (.hostMemRead f two off bytes) f two off.toNat bytes)

/-- A command is a host read of a function. -/
def isReadOf (f : Nat) (i : Instr) : Bool :=
  match i with
  | .hostMemRead g _ _ _ => g.val == f
  | _ => false

/-- The beats within which a non-posted request completes (R645). -/
def State.cplTime (s : State) : Nat := 2 ^ s.fld pHost HOST.CPL_TMO_EXP

/-- The response slots in which a function's reads of another device wait whose time is over. -/
def State.readSlots (s : State) (f : Nat) : List Nat :=
  (s.host.reads.filter (fun e => e.2.1 == f && decide (e.2.2 + s.cplTime ≤ s.tb.beat)
    && (match Tab.lookup s.noc.slots (256 * agentKey 23 0 + e.1) with
      | some x => !x.quarantined
      | none => false))).map (fun e => 256 * agentKey 23 0 + e.1)

/-- CPL_TIMEOUT is raised on HOST for the PF, on the household's page for a VF, and the read completes with zero data. -/
def State.cplTimeout (s : State) (f : Nat) : State :=
  let t := if f = 0 then s.raiseBy pHost HOST.evCPL_TIMEOUT 15 else s.raiseBy (pHh (f - 1)) HH.evCPL_TIMEOUT (f - 1)
  { t.bump pHost HOST.ERR_COUNTS_CPL_TIMEOUT with resp := some ⟨.ok, [0]⟩ }

/-- HOST_CPL_TIMEOUT (R645): after 2^CPL_TMO.EXP beats a function's oldest read that waits completes with zero data; what still comes is late. -/
def execHostCplTimeout (f : Fin 9) (s : State) : Host.Outcome State Fault Refusal :=
  match takeFirst (fun c => isReadOf f c && decide (s.askedAt c + s.cplTime ≤ s.tb.beat)) s.held with
  | some (c, rest) =>
    let t : State := { s with held := rest, host := { s.host with late := s.host.late ++ [c] } }
    .next ((t.notAsked c).cplTimeout f)
  | none =>
    match s.readSlots f with
    | [] => .next s
    | k :: _ =>
      let slots := s.noc.slots.map (fun (e : Nat × RspSlot) =>
        if e.1 = k then (e.1, { e.2 with quarantined := true }) else e)
      let t : State := { s with noc := { s.noc with slots := slots } }
      .next (t.cplTimeout f)

/-! ### The Wicket (R675 to R677, R684, R692) -/

/-- SEQ, SZ32, FAB, LEN_M1, ARG and ADDR of a request header without its OP (Table 18.2). -/
def wkSz32 (h : Nat) : Bool := bitAt h 2
def wkFab (h : Nat) : Bool := bitAt h 3
def wkLen (h : Nat) : Nat := bitsOf h 7 4
def wkAddr (h : Nat) : Nat := bitsOf h 59 12

/-- The address is refused with BAD_ADDR (R675). -/
def wkBadAddr (h : Nat) : Bool :=
  let a := wkAddr h
  (if wkSz32 h then a % 4 != 0 || wkLen h != 0 else a % 8 != 0) || (!wkFab h && bitsOf a 47 38 != 0)

/-- The session of an identity has a right of Table 18.6. -/
def State.wkRight (s : State) (bit : Nat) : Bool :=
  let i := s.fld pDebug DEBUG.SESSION_ID
  i == 15 || (decide (i < 8) && bitAt (s.fld pDebug (DEBUG.RIGHTS_HH.at i)) bit)

/-- The matrix request of a Wicket access (R676); the tag is free. -/
def State.wkIssue (s : State) (h : Nat) (data : List Nat) (write : Bool) : State :=
  let i := s.fld pDebug DEBUG.SESSION_ID
  let n := if wkSz32 h then 4 else 8 * (wkLen h + 1)
  let a : Acc := ⟨.wicket, ⟨i % 16, by omega⟩, 37, ⟨s.freeVal 4 % 16, by omega⟩, wkFab h⟩
  let ref := s.freeIdx + 1
  let r : MxReq := { port := s.mxPort a (wkAddr h), acc := a, addr := wkAddr h, write := write, size := n
                     data := if write then ((wordsLe data) ++ List.replicate n 0).take n else [], words := (n + 7) / 8
                     arrived := s.tb.beat, promoted := false, hdr := none, ref := ref, slot := none }
  let t := s.drew.mxSubmit r
  { t with dbg := { t.dbg with acc := t.dbg.acc ++ [⟨h, data, i, write, false, none, ref⟩], busy := true } }

/-- The address lies in the Weighhouse window of this device. -/
def State.wkWindow (s : State) (h : Nat) : Bool :=
  let l := wkAddr h % 2 ^ 38
  s.namesSelf (wkFab h) (wkAddr h) && decide (0x2800000000 ≤ l) && decide (l < 0x2800010000)

/-- A READ or WRITE on the line (R675 to R677): refused with a code of Table 18.4, answered from the pending access, or
issued. -/
def State.wkAccess (s : State) (h : Nat) (data : List Nat) (write : Bool) : State :=
  if !s.on pDebug DEBUG.SESSION_AUTH then s.wkFault 3
  else if !s.wkRight (b2n write) || (!s.namesSelf (wkFab h) (wkAddr h) && !s.wkRight 3) then s.wkFault 4
  else if wkBadAddr h then s.wkFault 7
  else
    match s.wkPending with
    | some p =>
      if p.hdr = h ∧ p.write = write ∧ p.data = data then
        match p.done with
        | some ws =>
          ({ s with dbg := { s.dbg with acc := s.dbg.acc.filter (fun w => w.ref != p.ref) } } : State).wkSend
            (if wkSz32 h then 32 else 64) 1 ws
        | none => { s with dbg := { s.dbg with busy := true } }
      else s.wkFault 8
    | none =>
      if s.wkWindow h then
        let i := s.fld pDebug DEBUG.SESSION_ID
        let t := s.decodeError ⟨.wicket, ⟨i % 16, by omega⟩, 37, ⟨s.freeVal 4 % 16, by omega⟩, wkFab h⟩ (wkAddr h) write 7
        ({ t.drew with resp := s.resp } : State).wkFault 9
      else s.wkIssue h data write

/-- WICKET_READ (R676). -/
def execWicketRead (hdr : BitVec 60) (s : State) : Host.Outcome State Fault Refusal :=
  .next (s.wk (fun t => t.wkAccess hdr.toNat [] false))

/-- WICKET_WRITE (R676): LEN_M1 + 1 words, or 32 bits with SZ32. -/
def execWicketWrite (hdr : BitVec 60) (data : List (BitVec 64)) (s : State) : Host.Outcome State Fault Refusal :=
  .next (s.wk (fun t => t.wkAccess hdr.toNat (data.map BitVec.toNat) true))

/-- WICKET_ACCESS_COMPLETE (R676): the oldest issued access of the Wicket that may complete does. -/
def execWicketAccessComplete (s : State) : Host.Outcome State Fault Refusal :=
  match s.mxNext (fun r => r.acc.master == .wicket && r.hdr.isNone) with
  | some k => .next (s.mxComplete State.hhRequest .wicketAccessComplete k)
  | none => .next s

/-! ### While no command waits -/

/-- The first command that waits and need wait no more: a request at the Weighhouse (R281), which nothing of the core die
holds, else an access at a queue port whose spill transfers are done (R472), else a held access once nothing holds accesses
(R121, R187). -/
def State.unheld (s : State) : Option (Instr × State) :=
  if s.whNext.isSome then s.whNext
  else if s.por ∨ s.tb.dawn ≠ 0 ∨ s.srstBusy ≠ [] then none
  else
    match takeFirst s.waitOver s.qwait with
    | some (c, rest) => some (c, { s with qwait := rest })
    | none =>
      match s.held with
      | [] => none
      | c :: rest => some (c, { s with held := rest })

/-- A read whose completion has timed out reaches its target; its answer is discarded and counted as late (R447, R645). -/
def State.lateRead (s : State) : Option State :=
  if s.por ∨ s.tb.dawn ≠ 0 ∨ s.srstBusy ≠ [] then none
  else
    match s.host.late with
    | [] => none
    | c :: rest =>
      let t : State := { s with host := { s.host with late := rest } }
      let u := match c with
        | .hostMemRead f two off n => t.barAccess c f two off.toNat n false []
        | _ => t
      some ({ u with resp := s.resp, held := s.held }.nocBump pNoc NOC.RSP_TMO_LATE)

/-- Each run's ledger counts a tick (R620, R621), and a run that has faulted ends (R414). -/
def State.runsTick (s : State) : State :=
  (List.range 8).foldl (fun (u : State) h =>
    match u.runOf h with
    | some r => (u.ledgerTick h r).faultsEnd h r
    | none => u) s

/-- VM_VOLT takes VM every 65,536 st (Table 3.10). -/
def State.vmTick (s : State) : State :=
  match s.dr.vmPin with
  | some mv => if s.tb.count % 65536 = 0 then s.setFld pPower POWER.VM_VOLT_VM_MV2 (mv / 2) else s
  | none => s

/-- One tick: a beat passes, on the Weighhouse die too, the counters run (R116), the runs take note of it, the axis filters
accept what has held (R203), and the NoC moves. -/
def State.tick (s : State) : State :=
  let t := if s.tb.running then s.runsTick else s
  let u : State := { t with
    wh := t.wh.clock
    tb := { t.tb with beat := t.tb.beat + 1, count := if s.tb.running then cadd t.tb.count 1 else t.tb.count } }
  (if s.tb.running then u.vmTick.axisFilters else u).nocTick

/-- What the device does with no command waiting and none held: it completes a request in the matrix, or takes what a late
read brought, or a tick passes. -/
def State.idle (s : State) : State :=
  match s.mxNext (fun r => r.hdr.isSome || r.acc.master == .engine) with
  | some k => s.mxComplete State.hhRequest .wicketAccessComplete k
  | none =>
    match s.lateRead with
    | some t => t
    | none => s.tick

end Sys2Proof.Machine
end

