-- ==== Sys2Proof/Machine/Egress.lean ====
section
/-!
DEFINITION. The egress decision (R502 to R507, R514, R529): deficit round robin over the lists of a scheduler, and what
sends a frame at its port.
-/

namespace Sys2Proof.Machine

/-- A service list: 1 HI, 2 LO, 3 EX (R503). -/
def SchSt.list (c : SchSt) (w : Nat) : List Nat := if w = 1 then c.hi else if w = 2 then c.lo else c.ex

/-- Writes a service list. -/
def SchSt.setList (c : SchSt) (w : Nat) (l : List Nat) : SchSt :=
  if w = 1 then { c with hi := l } else if w = 2 then { c with lo := l } else { c with ex := l }

/-- The slot may be served in the list (R502, R504). -/
def State.servable (s : State) (p k w l : Nat) : Bool := if w = 3 then s.peakOk p k l else s.commOk p k l

/-- The NoC and fabric class of a slot: 1 TIMED, 0 BULK (R503). -/
def State.slotVc (s : State) (p k : Nat) : Nat := s.fld (pSch p) (SCH.BIND_CLASS.at k)

/-- The credit units of the frames of this device that wait at a port in a channel. -/
def State.queuedUnits (s : State) (k vc : Nat) : Nat :=
  (((s.port k).txq.filter (fun x => x.from_ == 4 && x.frame.vc == vc)).map (fun x => x.frame.units)).sum

/-- The port of a scheduler can accept a slot's frame of `l` bytes (R507): the endpoint's link is up and it holds
posted-write credit for the frame, or the Commons port holds credit for it in the slot's class. -/
def State.portAccepts (s : State) (p k l : Nat) (credit : Bool) : Bool :=
  if p = 0 then s.hostUp && credit
  else
    let vc := s.slotVc p k
    s.portUp (p - 1) && decide ((l + 63) / 64 + s.queuedUnits (p - 1) vc ≤ s.txCredit (p - 1) vc)

/-- The ring that a slot of SCHP writes has no room for its frame of `l` bytes (R507, R649). -/
def State.slotBlocked (s : State) (p k l : Nat) : Bool := p == 0 && s.ringBlock k (l / 8) != 0

/-- A blocked slot leaves its list with deficit 0 (R507). -/
def State.blockSlot (s : State) (p k : Nat) : State :=
  let t := s.idleSlot p k
  t.setSlot p k { t.slot p k with place := 6 }

/-- SOJOURN_HWM and SOJOURN_HIGH of a frame whose item became readable at `c`, a beat after its commit (R514). -/
def State.sojourn (s : State) (p k c : Nat) : State :=
  let g := pSch p
  let d := s.tb.count + 1 - c
  let lim := s.fld g (SCH.SLOT_CTRL_SOJ_LIMIT.at k)
  let late := lim != 0 && decide (lim * 65536 < d)
  let x := s.slot p k
  let s1 := (s.setFld g (SCH.SOJOURN_HWM_ST.at k) (max (s.fld g (SCH.SOJOURN_HWM_ST.at k)) (min d 0xFFFFFFFF))).setSlot p k
    { x with late := late }
  if late && !x.late then s1.raise g SCH.evSOJOURN_HIGH else s1

/-- The STATUS code of a failed pop (Table 11.7). -/
def popCode (f : PopFail) : Nat := match f with
  | .denied => 1
  | .decode => 2
  | .timeout => 4

/-- EGRESS_ERR with its first capture (R529). -/
def State.egressErr (s : State) (p k hh st : Nat) : State :=
  let g := pSch p
  let t := s.raiseBy g SCH.evEGRESS_ERR hh
  if t.on g SCH.ERR_INFO_VALID then t
  else ((t.setFld g SCH.ERR_INFO_VALID 1).setFld g SCH.ERR_INFO_STATUS st).setFld g SCH.ERR_INFO_SLOT k

/-- A frame leaves as an ITEM frame on a Commons port (R558): a slot without a destination drops it, and a port that is
not the UP_PORT of the destination counts MISROUTED. -/
def State.sendItem (s : State) (j k hh seq queue : Nat) (ws : List Nat) (poison : Bool) (vc : Nat) : State :=
  let g := pFabp j
  if s.on g (FABP.SLOT_DEST_VALID.at k) then
    let dst := s.fld g (FABP.SLOT_DEST_DST_DEV.at k)
    let f : Frame := { Frame.blank with
      kind := 2, vc := vc, poison := poison, dst := dst, src := s.devNum, hh := hh
      epoch := s.activeEpoch % 16
      arg2 := s.fld g (FABP.SLOT_DEST_DQUEUE.at k) + queue * 2 ^ 8 + seq % 65536 * 2 ^ 16
      payload := ws.flatMap (leBytes 8) }
    let t := if (s.routeOf dst).up = j then s else s.bump pFab FAB.MISROUTED_COUNT
    t.toPort j 4 none f (s.downHop j)
  else s.unroutable hh

/-- The debit and the byte counter of a frame of `l` bytes: green from HI and LO, yellow from EX (R502). -/
def State.debit (s : State) (p k w l : Nat) : State :=
  let g := pSch p
  let x := s.slot p k
  let d : Int := (l * 65536 : Nat)
  if w = 3 then
    (s.setSlot p k { x with b := { x.b with tokP := x.b.tokP - d } }).setPair g SCH.YELLOW_BYTES_LO_COUNT
      SCH.YELLOW_BYTES_HI_COUNT (s.pair g SCH.YELLOW_BYTES_LO_COUNT SCH.YELLOW_BYTES_HI_COUNT + l)
  else
    (s.setSlot p k { x with b := { x.b with tokP := x.b.tokP - d, tokC := x.b.tokC - d } }).setPair g
      SCH.GREEN_BYTES_LO_COUNT SCH.GREEN_BYTES_HI_COUNT (s.pair g SCH.GREEN_BYTES_LO_COUNT SCH.GREEN_BYTES_HI_COUNT + l)

/-- Sends the frame of a slot: its item is popped whole, a green frame of a slot with DRAM_TOUCH metered as the scheduler's
egress reads and any other as the queue's spill traffic (R499), and written to its ring or put on its port; a failed pop leaves the words after the first `n` as zero (R504, R529). -/
def State.sendFrame (s : State) (p k w l : Nat) (fail : Option (PopFail × Nat)) : State :=
  let n := s.slotQueue p k
  let hh := s.fld (pSch p) (SCH.SLOT_OWNER_SLOT.at k)
  match s.qCur n with
  | none => s
  | some (i, off) =>
    let cnt := i.words.length - off
    let client := if w ≠ 3 ∧ s.on (pSch p) (SCH.BIND_DRAM_TOUCH.at k) = true then 264 + p else n
    let t0 := s.popStreamFor n (cnt + 2) client hh
    let data := match t0.resp with
      | some r => r.data
      | none => []
    let t : State := { t0 with resp := s.resp }
    let all := (data.drop 2).take cnt
    let got := match fail with
      | some (_, m) => min m cnt
      | none => cnt
    let ws := all.take got ++ List.replicate (cnt - got) 0
    let tagged := data.drop 1 |>.take 1 |>.any (fun m => m % 2 ^ got != 0)
    let t1 := match fail with
      | some (f, _) => t.egressErr p k hh (popCode f)
      | none => t
    let t2 := if tagged then (t1.raiseBy (pSch p) SCH.evPOISON_TX hh).bump (pSch p) SCH.POISON_TX_COUNT_COUNT else t1
    let t3 := (t2.sojourn p k i.commit).debit p k w l
    let t4 := if p = 0 then t3.ringWrite k i.seq n ws tagged fail.isSome
      else t3.sendItem (p - 1) k hh i.seq n ws (tagged || fail.isSome) (s.slotVc p k)
    let x := t4.slot p k
    let t5 := t4.setSlot p k { x with deficit := x.deficit - l }
    if (t5.headLen p k).isSome then t5 else t5.idleSlot p k

/-- What a scheduler does with one list: 0 nothing was sent, 1 a frame was sent, 2 the port cannot accept the frame whose
turn it is. -/
def State.serveList (s : State) (p w : Nat) (credit : Bool) (fail : Option (PopFail × Nat)) : Nat → State × Nat
  | 0 => (s, 0)
  | fuel + 1 =>
    match (s.sc p).list w with
    | [] => (s, 0)
    | k :: rest =>
      match s.headLen p k with
      | none => (s.idleSlot p k).serveList p w credit fail fuel
      | some l =>
        if s.slotBlocked p k l then (s.blockSlot p k).serveList p w credit fail fuel
        else
          let x := s.slot p k
          let y := if x.turn then x
            else { x with deficit := x.deficit + s.fld (pSch p) (SCH.SLOT_CTRL_QUANTUM.at k), turn := true }
          let t := s.setSlot p k y
          if y.deficit < l then
            let u := t.setSlot p k { y with turn := false }
            (u.setSc p ((u.sc p).setList w (rest ++ [k]))).serveList p w credit fail fuel
          else if !t.servable p k w l then (t.placeSlot p k l).serveList p w credit fail fuel
          else if t.portAccepts p k l credit then (t.sendFrame p k w l fail, 1)
          else (s, 2)

/-- Enough turns for 64 slots with the least quantum and the longest frame. -/
abbrev decisionTurns : Nat := 64 * 136

/-- One decision of a scheduler: HI, then LO, then EX (R504). While the port cannot accept the frame whose turn it is, no
decision is made. -/
def State.decision (s : State) (p : Nat) (credit : Bool) (fail : Option (PopFail × Nat)) : State :=
  let a := s.serveList p 1 credit fail decisionTurns
  let b := if a.2 = 0 then a.1.serveList p 2 credit fail decisionTurns else a
  let c := if b.2 = 0 then b.1.serveList p 3 credit fail decisionTurns else b
  if c.2 = 2 then s else c.1

/-- A command writes a RING_HEAD: it goes before a decision of its beat (Table 17.11). -/
def writesHead (c : Instr) : Bool :=
  match c with
  | .ringHeadWrite .. => true
  | _ => (List.range 64).any (fun k => (writesReg pHost (0x414 + 0x20 * k) c).isSome
      || (List.range 8).any (fun h => (writesReg (pHh h) (0x414 + 0x20 * k) c).isSome))

/-- EGRESS_DECISION (R504): `credit` says whether the endpoint holds posted-write credit for the frame (R507); none is made
in a dawn. A slot disable and a flush of a bound queue, of its beat, come first, then the refill and the wheel (Table 13.5). -/
def execEgressDecision : Fin 5 → EgressIn → State → Host.Outcome State Fault Refusal
  | p, ⟨credit, fail⟩, s =>
  if s.tb.dawn ≠ 0 then .next s
  else
    .next (s.after (.egressDecision p ⟨credit, fail⟩)
      (fun c => disablesOf p c || (p.val == 0 && writesHead c) || (s.slotsOn p).any (fun k => flushes (s.slotQueue p k) c))
      ((s.schDue p).decision p credit (fail.map (fun (e : PopFail × Fin 1025) => (e.1, e.2.val)))))

/-- SLOT_WAKE (R505): an enabled slot that is idle and has an item, or is blocked no longer, joins its list or the
wheel; a refill of its tick comes first (Table 13.5). -/
def execSlotWake (p : Fin 5) (k : Fin 64) (s : State) : Host.Outcome State Fault Refusal :=
  let t := s.schDue p
  let x := t.slot p k
  match t.headLen p k with
  | none => .next t
  | some l =>
    if t.on (pSch p) (SCH.SLOT_CTRL_EN.at k) && (x.place == 0 || (x.place == 6 && !t.slotBlocked p k l)) then
      .next (t.wakeSlot p k)
    else .next t

end Sys2Proof.Machine
end

