-- ==== Sys2Proof/Machine/Dispatch.lean ====
section
/-!
DEFINITION. The meaning of each command: one arm per constructor of Instr, each a direct call of the command's own
definition.
-/

namespace Sys2Proof.Machine

/-- A command's effect on everything but the queue. -/
def exec (i : Instr) (s : State) : Host.Outcome State Fault Refusal :=
  match i with
  | .strapSample s1 s2 s3 => Sys2Proof.Machine.execStrapSample s1 s2 s3 s
  | .porAssert c => Sys2Proof.Machine.execPorAssert c s
  | .porRelease => Sys2Proof.Machine.execPorRelease s
  | .vddwFall => Sys2Proof.Machine.execVddwFall s
  | .vddwRise => Sys2Proof.Machine.execVddwRise s
  | .acceptMainPower => Sys2Proof.Machine.execAcceptMainPower s
  | .routineCommit => Sys2Proof.Machine.execRoutineCommit s
  | .vbakCommitCross => Sys2Proof.Machine.execVbakCommitCross s
  | .commitComplete => Sys2Proof.Machine.execCommitComplete s
  | .weighhouseHalt => Sys2Proof.Machine.execWeighhouseHalt s
  | .weighhouseStart copyA copyB areas vbakMv => Sys2Proof.Machine.execWeighhouseStart copyA copyB areas vbakMv s
  | .rtcStop => Sys2Proof.Machine.execRtcStop s
  | .bakLowCross below => Sys2Proof.Machine.execBakLowCross below s
  | .chargerLevelCross mv => Sys2Proof.Machine.execChargerLevelCross mv s
  | .vbakFastRise => Sys2Proof.Machine.execVbakFastRise s
  | .impedanceProbeStart => Sys2Proof.Machine.execImpedanceProbeStart s
  | .impedanceProbeDone riseMv vbakMv => Sys2Proof.Machine.execImpedanceProbeDone riseMv vbakMv s
  | .vbakSample mv => Sys2Proof.Machine.execVbakSample mv s
  | .whTempCross hot vbakMv => Sys2Proof.Machine.execWhTempCross hot vbakMv s
  | .powerStageSupplyCross rail mv => Sys2Proof.Machine.execPowerStageSupplyCross rail mv s
  | .vphyMonitorCross mv => Sys2Proof.Machine.execVphyMonitorCross mv s
  | .dramRailMonitorCross rail mv => Sys2Proof.Machine.execDramRailMonitorCross rail mv s
  | .vmLimitsWrite a w => Sys2Proof.Machine.execVmLimitsWrite a w s
  | .mirrorRefresh => Sys2Proof.Machine.execMirrorRefresh s
  | .sidLoRead a both via => Sys2Proof.Machine.execSidLoRead a both via s
  | .sidHiRead a via => Sys2Proof.Machine.execSidHiRead a via s
  | .loadGo a => Sys2Proof.Machine.execLoadGo a s
  | .counterLoadApply => Sys2Proof.Machine.execCounterLoadApply s
  | .pllLock => Sys2Proof.Machine.execPllLock s
  | .dawnReq a => Sys2Proof.Machine.execDawnReq a s
  | .dawnDrainCheck notEmpty => Sys2Proof.Machine.execDawnDrainCheck notEmpty s
  | .dawnPrime => Sys2Proof.Machine.execDawnPrime s
  | .dawnRelease => Sys2Proof.Machine.execDawnRelease s
  | .dawnMeasureEnd phases occ => Sys2Proof.Machine.execDawnMeasureEnd phases occ s
  | .almFieldWrite a via reg w => Sys2Proof.Machine.execAlmFieldWrite a via reg w s
  | .almArm a via => Sys2Proof.Machine.execAlmArm a via s
  | .almCancel a via => Sys2Proof.Machine.execAlmCancel a via s
  | .almLock k => Sys2Proof.Machine.execAlmLock k s
  | .almApply k => Sys2Proof.Machine.execAlmApply k s
  | .refmonWindowEnd meas => Sys2Proof.Machine.execRefmonWindowEnd meas s
  | .refLoss => Sys2Proof.Machine.execRefLoss s
  | .pllUnlock => Sys2Proof.Machine.execPllUnlock s
  | .refFallback => Sys2Proof.Machine.execRefFallback s
  | .matrixGrant g => Sys2Proof.Machine.execMatrixGrant g s
  | .agePromote k => Sys2Proof.Machine.execAgePromote k s
  | .targetTimeout k => Sys2Proof.Machine.execTargetTimeout k s
  | .lateRsp k => Sys2Proof.Machine.execLateRsp k s
  | .registerWrite a addr wide v => Sys2Proof.Machine.execRegisterWrite a addr wide v s
  | .rcCounterRead a addr wide => Sys2Proof.Machine.execRcCounterRead a addr wide s
  | .evtPendClear a page w => Sys2Proof.Machine.execEvtPendClear a page w s
  | .evtEnWrite a page w => Sys2Proof.Machine.execEvtEnWrite a page w s
  | .evtForce a page w => Sys2Proof.Machine.execEvtForce a page w s
  | .errClr a page => Sys2Proof.Machine.execErrClr a page s
  | .shFieldWrite a page off w => Sys2Proof.Machine.execShFieldWrite a page off w s
  | .shadowBoundaryWrite a page b => Sys2Proof.Machine.execShadowBoundaryWrite a page b s
  | .shadowDiscard a page => Sys2Proof.Machine.execShadowDiscard a page s
  | .pageLockSet a page => Sys2Proof.Machine.execPageLockSet a page s
  | .ownerWrite a page v => Sys2Proof.Machine.execOwnerWrite a page v s
  | .pageSrst a page => Sys2Proof.Machine.execPageSrst a page s
  | .pageSrstDone page => Sys2Proof.Machine.execPageSrstDone page s
  | .pageEnable a page en => Sys2Proof.Machine.execPageEnable a page en s
  | .warmReq a w => Sys2Proof.Machine.execWarmReq a w s
  | .warmTakeEffect => Sys2Proof.Machine.execWarmTakeEffect s
  | .axisEnable a k w => Sys2Proof.Machine.execAxisEnable a k w s
  | .axisEdge k la lb => Sys2Proof.Machine.execAxisEdge k la lb s
  | .axisIndexEdge k lz => Sys2Proof.Machine.execAxisIndexEdge k lz s
  | .axisOpenWire k sig => Sys2Proof.Machine.execAxisOpenWire k sig s
  | .ephemSample => Sys2Proof.Machine.execEphemSample s
  | .ephemFit => Sys2Proof.Machine.execEphemFit s
  | .ephemPublish => Sys2Proof.Machine.execEphemPublish s
  | .segmentReceive ws => Sys2Proof.Machine.execSegmentReceive ws s
  | .segmentTakeForce => Sys2Proof.Machine.execSegmentTakeForce s
  | .segmentExpire => Sys2Proof.Machine.execSegmentExpire s
  | .trigArmNow a w => Sys2Proof.Machine.execTrigArmNow a w s
  | .trigDisarmNow a w => Sys2Proof.Machine.execTrigDisarmNow a w s
  | .stbArmNow a w => Sys2Proof.Machine.execStbArmNow a w s
  | .stbDisarmNow a w => Sys2Proof.Machine.execStbDisarmNow a w s
  | .trigFire k => Sys2Proof.Machine.execTrigFire k s
  | .trigPulseEnd o => Sys2Proof.Machine.execTrigPulseEnd o s
  | .strobeFire k => Sys2Proof.Machine.execStrobeFire k s
  | .strobeDutyCut k => Sys2Proof.Machine.execStrobeDutyCut k s
  | .strobeDutyWindow => Sys2Proof.Machine.execStrobeDutyWindow s
  | .outputShort o => Sys2Proof.Machine.execOutputShort o s
  | .outSafe a w => Sys2Proof.Machine.execOutSafe a w s
  | .csiFrameShortPacket m p isEnd => Sys2Proof.Machine.execCsiFrameShortPacket m p isEnd s
  | .csiLineStart m p lineNo => Sys2Proof.Machine.execCsiLineStart m p lineNo s
  | .csiLongPacket m vc dt wc payload crcGood x => Sys2Proof.Machine.execCsiLongPacket m vc dt wc payload crcGood x s
  | .csiLineEnd m p lineNo => Sys2Proof.Machine.execCsiLineEnd m p lineNo s
  | .laneSyncLoss l => Sys2Proof.Machine.execLaneSyncLoss l s
  | .bindCfgWrite a m v w => Sys2Proof.Machine.execBindCfgWrite a m v w s
  | .meterEdge ch la lb => Sys2Proof.Machine.execMeterEdge ch la lb s
  | .meterIndexEdge ch lz => Sys2Proof.Machine.execMeterIndexEdge ch lz s
  | .meterWireFault ch kind => Sys2Proof.Machine.execMeterWireFault ch kind s
  | .whReadStatus tag => Sys2Proof.Machine.execWhReadStatus tag s
  | .whReadLedger tag lseq n bad => Sys2Proof.Machine.execWhReadLedger tag lseq n bad s
  | .whReadTally tag no bad => Sys2Proof.Machine.execWhReadTally tag no bad s
  | .whReadKey tag => Sys2Proof.Machine.execWhReadKey tag s
  | .whReadIdent tag => Sys2Proof.Machine.execWhReadIdent tag s
  | .whReadParams tag => Sys2Proof.Machine.execWhReadParams tag s
  | .whReadStamp tag => Sys2Proof.Machine.execWhReadStamp tag s
  | .closeTally tag coil sid => Sys2Proof.Machine.execCloseTally tag coil sid s
  | .whStamp tag sid nonce ackLseq ackTally => Sys2Proof.Machine.execWhStamp tag sid nonce ackLseq ackTally s
  | .sealNonce tag => Sys2Proof.Machine.execSealNonce tag s
  | .sealOpen tag sigR sigS => Sys2Proof.Machine.execSealOpen tag sigR sigS s
  | .sealParam tag id body => Sys2Proof.Machine.execSealParam tag id body s
  | .whbBadOp tag op sub => Sys2Proof.Machine.execWhbBadOp tag op sub s
  | .whbFrameBadCrc toCore => Sys2Proof.Machine.execWhbFrameBadCrc toCore s
  | .recordSigned => Sys2Proof.Machine.execRecordSigned s
  | .sealSwitchLow => Sys2Proof.Machine.execSealSwitchLow s
  | .sealSwitchHigh => Sys2Proof.Machine.execSealSwitchHigh s
  | .sealNonceExpire => Sys2Proof.Machine.execSealNonceExpire s
  | .whbGo a w => Sys2Proof.Machine.execWhbGo a w s
  | .whbResponse => Sys2Proof.Machine.execWhbResponse s
  | .whbRetryTimeout => Sys2Proof.Machine.execWhbRetryTimeout s
  | .slParamWrite a reg w => Sys2Proof.Machine.execSlParamWrite a reg w s
  | .motorStart a n => Sys2Proof.Machine.execMotorStart a n s
  | .motorStop a n => Sys2Proof.Machine.execMotorStop a n s
  | .motorFaultClr a n => Sys2Proof.Machine.execMotorFaultClr a n s
  | .motorOffsetCal a n => Sys2Proof.Machine.execMotorOffsetCal a n s
  | .motorCalDone n u v w => Sys2Proof.Machine.execMotorCalDone n u v w s
  | .motorDetectDone n peaks => Sys2Proof.Machine.execMotorDetectDone n peaks s
  | .motorAlignDone n => Sys2Proof.Machine.execMotorAlignDone n s
  | .motorUpdate n u v w => Sys2Proof.Machine.execMotorUpdate n u v w s
  | .motorRestart n => Sys2Proof.Machine.execMotorRestart n s
  | .restartsClear n => Sys2Proof.Machine.execRestartsClear n s
  | .handoverTimeout n => Sys2Proof.Machine.execHandoverTimeout n s
  | .hallTransition n code => Sys2Proof.Machine.execHallTransition n code s
  | .facetIndexEdge n => Sys2Proof.Machine.execFacetIndexEdge n s
  | .motorDerateUpdate n td => Sys2Proof.Machine.execMotorDerateUpdate n td s
  | .cbcTrip n ph => Sys2Proof.Machine.execCbcTrip n ph s
  | .protectionLimitWrite a page off w => Sys2Proof.Machine.execProtectionLimitWrite a page off w s
  | .loopOutputWrite a page off w => Sys2Proof.Machine.execLoopOutputWrite a page off w s
  | .pwmPeriodStart n => Sys2Proof.Machine.execPwmPeriodStart n s
  | .pwmCommandEdge n => Sys2Proof.Machine.execPwmCommandEdge n s
  | .pwmLinkLoss n cause => Sys2Proof.Machine.execPwmLinkLoss n cause s
  | .interlockRelease n sw => Sys2Proof.Machine.execInterlockRelease n sw s
  | .gateStuckTimeout n ph => Sys2Proof.Machine.execGateStuckTimeout n ph s
  | .gateNoriseTimeout n sw => Sys2Proof.Machine.execGateNoriseTimeout n sw s
  | .slewTransition n low m => Sys2Proof.Machine.execSlewTransition n low m s
  | .bstUvCross n ph below => Sys2Proof.Machine.execBstUvCross n ph below s
  | .vcpUvCross below => Sys2Proof.Machine.execVcpUvCross below s
  | .didtFire n sw => Sys2Proof.Machine.execDidtFire n sw s
  | .softOffHoldEnd n sw => Sys2Proof.Machine.execSoftOffHoldEnd n sw s
  | .tripNLow n low => Sys2Proof.Machine.execTripNLow n low s
  | .ouvOvertemp hot => Sys2Proof.Machine.execOuvOvertemp hot s
  | .diagGo a n => Sys2Proof.Machine.execDiagGo a n s
  | .diagStepEnd n u v w => Sys2Proof.Machine.execDiagStepEnd n u v w s
  | .cstGo a n => Sys2Proof.Machine.execCstGo a n s
  | .cstHalfStepEnd n active => Sys2Proof.Machine.execCstHalfStepEnd n active s
  | .ouvCstGo a => Sys2Proof.Machine.execOuvCstGo a s
  | .ouvCstDone failed => Sys2Proof.Machine.execOuvCstDone failed s
  | .gateLatchClr a n => Sys2Proof.Machine.execGateLatchClr a n s
  | .directTestPulse a n w => Sys2Proof.Machine.execDirectTestPulse a n w s
  | .directTestEnd n => Sys2Proof.Machine.execDirectTestEnd n s
  | .slotLoad a k => Sys2Proof.Machine.execSlotLoad a k s
  | .slotLoadDone k readOk => Sys2Proof.Machine.execSlotLoadDone k readOk s
  | .slotLaunch a k => Sys2Proof.Machine.execSlotLaunch a k s
  | .runFirstIssue h => Sys2Proof.Machine.execRunFirstIssue h s
  | .slotAbort a k => Sys2Proof.Machine.execSlotAbort a k s
  | .breakpointHit t => Sys2Proof.Machine.execBreakpointHit t s
  | .nop t => Sys2Proof.Machine.execNop t s
  | .halt t => Sys2Proof.Machine.execHalt t s
  | .br t => Sys2Proof.Machine.execBr t s
  | .bz t => Sys2Proof.Machine.execBz t s
  | .bnz t => Sys2Proof.Machine.execBnz t s
  | .blt t => Sys2Proof.Machine.execBlt t s
  | .bge t => Sys2Proof.Machine.execBge t s
  | .trap t => Sys2Proof.Machine.execTrap t s
  | .gets t => Sys2Proof.Machine.execGets t s
  | .add t => Sys2Proof.Machine.execAdd t s
  | .sub t => Sys2Proof.Machine.execSub t s
  | .mul t => Sys2Proof.Machine.execMul t s
  | .and t => Sys2Proof.Machine.execAnd t s
  | .or t => Sys2Proof.Machine.execOr t s
  | .xor t => Sys2Proof.Machine.execXor t s
  | .shl t => Sys2Proof.Machine.execShl t s
  | .shr t => Sys2Proof.Machine.execShr t s
  | .sra t => Sys2Proof.Machine.execSra t s
  | .slt t => Sys2Proof.Machine.execSlt t s
  | .sltu t => Sys2Proof.Machine.execSltu t s
  | .addi t => Sys2Proof.Machine.execAddi t s
  | .lih t => Sys2Proof.Machine.execLih t s
  | .vadd t => Sys2Proof.Machine.execVadd t s
  | .vsub t => Sys2Proof.Machine.execVsub t s
  | .vmul t => Sys2Proof.Machine.execVmul t s
  | .vand t => Sys2Proof.Machine.execVand t s
  | .vor t => Sys2Proof.Machine.execVor t s
  | .vxor t => Sys2Proof.Machine.execVxor t s
  | .vshl t => Sys2Proof.Machine.execVshl t s
  | .vshr t => Sys2Proof.Machine.execVshr t s
  | .vsra t => Sys2Proof.Machine.execVsra t s
  | .vmin t => Sys2Proof.Machine.execVmin t s
  | .vmax t => Sys2Proof.Machine.execVmax t s
  | .vcmpeq t => Sys2Proof.Machine.execVcmpeq t s
  | .vcmplt t => Sys2Proof.Machine.execVcmplt t s
  | .vbcast t => Sys2Proof.Machine.execVbcast t s
  | .vsel t => Sys2Proof.Machine.execVsel t s
  | .vdot4 t => Sys2Proof.Machine.execVdot4 t s
  | .vdot4u t => Sys2Proof.Machine.execVdot4u t s
  | .vreq t => Sys2Proof.Machine.execVreq t s
  | .vlane t => Sys2Proof.Machine.execVlane t s
  | .vext t => Sys2Proof.Machine.execVext t s
  | .vfadd t => Sys2Proof.Machine.execVfadd t s
  | .vfsub t => Sys2Proof.Machine.execVfsub t s
  | .vfmul t => Sys2Proof.Machine.execVfmul t s
  | .vffma t => Sys2Proof.Machine.execVffma t s
  | .vfmax t => Sys2Proof.Machine.execVfmax t s
  | .vfmin t => Sys2Proof.Machine.execVfmin t s
  | .vcvtif t => Sys2Proof.Machine.execVcvtif t s
  | .vcvtfi t => Sys2Proof.Machine.execVcvtfi t s
  | .vfcmplt t => Sys2Proof.Machine.execVfcmplt t s
  | .vld x => Sys2Proof.Machine.execVld x s
  | .vst t => Sys2Proof.Machine.execVst t s
  | .sld x => Sys2Proof.Machine.execSld x s
  | .sst t => Sys2Proof.Machine.execSst t s
  | .dmaget t => Sys2Proof.Machine.execDmaget t s
  | .dmaput x => Sys2Proof.Machine.execDmaput x s
  | .dmawait t => Sys2Proof.Machine.execDmawait t s
  | .dmaComplete t leaf => Sys2Proof.Machine.execDmaComplete t leaf s
  | .pop t => Sys2Proof.Machine.execPop t s
  | .popItemObtained t => Sys2Proof.Machine.execPopItemObtained t s
  | .emit x => Sys2Proof.Machine.execEmit x s
  | .vredIadd t => Sys2Proof.Machine.execVredIadd t s
  | .vredFadd t => Sys2Proof.Machine.execVredFadd t s
  | .vredImax t => Sys2Proof.Machine.execVredImax t s
  | .vredImin t => Sys2Proof.Machine.execVredImin t s
  | .vredFmax t => Sys2Proof.Machine.execVredFmax t s
  | .vredFmin t => Sys2Proof.Machine.execVredFmin t s
  | .sredIadd t => Sys2Proof.Machine.execSredIadd t s
  | .sredFadd t => Sys2Proof.Machine.execSredFadd t s
  | .sredImax t => Sys2Proof.Machine.execSredImax t s
  | .sredImin t => Sys2Proof.Machine.execSredImin t s
  | .sredFmax t => Sys2Proof.Machine.execSredFmax t s
  | .sredFmin t => Sys2Proof.Machine.execSredFmin t s
  | .vltreeIadd t => Sys2Proof.Machine.execVltreeIadd t s
  | .vltreeFadd t => Sys2Proof.Machine.execVltreeFadd t s
  | .vltreeImax t => Sys2Proof.Machine.execVltreeImax t s
  | .vltreeImin t => Sys2Proof.Machine.execVltreeImin t s
  | .vltreeFmax t => Sys2Proof.Machine.execVltreeFmax t s
  | .vltreeFmin t => Sys2Proof.Machine.execVltreeFmin t s
  | .vrnd t => Sys2Proof.Machine.execVrnd t s
  | .step t => Sys2Proof.Machine.execStep t s
  | .bar t => Sys2Proof.Machine.execBar t s
  | .illegalInstruction t => Sys2Proof.Machine.execIllegalInstruction t s
  | .reductionResult h roots refs rtyMax halted => Sys2Proof.Machine.execReductionResult h roots refs rtyMax halted s
  | .barrierComplete h refs rtyMax halted => Sys2Proof.Machine.execBarrierComplete h refs rtyMax halted s
  | .remoteFail h => Sys2Proof.Machine.execRemoteFail h s
  | .redTimeout h => Sys2Proof.Machine.execRedTimeout h s
  | .tileSramAccess a t off write words data => Sys2Proof.Machine.execTileSramAccess a t off write words data s
  | .packetInject r agent w0 w1 w2 w3 flits => Sys2Proof.Machine.execPacketInject r agent w0 w1 w2 w3 flits s
  | .tokenGain r agent => Sys2Proof.Machine.execTokenGain r agent s
  | .flitForward r out parity sideband => Sys2Proof.Machine.execFlitForward r out parity sideband s
  | .creditReturn r out c => Sys2Proof.Machine.execCreditReturn r out c s
  | .packetDeliver r vc => Sys2Proof.Machine.execPacketDeliver r vc s
  | .responseArrive r timed => Sys2Proof.Machine.execResponseArrive r timed s
  | .rspTimeout r agent tag => Sys2Proof.Machine.execRspTimeout r agent tag s
  | .vcStall r port vc => Sys2Proof.Machine.execVcStall r port vc s
  | .timedRegWrite a w => Sys2Proof.Machine.execTimedRegWrite a w s
  | .cntClearAll a => Sys2Proof.Machine.execCntClearAll a s
  | .queuePush a q agent off data poisoned => Sys2Proof.Machine.execQueuePush a q agent off data poisoned s
  | .queuePushLast a q agent off data poisoned => Sys2Proof.Machine.execQueuePushLast a q agent off data poisoned s
  | .queuePopStream a q off bytes => Sys2Proof.Machine.execQueuePopStream a q off bytes s
  | .queueTake a port q off words => Sys2Proof.Machine.execQueueTake a port q off words s
  | .queueHeldRead a port q off words => Sys2Proof.Machine.execQueueHeldRead a port q off words s
  | .queueReleaseHeld a port q => Sys2Proof.Machine.execQueueReleaseHeld a port q s
  | .takeRetry h => Sys2Proof.Machine.execTakeRetry h s
  | .queueFlush a q => Sys2Proof.Machine.execQueueFlush a q s
  | .queueMark a q => Sys2Proof.Machine.execQueueMark a q s
  | .queueRewind a q => Sys2Proof.Machine.execQueueRewind a q s
  | .queueRelease a q => Sys2Proof.Machine.execQueueRelease a q s
  | .queueEnable a q w => Sys2Proof.Machine.execQueueEnable a q w s
  | .queueDisable a q w => Sys2Proof.Machine.execQueueDisable a q w s
  | .queueCfgWrite a q reg w => Sys2Proof.Machine.execQueueCfgWrite a q reg w s
  | .spillWrite q => Sys2Proof.Machine.execSpillWrite q s
  | .spillWriteDone q status => Sys2Proof.Machine.execSpillWriteDone q status s
  | .spillRead q => Sys2Proof.Machine.execSpillRead q s
  | .spillReadDone q status poisonedFlits => Sys2Proof.Machine.execSpillReadDone q status poisonedFlits s
  | .itemTimeout q => Sys2Proof.Machine.execItemTimeout q s
  | .discardTimeout q node agent master hh => Sys2Proof.Machine.execDiscardTimeout q node agent master hh s
  | .spillWmUpdate q => Sys2Proof.Machine.execSpillWmUpdate q s
  | .qptrMismatch q => Sys2Proof.Machine.execQptrMismatch q s
  | .refillInstant page => Sys2Proof.Machine.execRefillInstant page s
  | .egressDecision p x => Sys2Proof.Machine.execEgressDecision p x s
  | .slotWake p k => Sys2Proof.Machine.execSlotWake p k s
  | .wheelTick p => Sys2Proof.Machine.execWheelTick p s
  | .wheelLevel1Move p => Sys2Proof.Machine.execWheelLevel1Move p s
  | .slotEnable a p k w => Sys2Proof.Machine.execSlotEnable a p k w s
  | .cirWrite a p k hi w => Sys2Proof.Machine.execCirWrite a p k hi w s
  | .bindWrite a p k ctrl w => Sys2Proof.Machine.execBindWrite a p k ctrl w s
  | .admCommit a => Sys2Proof.Machine.execAdmCommit a s
  | .arbiterWindowEnd => Sys2Proof.Machine.execArbiterWindowEnd s
  | .refAheadUpdate => Sys2Proof.Machine.execRefAheadUpdate s
  | .dramRequestServe x => Sys2Proof.Machine.execDramRequestServe x s
  | .dramRefresh c early behind waits => Sys2Proof.Machine.execDramRefresh c early behind waits s
  | .moduleReady k => Sys2Proof.Machine.execModuleReady k s
  | .pcsLocked k los fec tx rx stable => Sys2Proof.Machine.execPcsLocked k los fec tx rx stable s
  | .helloSend k => Sys2Proof.Machine.execHelloSend k s
  | .helloReceive k f => Sys2Proof.Machine.execHelloReceive k f s
  | .linkDownWaitEnd k => Sys2Proof.Machine.execLinkDownWaitEnd k s
  | .linkLos k modabs => Sys2Proof.Machine.execLinkLos k modabs s
  | .pcsLockLost k hiBer => Sys2Proof.Machine.execPcsLockLost k hiBer s
  | .linkIdleTimeout k => Sys2Proof.Machine.execLinkIdleTimeout k s
  | .frameTransmit k => Sys2Proof.Machine.execFrameTransmit k s
  | .frameBadCrc k corrected uncorrectable => Sys2Proof.Machine.execFrameBadCrc k corrected uncorrectable s
  | .linkUpdateReceive k f => Sys2Proof.Machine.execLinkUpdateReceive k f s
  | .linkUpdateDue k => Sys2Proof.Machine.execLinkUpdateDue k s
  | .replayTimeout k => Sys2Proof.Machine.execReplayTimeout k s
  | .nakResend k => Sys2Proof.Machine.execNakResend k s
  | .transportReceive k f => Sys2Proof.Machine.execTransportReceive k f s
  | .fabpRequestInject k => Sys2Proof.Machine.execFabpRequestInject k s
  | .unroutableRequest w0 w1 => Sys2Proof.Machine.execUnroutableRequest w0 w1 s
  | .itemFrameReceive k f => Sys2Proof.Machine.execItemFrameReceive k f s
  | .segmentFrameReceive k f => Sys2Proof.Machine.execSegmentFrameReceive k f s
  | .announceSend => Sys2Proof.Machine.execAnnounceSend s
  | .announceReceive k f => Sys2Proof.Machine.execAnnounceReceive k f s
  | .rootHoldExpire => Sys2Proof.Machine.execRootHoldExpire s
  | .treeStable => Sys2Proof.Machine.execTreeStable s
  | .joinSend => Sys2Proof.Machine.execJoinSend s
  | .joinReceive k f => Sys2Proof.Machine.execJoinReceive k f s
  | .joinExpire ident => Sys2Proof.Machine.execJoinExpire ident s
  | .assignReceive k f => Sys2Proof.Machine.execAssignReceive k f s
  | .mapSettle => Sys2Proof.Machine.execMapSettle s
  | .mapReceive k f => Sys2Proof.Machine.execMapReceive k f s
  | .mapAckReceive k f => Sys2Proof.Machine.execMapAckReceive k f s
  | .mapAckTimeout => Sys2Proof.Machine.execMapAckTimeout s
  | .activateReceive k f => Sys2Proof.Machine.execActivateReceive k f s
  | .i2cGo a w => Sys2Proof.Machine.execI2cGo a w s
  | .i2cDone nack data => Sys2Proof.Machine.execI2cDone nack data s
  | .syncSend => Sys2Proof.Machine.execSyncSend s
  | .syncReceive k f start => Sys2Proof.Machine.execSyncReceive k f start s
  | .delayReqReceive k f start => Sys2Proof.Machine.execDelayReqReceive k f start s
  | .delayRespReceive k f => Sys2Proof.Machine.execDelayRespReceive k f s
  | .steerStep => Sys2Proof.Machine.execSteerStep s
  | .constJoin a => Sys2Proof.Machine.execConstJoin a s
  | .constLeave a => Sys2Proof.Machine.execConstLeave a s
  | .syntoniseDone => Sys2Proof.Machine.execSyntoniseDone s
  | .parentTimeout => Sys2Proof.Machine.execParentTimeout s
  | .almDistArmReceive k f => Sys2Proof.Machine.execAlmDistArmReceive k f s
  | .almDistCancelReceive k f => Sys2Proof.Machine.execAlmDistCancelReceive k f s
  | .almDistAckReceive k f => Sys2Proof.Machine.execAlmDistAckReceive k f s
  | .almResendReqReceive k f => Sys2Proof.Machine.execAlmResendReqReceive k f s
  | .inputDigestDone h => Sys2Proof.Machine.execInputDigestDone h s
  | .weightsWriteDetect h => Sys2Proof.Machine.execWeightsWriteDetect h s
  | .replayEnable a h w => Sys2Proof.Machine.execReplayEnable a h w s
  | .replayFeed h => Sys2Proof.Machine.execReplayFeed h s
  | .pcfgWrite a h off w => Sys2Proof.Machine.execPcfgWrite a h off w s
  | .hostMemWrite f bar2 off data poisoned => Sys2Proof.Machine.execHostMemWrite f bar2 off data poisoned s
  | .hostMemRead f bar2 off bytes => Sys2Proof.Machine.execHostMemRead f bar2 off bytes s
  | .hostConfigRequest f req => Sys2Proof.Machine.execHostConfigRequest f req s
  | .hostUnsupportedRequest posted => Sys2Proof.Machine.execHostUnsupportedRequest posted s
  | .hostMalformedTlp => Sys2Proof.Machine.execHostMalformedTlp s
  | .hostCplTimeout f => Sys2Proof.Machine.execHostCplTimeout f s
  | .msixUnmask f what => Sys2Proof.Machine.execMsixUnmask f what s
  | .ringHeadWrite a via k w => Sys2Proof.Machine.execRingHeadWrite a via k w s
  | .ringCoalTimeout k => Sys2Proof.Machine.execRingCoalTimeout k s
  | .ringEnable a via k w => Sys2Proof.Machine.execRingEnable a via k w s
  | .mailboxFill h m => Sys2Proof.Machine.execMailboxFill h m s
  | .mailboxReady h m => Sys2Proof.Machine.execMailboxReady h m s
  | .mailboxConsumeRead a h m off bytes => Sys2Proof.Machine.execMailboxConsumeRead a h m off bytes s
  | .mailboxPeekRead a h m consume off bytes => Sys2Proof.Machine.execMailboxPeekRead a h m consume off bytes s
  | .hhReset a w => Sys2Proof.Machine.execHhReset a w s
  | .hhCtrlReset a h w => Sys2Proof.Machine.execHhCtrlReset a h w s
  | .vfFlr h => Sys2Proof.Machine.execVfFlr h s
  | .householdResetDone h => Sys2Proof.Machine.execHouseholdResetDone h s
  | .pePerst => Sys2Proof.Machine.execPePerst s
  | .hotReset => Sys2Proof.Machine.execHotReset s
  | .pfFlr => Sys2Proof.Machine.execPfFlr s
  | .hostLinkDown => Sys2Proof.Machine.execHostLinkDown s
  | .hostLinkUp speed width => Sys2Proof.Machine.execHostLinkUp speed width s
  | .wicketRead hdr => Sys2Proof.Machine.execWicketRead hdr s
  | .wicketWrite hdr data => Sys2Proof.Machine.execWicketWrite hdr data s
  | .wicketStatus => Sys2Proof.Machine.execWicketStatus s
  | .wicketChallenge => Sys2Proof.Machine.execWicketChallenge s
  | .wicketAuth arg mac => Sys2Proof.Machine.execWicketAuth arg mac s
  | .authCheckDone => Sys2Proof.Machine.execAuthCheckDone s
  | .wicketLogout => Sys2Proof.Machine.execWicketLogout s
  | .wicketAbort => Sys2Proof.Machine.execWicketAbort s
  | .wicketBadOp => Sys2Proof.Machine.execWicketBadOp s
  | .wicketCrcFault framed => Sys2Proof.Machine.execWicketCrcFault framed s
  | .wicketLineReset => Sys2Proof.Machine.execWicketLineReset s
  | .wicketBusyLimit => Sys2Proof.Machine.execWicketBusyLimit s
  | .wicketAccessComplete => Sys2Proof.Machine.execWicketAccessComplete s
  | .wicketNonceExpire => Sys2Proof.Machine.execWicketNonceExpire s
  | .authLockoutEnd => Sys2Proof.Machine.execAuthLockoutEnd s
  | .dbgRst => Sys2Proof.Machine.execDbgRst s
  | .sessionEndWrite a => Sys2Proof.Machine.execSessionEndWrite a s
  | .debugKeyWrite a k j w => Sys2Proof.Machine.execDebugKeyWrite a k j w s
  | .runHalt a h w => Sys2Proof.Machine.execRunHalt a h w s
  | .runHalted h => Sys2Proof.Machine.execRunHalted h s
  | .runResume a h w => Sys2Proof.Machine.execRunResume a h w s
  | .runStep a h w => Sys2Proof.Machine.execRunStep a h w s
  | .runStepDone h => Sys2Proof.Machine.execRunStepDone h s
  | .ctxDataAccess a h hi write w => Sys2Proof.Machine.execCtxDataAccess a h hi write w s
  | .tapBypass => Sys2Proof.Machine.execTapBypass s
  | .tapIdcode => Sys2Proof.Machine.execTapIdcode s
  | .tapSamplePreload => Sys2Proof.Machine.execTapSamplePreload s
  | .tapExtest => Sys2Proof.Machine.execTapExtest s
  | .tapClamp => Sys2Proof.Machine.execTapClamp s
  | .tapHighz => Sys2Proof.Machine.execTapHighz s
  | .tapReset => Sys2Proof.Machine.execTapReset s
  | .notifySend page => Sys2Proof.Machine.execNotifySend page s
  | .notifyPeriodic => Sys2Proof.Machine.execNotifyPeriodic s
  | .notifyReceive => Sys2Proof.Machine.execNotifyReceive s
  | .summaryNotifyReceive => Sys2Proof.Machine.execSummaryNotifyReceive s
  | .summaryNotifyPeriodic => Sys2Proof.Machine.execSummaryNotifyPeriodic s
  | .faultNUpdate => Sys2Proof.Machine.execFaultNUpdate s
  | .faultnForceWrite a w => Sys2Proof.Machine.execFaultnForceWrite a w s
  | .slewComplete => Sys2Proof.Machine.execSlewComplete s
  | .laneSyncGained m latency => Sys2Proof.Machine.execLaneSyncGained m latency s
  | .openWireClear k sig => Sys2Proof.Machine.execOpenWireClear k sig s
  | .dramTrainingDone c ok => Sys2Proof.Machine.execDramTrainingDone c ok s
  | .dramTempCross c hot throttled => Sys2Proof.Machine.execDramTempCross c hot throttled s

end Sys2Proof.Machine
end

