-- ==== Sys2Proof/WellFormed.lean ====
section
/-!
DEFINITION. When a command is one that the outside world can form: its lists have the lengths that the spec gives them and
its frames fit their fields. `exec` answers every command, a well-formed one or not.
-/

namespace Sys2Proof

/-- The fields of a frame fit Table 14.3, and its payload is whole words of at most 8,192 bytes. -/
def Frame.wf (f : Frame) : Bool :=
  decide (f.kind < 2 ^ 4) && decide (f.version < 2 ^ 4) && decide (f.vc < 2 ^ 3) && decide (f.dst < 2 ^ 10)
    && decide (f.src < 2 ^ 10) && decide (f.hh < 2 ^ 4) && decide (f.epoch < 2 ^ 4) && decide (f.seq < 2 ^ 12)
    && decide (f.ack < 2 ^ 12) && decide (f.age < 2 ^ 32) && decide (f.arg2 < 2 ^ 64) && decide (f.arg3 < 2 ^ 64)
    && f.payload.length % 8 == 0 && decide (f.payload.length ≤ 8192)

/-- The frame of a command, if it carries one. -/
def Instr.frame? : Instr → Option Frame
  | .helloReceive _ f | .linkUpdateReceive _ f | .transportReceive _ f | .itemFrameReceive _ f
  | .segmentFrameReceive _ f | .announceReceive _ f | .joinReceive _ f | .assignReceive _ f | .mapReceive _ f
  | .mapAckReceive _ f | .activateReceive _ f | .syncReceive _ f _ | .delayReqReceive _ f _ | .delayRespReceive _ f
  | .almDistArmReceive _ f | .almDistCancelReceive _ f | .almDistAckReceive _ f | .almResendReqReceive _ f => some f
  | _ => none

/-- The lists of a command have the lengths that the spec gives them: a sealed request of at most 256 bytes (Table 7.13),
a tile access with the words that it names, a write of at most 4,096 bytes from the host, measurements of all 120
crossings (R114) and all 6 candidates (R128), segments of 8 words (R218), a long packet with the bytes that its word count
names (R233), the 12 vectors of R305, packets of at most 16 data flits (R423), and a Wicket payload of its own length
(Table 18.3). -/
def Instr.sized : Instr → Bool
  | .sealParam _ _ body => decide (body.length ≤ 256)
  | .tileSramAccess _ _ _ write words data => !write || data.length == 8 * words.val
  | .hostMemWrite _ _ _ data _ => decide (data.length ≤ 4096)
  | .dawnMeasureEnd phases occ => phases.length == 120 && occ.length == 120
  | .refmonWindowEnd meas => meas.length == 6
  | .segmentReceive ws => ws.length == 8
  | .csiLongPacket _ _ _ wc payload _ _ => payload.length == wc.toNat
  | .motorDetectDone _ peaks => peaks.length == 12
  | .packetInject _ _ _ _ _ _ flits => decide (flits.length ≤ 16)
  | .wicketWrite hdr data => data.length == (if (hdr.toNat >>> 2) % 2 = 1 then 1 else (hdr.toNat >>> 4) % 16 + 1)
  | _ => true

/-- The command is well formed. -/
def Instr.wf (i : Instr) : Bool :=
  i.sized && (match i.frame? with
    | some f => f.wf
    | none => true)

end Sys2Proof
end

