-- ==== Sys2Proof/Safety.lean ====
section
/-!
DEFINITION. What counts as a safe run, in the terms that claims use.
-/

namespace Sys2Proof

/-- The Weighhouse die's own commands: its supplies, pins, timers, probe and meter line, and the requests that its bridge or
the opener brings it (Chapter 7; R10, R11). No other command changes that die. -/
def Instr.ofWeighhouse (i : Instr) : Bool :=
  match i with
  | .acceptMainPower .. | .bakLowCross .. | .chargerLevelCross .. | .closeTally .. | .commitComplete ..
    | .impedanceProbeDone .. | .impedanceProbeStart .. | .meterEdge .. | .meterIndexEdge .. | .meterWireFault ..
    | .recordSigned .. | .routineCommit .. | .rtcStop .. | .sealNonce .. | .sealNonceExpire .. | .sealOpen ..
    | .sealParam .. | .sealSwitchHigh .. | .sealSwitchLow .. | .vbakCommitCross .. | .vbakFastRise ..
    | .vbakSample .. | .vddwFall .. | .vddwRise .. | .weighhouseHalt .. | .weighhouseStart .. | .whReadIdent ..
    | .whReadKey .. | .whReadLedger .. | .whReadParams .. | .whReadStamp .. | .whReadStatus .. | .whReadTally ..
    | .whStamp .. | .whTempCross .. | .whbBadOp .. | .whbFrameBadCrc .. | .whbResponse .. => true
  | _ => false

end Sys2Proof

namespace Sys2Proof.Machine

/-- The outcome is a next state: the device has neither stopped nor refused. -/
def isNext (o : Host.Outcome State Fault Refusal) : Prop := ∃ t, o = .next t

/-- The tiles are in canonical form, and so is the SRAM of each. -/
def tilesWf (l : List (Nat × TileSt)) : Bool :=
  Tab.wf TileSt.reset l && l.all (fun e => Tab.wf (0 : Byte) e.2.sram)

/-- The memories keep their canonical form: what is listed rises strictly, and no entry of the tiles, of a tile's SRAM or of
a buffer lists a value that an unlisted place reads as. -/
def Memory.wf (s : State) : Bool :=
  Tab.risesFrom 0 s.dram.mem && tilesWf s.tile && Tab.wf (0 : Byte) s.wb.reqBuf && Tab.wf (0 : Byte) s.wb.rspBuf

/-- Memory, the register file, the shadows, the live conditions and the almanac are in canonical form. -/
def State.canon (s : State) : Bool :=
  Tab.risesFrom 0 s.regs && Tab.risesFrom 0 s.shadows && Tab.risesFrom 0 s.live && Tab.risesFrom 0 s.tb.alm && Memory.wf s

/-- An access of `a` to the register at byte offset `off` of page `p` is served: POR is not asserted, no dawn and no soft
reset holds it, the register exists, the requester may reach it (R121, R171 to R174, R187), and it is not a write of the
WHB page by the Wicket (R692). -/
def State.serves (s : State) (a : Acc) (p off : Nat) (write : Bool) : Bool :=
  !s.por && s.judge a p off write == .served && !(write && p == pWhb && a.master == .wicket)

/-- The Weighhouse serves a request with this OP and TAG afresh: it runs on main power, signs nothing, no request waits before
this one, and it is not the last one sent again (R280, R281). -/
def State.whServes (s : State) (op tag : Nat) : Bool :=
  !s.wh.halted && s.wh.src == 0 && (s.wh.signing.isEmpty || s.wh.idBad)
    && (s.wh.turn || s.wh.queue.isEmpty) && (match s.wh.last with
      | some l => !(l.op == op && l.tag == tag)
      | none => true)

/-- The next instruction of tile `t` is the one with this CLASS and OP and it issues as `i`: its context waits for nothing, the
fetch meets no fault, no breakpoint is due, the register fields it uses name registers, and its source registers are ready;
`i` notes when its result will be (R384 to R386, R397, R407). -/
def State.nextIs (s : State) (t cls op : Nat) (uses : Ins → List Nat) (i : Issue) (n : Ins) : Bool :=
  match s.issuing t with
  | none => false
  | some j => i == { j with c := j.c.marked n s.tb.beat } && (match j.fetch with
      | .ok w => insOf w == n
      | .error _ => false) && n.cls == cls && n.op == op && (s.bpAt j).isNone && (uses n).all (fun r => decide (r < 32))
      && j.c.readyFor n s.tb.beat

/-- The port of queue `n` serves an access of `a` to `bytes` bytes at `addr`, with `room` bytes to the end of its window:
nothing holds it, it is not a fabric-form request, its size fits, its household is not in reset and owns the queue (R459, R121, R661). -/
def State.portServes (s : State) (a : Acc) (n addr bytes room : Nat) : Bool :=
  !s.por && s.tb.dawn == 0 && !(a.master == .fabric && a.fab) && addr % 8 == 0 && bytes % 8 == 0 && decide (0 < bytes)
    && decide (bytes ≤ 512) && decide (bytes ≤ room) && !s.hhReset.contains a.hh.val
    && (a.hh == 15 || a.hh.val == s.qOwner n)

/-- The step-item port of a run of the household that owns queue `n` makes the request, and no slot is bound to the queue
(R467, R496). -/
def State.stepPort (s : State) (a : Acc) (n : Nat) : Bool :=
  decide (a.hh.val < 8) && a.hh.val == s.qOwner n && bitAt s.runningMask a.hh && (s.boundTo n).isEmpty

/-- The link's part of a good frame with the expected number: the place in the receive buffer, the next number, the retry
stall and the acknowledgement that the frame carries (R544 to R549). -/
def State.linkIn (s : State) (k : Nat) (f : Frame) : State :=
  let s1 := s.frameIn k f
  let s2 : State := { s1 with fab := { s1.fab with
    next := s1.fab.next + 1, units := s1.fab.units ++ [⟨s1.fab.next, k, f.vc, f.units⟩] } }
  let s3 := s2.setFld (pFabp k) FABP.SEQ_STATUS_EXPECT_RX ((f.seq + 1) % 4096)
  let p := s3.port k
  ((s3.setPort k { p with accepted := true, ackFrom := some (p.ackFrom.getD s.tb.beat) }).retryStall k f).takeAck k f

/-- Port `k` is UP and takes a good sequenced frame: it has the number expected, its channel has room, and its household's
policer lets it pass (R498, R544, R549). -/
def State.linkTakes (s : State) (k : Nat) (f : Frame) : Bool :=
  s.portUp k && f.badReason == 0 && f.seq == (s.frameIn k f).fld (pFabp k) FABP.SEQ_STATUS_EXPECT_RX && decide (f.seq < 4096)
    && decide ((s.frameIn k f).rxHeld k f.vc + f.units ≤ 256) && ((s.linkIn k f).police k f.hh f.size).1

/-- The device once the link has taken a frame and the policer has metered it. -/
def State.linkTaken (s : State) (k : Nat) (f : Frame) : State := ((s.linkIn k f).police k f.hh f.size).2

/-- No command waits, none is held and none waits at a queue port: a step is a tick or what the device does by itself. -/
def State.quiet (s : State) : Prop := s.pending = [] ∧ s.held = [] ∧ s.qwait = []

end Sys2Proof.Machine
end

