-- ==== Sys2Proof/Certificates/Slice0/Obligations.lean ====
section
/-!
DEFINITION. The statements for the provers (OBLIGATIONS.json lists them): what the machine is as a whole, what each command of
every family does where it is served, and what memory and the isolated die keep. None assumes a program.
-/

open Sys2Proof Sys2Proof.Machine

/-- For every command c and every state whose queue begins with c, a step is exec of c on the state with the queue's rest: the
per-command statements reach a run through this one. Rests on: Chapter 5, opcode_table.json. -/
def Obligations.StepRunsFrontCommand : Prop :=
  ∀ (s : State) (c : Instr) (rest : List Instr), step { s with pending := c :: rest } = exec c { s with pending := rest }

/-- The model's own choice (log entry 1): with an empty queue a step runs a command that has waited and need wait no more, the
Weighhouse's requests first, then those at a queue port, then those that a POR, a dawn or a soft reset held; with none it
completes a request of the matrix that may complete, takes what a late read brought, or is one tick, in which a beat
passes and the sidereal count grows by one modulo 2^64 while the counters run and stays while they do not. Rests on: R116,
R121, R187, R281, R447. -/
def Obligations.EmptyQueueStep : Prop :=
  (∀ (s t : State) (c : Instr), s.pending = [] → s.unheld = some (c, t) → step s = exec c t) ∧
  (∀ s : State, s.pending = [] → s.unheld = none →
    (∀ k, s.mxNext (fun r => r.hdr.isSome || r.acc.master == .engine) = some k →
      step s = .next (s.mxComplete State.hhRequest .wicketAccessComplete k)) ∧
    (s.mxNext (fun r => r.hdr.isSome || r.acc.master == .engine) = none →
      (∀ t, s.lateRead = some t → step s = .next t) ∧
      (s.lateRead = none → ∃ t, step s = .next t ∧ t.tb.beat = s.tb.beat + 1 ∧
        t.tb.count = if s.tb.running then (s.tb.count + 1) % 2 ^ 64 else s.tb.count)))

/-- After power-on reset every field of every page holds its reset value and none has a shadow, the one event condition that
holds, in EVT_RAW of the POWER page, is MIRROR_STALE, no DRAM byte has been written, no tile holds SRAM contents, no
command waits or is held, no soft or household reset runs, the sidereal counters do not run and no dawn has ended. Reset
values that the spec does not give are the model's, as the log entries on reset name them (6, 7, 11, 30). Rests on: R9,
R108, R116, R147, R636, R743. -/
def Obligations.ResetState : Prop :=
  (∀ (p : Nat) (f : Fld), State.reset.shadow p f = State.reset.fld p f ∧ State.reset.fld p f =
    if regKey p f.bit = regKey pPower HDR.EVT_RAW_RAW.bit then 2 ^ POWER.evMIRROR_STALE.bit else f.reset) ∧
  (∀ p : Nat, State.reset.liveMask p = if p = pPower then 2 ^ POWER.evMIRROR_STALE.bit else 0) ∧
  State.reset.dram.mem = [] ∧ (∀ t a : Nat, (State.reset.tl t).byte a = 0) ∧
  State.reset.quiet ∧ State.reset.srstBusy = [] ∧ State.reset.hhReset = [] ∧ State.reset.tb.running = false ∧
  State.reset.tb.dawned = false ∧ State.reset.tb.count = 0 ∧ State.reset.sent = [] ∧ State.reset.run = []

/-- The register file, the shadows, the live conditions, the almanac, DRAM, every tile's SRAM and the Weighhouse bridge's
buffers are in canonical form right after reset. Rests on: R9, R743. -/
def Obligations.ResetCanonical : Prop :=
  State.reset.canon = true

/-- From every state in canonical form, whatever command is at the front of the queue, a step that answers a next state
answers one in canonical form: keys rise strictly in the register file, the shadows, the live conditions, the almanac and
DRAM, and no byte of a tile's SRAM or of the bridge's buffers is listed with the value that an unlisted byte reads as. So
equal memories are equal data. Rests on: Chapter 5, Chapter 7, Chapter 10, R743. -/
def Obligations.StepKeepsCanonical : Prop :=
  ∀ s t : State, s.canon = true → step s = .next t → t.canon = true

/-- From every state in canonical form (StepKeepsCanonical says that runs stay in it), no command puts a command into the
queue or takes a second one from it, and none changes what manufacture fixed (the part, the factory ID, the fused tiles):
after a step the queue is its old rest, empty if it was empty, and the silicon is the same. Rests on: R2, Chapter 1. -/
def Obligations.StepConsumesFrontCommand : Prop :=
  ∀ s t : State, s.canon = true → step s = .next t → t.pending = s.pending.tail ∧ t.si = s.si

/-- For every command, with every operand, in every state, exec answers a next state, and so does a step from every state: a
command that the device turns away leaves a next state too. No ordinary data ends a run. Rests on: opcode_table.json,
Chapter 5. -/
def Obligations.EveryCommandCompletes : Prop :=
  (∀ (i : Instr) (s : State), ∃ t, exec i s = .next t) ∧ (∀ s : State, ∃ t, step s = .next t)

/-- From every state in canonical form, every command but those of the Weighhouse die itself (its supplies, pins, timers and
the requests that its bridge or the opener brings it) leaves the whole state of that die unchanged: tallies, ledger,
sealed parameters, seal counter, lengths and real-time clock among it. So every reset class (POR, WARM, DAWN, the resets
of a household, of a page and of the host link), every register access, debug action and tile instruction does, and so
does a step that such a command makes; a step on an empty queue, where the die has no command of its own to go on with and
no waiting command of that die is resumed, leaves it as it is or lets a nanosecond pass on its clock. Rests on: R11. -/
def Obligations.WeighhouseIsolated : Prop :=
  (∀ (i : Instr) (s t : State), s.canon = true → i.ofWeighhouse = false → exec i s = .next t → t.wh = s.wh) ∧
  (∀ (s t : State) (i : Instr) (rest : List Instr), s.canon = true → s.pending = i :: rest → i.ofWeighhouse = false →
    step s = .next t → t.wh = s.wh) ∧
  (∀ s t : State, s.canon = true → s.pending = [] → s.whNext = none → (∀ c u, s.unheld = some (c, u) → c.ofWeighhouse = false) →
    step s = .next t → t.wh = s.wh ∨ t.wh = s.wh.clock) ∧
  (∀ (c : PorCause) (a : Acc) (w : Word) (h : Fin 8) (p : Fin 512) (l : List (Fin 120)) (x : List (Fin 16)) (o : List (Fin 9)),
    ([.porAssert c, .porRelease, .warmReq a w, .warmTakeEffect, .dawnReq a, .dawnDrainCheck l, .dawnPrime, .dawnRelease,
      .dawnMeasureEnd x o, .pageSrst a p, .pageSrstDone p, .hhReset a w, .hhCtrlReset a h w, .vfFlr h,
      .householdResetDone h, .pePerst, .hotReset, .pfFlr, .hostLinkDown] : List Instr).all (fun i => !i.ofWeighhouse) = true)

/-- In every state in canonical form, a served OWNER write by the manager answers a next state in which OWNER of a page of
kind P reads the value written if that is 0 to 7 or 0xF, and its old value for 8 to 0xE; OWNER of any other page keeps its
value. Every other page's OWNER outside the written page's group (logical quad or motor channel) is unchanged. Rests on:
R30, R175, R176. -/
def Obligations.OwnerWriteRule : Prop :=
  ∀ (s : State) (a : Acc) (p : Fin 512) (v : Fin 16) (b : Blk), s.canon = true → s.serves a p 0x030 true = true → a.hh = 15 →
    s.blk p = some b → b ≠ .tile → ∃ t, exec (.ownerWrite a p v) s = .next t ∧
    (b.own = .p → (v.val < 8 ∨ v = 15) → t.owner p = v) ∧
    (b.own = .p → 8 ≤ v.val → v.val ≤ 14 → t.owner p = s.owner p) ∧
    (b.own ≠ .p → t.owner p = s.owner p) ∧
    (∀ q, q ∉ ownerGroup p → t.owner q = s.owner q)

/-- In every state in canonical form, a served write of ERR_CLR answers a next state in which ERR_FIRST and every field of
ERR_COUNT of the page read 0, and in which the next error that the page's block raises is captured as the first: its stamp
in ERR_FIRST, its code in FIRST_CODE, the household of its request in FIRST_HH, and COUNT 1. Rests on: R181. -/
def Obligations.ErrClrRule : Prop :=
  ∀ (s : State) (a : Acc) (p : Fin 512), s.canon = true → s.serves a p 0x00C true = true →
    ∃ t, exec (.errClr a p) s = .next t ∧
      t.fld p HDR.ERR_FIRST_STAMP_LO = 0 ∧ t.fld p HDR.ERR_COUNT_FIRST_CODE = 0 ∧ t.fld p HDR.ERR_COUNT_FIRST_HH = 0 ∧
      t.fld p HDR.ERR_COUNT_COUNT = 0 ∧
      ∀ (e : Ev) (hh : Nat), 0 < e.code → e.code < 256 → hh < 16 → ∀ u, t.raiseBy p e hh = u →
        u.fld p HDR.ERR_FIRST_STAMP_LO = t.tb.count % 2 ^ 32 ∧ u.fld p HDR.ERR_COUNT_FIRST_CODE = e.code ∧
        u.fld p HDR.ERR_COUNT_FIRST_HH = hh ∧ u.fld p HDR.ERR_COUNT_COUNT = 1

/-- In every state in canonical form, a served register write by the manager of AGE_PROMOTE stores its value, or 256 if it is
below that, and of TIMEOUT stores EXP, or the nearer of 12 and 20 if it lies outside; CLAMP_STATUS gains bit 1, or bit 0,
exactly where the value was out of range, and keeps its other bits. A register of another page keeps its value. Rests on:
R190. -/
def Obligations.MatrixClampRule : Prop :=
  ∀ (s : State) (a : Acc) (v : BitVec 64) (c : Nat), s.canon = true → a.hh = 15 → a.fab = false →
    s.fld pMatrix HDR.CLAMP_STATUS_CLAMP = c →
    (s.serves a pMatrix 0x108 true = true → ∃ t,
      exec (.registerWrite a (BitVec.ofNat 48 (regAddr pMatrix 0x108)) false v) s = .next t ∧
      t.fld pMatrix MATRIX.AGE_PROMOTE_BEATS = max 256 (bitsOf v.toNat 15 0) ∧
      t.fld pMatrix HDR.CLAMP_STATUS_CLAMP = (if bitsOf v.toNat 15 0 < 256 then setBit c 1 % 2 ^ 32 else c) ∧
      ∀ (q : Nat) (f : Fld), f.bit < 32768 → q ≠ pMatrix → t.fld q f = s.fld q f) ∧
    (s.serves a pMatrix 0x10C true = true → ∃ t,
      exec (.registerWrite a (BitVec.ofNat 48 (regAddr pMatrix 0x10C)) false v) s = .next t ∧
      t.fld pMatrix MATRIX.TIMEOUT_EXP = max 12 (min 20 (bitsOf v.toNat 4 0)) ∧
      t.fld pMatrix HDR.CLAMP_STATUS_CLAMP =
        (if bitsOf v.toNat 4 0 < 12 ∨ 20 < bitsOf v.toNat 4 0 then setBit c 0 % 2 ^ 32 else c) ∧
      ∀ (q : Nat) (f : Fld), f.bit < 32768 → q ≠ pMatrix → t.fld q f = s.fld q f)

/-- For every page, requester and written value for which the access is served, the six header commands answer the next state
that Chapter 5 gives: EVT_PEND_CLEAR clears the written pending bits and the raw bits among them whose condition does not
hold; EVT_EN_WRITE makes newly enabled raw bits pending and stores EVT_EN; EVT_FORCE is an occurrence of each written
event bit that the page has, which records no error; ERR_CLR zeroes the error capture; SHADOW_DISCARD empties the page's
shadows; PAGE_LOCK_SET by the manager sets LOCK and on the DEBUG page ends OPEN_BOOT. Nothing else changes but the
access's answer. Rests on: R178, R179, R181, R184, R185, R682. -/
def Obligations.HeaderEventWritesComplete : Prop :=
  ∀ (s : State) (a : Acc) (p : Fin 512) (w : Word),
    (s.serves a p 0x01C true = true → exec (.evtPendClear a p w) s =
      .next (((s.answer [0]).clrFld p HDR.EVT_PEND_PEND w.toNat).clrFld p HDR.EVT_RAW_RAW
        (clrMask w.toNat (s.liveMask p)))) ∧
    (s.serves a p 0x018 true = true → exec (.evtEnWrite a p w) s =
      .next (((s.answer [0]).orFld p HDR.EVT_PEND_PEND
        (clrMask w.toNat (s.fld p HDR.EVT_EN_EN) &&& s.fld p HDR.EVT_RAW_RAW)).setFld p HDR.EVT_EN_EN w.toNat)) ∧
    (s.serves a p 0x020 true = true → exec (.evtForce a p w) s =
      .next ((maskBits 32 (w.toNat &&& evtMask p)).foldl (fun t n => t.occur p n) (s.answer [0]))) ∧
    (s.serves a p 0x00C true = true → exec (.errClr a p) s =
      .next (((((s.answer [0]).setFld p HDR.ERR_FIRST_STAMP_LO 0).setFld p HDR.ERR_COUNT_FIRST_CODE 0).setFld p
        HDR.ERR_COUNT_FIRST_HH 0).setFld p HDR.ERR_COUNT_COUNT 0)) ∧
    (s.serves a p 0x034 true = true → exec (.shadowDiscard a p) s =
      .next { s.answer [0] with shadows := s.shadows.filter (fun e => e.1 / 32768 != p.val) }) ∧
    (s.serves a p 0x02C true = true → a.hh = 15 → exec (.pageLockSet a p) s =
      .next (if p.val = pDebug then
          ((s.answer [0]).setFld p HDR.PAGE_LOCK_LOCK 1).setFld pDebug DEBUG.SESSION_OPEN_BOOT 0
        else (s.answer [0]).setFld p HDR.PAGE_LOCK_LOCK 1))

/-- For every page where the access is served: PAGE_ENABLE on a block with EN_CTL changes EN and lets the block begin or rest,
and leaves the page alone where EN already has that value or the block has no EN_CTL; PAGE_SRST on a block with EN_CTL
soft-resets the page, which is then busy, and has no effect on another block; PAGE_SRST_DONE ends it on any later tick and
does nothing on the tick the reset was asked for; a supported BOUNDARY value is stored and a change to IMMEDIATE applies
the shadows, an unsupported one is ignored; OWNER_WRITE by the manager sets OWNER of the whole group of pages of kind P,
aborts the run of a household that loses a tile, and ignores the reserved values 8 to 14 and pages of other kinds. Rests
on: R175, R176, R183, R187, R741. -/
def Obligations.PageControlCompletes : Prop :=
  ∀ (s : State) (a : Acc) (p : Fin 512) (b : Blk), s.blk p = some b →
    (∀ en : Bool, s.serves a p 0x00C true = true → exec (.pageEnable a p en) s =
      .next (if b.enCtl = true ∧ s.on p HDR.PAGE_CTRL_EN ≠ en
        then ((s.answer [0]).setFld p HDR.PAGE_CTRL_EN (b2n en)).blockEnable p else s.answer [0])) ∧
    (s.serves a p 0x00C true = true → b.enCtl = true →
      ∃ t, exec (.pageSrst a p) s = .next t ∧ t = (s.answer [0]).softReset p ∧ p.val ∈ t.srstBusy) ∧
    (s.serves a p 0x00C true = true → b.enCtl = false → exec (.pageSrst a p) s = .next (s.answer [0])) ∧
    (Tab.lookup s.srstAt p ≠ some s.tb.beat → ∃ t, exec (.pageSrstDone p) s = .next t ∧ p.val ∉ t.srstBusy ∧
      t = { s with srstBusy := t.srstBusy } ∧ ∀ q, q ≠ p.val → (q ∈ t.srstBusy ↔ q ∈ s.srstBusy)) ∧
    (Tab.lookup s.srstAt p = some s.tb.beat → exec (.pageSrstDone p) s = .next s) ∧
    (∀ v : Fin 4, s.serves a p 0x034 true = true → exec (.shadowBoundaryWrite a p v) s =
      .next (if s.boundaryOk p v = true then
          (if v = 0 then ((s.answer [0]).setFld p (HDR.boundary p) v).applyPage p
            else (s.answer [0]).setFld p (HDR.boundary p) v)
        else s.answer [0])) ∧
    (∀ v : Fin 16, s.serves a p 0x030 true = true → a.hh = 15 → b.own = .p → (v.val < 8 ∨ v = 15) →
      exec (.ownerWrite a p v) s =
        .next ((ownerGroup p).foldl (fun t q => t.setFld q (HDR.owner q) v)
          (if b = .tile ∧ s.owner p ≠ v.val then (s.answer [0]).tileLost (s.owner p) else s.answer [0]))) ∧
    (∀ v : Fin 16, s.serves a p 0x030 true = true → a.hh = 15 → (b.own ≠ .p ∨ (8 ≤ v.val ∧ v.val ≤ 14)) →
      exec (.ownerWrite a p v) s = .next (s.answer [0]))

/-- Where the access is served: a SID_LO read returns the low half of the count (both halves for a 64-bit read) and latches
the upper half for its master and identity; a SID_HI read returns that latch, or the live upper half where nothing is
latched; LOAD_GO adds a load due 64 st later to those that wait when V is past the count of that tick, which the loads
already waiting may set, nothing runs and no entry is armed at or before V, and otherwise records the lowest refusal and
raises LOAD_REFUSED; the first waiting load replaces the count at its tick, which no refill joins, or, taken late, with
the count it would have reached; DAWN_REQ starts draining, which ends 2,048 ticks later, or records its refusal; each
later step does nothing before its tick: the drain check moves on or fails with code 1 at the lowest non-empty crossing;
priming halts the islands and fills every crossing with 4 entries; 1,024 ticks on; release resumes them with the count (0
the first time, when the axis inputs begin) and records it, and every outage-held queue, port and PWM period starts anew;
the end of measuring completes, retries with shifted islands, or fails with code 2 after attempt 3; PLL_LOCK starts the
automatic dawn where no counter runs. Rests on: R114, R117, R119, R120, R121, R122, R145, R147, R581, R589. -/
def Obligations.CounterAndDawnComplete : Prop :=
  (∀ (s : State) (a : Acc) (both : Bool) (via : Option (Fin 8)),
    s.serves a (timePage via) 0x100 false = true → exec (.sidLoRead a both via) s =
      .next { s with
        tb := { s.tb with latches := Tab.insert s.tb.latches (16 * a.master.id + timeIdent a via) (s.tb.count / 2 ^ 32) }
        resp := some ⟨.ok, [if both = true then s.tb.count else s.tb.count % 2 ^ 32]⟩ }) ∧
  (∀ (s : State) (a : Acc) (via : Option (Fin 8)), s.serves a (timePage via) 0x104 false = true →
    exec (.sidHiRead a via) s = .next { s with
      resp := some ⟨.ok, [(Tab.lookup s.tb.latches (16 * a.master.id + timeIdent a via)).getD (s.tb.count / 2 ^ 32)]⟩ }) ∧
  (∀ (s : State) (a : Acc) (v : Nat), s.serves a pTime 0x110 true = true →
    s.pair pTime TIME.LOAD_LO_V_LO TIME.LOAD_HI_V_HI = v →
    (s.countAt (s.tb.beat + 64) < v → s.motorEnabled = false → s.runActive = false → s.outputArmed = false →
      s.axisEnabled = false → s.anyArmed (fun m => decide (m ≤ v)) = false →
      exec (.loadGo a) s = .next { s with
        tb := { s.tb with load := s.tb.load ++ [(v, s.tb.beat + 64)] }, resp := some ⟨.ok, [0]⟩ }) ∧
    (v ≤ s.countAt (s.tb.beat + 64) → exec (.loadGo a) s =
      .next (((s.answer [0]).setFld pTime TIME.LOAD_CTRL_LOAD_RESULT 2).raiseBy pTime TIME.evLOAD_REFUSED 15))) ∧
  (∀ (s : State) (v b : Nat) (rest : List (Nat × Nat)), s.tb.load = (v, b) :: rest →
    (b ≤ s.tb.beat → exec .counterLoadApply s =
      .next (({ s with tb := { s.tb with count := cadd v (s.tb.beat - b), load := rest } } : State).setFld pTime
        TIME.LOAD_CTRL_LOAD_RESULT 1).skipRefills.voidExchange.constLoaded) ∧
    (s.tb.beat < b → exec .counterLoadApply s = .next s)) ∧
  (∀ (s : State) (a : Acc), s.serves a pDawn 0x100 true = true →
    (s.dawnRefusal = 0 → exec (.dawnReq a) s = .next (({ s.answer [0] with
      tb := { s.tb with dawn := 1, dawnAuto := false, dawnAt := s.tb.beat + 2048 } } : State).setFld pDawn
        DAWN.DAWN_STATUS_STATE 1)) ∧
    (s.dawnRefusal ≠ 0 → exec (.dawnReq a) s = .next (((s.answer [0]).setFld pDawn DAWN.DAWN_STATUS_REFUSE_CODE
      s.dawnRefusal).raiseBy pDawn DAWN.evDAWN_REFUSED 15))) ∧
  (∀ s : State, s.tb.beat < s.tb.dawnAt → ∀ (xs : List (Fin 120)) ph occ, exec (.dawnDrainCheck xs) s = .next s ∧
    exec .dawnPrime s = .next s ∧ exec .dawnRelease s = .next s ∧ exec (.dawnMeasureEnd ph occ) s = .next s) ∧
  (∀ s : State, s.dawnDue 1 = true → exec (.dawnDrainCheck []) s =
    .next ((({ s with tb := { s.tb with dawn := 2 } } : State).setFld pDawn DAWN.DAWN_STATUS_STATE 2).setFld pDawn
      DAWN.DAWN_STATUS_ATTEMPTS 0)) ∧
  (∀ (s : State) (x : Fin 120) (xs : List (Fin 120)), s.dawnDue 1 = true →
    ∃ (m : Fin 120), m ∈ x :: xs ∧ (∀ y ∈ x :: xs, m ≤ y) ∧
      exec (.dawnDrainCheck (x :: xs)) s = .next (s.dawnFail 1 m)) ∧
  (∀ s : State, s.dawnDue 2 = true → exec .dawnPrime s =
    .next (({ s with tb := { s.tb with dawn := 3, haltedIslands := true, dawnAt := s.tb.dawnAt + 1024,
                                       xocc := (List.range 120).map (fun i => (i, 4)) } } : State).setFld pDawn DAWN.DAWN_STATUS_STATE 3)) ∧
  (∀ (s : State) (c : Nat), s.dawnDue 3 = true → (if s.tb.running = true then s.tb.count else 0) = c →
    exec .dawnRelease s = .next (((({ (if s.tb.running = true then s else s.axisBegin) with
      tb := { s.tb with dawn := 4, haltedIslands := false, running := true, count := c, dawnAt := s.tb.dawnAt + 256 } } :
        State).nocDawn.portsDawn.voidExchange.alignAll).setPair pDawn DAWN.REL_LO_REL_LO DAWN.REL_HI_REL_HI c).setFld pDawn
        DAWN.DAWN_STATUS_STATE 4)) ∧
  (∀ (s u : State) (ph : List (Fin 16)) (occ : List (Fin 9)), s.dawnDue 4 = true → s.storeXings ph occ = u →
    (marginal ph = [] → exec (.dawnMeasureEnd ph occ) s =
      .next (((({ u with tb := { u.tb with dawn := 0, dawned := true } } : State).setFld pDawn DAWN.DAWN_STATUS_STATE
        5).setFld pDawn DAWN.DAWN_STATUS_UNALIGNED 0).incr pDawn DAWN.DAWN_COUNT_COUNT |>.raise pDawn DAWN.evDAWN_DONE)) ∧
    (∀ x xs, marginal ph = x :: xs →
      (s.fld pDawn DAWN.DAWN_STATUS_ATTEMPTS < 3 → exec (.dawnMeasureEnd ph occ) s =
        .next ((({ u with tb := { u.tb with dawn := 2, shift := shiftIslands (x :: xs) u.tb.shift } } : State).setFld pDawn
          DAWN.DAWN_STATUS_STATE 2).setFld pDawn DAWN.DAWN_STATUS_ATTEMPTS (s.fld pDawn DAWN.DAWN_STATUS_ATTEMPTS + 1)
          |>.raise pDawn DAWN.evDAWN_RETRY)) ∧
      (3 ≤ s.fld pDawn DAWN.DAWN_STATUS_ATTEMPTS → exec (.dawnMeasureEnd ph occ) s =
        .next (((u.dawnFail 2 x).setFld pDawn DAWN.DAWN_STATUS_UNALIGNED 1).incr pDawn DAWN.DAWN_COUNT_COUNT)))) ∧
  (∀ s : State,
    (s.tb.running = true ∨ s.tb.dawned = true ∨ s.tb.dawn ≠ 0 → exec .pllLock s = .next (s.setFld pRefmon REFMON.STATUS_PLL_LOCK 1)) ∧
    (s.tb.running = false → s.tb.dawned = false → s.tb.dawn = 0 → exec .pllLock s =
      .next (({ s.setFld pRefmon REFMON.STATUS_PLL_LOCK 1 with
        tb := { s.tb with dawn := 2, dawnAuto := true, dawnAt := s.tb.beat } } : State).setFld pDawn DAWN.DAWN_STATUS_STATE 2
        |>.setFld pDawn DAWN.DAWN_STATUS_ATTEMPTS 0)))

/-- For the entry k that ALM_SEL of the page selects (through an HH page, an entry of its household), where software may
change it and the device is not a constellation root: a field write on an entry that is not armed stores the field and
frees the entry, on an armed one it raises ALM_LOCKED; ARM makes a good entry ARMED if its meridian is 256 st or more
ahead, MISSED with MERIDIAN_PAST if it is nearer and LATE is 0, and ARMED to apply on the next tick with MERIDIAN_LATE if
LATE is not 0, raises ALM_BAD for a bad one and leaves an armed one alone; CANCEL makes an ARMED entry CANCELLED and
raises ALM_LOCKED on one that is LOCKED or reaches its locking tick. From 256 st before its meridian an ARMED entry locks
and is offered to the nodes it acts on. An armed entry whose tick has come applies, after the lower entries of its
meridian: DENIED where it acts on what its owner does not own, else DONE with its action, else NO_TARGET, each with the
count in ALM_APPLIED. Rests on: R123, R124, R125, R126, R127, R149, R597, R658. -/
def Obligations.AlmanacCommandsComplete : Prop :=
  (∀ (s : State) (a : Acc) (via : Option (Fin 8)) (k : Nat), s.almSel via = k → s.almMine k = true →
    s.constRoot = false → (∀ h, via = some h → (s.almEntry k).owner = h.val) →
    (∀ (reg : Fin 4) (w : Word), s.serves a (timePage via) (if via.isSome then 0x10C + 4 * reg.val else 0x118 + 4 * reg.val)
        true = true → exec (.almFieldWrite a via reg w) s =
      .next (if (s.almEntry k).armed = true then (s.answer [0]).raiseBy pTime TIME.evALM_LOCKED a.hh
        else (s.answer [0]).setAlm k ({ s.almEntry k with st := 0, now := none }.write via.isSome reg w.toNat))) ∧
    (s.serves a (timePage via) (if via.isSome then 0x11C else 0x128) true = true →
      ((s.almEntry k).armed = true → exec (.almArm a via) s = .next (s.answer [0])) ∧
      ((s.almEntry k).armed = false →
        ((s.almEntry k).bad = true → exec (.almArm a via) s =
          .next ((s.answer [0]).raiseBy pTime TIME.evALM_BAD a.hh)) ∧
        ((s.almEntry k).bad = false → s.tb.count + 256 ≤ (s.almEntry k).mer → exec (.almArm a via) s =
          .next ((s.answer [0]).setAlm k { s.almEntry k with st := 1, now := none })) ∧
        ((s.almEntry k).bad = false → (s.almEntry k).mer < s.tb.count + 256 → (s.almEntry k).late = 0 →
          exec (.almArm a via) s = .next (((s.answer [0]).setAlm k { s.almEntry k with st := 4, applied := s.tb.count
            }).raiseBy pTime TIME.evMERIDIAN_PAST a.hh)) ∧
        ((s.almEntry k).bad = false → (s.almEntry k).mer < s.tb.count + 256 → (s.almEntry k).late ≠ 0 →
          exec (.almArm a via) s = .next (((s.answer [0]).setAlm k { s.almEntry k with st := 1, now := some (s.tb.beat + 1)
            }).raiseBy pTime TIME.evMERIDIAN_LATE a.hh))) ∧
      ((s.almEntry k).st = 1 → s.almLocked (s.almEntry k) = false → exec (.almCancel a via) s =
        .next ((s.answer [0]).setAlm k { s.almEntry k with st := 6, now := none })) ∧
      (s.almLocked (s.almEntry k) = true → exec (.almCancel a via) s =
        .next ((s.answer [0]).raiseBy pTime TIME.evALM_LOCKED a.hh)))) ∧
  (∀ (s : State) (k : Fin 64), (s.almEntry k).st = 1 → (s.almEntry k).now = none →
    (s.almEntry k).mer ≤ s.tb.count + 256 → exec (.almLock k) s =
    .next ((s.almNodes (s.almEntry k)).foldl (fun t n => t.offerEntry k (s.almEntry k) n)
      (s.setAlm k { s.almEntry k with st := 2 }))) ∧
  (∀ (s : State) (k : Fin 64) (e : AlmEntry), s.almEntry k = e → e.armed = true →
    ((∃ b, e.now = some b ∧ b ≤ s.tb.beat) ∨ (e.now = none ∧ e.mer ≤ s.tb.count)) → s.almBehind k e = false →
    (e.owner ≠ 15 → s.almOwned e = false → exec (.almApply k) s =
      .next (((s.setAlm k { e with st := 5, applied := s.tb.count, now := none }).almDenial e.owner).raiseBy pTime
        TIME.evALM_DENIED e.owner)) ∧
    (e.owner = 15 ∨ s.almOwned e = true →
      (∀ t, (s.setAlm k { e with st := 3, applied := s.tb.count, now := none }).almAct e = some t →
        exec (.almApply k) s = .next t) ∧
      ((s.setAlm k { e with st := 3, applied := s.tb.count, now := none }).almAct e = none →
        exec (.almApply k) s = .next ((s.setAlm k { e with st := 7, applied := s.tb.count, now := none }).raise pTime
          TIME.evALM_NO_TARGET))))

/-- A window end stores what it measured of every candidate, stores the estimate E with UNCHECKED and MAJ_OK, counts the
window, and applies the rules of REF_WARN and REF_LIMIT unless the window is the discarded one after a switch or a loss,
whose mark it clears, a limit that stands acting on. REF_LOSS and a PLL that unlocks enter holdover, unless no reference
is selected or, for the PLL, holdover runs already; holdover marks the reference suspect, clears the hold count and
discards the next window; fallback, before any lock, takes XTAL, then REFIN, then the oscillator with NO_REF and its dawn;
the end of a slew clears SLEWING. Rests on: R128, R130, R131, R137, R138, R140, R142, R144, R146. -/
def Obligations.ReferenceMonitorCompletes : Prop :=
  (∀ (s u : State) (ms : List CandMeas) (sel m : Nat) (l : List CandView) (E : Int) (un ok : Bool),
    s.fld pRefmon REFMON.REF_ACTIVE_SOURCE = sel → s.fld pRefmon REFMON.THRESH_WARN = m →
    estList (s.candViews ms) sel = l → estimate l sel m = (E, un, ok) →
    (let t := ((s.candViews ms).foldl (fun t v => t.candLost sel v) s)
     let c := (s.candViews ms).foldl (fun t v => t.storeCand (decide (3 ≤ l.length) && l.contains v &&
        decide ((v.d - medianOf l).natAbs < m)) v) t
     let w := (((c.set16 pRefmon REFMON.ESTIMATE_E E).incr pRefmon REFMON.ESTIMATE_WINDOW_SEQ).setFld pRefmon
        REFMON.STATUS_UNCHECKED (b2n un)).setFld pRefmon REFMON.STATUS_MAJ_OK (b2n ok)
     let x := if w.on pRefmon REFMON.STATUS_HOLDOVER then w.incr pRefmon REFMON.HOLD_WINDOWS_COUNT else w
     { x with cst := { x.cst with lastO := x.sfld pConst CONST.OFFSET_O, lastSteer := x.cst.steer },
               tb := { x.tb with wasValid := (s.candViews ms).foldl (fun n v => if v.valid then setBit n v.code else n) 0
                                 limAt := none } }) = u →
    exec (.refmonWindowEnd ms) s =
      .next (if u.tb.discard = true then
          (if u.on pRefmon REFMON.STATUS_REF_LIMIT then ({ u with tb := { u.tb with discard := false } } : State).stillAtLimit
          else { u with tb := { u.tb with discard := false } })
        else u.warnRules E.natAbs ok)) ∧
  (∀ s : State, s.fld pRefmon REFMON.REF_ACTIVE_SOURCE ≠ 0xE → s.on pRefmon REFMON.STATUS_HOLDOVER = false →
    exec .refLoss s = .next ((((({ s with tb := { s.tb with discard := true } } : State).setFld pRefmon
      REFMON.STATUS_HOLDOVER 1).setFld pRefmon REFMON.STATUS_REF_SUSPECT 1).setFld pRefmon REFMON.HOLD_WINDOWS_COUNT
      0).raise pRefmon REFMON.evREF_LOSS) ∧
    exec .pllUnlock s = .next (((s.setFld pRefmon REFMON.STATUS_PLL_LOCK 0).raise pRefmon REFMON.evPLL_UNLOCK).holdover)) ∧
  (∀ s : State,
    (s.fld pRefmon REFMON.REF_ACTIVE_SOURCE = 0xE → exec .refLoss s = .next s) ∧
    (s.fld pRefmon REFMON.REF_ACTIVE_SOURCE ≠ 0xE → s.on pRefmon REFMON.STATUS_HOLDOVER = true → exec .refLoss s =
      .next ((s.setFld pRefmon REFMON.STATUS_REF_SUSPECT 1).raise pRefmon REFMON.evREF_LOSS)) ∧
    (s.on pRefmon REFMON.STATUS_HOLDOVER = true ∨ s.fld pRefmon REFMON.REF_ACTIVE_SOURCE = 0xE →
      exec .pllUnlock s = .next (s.setFld pRefmon REFMON.STATUS_PLL_LOCK 0))) ∧
  (∀ s : State,
    (s.on pRefmon REFMON.STATUS_PLL_LOCK = true ∨ s.tb.running = true ∨ 3 ≤ s.tb.fallback →
      exec .refFallback s = .next s) ∧
    (s.on pRefmon REFMON.STATUS_PLL_LOCK = false → s.tb.running = false →
      (s.tb.fallback = 0 → exec .refFallback s = .next (((({ s with tb := { s.tb with fallback := 1 } } : State).setFld
        pRefmon REFMON.REF_ACTIVE_SOURCE 0).setFld pRefmon REFMON.STATUS_FALLBACK 1).raise pRefmon
        REFMON.evREF_FALLBACK)) ∧
      (s.tb.fallback = 1 → exec .refFallback s = .next (({ s with tb := { s.tb with fallback := 2 } } : State).setFld
        pRefmon REFMON.REF_ACTIVE_SOURCE 1)) ∧
      (s.tb.fallback = 2 → exec .refFallback s =
        .next (((({ s with tb := { s.tb with fallback := 3 } } : State).setFld pRefmon REFMON.REF_ACTIVE_SOURCE
          0xE).setFld pRefmon REFMON.STATUS_NO_REF 1).condition pRefmon REFMON.evNO_REF true).autoDawn))) ∧
  (∀ s : State, exec .slewComplete s = .next (s.setFld pRefmon REFMON.STATUS_SLEWING 0))

/-- Enabling a channel through AX_CFG with a mode of Table 6.3 writes the register and starts the channel's measures at the
present count. A change of a channel's balls is sensed and, once it has stood for FILT + 1 ticks of the running counter,
accepted; until then and before the first dawn's end nothing more happens. On accepted levels of A and B an enabled
channel takes them and: counts the decoded edge (negated by INV_DIR), stamps it and makes the checks of R209, R211 and
R212; or counts and raises QUAD_ERR where both changed in X4, leaving the count alone; or does no more where the mode
counts no edge; a channel that is off takes the levels only. The assertion of Z with A and B as ZGATE wants is a qualified
index edge; another change of Z takes the level only. An open wire sets its live and sticky bits once and raises
OPEN_WIRE; its end clears the live bit. Rests on: R203, R204, R205, R206, R207, R208, R209, R210, R211, R212. -/
def Obligations.AxisCommandsComplete : Prop :=
  (∀ (s : State) (a : Acc) (k : Fin 6) (w : Word), s.serves a pAxis (0x200 + 0x40 * k.val) true = true →
    (w.toNat / 2 ^ 28) % 8 < 5 → exec (.axisEnable a k w) s =
      .next (let t := (s.answer [0]).plainWrite a pAxis (0x200 + 0x40 * k.val) w.toNat
        if s.on pAxis (AXIS.CFG_EN.at k) = false ∧ t.on pAxis (AXIS.CFG_EN.at k) = true then t.axisStart k else t)) ∧
  (∀ (s : State) (k : Fin 6) (la lb lz : Bool),
    exec (.axisEdge k la lb) s =
      .next ((s.setAxis k { s.axis k with pin := putBit (putBit (s.axis k).pin 0 la) 1 lb }).axisFilter k) ∧
    exec (.axisIndexEdge k lz) s =
      .next ((s.setAxis k { s.axis k with pin := putBit (s.axis k).pin 2 lz }).axisFilter k)) ∧
  (∀ (u s t : State) (k : Fin 6) (a b z : Bool) (m g n : Nat), u.axisSense k = s → s.fld pAxis (AXIS.CFG_FILT.at k) = n →
    (if (s.axis k).atA + n ≤ s.tb.beat then bitAt (s.axis k).sense 0 else (s.axis k).a) = a →
    (if (s.axis k).atB + n ≤ s.tb.beat then bitAt (s.axis k).sense 1 else (s.axis k).b) = b →
    (if (s.axis k).atZ + n ≤ s.tb.beat then bitAt (s.axis k).sense 2 else (s.axis k).z) = z →
    (s.tb.running = false → u.axisFilter k = s) ∧
    (s.tb.running = true → (s.axis k).a = a → (s.axis k).b = b → (s.axis k).z = z → u.axisFilter k = s) ∧
    (s.tb.running = true → ((s.axis k).a ≠ a ∨ (s.axis k).b ≠ b) → (s.axis k).z ≠ z →
      u.axisFilter k = (s.axisEdge k a b).axisIndex k z) ∧
    (s.tb.running = true → ((s.axis k).a ≠ a ∨ (s.axis k).b ≠ b) → (s.axis k).z = z →
      s.fld pAxis (AXIS.CFG_MODE.at k) = m → s.setAxis k { s.axis k with a := a, b := b } = t →
      (s.on pAxis (AXIS.CFG_EN.at k) = false → u.axisFilter k = t) ∧
      (s.on pAxis (AXIS.CFG_EN.at k) = true → m = 0 → (s.axis k).a ≠ a → (s.axis k).b ≠ b →
        u.axisFilter k = ((t.bump pAxis (AXIS.ERRCNT_QUAD.at k)).axisSticky k 7).raise pAxis AXIS.evQUAD_ERR) ∧
      (s.on pAxis (AXIS.CFG_EN.at k) = true → bothChanged m (s.axis k).a (s.axis k).b a b = false →
        u.axisFilter k = if edgeDelta m (s.axis k).a (s.axis k).b a b = 0 then t
          else t.axisCounted k (edgeDelta m (s.axis k).a (s.axis k).b a b))) ∧
    (s.tb.running = true → (s.axis k).a = a → (s.axis k).b = b → (s.axis k).z ≠ z →
      s.setAxis k { s.axis k with z := z } = t → s.fld pAxis (AXIS.CFG_ZGATE.at k) = g →
      (z = false ∨ s.on pAxis (AXIS.CFG_EN.at k) = false → u.axisFilter k = t) ∧
      (z = true → s.on pAxis (AXIS.CFG_EN.at k) = true → u.axisFilter k =
        (((if s.on pAxis (AXIS.CFG_ZGATE_EN.at k) = false ∨ ((s.axis k).a = bitAt g 1 ∧ (s.axis k).b = bitAt g 0)
          then (t.zgateCheck k).indexEdge k else t.zgateCheck k).missingCheck k).showAxisLive k)))) ∧
  (∀ (s : State) (k : Fin 6) (sig : Fin 3),
    (bitAt (s.axis k).openLive sig = false → exec (.axisOpenWire k sig) s =
      .next ((((s.setAxis k { s.axis k with openLive := setBit (s.axis k).openLive sig }).axisSticky k sig).raise pAxis
        AXIS.evOPEN_WIRE).showAxisLive k)) ∧
    exec (.openWireClear k sig) s =
      .next ((s.setAxis k { s.axis k with openLive := clrBit (s.axis k).openLive sig }).showAxisLive k))

/-- On every 4,096th st an enabled master keeps a new sample, forgetting those older than 524,288 st and all but the 32
newest, and keeps none for a repeated stamp or a snap on the tick; on every 65,536th st a fit forms a segment with the
next sequence number, and publishing on a later tick sends it and holds it like a received one. A follower accepts a
segment of its master, with good CRC, type and version, that begins in the future after every held one; with a bad CRC it
counts and raises EPH_BAD, with a T0 not in the future EPH_LATE, from another device EPH_FOREIGN. The earliest pending
segment whose T0 has come takes force; the segment in force expires when its VALID_LEN is over and no pending one follows
on, which raises EPH_EXPIRED. Rests on: R213, R214, R215, R217, R220, R221, R238, R242. -/
def Obligations.EphemerisCommandsComplete : Prop :=
  (∀ (s : State) (k st : Nat), s.ephMaster = true → s.tb.count % 4096 = 0 → s.fld pEphem EPHEM.SOURCE_AXIS = k →
    s.pair pAxis (AXIS.EDGE_T_LO_STAMP.at k) (AXIS.EDGE_T_HI_STAMP.at k) = st →
    exec .ephemSample s = .next (s.setEph { s.ln.eph with
      samples := if s.ln.eph.prev = some st ∨ s.ln.eph.snapAt = some s.tb.count
        then s.ln.eph.samples.filter (fun x => decide (s.tb.count ≤ x.1 + 524288))
        else (((st, s.sourcePos) :: s.ln.eph.samples).filter (fun x => decide (s.tb.count ≤ x.1 + 524288))).take 32
      prev := some st })) ∧
  (∀ s : State, s.ephMaster = true → s.tb.count % 65536 = 0 →
    s.ln.eph.formed.any (fun g => g.word 6 == s.tb.count) = false → exec .ephemFit s = .next ((s.setEph { s.ln.eph with
    formed := some s.formSegment, seq := (s.ln.eph.seq + 1) % 2 ^ 16, restart := false }).drew 4)) ∧
  (∀ (s : State) (g : Seg), s.ln.eph.formed = some g → g.word 6 ≠ s.tb.count →
    ∀ u : State, (s.setEph { s.ln.eph with formed := none }).acceptSegment g = u →
    ∀ f : Frame, { Frame.blank with
      kind := 3, vc := 5, bcast := true, hh := 0xF, arg2 := 0xC, payload := g.words.flatMap (leBytes 8)
      dst := u.fld pConst CONST.CONST_STATUS_ROOT_DEV, src := u.devNum, epoch := u.activeEpoch % 16 } = f →
    exec .ephemPublish s = .next (if u.numValid = false then u
      else if u.on pDisc DISC.DISC_STATUS_IS_ROOT = true then
        (u.childPorts.filter (bitAt (u.fld pConst CONST.EPH_PORT_EN_EN))).foldl (fun t p => t.toPort p 4 none f (t.downHop p)) u
      else u.sendRouted f)) ∧
  (∀ (s : State) (ws : List (BitVec 64)) (g : Seg), g.words = ws.map BitVec.toNat → s.enabled pEphem = true →
    s.fld pEphem EPHEM.ROLE_ROLE = 2 →
    (g.crc ≠ segCrc g.words → exec (.segmentReceive ws) s =
      .next ((s.bump pEphem EPHEM.COUNTS_BAD).raise pEphem EPHEM.evEPH_BAD)) ∧
    (g.crc = segCrc g.words → g.type = 0xE5 → g.version = 1 →
      (g.dev ≠ s.fld pEphem EPHEM.SOURCE_MASTER_DEV → exec (.segmentReceive ws) s =
        .next (s.raise pEphem EPHEM.evEPH_FOREIGN)) ∧
      (g.dev = s.fld pEphem EPHEM.SOURCE_MASTER_DEV → g.t0 ≤ s.tb.count → exec (.segmentReceive ws) s =
        .next ((s.bump pEphem EPHEM.COUNTS_LATE).raise pEphem EPHEM.evEPH_LATE)) ∧
      (g.dev = s.fld pEphem EPHEM.SOURCE_MASTER_DEV → s.tb.count < g.t0 →
        (∀ x ∈ s.ln.eph.cur.toList ++ s.ln.eph.pend, x.t0 < g.t0) →
        exec (.segmentReceive ws) s = .next (s.acceptSegment g)))) ∧
  (∀ (s : State) (g : Seg) (rest : List Seg), s.ln.eph.pend = g :: rest → g.t0 ≤ s.tb.count →
    exec .segmentTakeForce s = .next (s.takeForce g rest)) ∧
  (∀ (s : State) (g : Seg), s.ln.eph.cur = some g → g.t0 + g.validLen ≤ s.tb.count →
    (∀ x, s.ln.eph.pend.head? = some x → g.t0 + g.validLen < x.t0) → exec .segmentExpire s =
    .next ((((s.setEph { s.ln.eph with cur := none }).showSegs).showEphStatus).raise pEphem EPHEM.evEPH_EXPIRED))

/-- TRIG_ARM and STB_ARM (and the DISARM registers) act on the schedules of the mask; a household's that names a schedule
whose output it does not own is a denial as a whole (log entry 68). After a segment that is due has taken force, an armed
trigger, or an armed strobe that is not linked, that has a position and stands at or past NEXT fires if its output is idle
(a strobe: and its duty is not cut or spent): the pulse starts, a trigger records its stamp, FIRED counts, NEXT advances,
COUNT may end the schedule, and further positions passed are overruns; with a busy output every position passed is an
overrun; before NEXT nothing changes. A linked strobe takes the first of its due ticks: it fires if idle and not cut, else
counts and raises an overrun. The end of a pulse makes the output idle, a strobe's adding its ticks to ON_TIME; a duty
cut, when the window's ticks are spent, ends the pulse, and raises STB_DUTY; a new window of 1,048,576 st clears ON_TIME
and the cut of every strobe. A shorted output and its end and SAFE set their registers and conditions. Rests on: R222,
R223, R224, R225, R226, R228, R230, R238, R242, R245. -/
def Obligations.ScheduleCommandsComplete : Prop :=
  (∀ (s : State) (a : Acc) (w : Word),
    (s.serves a pTrig 0x108 true = true → exec (.trigArmNow a w) s = .next (if s.maskMine a.hh false w.toNat = true
      then (maskBits 32 w.toNat).foldl (fun t k => t.arm (trigF k)) (s.answer [0])
      else (s.answer [0]).denial a (regAddr pTrig 0x108) true)) ∧
    (s.serves a pTrig 0x10C true = true → exec (.trigDisarmNow a w) s = .next (if s.maskMine a.hh false w.toNat = true
      then (maskBits 32 w.toNat).foldl (fun t k => t.disarm (trigF k)) (s.answer [0])
      else (s.answer [0]).denial a (regAddr pTrig 0x10C) true)) ∧
    (s.serves a pStrobe 0x104 true = true → exec (.stbArmNow a w) s = .next (if s.maskMine a.hh true w.toNat = true
      then (maskBits 8 w.toNat).foldl (fun t k => t.arm (stbF k)) (s.answer [0])
      else (s.answer [0]).denial a (regAddr pStrobe 0x104) true)) ∧
    (s.serves a pStrobe 0x108 true = true → exec (.stbDisarmNow a w) s = .next (if s.maskMine a.hh true w.toNat = true
      then (maskBits 8 w.toNat).foldl (fun t k => t.disarm (stbF k)) (s.answer [0])
      else (s.answer [0]).denial a (regAddr pStrobe 0x108) true)) ∧
    (s.serves a pLine 0x100 true = true → exec (.outSafe a w) s =
      .next (((s.answer [0]).plainWrite a pLine 0x100 w.toNat).condition pLine LINE.evOUT_SAFE (bitAt w.toNat 0)))) ∧
  (∀ (s u v : State) (f : SchedF) (i : Instr) (p : Int) (n : Nat), s.forceDue = u →
    ((∃ k : Fin 32, i = .trigFire k ∧ f = trigF k) ∨
      (∃ k : Fin 8, i = .strobeFire k ∧ f = stbF k ∧ s.isLinked f = false)) →
    u.isArmed f = true → u.isLinked f = false → u.schedAt f = some p → u.passed f p = n → u.dutyTest f = v →
    (n = 0 → exec i s = .next u) ∧
    (n ≠ 0 → v.outBusy f = true → exec i s = .next (v.overrun f n)) ∧
    (∀ w : State, n ≠ 0 → v.outBusy f = false →
      (((if f.strobe then v.startPulse f else (v.startPulse f).recordStamp f.k).incr f.page f.fired).advance f
        1).countDone f = w →
      exec i s = .next (if w.isArmed f = true then w.overrun f (n - 1) else w))) ∧
  (∀ (s v t : State) (k : Fin 8) (d : Nat) (ds : List Nat), s.isArmed (stbF k) = true →
    s.isLinked (stbF k) = true → (s.sched (stbF k)).linked = d :: ds → d ≤ s.tb.beat → s.dutyTest (stbF k) = v →
    v.setSched (stbF k) { v.sched (stbF k) with linked := (v.sched (stbF k)).linked.drop 1 } = t →
    (v.outBusy (stbF k) = true → exec (.strobeFire k) s =
      .next (((t.bump pStrobe (stbF k).overruns).orFld pStrobe (stbF k).sticky 1).raise pStrobe (stbF k).evOverrun)) ∧
    (∀ u : State, v.outBusy (stbF k) = false → (t.startPulse (stbF k)).incr pStrobe (stbF k).fired = u →
      exec (.strobeFire k) s =
        .next (if u.fld pStrobe (stbF k).count ≠ 0 ∧ u.fld pStrobe (stbF k).fired = u.fld pStrobe (stbF k).count
          then ((u.disarm (stbF k)).orFld pStrobe (stbF k).sticky 8).raise pStrobe (stbF k).evDone else u))) ∧
  (∀ (s : State) (o : Fin 40),
    (o.val < 32 → (s.sched (trigF o)).idleAt ≤ s.tb.beat + 2 → exec (.trigPulseEnd o) s =
      .next (s.setSched (trigF o) { s.sched (trigF o) with pulse := false })) ∧
    (∀ k, o.val = 32 + k → (s.sched (stbF k)).idleAt ≤ s.tb.beat + 2 → exec (.trigPulseEnd o) s = .next (s.closeOn k))) ∧
  (∀ (s u : State) (k : Fin 8), (s.sched (stbF k)).pulse = true → s.tb.beat + 2 < (s.sched (stbF k)).idleAt →
    s.dutySpent k = true → s.stopPulse k = u → exec (.strobeDutyCut k) s =
    .next (((u.setSched (stbF k) { u.sched (stbF k) with cut := true }).orFld pStrobe (stbF k).sticky 16).raise
      pStrobe STROBE.evSTB_DUTY)) ∧
  (∀ s : State, exec .strobeDutyWindow s = .next ((List.range 8).foldl (fun t k =>
    if (t.sched (stbF k)).win = t.tb.count / 1048576 then t
    else (t.setSched (stbF k) { t.sched (stbF k) with
        win := t.tb.count / 1048576, cut := false
        from_ := max (t.sched (stbF k)).from_ (t.tb.beat - t.tb.count % 1048576) }).setFld pStrobe
      (STROBE.ON_TIME_ON.at k) 0) s)) ∧
  (∀ (s t u : State) (o : Fin 24) (on : Bool) (f : Fld) (e : Ev) (i : Nat),
    ((o.val < 16 ∧ f = LINE.SHORT_TRG ∧ e = LINE.evTRG_SHORT ∧ i = o.val) ∨
      (o.val = 16 + i ∧ f = LINE.SHORT_STB ∧ e = LINE.evSTB_SHORT)) →
    s.setFld pLine f (putBit (s.fld pLine f) i on) = t →
    { t with live := Tab.set 0 t.live pLine (putBit (t.liveMask pLine) e.bit (t.fld pLine f != 0)) } = u →
    exec (.outputShort ⟨o, on⟩) s = .next (if on = true ∧ bitAt (s.fld pLine f) i = false then u.raise pLine e else u))

/-- VDDW falling puts the Weighhouse on BACKUP, starts a gap unless one has not ended, stops the charger and marks the open
tally; rising, it qualifies main power anew; accepting main power, 20 ms on or once the backup has run low, ledgers the
gap as two POWER_GAP entries and BACKUP_ABSENT while absent, ends the gap and starts the charger. A routine commit, a
second or more after the last, makes the cross-check and starts a commit unless the newest sealed slot holds the same
state; VBAK crossing its commit level on BACKUP starts one; a commit in progress is sealed, and a probe that waited for it
starts. At VBAK_DEAD the Weighhouse halts, leaving a commit torn; it starts by checking its copies, loading the newest
sealed slot, taking the ledger up to its first entry in error, ledgering what it found in error, a torn slot, on its first
start its key, and WH_START. The clock stops with RTC_LOST and keeps its value. Rests on: R73, R74, R75, R86, R87, R88,
R95, R101, R102, R103, R255, R294. -/
def Obligations.WeighhousePowerPathCompletes : Prop :=
  (∀ s : State, s.wh.src ≠ 1 → exec .vddwFall s = .next { s with wh := { s.wh with
    src := 1, gap := some (s.wh.gap.getD s.wh.rtcWord), chg := 0, probing := false, probeDue := false, low := false
    tally := { s.wh.tally with gap := true } } }) ∧
  (∀ s : State, s.wh.src ≠ 0 → exec .vddwRise s = .next { s with wh := { s.wh with src := 2, riseAt := s.wh.ns } }) ∧
  (∀ (s : State) (u v : Weigh), s.wh.halted = false → s.wh.commit = false → s.wh.src = 2 →
    (s.wh.low = true ∨ s.wh.riseAt + 20000000 ≤ s.wh.ns) →
    (match s.wh.gap with
      | some t => (({ s.wh with src := 0 } : Weigh).ledgerAt t 0x01 2 s.wh.gapAux 0).log 0x01 2 (s.wh.gapAux + 1) 0
      | none => { s.wh with src := 0 }) = u →
    (if u.absent = true then u.log 0x03 2 0 0 else u) = v →
    exec .acceptMainPower s = .next { s with wh := ({ v with
      gap := none, gapHalt := false, gapRtc := false, low := false
      tally := { v.tally with gap := true } } : Weigh).restartCharge }) ∧
  (∀ s : State, s.wh.low = false → s.wh.ns < s.wh.riseAt + 20000000 → exec .acceptMainPower s = .next s) ∧
  (∀ (s : State) (w : Weigh), s.wh.halted = false → s.wh.commit = false → s.wh.routineAt + 1000000000 ≤ s.wh.ns →
    ({ s.wh with routineAt := s.wh.ns } : Weigh).crossCheck = w →
    exec .routineCommit s = .next { s with wh :=
      if (w.newest.map CommitSlot.body) = some (w.slot true).body then w else w.startCommit }) ∧
  (∀ s : State, s.wh.halted = false → s.wh.src = 1 → s.wh.commit = false →
    exec .vbakCommitCross s = .next { s with wh := ({ s.wh with low := true } : Weigh).startCommit }) ∧
  (∀ s : State, s.wh.halted = false → s.wh.commit = true → s.wh.probeDue = false →
    exec .commitComplete s = .next { s with wh := { s.wh with
      commit := false, ring := s.wh.ring.map (fun e => (e.1, { e.2 with good := true })) } }) ∧
  (∀ s : State, s.wh.halted = false → s.wh.commit = true → s.wh.probeDue = true →
    exec .commitComplete s = .next { s with wh := { s.wh with
      commit := false, ring := s.wh.ring.map (fun e => (e.1, { e.2 with good := true }))
      probing := true, probeDue := false, probeAt := some s.wh.ns } }) ∧
  (∀ s : State, s.wh.halted = false → s.wh.src = 1 → exec .weighhouseHalt s = .next { s with wh := { s.wh with
    halted := true, gapHalt := true, low := true, commit := false, nonce := none, lane := none, queue := []
    probing := false, probeDue := false } }) ∧
  (∀ (s : State) (ca cb idn : Bool) (sl : Option (Fin 512)) (lb : Option (BitVec 32)) (mv : Int) (w u v x y z : Weigh),
    s.wh = w → w.halted = true → (({ w with halted := false } : Weigh).checkCopies ca cb idn).spoil (sl.map Fin.val) = u →
    (u.load.adopt (lb.map BitVec.toNat) 4096).logAreas (ca && w.parA.sound) (cb && w.parB.sound) idn
      (sl.map Fin.val) (lb.map BitVec.toNat) = v →
    (match u.tornSlot with
      | some c => { v.log 0x02 2 0 c.seq with
          tally := { (v.log 0x02 2 0 c.seq).tally with torn := true }
          ring := Tab.set CommitSlot.empty (v.log 0x02 2 0 c.seq).ring (c.seq % 512) CommitSlot.empty }
      | none => v) = x →
    (if x.keyed = true then x else ({ x with keyed := true } : Weigh).log 0x15 2 0 (s.si.whSerial % 2 ^ 32)) = y →
    ({ y with rtcStopped := false, sampleAt := y.ns, routineAt := y.ns, probeAt := none } : Weigh).log 0x13 2 0
      ((x.newest.map CommitSlot.seq).getD 0) = z →
    exec (.weighhouseStart ca cb ⟨idn, sl, lb⟩ mv) s = .next { s with wh := ({ z with
      tally := { z.tally with suspect := z.tally.suspect || z.paramsBad } } : Weigh).sampleVbak mv }) ∧
  (∀ s : State, exec .rtcStop s = .next { s with wh := { s.wh with
    rtcStopped := true, rtcLost := true, gapRtc := s.wh.gap.isSome || s.wh.gapRtc
    tally := { s.wh.tally with rtcLost := true } } })

/-- While the Weighhouse runs: BAK_LOW follows its level; a charger level or a temperature crossing stores the level and
starts the charger anew, but a constant-voltage phase stays as float, except for a LIMN cell below 2.0 V, and an absent
element or a hot die only stores it; a fast rise at constant current declares the element absent; a probe starts on main
power for a charging type while absent, at constant voltage or suspended for heat, 8 s or more after the last, or waits
for a commit, and its end, 1 ms or more later, counts a pass for 50 mV or less, else declares absence or starts the count
again; a sample of VBAK below 0 V declares absence, for a non-charging type, sampled every 8 s, 1.0 V decides. WH_SEAL_N
low is remembered; high, it closes an open seal, or a FACTORY one with an opener key, and else only clears it. The nonce
expires 60 s after it was issued. Rests on: R78, R81, R82, R83, R84, R85, R92, R93, R94, R273, R275, R276. -/
def Obligations.BackupElementCompletes : Prop :=
  (∀ s : State, s.wh.halted = false →
    (∀ b : Bool, exec (.bakLowCross b) s = .next { s with wh := { s.wh with bakLow := b } }) ∧
    (∀ mv : Nat, s.wh.absent = false → s.wh.hot = false →
      exec (.chargerLevelCross mv) s = .next { s with wh :=
        if s.wh.chg = 3 ∧ ¬ (bitsOf (s.wh.param 9) 5 4 = 1 ∧ mv < 2000) then { s.wh with vbak := mv }
        else ({ s.wh with vbak := mv } : Weigh).charge }) ∧
    (∀ mv : Nat, (s.wh.absent = true ∨ s.wh.hot = true) →
      exec (.chargerLevelCross mv) s = .next { s with wh := { s.wh with vbak := mv } }) ∧
    (s.wh.chg = 2 → exec .vbakFastRise s = .next { s with wh := s.wh.declareAbsent }) ∧
    (s.wh.src = 0 → s.wh.charges = true → (s.wh.absent = true ∨ s.wh.chg = 3 ∨ s.wh.chg = 5) →
      (∀ t, s.wh.probeAt = some t → t + 8000000000 ≤ s.wh.ns) → exec .impedanceProbeStart s = .next { s with wh :=
        if s.wh.commit = true then { s.wh with probeDue := true }
        else { s.wh with probing := true, probeDue := false, probeAt := some s.wh.ns } }) ∧
    (s.wh.charges = true → ∀ mv : Int,
      (mv < 0 → exec (.vbakSample mv) s =
        .next { s with wh := { ({ s.wh with vbak := mv } : Weigh).declareAbsent with passes := 0 } }) ∧
      (0 ≤ mv → exec (.vbakSample mv) s = .next { s with wh := { s.wh with vbak := mv } })) ∧
    (s.wh.charges = false → ∀ mv : Int,
      (s.wh.ns < s.wh.sampleAt + 8000000000 → exec (.vbakSample mv) s = .next s) ∧
      (∀ w : Weigh, s.wh.sampleAt + 8000000000 ≤ s.wh.ns →
        { s.wh with sampleAt := s.wh.sampleAt + 8000000000, vbak := mv } = w →
        (mv < 1000 → exec (.vbakSample mv) s = .next { s with wh := { w.declareAbsent with passes := 0 } }) ∧
        (1000 ≤ mv → exec (.vbakSample mv) s = .next { s with wh := w.passed }))) ∧
    (∀ (h : Bool) (mv : Nat), exec (.whTempCross h mv) s =
      .next { s with wh := ({ s.wh with hot := h, vbak := mv } : Weigh).charge }) ∧
    exec .sealSwitchLow s = .next { s with wh := { s.wh with sealLow := true } } ∧
    ((s.wh.sealSt = 2 ∨ (s.wh.sealSt = 0 ∧ s.wh.opener.isSome = true)) → exec .sealSwitchHigh s =
      .next (({ s with wh := ({ s.wh with sealLow := false } : Weigh).closeSeal (Config.free s.freeIdx) } : State).drew)) ∧
    (¬ (s.wh.sealSt = 2 ∨ (s.wh.sealSt = 0 ∧ s.wh.opener.isSome = true)) → exec .sealSwitchHigh s =
      .next { s with wh := { s.wh with sealLow := false } })) ∧
  (∀ (s : State) (rise mv t : Nat), s.wh.probing = true → s.wh.probeAt = some t → t + 1000000 ≤ s.wh.ns →
    (rise ≤ 50 → exec (.impedanceProbeDone rise mv) s =
      .next { s with wh := ({ s.wh with probing := false, vbak := mv } : Weigh).passed }) ∧
    (50 < rise → exec (.impedanceProbeDone rise mv) s =
      .next { s with wh := if s.wh.absent = true then { s.wh with probing := false, vbak := mv, passes := 0 }
        else ({ s.wh with probing := false, vbak := mv } : Weigh).declareAbsent })) ∧
  (∀ s : State, exec .sealNonceExpire s = .next { s with wh := { s.wh with
    nonce := if s.wh.ns < s.wh.nonceAt + 60000000000 then s.wh.nonce else none } })

/-- On a running Weighhouse the levels of A and B are taken, and on a channel that counts the decoded edge, negated by
INV_DIR, is added with the checks of R258 and R260; the assertion of Z on a counting channel with EPR restarts the measure
of d, and after a first one records the revolution d = counts less EPR; another level of Z is only taken; one of the five
wiring conditions is ledgered once per tally and marks it suspect. A served CLOSE_TALLY with room closes the tally with
reason REQUEST, its answer waiting for the signature; a served STAMP acknowledges, and signs, keeps and answers a stamp
record. The oldest unsigned record is signed, stored and answered on main power. Rests on: R251, R252, R256, R257, R258,
R260, R261, R262, R263, R264, R269, R287. -/
def Obligations.MeterAndRecordsComplete : Prop :=
  (∀ (s : State) (n : Fin 2) (c : MeterCh), s.wh.halted = false → s.wh.ch n = c →
    (∀ (a b : Bool) (d : Int), edgeDelta (bitsOf (s.wh.param 5) (2 * n + 1) (2 * n)) c.a c.b a b = d →
      exec (.meterEdge n a b) s = .next { s with
        wh := (if d = 0 ∨ s.wh.counts n = false then s.wh.setCh n { c with a := a, b := b }
        else (s.wh.setCh n { c with a := a, b := b }).counted n (if bitAt (s.wh.param 5) (4 + n) then -d else d)) }) ∧
    (∀ z : Bool, (z = false ∨ c.z = true ∨ s.wh.counts n = false ∨ s.wh.param (3 + n) = 0) →
      exec (.meterIndexEdge n z) s = .next { s with wh := s.wh.setCh n { c with z := z } }) ∧
    (c.z = false → s.wh.counts n = true → s.wh.param (3 + n) ≠ 0 →
      exec (.meterIndexEdge n true) s = .next { s with
        wh := (if c.seen = true then ((s.wh.setCh n { c with z := true }).setCh n { c with z := true, pos := 0, seen := true
            }).revolution n ((c.pos.natAbs : Int) - (s.wh.param (3 + n) : Nat))
          else (s.wh.setCh n { c with z := true }).setCh n { c with z := true, pos := 0, seen := true }) }) ∧
    (∀ kind : Fin 7, 5 ≤ kind.val → exec (.meterWireFault n kind) s = .next s) ∧
    (∀ kind : Fin 7, kind.val < 5 → bitAt c.wired kind = false →
      exec (.meterWireFault n kind) s = .next { s with wh :=
      ((s.wh.setCh n { c with wired := setBit c.wired kind }).log 0x10 n (2 ^ kind.val) 0).suspectBy n 3 })) ∧
  (∀ (s t : State) (tag : BitVec 8) (coil sid : BitVec 64), s.whServes 2 tag.toNat = true →
    { s with wh := { s.wh with turn := false } } = t → s.wh.idBad = false →
    (t.wh.storeUsed < 128 → exec (.closeTally tag coil sid) s =
      .next (({ t with wh := (t.wh.close (Config.free s.freeIdx) 0 coil.toNat sid.toNat id
          (some ⟨2, 0, 0, tag.toNat, leBytes 4 s.wh.tallyNo⟩)) } : State).drew)) ∧
    (128 ≤ t.wh.storeUsed → exec (.closeTally tag coil sid) s =
      .next (({ t with wh := t.wh.log 0x14 2 0 s.wh.tallyNo } : State).whAnswer 2 0 3 tag.toNat []))) ∧
  (∀ (s t : State) (tag : BitVec 8) (sid nonce : BitVec 64) (al at_ : BitVec 32) (w : Weigh) (r : List Byte),
    s.whServes 3 tag.toNat = true → { s with wh := { s.wh with turn := false } } = t → s.wh.idBad = false →
    t.wh.acknowledge al.toNat at_.toNat = w → signedRecord (w.stampWords sid.toNat nonce.toNat) = r →
    exec (.whStamp tag sid nonce al at_) s =
      .next (({ t with wh := { w with stamp := some r } } : State).whAnswer 3 0 0 tag.toNat r)) ∧
  (∀ (s : State) (u : Unsigned) (rest : List Unsigned) (w : Weigh), s.wh.signing = u :: rest → s.wh.src = 0 →
    s.wh.halted = false → s.wh.idBad = false →
    ({ s.wh with signing := rest } : Weigh).storeTally u.no (signedRecord u.words) = w →
    (∀ r, u.answer = some r → exec .recordSigned s =
      .next { s with wh := { w with lane := some (rspFrame r), last := some r } }) ∧
    (u.answer = none → exec .recordSigned s = .next { s with wh := w }))

/-- A request that the Weighhouse serves afresh is answered on the record lane, and the answer is kept for a repeat: READ
STATUS with the words of the model's layout (log entry 12), READ LEDGER with the 16 bytes of each of n entries that are
all held, COUNT_BAD above 256, NOT_FOUND where one is not held or n is 0, and NOT_FOUND with an NVM_ERROR entry for an
uncorrectable word; READ TALLY likewise; KEY, IDENT, PARAMS and STAMP with their fields; an OP and SUB that no table lists
with BAD_OP. Rests on: R278, R280, R288, Chapter 7. -/
def Obligations.WeighhouseReadsComplete : Prop :=
  ∀ (s t : State) (tag : BitVec 8) (n : Nat), tag.toNat = n → { s with wh := { s.wh with turn := false } } = t →
    (s.whServes 1 n = true →
      exec (.whReadStatus tag) s = .next ((t.whAnswer 1 0 0 n
        ((t.wh.statusWords (Config.free s.freeIdx) (Config.free (s.freeIdx + 1))).flatMap (leBytes 4))).drew 2) ∧
      (∀ (l : BitVec 32) (c : BitVec 16) (es : List (Option (Nat × Nat))),
        (List.range c.toNat).map (fun k => t.wh.entry ((l.toNat + k) % 2 ^ 32)) = es →
        exec (.whReadLedger tag l c none) s = .next (if 256 < c.toNat then t.whAnswer 1 1 5 n []
          else if es.all Option.isSome = true ∧ c ≠ 0
            then t.whAnswer 1 1 0 n (es.flatMap (fun e => entryBytes (e.getD (0, 0))))
          else t.whAnswer 1 1 4 n [])) ∧
      (∀ (l : BitVec 32) (c : BitVec 16) (b : BitVec 32), exec (.whReadLedger tag l c (some b)) s =
        .next (({ t with wh := t.wh.log 0x12 2 1 b.toNat } : State).whAnswer 1 1 4 n [])) ∧
      (∀ (no : BitVec 32), (∀ e, t.wh.store.find? (fun e => e.1 == no.toNat) = some e →
          exec (.whReadTally tag no none) s = .next (t.whAnswer 1 2 0 n e.2)) ∧
        (t.wh.store.find? (fun e => e.1 == no.toNat) = none →
          exec (.whReadTally tag no none) s = .next (t.whAnswer 1 2 4 n [])) ∧
        (∀ b : BitVec 32, exec (.whReadTally tag no (some b)) s =
          .next (({ t with wh := t.wh.log 0x12 2 3 b.toNat } : State).whAnswer 1 2 4 n []))) ∧
      exec (.whReadKey tag) s = .next (t.whAnswer 1 3 0 n (beBytes 32 (ecPublic whKey).1 ++ beBytes 32 (ecPublic whKey).2
        ++ beBytes 64 s.si.attestation ++ leBytes 8 s.si.whSerial)) ∧
      exec (.whReadIdent tag) s = .next (t.whAnswer 1 4 0 n (leBytes 4 s.si.fwId ++ leBytes 4 s.wh.sealCount
        ++ leBytes 8 s.si.whSerial ++ beBytes 32 s.si.romDigest)) ∧
      exec (.whReadParams tag) s = .next ((t.whAnswer 1 5 0 n
        ((List.range 10).flatMap (fun k => leBytes 4 (t.wh.param (k + 1)))
          ++ t.wh.openerDigest (Config.free s.freeIdx) ++ leBytes 4 (t.wh.param 12))).drew) ∧
      (∀ r, t.wh.stamp = some r → exec (.whReadStamp tag) s = .next (t.whAnswer 1 6 0 n r)) ∧
      (t.wh.stamp = none → exec (.whReadStamp tag) s = .next (t.whAnswer 1 6 4 n []))) ∧
    (∀ op sub : Fin 16, whListed op sub = false → s.whServes op n = true →
      exec (.whbBadOp tag op sub) s = .next (t.whAnswer op sub 1 n []))

/-- A served SEAL NONCE issues a fresh 32-byte nonce, a free value, with the serial number and seal counter. SEAL OPEN uses
the nonce up: within 60 s of a refusal it answers RATE and counts it; refused for another reason it ledgers the refusal
with the RATE count, which starts anew where the entry found room; accepted it counts the seal, ledgers SEAL_OPENED and
closes the tally with reason SEAL. SEAL PARAM answers its refusal, STATE on a FACTORY die whose switch is high, or changes
the parameter with both values ledgered. Rests on: R270, R272, R273, R274, R276, R279, R286. -/
def Obligations.SealCommandsComplete : Prop :=
  (∀ (s t : State) (tag : BitVec 8) (n : Nat) (b : List Byte), tag.toNat = n → s.whServes 4 n = true →
    { s with wh := { s.wh with turn := false } } = t → beBytes 32 (Config.free s.freeIdx % 2 ^ 256) = b →
    exec (.sealNonce tag) s =
      .next ((({ t with wh := { t.wh with nonce := some b, nonceAt := s.wh.ns } } : State).whAnswer 4 0 0 n
        (b ++ leBytes 8 s.si.whSerial ++ leBytes 4 s.wh.sealCount)).drew)) ∧
  (∀ (s t : State) (tag : BitVec 8) (n : Nat) (r g : BitVec 256) (w : Weigh), tag.toNat = n → s.whServes 4 n = true →
    { s with wh := { s.wh with turn := false } } = t → { t.wh with nonce := none } = w →
    (t.openRefusal r.toNat g.toNat = some 7 → exec (.sealOpen tag r g) s =
      .next (({ t with wh := { w with rate := w.rate + 1 } } : State).whAnswer 4 1 3 n [7])) ∧
    (∀ c, t.openRefusal r.toNat g.toNat = some c → c ≠ 7 → exec (.sealOpen tag r g) s =
      .next (({ t with wh := if w.takes 0x06 = true
          then { w.log 0x06 2 c w.rate with rate := 0, refusedAt := some w.ns } else w.log 0x06 2 c w.rate } :
        State).whAnswer 4 1 3 n [BitVec.ofNat 8 c])) ∧
    (t.openRefusal r.toNat g.toNat = none → exec (.sealOpen tag r g) s =
      .next (({ t with
        wh := ((({ w with sealCount := w.sealCount + 1 } : Weigh).log 0x04 2 0 (w.sealCount + 1)).close
          (Config.free s.freeIdx) 1 0 0 (fun x => { x with sealSt := 2 }) (some ⟨4, 1, 0, n, leBytes 4 2⟩)) } :
        State).drew))) ∧
  (∀ (s t : State) (tag id : BitVec 8) (n : Nat) (body : List Byte), tag.toNat = n → s.whServes 4 n = true →
    { s with wh := { s.wh with turn := false } } = t →
    (∀ r p, t.wh.paramRefusal id.toNat body = some (r, p) → exec (.sealParam tag id body) s =
      .next (t.whAnswer 4 2 r n p)) ∧
    (t.wh.paramRefusal id.toNat body = none → s.wh.sealSt = 0 → s.wh.sealLow = false → exec (.sealParam tag id body) s =
      .next (t.whAnswer 4 2 3 n [1])) ∧
    (t.wh.paramRefusal id.toNat body = none → (s.wh.sealSt ≠ 0 ∨ s.wh.sealLow = true) → exec (.sealParam tag id body) s =
      .next (({ t with wh := (t.wh.changeParam (Config.free s.freeIdx) n id.toNat body) } : State).drew)))

/-- A served write of REQ_CTRL stores its fields and, with GO while idle, sends the request with the next TAG (or waits for
the first READ STATUS); a write of an SL register while the seal does not read closed and the block is idle passes it on
as SEAL PARAM (or waits for the first READ STATUS), else raises PARAM_REFUSED. A response with the TAG and OP of the
request in flight completes it, another is counted; a frame with bad CRC on the record lane is lost and counted, one on
the other lane leaves no trace. A retry time-out, 200 ms or more after the last attempt, sends the request again up to
three attempts, then ends it with TIMEOUT and BRIDGE_ERR. A mirror refresh that is due sends its READ STATUS into the
matrix as the engine's request. Rests on: R278, R282, R284, R293, R297, R714. -/
def Obligations.BridgeCommandsComplete : Prop :=
  (∀ (s t : State) (a : Acc) (w : Word), s.serves a pWhb 0x100 true = true →
    (((s.answer [0]).setFld pWhb WHB.REQ_CTRL_OP (bitsOf w.toNat 27 24)).setFld pWhb WHB.REQ_CTRL_SUB
      (bitsOf w.toNat 23 20)).setFld pWhb WHB.REQ_CTRL_LEN (min 256 (bitsOf w.toNat 8 0)) = t →
    exec (.whbGo a w) s = .next (if bitAt w.toNat 31 = true ∧ s.on pWhb WHB.REQ_STATUS_BUSY = false then
      (if s.wb.ready = true then t.whbGo
        else ({ t with wb := { t.wb with goDue := true } } : State).setFld pWhb WHB.REQ_STATUS_BUSY 1) else t)) ∧
  (∀ (s : State) (a : Acc) (k : Fin 12) (w : Word), s.serves a pWhb (0x200 + 4 * k.val) true = true →
    (s.fld pWhb WHB.MIRROR_SEAL_STATE ≠ 1 → s.on pWhb WHB.REQ_STATUS_BUSY = false → k ≠ 10 → s.wb.ready = true →
      exec (.slParamWrite a k w) s = .next ((s.answer [0]).whbSend 2 (k.val + 1) 4 2
        ([BitVec.ofNat 8 (k.val + 1), 0, 0, 0] ++ leBytes 4 w.toNat))) ∧
    (s.fld pWhb WHB.MIRROR_SEAL_STATE ≠ 1 → s.on pWhb WHB.REQ_STATUS_BUSY = false → k ≠ 10 → s.wb.ready = false →
      exec (.slParamWrite a k w) s = .next (({ s.answer [0] with
        wb := { s.wb with slDue := some (k.val + 1, w.toNat) } } : State).setFld pWhb WHB.REQ_STATUS_BUSY 1)) ∧
    ((s.fld pWhb WHB.MIRROR_SEAL_STATE = 1 ∨ s.on pWhb WHB.REQ_STATUS_BUSY = true ∨ k = 10) →
      exec (.slParamWrite a k w) s = .next ((s.answer [0]).raiseBy pWhb WHB.evPARAM_REFUSED 15))) ∧
  (∀ (s t : State) (f : List Byte), s.wh.lane = some f → { s with wh := { s.wh with lane := none } } = t →
    (s.wb.req = none → exec .whbResponse s = .next t) ∧
    (∀ op sub p, s.wb.req = some (op, sub, p) →
      (rspOf f = none → exec .whbResponse s = .next (t.bump pWhb WHB.BRIDGE_STATS_ERRORS)) ∧
      (∀ r, rspOf f = some r → exec .whbResponse s =
        .next (if r.op = op ∧ r.tag = s.fld pWhb WHB.REQ_STATUS_TAG then t.whbComplete op sub p r
          else t.bump pWhb WHB.BRIDGE_STATS_ERRORS)))) ∧
  (∀ s : State, exec (.whbFrameBadCrc true) s =
      .next (({ s with wh := { s.wh with lane := none } } : State).bump pWhb WHB.BRIDGE_STATS_ERRORS) ∧
    exec (.whbFrameBadCrc false) s = .next s) ∧
  (∀ (s : State) (op sub n : Nat) (p : List Byte), s.wb.req = some (op, sub, p) →
    s.fld pWhb WHB.REQ_STATUS_ATTEMPTS = n →
    (s.tb.beat < s.wb.sentAt + 200000000 → exec .whbRetryTimeout s = .next s) ∧
    (s.wb.sentAt + 200000000 ≤ s.tb.beat →
      (n < 3 → exec .whbRetryTimeout s = .next (((({ s with wb := { s.wb with sentAt := s.tb.beat } } : State).setFld pWhb
        WHB.REQ_STATUS_ATTEMPTS (n + 1)).bump pWhb WHB.BRIDGE_STATS_RETRIES).send "BRIDGE" 0
        ((bridgeFrame op sub (s.fld pWhb WHB.REQ_STATUS_TAG) p).map BitVec.toNat))) ∧
      (3 ≤ n → ∀ t u : State, (s.setFld pWhb WHB.REQ_STATUS_RESULT 7).raiseBy pWhb WHB.evBRIDGE_ERR s.wb.asker = t →
        (if s.wb.kind = 0 then (t.setFld pWhb WHB.REQ_STATUS_DONE 1).setFld pWhb WHB.REQ_STATUS_RSP_LEN 0 else t) = u →
        exec .whbRetryTimeout s = .next (if op = 1 ∧ sub = 0 then
          (((u.setFld pPower POWER.BAK_MIRROR_MIRROR_STALE 1).setFld pWhb WHB.MIRROR_MIRROR_STALE 1).condition pPower
            POWER.evMIRROR_STALE true).whbFree else u.whbFree)))) ∧
  (∀ s : State, (s.mirrorDueNow = false → exec .mirrorRefresh s = .next s) ∧
    (s.mirrorDueNow = true → exec .mirrorRefresh s =
      .next (({ s with wb := { s.wb with mirrorLast := some s.tb.beat } } : State).mxSubmit
        { port := 2, acc := ⟨.engine, 15, 37, 0, false⟩, addr := 0x2800000000, write := false, size := 8, data := []
          words := 1, arrived := s.tb.beat, promoted := false, hdr := none, ref := 0, slot := none })))

/-- POR, where it is not asserted yet, makes the core reset that keeps the Live rail and temperature fields, holds the device,
forgets the debug block and records its cause; its release makes that reset anew, keeping the recorded cause, and ends
POR. RESET_CTRL with the key requests a WARM with cause 1, 4,096 beats ahead, and without it has no effect; the WARM, no
sooner, makes the core reset that keeps the fields marked kept and the Live ones and records its cause. The core reset
leaves every field of the state at reset but: the queue, the free values drawn, the silicon, the Weighhouse, what was
sent, the beat, the levels at the pins of both dies, the tap and the debug fuse; DRAM counts one training more; each
register field (outside OUVGOR and REFMON, whose status follows pins and straps, and EVT_RAW, which follows the conditions
that last) is kept or takes its reset value. PE_PERST and a hot reset drop the link and act as LINK_CFG selects, WARM with
cause 2 or ENDPOINT; a Function Level Reset of the PF acts as ENDPOINT; the link's fall acts as LINKDOWN_ACTION and raises
LINK_DOWN; the link comes up at a rate that the straps and TARGET_SPEED (log entry 91) allow. Rests on: R80, R186, R638,
R639, R662, R713. -/
def Obligations.ResetCommandsComplete : Prop :=
  (∀ (s : State) (c : PorCause),
    (s.por = false → exec (.porAssert c) s = .next (({ s.coreReset liveField with por := true, dbg := DebugSt.reset } :
      State).setFld pPower POWER.POR_CAUSE_CAUSE (PorCause.code c))) ∧
    (s.por = true → exec (.porAssert c) s = .next s)) ∧
  (∀ s : State,
    (s.por = true → exec .porRelease s = .next { s.coreReset (fun p f => liveField p f ||
      (p == pPower && f.bit == POWER.POR_CAUSE_CAUSE.bit)) with por := false }) ∧
    (s.por = false → exec .porRelease s = .next s)) ∧
  (∀ (s : State) (a : Acc) (w : Word), s.serves a pDevice 0x120 true = true → a.hh = 15 →
    (bitAt w.toNat 0 = true → bitsOf w.toNat 15 8 = 0x5A → s.warmDue = none → exec (.warmReq a w) s =
      .next { s.answer [0] with warmDue := some (s.tb.beat + 4096, 1) }) ∧
    ((bitAt w.toNat 0 = false ∨ bitsOf w.toNat 15 8 ≠ 0x5A ∨ s.warmDue.isSome = true) → exec (.warmReq a w) s =
      .next (s.answer [0]))) ∧
  (∀ (s : State) (b c : Nat), s.warmDue = some (b, c) →
    (b ≤ s.tb.beat → exec .warmTakeEffect s =
      .next { s.coreReset (fun p f => f.keepWarm || liveField p f) with lastRst := c }) ∧
    (s.tb.beat < b → exec .warmTakeEffect s = .next s)) ∧
  (∀ (s : State) (keep : Nat → Fld → Bool) (r : State), s.coreReset keep = r →
    r.pending = s.pending ∧ r.freeIdx = s.freeIdx ∧ r.trainings = s.trainings + 1 ∧ r.si = s.si ∧ r.wh = s.wh ∧
    r.sent = s.sent ∧ r.tb = { Timebase.reset with beat := s.tb.beat } ∧
    r = { State.reset with
      pending := r.pending, freeIdx := r.freeIdx, trainings := r.trainings, si := r.si, regs := r.regs, live := r.live
      sent := r.sent, errAt := r.errAt, tb := r.tb, wh := r.wh
      ln := { State.reset.ln with axis := r.ln.axis }
      dr := { State.reset.dr with
        ouvHot := s.dr.hotPin, vmPin := s.dr.vmPin, vgdPin := s.dr.vgdPin, vcpPin := s.dr.vcpPin, hotPin := s.dr.hotPin
        gate := r.dr.gate }
      dram := { State.reset.dram with dead := s.dramRailLow, hot := s.dram.hot, slow := s.dram.slow }
      dbg := { State.reset.dbg with tap := s.dbg.tap, off := s.dbg.off } } ∧
    (∀ (p : Fin 512) (f : Fld), p.val ≠ pOuvgor → p.val ≠ pRefmon → f.bit < 32768 → f.bit ≠ HDR.EVT_RAW_RAW.bit →
      s.fieldAt (regKey p f.bit) = some f → r.fld p f = if keep p f = true then s.fld p f else f.reset)) ∧
  (∀ s : State, s.por = false → s.inert = false → exec .pePerst s =
    .next ((if s.fld pHost HOST.LINK_CFG_PERST_ACTION = 0 then s.linkGone.warmRequest 2 else s.linkGone.endpointReset).raise
      pHost HOST.evPERST)) ∧
  (∀ s : State, s.hostUp = true →
    exec .hotReset s = .next (if s.fld pHost HOST.LINK_CFG_PERST_ACTION = 0 then s.linkGone.warmRequest 2
      else s.linkGone.endpointReset) ∧
    exec .hostLinkDown s = .next ((if s.fld pHost HOST.LINK_CFG_LINKDOWN_ACTION = 0 then s.linkGone.warmRequest 2
      else s.linkGone.endpointReset).raise pHost HOST.evLINK_DOWN) ∧
    exec .pfFlr s = .next (s.endpointReset.raise pHost HOST.evPF_FLR)) ∧
  (∀ (s : State) (v : Fin 4) (k : Fin 3), bitAt (s.fld pDevice DEVICE.STRAP_CFG) 2 = false → s.phyOk = true →
    v.val + 1 ≤ s.speedCap → v.val + 1 ≤ max 1 (s.fld pHost HOST.LINK_CFG_TARGET_SPEED) → exec (.hostLinkUp v k) s =
      .next ((({ s with host := { s.host with
        linkUp := true, speed := v.val + 1, width := 2 ^ k.val, ltssm := Config.free s.freeIdx % 64 } } :
        State).drew).raise pHost HOST.evLINK_UP))

/-- HOST.HH_RESET by the manager, HH_CTRL with its key by who may write it, and a Function Level Reset of the household's
function (where the link is up and the function exists) reset every household that they name: what the matrix has accepted
for it completes, every unit applies its HOUSEHOLD values, and the reset is then running; a request while it runs changes
nothing. Its end clears it and raises RESET_DONE on the household's page and on HOST. Rests on: R660, R661. -/
def Obligations.HouseholdResetsComplete : Prop :=
  (∀ (s : State) (h : Fin 8), s.hostUp = true → s.funcExists (h + 1) = true →
    exec (.vfFlr h) s = .next (s.householdReset h true)) ∧
  (∀ (s : State) (a : Acc) (w : Word), s.serves a pHost 0x110 true = true → a.hh = 15 → a.master ≠ .wicket →
    exec (.hhReset a w) s = .next ((maskBits 8 w.toNat).foldl (fun t h => t.householdReset h false) (s.answer [0]))) ∧
  (∀ (s : State) (a : Acc) (h : Fin 8) (w : Word), s.serves a (pHh h) 0x144 true = true → a.master ≠ .wicket →
    (bitAt w.toNat 0 = true → bitsOf w.toNat 15 8 = 0x5A →
      exec (.hhCtrlReset a h w) s = .next ((s.answer [0]).householdReset h false)) ∧
    ((bitAt w.toNat 0 = false ∨ bitsOf w.toNat 15 8 ≠ 0x5A) → exec (.hhCtrlReset a h w) s = .next (s.answer [0]))) ∧
  (∀ (s : State) (h : Fin 8), h.val ∈ s.hhReset →
    exec (.householdResetDone h) s = .next ((({ s with
      hhReset := s.hhReset.filter (fun x => x != h.val)
      host := { s.host with flrs := s.host.flrs.filter (fun x => x != h.val) } } : State).raise (pHh h)
        HH.evRESET_DONE).raise pHost HOST.evRESET_DONE)) ∧
  (∀ (s : State) (h : Nat) (flr : Bool), (h ∈ s.hhReset → s.householdReset h flr = s) ∧
    h ∈ (s.householdReset h flr).hhReset)

/-- The straps latch bit by bit by majority, with STRAP_ERR where samples disagree or CFG1 and CFG0 spell the reserved value,
and select the reference until counters run. A supply crossing sets its RAIL_STATUS bit by its two thresholds and raises
its condition: VGD and VM, which no self-test of OUVGOR then masks, falling turn the gates off, VSTB ends strobe pulses,
VPHY resets the links, a DRAM rail loses what DRAM held. VM_LIMITS by the manager stores the nearer of the value and its
hard limit and applies the stage's monitors to the levels (log entry 79). Training ends in a trained controller or raises
TRAINING_FAIL; a temperature crossing sets the refresh and throttle conditions. Rests on: R58, R59, R97, R98, R105, R147,
R709, R743, Chapter 3. -/
def Obligations.SuppliesComplete : Prop :=
  (∀ (s t : State) (x y z : BitVec 12), s.latchStraps x.toNat y.toNat z.toNat = t →
    exec (.strapSample x y z) s = .next (if t.tb.running = true then t else t.strapRef) ∧
    t = (let m := majority x.toNat y.toNat z.toNat
      let dis := (x.toNat ^^^ y.toNat) ||| (y.toNat ^^^ z.toNat)
      let u := (((s.setFld pDevice DEVICE.STRAP_CFG (m % 64)).setFld pDevice DEVICE.STRAP_AMODE (m / 64)).setFld pDevice
        DEVICE.STRAP_STRAP_ERR (b2n (dis != 0 || m % 4 == 3))).setFld pDevice DEVICE.STRAP_ERR_MASK dis
      let v : State := { u with dbg := { u.dbg with off := u.dbg.off || bitAt m 3 } }
      if (dis != 0 || m % 4 == 3) = true then v.raise pDevice DEVICE.evSTRAP_ERR else v)) ∧
  (∀ (s t : State) (mv : Nat) (was ok : Bool),
    (∀ u : State, s.dr.ouvCst = false → { s with dr := { s.dr with vgdPin := some mv } } = u →
      s.on pPower POWER.RAIL_STATUS_VGD_OK = was → hyster was mv 8500 9000 = ok →
      (u.setFld pPower POWER.RAIL_STATUS_VGD_OK (b2n ok)).condition pPower POWER.evVGD_UV (!ok) = t →
      exec (.powerStageSupplyCross .vgd mv) s = .next (if was = true ∧ ok = false then t.supplyOff else t)) ∧
    (s.on pPower POWER.RAIL_STATUS_VSTB_OK = was → hyster was mv 4400 4500 = ok →
      (s.setFld pPower POWER.RAIL_STATUS_VSTB_OK (b2n ok)).condition pPower POWER.evVSTB_UV (!ok) = t →
      exec (.powerStageSupplyCross .vstb mv) s = .next (if was = true ∧ ok = false then t.vstbOff else t)) ∧
    (∀ (u : State) (wasOv ov : Bool), s.dr.ouvCst = false → { s with dr := { s.dr with vmPin := some mv } } = u →
      s.on pPower POWER.RAIL_STATUS_VM_OK = was → s.on pPower POWER.RAIL_STATUS_VM_OV = wasOv →
      hyster was mv s.vmUvLim (s.vmUvLim + 250) = ok →
      (if wasOv then decide (s.vmOvLim ≤ mv + 500) else decide (s.vmOvLim < mv)) = ov →
      (((u.setFld pPower POWER.RAIL_STATUS_VM_OK (b2n ok)).setFld pPower POWER.RAIL_STATUS_VM_OV (b2n ov)).condition
        pPower POWER.evVM_UV (!ok)).condition pPower POWER.evVM_OV ov = t →
      exec (.powerStageSupplyCross .vm mv) s =
        .next (if (was = true ∧ ok = false) ∨ (wasOv = false ∧ ov = true) then t.supplyOff else t)) ∧
    (s.dr.ouvCst = true →
      exec (.powerStageSupplyCross .vm mv) s = .next { s with dr := { s.dr with vmPin := some mv } } ∧
      exec (.powerStageSupplyCross .vgd mv) s = .next { s with dr := { s.dr with vgdPin := some mv } }) ∧
    (s.phyOk = was → hyster was mv 830 850 = ok →
      (s.setFld pPower POWER.RAIL_STATUS_VPHY_OK (b2n ok)).condition pPower POWER.evVPHY_LOW (!ok) = t →
      exec (.vphyMonitorCross mv) s = .next (if was = true ∧ ok = false then t.phyReset else t)) ∧
    (s.on pPower POWER.RAIL_STATUS_VDD2X_OK = was → hyster was mv 1000 1020 = ok →
      (s.setFld pPower POWER.RAIL_STATUS_VDD2X_OK (b2n ok)).condition pPower POWER.evVDD2X_LOW (!ok) = t →
      exec (.dramRailMonitorCross .vdd2x mv) s =
        .next (if was = true ∧ ok = false then { t with dram := { t.dram with dead := true, mem := [] } } else t)) ∧
    (s.on pPower POWER.RAIL_STATUS_VDDQX_OK = was → hyster was mv 540 550 = ok →
      (s.setFld pPower POWER.RAIL_STATUS_VDDQX_OK (b2n ok)).condition pPower POWER.evVDDQX_LOW (!ok) = t →
      exec (.dramRailMonitorCross .vddqx mv) s =
        .next (if was = true ∧ ok = false then { t with dram := { t.dram with dead := true, mem := [] } } else t))) ∧
  (∀ (s : State) (a : Acc) (w : Word), s.serves a pPower 0x104 true = true → a.hh = 15 →
    exec (.vmLimitsWrite a w) s = .next ((((s.answer [0]).writeLimit pPower POWER.VM_LIMITS_VM_OV_LIM
      (bitsOf w.toNat 15 8) 0 126 true (some 0)).writeLimit pPower POWER.VM_LIMITS_VM_UV_LIM (bitsOf w.toNat 7 0) 30 255
      false (some 1)).stageAct)) ∧
  (∀ (s : State) (c : Fin 2),
    exec (.dramTrainingDone c true) s = .next { s with dram := { s.dram with trained := putBit s.dram.trained c true } } ∧
    exec (.dramTrainingDone c false) s = .next (s.raise (pDram c) DRAMC.evTRAINING_FAIL) ∧
    ∀ hot slow : Bool, ∃ t, exec (.dramTempCross c hot slow) s = .next t ∧ t.dram = { s.dram with
      hot := putBit s.dram.hot c hot, slow := putBit s.dram.slow c slow
      hotWin := s.dram.hotWin || hot, slowWin := s.dram.slowWin || slow })

/-- A commit by the manager stores PEAK, BUDGET and its cause; with cause 0 the staged values come into force and COMMIT_DONE
is raised; with cause 1 SHORT_BY records by how much the reservations exceed the budget and OVERSUBSCRIBED is raised;
otherwise ADM_REFUSED. A channel whose clock runs serves its oldest timed request, else its oldest committed one, else an
excess request of the client whose turn it is; a corrected word on a channel with ECC and a request to serve first raises
DRAM_ECC_CORR. The window's end, once on each 65,536th st, records a shortfall where a committed request still waits and
clears the window. A refresh makes the runs that it delays wait for it, and tells the refresh loop, which on each 65,536th
st, once and after a waiting write of its envelope, moves REF_AHEAD by one within that envelope. Rests on: R515, R516,
R518, R519, R520, R521, R621. -/
def Obligations.DramCommandsComplete : Prop :=
  (∀ (s t : State) (a : Acc), s.serves a pDramadm 0x100 true = true → a.hh = 15 →
    (((s.answer [0]).setFld pDramadm DRAMADM.PEAK_BYTES s.admPeak).setFld pDramadm DRAMADM.BUDGET_BYTES
      s.admBudget).setFld pDramadm DRAMADM.ADM_STATUS_CAUSE s.admCause = t →
    (s.admCause = 0 → exec (.admCommit a) s = .next (((({ t.setFld pDramadm DRAMADM.ADM_STATUS_SHORT_BY 0 with
      dram := { s.dram with adm := s.stagedAdm } } : State)).setFld pQe QE.SPILL_BUDGET_BYTES s.stagedAdm.spillRes).raise
      pDramadm DRAMADM.evCOMMIT_DONE)) ∧
    (s.admCause = 1 → exec (.admCommit a) s = .next ((t.setFld pDramadm DRAMADM.ADM_STATUS_SHORT_BY
      (min 0xFFFFFF (s.admSum - s.admBudget))).raiseBy pDramadm DRAMADM.evOVERSUBSCRIBED 15)) ∧
    (2 ≤ s.admCause → exec (.admCommit a) s = .next ((t.setFld pDramadm DRAMADM.ADM_STATUS_SHORT_BY 0).raiseBy pDramadm
      DRAMADM.evADM_REFUSED 15))) ∧
  (∀ (s : State) (c : Fin 2), s.tb.haltedIslands = true → ∀ b, exec (.dramRequestServe ⟨c, b⟩) s = .next s) ∧
  (∀ (s u : State) (c : Fin 2) (b : Bool), s.tb.haltedIslands = false →
    (if b = true ∧ (if c.val = 0 then s.si.ecc0 else s.si.ecc1) = true ∧ s.dram.waiting.any (fun q => q.ch == c.val) = true
      then ({ s with dram := { s.dram with eccWin := true } } : State).raise (pDram c) DRAMC.evDRAM_ECC_CORR else s) = u →
    (∀ q r, takeFirst (fun x : DramReq => x.ch == c.val && x.timed) u.dram.waiting = some (q, r) →
      exec (.dramRequestServe ⟨c, b⟩) s = .next (({ u with dram := { u.dram with waiting := r } } : State).dramCount q)) ∧
    (takeFirst (fun x : DramReq => x.ch == c.val && x.timed) u.dram.waiting = none →
      (∀ q r, takeFirst (fun x : DramReq => x.ch == c.val && x.committed) u.dram.waiting = some (q, r) →
        exec (.dramRequestServe ⟨c, b⟩) s = .next (({ u with dram := { u.dram with waiting := r } } : State).dramCount q)) ∧
      (takeFirst (fun x : DramReq => x.ch == c.val && x.committed) u.dram.waiting = none →
        (∀ k, u.excNext c.val = some k → exec (.dramRequestServe ⟨c, b⟩) s = .next (u.serveExcess c.val k)) ∧
        (u.excNext c.val = none → exec (.dramRequestServe ⟨c, b⟩) s = .next u)))) ∧
  (∀ (s : State) (c : Fin 2) (e b : Bool) (ws : List (Fin 8 × BitVec 32)),
    exec (.dramRefresh c e b ws) s = .next (ws.foldl (fun t w => match t.runOf w.1 with
        | some r => t.setRun w.1 { r with refUntil := max r.refUntil (t.tb.beat + w.2.toNat) }
        | none => t)
      { s with dram := { s.dram with
        refBehind := s.dram.refBehind || (b && s.dram.waiting.any (fun q => q.ch == c.val && q.committed && !q.timed))
        refIdle := s.dram.refIdle || (e && s.fld pDramadm DRAMADM.REF_AHEAD_AHEAD != 0) } })) ∧
  (∀ s : State, s.stands (writesField pDramadm DRAMADM.REF_ENV_MAX) = false →
    ((s.onTick 65536 = false ∨ s.dram.refAt = s.tb.beat + 1) → exec .refAheadUpdate s = .next s) ∧
    (s.onTick 65536 = true → s.dram.refAt ≠ s.tb.beat + 1 → s.on pDramadm DRAMADM.ADM_ADAPT_ADAPT_EN = false →
      exec .refAheadUpdate s =
        .next { s with dram := { s.dram with refBehind := false, refIdle := false, refAt := s.tb.beat + 1 } })) ∧
  (∀ (s : State) (v w lo hi : Int) (n : Nat), s.stands (writesField pDramadm DRAMADM.REF_ENV_MAX) = false →
    s.onTick 65536 = true → s.dram.refAt ≠ s.tb.beat + 1 → s.on pDramadm DRAMADM.ADM_ADAPT_ADAPT_EN = true →
    s.fld pDramadm DRAMADM.REF_AHEAD_AHEAD = v → s.fld pDramadm DRAMADM.REF_ENV_MIN = lo →
    s.fld pDramadm DRAMADM.REF_ENV_MAX = hi → (if s.dram.refBehind then v + 1 else if s.dram.refIdle then v else v - 1) = w →
    (if w < lo ∨ hi < w then s.dram.pin + 1 else 0) = n →
    ∃ t, exec .refAheadUpdate s = .next t ∧
      t.regs = (if n = 256 then (s.setFld pDramadm DRAMADM.REF_AHEAD_AHEAD (clampInt lo hi w).toNat).raise pDramadm
        DRAMADM.evLOOP_PINNED else s.setFld pDramadm DRAMADM.REF_AHEAD_AHEAD (clampInt lo hi w).toNat).regs ∧
      t.dram = { s.dram with pin := n, refBehind := false, refIdle := false, refAt := s.tb.beat + 1 }) ∧
  (∀ s : State, (s.onTick 65536 = false ∨ s.dram.winAt = s.tb.beat + 1) → exec .arbiterWindowEnd s = .next s) ∧
  (∀ (s : State) (n : Nat), s.onTick 65536 = true → s.dram.winAt ≠ s.tb.beat + 1 →
    (if (s.dram.waiting.any (fun q => q.committed && !q.timed)) = true then s.dram.admitted - s.dram.served else 0) = n →
    ∃ t, exec .arbiterWindowEnd s = .next t ∧ t.dram = { s.dram with
      short := decide (0 < n), admitted := 0, served := 0, excPrev := s.dram.excCur, excCur := []
      hotWin := false, slowWin := false, eccWin := false, winAt := s.tb.beat + 1 } ∧
    (n = 0 → t.regs = s.regs))

/-- Where a tile's next instruction is the one named and issues: NOP changes only the PC; a branch that is taken sets PC = PC
+ IMM modulo 2^32, the tile issuing again two cycles later, and one that is not taken moves past itself, BZ, BNZ, BLT and
BGE testing s[RA] against 0 or, signed, against s[RB]; GETS stores the special value that IMM names, notes values that
depend on the arrangement of the run, and needs USES_SID for SID; the eleven scalar operations, ADDI and LIH store their
result modulo 2^64 in s[RD], s0 ignoring writes. Each issued instruction counts in T_ISSUED. Rests on: R384, R386, R387,
R388, R615, Chapter 10. -/
def Obligations.ScalarInstructionsComplete : Prop :=
  ∀ (s : State) (t : Fin 64) (i : Issue) (n : Ins) (a b : Nat), i.c.sreg n.ra = a → i.c.sreg n.rb = b →
  (∀ (taken : State), ((s.putCtx i { i.c with pc := unsg 32 ((i.c.pc : Int) + n.imm) }).issued i.h i.t).freeFrom i.t (s.tb.beat + 3) = taken →
    (s.nextIs t 0 2 Ins.none i n = true → exec (.br t) s = .next taken) ∧
    (s.nextIs t 0 3 (fun n => [n.ra]) i n = true → exec (.bz t) s = .next (if a = 0 then taken else s.retire i i.c)) ∧
    (s.nextIs t 0 4 (fun n => [n.ra]) i n = true → exec (.bnz t) s = .next (if a = 0 then s.retire i i.c else taken)) ∧
    (s.nextIs t 0 5 Ins.raRb i n = true →
      exec (.blt t) s = .next (if sgn 64 a < sgn 64 b then taken else s.retire i i.c)) ∧
    (s.nextIs t 0 6 Ins.raRb i n = true →
      exec (.bge t) s = .next (if sgn 64 b ≤ sgn 64 a then taken else s.retire i i.c))) ∧
  (s.nextIs t 0 0 Ins.none i n = true → exec (.nop t) s = .next (s.retire i i.c)) ∧
  (s.nextIs t 0 8 (fun n => [n.rd]) i n = true → ∀ (v : Nat) (arr : Bool), 0 ≤ n.imm →
    s.special i n.imm.toNat = some (v, arr) → (n.imm = 9 → i.r.usesSid = true) →
    exec (.gets t) s = .next ((if arr = true then s.setRunFlag i.h 10 else s).retire i (i.c.setS n.rd v))) ∧
  (s.nextIs t 1 0 Ins.rdRaRb i n = true → exec (.add t) s = .next (s.retire i (i.c.setS n.rd (a + b)))) ∧
  (s.nextIs t 1 1 Ins.rdRaRb i n = true → exec (.sub t) s = .next (s.retire i (i.c.setS n.rd (a + 2 ^ 64 - b)))) ∧
  (s.nextIs t 1 2 Ins.rdRaRb i n = true → exec (.mul t) s = .next (s.retire i (i.c.setS n.rd (a * b)))) ∧
  (s.nextIs t 1 3 Ins.rdRaRb i n = true → exec (.and t) s = .next (s.retire i (i.c.setS n.rd (a &&& b)))) ∧
  (s.nextIs t 1 4 Ins.rdRaRb i n = true → exec (.or t) s = .next (s.retire i (i.c.setS n.rd (a ||| b)))) ∧
  (s.nextIs t 1 5 Ins.rdRaRb i n = true → exec (.xor t) s = .next (s.retire i (i.c.setS n.rd (a ^^^ b)))) ∧
  (s.nextIs t 1 6 Ins.rdRaRb i n = true → exec (.shl t) s = .next (s.retire i (i.c.setS n.rd (a <<< (b % 64))))) ∧
  (s.nextIs t 1 7 Ins.rdRaRb i n = true → exec (.shr t) s = .next (s.retire i (i.c.setS n.rd (a >>> (b % 64))))) ∧
  (s.nextIs t 1 8 Ins.rdRaRb i n = true →
    exec (.sra t) s = .next (s.retire i (i.c.setS n.rd (unsg 64 (sgn 64 a >>> (b % 64)))))) ∧
  (s.nextIs t 1 9 Ins.rdRaRb i n = true →
    exec (.slt t) s = .next (s.retire i (i.c.setS n.rd (if sgn 64 a < sgn 64 b then 1 else 0)))) ∧
  (s.nextIs t 1 10 Ins.rdRaRb i n = true →
    exec (.sltu t) s = .next (s.retire i (i.c.setS n.rd (if a < b then 1 else 0)))) ∧
  (s.nextIs t 1 0x10 Ins.rdRa i n = true →
    exec (.addi t) s = .next (s.retire i (i.c.setS n.rd (unsg 64 ((a : Int) + n.imm))))) ∧
  (s.nextIs t 1 0x11 Ins.rdRa i n = true →
    exec (.lih t) s = .next (s.retire i (i.c.setS n.rd (unsg 64 (n.imm * 2 ^ 32 + ((a % 2 ^ 32 : Nat) : Int))))))

/-- Where a tile's next instruction is the one named and issues, each lane selected by p[PRED] and PNEG takes the operation's
result modulo 2^32 and every other lane is unchanged: the integer and fp32 operations on v[RA] and v[RB], the dot products
and the fused multiply-add adding to v[RD], the conversions of v[RA], requantisation by s[RB] and IMM[4:0], VBCAST, VLANE
and VRND; VSEL writes every lane; the lane trees write every lane with the tree of v[RA]; the compares write p[RD[2:0]],
p0 ignoring writes; VEXT stores one lane, sign-extended, in s[RD]. Rests on: R386, R387, R388, R389, R390, R405, R406,
Chapter 10. -/
def Obligations.VectorInstructionsComplete : Prop :=
  ∀ (s : State) (t : Fin 64) (i : Issue) (n : Ins) (res : (Nat → Nat) → State) (a b d : Nat → Nat),
  (∀ f, res f = s.retire i (i.c.setV n.rd (i.c.sel n) f)) → (∀ l, a l = i.c.lane n.ra l) → (∀ l, b l = i.c.lane n.rb l) →
  (∀ l, d l = i.c.lane n.rd l) →
  (s.nextIs t 2 0 Ins.rdRaRb i n = true → exec (.vadd t) s = .next (res fun l => a l + b l)) ∧
  (s.nextIs t 2 1 Ins.rdRaRb i n = true → exec (.vsub t) s = .next (res fun l => a l + 2 ^ 32 - b l)) ∧
  (s.nextIs t 2 2 Ins.rdRaRb i n = true → exec (.vmul t) s = .next (res fun l => a l * b l)) ∧
  (s.nextIs t 2 3 Ins.rdRaRb i n = true → exec (.vand t) s = .next (res fun l => a l &&& b l)) ∧
  (s.nextIs t 2 4 Ins.rdRaRb i n = true → exec (.vor t) s = .next (res fun l => a l ||| b l)) ∧
  (s.nextIs t 2 5 Ins.rdRaRb i n = true → exec (.vxor t) s = .next (res fun l => a l ^^^ b l)) ∧
  (s.nextIs t 2 6 Ins.rdRaRb i n = true → exec (.vshl t) s = .next (res fun l => a l <<< (b l % 32))) ∧
  (s.nextIs t 2 7 Ins.rdRaRb i n = true → exec (.vshr t) s = .next (res fun l => a l >>> (b l % 32))) ∧
  (s.nextIs t 2 8 Ins.rdRaRb i n = true → exec (.vsra t) s = .next (res fun l => unsg 32 (sgn 32 (a l) >>> (b l % 32)))) ∧
  (s.nextIs t 2 9 Ins.rdRaRb i n = true → exec (.vmin t) s =
    .next (res fun l => if sgn 32 (b l) < sgn 32 (a l) then b l else a l)) ∧
  (s.nextIs t 2 10 Ins.rdRaRb i n = true → exec (.vmax t) s =
    .next (res fun l => if sgn 32 (a l) < sgn 32 (b l) then b l else a l)) ∧
  (s.nextIs t 2 0x0D Ins.rdRa i n = true → exec (.vbcast t) s = .next (res fun _ => i.c.sreg n.ra)) ∧
  (s.nextIs t 2 0x0E Ins.rdRaRb i n = true → exec (.vsel t) s = .next (s.retire i (i.c.setV n.rd (fun _ => true)
    fun l => if i.c.sel n l = true then a l else b l))) ∧
  (s.nextIs t 2 0x10 Ins.rdRaRb i n = true → exec (.vdot4 t) s = .next (res fun l => dot4 (a l) (b l) (d l) false)) ∧
  (s.nextIs t 2 0x11 Ins.rdRaRb i n = true → exec (.vdot4u t) s = .next (res fun l => dot4 (a l) (b l) (d l) true)) ∧
  (s.nextIs t 2 0x12 Ins.rdRaRb i n = true → exec (.vreq t) s =
    .next (res fun l => requant (a l) (i.c.sreg n.rb) (unsg 5 n.imm))) ∧
  (s.nextIs t 2 0x13 (fun n => [n.rd]) i n = true → exec (.vlane t) s = .next (res fun l => l)) ∧
  (s.nextIs t 2 0x14 Ins.rdRa i n = true → exec (.vext t) s =
    .next (s.retire i (i.c.setS n.rd (unsg 64 (sgn 32 (a (unsg 4 n.imm))))))) ∧
  (s.nextIs t 3 0 Ins.rdRaRb i n = true → exec (.vfadd t) s = .next (res fun l => fpAdd (a l) (b l))) ∧
  (s.nextIs t 3 1 Ins.rdRaRb i n = true → exec (.vfsub t) s = .next (res fun l => fpSub (a l) (b l))) ∧
  (s.nextIs t 3 2 Ins.rdRaRb i n = true → exec (.vfmul t) s = .next (res fun l => fpMul (a l) (b l))) ∧
  (s.nextIs t 3 3 Ins.rdRaRb i n = true → exec (.vffma t) s = .next (res fun l => fpFma (a l) (b l) (d l))) ∧
  (s.nextIs t 3 4 Ins.rdRaRb i n = true → exec (.vfmax t) s = .next (res fun l => fpMax (a l) (b l))) ∧
  (s.nextIs t 3 5 Ins.rdRaRb i n = true → exec (.vfmin t) s = .next (res fun l => fpMin (a l) (b l))) ∧
  (s.nextIs t 3 6 Ins.rdRa i n = true → exec (.vcvtif t) s = .next (res fun l => fpOfInt (a l))) ∧
  (s.nextIs t 3 7 Ins.rdRa i n = true → exec (.vcvtfi t) s = .next (res fun l => fpToInt (a l))) ∧
  (∀ (p : (Nat → Nat → Bool) → State), (∀ f, p f = s.retire i (i.c.setP (n.rd % 8) ((List.range 16).foldl
      (fun m l => putBit m l (i.c.sel n l && f (a l) (b l))) 0))) →
    (s.nextIs t 2 0x0B Ins.raRb i n = true → exec (.vcmpeq t) s = .next (p fun x y => x == y)) ∧
    (s.nextIs t 2 0x0C Ins.raRb i n = true → exec (.vcmplt t) s = .next (p fun x y => decide (sgn 32 x < sgn 32 y))) ∧
    (s.nextIs t 3 8 Ins.raRb i n = true → exec (.vfcmplt t) s = .next (p fpLt))) ∧
  (∀ (tree : Nat → State), (∀ op, tree op = s.retire i (i.c.setV n.rd (fun _ => true)
      fun _ => treeOf (redOp op 32) 4 (i.c.vec n.ra))) →
    (s.nextIs t 6 0x20 Ins.rdRa i n = true → exec (.vltreeIadd t) s = .next (tree 0)) ∧
    (s.nextIs t 6 0x21 Ins.rdRa i n = true → exec (.vltreeFadd t) s = .next (tree 1)) ∧
    (s.nextIs t 6 0x22 Ins.rdRa i n = true → exec (.vltreeImax t) s = .next (tree 2)) ∧
    (s.nextIs t 6 0x23 Ins.rdRa i n = true → exec (.vltreeImin t) s = .next (tree 3)) ∧
    (s.nextIs t 6 0x24 Ins.rdRa i n = true → exec (.vltreeFmax t) s = .next (tree 4)) ∧
    (s.nextIs t 6 0x25 Ins.rdRa i n = true → exec (.vltreeFmin t) s = .next (tree 5))) ∧
  (s.nextIs t 7 0 Ins.rdRa i n = true → ∀ k stream : Nat, i.r.slot = k →
    (if s.slotNative k = true then (s.slotStream k + s.slotChip k) % 2 ^ 32 else s.slotStream k) = stream →
    exec (.vrnd t) s = .next (res fun l => rngWord (s.slotSeed k) (s.slotStep k) stream
      (i.c.leaf % 64 * 2 ^ 26 + l * 2 ^ 22 + i.c.sreg n.ra % 2 ^ 22) (unsg 2 n.imm)))

/-- Where a tile's next instruction is the one named and issues, and the words it reads from its SRAM are not in error beyond
repair: a load at s[RA] + IMM inside the window and aligned to its width writes its register with the bytes there; a store
writes those bytes, VST those of the selected lanes; both hit the watchpoints they cross; a read that was corrected counts
in T_ECC_CORRECTED and raises ECC_CORR first. DMAGET and DMAPUT of at most 1,024 blocks between an aligned window range
and DRAM that the household may reach start a transfer, DMAPUT with the bytes the window holds now; DMAWAIT completes
where no transfer is outstanding, and otherwise waits. DMA_COMPLETE ends the oldest transfer. A POP with the step item
obtained copies its words to the window and its length to s[RD]; POP_ITEM_OBTAINED does the same for a waiting POP. EMIT
of at most 1,000 words to a queue of the household stages an item. Rests on: R386, R387, R398, R399, R408, R411, R614,
R618. -/
def Obligations.MemoryAndQueueInstructionsComplete : Prop :=
  ∀ (s u : State) (t : Fin 64) (i : Issue) (n : Ins) (e : EccResult), e ≠ .uncorrectable →
  (if e = .corrected then (s.bump (pTile i.t) TILE.T_ECC_CORRECTED).raiseBy (pTile i.t) TILE.evECC_CORR i.h else s) = u →
  (∀ off, i.offset n = off →
    (i.winFault off 64 64 = none →
      (s.nextIs t 4 0 Ins.rdRa i n = true → exec (.vld ⟨t, e⟩) s =
        .next ((u.retire i (i.c.setV n.rd (fun _ => true)
          fun l => ofLeBytes (((i.x.bytes (i.addr off) 64).drop (4 * l)).take 4))).watch i off 64 false)) ∧
      (s.nextIs t 4 1 Ins.rdRa i n = true → ∀ x : TileSt, ((List.range 16).filter (i.c.sel n)).foldl
          (fun (x : TileSt) l => x.put (i.addr off + 4 * l) (leBytes 4 (i.c.lane n.rd l))) i.x = x →
        exec (.vst t) s = .next (((s.setTl i.t x).retire { i with x := x } i.c).watch { i with x := x } off 64 true))) ∧
    (i.winFault off 8 8 = none →
      (s.nextIs t 4 2 Ins.rdRa i n = true → exec (.sld ⟨t, e⟩) s =
        .next ((u.retire i (i.c.setS n.rd (ofLeBytes (i.x.bytes (i.addr off) 8)))).watch i off 8 false)) ∧
      (s.nextIs t 4 3 Ins.rdRa i n = true → ∀ x : TileSt, i.x.put (i.addr off) (leBytes 8 (i.c.sreg n.rd)) = x →
        exec (.sst t) s = .next (((s.setTl i.t x).retire { i with x := x } i.c).watch { i with x := x } off 8 true)))) ∧
  (∀ a off len : Nat, 0 < n.imm → n.imm ≤ 1024 → 64 * n.imm.toNat = len → i.c.sreg n.ra = a → i.c.sreg n.rb = off →
    i.winFault off len 64 = none → s.dramMapped a len = true → s.dramMay i.h a len = true →
    (s.nextIs t 4 8 Ins.raRb i n = true → exec (.dmaget t) s = .next ((((s.trackGet i.h a len).retire i { i.c with
      dma := i.c.dma ++ [⟨false, a, off, len, []⟩] }).dramAsk a len (256 + i.h) false).watch i off len true)) ∧
    (s.nextIs t 4 9 Ins.raRb i n = true → exec (.dmaput ⟨t, e⟩) s = .next ((((u.trackPut i.h a len).retire i { i.c with
      dma := i.c.dma ++ [⟨true, a, off, len, i.x.bytes (i.addr off) len⟩] }).dramAsk a len (256 + i.h) false).watch i off
        len false))) ∧
  (s.nextIs t 4 0x0A Ins.none i n = true → exec (.dmawait t) s =
    .next (if i.c.dma = [] then s.retire i i.c else s.putCtx i { i.c with dmaWait := true })) ∧
  (∀ (leaf : Fin 64) (x : TileSt) (k : Nat) (r : RunSt) (c : LeafSt) (d : DmaSt) (rest : List DmaSt), s.tl t = x →
    x.ctxs.findIdx? (fun c => c.leaf == leaf.val) = some k → s.runOf (s.tileOwner t) = some r → x.ctxs[k]? = some c →
    c.dma = d :: rest → c.dmaWait = false →
    (d.put = false → ∀ (bs : List Byte) (b : Bool) (v : State),
      (s.dramDone (256 + s.tileOwner t) d.len).dramFetch d.dram d.len = (bs, b, v) →
      exec (.dmaComplete t leaf) s = .next (v.setTl t { x with
      sram := (x.put (winBase r.leafSram k + d.win) bs).sram
      ctxs := modifyNth (fun (c : LeafSt) => { c with dma := rest }) x.ctxs k })) ∧
    (d.put = true → exec (.dmaComplete t leaf) s =
      .next (((s.dramDone (256 + s.tileOwner t) d.len).dramStore d.dram d.data).setTl t { x with
        ctxs := modifyNth (fun (c : LeafSt) => { c with dma := rest }) x.ctxs k }))) ∧
  (s.nextIs t 5 0 Ins.rdRaRb i n = true → 0 ≤ n.imm → i.winFault (i.c.sreg n.rb) (8 * n.imm.toNat) 1 = none →
    ∀ u : State, (if i.r.tried = true then s else s.portTake i.h i.r) = u →
    (∀ r, u.runOf i.h = some r → r.got = true → exec (.pop t) s = .next (u.popFinish i n)) ∧
    (∀ r, u.runOf i.h = some r → r.got = false → exec (.pop t) s = .next (u.putCtx i { i.c with popWait := true }))) ∧
  (∀ (x : TileSt) (r : RunSt) (c : LeafSt), s.tl t = x → s.runOf (s.tileOwner t) = some r → x.ctxs[x.cur]? = some c →
    r.got = true → c.popWait = true → exec (.popItemObtained t) s =
      .next (s.popFinish ⟨s.tileOwner t, r, t, x, c⟩ (insOf (ofLeBytes (x.bytes c.pc 8))))) ∧
  (∀ (r : RunSt) (q : Nat) (ws : List Nat), s.nextIs t 5 1 Ins.raRb i n = true → 0 ≤ n.imm → n.imm ≤ 1000 →
    i.winFault (i.c.sreg n.rb) (8 * n.imm.toNat) 1 = none → i.c.sreg n.ra % 256 = q → s.qOwner q = i.h →
    (List.range n.imm.toNat).map (fun k => ofLeBytes (i.x.bytes (i.addr (i.c.sreg n.rb) + 8 * k) 8)) = ws →
    (u.retire i i.c).runOf i.h = some r →
    exec (.emit ⟨t, e⟩) s = .next (((u.retire i i.c).setRun i.h { r with emits := r.emits ++ [⟨i.c.leaf, q, ws⟩] }).watch i
      (i.c.sreg n.rb) (8 * n.imm.toNat) false))

/-- Where a tile's next instruction is the one named and issues: HALT ends its leaf, STEP and BAR wait at their barrier, and a
reduction across leaves waits with its operand, one scalar for SRED and 16 lanes for VRED. TRAP stops the run with code 8,
T_FAULT holding IMM[7:0]. Where an enabled breakpoint stands at the next instruction, BREAKPOINT_HIT records it and the
instruction does not execute; a word with a reserved CLASS or an unlisted OP faults with ILLEGAL, code 1. Rests on: R386,
R387, R400, R401, R402, R407, R414. -/
def Obligations.BarrierInstructionsComplete : Prop :=
  ∀ (s : State) (t : Fin 64) (i : Issue) (n : Ins),
  (s.nextIs t 0 1 Ins.none i n = true → exec (.halt t) s = .next (s.reach i none)) ∧
  (s.nextIs t 8 0 Ins.none i n = true → exec (.step t) s = .next (s.reach i (some ⟨8, 0, 0, []⟩))) ∧
  (s.nextIs t 8 1 Ins.none i n = true → exec (.bar t) s = .next (s.reach i (some ⟨8, 1, 0, []⟩))) ∧
  (s.nextIs t 0 7 Ins.none i n = true →
    exec (.trap t) s = .next (s.leafFault i.h i.t i.c 8 (unsg 8 n.imm))) ∧
  (∀ v : List Nat, i.c.vec n.ra = v →
    (s.nextIs t 6 0 Ins.rdRa i n = true → exec (.vredIadd t) s = .next (s.reach i (some ⟨6, 0, n.rd, v⟩))) ∧
    (s.nextIs t 6 1 Ins.rdRa i n = true → exec (.vredFadd t) s = .next (s.reach i (some ⟨6, 1, n.rd, v⟩))) ∧
    (s.nextIs t 6 2 Ins.rdRa i n = true → exec (.vredImax t) s = .next (s.reach i (some ⟨6, 2, n.rd, v⟩))) ∧
    (s.nextIs t 6 3 Ins.rdRa i n = true → exec (.vredImin t) s = .next (s.reach i (some ⟨6, 3, n.rd, v⟩))) ∧
    (s.nextIs t 6 4 Ins.rdRa i n = true → exec (.vredFmax t) s = .next (s.reach i (some ⟨6, 4, n.rd, v⟩))) ∧
    (s.nextIs t 6 5 Ins.rdRa i n = true → exec (.vredFmin t) s = .next (s.reach i (some ⟨6, 5, n.rd, v⟩)))) ∧
  (∀ v : Nat, i.c.sreg n.ra = v →
    (s.nextIs t 6 0x10 Ins.rdRa i n = true → exec (.sredIadd t) s = .next (s.reach i (some ⟨6, 0x10, n.rd, [v]⟩))) ∧
    (s.nextIs t 6 0x11 Ins.rdRa i n = true → exec (.sredFadd t) s = .next (s.reach i (some ⟨6, 0x11, n.rd, [v]⟩))) ∧
    (s.nextIs t 6 0x12 Ins.rdRa i n = true → exec (.sredImax t) s = .next (s.reach i (some ⟨6, 0x12, n.rd, [v]⟩))) ∧
    (s.nextIs t 6 0x13 Ins.rdRa i n = true → exec (.sredImin t) s = .next (s.reach i (some ⟨6, 0x13, n.rd, [v]⟩))) ∧
    (s.nextIs t 6 0x14 Ins.rdRa i n = true → exec (.sredFmax t) s = .next (s.reach i (some ⟨6, 0x14, n.rd, [v]⟩))) ∧
    (s.nextIs t 6 0x15 Ins.rdRa i n = true → exec (.sredFmin t) s = .next (s.reach i (some ⟨6, 0x15, n.rd, [v]⟩)))) ∧
  (s.issuing t = some i → ∀ b : Nat, s.bpAt i = some b → exec (.breakpointHit t) s = .next (s.bpHit i b)) ∧
  (s.issuing t = some i → ∀ w : Nat, i.fetch = .ok w → insOf w = n → insLegal n.cls n.op = false → s.bpAt i = none →
    exec (.illegalInstruction t) s = .next (s.leafFault i.h i.t i.c 1 1))

/-- Where the write is served: LOAD of a slot whose image passes the checks, with no slot of the household LOADING or RUNNING,
sets the slot LOADING and takes note of the weights; SLOT_LOAD_DONE, 80 ns for each block of the image after LOAD or
later, of an image whose program digest agrees copies the code, sets the slot LOADED with its sizes, empties the
household's other slots and raises LOAD_DONE, and a read that failed or a digest that differs ends the load; LAUNCH with
no refusal cause sets the slot RUNNING with its step at STEP_BASE and the launch count recorded, and with a cause records
it and raises LAUNCH_REFUSED; RUN_FIRST_ISSUE, 3,200 beats after the launch or later, lets every tile of the run issue;
ABORT of a RUNNING slot ends its run as aborted. Rests on: R391, R392, R393, R394, R395, R412, R416, R611, R635, Chapter
10. -/
def Obligations.SlotCommandsComplete : Prop :=
  ∀ (s : State) (a : Acc) (k : Fin 16) (h : Nat), s.slotOwner k = h →
  (s.serves a pSieve (0x200 + 0x80 * k.val) true = true →
    ((List.range 16).any (fun j => s.slotOwner j == h && (s.slotState j == 1 || s.slotState j == 3)) = false →
      s.imageErr k = 0 → ∀ w u : State, { (s.answer [0]).setFld pSieve (SIEVE.STATUS_STATE.at k) 1 with
        img := Tab.insert s.img k ⟨[], 0, 0, 0, 0, 0, a.hh, s.tb.beat⟩ } = u →
      u.setPv h { u.pvOf h with
        weights := if (s.weightsOf k).2 = 0 then none else some (s.weightsOf k)
        written := false
        dirty := false } = w →
      exec (.slotLoad a k) s = .next w) ∧
    (s.launchCause k ≠ 0 → exec (.slotLaunch a k) s =
      .next (((s.answer [0]).setFld pSieve (SIEVE.STATUS_REFUSE.at k) (s.launchCause k)).raiseBy pSieve
        SIEVE.evLAUNCH_REFUSED a.hh)) ∧
    (∀ (g : SlotImg) (u v : State) (r : RunSt), Tab.lookup s.img k = some g → s.launchCause k = 0 →
      (numbered 0 (s.tileSet h)).foldl (fun t e => t.launchTile k g (s.tileSet h).length e.2 e.1) (s.answer [0]) = u →
      (((u.setFld pSieve (SIEVE.STATUS_STATE.at k) 3).setPair pSieve (SIEVE.STEP_LO_STEP.at k) (SIEVE.STEP_HI_STEP.at k)
        (s.slotStepBase k)).setPair pSieve (SIEVE.LAUNCH_SID_LO_T.at k) (SIEVE.LAUNCH_SID_HI_T.at k) s.tb.count) = v →
      { slot := k, launched := s.tb.count, started := false, tiles := s.tileSet h, entry := g.entry, codeSize := g.codeSize,
        leafSram := g.leafSram, usesSid := bitAt g.flags 2, tried := false, got := false, digested := false, takeAt := 0,
        takeRef := 0, anchor := false, gotAt := 0, emits := [], poison := [], redDone := false, readyAt := 0, readyRef := 0,
        sentRef := 0, sentRty := 0, faults := [], refUntil := 0, resumeAt := 0, active := false, haltReq := none } = r →
      exec (.slotLaunch a k) s = .next ((((v.setFld pSieve SIEVE.RUNNING_RUNNING (setBit
        (((u.setFld pSieve (SIEVE.STATUS_STATE.at k) 3).setPair pSieve (SIEVE.STEP_LO_STEP.at k) (SIEVE.STEP_HI_STEP.at k)
          (s.slotStepBase k)).runningMask) h)).setRun h r).provLaunch h r).setPair pDebug (DEBUG.HALT_TICKS_LO_N.at h)
        (DEBUG.HALT_TICKS_HI_N.at h) 0)) ∧
    exec (.slotAbort a k) s = .next ((List.range 8).foldl (fun t h => match t.runOf h with
      | some r => if r.slot = k then t.abortRun h r 0 else t
      | none => t) (s.answer [0]))) ∧
  (s.slotState k = 1 → s.imageErr k = 0 → ∀ who t0 : Nat, (match Tab.lookup s.img k with
      | some m => m.by_
      | none => h) = who → (match Tab.lookup s.img k with
      | some m => m.at_
      | none => 0) = t0 → t0 + 80 * s.loadBlocks k ≤ s.tb.beat →
    exec (.slotLoadDone k false) s = .next ((s.raiseBy pProv PROV.evWEIGHTS_READ_ERR h).loadFail k 5 who) ∧
    ∀ (cs ks : Nat) (hd body prog : List Byte) (u : State), s.dramRead (s.imageAddr k) 128 = hd → imgField hd 0x08 4 = cs →
      imgField hd 0x0C 4 = ks → s.dramRead (s.imageAddr k + 128) (cs + ks) = body →
      sha256 (hd.take 32 ++ hd.drop 64 ++ body) = prog →
      (s.putDigest h PROV.PROG_DIGEST_W prog).putDigest h PROV.WEIGHTS_DIGEST_W
        (if (s.weightsOf k).2 = 0 then zeroDigest else sha256 (s.dramRead (s.weightsOf k).1 (s.weightsOf k).2)) = u →
      (prog ≠ (hd.drop 32).take 32 → exec (.slotLoadDone k true) s = .next (u.loadFail k 4 who)) ∧
      (prog = (hd.drop 32).take 32 → ∀ v x : State,
        (List.range 16).foldl (fun t j => if j ≠ k.val ∧ t.slotOwner j = h ∧ t.slotState j ≠ 0 then
          t.setFld pSieve (SIEVE.STATUS_STATE.at j) 0 else t)
          (u.copyCode (body.take cs) (body.drop cs) (u.tileSet h)) = v →
        { v with img := (Tab.insert v.img k
          ⟨u.tileSet h, imgField hd 0x14 4, cs, ks, imgField hd 0x10 4, imgField hd 0x06 2, who, t0⟩) } = x →
        exec (.slotLoadDone k true) s = .next (((((x.setFld pSieve (SIEVE.STATUS_STATE.at k) 2).setFld pSieve
          (SIEVE.STATUS_IMG_ERR.at k) 0).setFld pSieve (SIEVE.IMG_INFO_LEAF_SRAM64.at k) (imgField hd 0x10 4 / 64)).setFld
          pSieve (SIEVE.IMG_INFO_CODE_SIZE8.at k) (cs / 8)).raiseBy pSieve SIEVE.evLOAD_DONE who))) ∧
  (∀ (hh : Fin 8) (r : RunSt), s.runOf hh = some r → r.started = false → r.launched + 3200 ≤ s.tb.count →
    exec (.runFirstIssue hh) s =
    .next ((r.tiles.foldl (fun t n => if (t.tl n).ctxs.isEmpty = true then t else
      t.tileState n (if (t.tl n).halted = true then 4 else 2)) s).setRun hh { r with started := true }))

/-- Where every leaf of a run stands at its barrier, no tile of it has faulted and nothing that precedes a step's end waits: a
STEP whose item, if it has one, is digested charges the result of the other chips, commits the staged items, moves the
step on and releases the item; BAR changes no step; a reduction writes its result, taken over this chip's leaves and over
the chips' roots in chip order, to every leaf; the leaves then resume. A failure of another chip ends a run of several
chips with code 12, and a missing contribution, at the collector and not before RED_TMO has passed, with code 10.
TAKE_RETRY, at a multiple of 64 ticks from the launch, repeats a TAKE that found no item; QUEUE_TAKE of the run's own
input by a served access takes the step item. A served access to tile SRAM reads its bytes, or writes those that are open
to it and marks or counts the write. Rests on: R398, R400, R402, R403, R404, R410, R414, R468, R610, R613, R623, R688. -/
def Obligations.RunCommandsComplete : Prop :=
  (∀ (s : State) (h : Fin 8) (r : RunSt) (m n age : BitVec 32) (b : BarAt) (halted : Bool) (u : State), s.runOf h = some r →
    s.barrierOf r = some b → r.faults = [] → s.stands (beforeStep h) = false →
    (s.crossed h r m.toNat n.toNat age.toNat).heardHalt h r halted = u →
    (b.cls = 8 → b.op ≠ 0 → exec (.barrierComplete h ⟨m, age⟩ n halted) s = .next ((u.setRun h { r with active := true }).resume r id)) ∧
    (b.cls = 8 → b.op = 0 → (r.got = true → r.digested = true) →
      exec (.barrierComplete h ⟨m, age⟩ n halted) s = .next ((u.stepDone h r).resume r id)) ∧
    (∀ (roots : List (List (BitVec 64))) (vals : List Nat), b.cls = 6 →
      (s.slotChips r.slot ≤ 1 → r.readyAt + 40 ≤ s.tb.count) →
      s.reduction r b.op (roots.map (fun v => v.map BitVec.toNat)) = vals →
      exec (.reductionResult h roots ⟨m, age⟩ n halted) s =
        .next ((u.setRun h { r with active := true, redDone := true }).resume r (fun c => c.reduced vals)))) ∧
  (∀ (s : State) (h : Fin 8) (r : RunSt), s.runOf h = some r →
    (1 < s.slotChips r.slot → r.faults = [] → exec (.remoteFail h) s = .next (s.runFail h r 12) ∧
      (s.fld pSieve (SIEVE.CFG_COLLECTOR.at r.slot) = s.fld pFab FAB.STATUS_DEV_NUM →
        r.launched + 3200 + 2 ^ s.fld pSieve (SIEVE.RED_TMO_EXP.at r.slot) ≤ s.tb.count →
        exec (.redTimeout h) s = .next ((s.raiseBy pSieve SIEVE.evRED_TIMEOUT h).runFail h r 10))) ∧
    (r.tried = true → r.got = false → (s.tb.count - r.launched) % 64 = 0 → exec (.takeRetry h) s = .next (s.portTake h r))) ∧
  (∀ (s : State) (a : Acc) (q : Fin 256) (off : Fin 1024) (words : Fin 65) (r : RunSt), a.hh.val < 8 →
    s.qOwner q = a.hh.val → bitAt s.runningMask a.hh = true → s.runOf a.hh = some r → s.slotInQ r.slot = q.val →
    s.boundTo q = [] → s.stands (releasesHeld q) = false → r.got = false → exec (.queueTake a true q off words) s = .next ((s.portTake a.hh r).heldRead q words 0 a.hh)) ∧
  (∀ (s : State) (a : Acc) (t : Fin 64) (off : BitVec 18) (n : Fin 65) (data : List Byte) (x : Nat),
    t * 0x40000 + off.toNat = x → s.por = false → s.tb.dawn = 0 → x + 8 * n ≤ 0x1000000 →
    (tilesOf x (8 * n)).any (fun t => (s.blk (pTile t)).isNone) = false → s.hhReset.contains a.hh.val = false →
    (a.hh = 15 ∨ (tilesOf x (8 * n)).any (fun t => s.tileOwner t != a.hh.val) = false) →
    exec (.tileSramAccess a t off true n data) s = .next ((tilesOf x (8 * n)).foldl (fun u t => u.sramMark a t)
      ((s.answer [0]).sramPut a x ((data ++ List.replicate (8 * n) 0).take (8 * n)))) ∧
    exec (.tileSramAccess a t off false n data) s = .next (s.answer (bytesToWords ((8 * n + 7) / 8)
      ((List.range (8 * n)).map (fun k => (s.tl ((x + k) / 0x40000)).byte ((x + k) % 0x40000))))))

/-- Where the write is served: START in OFF with no refusal cause turns the gates off and begins the diagnostics, or CAL where
they are disabled, and with a cause records it and raises START_REFUSED; STOP in RUN, LOCKING, LOCKED, RAMP, ALIGN, DETECT
or STOPPING is STOPPING, or OFF at once with STOP_MODE; FAULT_CLR clears what may clear; OFFSET_CAL in OFF enters CAL.
CAL's end, the 64th sample after 63 are summed, stores the codes, then the three rounded means of all 64, and goes on, or
to OFF after OFFSET_CAL; DETECT's end, after the 12 vectors, takes the sector with the largest peak, or goes to ALIGN
where the peaks agree; ALIGN's end, at ALIGN_TIME, takes angle 0. A restart, after RESTART_DELAY, begins again at step 3,
RUN without interruption clears the restarts, and a ramp that has stayed at its end for HANDOVER_TMO is a stall. A Hall
code is held; one of another sector is stamped with its direction. A write of a limit or a loop output goes to its page.
Rests on: R302, R303, R304, R305, R306, R315, R322, R325, R326, R327, R328, R333. -/
def Obligations.MotorCommandsComplete : Prop :=
  (∀ (s : State) (a : Acc) (n : Fin 4), s.serves a (pMotor n) 0x100 true = true →
    (s.motorState n = 0 → s.startRefusal n = none → ∀ (t u : State) (m : MotorSt), ((s.answer [0]).gatesOff n).setFld
        (pMotor n) MOTOR.STATUS_FACET_LOCKED 0 = t → (t.mo n).rest = m →
        t.setMo n { m with trimTarget := t.fld (pMotor n) MOTOR.FACET_TRIM_TRIM } = u →
      exec (.motorStart a n) s = .next (if s.on (pGate n) GATE.DIAG_CFG_DIAG_DIS = true then u.setMotorState n 2
        else (u.setMotorState n 1).diagBegin n true)) ∧
    (∀ c : Nat, s.motorState n = 0 → s.startRefusal n = some c → exec (.motorStart a n) s =
      .next ((((s.answer [0]).setFld (pMotor n) MOTOR.STATUS_REFUSE_CAUSE c).raiseBy (pMotor n) MOTOR.evSTART_REFUSED
        a.hh).drew)) ∧
    (3 ≤ s.motorState n → s.motorState n ≤ 9 →
      (s.on (pMotor n) MOTOR.MODE_STOP_MODE = false →
        exec (.motorStop a n) s = .next ((s.answer [0]).setMotorState n 9)) ∧
      (s.on (pMotor n) MOTOR.MODE_STOP_MODE = true → ∀ t : State, (s.answer [0]).motorOff n = t →
        exec (.motorStop a n) s = .next (t.setGt n { t.gt n with diag := 0, cst := 0 }))) ∧
    exec (.motorFaultClr a n) s = .next ((s.answer [0]).faultClr n) ∧
    (s.motorState n = 0 → ∀ t : State, (s.answer [0]).setMotorState n 2 = t → exec (.motorOffsetCal a n) s =
      .next (t.setMo n { t.mo n with calOnly := true, calN := 0, calSum := [] }))) ∧
  (∀ (s r t : State) (n : Fin 4) (u v w : BitVec 14) (sum : Nat → Nat), s.motorState n = 2 → 63 ≤ (s.mo n).calN →
    (∀ k, nth 0 (s.mo n).calSum k = sum k) → s.sampleTick n [u.toNat, v.toNat, w.toNat] = r →
    ((r.setFld pOuvgor (OUVGOR.ADC_OFFSET_OFFSET.at (3 * n)) ((sum 0 + u.toNat + 32) / 64)).setFld pOuvgor
      (OUVGOR.ADC_OFFSET_OFFSET.at (3 * n + 1)) ((sum 1 + v.toNat + 32) / 64)).setFld pOuvgor
      (OUVGOR.ADC_OFFSET_OFFSET.at (3 * n + 2)) ((sum 2 + w.toNat + 32) / 64) = t →
    exec (.motorCalDone n u v w) s = .next (if (s.mo n).calOnly = true then t.motorOff n else t.startAngle n)) ∧
  (∀ (s : State) (n : Fin 4) (peaks : List (Fin 16384)) (l : List Nat) (hi lo : Nat), s.motorState n = 3 →
    12 ≤ (s.detect n).detK →
    (List.range 12).map (fun k => nth 0 (peaks.map Fin.val) k) = l → l.foldl max 0 = hi → l.foldl min hi = lo →
    ((hi - lo) * 32 < lo → exec (.motorDetectDone n peaks) s =
      .next ((s.raise (pMotor n) MOTOR.evDETECT_FAIL).setMotorState n 4)) ∧
    (lo ≤ (hi - lo) * 32 → exec (.motorDetectDone n peaks) s =
      .next ((s.setFld (pMotor n) MOTOR.STATUS_SECTOR (l.findIdx (· == hi))).angleTaken n
        (l.findIdx (· == hi) * 2 ^ 32 / 12)))) ∧
  (∀ (s : State) (n : Fin 4),
    (s.motorState n = 4 → (s.mo n).stateAt + s.fld (pMotor n) MOTOR.ALIGN_ALIGN_TIME * 65536 ≤ s.tb.beat →
      exec (.motorAlignDone n) s = .next (s.angleTaken n 0)) ∧
    (s.motorState n = 10 → (s.mo n).stateAt + s.fld (pMotor n) MOTOR.RESTART_DELAY * 65536 ≤ s.tb.beat → ∀ t : State,
      (s.bump (pMotor n) MOTOR.STATUS_RESTARTS).raise (pMotor n) MOTOR.evRESTART = t →
      exec (.motorRestart n) s = .next ((t.setMo n (t.mo n).rest).startAngle n)) ∧
    (s.motorState n = 6 ∨ s.motorState n = 7 ∨ s.motorState n = 8 → (s.mo n).runAt + 2 ^ 30 ≤ s.tb.beat →
      exec (.restartsClear n) s = .next (s.setFld (pMotor n) MOTOR.STATUS_RESTARTS 0)) ∧
    (∀ b : Nat, s.motorState n = 5 → (s.mo n).rampTop = some b →
      b + s.fld (pMotor n) MOTOR.HANDOVER_TMO * 65536 ≤ s.tb.beat →
      exec (.handoverTimeout n) s = .next ((s.raise (pMotor n) MOTOR.evHANDOVER_FAIL).stall n)) ∧
    (∀ (code : Fin 8) (old : Nat) (m : MotorSt), s.hallNow n = old →
      { s.mo n with hallCode := code.val, hallSector := old } = m →
      (s.hallSector n code = none ∨ s.hallSector n code = some old → exec (.hallTransition n code) s = .next (s.setMo n m)) ∧
      (∀ x : Nat, s.hallSector n code = some x → x ≠ old → exec (.hallTransition n code) s = .next (s.setMo n { m with
        hallSector := x, hallPrev := m.hallAt, hallAt := s.tb.beat
        hallDir := if (old + 1) % 6 = x then 1 else if (x + 1) % 6 = old then -1 else m.hallDir })))) ∧
  (∀ (s : State) (a : Acc) (p : Fin 512) (off : Fin 1024) (w : Word), s.serves a p (4 * off) true = true →
    (isLimitReg p (4 * off) = true →
      exec (.protectionLimitWrite a p off w) s = .next ((s.answer [0]).driveWrite a p (4 * off) w.toNat)) ∧
    (isLoopReg p (4 * off) = true →
      exec (.loopOutputWrite a p off w) s = .next ((s.answer [0]).driveWrite a p (4 * off) w.toNat)))

/-- MOTOR_UPDATE of an enabled channel, no OBS_ENV write waiting, stores its samples; CAL sums them and DETECT watches its
vector; in the driven states the angle, the speed, the ramp or the loops and the new duties follow; elsewhere nothing more
changes. A facet edge in LOCKED, the trim at rest, moves the trim's target by the wrapped error and records the error;
while the trim moves the edge is only noted. A temperature update, at multiples of 65,536, stores the code, the derated
limit clamped to its envelope, and the derating condition, and trips where the code reaches TD_TRIP. A cycle-by-cycle trip
turns the phase's conducting switch off to the end of the period and counts it, and at CBC_MAX raises OVERCURRENT. A
period start of an enabled generator, once due, runs the dead-time loop, applies PERIOD shadows, takes the values in force
and ends the cycle's protection. A command edge sends the scheduled commands and counts dropped pulses; a link loss
latches and turns the gates off until a valid word. Rests on: R309, R321, R323, R324, R326, R340, R344, R345, R348, R349,
R352, Table 8.8. -/
def Obligations.DriveUpdatesComplete : Prop :=
  (∀ (s t : State) (n : Fin 4) (u v w : BitVec 14), s.enabled (pMotor n) = true →
    s.stands (writesField (pMotor n) MOTOR.OBS_ENV_MAX) = false →
    (if (s.sampleAdc n [u.toNat, v.toNat, w.toNat]).boundary (pMotor n) = 1 then
      (s.sampleAdc n [u.toNat, v.toNat, w.toNat]).applyMotor n else s.sampleAdc n [u.toNat, v.toNat, w.toNat]) = t →
    (t.motorState n < 2 ∨ 9 < t.motorState n → exec (.motorUpdate n u v w) s = .next t) ∧
    (t.motorState n = 2 → exec (.motorUpdate n u v w) s = .next (t.calSample n [u.toNat, v.toNat, w.toNat])) ∧
    (t.motorState n = 3 → exec (.motorUpdate n u v w) s = .next (t.detectSample n)) ∧
    (∀ (th : Nat) (sp : Int), t.rotor n = (th, sp) →
      (t.motorState n = 4 → exec (.motorUpdate n u v w) s = .next (((((t.setFld (pMotor n) MOTOR.THETA_THETA 0).setSfld
        (pMotor n) MOTOR.SPEED_MEAS_V sp).obsAdapt n sp).drew 2).alignStep n sp)) ∧
      ∀ x : State, (((t.setFld (pMotor n) MOTOR.THETA_THETA th).setSfld (pMotor n) MOTOR.SPEED_MEAS_V sp).obsAdapt n sp).drew 2
        = x →
      (t.motorState n = 5 → exec (.motorUpdate n u v w) s = .next (x.rampStep n th sp)) ∧
      (6 ≤ t.motorState n → t.motorState n ≤ 9 → exec (.motorUpdate n u v w) s = .next (x.runStep n th sp)))) ∧
  (∀ (s t v : State) (m : MotorSt) (n : Fin 4) (pitch q r e : Int), s.motorState n = 8 →
    s.on (pMotor n) MOTOR.MODE_FACET_EN = true → (s.fld (pMotor n) MOTOR.FACET_PITCH_PITCH : Int) = pitch → pitch ≠ 0 →
    s.positionAt (s.axisStamp (s.fld (pMotor n) MOTOR.MODE_FACET_AXIS)) = some q →
    (s.fld (pMotor n) MOTOR.FACET_TRIM_TRIM ≠ (s.mo n).trimTarget → exec (.facetIndexEdge n) s =
      .next (s.setMo n { s.mo n with facetFrom := q, edge := some (s.tb.beat, q) })) ∧
    (s.fld (pMotor n) MOTOR.FACET_TRIM_TRIM = (s.mo n).trimTarget →
      (q - sgn 64 (s.pair (pMotor n) MOTOR.FACET_START_LO_POS MOTOR.FACET_START_HI_POS)) % pitch = r →
      (if 2 * r ≤ pitch then r else r - pitch) = e → s.setMo n { s.mo n with facetFrom := q, edge := none } = t →
      t.mo n = m →
      (t.setMo n { m with trimTarget := (m.trimTarget + prodHi e (s.ratio n)) % 2 ^ 32 }).setSfld (pMotor n)
        MOTOR.FACET_ERR_EF e = v →
      exec (.facetIndexEdge n) s = .next (if e.natAbs ≤ s.fld (pMotor n) MOTOR.FACET_TOL_TOL ∧
          s.on (pMotor n) MOTOR.STATUS_FACET_LOCKED = false then
        (v.setFld (pMotor n) MOTOR.STATUS_FACET_LOCKED 1).raise (pMotor n) MOTOR.evFACET_LOCKED else v))) ∧
  (∀ (s t u v : State) (n : Fin 4) (td : BitVec 10) (l lo hi k : Nat), s.onTick 65536 = true →
    (s.mo n).derateAt ≠ s.tb.beat + 1 → s.stands (writesField (pMotor n) MOTOR.DERATE_ENV_MAX) = false →
    (s.setFld (pMotor n) MOTOR.TD_MEAS_TD td.toNat).setFld pOuvgor (OUVGOR.TD_RAW_CODE.at n) td.toNat = t →
    s.derated n td.toNat = l → s.fld (pMotor n) MOTOR.DERATE_ENV_MIN = lo → s.fld (pMotor n) MOTOR.DERATE_ENV_MAX = hi →
    (if l < lo ∨ hi < l then (s.mo n).deratePin + 1 else 0) = k →
    (if s.on (pMotor n) MOTOR.ADAPT_DERATE_EN = true then
      (if k = 256 then ((t.setFld (pMotor n) MOTOR.DERATE_OUT_OUT (clampNat lo hi l)).setMo n { s.mo n with
          deratePin := k }).raise (pMotor n) MOTOR.evLOOP_PINNED
        else (t.setFld (pMotor n) MOTOR.DERATE_OUT_OUT (clampNat lo hi l)).setMo n { s.mo n with deratePin := k })
      else t.setMo n { s.mo n with deratePin := 0 }) = u →
    ∀ low hot : Bool, decide (u.fld (pMotor n) MOTOR.DERATE_OUT_OUT < u.fld (pMotor n) MOTOR.ILIM_AVG_ILIM) = low →
    decide (s.fld (pMotor n) MOTOR.TD_TRIP_TRIP ≤ td.toNat) = hot →
    ((u.setFld (pMotor n) MOTOR.STATUS_DERATING (b2n low)).condition (pMotor n) MOTOR.evTHERMAL_DERATE low).modMo n
      (fun m => { m with hot := hot }) = v →
    exec (.motorDerateUpdate n td) s = .next ((if (hot && !(s.mo n).hot) = true then
        (v.raise (pMotor n) MOTOR.evTHERMAL_TRIP).motorFault n else v).modMo n
      (fun m => { m with derateAt := s.tb.beat + 1 }))) ∧
  (∀ (s t : State) (n : Fin 4) (ph : Fin 3) (offH offL : Bool) (k : Nat), (s.gt n).cst ≠ 3 →
    (s.gt n).cst ≠ 4 → bitAt (s.gt n).on (2 * ph) = offH →
    bitAt (s.gt n).on (2 * ph + 1) = offL → (if (s.mo n).cbcNow = true then (s.mo n).cbcN else (s.mo n).cbcN + 1) = k →
    (((s.setGt n { s.gt n with
      cbcOff := (putBit (putBit (s.gt n).cbcOff (2 * ph) (offH || bitAt (s.gt n).cbcOff (2 * ph))) (2 * ph + 1)
        (offL || bitAt (s.gt n).cbcOff (2 * ph + 1)))
      on := clrBit (clrBit (s.gt n).on (2 * ph)) (2 * ph + 1) }).bump (pMotor n) MOTOR.COUNTS_CBC_COUNT).setFld (pMotor n)
      MOTOR.STATUS_CBC_ACTIVE 1).setMo n { s.mo n with cbcNow := true, cbcN := k } = t →
    exec (.cbcTrip n ph) s = .next (if s.fld (pMotor n) MOTOR.CBC_MAX_MAX ≤ k ∧ s.motorState n ≠ 11 then
      (t.raise (pMotor n) MOTOR.evOVERCURRENT).motorFault n else t)) ∧
  (∀ (s : State) (n : Fin 4),
    (∀ b : Nat, s.enabled (pPwm n) = true → (s.pw n).due = some b → b ≤ s.tb.beat →
      s.stands (writesField (pPwm n) PWM.DT_ENV_MAX) = false → exec (.pwmPeriodStart n) s =
      .next ((((s.adaptDeadTime n).periodBoundary (pPwm n)).takePeriod n b).gatePeriod n)) ∧
    (s.linked n = true → (s.gt n).test = false → ((s.pw n).running = true → s.tb.beat - (s.pw n).start < (s.pw n).period) →
      ∀ (d : Nat) (t u : State), (if (quietState (s.motorState n) || s.motorState n == 3 || !(s.pw n).running
          || (s.pw n).edgeAt == some s.tb.beat) = true then 0
        else (s.pw n).dropped (s.fld (pPwm n) PWM.MIN_PULSE_MIN) (s.tb.beat - (s.pw n).start)) = d →
      s.setPw n { s.pw n with edgeAt := some s.tb.beat } = t → (if d = 0 then t else
        (t.bump (pPwm n) PWM.COUNTS_DROP_COUNT d).raise (pPwm n) PWM.evPULSE_DROP) = u →
      exec (.pwmCommandEdge n) s = .next (u.commands n (u.scheduled n))) ∧
    exec (.pwmLinkLoss n none) s =
      .next ((s.setGt n { s.gt n with linkBad := false, credits := 8 }).setFld (pPwm n) PWM.LINK_STATUS_UP 1) ∧
    ∀ (c : Fin 3) (t : State), (if c = 1 then s.bump (pPwm n) PWM.LINK_STATUS_PARITY_ERRS else s) = t →
      exec (.pwmLinkLoss n (some c)) s = .next (((((t.setGt n { t.gt n with
        linkBad := true, credits := if c = 0 then 0 else (t.gt n).credits }).setFld (pPwm n)
        PWM.LINK_STATUS_UP 0).setFld (pGate n) GATE.LATCH_LINK 1).raise (pPwm n) PWM.evLINK_ERR).motorFault n))

/-- The gate opposite to a switch that is off is no longer above V_IL: the ticks since its off-command are kept for the
dead-time loop, and a switch that waits, is commanded and scheduled and that nothing holds off turns on, counted as an
extension; a wait of 2,000 beats latches GATE_STUCK and faults, a gate that has not risen after 2,000 beats latches NORISE
and faults. An attributed transition is summed, and after 2^DIV of them the slew loop moves its code by at most one step,
clamped to its envelope, 256 pinned updates raising LOOP_PINNED. A low bootstrap supply turns its high side off, counts
and raises BST_UV, and its return lets the switch on; VCP sets PUMP_STATUS and REVG; the Ouvgor die at 150 degrees turns
every gate off; while the shared comparators are under test a level is only noted, and likewise the levels of a stage
whose group is under test. A short of a commanded switch latches, soft-turns it off and faults, the soft level ending
after its time; TRIP_N low latches, or ends the cycle in CYCLE mode. Rests on: R351, R353, R354, R357, R358, R359, R360,
R361, R363, R364, R365, Chapter 9. -/
def Obligations.GateCommandsComplete : Prop :=
  (∀ (s t : State) (n : Fin 4) (sw : Fin 6) (o : Nat) (gap : List (Nat × Nat)), otherSw sw = o → bitAt (s.gt n).on o = false →
    (match Tab.lookup (s.gt n).offAt o with
      | some b => Tab.insert (s.gt n).gap sw.val (min 1023 (s.tb.beat - b))
      | none => (s.gt n).gap) = gap →
    s.setGt n { s.gt n with above := clrBit (s.gt n).above o, offAt := Tab.erase (s.gt n).offAt o, gap := gap } = t →
    (bitAt (s.gt n).wait sw = true → bitAt (s.gt n).cmd sw = true → bitAt (s.gt n).cmd o = false → s.heldOff n sw = false →
      ((s.gt n).test = true ∨ bitAt (s.scheduled n) sw = true) → exec (.interlockRelease n sw) s =
        .next (((t.swOn n sw).bump (pPwm n) PWM.IL_EXT_COUNT_COUNT).raise (pPwm n) PWM.evIL_EXTEND)) ∧
    (bitAt (s.gt n).wait sw = false → exec (.interlockRelease n sw) s = .next t)) ∧
  (∀ (s : State) (n : Fin 4) (ph : Fin 3) (sw b : Nat), sw = 2 * ph.val ∨ sw = 2 * ph.val + 1 →
    bitAt (s.gt n).wait sw = true → bitAt (s.gt n).above (otherSw sw) = true → bitAt (s.gt n).cmd (otherSw sw) = false →
    Tab.lookup (s.gt n).offAt (otherSw sw) = some b → b + 2000 ≤ s.tb.beat →
    exec (.gateStuckTimeout n ph) s =
      .next (((s.orFld (pGate n) GATE.LATCH_GATE_STUCK (2 ^ ph.val)).raise (pGate n) GATE.evGATE_STUCK).motorFault n)) ∧
  (∀ (s : State) (n : Fin 4) (sw : Fin 6) (b : Nat),
    (bitAt (s.gt n).on sw = true → Tab.lookup (s.gt n).onAt sw = some b → b + 2000 ≤ s.tb.beat →
      exec (.gateNoriseTimeout n sw) s = .next ((((s.swOff n sw).orFld (pGate n) GATE.LATCH_NORISE (2 ^ sw.val)).raise
        (pGate n) GATE.evGATE_NORISE).setMotorState n 11)) ∧
    (bitAt (s.gt n).cmd sw = true ∨ Tab.lookup (s.gt n).offAt sw = some s.tb.beat → bitAt (s.gt n).soft sw = false →
      (s.gt n).cst ≠ 1 → (s.gt n).cst ≠ 2 → s.enabled (pGate n) = true → exec (.didtFire n sw) s =
      .next ((((s.setGt n { s.gt n with
        soft := setBit (s.gt n).soft sw, softAt := Tab.insert (s.gt n).softAt sw s.tb.beat
        sunk := setBit (s.gt n).sunk sw, on := clrBit (s.gt n).on sw, wait := clrBit (s.gt n).wait sw }).orFld (pGate n)
        GATE.LATCH_SHORT (2 ^ sw.val)).raise (pGate n) GATE.evSW_SHORT).setMotorState n 11)) ∧
    (Tab.lookup (s.gt n).softAt sw = some b → b + 200 + 100 * s.fld (pGate n) GATE.SOFT_OFF_T2L ≤ s.tb.beat →
      exec (.softOffHoldEnd n sw) s = .next (s.setGt n { s.gt n with
        soft := clrBit (s.gt n).soft sw, softAt := Tab.erase (s.gt n).softAt sw }))) ∧
  (∀ (s t : State) (n : Fin 4) (m : BitVec 12) (low : Bool) (sum num : Nat) (put : State → Nat → Nat → Nat → State),
    s.stands (writesField (pGate n) GATE.SLEW_ENV_H_MAX) = false → s.on (pGate n) GATE.DRIVE_STRONG = false →
    s.on (pGate n) GATE.DRIVE_SLEW_EN = true →
    (if low = true then (s.gt n).sumL else (s.gt n).sumH) + m.toNat = sum →
    (if low = true then (s.gt n).numL else (s.gt n).numH) + 1 = num →
    (∀ u a b c, put u a b c = u.setGt n (if low = true then { u.gt n with sumL := a, numL := b, pinL := c }
      else { u.gt n with sumH := a, numH := b, pinH := c })) →
    (num < 2 ^ s.fld (pGate n) GATE.SLEW_DIV → exec (.slewTransition n low m) s =
      .next (put s sum num (if low = true then (s.gt n).pinL else (s.gt n).pinH))) ∧
    (2 ^ s.fld (pGate n) GATE.SLEW_DIV ≤ num → ∀ (f : Fld) (v : Int) (lo hi k : Nat),
      (if low = true then GATE.DRIVE_SRC_L else GATE.DRIVE_SRC_H) = f →
      slewNext (s.fld (pGate n) f) sum num (s.fld (pGate n) GATE.SLEW_TARGET) (s.fld (pGate n) GATE.SLEW_TOL) = v →
      s.fld (pGate n) (if low = true then GATE.SLEW_ENV_L_MIN else GATE.SLEW_ENV_H_MIN) = lo →
      s.fld (pGate n) (if low = true then GATE.SLEW_ENV_L_MAX else GATE.SLEW_ENV_H_MAX) = hi →
      (if v < lo ∨ (hi : Int) < v then (if low = true then (s.gt n).pinL else (s.gt n).pinH) + 1 else 0) = k →
      put ((s.setFld (pGate n) f (clampInt lo hi v).toNat).setFld (pGate n)
        (if low = true then GATE.SLEW_MEAS_MEAN_L else GATE.SLEW_MEAS_MEAN_H) (sum / num)) 0 0 k = t →
      exec (.slewTransition n low m) s = .next (if k = 256 then t.raise (pGate n) GATE.evLOOP_PINNED else t))) ∧
  (∀ (s t : State) (n : Fin 4) (ph : Fin 3) (below : Bool),
    s.setGt n { s.gt n with bstPin := putBit (s.gt n).bstPin ph below } = t →
    ((s.gt n).cst = 5 ∨ (s.gt n).cst = 6 → exec (.bstUvCross n ph below) s = .next t) ∧
    ((s.gt n).cst ≠ 5 → (s.gt n).cst ≠ 6 → ∀ fall rise : List Nat,
      (List.range 3).filter (fun k => bitAt (t.gt n).bstPin k && !bitAt (t.gt n).bstLow k) = fall →
      (List.range 3).filter (fun k => !bitAt (t.gt n).bstPin k && bitAt (t.gt n).bstLow k) = rise →
      (∀ k : Nat, fall = [k] → rise = [] → ∀ v u : State, t.swOff n (2 * k) = v →
        (v.setGt n { v.gt n with bstLow := setBit (v.gt n).bstLow k }).bump (pGate n) GATE.COUNTS_BST_UV_COUNT = u →
        exec (.bstUvCross n ph below) s =
          .next (if bitAt (u.liveMask (pGate n)) GATE.evBST_UV.bit = true then u.raise (pGate n) GATE.evBST_UV
            else u.condition (pGate n) GATE.evBST_UV true)) ∧
      (∀ k : Nat, fall = [] → rise = [k] → ∀ u : State,
        (t.setGt n { t.gt n with bstLow := clrBit (t.gt n).bstLow k }).condition (pGate n) GATE.evBST_UV
          ((t.gt n).bstPin != 0) = u →
        exec (.bstUvCross n ph below) s = .next (if bitAt (t.gt n).cmd (2 * k) = true then u.tryOn n (2 * k) else u)) ∧
      (fall = [] → rise = [] → exec (.bstUvCross n ph below) s = .next t))) ∧
  (∀ (s v h : State) (b : Bool), { s with dr := { s.dr with vcpPin := b } } = v →
    { s with dr := { s.dr with hotPin := b } } = h →
    (s.dr.ouvCst = true → exec (.vcpUvCross b) s = .next v ∧ exec (.ouvOvertemp b) s = .next h) ∧
    (s.dr.ouvCst = false → exec (.vcpUvCross b) s = .next (((v.setFld pOuvgor OUVGOR.PUMP_STATUS_VCP_OK
        (b2n (!b))).condition pOuvgor OUVGOR.evVCP_UV b).showRevg) ∧
      ∀ t : State, ({ h with dr := { h.dr with ouvHot := b } } : State).condition pOuvgor OUVGOR.evOUV_OT b = t →
        exec (.ouvOvertemp b) s = .next (if b = true ∧ s.dr.ouvHot = false then t.supplyOff else t))) ∧
  (∀ (s t : State) (n : Fin 4) (low : Bool), (s.gt n).tripLow ≠ low → s.setGt n { s.gt n with tripLow := low } = t →
    (t.tripActs n = false → exec (.tripNLow n low) s = .next t) ∧
    (t.tripActs n = true → t.on (pGate n) GATE.LATCH_TRIP = false → (t.gt n).cycOff = false →
      (t.on (pGate n) GATE.TRIP_CFG_MODE = false → exec (.tripNLow n low) s = .next (t.tripLatch n)) ∧
      (t.on (pGate n) GATE.TRIP_CFG_MODE = true → exec (.tripNLow n low) s =
        .next (((t.setGt n { t.gt n with
          cycOff := true, on := 0, wait := 0
          tripN := if ((t.pw n).running && (t.pw n).start == t.tb.beat && (t.gt n).tripN == 0) = true then 1
            else (t.gt n).tripN }).bump (pGate n) GATE.COUNTS_TRIP_CYCLES).raise (pGate n) GATE.evTRIP_CYCLE))))

/-- Where the write is served: DIAG_GO and CST_GO with the motor OFF begin their run; LATCH_CLR clears every latch whose
condition has ended; the Ouvgor self-test begins while every motor is OFF; a write of TEST with code A7 while OFF,
unlatched and linked with no test running commands the switches it names until the pulse ends, after its width. A
diagnostic step, once due, stores its verdict and goes on, step 9 to the comparator self-test unless it is skipped, and
the last step ends the run. A half step of the self-test notes the comparators that failed, and the sixth stores the
result; the levels that the group had covered then act. OUV_CST_DONE stores its result and raises OUV_CST_DONE, and
OUV_CST_FAIL where a comparator failed, and the levels that the shared comparators had covered then act. Rests on: R366,
R367, R368, R369, R375, Table 9.5, Table 9.6, Table 9.8. -/
def Obligations.DiagnosticsComplete : Prop :=
  (∀ (s : State) (a : Acc) (n : Fin 4), s.serves a (pGate n) 0x100 true = true →
    exec (.gateLatchClr a n) s = .next ((s.answer [0]).latchClr n) ∧
    (s.motorState n = 0 → (s.gt n).diag = 0 → (s.gt n).cst = 0 →
      exec (.diagGo a n) s = .next ((s.answer [0]).diagBegin n false) ∧
      ∀ t : State, (s.answer [0]).gatesOff n = t →
      exec (.cstGo a n) s = .next ((t.setGt n { t.gt n with
        cst := 1, halfDue := s.tb.beat + s.fld (pGate n) GATE.DIAG_CFG_STEP * 5000, cstFail := 0 }).setFld (pGate n)
        GATE.CST_RESULT_DONE 0))) ∧
  (∀ (s t : State) (n : Fin 4) (u v w : Nat), (s.gt n).diag ≠ 0 → (s.gt n).stepDue ≤ s.tb.beat →
    (9 < (s.gt n).diag → (s.gt n).cst = 0 ∨ 2 * ((s.gt n).diag - 9) < (s.gt n).cst) →
    s.diagVerdict n (s.gt n).diag [u, v, w] = t →
    ∀ last : Nat, (if s.on (pGate n) GATE.DIAG_CFG_SKIP_CST = true then 9 else 12) = last →
    (last ≤ (s.gt n).diag → exec (.diagStepEnd n u v w) s = .next (t.diagEnd n)) ∧
    ((s.gt n).diag < last → exec (.diagStepEnd n u v w) s = .next (t.setGt n { t.gt n with
      diag := (s.gt n).diag + 1, stepDue := s.stepEnd n (s.gt n).stepDue 2
      cst := if (s.gt n).diag = 9 then 1 else (t.gt n).cst
      halfDue := if (s.gt n).diag = 9 then s.stepEnd n (s.gt n).stepDue 1 else (t.gt n).halfDue }))) ∧
  (∀ (s : State) (n : Fin 4) (active : BitVec 19) (grp : Nat) (t : State), (s.gt n).cst ≠ 0 → (s.gt n).halfDue ≤ s.tb.beat →
    cstGroup (s.gt n).cst = grp →
    s.setGt n { s.gt n with
      cstFail := (s.gt n).cstFail ||| (if (s.gt n).cst % 2 = 1 then active.toNat &&& grp
        else clrMask grp (active.toNat &&& grp))
      cst := (s.gt n).cst + 1
      halfDue := s.stepEnd n (s.gt n).halfDue 1 } = t →
    exec (.cstHalfStepEnd n active) s = .next (if (s.gt n).cst = 6 then (t.cstEnd n).bstAct n
      else if (s.gt n).cst = 4 then t.tripAct n else t)) ∧
  (∀ (s : State) (a : Acc), s.serves a pOuvgor 0x188 true = true → (∀ n < 4, s.motorState n = 0) →
    exec (.ouvCstGo a) s = .next (({ s.answer [0] with dr := { s.dr with ouvCst := true } } : State).setFld pOuvgor
      OUVGOR.CST_RESULT_DONE 0)) ∧
  (∀ (s : State) (failed : BitVec 5), s.dr.ouvCst = true → ∀ t : State,
    (((({ s with dr := { s.dr with ouvCst := false } } : State).setFld pOuvgor OUVGOR.CST_RESULT_DONE 1).setFld pOuvgor
      OUVGOR.CST_RESULT_PASS (if failed = 0 then 1 else 0)).setFld pOuvgor OUVGOR.CST_RESULT_FAILED failed.toNat).raise
      pOuvgor OUVGOR.evOUV_CST_DONE = t →
    exec (.ouvCstDone failed) s = .next ((if failed = 0 then t else t.raise pOuvgor OUVGOR.evOUV_CST_FAIL).vcpAct.hotAct.stageAct)) ∧
  (∀ (s : State) (a : Acc) (n : Fin 4) (w : Word), s.serves a (pGate n) 0x138 true = true → bitsOf w.toNat 31 24 = 0xA7 →
    s.motorState n = 0 → s.latched n = false → s.linked n = true → (s.gt n).diag = 0 → (s.gt n).cst = 0 →
    exec (.directTestPulse a n w) s =
      .next (((s.answer [0]).setGt n { s.gt n with
        test := true, testDue := s.tb.beat + s.fld (pGate n) GATE.TEST_WIDTH_WIDTH }).commands n (bitsOf w.toNat 5 0))) ∧
  (∀ (s : State) (n : Fin 4), (s.gt n).test = true → (s.gt n).testDue ≤ s.tb.beat → exec (.directTestEnd n) s =
    .next ((s.commands n 0).setGt n { (s.commands n 0).gt n with test := false }))

/-- An uncorrectable header raises HDR_ECC, and a packet with VCX is dropped and counted; a readable frame packet is ignored.
On a virtual channel with an enabled binding: a line start pops stamps, drops an open line and opens the new one, or a
dropped one where the binding is not the page owner's; a long packet of an accepted type that fits the line and the buffer
adds its bytes to the open line, with the errors it carries; a line end counts the line and hands the tagged item in
pieces of at most 28 words to the pushes of the bound queue, or drops a packet without a line. The loss of a lane that was
in use discards the open lines; gaining it stores the lanes and the latency. A served BIND_CFG write stores the binding,
and leaves it disabled where it is not owned. Rests on: R231, R232, R233, R234, R235, R240, R242, R249, Table 6.9. -/
def Obligations.IngestCommandsComplete : Prop :=
  ∀ (s : State) (m : Fin 4) (p : CsiHead),
  (s.enabled (pIngest m) = true → s.phyOk = true →
    (p.ecc = .uncorrectable → ∀ (e : Bool), exec (.csiFrameShortPacket m p e) s = .next (s.raise (pIngest m) INGEST.evHDR_ECC)) ∧
    (p.ecc ≠ .uncorrectable → p.vcx = true → ∀ (e : Bool) (n : BitVec 16),
      exec (.csiFrameShortPacket m p e) s = .next (s.rxDrop m p.vc) ∧
      exec (.csiLineStart m p n) s = .next (s.rxDrop m p.vc) ∧ exec (.csiLineEnd m p n) s = .next (s.rxDrop m p.vc)) ∧
    (p.ecc ≠ .uncorrectable → p.vcx = false → ∀ e : Bool, exec (.csiFrameShortPacket m p e) s = .next s) ∧
    (p.ecc ≠ .uncorrectable → p.vcx = false → s.on (pIngest m) (INGEST.BIND_CFG_BIND_EN.at p.vc) = true →
      (∀ n : BitVec 16, exec (.csiLineStart m p n) s = .next (s.lineStart m p.vc n.toNat (p.ecc == .corrected)) ∧
        (Tab.lookup (s.rx m).lines p.vc = none → exec (.csiLineEnd m p n) s = .next (s.rxDrop m p.vc)) ∧
        (∀ (b c : LineBuf) (t u : State) (ps : List (List Nat)), Tab.lookup (s.rx m).lines p.vc = some b → b.drop = false →
          { b with corrected := b.corrected || p.ecc == .corrected } = c → s.setLine m p.vc none = u →
          u.bump (pIngest m) (INGEST.LINES_COUNT.at p.vc) = t →
          pushPieces 28 (u.lineTag m p.vc c ++ lineWords c.dt c.unpack c.bytes) = ps →
          exec (.csiLineEnd m p n) s = .next ((t.setRx m { t.rx m with
            out := (t.rx m).out ++ ps.zipIdx.map (fun e =>
              (⟨t.bindQueue m p.vc, t.owner (pIngest m), e.1, e.2 + 1 == ps.length⟩ : RxPush)) }).rxPump m 8))) ∧
      (∀ (dt : Fin 64) (wc : BitVec 16) (bytes : List Byte) (good : Bool) (b : LineBuf) (t : State),
        Tab.lookup (s.rx m).lines p.vc = some b → b.drop = false →
        ((0x2A ≤ dt.val ∧ dt.val ≤ 0x2E) ∨ dt.val = s.fld (pIngest m) INGEST.RX_CFG_UDT) →
        (s.fld (pIngest m) (INGEST.BIND_CFG_DT.at p.vc) = 0x3F ∨ s.fld (pIngest m) (INGEST.BIND_CFG_DT.at p.vc) = dt.val) →
        b.bytes.length + bytes.length ≤ lineRoom (if b.got = true then b.dt else dt) b.unpack →
        ((s.rx m).lines.filter (fun e => e.1 != (p.vc : Nat))).foldl (fun n e => n + e.2.bytes.length) (s.rxWaiting m) +
          (b.bytes.length + bytes.length) ≤ 16384 →
        (if good = true then s else s.raise (pIngest m) INGEST.evCRC_ERR) = t →
        exec (.csiLongPacket m p.vc dt wc bytes good ⟨p.vcx, p.ecc⟩) s = .next (t.setLine m p.vc (some { b with
          dt := if b.got = true then b.dt else dt
          wc := if b.got = true then b.wc else wc.toNat
          bytes := b.bytes ++ bytes
          crcErr := b.crcErr || !good
          corrected := b.corrected || p.ecc == .corrected
          got := true
          trunc := b.trunc }))))) ∧
  (∀ (lanes : BitVec 4) (clk : Bool) (t u v : State) (was : Nat), s.fld (pIngest m) INGEST.RX_STATUS_LANE_SYNC = was →
    (if clk = true then s else s.setFld (pIngest m) INGEST.RX_STATUS_CLK_ACTIVE 0) = t →
    (was &&& lanes.toNat = was → exec (.laneSyncLoss ⟨m, lanes, clk⟩) s = .next t) ∧
    (was &&& lanes.toNat ≠ was →
      (t.rx m).lines.foldl (fun t e => if e.2.drop = true then t else t.rxDrop m e.1) t = u →
      (u.setRx m { u.rx m with lines := [] }).setFld (pIngest m) INGEST.RX_STATUS_LANE_SYNC (was &&& lanes.toNat) = v →
      exec (.laneSyncLoss ⟨m, lanes, clk⟩) s =
        .next (if v.enabled (pIngest m) = true then v.raise (pIngest m) INGEST.evLANE_SYNC_ERR else v))) ∧
  (∀ latency : Fin 181, exec (.laneSyncGained m latency) s = .next (((s.setFld (pIngest m) INGEST.RX_STATUS_LANE_SYNC
    (nth 0xF [1, 3, 0xF, 0xF] (s.fld (pIngest m) INGEST.RX_CFG_LANES))).setFld (pIngest m) INGEST.RX_STATUS_CLK_ACTIVE
      1).setFld (pIngest m) INGEST.RX_STATUS_RX_LATENCY latency)) ∧
  (∀ (a : Acc) (v : Fin 4) (w : Word) (t : State), s.serves a (pIngest m) (0x200 + 0x20 * v.val) true = true →
    (s.answer [0]).writeFields (pIngest m) (s.fieldsOf (pIngest m) (0x200 + 0x20 * v.val)) w.toNat = t →
    exec (.bindCfgWrite a m v w) s = .next (
      if bitAt w.toNat 31 = true ∧ t.bindOwned m (bitsOf w.toNat 15 8) (bitsOf w.toNat 20 16) = false then
        (t.setFld (pIngest m) (INGEST.BIND_CFG_BIND_EN.at v) 0).raiseBy (pIngest m) INGEST.evBIND_DENIED a.hh else t))

/-- A port's grant moves four words of the request it picks, or with its last piece issues the request, one for another device
leaving by NOC_OUT under a free slot, one at a node's peripheral bus being performed; a request with bad parity is not
performed, answers zeros and raises MATRIX_PARITY. A waiting request that has waited AGE_PROMOTE is promoted once,
counted. A time-out of an issued request raises TARGET_TIMEOUT, answers zeros and frees its slot; the late response is
discarded and counted, a local target having performed it. A served write of a register changes that register's fields as
a write does; a served read answers its value and leaves what the read leaves; a served shadow write is a write of its
field. Rests on: R6, R162, R164, R165, R166, R168, R171, R182, R193. -/
def Obligations.MatrixCommandsComplete : Prop :=
  (∀ (s o : State) (port : Fin 35) (bad : Bool) (rsp : BitVec 64) (k : Nat) (r : MxReq), s.por = false → s.tb.dawn = 0 →
    s.pickGrant port (fun r => r.reserved || (decide (5 ≤ r.port) && s.mxReady r)) = some k →
    s.mx.waiting[k]? = some r → { s with mx := { s.mx with waiting := s.mx.waiting.eraseIdx k } } = o →
    (bad = true → r.port < 5 → exec (.matrixGrant ⟨port, bad, rsp⟩) s =
      .next (((o.raiseBy pMatrix MATRIX.evMATRIX_PARITY r.acc.hh).mxFinish r
        (some ⟨.ok, List.replicate ((r.size + 7) / 8) 0⟩)).mxSettle)) ∧
    (bad = false ∨ 5 ≤ r.port → 4 < r.words → exec (.matrixGrant ⟨port, bad, rsp⟩) s =
      .next { s with mx := { s.mx with waiting := s.mx.waiting.set k { r with words := r.words - 4 } } }) ∧
    (∀ q : MxReq, { r with words := 0, issuedAt := s.tb.beat, badRsp := rsp.toNat } = q → r.words ≤ 4 →
      (bad = false → r.port < 5 → s.namesSelf r.acc.fab r.addr = true → exec (.matrixGrant ⟨port, bad, rsp⟩) s =
        .next (({ o with mx := { o.mx with issued := o.mx.issued ++ [q] } } : State).mxSettle)) ∧
      (∀ (tag : Nat) (t : State), bad = false → r.port = 3 → s.namesSelf r.acc.fab r.addr = false →
        s.freeSlot 29 = some tag → o.sendRemote 29 tag r.acc r.write r.addr r.size r.data = t →
        exec (.matrixGrant ⟨port, bad, rsp⟩) s = .next (({ t with mx := { t.mx with issued := (t.mx.issued ++
          [{ q with slot := some (256 * agentKey 29 0 + tag) }]) } } : State).mxSettle)) ∧
      (5 ≤ r.port → exec (.matrixGrant ⟨port, bad, rsp⟩) s =
        .next ((o.mxAnswered State.hhRequest (.matrixGrant ⟨port, bad, rsp⟩) q).mxSettle)))) ∧
  (∀ (s : State) (k : Nat) (r : MxReq), s.mx.waiting[k]? = some r → r.promoted = false →
    s.fld pMatrix MATRIX.AGE_PROMOTE_BEATS ≤ s.waited r → exec (.agePromote k) s =
    .next ((({ s with mx := { s.mx with waiting := s.mx.waiting.set k { r with promoted := true } } } : State).bump pMatrix
      MATRIX.PROMOTE_COUNT_COUNT).raise pMatrix MATRIX.evAGE_PROMOTED)) ∧
  (∀ (s : State) (k : Nat) (r : MxReq), s.mx.issued[k]? = some r →
    r.issuedAt + 2 ^ s.fld pMatrix MATRIX.TIMEOUT_EXP ≤ s.tb.beat → exec (.targetTimeout k) s =
    .next (((({ s with mx := { s.mx with issued := s.mx.issued.eraseIdx k, late := s.mx.late ++ [r] } } : State).raiseBy
      pMatrix MATRIX.evTARGET_TIMEOUT r.acc.hh).mxFinish r (some ⟨.timeout, [0]⟩)).mxSettle)) ∧
  (∀ (s : State) (k : Nat) (r : MxReq) (t : State), s.mx.late[k]? = some r →
    ({ s with mx := { s.mx with late := s.mx.late.eraseIdx k } } : State) = t →
    (r.slot = none → s.por = false → s.busHeld r.addr = false → exec (.lateRsp k) s =
      .next ((({ t.mxPerform State.hhRequest (.lateRsp k) r with resp := s.resp } : State).bump pMatrix
        MATRIX.LATE_RSP_COUNT_COUNT).raise pMatrix MATRIX.evLATE_RSP))) ∧
  (∀ (s : State) (a : Acc) (p : Fin 512) (off : Fin 1024), a.fab = false → (a.master ≠ .wicket ∨ inRange 0x100 64 p = false) →
    (s.serves a p (4 * off) true = true →
      (s.stands (fun c => masksFault (regAddr p (4 * off)) && decide (c = .notifyReceive)) = false → ∀ v : BitVec 64, exec (.registerWrite a (BitVec.ofNat 48 (regAddr p (4 * off))) false v) s =
        .next ((s.answer [0]).regWrite State.hhRequest a (regAddr p (4 * off)) p [(4 * off.val, v.toNat % 2 ^ 32)])) ∧
      (∀ w : Word, s.mgrDenied a.hh p (s.fieldsOf p (4 * off)) w.toNat = false → s.notMine p (4 * off) = false →
        s.maskDenied a.hh p (4 * off) w.toNat = false →
        exec (.shFieldWrite a p off w) s = .next ((s.answer [0]).wordWrite State.hhRequest a p (4 * off) w.toNat))) ∧
    (s.serves a p (4 * off) false = true →
      exec (.rcCounterRead a (BitVec.ofNat 48 (regAddr p (4 * off))) false) s =
        .next ((s.answer [0]).regRead a (regAddr p (4 * off)) p (4 * off) false)))

/-- While the network moves: a packet from an agent that exists is offered under its channel with the header words that the
node interface fills in, a request's destination being what the address tables name; one that asks for a response takes a
free slot, named by TAG; during a dawn the offer is held. A token below BURST is gained once its gap has passed, and
waiting packets are paid for while tokens suffice. A beat of a router output, decided once, counts an output blocked or
lost, and sends one flit of the channel of highest rank that has a candidate and a credit. A credit that has come back
becomes usable; one above 4, or one that an upset makes, raises CREDIT_ERR. A flit without progress for STALL_LIMIT is
reported once, with its place. Rests on: R159, R425, R427, R429, R430, R435, R437, R445, R448. -/
def Obligations.NetworkSendingCompletes : Prop :=
  (∀ (s : State) (r : Fin 30) (agent : Fin 8) (w0 w1 w2 w3 : BitVec 64) (fs : List (BitVec 256)),
    (s.tb.dawn ≠ 0 → exec (.packetInject r agent w0 w1 w2 w3 fs) s =
      .next { s with held := s.held ++ [.packetInject r agent w0 w1 w2 w3 fs] }) ∧
    ∀ (hh : Fin 16) (dst : Nat × Nat) (v u ak tag vc : Nat) (fab : Bool) (hdr : List Nat) (p : List Flit),
    s.nocMoves = true → s.tb.dawn = 0 → agent.val < agentsAt r → agentKey r agent = ak → (bitsOf w1.toNat 47 38 != 0) = fab →
    bitsOf w0.toNat 39 36 % 16 = hh.val →
    s.requestDst ⟨masterOf (bitsOf w0.toNat 35 33), hh, 0, 0, fab⟩ (bitsOf w1.toNat 47 0) = dst →
    (if bitsOf w0.toNat 51 50 = 0 then dst.1 * 2 ^ 58 + w0.toNat % 2 ^ 58 else w0.toNat) = v →
    (if bitsOf w0.toNat 51 50 = 0 then dst.2 * 2 ^ 58 + w1.toNat % 2 ^ 58 else w1.toNat % 2 ^ 61) = u →
    bitsOf v 31 24 = tag → [s.sendW0 r v fs.length, agent.val * 2 ^ 61 + u, w2.toNat, w3.toNat] = hdr →
    vcOf (bitsOf v 51 50) (bitsOf v 49 49) = vc → packetFlits hdr (fs.map (fun d => flitWords d.toNat)) fab = p →
    ((bitsOf v 51 50 == 0 && [1, 2, 4, 6].contains (bitsOf v 43 40)) = false →
      exec (.packetInject r agent w0 w1 w2 w3 fs) s = .next (s.offer ak vc p)) ∧
    ((bitsOf v 51 50 == 0 && [1, 2, 4, 6].contains (bitsOf v 43 40)) = true → tag < agentSlots r agent →
      Tab.lookup s.noc.slots (256 * ak + tag) = none →
      exec (.packetInject r agent w0 w1 w2 w3 fs) s = .next (({ s with noc := { s.noc with slots := (Tab.insert s.noc.slots
        (256 * ak + tag) ⟨bitsOf v 63 58, false, bitsOf v 39 36, s.tb.beat⟩) } } : State).offer ak vc p))) ∧
  (∀ (s t : State) (r : Fin 30) (agent : Fin 8) (ak next : Nat), agentKey r agent = ak →
    Tab.get 0 s.noc.gapFrom ak + s.fld pNoc NOC.TIMED_REG_GAP = next →
    (if s.tokens ak < (s.fld pNoc NOC.TIMED_REG_BURST : Nat) ∧ next ≤ s.tb.beat then
      ({ s with noc := { s.noc with gapFrom := Tab.set 0 s.noc.gapFrom ak next } } : State).setTokens ak (s.tokens ak + 1)
      else s) = t →
    exec (.tokenGain r agent) s = .next (if t.nocMoves = true then t.payOffers ak t.noc.waiting.length else t)) ∧
  (∀ (s x t u : State) (r : Fin 30) (out : Fin 6) (parity sideband : Bool) (cs ok : List (Nat × Nat)), s.nocMoves = true →
    (out.val = 5 ∨ portPresent r out = true) → Tab.get 0 s.noc.decided (8 * r.val + out.val) ≠ s.tb.beat + 1 →
    { s with noc := { s.noc with decided := Tab.set 0 s.noc.decided (8 * r.val + out.val) (s.tb.beat + 1) } } = x →
    rankOrder.filterMap (fun vc => (x.candidate r out vc).map (fun p => (vc, p))) = cs →
    cs.filter (fun c => decide (0 < x.nocCredit r out c.1)) = ok →
    (if out.val < 5 ∧ ok.length < cs.length then x.nocBump (pNocr r) (NOCR.BLOCK_COUNT.at out) else x) = t →
    (if out.val < 5 ∧ 1 < ok.length then t.nocBump (pNocr r) (NOCR.LOSE_COUNT.at out) else t) = u →
    (ok = [] → exec (.flitForward r out parity sideband) s = .next u) ∧
    (∀ (vc p : Nat) (rest : List (Nat × Nat)) (f : Flit), ok = (vc, p) :: rest → x.inputHead r out vc p = some f →
      exec (.flitForward r out parity sideband) s = .next (u.grant r out vc p f parity sideband))) ∧
  (∀ (s t : State) (r : Fin 30) (out vc : Fin 6) (upset : Bool) (b : Nat) (rest : List Nat),
    (upset = false → takeFirst (fun b => decide (b ≤ s.tb.beat)) (s.creditsOut (chan r out vc)) = some (b, rest)) →
    (if upset = true then s else { s with noc := { s.noc with flying := Tab.set [] s.noc.flying (chan r out vc) rest } }) = t →
    (s.nocCredit r out vc < 4 → exec (.creditReturn r out ⟨vc, upset⟩) s =
      .next (t.setCredit r out vc (s.nocCredit r out vc + 1))) ∧
    (4 ≤ s.nocCredit r out vc → exec (.creditReturn r out ⟨vc, upset⟩) s =
      .next ((t.routerErr r (if out.val = 5 then 4 else out.val) vc NOCR.evCREDIT_ERR []).nocBump (pNocr r)
        NOCR.ERRCNT_CREDIT_ERR))) ∧
  (∀ (s t : State) (r : Fin 30) (port : Fin 5) (vc : Fin 6), s.nbuf r port vc ≠ [] →
    s.noc.stalled.contains (chan r port vc) = false →
    Tab.get 0 s.noc.moved (chan r port vc) + s.fld pNoc NOC.STALL_LIMIT_BEATS ≤ s.tb.beat →
    ((s.routerErr r port vc NOCR.evVC_STALL (Tab.get [] s.noc.hdr (chan r port vc))).setFld (pNocr r) NOCR.STALL_INPORT
      port).setFld (pNocr r) NOCR.STALL_VC vc = t →
    exec (.vcStall r port vc) s = .next { t with noc := { t.noc with stalled := t.noc.stalled ++ [chan r port vc] } })

/-- The first whole packet that a node interface holds on a channel is taken: an event goes to its unit, a request that its
queue port does not make wait goes to its agent, and a response to the slot of its requester, which is freed. A slot
unanswered for its time-out completes with TIMEOUT and zero data, is quarantined and counted, and the first is recorded. A
served write of TIMED_REG by the manager cuts the counters above BURST to it; CLEAR_ALL clears every counter of the
network pages and keeps FREEZE. Rests on: R423, R435, R437, R441, R443, R445, R446, R447, Chapter 11. -/
def Obligations.NetworkReceivingCompletes : Prop :=
  (∀ (s t : State) (r : Fin 30) (vc : Fin 6) (p : List Flit), s.por = false → s.tb.dawn = 0 → s.takePacket r vc = some (p, t) →
    (4 ≤ vc.val → exec (.packetDeliver r vc) s = .next (t.eventPacket r p)) ∧
    (vc.val < 2 → (p.take 1).any s.packetWaits = false →
      exec (.packetDeliver r vc) s = .next (t.requestIn (.packetDeliver r vc) r p)) ∧
    (vc.val = 2 ∨ vc.val = 3 → exec (.packetDeliver r vc) s = exec (.responseArrive r (vc.val == 3)) s)) ∧
  (∀ (s t : State) (r : Fin 30) (timed : Bool) (h : Flit) (ds : List Flit) (key : Nat),
    s.takePacket r (if timed then 3 else 2) = some (h :: ds, t) →
    256 * agentKey r (bitsOf (h.word 1) 60 58) + bitsOf (h.word 0) 31 24 = key →
    (Tab.lookup t.fab.remote key = none →
      exec (.responseArrive r timed) s = .next ((t.response r (h :: ds)).rxPumps r)) ∧
    (∀ (dst hh at_ : Nat) (q : RemoteReq), Tab.lookup t.noc.slots key = some ⟨dst, false, hh, at_⟩ →
      t.slotExpired ⟨dst, false, hh, at_⟩ = false → Tab.lookup t.fab.remote key = some q → ∀ u : State, t.response r (h :: ds) = u →
      exec (.responseArrive r timed) s = .next (({ u with resp := t.resp, fab := { u.fab with
        remote := Tab.erase u.fab.remote key } } : State).returnResponse q (h :: ds)))) ∧
  (∀ (s t : State) (r : Fin 30) (agent : Fin 8) (tag : Fin 256) (k dst hh at_ : Nat), 256 * agentKey r agent + tag.val = k →
    Tab.lookup s.noc.slots k = some ⟨dst, false, hh, at_⟩ → s.slotExpired ⟨dst, false, hh, at_⟩ = true →
    ((({ s with noc := { s.noc with slots := Tab.insert s.noc.slots k ⟨dst, true, hh, at_⟩ }, resp := some ⟨.timeout, [0]⟩ } :
      State).mxAnswer k).raiseBy pNoc NOC.evRSP_TIMEOUT hh).nocBump pNoc NOC.RSP_TMO_COUNT_COUNT = t →
    (t.on pNoc NOC.RSP_TMO_INFO_VALID = true → exec (.rspTimeout r agent tag) s = .next t) ∧
    (t.on pNoc NOC.RSP_TMO_INFO_VALID = false → exec (.rspTimeout r agent tag) s = .next (((((t.setFld pNoc
      NOC.RSP_TMO_INFO_VALID 1).setFld pNoc NOC.RSP_TMO_INFO_DST dst).setFld pNoc NOC.RSP_TMO_INFO_REQ (nodeOf r)).setFld
      pNoc NOC.RSP_TMO_INFO_AGENT agent).setFld pNoc NOC.RSP_TMO_INFO_TAG tag))) ∧
  (∀ (s : State) (a : Acc), a.hh = 15 →
    (∀ w : Word, s.serves a pNoc 0x104 true = true → exec (.timedRegWrite a w) s =
      .next ((s.answer [0]).timedRegWrite w.toNat)) ∧
    (s.serves a pNoc 0x138 true = true → exec (.cntClearAll a) s =
      .next ((s.answer [0]).nocWrite 0x138 (2 + s.fld pNoc NOC.CNT_CTRL_FREEZE))))

/-- Where the port serves the access and nothing that goes before it on that tick waits: a push, with room in the tail stage
or no block to write, stores the words of its payload for the producer that the access names, one that arrives poisoned
poisoned, and a push of the last window ends the item with its last word; a STREAM pop takes from the read position, where
no scheduler slot is bound to the queue and no word that it needs is still in DRAM. Where the step-item port of a run of
the queue's owner asks: a HELD_READ answers from an offset of the held item and changes only what it shows once, and a
RELEASE_HELD ends the hold, frees the space and answers with the item's descriptor. Rests on: R155, R459, R460, R464,
R465, R467, R468, R469, R496. -/
def Obligations.QueuePortsComplete : Prop :=
  ∀ (s : State) (a : Acc) (q : Fin 256),
  (∀ (agent : Fin 8) (off : Fin 4096) (data : List Byte) (bad : Bool),
    s.portServes a q (portAddr q off) data.length (0x1000 - off) = true → s.tailWait q = false →
    s.stands (fun c => popsFrom q c || s.ownerChange q c || resetsHousehold a.hh c) = false →
    exec (.queuePush a q agent off data bad) s =
      .next ((s.answer [0]).qPush q (producerOf a agent) (bytesToWords (data.length / 8) data) false bad 0)) ∧
  (∀ (agent : Fin 8) (off : Fin 2048) (data : List Byte) (bad : Bool),
    s.portServes a q (portAddr q (0x1000 + off)) data.length (0x800 - off) = true → s.tailWait q = false →
    s.stands (fun c => flushes q c || popsFrom q c || s.ownerChange q c || resetsHousehold a.hh c) = false →
    exec (.queuePushLast a q agent off data bad) s =
      .next ((s.answer [0]).qPush q (producerOf a agent) (bytesToWords (data.length / 8) data) true bad 0)) ∧
  (∀ (off : Fin 2048) (bytes : Fin 1024), s.portServes a q (portAddr q (0x1800 + off)) bytes (0x800 - off) = true →
    s.boundTo q = [] → s.popWaits q (bytes / 8) = false → s.stands (fun c => flushes q c || s.ownerChange q c) = false →
    exec (.queuePopStream a q off bytes) s = .next ((s.answer [0]).popStream q (bytes / 8) a.hh)) ∧
  (s.stepPort a q = true →
    (∀ (off : Fin 1024) (words : Fin 65), exec (.queueHeldRead a true q off words) s = .next (s.heldRead q words off a.hh)) ∧
    exec (.queueReleaseHeld a true q) s = .next (s.releaseHeld q 2))

/-- Where the write is served and the manager's rules allow it: CTRL flushes, marks, rewinds or releases the queue; a write of
Q_CFG with EN = 1 while off and without a cause stores the configuration, empties the queue and enables it, and with a
cause records it and raises ENABLE_REFUSED; a write with EN = 0 while on disables and empties it; a write of the spill
base or rate while off stores it, and Q_CFG goes by the same rules. Rests on: R456, R470, R477, R479, R480, R481. -/
def Obligations.QueueRegistersComplete : Prop :=
  ∀ (s : State) (a : Acc) (q : Fin 256),
  (∀ r : Nat, r = 0 ∨ r = 4 ∨ r = 8 ∨ r = 12 ∨ r = 0x1C → s.serves a (qPage q) (qReg q r) true = true →
    (∀ w, s.mgrDenied a.hh (qPage q) (s.fieldsOf (qPage q) (qReg q r)) w = false) →
    (r = 0x1C → exec (.queueFlush a q) s = .next ((s.answer [0]).qFlush q) ∧
      exec (.queueMark a q) s = .next ((s.answer [0]).qMark q) ∧
      (s.stands (fun c => s.markAtRisk q && pushesTo q c) = false →
        exec (.queueRewind a q) s = .next ((s.answer [0]).qRewind q)) ∧
      exec (.queueRelease a q) s = .next ((s.answer [0]).qRelease q)) ∧
    (r = 0 → ∀ w : Word,
      exec (.queueCfgWrite a q 0 w) s = .next ((s.answer [0]).qCfgWrite q w.toNat a.hh) ∧
      (∀ v : Nat, clrBit w.toNat 31 = v → s.qOn q = true →
        (bitsOf v 27 24 = 15 ∨ bitsOf v 27 24 = s.fld (qPage q) (QEH.Q_CFG_SPILL_SIZE.at (q % 32))) →
        b2n (bitAt v 30) = s.fld (qPage q) (QEH.Q_CFG_FULL_MODE.at (q % 32)) →
        exec (.queueDisable a q w) s = .next ((((s.answer [0]).setFld (qPage q) (QEH.Q_CFG_ADAPT_EN.at (q % 32))
          (b2n (bitAt v 29))).setFld (qPage q) (QEH.Q_CFG_EN.at (q % 32)) 0).qEmpty q)) ∧
      (∀ v : Nat, setBit w.toNat 31 = v → s.qOn q = false → bitsOf v 27 24 ≠ 15 → ∀ t u : State,
        (((s.answer [0]).setFld (qPage q) (QEH.Q_CFG_SPILL_SIZE.at (q % 32)) (bitsOf v 27 24)).setFld (qPage q)
          (QEH.Q_CFG_FULL_MODE.at (q % 32)) (b2n (bitAt v 30))).setFld (qPage q) (QEH.Q_CFG_ADAPT_EN.at (q % 32))
          (b2n (bitAt v 29)) = t → t.setQ q { t.q q with refuse := t.qEnableCause q } = u →
        exec (.queueEnable a q w) s = .next (if t.qEnableCause q = 0 then
            (u.qEmpty q).setFld (qPage q) (QEH.Q_CFG_EN.at (q % 32)) 1
          else u.qEvent q QEH.evENABLE_REFUSED a.hh))) ∧
    (∀ (k : Fin 4) (f : Fld) (w : Word), r = 4 * k.val → (k.val = 1 ∧ f = QEH.SPILL_BASE_LO_BASE.at (q % 32) ∨
        k.val = 2 ∧ f = QEH.SPILL_BASE_HI_BASE.at (q % 32) ∨ k.val = 3 ∧ f = QEH.SPILL_RATE_RATE.at (q % 32)) →
      s.qOn q = false → exec (.queueCfgWrite a q k w) s = .next ((s.answer [0]).setFld (qPage q) f w.toNat)))

/-- Outside a dawn's halt: a tail stage with SPILL_WM words, or 7 while blocks lie in the region, writes a block where the
region has room; the oldest outstanding write completes with its status and lets the credits that a full stage withheld
go; with 7 words free in the head stage, or for a waiting pop, the oldest block is read, and its read completes. The
watermark loop, once at each multiple of 65,536, moves the watermark down after a stall and up after a start, clamped to
its envelope, and ends the marks. An open item without words for too long is abandoned, a discarding producer without
words ends its discarding state. A pointer mismatch resets that queue alone, counting its items as lost, recording the
first and abandoning an open item. Rests on: R471, R472, R474, R475, R478, R484, R487, R488. -/
def Obligations.SpillCommandsComplete : Prop :=
  ∀ (s : State) (q : Fin 256),
  (∀ x : QueueSt, (s.q q).settle = x → 7 ≤ x.tail.length →
    (s.fld (qPage q) (QEH.SPILL_WM_WM.at (q % 32)) ≤ x.tail.length ∨ x.spilling = true) → x.blocks < s.qSpill q / 64 →
    s.tb.haltedIslands = false → exec (.spillWrite q) s = .next ((s.setQ q x).spillWrite q)) ∧
  (∀ (b : Nat) (st : Fin 8), (s.q q).oldestAt 1 = some b → s.tb.haltedIslands = false →
    exec (.spillWriteDone q st) s = .next ((s.spillWritten q b st).releaseCredits (qRouter q))) ∧
  (∀ b : Nat, (s.q q).oldestAt 2 = some b → ((s.q q).headLen + 7 ≤ 16 ∨ s.popPending q = true) → s.tb.haltedIslands = false →
    exec (.spillRead q) s = .next (s.spillRead q b q)) ∧
  (∀ (b : Nat) (st : Fin 8) (n : Fin 4) (t : State), (s.q q).oldestAt 3 = some b → s.tb.haltedIslands = false → s.spillReturned q b st n q = t →
    exec (.spillReadDone q st n) s = .next (t.setQ q (t.q q).settle)) ∧
  (s.tb.count % 65536 = 0 → (s.q q).updated ≠ s.tb.beat + 1 →
    s.stands (writesField (qPage q) (QEH.SPILL_ENV_MAX.at (q % 32))) = false →
    (s.on (qPage q) (QEH.Q_CFG_ADAPT_EN.at (q % 32)) = false → exec (.spillWmUpdate q) s =
      .next (s.setQ q { s.q q with stalled := false, started := false, updated := s.tb.beat + 1 })) ∧
    (∀ (v w lo hi : Int) (pin : Nat) (t : State), s.on (qPage q) (QEH.Q_CFG_ADAPT_EN.at (q % 32)) = true →
      (s.fld (qPage q) (QEH.SPILL_WM_WM.at (q % 32)) : Int) = v →
      (if (s.q q).stalled = true then v - 1 else if (s.q q).started = true then v + 1 else v) = w →
      (s.fld (qPage q) (QEH.SPILL_ENV_MIN.at (q % 32)) : Int) = lo →
      (s.fld (qPage q) (QEH.SPILL_ENV_MAX.at (q % 32)) : Int) = hi →
      (if w < lo ∨ hi < w then (s.q q).pin + 1 else 0) = pin →
      (s.setQ q { s.q q with stalled := false, started := false, updated := s.tb.beat + 1, pin := pin }).setFld
        (qPage q) (QEH.SPILL_WM_WM.at (q % 32)) (clampInt lo hi w).toNat = t →
      exec (.spillWmUpdate q) s = .next (if pin = 256 then t.qEvent q QEH.evLOOP_PINNED 0xE else t))) ∧
  (∀ o, (s.q q).opened = some o → o.last + 2 ^ s.fld pQe QE.QE_CFG_ITEM_TMO ≤ s.tb.beat → s.stands (pushesTo q) = false →
    exec (.itemTimeout q) s = .next (s.qAbandon q 3 true o.prod.hh)) ∧
  (∀ (node agent master hh : Fin 64) (x : QueueSt), s.q q = x →
    exec (.discardTimeout q node agent master hh) s = .next (s.setQ q { x with
    discs := x.discs.filter (fun d => decide (d.prod ≠ ⟨node, agent, master, hh⟩) || !s.itemDue d.last) })) ∧
  (∀ (t u v : State) (x : QueueSt), ((s.raise pQe QE.evQPTR_MISMATCH).qEvent q QEH.evQPTR_MISMATCH 0xE).bump pQe
      QE.QPTR_COUNT_COUNT = t →
    (if t.on pQe QE.QPTR_INFO_VALID = true then t else (t.setFld pQe QE.QPTR_INFO_VALID 1).setFld pQe QE.QPTR_INFO_QUEUE
      q) = u →
    (u.bump (qPage q) (QEH.LOST_ITEMS_COUNT.at (q % 32)) (s.q q).items.length).unlistQueue q = v →
    { s.q q with
      items := [], opened := none, mark := none, rd := (s.q q).nextIdx, off := 0, bseq := 0
      lost := (s.q q).lost || decide (0 < (s.q q).items.length) } = x →
    s.stands (actsOn q) = false →
    ((s.q q).opened = none → exec (.qptrMismatch q) s = .next ((v.setQ q x).qTouch q)) ∧
    (∀ o, (s.q q).opened = some o → exec (.qptrMismatch q) s = .next (((v.setQ q { x with
      discs := (s.q q).discs ++ [⟨o.prod, true, s.tb.beat⟩] }).pushResult q 2 o.words.length).qTouch q)))

/-- Where the write is served, the manager's rules allow it and no write that goes before it waits: enabling an idle slot
without a refusal cause fills its buckets and enables it; a rate write goes to the shadow unless it breaks a port or DRAM
ceiling, when RATE_REFUSED is raised; BIND of a disabled slot is stored, of an enabled one refused with BIND_LOCKED. A
refill instant, at a multiple of 2^REFILL_EXP and once, refills a scheduler's or a policer's buckets. Outside a dawn,
after what is due by then (a refill, the wheel): a decision sends the frame of the first slot of HI whose deficit covers
it, that may be served and that the port accepts; a slot that is idle with an item, or blocked no longer, wakes; a wheel
tick, at a multiple of 32, wakes the slots whose eligible time has come. The level-1 move, at a multiple of 65,536, brings
slots to level 0 and re-examines parked ones. Rests on: R182, R495, R500, R502, R504, R505, R508, R510, R512, R524, R526,
R528. -/
def Obligations.SchedulerCommandsComplete : Prop :=
  (∀ (s : State) (a : Acc) (p : Fin 5) (k : Fin 64) (r : Nat), s.serves a (pSch p) (0x100 + 0x30 * k.val + r) true = true →
    (∀ w, s.mgrDenied a.hh (pSch p) (s.fieldsOf (pSch p) (0x100 + 0x30 * k.val + r)) w = false) →
    (r = 4 → ∀ (w : Word) (v : Nat) (t : State), setBit w.toNat 31 = v → 64 ≤ bitsOf v 15 0 →
      ((s.answer [0]).setFld (pSch p) (SCH.SLOT_CTRL_QUANTUM.at k) (bitsOf v 15 0)).setFld (pSch p)
        (SCH.SLOT_CTRL_SOJ_LIMIT.at k) (bitsOf v 27 16) = t →
      s.stands (fun c => commitsAdm c || s.enablesBefore p k c) = false →
      s.on (pSch p) (SCH.SLOT_CTRL_EN.at k) = false → t.on (pSch p) (SCH.SLOT_CTRL_EN.at k) = false → t.slotCause p k = 0 →
      exec (.slotEnable a p k w) s = .next ((t.setFld (pSch p) (SCH.SLOT_CTRL_EN.at k) 1).setSlot p k { SlotSt.reset with
        b := ⟨(t.cbs p k * 65536 : Nat), (t.pbs p k * 65536 : Nat), 0, 0⟩ })) ∧
    (r = 8 → s.stands commitsAdm = false → ∀ w : Word, exec (.cirWrite a p k false w) s = .next (((s.answer [0]).cirWrite p k (SCH.CIR_LO_CIR.at k) w.toNat
      (w.toNat + 2 ^ 32 * s.shadow (pSch p) (SCH.RATE_HI_CIR.at k)) a.hh).schImmediate p)) ∧
    (r = 0x10 → s.stands commitsAdm = false → ∀ w : Word, bitsOf w.toNat 29 28 ≠ 3 → exec (.cirWrite a p k true w) s =
      .next ((((((s.answer [0]).setShadow (pSch p) (SCH.RATE_HI_PIR.at k) (bitsOf w.toNat 23 16)).setShadow (pSch p)
        (SCH.RATE_HI_CHG_MODE.at k) (bitsOf w.toNat 29 28)).cirWrite p k (SCH.RATE_HI_CIR.at k) (bitsOf w.toNat 7 0)
        (s.shadow (pSch p) (SCH.CIR_LO_CIR.at k) + 2 ^ 32 * bitsOf w.toNat 7 0) a.hh)).schImmediate p)) ∧
    (r = 0 → ∀ w : Word,
      (s.on (pSch p) (SCH.SLOT_CTRL_EN.at k) = true → exec (.bindWrite a p k false w) s =
        .next ((s.answer [0]).raiseBy (pSch p) SCH.evBIND_LOCKED a.hh)) ∧
      (s.on (pSch p) (SCH.SLOT_CTRL_EN.at k) = false → exec (.bindWrite a p k false w) s =
        .next ((((s.answer [0]).setFld (pSch p) (SCH.BIND_DRAM_TOUCH.at k) (bitsOf w.toNat 31 31)).setFld (pSch p)
          (SCH.BIND_CLASS.at k) (bitsOf w.toNat 29 29)).setFld (pSch p) (SCH.BIND_QUEUE.at k) (bitsOf w.toNat 7 0))))) ∧
  (∀ (s t : State) (page : Fin 9), s.onTick (2 ^ s.pageExp page) = true → (s.sc page).refilled ≠ s.tb.beat + 1 →
    s.setSc page { s.sc page with refilled := s.tb.beat + 1 } = t →
    (page.val < 5 → exec (.refillInstant page) s = .next (t.schRefill page)) ∧
    (5 ≤ page.val → exec (.refillInstant page) s = .next (t.polRefill (page.val - 5)))) ∧
  (∀ (z s t : State) (p : Fin 5) (credit : Bool) (fail : Option (PopFail × Fin 1025)) (k l : Nat) (rest : List Nat)
    (x : SlotSt), z.tb.dawn = 0 → z.stands (fun c => disablesOf p c || (p.val == 0 && writesHead c) ||
      (z.slotsOn p).any (fun k => flushes (z.slotQueue p k) c)) = false → z.schDue p = s →
    (s.sc p).hi = k :: rest → s.headLen p k = some l → s.slotBlocked p k l = false →
    (if (s.slot p k).turn = true then s.slot p k else { s.slot p k with
      deficit := (s.slot p k).deficit + s.fld (pSch p) (SCH.SLOT_CTRL_QUANTUM.at k), turn := true }) = x →
    s.setSlot p k x = t → l ≤ x.deficit → t.commOk p k l = true → t.portAccepts p k l credit = true →
    exec (.egressDecision p ⟨credit, fail⟩) z = .next (t.sendFrame p k 1 l (fail.map (fun e => (e.1, e.2.val))))) ∧
  (∀ (z s : State) (p : Fin 5) (k : Fin 64) (l : Nat), z.schDue p = s → s.headLen p k = some l →
    s.on (pSch p) (SCH.SLOT_CTRL_EN.at k) = true →
    ((s.slot p k).place = 0 ∨ (s.slot p k).place = 6 ∧ s.slotBlocked p k l = false) →
    exec (.slotWake p k) z = .next (s.wakeSlot p k)) ∧
  (∀ (s : State) (p : Fin 5), (∀ z : State, s.refillNow p = z →
      exec (.wheelTick p) s = .next (if z.onTick 32 = true then (List.range 64).foldl (fun t k =>
        if (t.slot p k).place = 4 ∧ (t.slot p k).level = 0 ∧ (t.slot p k).te ≤ t.tb.count then t.wakeSlot p k else t) z
        else z)) ∧
    (s.onTick 65536 = true → exec (.wheelLevel1Move p) s = .next ((List.range 64).foldl (fun t k =>
      if (t.slot p k).place = 4 ∧ (t.slot p k).level = 1 ∧ (t.slot p k).te / 65536 ≤ t.tb.count / 65536 then
        t.setSlot p k { t.slot p k with level := 0 }
      else if (t.slot p k).place = 5 ∧ (t.slot p k).level = 2 then t.reexamine p k else t) s)))

/-- MODULE_READY takes a port that has waited 1 ms in WAIT_MODULE to WAIT_LOCK; PCS_LOCKED, after 65,536 beats with the
module's supply good and FEC alignment where FEC_EN asks it, records the lock, keeps FEC_EN, runs the loopback calibration
and enters WAIT_PARTNER; HELLO_SEND emits a HELLO there, the first at once and then each 65,536 beats. A good HELLO of
another device with the own FEC_EN is kept, and brings the port up when it names this device as partner; one with the own
identity, with another FEC_EN, or of a changed partner has the effect the rules give it. LOS, MODABS, loss of lock, hi_ber
and 2^20 beats without a frame take an UP port down with their events, and LINK_DOWN_WAIT_END, after 1 ms, returns the
port to WAIT_MODULE. That MODULE_READY records LOS high is the model's reading (log entry 27). Rests on: R551, R552, R570,
R573, R579. -/
def Obligations.LinkBringUpCompletes : Prop :=
  ∀ (s : State) (k : Fin 4),
    (s.linkState k = 1 → (s.port k).since + 1000000 ≤ s.tb.beat → exec (.moduleReady k) s =
      .next (((s.setFld (pFabp k) FABP.LINK_STATUS_MODABS 0).setFld (pFabp k) FABP.LINK_STATUS_LOS 1).setLink k 2)) ∧
    (∀ (los fec stable : Bool) (tx rx : Fin 64), s.linkState k = 2 → s.phyOk = true →
      (s.fecEn k = true → fec = true) → (s.port k).since + 65536 ≤ s.tb.beat →
      ∀ t : State, s.setPort k { s.port k with fec := s.fecEn k } = t → exec (.pcsLocked k los fec tx rx stable) s =
        .next ((((((t.setFld (pFabp k) FABP.LINK_STATUS_LOS (b2n los)).setFld (pFabp k) FABP.LINK_STATUS_BLOCK_LOCK 1).setFld
          (pFabp k) FABP.LINK_STATUS_HI_BER 0).setFld (pFabp k) FABP.LINK_STATUS_FEC_LOCK
          (b2n (fec && s.fecEn k))).loopCal k tx rx stable).setLink k 3)) ∧
    (s.linkState k = 3 → ((s.port k).helloAt = none ∨ ∃ t, (s.port k).helloAt = some t ∧ t + 65536 ≤ s.tb.beat) →
      exec (.helloSend k) s = .next ((s.setPort k { s.port k with helloAt := some s.tb.beat }).emitFrame k
        (s.stampAck k (s.helloFrame k)))) ∧
    (∀ f : Frame, f.kind = 0 → bitsOf f.arg2 63 60 = 1 → f.badReason = 0 →
      (s.linkState k = 3 → f.bytesAt 0 8 = s.myId →
        exec (.helloReceive k f) s = .next ((s.frameIn k f).bump (pFabp k) FABP.LOST_SELF_LOOP)) ∧
      (∀ t, s.linkState k = 3 → f.bytesAt 0 8 ≠ s.myId → (s.frameIn k f).keepHello k f = t →
        (bitAt (f.bytesAt 11 1) 0 ≠ s.fecEn k →
          exec (.helloReceive k f) s = .next (t.bump (pFabp k) FABP.LOST_FEC_MISMATCH)) ∧
        (bitAt (f.bytesAt 11 1) 0 = s.fecEn k →
          (f.bytesAt 24 8 = s.myId → exec (.helloReceive k f) s =
            .next (t.linkUp k ((List.range 6).map (fun v => (v, f.bytesAt (12 + 2 * v) 2))))) ∧
          (f.bytesAt 24 8 ≠ s.myId → exec (.helloReceive k f) s = .next t))) ∧
      (s.linkState k = 4 → f.bytesAt 0 8 ≠ s.pair (pFabp k) FABP.PARTNER_ID_LO_ID FABP.PARTNER_ID_HI_ID →
        exec (.helloReceive k f) s = .next (((s.frameIn k f).raise (pFabp k) FABP.evPARTNER_CHANGE).linkDown k))) ∧
    (s.linkState k = 5 → (s.port k).since + 1000000 ≤ s.tb.beat → exec (.linkDownWaitEnd k) s = .next (s.setLink k 1)) ∧
    (s.linkState k = 4 →
      exec (.linkLos k false) s =
        .next (((s.setFld (pFabp k) FABP.LINK_STATUS_LOS 1).raise (pFabp k) FABP.evLOS).linkDown k) ∧
      exec (.linkLos k true) s =
        .next (((s.setFld (pFabp k) FABP.LINK_STATUS_MODABS 1).raise (pFabp k) FABP.evMOD_ABSENT).linkDown k) ∧
      exec (.pcsLockLost k true) s =
        .next (((s.setFld (pFabp k) FABP.LINK_STATUS_HI_BER 1).raise (pFabp k) FABP.evHI_BER).linkDown k) ∧
      exec (.pcsLockLost k false) s = .next (((((s.setFld (pFabp k) FABP.LINK_STATUS_BLOCK_LOCK 0).setFld (pFabp k)
        FABP.LINK_STATUS_FEC_LOCK 0).setFld pRefmon (REFMON.CAND_OFF_VALID.at (2 + k)) 0).raise (pFabp k)
        FABP.evHI_BER).linkDown k) ∧
      ((s.port k).rxAt + 2 ^ 20 ≤ s.tb.beat → exec (.linkIdleTimeout k) s = .next (s.linkDown k)))

/-- On an UP port a frame of bad CRC is discarded with CRC_ERR, counted, and asks for a replay once in an episode. A good LINK
UPDATE replaces the six channels' cumulative credits and its acknowledgement is taken. LINK_UPDATE_DUE, where an
acknowledgement has waited 512 beats, 32 units are unreported or 65,536 beats have passed, makes an update due, NAK_RESEND
one with NAK in an open episode whose NAK has gone unanswered for the replay time, and REPLAY_TIMEOUT, where the oldest
unacknowledged frame has waited that long, starts a replay from it. FRAME_TRANSMIT sends a due update before anything,
then the next frame of a running replay, then the new frame that has the highest rank, credit and buffer space. FEC
codeword counts are operands of the command. Rests on: R543, R544, R545, R546, R547, R549, R550, R553, R573. -/
def Obligations.LinkFramesComplete : Prop :=
  (∀ (s : State) (k : Fin 4), s.portUp k = true →
    (∀ (corrected uncorrectable : BitVec 16) (t : State), (s.bump (pFabp k) FABP.FEC_CORR_COUNT corrected.toNat).bump
        (pFabp k) FABP.FEC_UNCORR_COUNT uncorrectable.toNat = t →
      (uncorrectable = 0 → exec (.frameBadCrc k corrected uncorrectable) s =
        .next (((t.raise (pFabp k) FABP.evCRC_ERR).bump (pFabp k) FABP.ERRS_CRC_ERRS).openEpisode k)) ∧
      (uncorrectable ≠ 0 → exec (.frameBadCrc k corrected uncorrectable) s = .next ((((t.raise (pFabp k)
        FABP.evFEC_UNCORR).raise (pFabp k) FABP.evCRC_ERR).bump (pFabp k) FABP.ERRS_CRC_ERRS).openEpisode k))) ∧
    (∀ (f : Frame) (cum : List (Nat × Nat)), f.kind = 0 → bitsOf f.arg2 63 60 = 0 → f.badReason = 0 →
      (List.range 6).foldl (fun t v => Tab.set 0 t v
        (if v = 5 then bitsOf f.arg3 11 0 else bitsOf f.arg2 (12 * v + 11) (12 * v))) ((s.frameIn k f).port k).cum = cum →
      exec (.linkUpdateReceive k f) s =
        .next (((s.frameIn k f).setPort k { (s.frameIn k f).port k with cum := cum }).takeAck k f)) ∧
    (s.updateNeeded k = true → exec (.linkUpdateDue k) s = .next (s.setPort k { s.port k with updateDue := true })) ∧
    (∀ b : Nat, (s.port k).episode = true → (s.port k).nakAt = some b →
      b + 2 ^ s.fld (pFabp k) FABP.REPLAY_CFG_REPLAY_EXP ≤ s.tb.beat → exec (.nakResend k) s = .next (s.setPort k { s.port k with updateDue := true, nak := true })) ∧
    ((s.port k).updateDue = true → exec (.frameTransmit k) s = .next (s.sendUpdate k)) ∧
    ((s.port k).updateDue = false →
      (∀ (r : Nat) (u : Unacked), (s.port k).replayAt = some r →
        (s.port k).unacked.find? (fun u => u.frame.seq == r) = some u →
        exec (.frameTransmit k) s = .next (s.sendReplay k u)) ∧
      (∀ x : TxFrame, (s.port k).replayAt = none → s.nextFrame k = some x →
        exec (.frameTransmit k) s = .next (s.sendNew k x)))) ∧
  (∀ (s : State) (k : Fin 4) (u : Unacked) (us : List Unacked), (s.port k).unacked = u :: us → s.portUp k = true →
    u.last + 2 ^ s.fld (pFabp k) FABP.REPLAY_CFG_REPLAY_EXP ≤ s.tb.beat → (s.port k).replayAt ≠ some u.frame.seq →
    exec (.replayTimeout k) s = .next (s.startReplay k u.frame.seq))

/-- A good frame of a row's own kind that an UP port takes (expected number, room in its channel, within its policer) passes
the link, which keeps the place in the receive buffer until the frame has left it: a LOCAL frame or one for this device is
delivered at its agent, any other goes where the tables and the tree say. An inject command delivers what waits first and
can be delivered. A request that no route carries is answered DECODE with zero data and counted. A served I2C_CTRL write
with GO starts a transaction on the module management bus, and its end clears BUSY, stores what a read brought and raises
I2C_DONE or I2C_ERR. Rests on: R544, R549, R554, R555, R556, R557, R558, R577, R598, R599, R600. -/
def Obligations.FabricFramesComplete : Prop :=
  (∀ (s : State) (k : Fin 4) (f : Frame) (nx : Nat) (t : State), s.linkTakes k f = true → (s.frameIn k f).fab.next = nx →
    ((s.linkTaken k f).above k nx f (fun u => u.toAgent k nx f)).freeUnused = t →
    (f.kind = 1 → exec (.transportReceive k f) s = .next t) ∧
    (f.kind = 2 → exec (.itemFrameReceive k f) s = .next t) ∧
    (f.kind = 3 → f.arg2 % 16 ≠ 0xE → exec (.segmentFrameReceive k f) s = .next t) ∧
    (f.kind = 3 → f.arg2 % 16 = 0xE →
      (f.bytesAt 1 1 = 0 → exec (.almDistArmReceive k f) s = .next t) ∧
      (f.bytesAt 1 1 = 1 → exec (.almDistCancelReceive k f) s = .next t) ∧
      (f.bytesAt 1 1 = 2 → exec (.almDistAckReceive k f) s = .next t) ∧
      (f.bytesAt 1 1 = 3 → exec (.almResendReqReceive k f) s = .next t))) ∧
  (∀ (s : State) (k : Fin 4), exec (.fabpRequestInject k) s = .next (s.serveInbound k)) ∧
  (∀ (s : State) (w0 w1 : BitVec 64), exec (.unroutableRequest w0 w1) s =
    .next ((s.unroutable (bitsOf w0.toNat 39 36)).reply 5 0 w0.toNat w1.toNat 2 (zeroData w0.toNat w1.toNat))) ∧
  (∀ (s : State) (a : Acc) (w : Word), s.serves a pFab 0x118 true = true → a.hh = 15 → s.on pFab FAB.I2C_CTRL_BUSY = false →
    exec (.i2cGo a w) s = .next ((((((s.answer [0]).writeFields pFab [FAB.I2C_CTRL_READ, FAB.I2C_CTRL_FAST,
      FAB.I2C_CTRL_LEN_M1, FAB.I2C_CTRL_ADDR, FAB.I2C_CTRL_REG] (setBit w.toNat 31)).setFld pFab FAB.I2C_CTRL_BUSY 1).setFld
      pFab FAB.I2C_CTRL_NACK 0).send "I2C" (bitsOf (setBit w.toNat 31) 22 16) [bitsOf (setBit w.toNat 31) 15 8,
      bitsOf (setBit w.toNat 31) 25 24 + 1, bitsOf (setBit w.toNat 31) 28 28, bitsOf (setBit w.toNat 31) 27 27,
      ((s.answer [0]).writeFields pFab [FAB.I2C_CTRL_READ, FAB.I2C_CTRL_FAST, FAB.I2C_CTRL_LEN_M1, FAB.I2C_CTRL_ADDR,
      FAB.I2C_CTRL_REG] (setBit w.toNat 31)).fld pFab FAB.I2C_DATA_DATA]))) ∧
  (∀ (s t : State) (data : Word) (nack : Bool), s.on pFab FAB.I2C_CTRL_BUSY = true →
    (s.setFld pFab FAB.I2C_CTRL_BUSY 0).setFld pFab FAB.I2C_CTRL_NACK (b2n nack) = t →
    (nack = true → exec (.i2cDone nack data) s = .next (t.raise pFab FAB.evI2C_ERR)) ∧
    (nack = false → t.on pFab FAB.I2C_CTRL_READ = true → exec (.i2cDone nack data) s = .next ((t.setFld pFab
      FAB.I2C_DATA_DATA (data.toNat % 2 ^ (8 * (t.fld pFab FAB.I2C_CTRL_LEN_M1 + 1)))).raise pFab FAB.evI2C_DONE)) ∧
    (nack = false → t.on pFab FAB.I2C_CTRL_READ = false → exec (.i2cDone nack data) s = .next (t.raise pFab FAB.evI2C_DONE)))

/-- With discovery enabled: an announce, each announce period, makes the choice of root again, counts ROOT_SEQ at the root,
and announces; a good discovery frame that an UP port takes and that is delivered here has its effect on root, tree,
numbers, map and tables. ROOT_HOLD expiring with no root lets the device claim root, or raises DISC_NO_ROOT once;
TREE_STABLE, SETTLE_N periods after the last change, makes the root number itself and any other device join, which it does
again each 64 periods. The root sends a new map SETTLE_N periods after the last change of its device table, a JOIN 256
periods old removes its device, and the wait of 2^24 beats for acknowledgements ends in activation with DISC_ACK_MISSING.
Rests on: R559, R560, R561, R562, R563, R564, R565, R567. -/
def Obligations.DiscoveryCompletes : Prop :=
  (∀ (s : State) (k : Fin 4) (f : Frame) (n : Fin 6) (nx : Nat) (t : State), s.linkTakes k f = true → f.kind = 4 →
    f.arg2 % 16 = n → (s.frameIn k f).fab.next = nx →
    (s.linkTaken k f).above k nx f (fun u => if u.enabled pDisc then
      (match n with
        | 0 => u.announceIn k f
        | 1 => u.joinIn k f
        | 2 => u.assignIn f
        | 3 => u.mapIn f
        | 4 => u.mapAckIn f
        | 5 => (if (u.downTree (discFrame 5 (bitsOf f.arg2 31 16) 0 [])).fld pRoute ROUTE.RT_STATUS_STAGED_EPOCH =
            bitsOf f.arg2 31 16 then (u.downTree (discFrame 5 (bitsOf f.arg2 31 16) 0 [])).activate
          else u.downTree (discFrame 5 (bitsOf f.arg2 31 16) 0 []))) else u) = t →
    (n = 0 → exec (.announceReceive k f) s = .next t.freeUnused) ∧ (n = 1 → exec (.joinReceive k f) s = .next t.freeUnused) ∧
    (n = 2 → exec (.assignReceive k f) s = .next t.freeUnused) ∧ (n = 3 → exec (.mapReceive k f) s = .next t.freeUnused) ∧
    (n = 4 → exec (.mapAckReceive k f) s = .next t.freeUnused) ∧
    (n = 5 → exec (.activateReceive k f) s = .next t.freeUnused)) ∧
  (∀ s : State, s.enabled pDisc = true →
    (s.annPassed s.disc.annAt 1 = true → ∀ t : State,
      ({ s with disc := { s.disc with annAt := s.tb.beat } } : State).elect false = t →
      (t.on pDisc DISC.DISC_STATUS_IS_ROOT = true → exec .announceSend s =
        .next (t.incr pDisc DISC.ROOT_INFO_ROOT_SEQ).announce) ∧
      (t.on pDisc DISC.DISC_STATUS_IS_ROOT = false → exec .announceSend s = .next t.announce)) ∧
    (∀ z t : State, s.disc.hasRoot = false → s.noteHold = z → z.holdOver = true → z.elect true = t →
      (t.disc.hasRoot = true ∨ t.disc.noRoot = true → exec .rootHoldExpire s = .next t) ∧
      (t.disc.hasRoot = false → t.disc.noRoot = false → exec .rootHoldExpire s =
        .next (({ t with disc := { t.disc with noRoot := true } } : State).raise pDisc DISC.evDISC_NO_ROOT))) ∧
    (∀ t, s.disc.hasRoot = true → s.fld pDisc DISC.DISC_STATUS_STATE = 1 →
      s.annPassed s.disc.changedAt (s.fld pDisc DISC.DISC_TIMING_SETTLE_N) = true →
      (s.setFld pDisc DISC.DISC_STATUS_STATE 2).raise pDisc DISC.evTREE_STABLE = t →
      (t.on pDisc DISC.DISC_STATUS_IS_ROOT = true → exec .treeStable s = .next t.numberSelf) ∧
      (t.on pDisc DISC.DISC_STATUS_IS_ROOT = false → exec .treeStable s = .next t.join)) ∧
    (2 ≤ s.fld pDisc DISC.DISC_STATUS_STATE → s.on pDisc DISC.DISC_STATUS_IS_ROOT = false →
      s.annPassed s.disc.joinAt 64 = true → exec .joinSend s =
        .next (({ s with disc := { s.disc with joinAt := s.tb.beat } } : State).sendLocal s.rootPort s.joinFrame)) ∧
    (∀ (e : Nat) (want : List Nat) (u v : State), s.on pDisc DISC.DISC_STATUS_IS_ROOT = true → s.numValid = true →
      s.disc.dirty = true → s.annPassed s.disc.dirtyAt (s.fld pDisc DISC.DISC_TIMING_SETTLE_N) = true →
      s.stands bringsJoin = false → (s.fld pRoute ROUTE.RT_STATUS_STAGED_EPOCH + 1) % 2 ^ 16 = e →
      (s.rootMap.map MapEntry.dev).filter (fun d => d != s.devNum) = want → s.stage e s.rootMap = u →
      (mapFrames e s.rootMap.length 0 s.rootMap 2).foldl (fun t f => t.downTree f)
        { u with disc := { u.disc with dirty := false, acks := some want, mapAt := s.tb.beat } } = v →
      (want ≠ [] → exec .mapSettle s = .next v) ∧ (want = [] → exec .mapSettle s = .next v.rootActivate))) ∧
  (∀ (s : State) (ident : BitVec 64),
    s.disc.devices.any (fun d => d.ident == ident.toNat && s.annPassed d.at_ 256) = true →
    exec (.joinExpire ident) s = .next { s with disc := { s.disc with
      devices := s.disc.devices.filter (fun d => d.ident != ident.toNat), dirty := true, dirtyAt := s.tb.beat } }) ∧
  (∀ (s : State) (l : List Nat), s.disc.acks = some l → s.disc.mapAt + 2 ^ 24 ≤ s.tb.beat →
    exec .mapAckTimeout s = .next (s.raise pDisc DISC.evDISC_ACK_MISSING).rootActivate)

/-- A root or aligned device, at each multiple of the exchange period, sends a SYNC with the next EXCH on each child port that
is up. A good TIME frame that an UP port takes has its effect on the engine: a SYNC starts an exchange, a DELAY_REQ is
answered with the stamp of its arrival, and a DELAY_RESP that matches completes the exchange, valid or void. A steering
step, in MEASURE to ALIGNED, applies one unit toward zero remaining correction, unless HOLD is set or the window of 65,536
beats has had STEER_MAX of them. A served JOIN of a member that is OFF waits for a SYNC with its steering total at 0;
LEAVE ends in OFF with LEFT. A device whose REF_SWITCH is done and whose slew has ended goes on to MEASURE, and a parent
from which no valid exchange has come for 16 periods takes SYNTONISE to ALIGNED to their lost state. Rests on: R578, R580,
R581, R582, R583, R587, R588, R591, R592. -/
def Obligations.ConstellationCompletes : Prop :=
  (∀ s : State, s.enabled pConst = true → (s.cState = 1 ∨ s.cState = 7) → s.onTick s.exchPeriod = true →
    s.cst.syncAt ≠ s.tb.beat + 1 → ∀ z : State, { s with cst := { s.cst with syncAt := s.tb.beat + 1 } } = z →
    exec .syncSend s = .next ((s.childPorts.filter s.portUp).foldl (fun t k =>
      (t.incr pConst (CONST.EXCH_SEQ_SEQ.at k)).sendLocal k ((t.incr pConst (CONST.EXCH_SEQ_SEQ.at k)).timeFrame k 0
        ((t.incr pConst (CONST.EXCH_SEQ_SEQ.at k)).fld pConst (CONST.EXCH_SEQ_SEQ.at k)) 0)) z)) ∧
  (∀ (s : State) (k : Fin 4) (f : Frame) (start : BitVec 64), s.linkTakes k f = true → f.kind = 5 →
    (f.arg2 % 16 = 0 → exec (.syncReceive k f start) s = .next ((s.linkTaken k f).syncIn k f start.toNat).freeUnused) ∧
    (f.arg2 % 16 = 1 →
      exec (.delayReqReceive k f start) s = .next ((s.linkTaken k f).delayReqIn k f start.toNat).freeUnused) ∧
    (f.arg2 % 16 = 2 →
      (∀ (x : Exchange) (t3 : Nat), (s.linkTaken k f).cst.exch = some x → x.t3 = some t3 → x.num = bitsOf f.arg2 63 32 →
        x.void = false → f.replayed = false → k = (s.linkTaken k f).rootPort → (s.linkTaken k f).cst.voidPorts.contains k.val = false →
        stampDiff ((s.linkTaken k f).tb.count * 64) x.t2 ≤ ((s.linkTaken k f).exchPeriod / 2 * 64 : Nat) →
        exec (.delayRespReceive k f) s = .next ((s.linkTaken k f).validExchange k x t3 (timeStamp f)).freeUnused) ∧
      (∀ x : Exchange, (s.linkTaken k f).cst.exch = some x → (x.void = true ∨ f.replayed = true ∨ x.num ≠ bitsOf f.arg2 63 32) →
        exec (.delayRespReceive k f) s = .next (s.linkTaken k f).timeVoid.freeUnused))) ∧
  (∀ (s : State) (d : Int), s.on pConst CONST.CONST_CTRL_HOLD = false →
    (0 < s.cst.rem ∧ d = 1 ∨ s.cst.rem < 0 ∧ d = -1) → 3 ≤ s.cState → s.cState ≤ 7 →
    s.stepsNow < s.fld pConst CONST.CONST_CFG_STEER_MAX → ∀ t : State,
    t = { s with cst := { s.cst with
      rem := s.cst.rem - d, steer := s.cst.steer + d, stepWin := s.tb.count / 65536, stepN := s.stepsNow + 1 } } →
    exec .steerStep s = .next (t.setSfld pConst CONST.STEER_SUM_SUM (t.sfld pConst CONST.STEER_SUM_SUM + d))) ∧
  (∀ (s : State) (a : Acc), s.serves a pConst 0x104 true = true → a.hh = 15 →
    (∀ t, ((s.answer [0]).setFld pConst CONST.CONST_CTRL_HOLD (s.fld pConst CONST.CONST_CTRL_HOLD % 2)) = t → t.constMember = true →
      t.cState = 0 → exec (.constJoin a) s = .next ((t.setFld pConst CONST.STEER_SUM_SUM 0).setCState 2)) ∧
    (∀ t, ((s.answer [0]).setFld pConst CONST.CONST_CTRL_HOLD (s.fld pConst CONST.CONST_CTRL_HOLD % 2)) = t → t.cState ≠ 0 →
      t.cState ≠ 9 → exec (.constLeave a) s =
        .next ((({ t with cst := { t.cst with exch := none, rem := 0 } } : State).setCState 0).raise pConst CONST.evLEFT))) ∧
  (∀ s : State, s.cState = 3 → (s.almEntry 63).st = 3 → s.on pRefmon REFMON.STATUS_SLEWING = false →
    exec .syntoniseDone s = .next (s.setCState 4)) ∧
  (∀ s : State, 3 ≤ s.cState → s.cState ≤ 7 → s.cst.validAt + 16 * s.exchPeriod ≤ s.tb.beat →
    exec .parentTimeout s = .next ((s.setCState 8).raise pConst CONST.evPARENT_LOST))

/-- For a run that holds a step item not yet digested, 80 ns for each block of it after it was obtained or later, the digest
of the item's words, 8 bytes little-endian each, becomes INPUT_DIGEST, and DIGEST_WAIT gains the ticks that a run waiting
at its STEP barrier waited for it. The first write that reached the weights region makes it dirty, with WEIGHTS_DIRTY and
the run's flag 8. A feed pushes the recorded item that is due, and counts a slip when it becomes visible after its target
tick; before it the item is not pushed. A served write of PCFG with REPLAY_EN = 1 and of a block's other registers has the
effect of Table 16.11 on the household's block. Rests on: R612, R613, R628, R631, R637. -/
def Obligations.ProvenanceCommandsComplete : Prop :=
  (∀ (s : State) (h : Fin 8) (r : RunSt) (i : QItem) (t : State), s.runOf h = some r → s.stepItem r = some i →
    r.digested = false → r.gotAt + 80 * shaBlocks (8 * i.words.length) ≤ s.tb.beat →
    (s.putDigest h PROV.INPUT_DIGEST_W (sha256 (wordsLe i.data))).setRun h { r with digested := true } = t →
    (s.atStep r = true → exec (.inputDigestDone h) s = .next (t.bump pProv (PROV.DIGEST_WAIT_N.at h) (s.tb.count - r.readyAt))) ∧
    (s.atStep r = false → exec (.inputDigestDone h) s = .next t)) ∧
  (∀ (s : State) (h : Fin 8) (t : State), (s.pvOf h).written = true → (s.pvOf h).weights.isSome = true →
    (s.pvOf h).dirty = false →
    (s.setPv h { s.pvOf h with written := false, dirty := true }).raiseBy pProv PROV.evWEIGHTS_DIRTY h = t →
    ((t.runOf h).isSome = true → exec (.weightsWriteDetect h) s = .next (t.setRunFlag h 8)) ∧
    ((t.runOf h).isSome = false → exec (.weightsWriteDetect h) s = .next t)) ∧
  (∀ (s : State) (h : Fin 8) (r : RunSt) (t : State), s.runOf h = some r → (s.pvOf h).feedLeft ≠ 0 →
    s.pf h PROV.PSTATUS_FEED_STATE = 2 → s.feedOne h (s.slotInQ r.slot) = t →
    ((s.tb.count : Int) + 1 ≤ r.launched + sgn 64 (s.dramWord (s.repBase h + (s.pvOf h).feedAt))
        - bitsOf (s.dramWord (s.repBase h + (s.pvOf h).feedAt + 8)) 63 32 →
      exec (.replayFeed h) s = .next (if (s.tb.count : Int) + 1 = r.launched
          + sgn 64 (s.dramWord (s.repBase h + (s.pvOf h).feedAt))
          - bitsOf (s.dramWord (s.repBase h + (s.pvOf h).feedAt + 8)) 63 32 then
        t.setPv h { t.pvOf h with slipping := false } else s)) ∧
    (∀ (late : Nat) (u v : State), 0 < late → (s.tb.count : Int) + 1 = r.launched
        + sgn 64 (s.dramWord (s.repBase h + (s.pvOf h).feedAt))
        - bitsOf (s.dramWord (s.repBase h + (s.pvOf h).feedAt + 8)) 63 32 + late →
      (t.bump pProv (PROV.SLIP_SLIP_COUNT.at h)).setFld pProv (PROV.SLIP_SLIP_MAX.at h)
        (min 0xFFFF (max late (t.pf h PROV.SLIP_SLIP_MAX))) = u →
      ((s.pvOf h).slipping = true ∧ v = u ∨ (s.pvOf h).slipping = false ∧ v = u.raiseBy pProv PROV.evREPLAY_SLIP h) →
      exec (.replayFeed h) s = .next (v.setPv h { v.pvOf h with slipping := true }))) ∧
  (∀ (s : State) (a : Acc) (h : Fin 8) (w : Word),
    (s.serves a pProv (0x200 + 0x100 * h.val) true = true →
      s.stands launches = false →
      exec (.replayEnable a h w) s = .next ((s.answer [0]).provWrite a.hh (0x200 + 0x100 * h.val) (setBit w.toNat 30))) ∧
    (∀ off : Fin 64, s.serves a pProv (0x200 + 0x100 * h.val + 4 * off.val) true = true →
      s.stands (fun c => off.val == 0 && launches c) = false → exec (.pcfgWrite a h off w) s = .next ((s.answer [0]).provWrite a.hh (0x200 + 0x100 * h.val + 4 * off.val) w.toNat)))

/-- With the endpoint up, a memory request of a function that exists after the first dawn goes where its BAR leads, a poisoned
write has no effect but its event and count, and a request of a function that is not there, or that hits no BAR, is
unsupported. A configuration request is answered with CRS until the first dawn has ended, then served. A malformed packet
is discarded and recorded. Once a held read of the function has waited for its completion time, the timeout ends the
oldest such read with zero data, or, with none, quarantines the slot of the oldest such read of another device. Unmasking
sends what is pending. AER bits are those of the model's configuration space (log entry 30). Rests on: R641, R642, R644,
R645, R646, R666, R667. -/
def Obligations.HostRequestsComplete : Prop :=
  (∀ (s : State) (f : Fin 9) (two : Bool) (off : BitVec 26), s.hostUp = true →
    (s.barLive f = true → (two = true → off.toNat < 2 ^ 24) → ∀ data : List Byte,
      (exec (.hostMemWrite f two off data false) s =
        .next (s.barAccess (.hostMemWrite f two off data false) f two off.toNat data.length true data)) ∧
      (∀ t, (s.raiseBy pHost HOST.evPOISONED_RX (funcHh f)).bump pHost HOST.ERR_COUNTS_POISONED_RX = t →
        exec (.hostMemWrite f two off data true) s = .next { t with host := { t.host with aerPoisoned := true } }) ∧
      (∀ n : Fin 4097, exec (.hostMemRead f two off n) s =
        .next (s.hostRead (.hostMemRead f two off n) f two off.toNat n))) ∧
    (s.barLive f = false ∨ (two = true ∧ 2 ^ 24 ≤ off.toNat) → ∀ (data : List Byte) (poisoned : Bool) (n : Fin 4097),
      exec (.hostMemWrite f two off data poisoned) s = .next (s.unsupported f true) ∧
      exec (.hostMemRead f two off n) s = .next (s.unsupported f false)) ∧
    (∀ req : CfgReq,
      (s.tb.dawned = false → exec (.hostConfigRequest f req) s = .next { s with resp := some ⟨.crs, []⟩ }) ∧
      (s.tb.dawned = true → s.funcExists f = true → exec (.hostConfigRequest f req) s = .next (s.config f req)) ∧
      (s.tb.dawned = true → s.funcExists f = false → exec (.hostConfigRequest f req) s = .next (s.unsupported f false)))) ∧
  (∀ s : State, s.hostUp = true →
    (∀ posted, exec (.hostUnsupportedRequest posted) s = .next (s.unsupported 9 posted)) ∧
    (∀ t, (s.raise pHost HOST.evMALFORMED).bump pHost HOST.ERR_COUNTS_MALFORMED = t →
      exec .hostMalformedTlp s = .next { t with host := { t.host with aerMalformed := true } })) ∧
  (∀ (s : State) (f : Fin 9),
    (∀ (c : Instr) (rest : List Instr) (t : State),
      takeFirst (fun c => isReadOf f c && decide (s.askedAt c + s.cplTime ≤ s.tb.beat)) s.held = some (c, rest) →
      t = { s with held := rest, host := { s.host with late := s.host.late ++ [c] } } →
      exec (.hostCplTimeout f) s = .next ((t.notAsked c).cplTimeout f)) ∧
    (∀ (k : Nat) (ks : List Nat) (t : State),
      takeFirst (fun c => isReadOf f c && decide (s.askedAt c + s.cplTime ≤ s.tb.beat)) s.held = none → s.readSlots f = k :: ks →
      t = { s with noc := { s.noc with slots := s.noc.slots.map (fun e =>
        if e.1 = k then (e.1, { e.2 with quarantined := true }) else e) } } →
      exec (.hostCplTimeout f) s = .next (t.cplTimeout f)) ∧
    (s.funcExists f = true →
      (∀ v : Fin 64, exec (.msixUnmask f (.vector v)) s = .next ((s.setFunc f { s.func f with
        vecs := Tab.set MsixVec.reset (s.func f).vecs v { (s.func f).vec v with mask := false } }).flushMsgs f)) ∧
      exec (.msixUnmask f .function) s = .next ((s.setFunc f { s.func f with fmask := false }).flushMsgs f) ∧
      exec (.msixUnmask f .busMaster) s = .next ((s.setFunc f { s.func f with bme := true }).flushMsgs f)))

/-- A served RING_HEAD write of a multiple of 64 within what is in use is stored, and any other raises RING_ERR and changes
nothing; a served enable of a disabled ring, by either page, starts it with TAIL, HEAD and ENTRIES 0. A coalescing timeout
signals what is not signalled yet once the ring's time has run. An enabled EMPTY mailbox that is free pops the next item
of its household's queue whole, and becomes READY with the next SEQ, signalling its vector, where no consume read of it on
the same tick goes before; while its queue is another's or bound it holds with MB_ERR. A mailbox read by its household or
the manager answers through either alias; a consume read of the whole status word also consumes. Rests on: R647, R651,
R652, R653, R654, R655, R664. -/
def Obligations.RingsAndMailboxesComplete : Prop :=
  (∀ (s : State) (a : Acc) (via : Option (Fin 8)) (k : Fin 64) (w : Word),
    (s.serves a (ringPage via) (0x414 + 0x20 * k.val) true = true →
      (∀ v m : Nat, bitsOf w.toNat 24 0 = v → 2 * s.ringSize k = m →
        (v % 64 = 0 ∧ v < m ∧ (v + m - s.ringHead k % m) % m ≤ s.ringUsed k →
          exec (.ringHeadWrite a via k w) s = .next ((s.answer [0]).setFld pHost (HOST.RING_HEAD_HEAD.at k) v)) ∧
        (¬ (v % 64 = 0 ∧ v < m ∧ (v + m - s.ringHead k % m) % m ≤ s.ringUsed k) →
          exec (.ringHeadWrite a via k w) s = .next ((s.answer [0]).ringErr k a.hh)))) ∧
    (s.serves a (ringPage via) (0x400 + 0x20 * k.val) true = true → s.on pHost (HOST.RING_CFG_EN.at k) = false → ∀ t,
      ((s.answer [0]).setFld pHost (HOST.RING_CFG_VEC.at k) (bitsOf (setBit w.toNat 31) 29 24)).setFld pHost
        (HOST.RING_CFG_SIZE_CODE.at k) (min 12 (bitsOf (setBit w.toNat 31) 3 0)) = t →
      (t.alignBase k (t.fld pHost (HOST.RING_BASE_LO_BASE.at k) * 4096)).2 = false → bitsOf (setBit w.toNat 31) 3 0 ≤ 12 →
      exec (.ringEnable a via k w) s = .next (((t.setFld pHost (HOST.RING_BASE_LO_BASE.at k)
        (t.alignBase k (t.fld pHost (HOST.RING_BASE_LO_BASE.at k) * 4096)).1).ringOff k).setFld pHost
        (HOST.RING_CFG_EN.at k) 1)) ∧
    (∀ b, (s.ring k).unsig = some b → s.fld pHost (HOST.RING_IRQ_COAL_ST.at k) ≠ 0 →
      b + s.fld pHost (HOST.RING_IRQ_COAL_ST.at k) * 1024 ≤ s.tb.beat →
      exec (.ringCoalTimeout k) s = .next (s.ringSignal k))) ∧
  (∀ (s : State) (h : Fin 8) (m : Fin 16),
    (s.on (pHh h) (HH.MB_CFG_EN.at m) = true → (s.mb h m).st = 0 → (s.mb h m).err = false →
      (s.mb h m).freeAt ≤ s.tb.beat →
      (s.qOwner (s.mbQueue h m) ≠ h.val ∨ s.boundTo (s.mbQueue h m) ≠ [] →
        exec (.mailboxFill h m) s = .next ((s.setMb h m { s.mb h m with err := true }).raiseBy (pHh h) HH.evMB_ERR h)) ∧
      (∀ (i : QItem) (off : Nat) (t : State) (data ws : List Nat), s.qOwner (s.mbQueue h m) = h.val →
        s.boundTo (s.mbQueue h m) = [] → s.qCur (s.mbQueue h m) = some (i, off) →
        s.popStreamFor (s.mbQueue h m) (i.words.length - off + 2) (s.mbQueue h m) h = t →
        (t.resp.elim [] Resp.data) = data → (data.drop 2).take (i.words.length - off) = ws →
        exec (.mailboxFill h m) s = .next { t.setMb h m { s.mb h m with
          words := ws.take 511, st := 1, poison := nth 0 data 1 != 0, trunc := decide (511 < ws.length)
          len := ws.length, itemSeq := i.seq } with resp := s.resp })) ∧
    (∀ t u, s.stands (consumes h m) = false → (s.mb h m).st = 1 →
      s.setMb h m { s.mb h m with st := 2, seq := ((s.mb h m).seq + 1) % 65536, consumed := false } = t →
      ((s.mb h m).trunc = true ∧ u = t.raise (pHh h) HH.evMB_TRUNC ∨ (s.mb h m).trunc = false ∧ u = t) →
      exec (.mailboxReady h m) s = .next (u.signal (h.val + 1) (s.fld (pHh h) (HH.MB_CFG_VEC.at m)))) ∧
    (∀ (a : Acc) (off : Fin 4096) (bytes : Fin 4097), s.por = false → s.tb.dawn = 0 → a.master ≠ .fabric →
      s.hhReset.contains a.hh.val = false → (a.hh.val = 15 ∨ a.hh.val = h.val) →
      (off.val = 0 → 8 ≤ bytes.val → exec (.mailboxConsumeRead a h m off bytes) s =
        .next ((s.answer ((s.mb h m).read off bytes)).mbConsume h m)) ∧
      (exec (.mailboxPeekRead a h m false off bytes) s = .next (s.answer ((s.mb h m).read off bytes))) ∧
      ((off.val ≠ 0 ∨ bytes.val < 8) →
        exec (.mailboxPeekRead a h m true off bytes) s = .next (s.answer ((s.mb h m).read off bytes)))))

/-- While the port answers: an unknown OP, and a CRC fault whose header can be framed, get their FAULT codes; STATUS, ABORT
and LOGOUT answer OK with their effects; CHALLENGE gives a fresh nonce, a free value, and AUTH starts a check that spends
it, both refused in lockout. A READ or WRITE takes the checks of Table 18.4 in order: without a session NOT_AUTH, then the
right, the address, the pending access, and else it is issued as a request of the matrix. A BUSY limit answers WAIT. A
check that ends, 400 beats after its AUTH, opens a session or counts a failure, the third in a row locking out for 2^30
ticks. A nonce lasts as long as the rule says. A reset pin, an END write and a key write end sessions as the rules say.
Rests on: R675, R676, R677, R678, R679, R680, R681, R683, R698. -/
def Obligations.WicketLineCompletes : Prop :=
  (∀ s : State, s.wkAlive = true →
    exec .wicketBadOp s = .next (s.wkFault 2) ∧
    exec (.wicketCrcFault true) s = .next ((s.wkProto DEBUG.PROTO_ERRS_CRC).wkFault 1) ∧
    exec (.wicketCrcFault false) s = .next (s.wkProto DEBUG.PROTO_ERRS_CRC) ∧
    exec .wicketLineReset s = .next (s.wkProto DEBUG.PROTO_ERRS_OTHER) ∧
    exec .wicketStatus s = .next (s.wkReply 1 [s.wkStatusWord]) ∧
    exec .wicketAbort s = .next (s.wkForget.wkReply 1 []) ∧
    exec .wicketLogout s = .next (s.endSession.wkReply 1 []) ∧
    (∀ t, s.dbg.busy = true → t = { s with dbg := { s.dbg with busy := false } } →
      exec .wicketBusyLimit s = .next (t.wkReply 2 [])) ∧
    (s.on pDebug DEBUG.SESSION_LOCKOUT = false →
      (∀ t, t = { s.drew with dbg := { s.dbg with nonce := some (s.freeVal 256), nonceAt := s.tb.beat } } → exec .wicketChallenge s =
        .next (t.wkReply 1 ((List.range 4).map (fun i => s.freeVal 256 / 2 ^ (64 * i) % 2 ^ 64)))) ∧
      (∀ (arg : Fin 16) (mac : BitVec 256), exec (.wicketAuth arg mac) s = .next { s with dbg := { s.dbg with
        check := some ⟨arg, leBytes 32 mac.toNat, s.freshNonce, false⟩, checkAt := s.tb.beat + 400, nonce := none } })) ∧
    (s.on pDebug DEBUG.SESSION_LOCKOUT = true → ∀ (arg : Fin 16) (mac : BitVec 256),
      exec .wicketChallenge s = .next (s.wkFault 5) ∧ exec (.wicketAuth arg mac) s = .next (s.wkFault 5)) ∧
    (∀ (hdr : BitVec 60) (data : List (BitVec 64)),
      (s.on pDebug DEBUG.SESSION_AUTH = false →
        exec (.wicketRead hdr) s = .next (s.wkFault 3) ∧ exec (.wicketWrite hdr data) s = .next (s.wkFault 3)) ∧
      (s.on pDebug DEBUG.SESSION_AUTH = true →
        (s.namesSelf (wkFab hdr.toNat) (wkAddr hdr.toNat) = true ∨ s.wkRight 3 = true) → wkBadAddr hdr.toNat = false →
        s.wkPending = none → s.wkWindow hdr.toNat = false →
        (s.wkRight 0 = true → exec (.wicketRead hdr) s = .next (s.wkIssue hdr.toNat [] false)) ∧
        (s.wkRight 1 = true →
          exec (.wicketWrite hdr data) s = .next (s.wkIssue hdr.toNat (data.map BitVec.toNat) true))))) ∧
  (∀ (s : State) (k : Nat), s.mxNext (fun r => r.acc.master == .wicket && r.hdr.isNone) = some k →
    exec .wicketAccessComplete s = .next (s.mxComplete State.hhRequest .wicketAccessComplete k)) ∧
  (∀ s : State,
    exec .wicketNonceExpire s = .next { s with dbg := { s.dbg with nonce := s.freshNonce } } ∧
    (s.dbg.lockAt ≤ s.tb.beat → exec .authLockoutEnd s = .next (s.setFld pDebug DEBUG.SESSION_LOCKOUT 0)) ∧
    (s.dbg.off = false → exec .dbgRst s = .next s.wkForget.endSession)) ∧
  (∀ (s : State) (c : AuthCheck) (t u : State), s.dbg.check = some c → s.dbg.checkAt ≤ s.tb.beat → t = { s with dbg := { s.dbg with check := none } } →
    (s.authOk c = true → ((t.setFld pDebug DEBUG.SESSION_AUTH 1).setFld pDebug DEBUG.SESSION_ID c.ident).raise pDebug
      DEBUG.evAUTH_OK = u → exec .authCheckDone s = .next (({ u with dbg := { u.dbg with fails := 0 } } : State).wkReply 1 [])) ∧
    (∀ (n : Nat) (v : State), s.authOk c = false → n = min 3 (s.dbg.fails + 1) →
      (t.bump pDebug DEBUG.AUTH_FAILS_COUNT).raise pDebug DEBUG.evAUTH_FAIL = u →
      ({ u with dbg := { u.dbg with fails := n } } : State).wkFault 6 = v →
      (n = 3 → ∀ x : State, x = { v with dbg := { v.dbg with lockAt := v.tb.beat + 2 ^ 30 } } →
        exec .authCheckDone s = .next ((x.setFld pDebug DEBUG.SESSION_LOCKOUT 1).raise pDebug DEBUG.evAUTH_LOCKOUT)) ∧
      (n ≠ 3 → exec .authCheckDone s = .next v))) ∧
  (∀ (s : State) (a : Acc), a.hh = 15 →
    (s.serves a pDebug 0x10C true = true → exec (.sessionEndWrite a) s = .next (s.answer [0]).endSession) ∧
    (∀ (k : Fin 9) (i : Fin 8) (w : Word), s.serves a pDebug (0x800 + 0x20 * k.val + 4 * i.val) true = true →
      exec (.debugKeyWrite a k i w) s = .next ((s.answer [0]).keyWrite k i w.toNat)))

/-- A served RUN_CTRL write stores STEP_N, at least 1, and HALT begins to halt a run that is neither halted nor halting,
RESUME and STEP act on a halted one. The last tile stopping halts the run: its cause, HALT_SID, HALT_COUNT, the provenance
flag and HALTED; the last tile of a step finishing ends the step. CTX_DATA of a halted run reads and writes the selected
register of the leaf, and of a run that is not halted reads 0, or changes nothing, with CTX_DENIED. A TAP instruction
comes into force, with strap CFG3 only BYPASS and IDCODE, and IDCODE shifts the device's code out. RUN_STATUS.TILE of a
halt that no tile caused is a free value. Rests on: R686, R687, R688, R690, R691, R693, R694, R695, R696. -/
def Obligations.RunControlCompletes : Prop :=
  (∀ (s : State) (a : Acc) (h : Fin 8) (w : Word) (t : State), s.serves a pDebug (0x200 + 0x40 * h.val) true = true →
    (s.answer [0]).setFld pDebug (DEBUG.RUN_CTRL_STEP_N.at h) (max 1 (bitsOf w.toNat 15 0)) = t →
    exec (.runHalt a h w) s = .next (t.haltReq h) ∧
    (bitAt w.toNat 31 = false → exec (.runResume a h w) s = .next (t.resumeRun h)) ∧
    (bitAt w.toNat 31 = false → bitAt w.toNat 30 = false → exec (.runStep a h w) s = .next (t.stepRun h))) ∧
  (∀ (s : State) (h : Fin 8) (r : RunSt) (cause tile : Nat) (t u : State), s.runOf h = some r → r.haltReq = some (cause, tile) →
    s.runHalted h = false → r.faults = [] →
    r.tiles.foldl (fun t n => if (t.tl n).ctxs.isEmpty then t else t.tileState n 4) s = t →
    (((t.setRun h { r with haltReq := none }).haltCause h cause tile).setFld pDebug (DEBUG.RUN_STATUS_HALTED.at h) 1).setPair
      pDebug (DEBUG.HALT_SID_LO_T.at h) (DEBUG.HALT_SID_HI_T.at h) s.tb.count = u →
    exec (.runHalted h) s =
      .next (((u.bump pDebug (DEBUG.HALT_COUNT_N.at h)).setRunFlag h 13).raiseBy pDebug DEBUG.evHALTED h)) ∧
  (∀ (s : State) (h : Fin 8) (r : RunSt), s.runOf h = some r → s.on pDebug (DEBUG.RUN_STATUS_STEPPING.at h) = true →
    r.tiles.all s.stepped = true → r.faults = [] →
    exec (.runStepDone h) s = .next (((((r.tiles.foldl (fun t n => t.setTl n { t.tl n with halted := true, steps := 0 }) s).setRun h
      { r with haltReq := none }).haltCause h (r.haltReq.getD (4, 64)).1 (r.haltReq.getD (4, 64)).2)).setFld pDebug
      (DEBUG.RUN_STATUS_STEPPING.at h) 0)) ∧
  (∀ (s : State) (a : Acc) (h : Fin 8) (hi : Bool) (w : Word),
    (∀ t u : State, ∀ n : Nat, s.serves a pDebug (0x200 + 0x40 * h.val + (if hi then 0x20 else 0x1C)) false = true →
      s.answer [0] = t → t.ctxDataRead h hi = (n, u) → exec (.ctxDataAccess a h hi false w) s = .next (u.answer [n])) ∧
    (s.serves a pDebug (0x200 + 0x40 * h.val + (if hi then 0x20 else 0x1C)) true = true →
      exec (.ctxDataAccess a h hi true w) s = .next ((s.answer [0]).ctxDataWrite h hi w.toNat))) ∧
  (∀ s : State,
    exec .tapBypass s = .next (s.tapSet 0x3F) ∧ exec .tapSamplePreload s = .next (s.tapSet 2) ∧
    exec .tapExtest s = .next (s.tapSet 0) ∧ exec .tapClamp s = .next (s.tapSet 3) ∧ exec .tapHighz s = .next (s.tapSet 4) ∧
    exec .tapReset s = .next (s.tapSet 1) ∧
    exec .tapIdcode s = .next ((s.tapSet 1).send "TDO" 0 [if s.si.is9656 then 0x096569AB else 0x096649AB]))

/-- A populated page whose ANY state, or attribution with ANY 1, differs from its latest NOTIFY offers one, and every 65,536
ticks the periodic command makes every populated page offer one. The FAULT unit applies the first NOTIFY of its inbox, two
beats after it has come and where no write of the same tick clears FIRST_INFO, when the page is populated and served at
the source node, with NOTIFY_BAD for a poisoned one, and a NOTIFY that is not changes nothing but NOTIFY_BAD. The endpoint
takes a summary, and a summary that rises signals its function's vector. Once the first dawn has ended FAULT_N takes a
level 8 beats after its cause in the map or FORCE, with FAULTN_ON when it turns on; a served write of FORCE stores it and
notes the level that is wanted. Rests on: R646, R702, R704, R706, R707, R715, R716, R718, R719. -/
def Obligations.FaultReportingCompletes : Prop :=
  (∀ (s : State) (p : Fin 512), (s.blk p).isSome = true →
    (if s.pageAny p then s.attribution p + 1 else 0) ≠ Tab.get 0 s.flt.told p → exec (.notifySend p) s = .next (s.notifyPage p)) ∧
  (∀ s : State,
    (s.onTick 65536 = true → (∀ t, s.flt.perAt ≠ s.tb.beat + 1 →
        ((List.range 512).filter (fun p => (s.blk p).isSome)).foldl (fun (t : State) p => t.notifyPage p) s = t →
        exec .notifyPeriodic s = .next { t with flt := { t.flt with perAt := s.tb.beat + 1 } }) ∧
      (∀ t, s.flt.sumAt ≠ s.tb.beat + 1 → s.sendSummary = t →
        exec .summaryNotifyPeriodic s = .next { t with flt := { t.flt with sumAt := s.tb.beat + 1 } })) ∧
    (∀ (n : Notify) (rest : List Notify) (t : State), s.stands clearsFirst = false → s.flt.inbox = n :: rest →
      n.at_ + 2 ≤ s.tb.beat →
      t = { s with flt := { s.flt with inbox := rest } } →
      ((s.blk (bitsOf n.arg 8 0)).isSome = true → pageNode s (bitsOf n.arg 8 0) = n.src →
        (n.poison = false → exec .notifyReceive s = .next (t.applyNotify n.arg)) ∧
        (n.poison = true → exec .notifyReceive s = .next ((t.applyNotify n.arg).raise pFault FAULT.evNOTIFY_BAD))) ∧
      ((s.blk (bitsOf n.arg 8 0)).isSome = false ∨ pageNode s (bitsOf n.arg 8 0) ≠ n.src →
        exec .notifyReceive s = .next (t.raise pFault FAULT.evNOTIFY_BAD))) ∧
    (∀ (n : Notify) (rest : List Notify) (t u : State), s.flt.epInbox = n :: rest →
      t = { s with flt := { s.flt with epInbox := rest, epMgr := bitAt n.arg 9, epHh := bitsOf n.arg 31 24 } } →
      (bitAt n.arg 9 = true ∧ s.flt.epMgr = false ∧ u = t.signal 0 (s.fld pHost HOST.PF_EVT_VEC_VEC) ∨
        (bitAt n.arg 9 = false ∨ s.flt.epMgr = true) ∧ u = t) →
      exec .summaryNotifyReceive s = .next ((maskBits 8 (clrMask (bitsOf n.arg 31 24) s.flt.epHh)).foldl
        (fun v k => v.signal (k + 1) (v.fld (pHh k) HH.EVT_VEC_VEC)) u)) ∧
    (∀ (b : Nat) (low : Bool) (rest : List (Nat × Bool)) (t u : State), s.flt.line = (b, low) :: rest →
      s.tb.dawned = true → b ≤ s.tb.beat → t = { s with flt := { s.flt with line := rest } } →
      t.setFld pFault FAULT.SUMMARY_FAULTN (b2n low) = u →
      (low = true → s.on pFault FAULT.SUMMARY_FAULTN = false →
        exec .faultNUpdate s = .next (u.raise pFault FAULT.evFAULTN_ON)) ∧
      (low = false ∨ s.on pFault FAULT.SUMMARY_FAULTN = true → exec .faultNUpdate s = .next u))) ∧
  (∀ (s : State) (a : Acc) (w : Word), s.serves a pFault 0x1CC true = true → a.hh = 15 →
    exec (.faultnForceWrite a w) s = .next (((s.answer [0]).setFld pFault FAULT.FAULTN_CTRL_FORCE (w.toNat % 2)).noteFaultn))

/-- Each scalar, branch, vector, fp32, lane-tree and random-number instruction, where it issues, answers a next state in which
nothing of the device changed but the issuing context, the tile's T_ISSUED pair and step counters, and the household's
run: every byte of every tile's SRAM and of DRAM, every queue, every other register of every page, every other tile and
every other context is as before. In the context only the PC and the destination change: branches and NOP write no
register; scalar results write s[RD] alone, and s0 never; vector results write lanes of v[RD] alone; compares write
p[RD[2:0]] alone, and p0 never. Rests on: R386, R387, R388, R390, R405, R406, Chapter 10. -/
def Obligations.ArithmeticFrame : Prop :=
  ∀ (s : State) (t : Fin 64) (i : Issue) (n : Ins) (frame : Instr → (LeafSt → Prop) → Prop),
  (∀ x regs, frame x regs = ∃ u d, exec x s = .next u ∧ u = { s with regs := u.regs, tile := u.tile, run := u.run } ∧
    (∀ (q : Nat) (f : Fld), f.bit < 32768 →
      q ≠ pTile t ∨ (f.bit ≠ TILE.T_ISSUED_LO_N.bit ∧ f.bit ≠ TILE.T_ISSUED_HI_N.bit) → u.fld q f = s.fld q f) ∧
    (∀ k, k ≠ t.val → u.tl k = s.tl k) ∧ (∀ a, (u.tl t).byte a = (s.tl t).byte a) ∧
    (u.tl t).cur = (s.tl t).cur ∧ (u.tl t).halted = (s.tl t).halted ∧ (u.tl t).arrived = (s.tl t).arrived ∧
    (∀ k, k ≠ (s.tl t).cur → (u.tl t).ctxs[k]? = (s.tl t).ctxs[k]?) ∧ (u.tl t).ctxs[(s.tl t).cur]? = some d ∧
    (∀ h, h ≠ i.h → u.runOf h = s.runOf h) ∧ d = { i.c with pc := d.pc, s := d.s, v := d.v, p := d.p } ∧ regs d) →
  (∀ x ∈
    ([(.nop t, 0, 0, Ins.none), (.br t, 0, 2, Ins.none), (.bz t, 0, 3, fun n => [n.ra]),
       (.bnz t, 0, 4, fun n => [n.ra]), (.blt t, 0, 5, Ins.raRb), (.bge t, 0, 6, Ins.raRb)] : List (Instr × Nat × Nat × (Ins → List Nat))),
    s.nextIs t x.2.1 x.2.2.1 x.2.2.2 i n = true →
    frame x.1 (fun d => d.s = i.c.s ∧ d.v = i.c.v ∧ d.p = i.c.p)) ∧
  (∀ x ∈
    ([(.add t, 1, 0, Ins.rdRaRb), (.sub t, 1, 1, Ins.rdRaRb), (.mul t, 1, 2, Ins.rdRaRb), (.and t, 1, 3, Ins.rdRaRb),
       (.or t, 1, 4, Ins.rdRaRb), (.xor t, 1, 5, Ins.rdRaRb), (.shl t, 1, 6, Ins.rdRaRb), (.shr t, 1, 7, Ins.rdRaRb),
       (.sra t, 1, 8, Ins.rdRaRb), (.slt t, 1, 9, Ins.rdRaRb), (.sltu t, 1, 10, Ins.rdRaRb),
       (.addi t, 1, 16, Ins.rdRa), (.lih t, 1, 17, Ins.rdRa), (.vext t, 2, 20, Ins.rdRa)] : List (Instr × Nat × Nat × (Ins → List Nat))),
    s.nextIs t x.2.1 x.2.2.1 x.2.2.2 i n = true →
    frame x.1 (fun d => d.v = i.c.v ∧ d.p = i.c.p ∧ ∀ r, r ≠ n.rd ∨ r = 0 → d.sreg r = i.c.sreg r)) ∧
  (∀ x ∈
    ([(.vadd t, 2, 0, Ins.rdRaRb), (.vsub t, 2, 1, Ins.rdRaRb), (.vmul t, 2, 2, Ins.rdRaRb),
       (.vand t, 2, 3, Ins.rdRaRb), (.vor t, 2, 4, Ins.rdRaRb), (.vxor t, 2, 5, Ins.rdRaRb),
       (.vshl t, 2, 6, Ins.rdRaRb), (.vshr t, 2, 7, Ins.rdRaRb), (.vsra t, 2, 8, Ins.rdRaRb),
       (.vmin t, 2, 9, Ins.rdRaRb), (.vmax t, 2, 10, Ins.rdRaRb), (.vbcast t, 2, 13, Ins.rdRa),
       (.vsel t, 2, 14, Ins.rdRaRb), (.vdot4 t, 2, 16, Ins.rdRaRb), (.vdot4u t, 2, 17, Ins.rdRaRb),
       (.vreq t, 2, 18, Ins.rdRaRb), (.vlane t, 2, 19, fun n => [n.rd]), (.vfadd t, 3, 0, Ins.rdRaRb),
       (.vfsub t, 3, 1, Ins.rdRaRb), (.vfmul t, 3, 2, Ins.rdRaRb), (.vffma t, 3, 3, Ins.rdRaRb),
       (.vfmax t, 3, 4, Ins.rdRaRb), (.vfmin t, 3, 5, Ins.rdRaRb), (.vcvtif t, 3, 6, Ins.rdRa),
       (.vcvtfi t, 3, 7, Ins.rdRa), (.vltreeIadd t, 6, 32, Ins.rdRa), (.vltreeFadd t, 6, 33, Ins.rdRa),
       (.vltreeImax t, 6, 34, Ins.rdRa), (.vltreeImin t, 6, 35, Ins.rdRa), (.vltreeFmax t, 6, 36, Ins.rdRa),
       (.vltreeFmin t, 6, 37, Ins.rdRa), (.vrnd t, 7, 0, Ins.rdRa)] : List (Instr × Nat × Nat × (Ins → List Nat))),
    s.nextIs t x.2.1 x.2.2.1 x.2.2.2 i n = true →
    frame x.1 (fun d => d.s = i.c.s ∧ d.p = i.c.p ∧ ∀ r l, r ≠ n.rd → l < 16 → d.lane r l = i.c.lane r l)) ∧
  (∀ x ∈
    ([(.vcmpeq t, 2, 11, Ins.raRb), (.vcmplt t, 2, 12, Ins.raRb), (.vfcmplt t, 3, 8, Ins.raRb)] : List (Instr × Nat × Nat × (Ins → List Nat))),
    s.nextIs t x.2.1 x.2.2.1 x.2.2.2 i n = true →
    frame x.1 (fun d => d.s = i.c.s ∧ d.v = i.c.v ∧ ∀ r, r ≠ n.rd % 8 ∨ r = 0 → d.preg r = i.c.preg r))

/-- In every state in canonical form where VST or SST issues and its access at s[RA] + IMM is aligned and inside the window:
SST leaves s[RD] in the 8 bytes there, low byte first, and VST leaves v[RD].l in 4 bytes at 4l for each selected lane l;
every other byte of that tile's SRAM, every byte of every other tile and of DRAM, every queue, every context's scalar,
vector and predicate registers, every register of every other page and the runs of the other households are as before,
whatever watchpoints the store hits. Rests on: R386, R387, R408, R411, Chapter 10. -/
def Obligations.StoreFrame : Prop :=
  ∀ (s : State) (t : Fin 64) (i : Issue) (n : Ins) (off A : Nat) (keep : State → (Nat → Prop) → Prop),
  s.canon = true → i.offset n = off → i.addr off = A →
  (∀ u stored, keep u stored = (u = { s with regs := u.regs, tile := u.tile, run := u.run } ∧
    (∀ (q : Nat) (f : Fld), f.bit < 32768 → q ≠ pTile t → u.fld q f = s.fld q f) ∧
    (∀ k a, k ≠ t.val ∨ ¬ stored a → (u.tl k).byte a = (s.tl k).byte a) ∧
    (∀ k, (u.tl k).ctxs.map (fun c => (c.s, c.v, c.p)) = (s.tl k).ctxs.map (fun c => (c.s, c.v, c.p))) ∧
    (∀ h, h ≠ i.h → u.runOf h = s.runOf h))) →
  (i.winFault off 64 64 = none → s.nextIs t 4 1 Ins.rdRa i n = true → ∃ u, exec (.vst t) s = .next u ∧
    keep u (fun a => ∃ l, l < 16 ∧ i.c.sel n l = true ∧ A + 4 * l ≤ a ∧ a < A + 4 * l + 4) ∧
    ∀ l j, l < 16 → i.c.sel n l = true → j < 4 →
      (u.tl t).byte (A + 4 * l + j) = BitVec.ofNat 8 (i.c.lane n.rd l / 256 ^ j)) ∧
  (i.winFault off 8 8 = none → s.nextIs t 4 3 Ins.rdRa i n = true → ∃ u, exec (.sst t) s = .next u ∧
    keep u (fun a => A ≤ a ∧ a < A + 8) ∧
    ∀ j, j < 8 → (u.tl t).byte (A + j) = BitVec.ofNat 8 (i.c.sreg n.rd / 256 ^ j))
end

