-- ==== Sys2Proof/Laws/Tab.lean ====
section
/-!
SUPPORT. Laws of sparse tables: a read after a write, and that every operation keeps the canonical form.
-/

namespace Sys2Proof.Machine

/-! ### Tables -/

theorem Tab.rises_mono {α : Type} (t : List (Nat × α)) {a b : Nat} (h : a ≤ b) (hb : Tab.risesFrom b t = true) :
    Tab.risesFrom a t = true := by
  cases t with
  | nil => rfl
  | cons e r =>
    obtain ⟨k, v⟩ := e
    simp only [Tab.risesFrom, Bool.and_eq_true, decide_eq_true_eq] at *
    exact ⟨by omega, hb.2⟩

theorem Tab.rises_erase {α : Type} (t : List (Nat × α)) (x b : Nat) (h : Tab.risesFrom b t = true) :
    Tab.risesFrom b (Tab.erase t x) = true := by
  induction t generalizing b with
  | nil => rfl
  | cons e r ih =>
    obtain ⟨k, v⟩ := e
    simp [Tab.risesFrom, Tab.erase] at *
    split
    · exact Tab.rises_mono r (by omega) h.2
    · simp [Tab.risesFrom]; exact ⟨h.1, ih _ h.2⟩

theorem Tab.rises_insert {α : Type} (t : List (Nat × α)) (x : Nat) (y : α) (b : Nat) (hx : b ≤ x)
    (h : Tab.risesFrom b t = true) : Tab.risesFrom b (Tab.insert t x y) = true := by
  induction t generalizing b with
  | nil => simp [Tab.insert, Tab.risesFrom, hx]
  | cons e r ih =>
    obtain ⟨k, v⟩ := e
    simp [Tab.risesFrom, Tab.insert] at *
    split
    · simp [Tab.risesFrom]; exact ⟨hx, by omega, h.2⟩
    · split
      · subst x; simp [Tab.risesFrom]; exact h
      · simp [Tab.risesFrom]; exact ⟨h.1, ih _ (by omega) h.2⟩

theorem Tab.rises_set {α : Type} [DecidableEq α] (d : α) (t : List (Nat × α)) (x : Nat) (y : α)
    (h : Tab.risesFrom 0 t = true) : Tab.risesFrom 0 (Tab.set d t x y) = true := by
  unfold Tab.set; split
  · exact Tab.rises_erase _ _ _ h
  · exact Tab.rises_insert _ _ _ _ (Nat.zero_le _) h

theorem Tab.rises_filter {α : Type} (p : Nat × α → Bool) (t : List (Nat × α)) (b : Nat) (h : Tab.risesFrom b t =
    true) :
    Tab.risesFrom b (t.filter p) = true := by
  induction t generalizing b with
  | nil => rfl
  | cons e r ih =>
    obtain ⟨k, v⟩ := e
    simp [Tab.risesFrom] at h
    by_cases hp : p (k, v) = true
    · rw [List.filter_cons_of_pos hp]; simp [Tab.risesFrom]; exact ⟨h.1, ih _ h.2⟩
    · rw [List.filter_cons_of_neg hp]; exact ih _ (Tab.rises_mono r (by omega) h.2)

theorem Tab.rises_keep {α : Type} (p : Nat → Bool) (t : List (Nat × α)) (h : Tab.risesFrom 0 t = true) :
    Tab.risesFrom 0 (Tab.keep p t) = true := Tab.rises_filter _ _ _ h

theorem Tab.all_erase {α : Type} (p : Nat × α → Bool) (t : List (Nat × α)) (x : Nat) (h : t.all p = true) :
    (Tab.erase t x).all p = true := by
  induction t with
  | nil => rfl
  | cons e r ih =>
    obtain ⟨k, v⟩ := e
    simp only [Tab.erase, List.all_cons, Bool.and_eq_true] at *
    split
    · exact h.2
    · simp only [List.all_cons, Bool.and_eq_true]; exact ⟨h.1, ih h.2⟩

theorem Tab.all_insert {α : Type} (p : Nat × α → Bool) (t : List (Nat × α)) (x : Nat) (y : α) (hy : p (x, y) = true)
    (h : t.all p = true) : (Tab.insert t x y).all p = true := by
  induction t with
  | nil => simp [Tab.insert, hy]
  | cons e r ih =>
    obtain ⟨k, v⟩ := e
    simp only [Tab.insert, List.all_cons, Bool.and_eq_true] at *
    split
    · simp only [List.all_cons, Bool.and_eq_true]; exact ⟨hy, h⟩
    · split
      · simp only [List.all_cons, Bool.and_eq_true]; exact ⟨hy, h.2⟩
      · simp only [List.all_cons, Bool.and_eq_true]; exact ⟨h.1, ih h.2⟩

theorem Tab.wf_set {α : Type} [DecidableEq α] (d : α) (t : List (Nat × α)) (x : Nat) (y : α) (h : Tab.wf d t = true) :
    Tab.wf d (Tab.set d t x y) = true := by
  simp only [Tab.wf, Bool.and_eq_true] at *
  refine ⟨Tab.rises_set d t x y h.1, ?_⟩
  unfold Tab.set; split
  · exact Tab.all_erase _ _ _ h.2
  · exact Tab.all_insert _ _ _ _ (by simpa) h.2

theorem Tab.rises_filterMap {α : Type} (f : Nat × α → Option (Nat × α)) (hf : ∀ e e', f e = some e' → e'.1 = e.1)
    (t : List (Nat × α)) (b : Nat) (h : Tab.risesFrom b t = true) : Tab.risesFrom b (t.filterMap f) = true := by
  induction t generalizing b with
  | nil => rfl
  | cons e r ih =>
    obtain ⟨k, v⟩ := e
    simp only [Tab.risesFrom, Bool.and_eq_true, decide_eq_true_eq] at h
    rw [List.filterMap_cons]
    split
    · exact ih _ (Tab.rises_mono r (by omega) h.2)
    · rename_i e' he
      have hk := hf _ _ he
      obtain ⟨k', v'⟩ := e'
      simp only at hk
      subst hk
      simp only [Tab.risesFrom, Bool.and_eq_true, decide_eq_true_eq]
      exact ⟨h.1, ih _ h.2⟩

theorem Tab.rises_map {α : Type} (f : Nat × α → Nat × α) (hf : ∀ e, (f e).1 = e.1) (t : List (Nat × α)) (b : Nat)
    (h : Tab.risesFrom b t = true) : Tab.risesFrom b (t.map f) = true := by
  rw [← List.filterMap_eq_map]
  exact Tab.rises_filterMap _ (fun e e' he => by simp at he; rw [← he, hf]) t b h

theorem Tab.rises_foldl {α β : Type} [DecidableEq α] (l : List β) (d y : β → α) (k : β → Nat) (t : List (Nat × α))
    (h : Tab.risesFrom 0 t = true) : Tab.risesFrom 0 (l.foldl (fun r e => Tab.set (d e) r (k e) (y e)) t) = true := by
  induction l generalizing t with
  | nil => exact h
  | cons e l ih => exact ih _ (Tab.rises_set _ _ _ _ h)

theorem Tab.wf_foldl {α β : Type} [DecidableEq α] (d : α) (l : List β) (y : β → α) (k : β → Nat) (t : List (Nat × α))
    (h : Tab.wf d t = true) : Tab.wf d (l.foldl (fun r e => Tab.set d r (k e) (y e)) t) = true := by
  induction l generalizing t with
  | nil => exact h
  | cons e l ih => exact ih _ (Tab.wf_set _ _ _ _ h)

theorem Tab.wf_keep {α : Type} [DecidableEq α] (d : α) (p : Nat → Bool) (t : List (Nat × α)) (h : Tab.wf d t = true) :
    Tab.wf d (Tab.keep p t) = true := by
  simp only [Tab.wf, Bool.and_eq_true] at *
  refine ⟨Tab.rises_keep p t h.1, ?_⟩
  simp only [Tab.keep, List.all_eq_true, List.mem_filter] at *
  exact fun x hx => h.2 x hx.1


theorem Tab.lookup_mem {α : Type} (t : List (Nat × α)) (x : Nat) (y : α) (h : Tab.lookup t x = some y) : (x,
    y) ∈ t := by
  induction t with
  | nil => cases h
  | cons e r ih =>
    obtain ⟨k, v⟩ := e
    rw [Tab.lookup] at h
    split at h
    · cases h; subst x; exact List.mem_cons_self
    · exact List.mem_cons_of_mem _ (ih h)



theorem Tab.lookup_erase_ne {α : Type} (t : List (Nat × α)) {x z : Nat} (h : z ≠ x) :
    Tab.lookup (Tab.erase t x) z = Tab.lookup t z := by
  induction t with
  | nil => rfl
  | cons e r ih =>
    obtain ⟨k, v⟩ := e
    simp only [Tab.erase]
    split
    · subst x; simp [Tab.lookup, h]
    · simp only [Tab.lookup, ih]

theorem Tab.lookup_insert_ne {α : Type} (t : List (Nat × α)) {x z : Nat} (y : α) (h : z ≠ x) :
    Tab.lookup (Tab.insert t x y) z = Tab.lookup t z := by
  induction t with
  | nil => simp [Tab.insert, Tab.lookup, h]
  | cons e r ih =>
    obtain ⟨k, v⟩ := e
    simp only [Tab.insert]
    split
    · simp [Tab.lookup, h]
    · split
      · subst x; simp [Tab.lookup, h]
      · simp only [Tab.lookup, ih]

theorem Tab.lookup_insert_self {α : Type} (t : List (Nat × α)) (x : Nat) (y : α) :
    Tab.lookup (Tab.insert t x y) x = some y := by
  induction t with
  | nil => simp [Tab.insert, Tab.lookup]
  | cons e r ih =>
    obtain ⟨k, v⟩ := e
    simp only [Tab.insert]
    split
    · simp [Tab.lookup]
    · split
      · simp [Tab.lookup]
      · simp [Tab.lookup, *]

theorem Tab.lookup_lt {α : Type} (t : List (Nat × α)) {b x : Nat} (h : Tab.risesFrom b t = true) (hx : x < b) :
    Tab.lookup t x = none := by
  induction t generalizing b with
  | nil => rfl
  | cons e r ih =>
    obtain ⟨k, v⟩ := e
    simp only [Tab.risesFrom, Bool.and_eq_true, decide_eq_true_eq] at h
    rw [Tab.lookup, if_neg (by omega)]; exact ih h.2 (by omega)

theorem Tab.lookup_erase_self {α : Type} (t : List (Nat × α)) (x : Nat) {b : Nat} (h : Tab.risesFrom b t = true) :
    Tab.lookup (Tab.erase t x) x = none := by
  induction t generalizing b with
  | nil => rfl
  | cons e r ih =>
    obtain ⟨k, v⟩ := e
    simp only [Tab.risesFrom, Bool.and_eq_true, decide_eq_true_eq] at h
    simp only [Tab.erase]
    split
    · subst x; exact Tab.lookup_lt r h.2 (by omega)
    · rename_i hk; rw [Tab.lookup, if_neg hk]; exact ih h.2

theorem Tab.get_set_ne {α : Type} [DecidableEq α] (d d' : α) (t : List (Nat × α)) {x z : Nat} (y : α) (h : z ≠ x) :
    Tab.get d (Tab.set d' t x y) z = Tab.get d t z := by
  unfold Tab.get Tab.set
  split
  · rw [Tab.lookup_erase_ne t h]
  · rw [Tab.lookup_insert_ne t y h]

theorem Tab.get_set_self {α : Type} [DecidableEq α] (d : α) (t : List (Nat × α)) (x : Nat) (y : α)
    (h : Tab.risesFrom 0 t = true) : Tab.get d (Tab.set d t x y) x = y := by
  unfold Tab.get Tab.set
  split
  · rw [Tab.lookup_erase_self t x h]; simp [*]
  · rw [Tab.lookup_insert_self]; rfl


theorem Tab.lookup_keep {α : Type} (k : Nat → Bool) (l : List (Nat × α)) (x : Nat) :
    Tab.lookup (Tab.keep k l) x = if k x = true then Tab.lookup l x else none := by
  induction l with
  | nil => simp [Tab.keep, Tab.lookup]
  | cons e l ih =>
    obtain ⟨y, v⟩ := e
    simp only [Tab.keep, List.filter_cons, Tab.lookup] at ih ⊢
    by_cases hy : k y = true
    · rw [if_pos hy, Tab.lookup, ih]
      by_cases hx : x = y
      · subst hx; simp [hy]
      · simp [hx]
    · rw [if_neg hy, ih]
      by_cases hx : x = y
      · subst hx; simp [hy]
      · simp [hx]

end Sys2Proof.Machine
end

