-- ==== Sys2Proof/Laws/Keeps.lean ====
section
/-!
SUPPORT. What every operation and every command keeps: the queue, the silicon and the canonical form;
    and the Weighhouse die, for
what is not its own.
-/

namespace Sys2Proof.Machine

/-- The Weighhouse die is the one given, if one is given. -/
def KeepsWh (o : Option Weigh) (w : Weigh) : Prop :=
  match o with
  | none => True
  | some x => w = x

theorem keepsNone (w : Weigh) : KeepsWh none w = True := rfl

/-- What every command keeps: the queue, what the silicon fixes, and the canonical form of the tables; and,
    for commands
that are not the Weighhouse die's own, that die (`σ` says whether it is asked for). -/
structure State.Ok (q : List Instr) (σ : Silicon × Option Weigh) (s : State) : Prop where
  pending : s.pending = q
  si : s.si = σ.1
  regs : Tab.risesFrom 0 s.regs = true
  shadows : Tab.risesFrom 0 s.shadows = true
  live : Tab.risesFrom 0 s.live = true
  alm : Tab.risesFrom 0 s.tb.alm = true
  mem : Tab.risesFrom 0 s.dram.mem = true
  tile : tilesWf s.tile = true
  req : Tab.wf (0 : Byte) s.wb.reqBuf = true
  rsp : Tab.wf (0 : Byte) s.wb.rspBuf = true
  wh : KeepsWh σ.2 s.wh

variable {q : List Instr} {σ : Silicon × Option Weigh} {σ₀ : Silicon} {s : State}

theorem okFold (x : State) : (x.pending = q ∧ x.si = σ.1 ∧ Tab.risesFrom 0 x.regs = true ∧ Tab.risesFrom 0 x.shadows =
    true
    ∧ Tab.risesFrom 0 x.live = true ∧ Tab.risesFrom 0 x.tb.alm = true ∧ Tab.risesFrom 0 x.dram.mem = true
    ∧ tilesWf x.tile = true ∧ Tab.wf (0 : Byte) x.wb.reqBuf = true
    ∧ Tab.wf (0 : Byte) x.wb.rspBuf = true ∧ KeepsWh σ.2 x.wh) = x.Ok q σ :=
  propext ⟨fun ⟨h1, h2, h3, h4, h5, h6, h7, h8, h9, h10, h11⟩ => ⟨h1, h2, h3, h4, h5, h6, h7, h8, h9, h10, h11⟩,
    fun h => ⟨h.1, h.2, h.3, h.4, h.5, h.6, h.7, h.8, h.9, h.10, h.11⟩⟩

theorem okFoldAny (x : State) : (x.pending = q ∧ x.si = σ₀ ∧ Tab.risesFrom 0 x.regs = true ∧
    Tab.risesFrom 0 x.shadows = true
    ∧ Tab.risesFrom 0 x.live = true ∧ Tab.risesFrom 0 x.tb.alm = true ∧ Tab.risesFrom 0 x.dram.mem = true
    ∧ tilesWf x.tile = true ∧ Tab.wf (0 : Byte) x.wb.reqBuf = true
    ∧ Tab.wf (0 : Byte) x.wb.rspBuf = true) = x.Ok q (σ₀, none) :=
  propext ⟨fun ⟨h1, h2, h3, h4, h5, h6, h7, h8, h9, h10⟩ => ⟨h1, h2, h3, h4, h5, h6, h7, h8, h9, h10, trivial⟩,
    fun h => ⟨h.1, h.2, h.3, h.4, h.5, h.6, h.7, h.8, h.9, h.10⟩⟩

theorem okMk (pending held freeIdx trainings si regs shadows live resp sent srstBusy srstAt errAt
    hhReset warmDue por lastRst tb mx ln wh wb dr dram qs qwait sch pol tile run img pv noc fab disc cst host dbg flt) :
    (State.mk pending held freeIdx trainings si regs shadows live resp sent srstBusy srstAt errAt
    hhReset warmDue por lastRst tb mx ln wh wb dr dram qs qwait sch pol tile run img pv noc fab disc cst host dbg flt).Ok q σ =
    (pending = q ∧ si = σ.1 ∧ Tab.risesFrom 0 regs = true ∧ Tab.risesFrom 0 shadows = true
    ∧ Tab.risesFrom 0 live = true ∧ Tab.risesFrom 0 tb.alm = true ∧ Tab.risesFrom 0 dram.mem = true
    ∧ tilesWf tile = true ∧ Tab.wf (0 : Byte) wb.reqBuf = true
    ∧ Tab.wf (0 : Byte) wb.rspBuf = true ∧ KeepsWh σ.2 wh) := by
  rw [← okFold]

theorem okMkAny (pending held freeIdx trainings si regs shadows live resp sent srstBusy srstAt errAt
    hhReset warmDue por lastRst tb mx ln wh wb dr dram qs qwait sch pol tile run img pv noc fab disc cst host dbg flt) :
    (State.mk pending held freeIdx trainings si regs shadows live resp sent srstBusy srstAt errAt
    hhReset warmDue por lastRst tb mx ln wh wb dr dram qs qwait sch pol tile run img pv noc fab disc cst host dbg flt).Ok q (σ₀, none) =
    (pending = q ∧ si = σ₀ ∧ Tab.risesFrom 0 regs = true ∧ Tab.risesFrom 0 shadows = true
    ∧ Tab.risesFrom 0 live = true ∧ Tab.risesFrom 0 tb.alm = true ∧ Tab.risesFrom 0 dram.mem = true
    ∧ tilesWf tile = true ∧ Tab.wf (0 : Byte) wb.reqBuf = true
    ∧ Tab.wf (0 : Byte) wb.rspBuf = true) := by
  rw [← okFoldAny]

/-- A state that differs in nothing of it keeps it. -/
theorem okSame {x y : State} (h : x.Ok q σ) (e :
    (y.pending, y.si, y.regs, y.shadows, y.live, y.tb.alm, y.dram.mem, y.tile,
    y.wb.reqBuf, y.wb.rspBuf, y.wh) = (x.pending, x.si, x.regs, x.shadows, x.live, x.tb.alm, x.dram.mem, x.tile,
    x.wb.reqBuf, x.wb.rspBuf, x.wh) := by rfl) : y.Ok q σ := by
  simp only [Prod.mk.injEq] at e
  obtain ⟨e1, e2, e3, e4, e5, e6, e7, e8, e9, e10, e11⟩ := e
  exact ⟨e1 ▸ h.1, e2 ▸ h.2, e3 ▸ h.3, e4 ▸ h.4, e5 ▸ h.5, e6 ▸ h.6, e7 ▸ h.7, e8 ▸ h.8, e9 ▸ h.9, e10 ▸ h.10,
    e11 ▸ h.11⟩

theorem okIte {c : Prop} [Decidable c] {a b : State} (h1 : c → a.Ok q σ) (h2 : ¬ c → b.Ok q σ) :
    (if c then a else b).Ok q σ := by
  split <;> simp_all

theorem okFoldl {α : Type} {f : State → α → State} {l : List α} (hk : ∀ t x, t.Ok q σ → (f t x).Ok q σ) (h :
    s.Ok q σ) :
    (l.foldl f s).Ok q σ := by
  induction l generalizing s with
  | nil => exact h
  | cons a l ih => exact ih (hk _ _ h)

/-- The outcome's next state, if it has one, keeps them. -/
def OkOut (q : List Instr) (σ : Silicon × Option Weigh) (o : Out) : Prop := ∀ t, o = .next t → t.Ok q σ

theorem okNext (t : State) : OkOut q σ (.next t) = t.Ok q σ := by simp [OkOut]

theorem okIteOut {c : Prop} [Decidable c] {a b : Out} (h1 : c → OkOut q σ a) (h2 : ¬ c → OkOut q σ b) :
    OkOut q σ (if c then a else b) := by
  split <;> simp_all

/-- An optional state. -/
def OkOpt (q : List Instr) (σ : Silicon × Option Weigh) (o : Option State) : Prop := ∀ t, o = some t → t.Ok q σ

theorem okIteOpt {c : Prop} [Decidable c] {a b : Option State} (h1 : c → OkOpt q σ a) (h2 : ¬ c → OkOpt q σ b) :
    OkOpt q σ (if c then a else b) := by
  split <;> simp_all

theorem okSome (t : State) : OkOpt q σ (some t) = t.Ok q σ := by simp [OkOpt]
theorem okNone : OkOpt q σ none = True := by simp [OkOpt]

theorem TileSt.put_wf (l : List Byte) (x : TileSt) (a : Nat) (h : Tab.wf (0 : Byte) x.sram = true) :
    Tab.wf (0 : Byte) (x.put a l).sram = true := by
  induction l generalizing x a with
  | nil => exact h
  | cons b l ih => exact ih _ _ (Tab.wf_set _ _ _ _ h)

theorem State.tl_wf {s : State} (h : s.Ok q σ) (n : Nat) : Tab.wf (0 : Byte) (s.tl n).sram = true := by
  unfold State.tl Tab.get
  cases e : Tab.lookup s.tile n with
  | none => rfl
  | some x =>
    have h9 := h.tile
    simp only [tilesWf, Bool.and_eq_true] at h9
    exact (List.all_eq_true.mp h9.2) _ (Tab.lookup_mem _ _ _ e)

theorem TileSt.reset_wf : Tab.wf (0 : Byte) TileSt.reset.sram = true := rfl

theorem State.issuing_wf {s : State} {t : Nat} {i : Issue} (h : s.Ok q σ) (e : s.issuing t = some i) :
    Tab.wf (0 : Byte) i.x.sram = true := by
  unfold State.issuing at e
  dsimp only at e
  repeat' split at e
  all_goals first
    | cases e; exact State.tl_wf h _
    | cases e

end Sys2Proof.Machine
end

