-- ==== Sys2Proof/Laws/Keeps1.lean ====
section
/-!
SUPPORT. Part 1 of what every operation and every command keeps, in the order in which they rest on each other.
-/

namespace Sys2Proof.Machine

variable {q : List Instr} {σ : Silicon × Option Weigh} {σ₀ : Silicon}

theorem State.storeXings_ok {s : State} {phases : List (Fin 16)} {occ : List (Fin 9)} (h0 : s.Ok q σ) :
    (State.storeXings s phases occ).Ok q σ := by
  unfold State.storeXings
  repeat' split
  all_goals simp_all +contextual (maxDischargeDepth := 99) only [okMk, okFold]

theorem State.setFld_ok {s : State} {p : Nat} {f : Fld} {v : Nat} (h : s.Ok q σ) : (s.setFld p f v).Ok q σ := by
  have := Tab.rises_set f.reset s.regs (regKey p f.bit) (v % 2 ^ f.width) h.regs
  unfold State.setFld; rw [okMk]; exact ⟨h.1, h.2, this, h.4, h.5, h.6, h.7, h.8, h.9, h.10, h.11⟩

theorem State.occur_ok {s : State} {p : Nat} {n : Nat} (h0 : s.Ok q σ) : (State.occur s p n).Ok q σ := by
  unfold State.occur
  repeat' split
  all_goals simp_all +contextual (maxDischargeDepth := 99) only [State.setFld_ok]

theorem State.bump_ok {s : State} {p : Nat} {f : Fld} {n : Nat} (h0 : s.Ok q σ) : (State.bump s p f n).Ok q σ := by
  unfold State.bump
  repeat' split
  all_goals simp_all +contextual (maxDischargeDepth := 99) only [State.setFld_ok]

theorem State.recordErr_ok {s : State} {p : Nat} {e : Ev} {hh : Nat} (h0 : s.Ok q σ) :
    (State.recordErr s p e hh).Ok q σ := by
  unfold State.recordErr
  repeat' split
  all_goals simp_all +contextual (maxDischargeDepth := 99) only [okMk, okFold, okIte, implies_true, State.bump_ok,
      State.setFld_ok]

theorem State.raiseBy_ok {s : State} {p : Nat} {e : Ev} {hh : Nat} (h0 : s.Ok q σ) :
    (State.raiseBy s p e hh).Ok q σ := by
  unfold State.raiseBy
  repeat' split
  all_goals simp_all +contextual (maxDischargeDepth := 99) only [State.occur_ok, State.recordErr_ok]

theorem State.raise_ok {s : State} {p : Nat} {e : Ev} (h0 : s.Ok q σ) : (State.raise s p e).Ok q σ := by
  unfold State.raise
  repeat' split
  all_goals simp_all +contextual (maxDischargeDepth := 99) only [State.raiseBy_ok]

theorem State.incr_ok {s : State} {p : Nat} {f : Fld} {n : Nat} (h0 : s.Ok q σ) : (State.incr s p f n).Ok q σ := by
  unfold State.incr
  repeat' split
  all_goals simp_all +contextual (maxDischargeDepth := 99) only [State.setFld_ok]

theorem State.dawnFail_ok {s : State} {code : Nat} {xing : Nat} (h0 : s.Ok q σ) :
    (State.dawnFail s code xing).Ok q σ := by
  unfold State.dawnFail
  repeat' split
  all_goals simp_all +contextual (maxDischargeDepth := 99) only [okMk, okFold, State.raiseBy_ok, State.setFld_ok]

theorem execDawnMeasureEnd_ok {phases : List (Fin 16)} {occ : List (Fin 9)} {s : State} (h2 : s.Ok q σ) : OkOut q σ
    (execDawnMeasureEnd phases occ s) := by
  unfold execDawnMeasureEnd
  repeat' split
  all_goals simp_all +contextual (maxDischargeDepth := 99) only [okMk, okFold, okNext, okIteOut, implies_true,
      State.storeXings_ok, State.raise_ok, State.incr_ok, State.setFld_ok, State.dawnFail_ok]

theorem State.decodeError_ok {s : State} {a : Acc} {addr : Nat} {write : Bool} {cause : Nat} (h0 : s.Ok q σ) :
    (State.decodeError s a addr write cause).Ok q σ := by
  unfold State.decodeError
  repeat' split
  all_goals simp_all +contextual (maxDischargeDepth := 99) only [okMk, okFold, okIte, implies_true, State.raiseBy_ok,
      State.bump_ok, State.setFld_ok]

theorem State.denial_ok {s : State} {a : Acc} {addr : Nat} {write : Bool} (h0 : s.Ok q σ) :
    (State.denial s a addr write).Ok q σ := by
  unfold State.denial
  repeat' split
  all_goals simp_all +contextual (maxDischargeDepth := 99) only [okMk, okFold, okIte, implies_true, State.bump_ok,
      State.raiseBy_ok, State.setFld_ok]

theorem State.answer_ok {s : State} {data : List Nat} (h0 : s.Ok q σ) : (State.answer s data).Ok q σ := by
  unfold State.answer
  repeat' split
  all_goals simp_all +contextual (maxDischargeDepth := 99) only [okMk, okFold]

theorem State.serve_ok {s : State} {a : Acc} {p : Nat} {write : Bool} {k : State → State} (h0 : s.Ok q σ)
    (h4 : ∀ (t0 : State), t0.Ok q σ → (k t0).Ok q σ) : (State.serve s a p write k).Ok q σ := by
  unfold State.serve
  repeat' split
  all_goals simp_all +contextual (maxDischargeDepth := 99) only [State.raiseBy_ok, State.answer_ok]

theorem State.access_ok {s : State} {i : Instr} {a : Acc} {p : Nat} {off : Nat} {write : Bool} {k : State → State}
    (h0 : s.Ok q σ) (h6 : ∀ (t0 : State), t0.Ok q σ → (k t0).Ok q σ) : (State.access s i a p off write k).Ok q σ := by
  unfold State.access
  repeat' split
  all_goals simp_all +contextual (maxDischargeDepth := 99) only [okMk, okFold, implies_true, State.decodeError_ok,
      State.denial_ok, State.serve_ok]

theorem State.setFeed_ok {s : State} {a1 : Nat} {v : Nat} (h0 : s.Ok q σ) : (State.setFeed s a1 v).Ok q σ := by
  unfold State.setFeed
  repeat' split
  all_goals simp_all +contextual (maxDischargeDepth := 99) only [State.setFld_ok]

theorem State.replayFail_ok {s : State} {a1 : Nat} (h0 : s.Ok q σ) : (State.replayFail s a1).Ok q σ := by
  unfold State.replayFail
  repeat' split
  all_goals simp_all +contextual (maxDischargeDepth := 99) only [State.raiseBy_ok, State.setFeed_ok]

theorem State.setPv_ok {s : State} {a1 : Nat} {v : ProvSt} (h0 : s.Ok q σ) : (State.setPv s a1 v).Ok q σ := by
  unfold State.setPv
  repeat' split
  all_goals simp_all +contextual (maxDischargeDepth := 99) only [okMk, okFold]

theorem State.pushResult_ok {s : State} {n : Nat} {outcome : Nat} {words : Nat} (h0 : s.Ok q σ) :
    (State.pushResult s n outcome words).Ok q σ := by
  unfold State.pushResult
  repeat' split
  all_goals simp_all +contextual (maxDischargeDepth := 99) only [okMk, okFold, State.setFld_ok]

theorem State.qEvent_ok {s : State} {n : Nat} {e : Ev} {hh : Nat} (h0 : s.Ok q σ) :
    (State.qEvent s n e hh).Ok q σ := by
  unfold State.qEvent
  repeat' split
  all_goals simp_all +contextual (maxDischargeDepth := 99) only [okIte, implies_true, State.raiseBy_ok,
      State.setFld_ok]

theorem State.qRefuse_ok {s : State} {n : Nat} {hh : Nat} (h0 : s.Ok q σ) : (State.qRefuse s n hh).Ok q σ := by
  unfold State.qRefuse
  repeat' split
  all_goals simp_all +contextual (maxDischargeDepth := 99) only [State.qEvent_ok, State.bump_ok]

theorem State.setQ_ok {s : State} {n : Nat} {a2 : QueueSt} (h0 : s.Ok q σ) : (State.setQ s n a2).Ok q σ := by
  unfold State.setQ
  repeat' split
  all_goals simp_all +contextual (maxDischargeDepth := 99) only [okMk, okFold]

theorem State.qAbandon_ok {s : State} {n : Nat} {outcome : Nat} {disc : Bool} {hh : Nat} (h0 : s.Ok q σ) :
    (State.qAbandon s n outcome disc hh).Ok q σ := by
  unfold State.qAbandon
  repeat' split
  all_goals (try dsimp only)
  repeat' split
  all_goals simp_all +contextual (maxDischargeDepth := 99) only [State.pushResult_ok, State.setQ_ok, State.qEvent_ok,
      State.bump_ok]
  all_goals (repeat' split)
  all_goals simp_all +contextual (maxDischargeDepth := 99) only [State.tl_wf (q := q) (σ := σ), TileSt.put_wf,
      Tab.wf_keep, TileSt.reset_wf, okMk, okFold, okIte, okFoldl, okNext, okIteOut, okSome, okNone, implies_true,
      State.pushResult_ok, State.setQ_ok, State.qEvent_ok, State.bump_ok]

theorem State.orFld_ok {s : State} {p : Nat} {f : Fld} {m : Nat} (h0 : s.Ok q σ) : (State.orFld s p f m).Ok q σ := by
  unfold State.orFld
  repeat' split
  all_goals simp_all +contextual (maxDischargeDepth := 99) only [State.setFld_ok]

theorem State.qLose_ok {s : State} {n : Nat} {hh : Nat} (h0 : s.Ok q σ) : (State.qLose s n hh).Ok q σ := by
  unfold State.qLose
  repeat' split
  all_goals simp_all +contextual (maxDischargeDepth := 99) only [State.setQ_ok, State.bump_ok, State.qEvent_ok,
      State.orFld_ok]

theorem State.qOverwrite_ok {s : State} {n : Nat} {hh : Nat} {i : QItem} (h0 : s.Ok q σ) :
    (State.qOverwrite s n hh i).Ok q σ := by
  unfold State.qOverwrite
  repeat' split
  all_goals simp_all +contextual (maxDischargeDepth := 99) only [okIte, implies_true, State.qLose_ok, State.setQ_ok,
      State.qEvent_ok]

theorem State.dramCount_ok {s : State} {a1 : DramReq} (h0 : s.Ok q σ) : (State.dramCount s a1).Ok q σ := by
  unfold State.dramCount
  repeat' split
  all_goals simp_all +contextual (maxDischargeDepth := 99) only [okMk, okFold, State.bump_ok]

theorem State.dramDone_ok {s : State} {client : Nat} {bytes : Nat} (h0 : s.Ok q σ) :
    (State.dramDone s client bytes).Ok q σ := by
  unfold State.dramDone
  repeat' split
  all_goals simp_all +contextual (maxDischargeDepth := 99) only [okMk, okFold, State.dramCount_ok]

theorem State.spillErrInfo_ok {s : State} {n : Nat} {status : Nat} (h0 : s.Ok q σ) :
    (State.spillErrInfo s n status).Ok q σ := by
  unfold State.spillErrInfo
  repeat' split
  all_goals simp_all +contextual (maxDischargeDepth := 99) only [State.setFld_ok]

theorem State.spillWritten_ok {s : State} {n : Nat} {b : Nat} {status : Nat} (h0 : s.Ok q σ) :
    (State.spillWritten s n b status).Ok q σ := by
  unfold State.spillWritten
  repeat' split
  all_goals simp_all +contextual (maxDischargeDepth := 99) only [State.dramDone_ok, State.setQ_ok,
      State.spillErrInfo_ok, State.raise_ok]

theorem State.meterTake_ok {s : State} {c : Nat} {bytes : Nat} (h0 : s.Ok q σ) :
    (State.meterTake s c bytes).2.Ok q σ := by
  unfold State.meterTake
  repeat' split
  all_goals simp_all +contextual (maxDischargeDepth := 99) only [okMk, okFold]

theorem State.dramAsk_ok {s : State} {a : Nat} {bytes : Nat} {client : Nat} {timed : Bool} (h0 : s.Ok q σ) :
    (State.dramAsk s a bytes client timed).Ok q σ := by
  unfold State.dramAsk
  repeat' split
  all_goals simp_all +contextual (maxDischargeDepth := 99) only [okMk, okFold, okIte, implies_true,
      State.meterTake_ok, State.bump_ok]

theorem State.dramWrote_ok {s : State} {a n : Nat} (h : s.Ok q σ) : (s.dramWrote a n).Ok q σ := by
  refine okFoldl (fun t x ht => ?_) h
  dsimp only
  split
  · exact okIte (fun _ => State.setPv_ok ht) (fun _ => ht)
  · exact ht

theorem State.dramPut_ok {s : State} {a : Nat} {b : Byte} (h : s.Ok q σ) : (s.dramPut a b).Ok q σ := by
  unfold State.dramPut
  refine okIte (fun _ => h) (fun _ => ?_)
  rw [okMk]; exact ⟨h.1, h.2, h.3, h.4, h.5, h.6, Tab.rises_insert _ _ _ _ (Nat.zero_le _) h.mem, h.8, h.9, h.10,
      h.11⟩

theorem State.dramPutAll_ok {s : State} {a : Nat} {bs : List Byte} (h : s.Ok q σ) : (s.dramPutAll a bs).Ok q σ := by
  induction bs generalizing s a with
  | nil => exact h
  | cons b bs ih => exact ih (State.dramPut_ok h)

theorem State.dramStore_ok {s : State} {a : Nat} {bs : List Byte} (h0 : s.Ok q σ) :
    (State.dramStore s a bs).Ok q σ := by
  unfold State.dramStore
  repeat' split
  all_goals simp_all +contextual (maxDischargeDepth := 99) only [State.dramWrote_ok, State.dramPutAll_ok]

theorem State.spillWrite_ok {s : State} {n : Nat} (h0 : s.Ok q σ) : (State.spillWrite s n).Ok q σ := by
  unfold State.spillWrite
  repeat' split
  all_goals simp_all +contextual (maxDischargeDepth := 99) only [State.dramAsk_ok, State.setQ_ok, State.dramStore_ok]

theorem State.makeRoom_ok {s : State} {n : Nat} (h0 : s.Ok q σ) : (State.makeRoom s n).Ok q σ := by
  unfold State.makeRoom
  repeat' split
  all_goals simp_all +contextual (maxDischargeDepth := 99) only [okIte, implies_true, State.setQ_ok,
      State.spillWritten_ok, State.spillWrite_ok]

theorem State.storeWord_ok {s : State} {n : Nat} {hh : Nat} {last : Bool} {v : Nat} (h0 : s.Ok q σ) :
    (State.storeWord s n hh last v).1.Ok q σ := by
  unfold State.storeWord
  repeat' split
  all_goals (try dsimp only)
  repeat' split
  all_goals simp_all +contextual (maxDischargeDepth := 99) only [State.pushResult_ok, State.qRefuse_ok,
      State.setQ_ok, State.qOverwrite_ok, State.qLose_ok, State.makeRoom_ok]
  all_goals (repeat' split)
  all_goals simp_all +contextual (maxDischargeDepth := 99) only [State.tl_wf (q := q) (σ := σ), TileSt.put_wf,
      Tab.wf_keep, TileSt.reset_wf, okMk, okFold, okIte, okFoldl, okNext, okIteOut, okSome, okNone, implies_true,
      State.pushResult_ok, State.qRefuse_ok, State.setQ_ok, State.qOverwrite_ok, State.qLose_ok, State.makeRoom_ok]

theorem State.storeWords_ok {s : State} {n hh : Nat} {last : Bool} {l : List Nat} (h : s.Ok q σ) :
    (s.storeWords n hh last l).1.Ok q σ := by
  induction l generalizing s with
  | nil => exact h
  | cons v vs ih =>
    have h1 := State.storeWord_ok (n := n) (hh := hh) (last := last) (v := v) h
    rw [State.storeWords]
    split
    · rename_i t k e; rw [e] at h1; exact okIte (fun _ => State.bump_ok h1) (fun _ => h1)
    · rename_i t e; rw [e] at h1; exact ih h1

theorem State.qTouch_ok {s : State} {n : Nat} (h0 : s.Ok q σ) : (State.qTouch s n).Ok q σ := by
  unfold State.qTouch
  repeat' split
  all_goals simp_all +contextual (maxDischargeDepth := 99) only [okIte, implies_true, State.setQ_ok, State.qEvent_ok]

theorem State.depthMarks_ok {s : State} {n : Nat} (h0 : s.Ok q σ) : (State.depthMarks s n).Ok q σ := by
  unfold State.depthMarks
  repeat' split
  all_goals simp_all +contextual (maxDischargeDepth := 99) only [okFoldl, implies_true, State.setFld_ok]

theorem State.qCommit_ok {s : State} {n : Nat} {stall : Nat} (h0 : s.Ok q σ) : (State.qCommit s n stall).Ok q σ := by
  unfold State.qCommit
  repeat' split
  all_goals (try dsimp only)
  repeat' split
  all_goals simp_all +contextual (maxDischargeDepth := 99) only [State.setQ_ok, State.depthMarks_ok,
      State.pushResult_ok]
  all_goals (repeat' split)
  all_goals simp_all +contextual (maxDischargeDepth := 99) only [State.tl_wf (q := q) (σ := σ), TileSt.put_wf,
      Tab.wf_keep, TileSt.reset_wf, okMk, okFold, okIte, okFoldl, okNext, okIteOut, okSome, okNone, implies_true,
      State.setQ_ok, State.depthMarks_ok, State.pushResult_ok]

theorem State.qPush_ok {s : State} {n : Nat} {pr : Producer} {ws : List Nat} {last poisoned : Bool} {stall : Nat}
    (h : s.Ok q σ) : (s.qPush n pr ws last poisoned stall).Ok q σ := by
  have a : ∀ c : Prop, [Decidable c] → ∀ t u : State, t.Ok q σ → (t.Ok q σ → u.Ok q σ) →
      (if c then u else t).Ok q σ :=
    fun c _ t u ht hu => okIte (fun _ => hu ht) (fun _ => ht)
  unfold State.qPush
  refine okIte (fun _ => State.pushResult_ok (State.qRefuse_ok h)) (fun _ => ?_)
  split
  · exact State.pushResult_ok (a _ _ _ (State.setQ_ok h) State.bump_ok)
  · refine okIte (fun _ => State.pushResult_ok (State.qRefuse_ok h)) (fun _ => ?_)
    have k : ∀ (c : Prop) [Decidable c] (x : QueueSt), (if c then s else s.setQ n x).Ok q σ :=
      fun c _ x => okIte (fun _ => h) (fun _ => State.setQ_ok h)
    refine okIte (fun _ => ?_) (fun _ => ?_)
    · have := State.pushResult_ok (n := n) (outcome := 4) (words := 0)
        (State.qAbandon_ok (n := n) (outcome := 4) (disc := !last) (hh := pr.hh)
            (k ((s.q n).opened.isSome = true) { s.q n with opened := some ⟨pr, [], s.tb.beat⟩ }))
      simp only [okMk, okFold]; exact this
    · have w := State.storeWords_ok (n := n) (hh := pr.hh) (last := last) (l := ws)
        (k ((s.q n).opened.isSome = true) { s.q n with opened := some ⟨pr, [], s.tb.beat⟩ })
      split
      · rename_i t _ e; rw [e] at w; exact State.qTouch_ok w
      · rename_i t e
        rw [e] at w
        refine State.qTouch_ok
            (okIte (fun _ => State.qCommit_ok (State.setQ_ok w)) (fun _ => State.pushResult_ok (State.setQ_ok w)))

theorem State.qPushItem_ok {s : State} {n : Nat} {pr : Producer} {ws : List Nat} {stall : Nat} (h0 : s.Ok q σ) :
    (State.qPushItem s n pr ws stall).Ok q σ := by
  unfold State.qPushItem
  repeat' split
  all_goals simp_all +contextual (maxDischargeDepth := 99) only [State.qPush_ok]

theorem State.feedOne_ok {s : State} {a1 : Nat} {a2 : Nat} (h0 : s.Ok q σ) : (State.feedOne s a1 a2).Ok q σ := by
  unfold State.feedOne
  repeat' split
  all_goals simp_all +contextual (maxDischargeDepth := 99) only [okIte, implies_true, State.qPushItem_ok,
      State.setPv_ok, State.incr_ok, State.setFld_ok, State.replayFail_ok, State.setFeed_ok]

theorem State.feedEarly_ok {s : State} {h k n : Nat} (h0 : s.Ok q σ) : (s.feedEarly h k n).Ok q σ := by
  induction n generalizing s with
  | zero => exact h0
  | succ n ih =>
    rw [State.feedEarly]
    exact okIte (fun _ => h0) (fun _ => okIte (fun _ => h0) (fun _ => ih (State.feedOne_ok h0)))

theorem State.replayStart_ok {s : State} {a1 : Nat} (h0 : s.Ok q σ) : (State.replayStart s a1).Ok q σ := by
  unfold State.replayStart
  repeat' split
  all_goals simp_all +contextual (maxDischargeDepth := 99) only [okIte, implies_true, State.replayFail_ok,
      State.setFeed_ok, State.setPv_ok, State.setFld_ok, State.feedEarly_ok]

theorem State.clampBit_ok {s : State} {p : Nat} {bit : Nat} (h0 : s.Ok q σ) : (State.clampBit s p bit).Ok q σ := by
  unfold State.clampBit
  repeat' split
  all_goals simp_all +contextual (maxDischargeDepth := 99) only [State.setFld_ok]

theorem State.lockViol_ok {s : State} {p : Nat} (h0 : s.Ok q σ) : (State.lockViol s p).Ok q σ := by
  unfold State.lockViol
  repeat' split
  all_goals simp_all +contextual (maxDischargeDepth := 99) only [State.setFld_ok]

theorem State.writeRw_ok {s : State} {p : Nat} {f : Fld} {v : Nat} (h0 : s.Ok q σ) :
    (State.writeRw s p f v).Ok q σ := by
  unfold State.writeRw
  repeat' split
  all_goals simp_all +contextual (maxDischargeDepth := 99) only [State.lockViol_ok, State.setFld_ok,
      State.clampBit_ok]

theorem State.clrFld_ok {s : State} {p : Nat} {f : Fld} {m : Nat} (h0 : s.Ok q σ) :
    (State.clrFld s p f m).Ok q σ := by
  unfold State.clrFld
  repeat' split
  all_goals simp_all +contextual (maxDischargeDepth := 99) only [State.setFld_ok]

theorem State.setShadow_ok {s : State} {p : Nat} {f : Fld} {v : Nat} (h : s.Ok q σ) : (s.setShadow p f v).Ok q σ := by
  have := Tab.rises_insert s.shadows (regKey p f.bit) (v % 2 ^ f.width, f.reset) 0 (Nat.zero_le _) h.shadows
  unfold State.setShadow; rw [okMk]; exact ⟨h.1, h.2, h.3, this, h.5, h.6, h.7, h.8, h.9, h.10, h.11⟩

theorem State.writeField_ok {s : State} {p : Nat} {f : Fld} {v : Nat} (h0 : s.Ok q σ) :
    (State.writeField s p f v).Ok q σ := by
  unfold State.writeField
  repeat' split
  all_goals simp_all +contextual (maxDischargeDepth := 99) only [State.writeRw_ok, State.clrFld_ok, State.orFld_ok,
      State.lockViol_ok, State.setShadow_ok]

theorem State.applyShadows_ok {s : State} {p : Nat} (h : s.Ok q σ) : (s.applyShadows p).Ok q σ := by
  unfold State.applyShadows
  refine okIte (fun _ => State.incr_ok ?_) (fun _ => h)
  rw [okMk]
  exact ⟨h.1, h.2, Tab.rises_foldl _ (fun e : Nat × Nat × Nat => e.2.2) (fun e => e.2.1) (fun e => e.1) _ h.regs,
    Tab.rises_filter _ _ _ h.shadows, h.5, h.6, h.7, h.8, h.9, h.10, h.11⟩

theorem State.writeFields_ok {s : State} {p : Nat} {fs : List Fld} {w : Nat} (h0 : s.Ok q σ) :
    (State.writeFields s p fs w).Ok q σ := by
  unfold State.writeFields
  repeat' split
  all_goals simp_all +contextual (maxDischargeDepth := 99) only [okIte, okFoldl, implies_true, State.writeField_ok,
      State.applyShadows_ok]

theorem State.provWrite_ok {s : State} {hh : Nat} {off : Nat} {w : Nat} (h0 : s.Ok q σ) :
    (State.provWrite s hh off w).Ok q σ := by
  unfold State.provWrite
  repeat' split
  all_goals simp_all +contextual (maxDischargeDepth := 99) only [okIte, okFoldl, implies_true, State.setFld_ok,
      State.raiseBy_ok, State.replayStart_ok, State.setFeed_ok, State.clampBit_ok, State.writeFields_ok]

theorem State.provAccess_ok {s : State} {i : Instr} {a : Acc} {a3 : Nat} {r : Nat} {w : Nat} (h0 : s.Ok q σ) :
    (State.provAccess s i a a3 r w).Ok q σ := by
  unfold State.provAccess
  repeat' split
  all_goals simp_all +contextual (maxDischargeDepth := 99) only [implies_true, State.access_ok, State.provWrite_ok]

theorem State.setRoute_ok {s : State} {d : Nat} {r : Route} (h0 : s.Ok q σ) : (State.setRoute s d r).Ok q σ := by
  unfold State.setRoute
  repeat' split
  all_goals simp_all +contextual (maxDischargeDepth := 99) only [State.setFld_ok]

theorem State.installRoutes_ok {s : State} (h0 : s.Ok q σ) : (State.installRoutes s).Ok q σ := by
  unfold State.installRoutes
  repeat' split
  all_goals simp_all +contextual (maxDischargeDepth := 99) only [okFoldl, implies_true, State.setRoute_ok]

theorem State.showTree_ok {s : State} (h0 : s.Ok q σ) : (State.showTree s).Ok q σ := by
  unfold State.showTree
  repeat' split
  all_goals simp_all +contextual (maxDischargeDepth := 99) only [okFoldl, implies_true, State.setFld_ok]

theorem State.activate_ok {s : State} (h0 : s.Ok q σ) : (State.activate s).Ok q σ := by
  unfold State.activate
  repeat' split
  all_goals simp_all +contextual (maxDischargeDepth := 99) only [okMk, okFold, okIte, implies_true,
      State.installRoutes_ok, State.setFld_ok, State.raise_ok, State.showTree_ok]

theorem State.setPort_ok {s : State} {k : Nat} {a2 : PortSt} (h0 : s.Ok q σ) : (State.setPort s k a2).Ok q σ := by
  unfold State.setPort
  repeat' split
  all_goals simp_all +contextual (maxDischargeDepth := 99) only [okMk, okFold]

theorem State.queueFrame_ok {s : State} {k : Nat} {a2 : TxFrame} (h0 : s.Ok q σ) :
    (State.queueFrame s k a2).Ok q σ := by
  unfold State.queueFrame
  repeat' split
  all_goals simp_all +contextual (maxDischargeDepth := 99) only [State.setPort_ok]

theorem State.sendLocal_ok {s : State} {k : Nat} {f : Frame} (h0 : s.Ok q σ) : (State.sendLocal s k f).Ok q σ := by
  unfold State.sendLocal
  repeat' split
  all_goals simp_all +contextual (maxDischargeDepth := 99) only [State.queueFrame_ok]

theorem State.downTree_ok {s : State} {f : Frame} (h0 : s.Ok q σ) : (State.downTree s f).Ok q σ := by
  unfold State.downTree
  repeat' split
  all_goals simp_all +contextual (maxDischargeDepth := 99) only [okFoldl, implies_true, State.sendLocal_ok]

theorem State.rootActivate_ok {s : State} (h0 : s.Ok q σ) : (State.rootActivate s).Ok q σ := by
  unfold State.rootActivate
  repeat' split
  all_goals simp_all +contextual (maxDischargeDepth := 99) only [okMk, okFold, State.activate_ok, State.downTree_ok]

theorem State.rspParity_ok {s : State} {r : MxReq} (h0 : s.Ok q σ) : (State.rspParity s r).2.Ok q σ := by
  unfold State.rspParity
  repeat' split
  all_goals simp_all +contextual (maxDischargeDepth := 99) only [okFoldl, implies_true, State.raiseBy_ok]

theorem State.enqueue_ok {s : State} {ak : Nat} {vc : Nat} {fs : List Flit} (h0 : s.Ok q σ) :
    (State.enqueue s ak vc fs).Ok q σ := by
  unfold State.enqueue
  repeat' split
  all_goals simp_all +contextual (maxDischargeDepth := 99) only [okMk, okFold]

theorem State.setTokens_ok {s : State} {ak : Nat} {n : Int} (h0 : s.Ok q σ) : (State.setTokens s ak n).Ok q σ := by
  unfold State.setTokens
  repeat' split
  all_goals simp_all +contextual (maxDischargeDepth := 99) only [okMk, okFold]

theorem State.nocBump_ok {s : State} {p : Nat} {f : Fld} {n : Nat} (h0 : s.Ok q σ) :
    (State.nocBump s p f n).Ok q σ := by
  unfold State.nocBump
  repeat' split
  all_goals simp_all +contextual (maxDischargeDepth := 99) only [State.bump_ok]

theorem State.payOffers_ok {s : State} {ak n : Nat} (h : s.Ok q σ) : (s.payOffers ak n).Ok q σ := by
  induction n generalizing s with
  | zero => exact h
  | succ n ih =>
    have k : ∀ (c : Prop) [Decidable c] (a b : State), a.Ok q σ → b.Ok q σ → (if c then a else b).Ok q σ :=
      fun c _ a b ha hb => okIte (fun _ => ha) (fun _ => hb)
    rw [State.payOffers]
    split
    · exact h
    · refine okIte (fun _ => h) (fun _ => ih (State.enqueue_ok (State.setTokens_ok (k _ _ _ ?_ ?_))))
      · simp only [okMk, okFold]; exact State.nocBump_ok (by simp only [okMk, okFold]; exact h)
      · exact State.nocBump_ok (by simp only [okMk, okFold]; exact h)

theorem State.offer_ok {s : State} {ak : Nat} {vc : Nat} {fs : List Flit} (h0 : s.Ok q σ) :
    (State.offer s ak vc fs).Ok q σ := by
  unfold State.offer
  repeat' split
  all_goals simp_all +contextual (maxDischargeDepth := 99) only [okMk, okFold, State.enqueue_ok, State.payOffers_ok]

theorem State.reply_ok {s : State} {r : Nat} {agent : Nat} {w0 : Nat} {w1 : Nat} {status : Nat} {data : List Nat}
    (h0 : s.Ok q σ) : (State.reply s r agent w0 w1 status data).Ok q σ := by
  unfold State.reply
  repeat' split
  all_goals simp_all +contextual (maxDischargeDepth := 99) only [okIte, implies_true, State.offer_ok]

theorem State.answerPacket_ok {s : State} {r : Nat} {ag : Nat} {w0 : Nat} {w1 : Nat} {a5 : Option Resp}
    (h0 : s.Ok q σ) : (State.answerPacket s r ag w0 w1 a5).Ok q σ := by
  unfold State.answerPacket
  repeat' split
  all_goals simp_all +contextual (maxDischargeDepth := 99) only [State.reply_ok]

theorem State.send_ok {s : State} {kind : String} {dest : Nat} {words : List Nat} (h0 : s.Ok q σ) :
    (State.send s kind dest words).Ok q σ := by
  unfold State.send
  repeat' split
  all_goals simp_all +contextual (maxDischargeDepth := 99) only [okMk, okFold]

theorem State.wkSend_ok {s : State} {width : Nat} {ack : Nat} {ws : List Nat} (h0 : s.Ok q σ) :
    (State.wkSend s width ack ws).Ok q σ := by
  unfold State.wkSend
  repeat' split
  all_goals simp_all +contextual (maxDischargeDepth := 99) only [okMk, okFold, State.send_ok]

theorem State.wkFinish_ok {s : State} {r : MxReq} {a2 : Option Resp} (h0 : s.Ok q σ) :
    (State.wkFinish s r a2).Ok q σ := by
  unfold State.wkFinish
  repeat' split
  all_goals simp_all +contextual (maxDischargeDepth := 99) only [okMk, okFold, State.wkSend_ok]

theorem State.mxFinish_ok {s : State} {r : MxReq} {a2 : Option Resp} (h0 : s.Ok q σ) :
    (State.mxFinish s r a2).Ok q σ := by
  unfold State.mxFinish
  repeat' split
  all_goals simp_all +contextual (maxDischargeDepth := 99) only [State.answerPacket_ok, State.wkFinish_ok]

theorem State.whbSend_ok {s : State} {kind : Nat} {slId : Nat} {op : Nat} {sub : Nat} {p : List Byte}
    (h0 : s.Ok q σ) : (State.whbSend s kind slId op sub p).Ok q σ := by
  unfold State.whbSend
  repeat' split
  all_goals simp_all +contextual (maxDischargeDepth := 99) only [okMk, okFold, State.setFld_ok, State.incr_ok,
      State.send_ok]

theorem State.mirrorRead_ok {s : State} (h0 : s.Ok q σ) : (State.mirrorRead s).Ok q σ := by
  unfold State.mirrorRead
  repeat' split
  all_goals simp_all +contextual (maxDischargeDepth := 99) only [okMk, okFold, State.whbSend_ok]

theorem State.setRunFlag_ok {s : State} {a1 : Nat} {b : Nat} (h0 : s.Ok q σ) : (State.setRunFlag s a1 b).Ok q σ := by
  unfold State.setRunFlag
  repeat' split
  all_goals simp_all +contextual (maxDischargeDepth := 99) only [State.setFld_ok]

theorem State.wicketMark_ok {s : State} {a : Acc} {mine : Nat → Bool} (h0 : s.Ok q σ) :
    (State.wicketMark s a mine).Ok q σ := by
  unfold State.wicketMark
  repeat' split
  all_goals simp_all +contextual (maxDischargeDepth := 99) only [okIte, okFoldl, implies_true, State.setRunFlag_ok]

theorem State.drew_ok {s : State} {n : Nat} (h0 : s.Ok q σ) : (State.drew s n).Ok q σ := by
  unfold State.drew
  repeat' split
  all_goals simp_all +contextual (maxDischargeDepth := 99) only [okMk, okFold]

theorem State.dramFetch_ok {s : State} {a : Nat} {n : Nat} (h0 : s.Ok q σ) : (State.dramFetch s a n).2.2.Ok q σ := by
  unfold State.dramFetch
  repeat' split
  all_goals simp_all +contextual (maxDischargeDepth := 99) only [okFoldl, implies_true, State.raise_ok, State.drew_ok]

theorem State.dramAccess_ok {s : State} {a : Acc} {addr : Nat} {l : Nat} {n : Nat} {write : Bool} {data : List Byte}
    (h0 : s.Ok q σ) : (State.dramAccess s a addr l n write data).Ok q σ := by
  unfold State.dramAccess
  repeat' split
  all_goals simp_all +contextual (maxDischargeDepth := 99) only [okMk, okFold, State.decodeError_ok, State.denial_ok,
      State.answer_ok, State.wicketMark_ok, State.dramStore_ok, State.dramFetch_ok]

theorem State.sramMark_ok {s : State} {a : Acc} {t : Nat} (h0 : s.Ok q σ) : (State.sramMark s a t).Ok q σ := by
  unfold State.sramMark
  repeat' split
  all_goals simp_all +contextual (maxDischargeDepth := 99) only [okIte, implies_true, State.setRunFlag_ok,
      State.bump_ok]

theorem State.setTl_ok {s : State} {t : Nat} {x : TileSt} (h : s.Ok q σ) (hx : Tab.wf (0 : Byte) x.sram = true) :
    (s.setTl t x).Ok q σ := by
  unfold State.setTl; rw [okMk]
  refine ⟨h.1, h.2, h.3, h.4, h.5, h.6, h.7, ?_, h.9, h.10, h.11⟩
  have h9 := h.tile
  simp only [tilesWf, Bool.and_eq_true] at h9 ⊢
  refine ⟨Tab.wf_set _ _ _ _ h9.1, ?_⟩
  unfold Tab.set; split
  · exact Tab.all_erase _ _ _ h9.2
  · exact Tab.all_insert _ _ _ _ hx h9.2

theorem State.sramPut_ok {s : State} {a : Acc} {o : Nat} {bs : List Byte} (h : s.Ok q σ) :
    (s.sramPut a o bs).Ok q σ := by
  induction bs generalizing s o with
  | nil => exact h
  | cons b bs ih =>
    rw [State.sramPut]
    exact ih (okIte (fun _ => State.setTl_ok h (TileSt.put_wf _ _ _ (State.tl_wf h _))) (fun _ => h))

theorem State.sramAccess_ok {s : State} {i : Instr} {a : Acc} {off : Nat} {n : Nat} {write : Bool}
    {data : List Byte} (h0 : s.Ok q σ) : (State.sramAccess s i a off n write data).Ok q σ := by
  unfold State.sramAccess
  repeat' split
  all_goals simp_all +contextual (maxDischargeDepth := 99) only [okMk, okFold, okIte, okFoldl, implies_true,
      State.decodeError_ok, State.denial_ok, State.sramMark_ok, State.sramPut_ok, State.answer_ok]

theorem State.errClr_ok {s : State} {p : Nat} (h0 : s.Ok q σ) : (State.errClr s p).Ok q σ := by
  unfold State.errClr
  repeat' split
  all_goals simp_all +contextual (maxDischargeDepth := 99) only [State.setFld_ok]

theorem State.setRx_ok {s : State} {m : Nat} {a2 : RxSt} (h0 : s.Ok q σ) : (State.setRx s m a2).Ok q σ := by
  unfold State.setRx
  repeat' split
  all_goals simp_all +contextual (maxDischargeDepth := 99) only [okMk, okFold, State.setFld_ok]

theorem State.condition_ok {s : State} {p : Nat} {e : Ev} {holds : Bool} (h : s.Ok q σ) :
    (s.condition p e holds).Ok q σ := by
  have := Tab.rises_set 0 s.live p (putBit (s.liveMask p) e.bit holds) h.live
  have k : State.Ok q σ { s with live := Tab.set 0 s.live p (putBit (s.liveMask p) e.bit holds) } := by
    rw [okMk]; exact ⟨h.1, h.2, h.3, h.4, this, h.6, h.7, h.8, h.9, h.10, h.11⟩
  unfold State.condition; exact okIte (fun _ => State.raise_ok k) (fun _ => k)

theorem State.setMo_ok {s : State} {n : Nat} {a2 : MotorSt} (h0 : s.Ok q σ) : (State.setMo s n a2).Ok q σ := by
  unfold State.setMo
  repeat' split
  all_goals simp_all +contextual (maxDischargeDepth := 99) only [okMk, okFold]

theorem State.modMo_ok {s : State} {n : Nat} {f : MotorSt → MotorSt} (h0 : s.Ok q σ) :
    (State.modMo s n f).Ok q σ := by
  unfold State.modMo
  repeat' split
  all_goals simp_all +contextual (maxDischargeDepth := 99) only [State.setMo_ok]

theorem State.setGt_ok {s : State} {n : Nat} {a2 : GateSt} (h0 : s.Ok q σ) : (State.setGt s n a2).Ok q σ := by
  unfold State.setGt
  repeat' split
  all_goals simp_all +contextual (maxDischargeDepth := 99) only [okMk, okFold, State.setFld_ok]

theorem State.modGt_ok {s : State} {n : Nat} {f : GateSt → GateSt} (h0 : s.Ok q σ) : (State.modGt s n f).Ok q σ := by
  unfold State.modGt
  repeat' split
  all_goals simp_all +contextual (maxDischargeDepth := 99) only [State.setGt_ok]

theorem State.gatesOff_ok {s : State} {n : Nat} (h0 : s.Ok q σ) : (State.gatesOff s n).Ok q σ := by
  unfold State.gatesOff
  repeat' split
  all_goals simp_all +contextual (maxDischargeDepth := 99) only [State.modGt_ok]

theorem State.setMotorState_ok {s : State} {n : Nat} {v : Nat} (h0 : s.Ok q σ) :
    (State.setMotorState s n v).Ok q σ := by
  unfold State.setMotorState
  repeat' split
  all_goals simp_all +contextual (maxDischargeDepth := 99) only [State.setFld_ok, State.modMo_ok]

theorem State.motorOff_ok {s : State} {n : Nat} (h0 : s.Ok q σ) : (State.motorOff s n).Ok q σ := by
  unfold State.motorOff
  repeat' split
  all_goals simp_all +contextual (maxDischargeDepth := 99) only [State.condition_ok, State.modMo_ok,
      State.gatesOff_ok, State.setMotorState_ok]

theorem State.setPw_ok {s : State} {n : Nat} {a2 : PwmSt} (h0 : s.Ok q σ) : (State.setPw s n a2).Ok q σ := by
  unfold State.setPw
  repeat' split
  all_goals simp_all +contextual (maxDischargeDepth := 99) only [okMk, okFold]

theorem State.alignPwm_ok {s : State} {n : Nat} (h0 : s.Ok q σ) : (State.alignPwm s n).Ok q σ := by
  unfold State.alignPwm
  repeat' split
  all_goals simp_all +contextual (maxDischargeDepth := 99) only [State.setPw_ok]

theorem State.motorFault_ok {s : State} {n : Nat} (h0 : s.Ok q σ) : (State.motorFault s n).Ok q σ := by
  unfold State.motorFault
  repeat' split
  all_goals simp_all +contextual (maxDischargeDepth := 99) only [State.modGt_ok, State.gatesOff_ok,
      State.setMotorState_ok]

theorem State.tripLatch_ok {s : State} {n : Nat} (h0 : s.Ok q σ) : (State.tripLatch s n).Ok q σ := by
  unfold State.tripLatch
  repeat' split
  all_goals simp_all +contextual (maxDischargeDepth := 99) only [State.motorFault_ok, State.raise_ok, State.setFld_ok]

theorem State.tripAct_ok {s : State} {n : Nat} (h0 : s.Ok q σ) : (State.tripAct s n).Ok q σ := by
  unfold State.tripAct
  repeat' split
  all_goals simp_all +contextual (maxDischargeDepth := 99) only [State.tripLatch_ok, State.modGt_ok, State.raise_ok,
      State.bump_ok]

theorem State.restartWait_ok {s : State} {k : Nat} (h0 : s.Ok q σ) : (State.restartWait s k).Ok q σ := by
  unfold State.restartWait
  repeat' split
  all_goals simp_all +contextual (maxDischargeDepth := 99) only [State.setPort_ok]

theorem State.showPorts_ok {s : State} (h0 : s.Ok q σ) : (State.showPorts s).Ok q σ := by
  unfold State.showPorts
  repeat' split
  all_goals simp_all +contextual (maxDischargeDepth := 99) only [State.setFld_ok]

theorem State.setLink_ok {s : State} {k : Nat} {n : Nat} (h0 : s.Ok q σ) : (State.setLink s k n).Ok q σ := by
  unfold State.setLink
  repeat' split
  all_goals simp_all +contextual (maxDischargeDepth := 99) only [State.restartWait_ok, State.showPorts_ok,
      State.setFld_ok]

theorem State.candUnlocked_ok {s : State} {k : Nat} (h0 : s.Ok q σ) : (State.candUnlocked s k).Ok q σ := by
  unfold State.candUnlocked
  repeat' split
  all_goals simp_all +contextual (maxDischargeDepth := 99) only [State.setFld_ok]

theorem State.unroutable_ok {s : State} {hh : Nat} (h0 : s.Ok q σ) : (State.unroutable s hh).Ok q σ := by
  unfold State.unroutable
  repeat' split
  all_goals simp_all +contextual (maxDischargeDepth := 99) only [State.bump_ok, State.raiseBy_ok]

theorem State.toPort_ok {s : State} {k : Nat} {from_ : Nat} {place : Option Nat} {f : Frame} {down : Bool}
    (h0 : s.Ok q σ) : (State.toPort s k from_ place f down).Ok q σ := by
  unfold State.toPort
  repeat' split
  all_goals simp_all +contextual (maxDischargeDepth := 99) only [State.queueFrame_ok, State.unroutable_ok]

theorem State.reroute_ok {s : State} {copy : Bool} {a2 : TxFrame} (h0 : s.Ok q σ) :
    (State.reroute s copy a2).Ok q σ := by
  unfold State.reroute
  repeat' split
  all_goals simp_all +contextual (maxDischargeDepth := 99) only [okIte, implies_true, State.unroutable_ok,
      State.toPort_ok]

theorem State.constShow_ok {s : State} (h0 : s.Ok q σ) : (State.constShow s).Ok q σ := by
  unfold State.constShow
  repeat' split
  all_goals simp_all +contextual (maxDischargeDepth := 99) only [State.setFld_ok, State.condition_ok]

theorem State.setCState_ok {s : State} {n : Nat} (h0 : s.Ok q σ) : (State.setCState s n).Ok q σ := by
  unfold State.setCState
  repeat' split
  all_goals simp_all +contextual (maxDischargeDepth := 99) only [okMk, okFold, State.constShow_ok, State.setFld_ok]

theorem State.constLost_ok {s : State} (h0 : s.Ok q σ) : (State.constLost s).Ok q σ := by
  unfold State.constLost
  repeat' split
  all_goals simp_all +contextual (maxDischargeDepth := 99) only [State.raise_ok, State.setCState_ok]

theorem State.voidExchange_ok {s : State} (h0 : s.Ok q σ) : (State.voidExchange s).Ok q σ := by
  unfold State.voidExchange
  repeat' split
  all_goals simp_all +contextual (maxDischargeDepth := 99) only [okMk, okFold]

theorem State.noteHold_ok {s : State} (h0 : s.Ok q σ) : (State.noteHold s).Ok q σ := by
  unfold State.noteHold
  repeat' split
  all_goals simp_all +contextual (maxDischargeDepth := 99) only [okMk, okFold]

theorem State.setPair_ok {s : State} {p : Nat} {lo : Fld} {hi : Fld} {v : Nat} (h0 : s.Ok q σ) :
    (State.setPair s p lo hi v).Ok q σ := by
  unfold State.setPair
  repeat' split
  all_goals simp_all +contextual (maxDischargeDepth := 99) only [State.setFld_ok]

theorem State.takeChoice_ok {s : State} {c : Option Choice} (h0 : s.Ok q σ) : (State.takeChoice s c).Ok q σ := by
  unfold State.takeChoice
  repeat' split
  all_goals simp_all +contextual (maxDischargeDepth := 99) only [okMk, okFold, State.showTree_ok, State.setFld_ok,
      State.setPair_ok]

theorem State.setNum_ok {s : State} {valid : Bool} {n : Nat} (h0 : s.Ok q σ) : (State.setNum s valid n).Ok q σ := by
  unfold State.setNum
  repeat' split
  all_goals simp_all +contextual (maxDischargeDepth := 99) only [State.setFld_ok]

theorem State.join_ok {s : State} (h0 : s.Ok q σ) : (State.join s).Ok q σ := by
  unfold State.join
  repeat' split
  all_goals simp_all +contextual (maxDischargeDepth := 99) only [okMk, okFold, State.sendLocal_ok]

theorem State.announce_ok {s : State} (h0 : s.Ok q σ) : (State.announce s).Ok q σ := by
  unfold State.announce
  repeat' split
  all_goals simp_all +contextual (maxDischargeDepth := 99) only [okFoldl, implies_true, State.sendLocal_ok]

theorem State.setAlm_ok {s : State} {k : Nat} {e : AlmEntry} (h : s.Ok q σ) : (s.setAlm k e).Ok q σ := by
  unfold State.setAlm; rw [okMk]; exact ⟨h.1, h.2, h.3, h.4, h.5, Tab.rises_set _ _ _ _ h.alm, h.7, h.8, h.9, h.10,
      h.11⟩

theorem State.almArm_ok {s : State} {hh : Nat} {k : Nat} (h0 : s.Ok q σ) : (State.almArm s hh k).Ok q σ := by
  unfold State.almArm
  repeat' split
  all_goals simp_all +contextual (maxDischargeDepth := 99) only [okIte, implies_true, State.raiseBy_ok,
      State.setAlm_ok]

theorem State.armEngine_ok {s : State} {target : Nat} (h0 : s.Ok q σ) : (State.armEngine s target).Ok q σ := by
  unfold State.armEngine
  repeat' split
  all_goals simp_all +contextual (maxDischargeDepth := 99) only [State.almArm_ok, State.setAlm_ok]

theorem State.constTakeRoot_ok {s : State} (h0 : s.Ok q σ) : (State.constTakeRoot s).Ok q σ := by
  unfold State.constTakeRoot
  repeat' split
  all_goals simp_all +contextual (maxDischargeDepth := 99) only [okMk, okFold, okIte, implies_true,
      State.setCState_ok, State.raise_ok, State.armEngine_ok]

theorem State.constWait_ok {s : State} (h0 : s.Ok q σ) : (State.constWait s).Ok q σ := by
  unfold State.constWait
  repeat' split
  all_goals simp_all +contextual (maxDischargeDepth := 99) only [State.setCState_ok, State.setFld_ok]

theorem State.constFollow_ok {s : State} {oldPort : Nat} (h0 : s.Ok q σ) : (State.constFollow s oldPort).Ok q σ := by
  unfold State.constFollow
  repeat' split
  all_goals simp_all +contextual (maxDischargeDepth := 99) only [State.constShow_ok, State.constTakeRoot_ok,
      State.constWait_ok, State.setCState_ok, State.constLost_ok]

theorem State.elect_ok {s : State} {claim : Bool} (h0 : s.Ok q σ) : (State.elect s claim).Ok q σ := by
  unfold State.elect
  repeat' split
  all_goals (try dsimp only)
  repeat' split
  all_goals simp_all +contextual (maxDischargeDepth := 99) only [okMk, okFold, State.noteHold_ok, State.raise_ok,
      State.takeChoice_ok, State.setNum_ok, State.join_ok, State.announce_ok, State.constFollow_ok, State.setFld_ok,
      State.constShow_ok]
  all_goals (repeat' split)
  all_goals simp_all +contextual (maxDischargeDepth := 99) only [State.tl_wf (q := q) (σ := σ), TileSt.put_wf,
      Tab.wf_keep, TileSt.reset_wf, okMk, okFold, okIte, okFoldl, okNext, okIteOut, okSome, okNone, implies_true,
      State.noteHold_ok, State.raise_ok, State.takeChoice_ok, State.setNum_ok, State.join_ok, State.announce_ok,
      State.constFollow_ok, State.setFld_ok, State.constShow_ok]

theorem State.freePlace_ok {s : State} {n : Nat} (h0 : s.Ok q σ) : (State.freePlace s n).Ok q σ := by
  unfold State.freePlace
  repeat' split
  all_goals simp_all +contextual (maxDischargeDepth := 99) only [okMk, okFold, State.setPort_ok]

theorem State.freeUnused_ok {s : State} (h0 : s.Ok q σ) : (State.freeUnused s).Ok q σ := by
  unfold State.freeUnused
  repeat' split
  all_goals simp_all +contextual (maxDischargeDepth := 99) only [okFoldl, implies_true, State.freePlace_ok]

theorem State.neighboursChanged_ok {s : State} (h0 : s.Ok q σ) : (State.neighboursChanged s).Ok q σ := by
  unfold State.neighboursChanged
  repeat' split
  all_goals simp_all +contextual (maxDischargeDepth := 99) only [okMk, okFold, State.join_ok]

theorem State.linkDown_ok {s : State} {k : Nat} (h : s.Ok q σ) : (s.linkDown k).Ok q σ := by
  unfold State.linkDown
  have k1 := State.raise_ok (p := pFab) (e := FAB.evTOPO_CHANGE)
      (State.raise_ok (p := pFabp k) (e := FABP.evLINK_DOWN)
    (State.candUnlocked_ok (k := k) (State.setFld_ok (p := pFabp k) (f := FABP.LINK_STATUS_BLOCK_LOCK) (v := 0)
      (State.bump_ok (p := pFabp k) (f := FABP.LOST_FRAMES_LOST)
        (n := (s.port k).unacked.length + ((s.port k).txq.filter (fun x => x.frame.lcl)).length)
        (State.setLink_ok (k := k) (n := 5) (State.setPort_ok (k := k) (a2 := PortSt.reset) h))))))
  dsimp only
  have k4 : ∀ l x, x.Ok q σ → (List.foldl (fun (t : State) y => t.reroute (s.childPorts.contains k) y) x l).Ok q σ :=
    fun l x hx => okFoldl (fun t x ht => State.reroute_ok ht) hx
  have k5 : ∀ c : Prop, [Decidable c] → ∀ x : State, x.Ok q σ → (if c then x.voidExchange.constLost else x).Ok q σ :=
    fun c _ x hx => okIte (fun _ => State.constLost_ok (State.voidExchange_ok hx)) (fun _ => hx)
  refine State.freeUnused_ok (okIte (fun _ => State.neighboursChanged_ok ?_) (fun _ => ?_))
  all_goals exact State.elect_ok (State.showTree_ok (k5 _ _ (k4 _ _ (okSame k1))))

theorem State.fabpEnable_ok {s : State} {k : Nat} (h0 : s.Ok q σ) : (State.fabpEnable s k).Ok q σ := by
  unfold State.fabpEnable
  repeat' split
  all_goals simp_all +contextual (maxDischargeDepth := 99) only [State.setLink_ok, State.linkDown_ok]

theorem State.discEnable_ok {s : State} (h0 : s.Ok q σ) : (State.discEnable s).Ok q σ := by
  unfold State.discEnable
  repeat' split
  all_goals simp_all +contextual (maxDischargeDepth := 99) only [okMk, okFold, State.elect_ok, State.setFld_ok,
      State.takeChoice_ok, State.showTree_ok, State.setNum_ok]

theorem State.constEnable_ok {s : State} (h0 : s.Ok q σ) : (State.constEnable s).Ok q σ := by
  unfold State.constEnable
  repeat' split
  all_goals simp_all +contextual (maxDischargeDepth := 99) only [okMk, okFold, State.setCState_ok,
      State.constTakeRoot_ok, State.constWait_ok, State.constShow_ok]

theorem State.blockEnable_ok {s : State} {p : Nat} (h0 : s.Ok q σ) : (State.blockEnable s p).Ok q σ := by
  unfold State.blockEnable
  repeat' split
  all_goals simp_all +contextual (maxDischargeDepth := 99) only [okIte, implies_true, State.setRx_ok,
      State.motorOff_ok, State.setPw_ok, State.gatesOff_ok, State.alignPwm_ok, State.tripAct_ok, State.fabpEnable_ok,
      State.constFollow_ok, State.discEnable_ok, State.constEnable_ok]

theorem State.setEnable_ok {s : State} {p : Nat} {en : Bool} (h0 : s.Ok q σ) : (State.setEnable s p en).Ok q σ := by
  unfold State.setEnable
  repeat' split
  all_goals simp_all +contextual (maxDischargeDepth := 99) only [State.blockEnable_ok, State.setFld_ok]

theorem State.calmPage_ok {s : State} {p m : Nat} (h : s.Ok q σ) : (s.calmPage p m).Ok q σ := by
  have := Tab.rises_set 0 s.live p (s.liveMask p &&& m) h.live
  refine State.setFld_ok ?_; rw [okMk]; exact ⟨h.1, h.2, h.3, h.4, this, h.6, h.7, h.8, h.9, h.10, h.11⟩

theorem State.clearFields_ok {s : State} {p lo hi : Nat} {keep : Fld → Bool} (h : s.Ok q σ) :
    (s.clearFields p lo hi keep).Ok q σ := by
  unfold State.clearFields; rw [okMk]
  exact ⟨h.1, h.2, Tab.rises_keep _ _ h.regs, Tab.rises_keep _ _ h.shadows, h.5, h.6, h.7, h.8, h.9, h.10, h.11⟩

theorem State.setEph_ok {s : State} {e : Ephem} (h0 : s.Ok q σ) : (State.setEph s e).Ok q σ := by
  unfold State.setEph
  repeat' split
  all_goals simp_all +contextual (maxDischargeDepth := 99) only [okMk, okFold]

theorem State.blockRest_ok {s : State} {p : Nat} (h0 : s.Ok q σ) : (State.blockRest s p).Ok q σ := by
  unfold State.blockRest
  repeat' split
  all_goals simp_all +contextual (maxDischargeDepth := 99) only [okMk, okFold, State.setEph_ok, State.setRx_ok,
      State.modMo_ok, State.gatesOff_ok, State.setPw_ok, State.setGt_ok, State.linkDown_ok, State.setPort_ok,
      State.constLost_ok, State.voidExchange_ok, State.setNum_ok]

theorem State.dropShadows_ok {s : State} {p : Nat} (h : s.Ok q σ) : (s.dropShadows p).Ok q σ := by
  have := Tab.rises_filter (fun e => e.1 / 32768 != p) s.shadows 0 h.shadows
  unfold State.dropShadows; rw [okMk]; exact ⟨h.1, h.2, h.3, this, h.5, h.6, h.7, h.8, h.9, h.10, h.11⟩

theorem State.softReset_ok {s : State} {p : Nat} (h0 : s.Ok q σ) : (State.softReset s p).Ok q σ := by
  unfold State.softReset
  repeat' split
  all_goals simp_all +contextual (maxDischargeDepth := 99) only [okMk, okFold, okIte, implies_true,
      State.calmPage_ok, State.clearFields_ok, State.blockRest_ok, State.dropShadows_ok, State.blockEnable_ok]

theorem State.pageCtrl_ok {s : State} {p : Nat} {w : Nat} (h0 : s.Ok q σ) : (State.pageCtrl s p w).Ok q σ := by
  unfold State.pageCtrl
  repeat' split
  all_goals simp_all +contextual (maxDischargeDepth := 99) only [State.errClr_ok, State.setEnable_ok,
      State.softReset_ok]

theorem State.evtEnable_ok {s : State} {p : Nat} {w : Nat} (h0 : s.Ok q σ) : (State.evtEnable s p w).Ok q σ := by
  unfold State.evtEnable
  repeat' split
  all_goals simp_all +contextual (maxDischargeDepth := 99) only [State.setFld_ok, State.orFld_ok]

theorem State.pendClear_ok {s : State} {p : Nat} {m : Nat} (h0 : s.Ok q σ) : (State.pendClear s p m).Ok q σ := by
  unfold State.pendClear
  repeat' split
  all_goals simp_all +contextual (maxDischargeDepth := 99) only [State.clrFld_ok]

theorem State.evtForce_ok {s : State} {p : Nat} {w : Nat} (h0 : s.Ok q σ) : (State.evtForce s p w).Ok q σ := by
  unfold State.evtForce
  repeat' split
  all_goals simp_all +contextual (maxDischargeDepth := 99) only [okFoldl, implies_true, State.occur_ok]

theorem State.lockPage_ok {s : State} {p : Nat} (h0 : s.Ok q σ) : (State.lockPage s p).Ok q σ := by
  unfold State.lockPage
  repeat' split
  all_goals simp_all +contextual (maxDischargeDepth := 99) only [State.setFld_ok]

theorem State.tileState_ok {s : State} {t : Nat} {v : Nat} (h0 : s.Ok q σ) : (State.tileState s t v).Ok q σ := by
  unfold State.tileState
  repeat' split
  all_goals simp_all +contextual (maxDischargeDepth := 99) only [State.setFld_ok]

theorem State.popReply_ok {s : State} {nw : Nat} {d0 : Nat} {mask : Nat} {ws : List QWord} (h0 : s.Ok q σ) :
    (State.popReply s nw d0 mask ws).Ok q σ := by
  unfold State.popReply
  repeat' split
  all_goals simp_all +contextual (maxDischargeDepth := 99) only [okMk, okFold]

theorem State.releaseHeld_ok {s : State} {n : Nat} {nw : Nat} (h0 : s.Ok q σ) :
    (State.releaseHeld s n nw).Ok q σ := by
  unfold State.releaseHeld
  repeat' split
  all_goals simp_all +contextual (maxDischargeDepth := 99) only [State.popReply_ok, State.qTouch_ok, State.setQ_ok]

theorem State.provEnd_ok {s : State} {a1 : Nat} (h0 : s.Ok q σ) : (State.provEnd s a1).Ok q σ := by
  unfold State.provEnd
  repeat' split
  all_goals simp_all +contextual (maxDischargeDepth := 99) only [State.setFld_ok, State.setPv_ok]

theorem State.endRun_ok {s : State} {a1 : Nat} {r : RunSt} {slotSt : Nat} {code : Nat} {tile : Option Nat}
    (h0 : s.Ok q σ) : (State.endRun s a1 r slotSt code tile).Ok q σ := by
  unfold State.endRun
  repeat' split
  all_goals simp_all +contextual (maxDischargeDepth := 99) only [State.tl_wf (q := q) (σ := σ), okMk, okFold, okIte,
      okFoldl, implies_true, State.setTl_ok, State.tileState_ok, State.releaseHeld_ok, State.setFld_ok,
      State.provEnd_ok]

theorem State.clearRegs_ok {s : State} {p lo hi : Nat} (h : s.Ok q σ) : (s.clearRegs p lo hi).Ok q σ := by
  unfold State.clearRegs; rw [okMk]; exact ⟨h.1, h.2, Tab.rises_keep _ _ h.regs, h.4, h.5, h.6, h.7, h.8, h.9, h.10,
      h.11⟩

theorem State.abortRun_ok {s : State} {a1 : Nat} {r : RunSt} {cause : Nat} (h0 : s.Ok q σ) :
    (State.abortRun s a1 r cause).Ok q σ := by
  unfold State.abortRun
  repeat' split
  all_goals simp_all +contextual (maxDischargeDepth := 99) only [State.raiseBy_ok, State.endRun_ok,
      State.clearRegs_ok]

theorem State.tileLost_ok {s : State} {a1 : Nat} (h0 : s.Ok q σ) : (State.tileLost s a1).Ok q σ := by
  unfold State.tileLost
  repeat' split
  all_goals simp_all +contextual (maxDischargeDepth := 99) only [okMk, okFold, okIte, okFoldl, implies_true,
      State.setFld_ok, State.abortRun_ok]

theorem State.setOwner_ok {s : State} {p : Nat} {v : Nat} (h0 : s.Ok q σ) : (State.setOwner s p v).Ok q σ := by
  unfold State.setOwner
  repeat' split
  all_goals simp_all +contextual (maxDischargeDepth := 99) only [okFoldl, implies_true, State.tileLost_ok,
      State.setFld_ok]

theorem State.applyMotor_ok {s : State} {n : Nat} (h0 : s.Ok q σ) : (State.applyMotor s n).Ok q σ := by
  unfold State.applyMotor
  repeat' split
  all_goals simp_all +contextual (maxDischargeDepth := 99) only [okIte, implies_true, State.applyShadows_ok,
      State.setFld_ok]

theorem State.setSched_ok {s : State} {f : SchedF} {a2 : SchedSt} (h0 : s.Ok q σ) :
    (State.setSched s f a2).Ok q σ := by
  unfold State.setSched
  repeat' split
  all_goals simp_all +contextual (maxDischargeDepth := 99) only [okMk, okFold]

theorem State.rollWindow_ok {s : State} {k : Nat} (h0 : s.Ok q σ) : (State.rollWindow s k).Ok q σ := by
  unfold State.rollWindow
  repeat' split
  all_goals simp_all +contextual (maxDischargeDepth := 99) only [okIte, implies_true, State.setFld_ok,
      State.setSched_ok]

theorem State.closeOn_ok {s : State} {k : Nat} (h0 : s.Ok q σ) : (State.closeOn s k).Ok q σ := by
  unfold State.closeOn
  repeat' split
  all_goals simp_all +contextual (maxDischargeDepth := 99) only [State.rollWindow_ok, State.setSched_ok,
      State.bump_ok]

theorem State.stopPulse_ok {s : State} {k : Nat} (h0 : s.Ok q σ) : (State.stopPulse s k).Ok q σ := by
  unfold State.stopPulse
  repeat' split
  all_goals simp_all +contextual (maxDischargeDepth := 99) only [State.closeOn_ok, State.setSched_ok]

theorem State.dutyCut_ok {s : State} {k : Nat} (h0 : s.Ok q σ) : (State.dutyCut s k).Ok q σ := by
  unfold State.dutyCut
  repeat' split
  all_goals simp_all +contextual (maxDischargeDepth := 99) only [State.stopPulse_ok, State.raise_ok, State.orFld_ok,
      State.setSched_ok]

theorem State.dutyTest_ok {s : State} {f : SchedF} (h0 : s.Ok q σ) : (State.dutyTest s f).Ok q σ := by
  unfold State.dutyTest
  repeat' split
  all_goals simp_all +contextual (maxDischargeDepth := 99) only [okIte, implies_true, State.rollWindow_ok,
      State.dutyCut_ok]

theorem State.setNext_ok {s : State} {f : SchedF} {v : Int} (h0 : s.Ok q σ) : (State.setNext s f v).Ok q σ := by
  unfold State.setNext
  repeat' split
  all_goals simp_all +contextual (maxDischargeDepth := 99) only [State.setPair_ok]

theorem State.advance_ok {s : State} {f : SchedF} {n : Nat} (h0 : s.Ok q σ) : (State.advance s f n).Ok q σ := by
  unfold State.advance
  repeat' split
  all_goals simp_all +contextual (maxDischargeDepth := 99) only [okIte, implies_true, State.setNext_ok]

theorem State.raiseN_ok {s : State} {p : Nat} {e : Ev} {n : Nat} (h0 : s.Ok q σ) : (State.raiseN s p e n).Ok q σ := by
  unfold State.raiseN
  repeat' split
  all_goals simp_all +contextual (maxDischargeDepth := 99) only [State.raise_ok, State.bump_ok]

theorem State.disarm_ok {s : State} {f : SchedF} (h0 : s.Ok q σ) : (State.disarm s f).Ok q σ := by
  unfold State.disarm
  repeat' split
  all_goals simp_all +contextual (maxDischargeDepth := 99) only [State.setSched_ok, State.clrFld_ok]

theorem State.overrun_ok {s : State} {f : SchedF} {n : Nat} (h0 : s.Ok q σ) : (State.overrun s f n).Ok q σ := by
  unfold State.overrun
  repeat' split
  all_goals simp_all +contextual (maxDischargeDepth := 99) only [State.orFld_ok, State.bump_ok, State.advance_ok,
      State.raiseN_ok, State.disarm_ok]

theorem State.startPulse_ok {s : State} {f : SchedF} (h0 : s.Ok q σ) : (State.startPulse s f).Ok q σ := by
  unfold State.startPulse
  repeat' split
  all_goals simp_all +contextual (maxDischargeDepth := 99) only [State.closeOn_ok, State.setSched_ok]

theorem State.linkStrobes_ok {s : State} {k : Nat} (h0 : s.Ok q σ) : (State.linkStrobes s k).Ok q σ := by
  unfold State.linkStrobes
  repeat' split
  all_goals simp_all +contextual (maxDischargeDepth := 99) only [okIte, okFoldl, implies_true, State.setSched_ok]

theorem State.pushStamp_ok {s : State} {m : Nat} {v : Nat} {e : StampEntry} (h0 : s.Ok q σ) :
    (State.pushStamp s m v e).Ok q σ := by
  unfold State.pushStamp
  repeat' split
  all_goals simp_all +contextual (maxDischargeDepth := 99) only [okMk, okFold, okIte, implies_true, State.setFld_ok,
      State.raise_ok]

theorem State.stampBindings_ok {s : State} {k : Nat} {e : StampEntry} (h0 : s.Ok q σ) :
    (State.stampBindings s k e).Ok q σ := by
  unfold State.stampBindings
  repeat' split
  all_goals simp_all +contextual (maxDischargeDepth := 99) only [okIte, okFoldl, implies_true, State.pushStamp_ok]

theorem State.recordStamp_ok {s : State} {k : Nat} (h0 : s.Ok q σ) : (State.recordStamp s k).Ok q σ := by
  unfold State.recordStamp
  repeat' split
  all_goals simp_all +contextual (maxDischargeDepth := 99) only [State.setFld_ok, State.setPair_ok,
      State.linkStrobes_ok, State.stampBindings_ok]

theorem State.countDone_ok {s : State} {f : SchedF} (h0 : s.Ok q σ) : (State.countDone s f).Ok q σ := by
  unfold State.countDone
  repeat' split
  all_goals simp_all +contextual (maxDischargeDepth := 99) only [okIte, implies_true, State.raise_ok, State.orFld_ok,
      State.disarm_ok]

theorem State.fireGrid_ok {s0 : State} {f : SchedF} {p : Int} (h0 : s0.Ok q σ) : (State.fireGrid s0 f p).Ok q σ := by
  unfold State.fireGrid
  repeat' split
  all_goals (try dsimp only)
  repeat' split
  all_goals simp_all +contextual (maxDischargeDepth := 99) only [State.dutyTest_ok, State.overrun_ok,
      State.startPulse_ok, State.recordStamp_ok, State.advance_ok, State.incr_ok, State.countDone_ok]
  all_goals (repeat' split)
  all_goals simp_all +contextual (maxDischargeDepth := 99) only [State.tl_wf (q := q) (σ := σ), TileSt.put_wf,
      Tab.wf_keep, TileSt.reset_wf, okMk, okFold, okIte, okFoldl, okNext, okIteOut, okSome, okNone, implies_true,
      State.dutyTest_ok, State.overrun_ok, State.startPulse_ok, State.recordStamp_ok, State.advance_ok,
      State.incr_ok, State.countDone_ok]

theorem State.fireTest_ok {s : State} {f : SchedF} (h0 : s.Ok q σ) : (State.fireTest s f).Ok q σ := by
  unfold State.fireTest
  repeat' split
  all_goals simp_all +contextual (maxDischargeDepth := 99) only [State.fireGrid_ok]

theorem State.showEphStatus_ok {s : State} (h0 : s.Ok q σ) : (State.showEphStatus s).Ok q σ := by
  unfold State.showEphStatus
  repeat' split
  all_goals simp_all +contextual (maxDischargeDepth := 99) only [State.setFld_ok]

theorem State.showSegs_ok {s : State} (h0 : s.Ok q σ) : (State.showSegs s).Ok q σ := by
  unfold State.showSegs
  repeat' split
  all_goals simp_all +contextual (maxDischargeDepth := 99) only [okFoldl, implies_true, State.setFld_ok]

theorem State.segExpire_ok {s : State} (h0 : s.Ok q σ) : (State.segExpire s).Ok q σ := by
  unfold State.segExpire
  repeat' split
  all_goals simp_all +contextual (maxDischargeDepth := 99) only [State.raise_ok, State.showEphStatus_ok,
      State.showSegs_ok, State.setEph_ok]

theorem State.skipPassed_ok {s : State} {f : SchedF} (h0 : s.Ok q σ) : (State.skipPassed s f).Ok q σ := by
  unfold State.skipPassed
  repeat' split
  all_goals simp_all +contextual (maxDischargeDepth := 99) only [okIte, implies_true, State.raise_ok, State.orFld_ok,
      State.bump_ok, State.advance_ok, State.disarm_ok]

theorem State.periodBoundary_ok {s : State} {p : Nat} (h0 : s.Ok q σ) : (State.periodBoundary s p).Ok q σ := by
  unfold State.periodBoundary
  repeat' split
  all_goals simp_all +contextual (maxDischargeDepth := 99) only [State.applyShadows_ok]

theorem State.ephRestart_ok {s : State} (h0 : s.Ok q σ) : (State.ephRestart s).Ok q σ := by
  unfold State.ephRestart
  repeat' split
  all_goals simp_all +contextual (maxDischargeDepth := 99) only [okMk, okFold]

theorem State.ephPeriod_ok {s : State} (h0 : s.Ok q σ) : (State.ephPeriod s).Ok q σ := by
  unfold State.ephPeriod
  repeat' split
  all_goals simp_all +contextual (maxDischargeDepth := 99) only [okIte, implies_true, State.periodBoundary_ok,
      State.ephRestart_ok]

theorem State.takeForce_ok {s0 : State} {g : Seg} {rest : List Seg} (h0 : s0.Ok q σ) :
    (State.takeForce s0 g rest).Ok q σ := by
  unfold State.takeForce
  repeat' split
  all_goals (try dsimp only)
  repeat' split
  all_goals simp_all +contextual (maxDischargeDepth := 99) only [okFoldl, implies_true, State.segExpire_ok,
      State.showEphStatus_ok, State.showSegs_ok, State.setEph_ok, State.raise_ok, State.skipPassed_ok,
      State.ephPeriod_ok]
  all_goals (repeat' split)
  all_goals simp_all +contextual (maxDischargeDepth := 99) only [State.tl_wf (q := q) (σ := σ), TileSt.put_wf,
      Tab.wf_keep, TileSt.reset_wf, okMk, okFold, okIte, okFoldl, okNext, okIteOut, okSome, okNone, implies_true,
      State.segExpire_ok, State.showEphStatus_ok, State.showSegs_ok, State.setEph_ok, State.raise_ok,
      State.skipPassed_ok, State.ephPeriod_ok]

theorem State.forceDue_ok {s : State} (h0 : s.Ok q σ) : (State.forceDue s).Ok q σ := by
  unfold State.forceDue
  repeat' split
  all_goals simp_all +contextual (maxDischargeDepth := 99) only [State.takeForce_ok]

theorem State.aim_ok {s : State} {f : SchedF} (h0 : s.Ok q σ) : (State.aim s f).Ok q σ := by
  unfold State.aim
  repeat' split
  all_goals simp_all +contextual (maxDischargeDepth := 99) only [okIte, implies_true, State.setNext_ok,
      State.raise_ok, State.orFld_ok, State.disarm_ok]

theorem State.applySched_ok {s0 : State} {p : Nat} (h0 : s0.Ok q σ) : (State.applySched s0 p).Ok q σ := by
  unfold State.applySched
  repeat' split
  all_goals simp_all +contextual (maxDischargeDepth := 99) only [okIte, okFoldl, implies_true, State.fireTest_ok,
      State.forceDue_ok, State.applyShadows_ok, State.aim_ok]

theorem State.setSc_ok {s : State} {p : Nat} {c : SchSt} (h0 : s.Ok q σ) : (State.setSc s p c).Ok q σ := by
  unfold State.setSc
  repeat' split
  all_goals simp_all +contextual (maxDischargeDepth := 99) only [okMk, okFold]

theorem State.setSlot_ok {s : State} {p : Nat} {k : Nat} {a3 : SlotSt} (h0 : s.Ok q σ) :
    (State.setSlot s p k a3).Ok q σ := by
  unfold State.setSlot
  repeat' split
  all_goals simp_all +contextual (maxDischargeDepth := 99) only [State.setSc_ok]

theorem State.changeSlot_ok {s : State} {p : Nat} {k : Nat} (h0 : s.Ok q σ) : (State.changeSlot s p k).Ok q σ := by
  grind [State.changeSlot, State.clampBit_ok, State.setSlot_ok]

theorem State.unlist_ok {s : State} {p : Nat} {k : Nat} (h0 : s.Ok q σ) : (State.unlist s p k).Ok q σ := by
  unfold State.unlist
  repeat' split
  all_goals simp_all +contextual (maxDischargeDepth := 99) only [State.setSc_ok]

theorem State.idleSlot_ok {s : State} {p : Nat} {k : Nat} (h0 : s.Ok q σ) : (State.idleSlot s p k).Ok q σ := by
  unfold State.idleSlot
  repeat' split
  all_goals simp_all +contextual (maxDischargeDepth := 99) only [State.unlist_ok, State.setSlot_ok]

theorem State.placeSlot_ok {s : State} {p : Nat} {k : Nat} {l : Nat} (h0 : s.Ok q σ) :
    (State.placeSlot s p k l).Ok q σ := by
  unfold State.placeSlot
  repeat' split
  all_goals (try dsimp only)
  repeat' split
  all_goals simp_all +contextual (maxDischargeDepth := 99) only [State.unlist_ok, State.setSlot_ok]
  all_goals (repeat' split)
  all_goals simp_all +contextual (maxDischargeDepth := 99) only [State.tl_wf (q := q) (σ := σ), TileSt.put_wf,
      Tab.wf_keep, TileSt.reset_wf, okMk, okFold, okIte, okFoldl, okNext, okIteOut, okSome, okNone, implies_true,
      State.unlist_ok, State.setSlot_ok]

theorem State.wakeSlot_ok {s : State} {p : Nat} {k : Nat} (h0 : s.Ok q σ) : (State.wakeSlot s p k).Ok q σ := by
  unfold State.wakeSlot
  repeat' split
  all_goals simp_all +contextual (maxDischargeDepth := 99) only [State.idleSlot_ok, State.setSlot_ok, State.setSc_ok,
      State.placeSlot_ok]

end Sys2Proof.Machine
end

