-- ==== Sys2Proof/Laws/Keeps2.lean ====
section
/-!
SUPPORT. Part 2 of what every operation and every command keeps, in the order in which they rest on each other.
-/

namespace Sys2Proof.Machine

variable {q : List Instr} {σ : Silicon × Option Weigh} {σ₀ : Silicon}

theorem State.reexamine_ok {s : State} {p : Nat} {k : Nat} (h0 : s.Ok q σ) : (State.reexamine s p k).Ok q σ := by
  unfold State.reexamine
  repeat' split
  all_goals simp_all +contextual (maxDischargeDepth := 99) only [State.idleSlot_ok, State.wakeSlot_ok,
      State.placeSlot_ok]

theorem State.schApply_ok {s : State} {p : Nat} (h0 : s.Ok q σ) : (State.schApply s p).Ok q σ := by
  unfold State.schApply
  repeat' split
  all_goals simp_all +contextual (maxDischargeDepth := 99) only [okIte, okFoldl, implies_true, State.applyShadows_ok,
      State.changeSlot_ok, State.reexamine_ok]

theorem State.applyEphem_ok {s : State} (h0 : s.Ok q σ) : (State.applyEphem s).Ok q σ := by
  unfold State.applyEphem
  repeat' split
  all_goals simp_all +contextual (maxDischargeDepth := 99) only [okIte, implies_true, State.applyShadows_ok,
      State.ephRestart_ok]

theorem State.applyPage_ok {s : State} {p : Nat} (h0 : s.Ok q σ) : (State.applyPage s p).Ok q σ := by
  unfold State.applyPage
  repeat' split
  all_goals simp_all +contextual (maxDischargeDepth := 99) only [State.applyMotor_ok, State.applySched_ok,
      State.schApply_ok, State.applyEphem_ok, State.applyShadows_ok]

theorem State.setBoundary_ok {s : State} {p : Nat} {b : Nat} (h0 : s.Ok q σ) : (State.setBoundary s p b).Ok q σ := by
  unfold State.setBoundary
  repeat' split
  all_goals simp_all +contextual (maxDischargeDepth := 99) only [State.setFld_ok, State.applyPage_ok]

theorem State.shadowCtrl_ok {s : State} {p : Nat} {w : Nat} (h0 : s.Ok q σ) : (State.shadowCtrl s p w).Ok q σ := by
  unfold State.shadowCtrl
  repeat' split
  all_goals simp_all +contextual (maxDischargeDepth := 99) only [State.dropShadows_ok, State.setBoundary_ok,
      State.setFld_ok]

theorem State.headerWrite_ok {s : State} {p : Nat} {off : Nat} {w : Nat} (h0 : s.Ok q σ) :
    (State.headerWrite s p off w).Ok q σ := by
  unfold State.headerWrite
  repeat' split
  all_goals simp_all +contextual (maxDischargeDepth := 99) only [State.pageCtrl_ok, State.evtEnable_ok,
      State.pendClear_ok, State.evtForce_ok, State.lockPage_ok, State.setOwner_ok, State.shadowCtrl_ok,
      State.writeFields_ok]

theorem State.warmRequest_ok {s : State} {cause : Nat} (h0 : s.Ok q σ) : (State.warmRequest s cause).Ok q σ := by
  unfold State.warmRequest
  repeat' split
  all_goals simp_all +contextual (maxDischargeDepth := 99) only [okMk, okFold]

theorem State.resetCtrl_ok {s : State} {w : Nat} (h0 : s.Ok q σ) : (State.resetCtrl s w).Ok q σ := by
  unfold State.resetCtrl
  repeat' split
  all_goals simp_all +contextual (maxDischargeDepth := 99) only [State.warmRequest_ok]

theorem State.supplyOff_ok {s : State} (h0 : s.Ok q σ) : (State.supplyOff s).Ok q σ := by
  unfold State.supplyOff
  repeat' split
  all_goals simp_all +contextual (maxDischargeDepth := 99) only [okFoldl, implies_true, State.modGt_ok,
      State.motorFault_ok, State.raise_ok, State.setFld_ok]

theorem State.vmRail_ok {s : State} {mv : Nat} (h0 : s.Ok q σ) : (State.vmRail s mv).Ok q σ := by
  unfold State.vmRail
  repeat' split
  all_goals simp_all +contextual (maxDischargeDepth := 99) only [okIte, implies_true, State.condition_ok,
      State.setFld_ok, State.supplyOff_ok]

theorem State.vgdRail_ok {s : State} {mv : Nat} (h0 : s.Ok q σ) : (State.vgdRail s mv).Ok q σ := by
  unfold State.vgdRail
  repeat' split
  all_goals simp_all +contextual (maxDischargeDepth := 99) only [okIte, implies_true, State.condition_ok,
      State.setFld_ok, State.supplyOff_ok]

theorem State.stageAct_ok {s : State} (h0 : s.Ok q σ) : (State.stageAct s).Ok q σ := by
  unfold State.stageAct
  repeat' split
  all_goals simp_all +contextual (maxDischargeDepth := 99) only [State.vmRail_ok, State.vgdRail_ok]

theorem State.writeLimit_ok {s : State} {p : Nat} {f : Fld} {v : Nat} {lo : Nat} {hi : Nat} {lower : Bool}
    {bit : Option Nat} (h0 : s.Ok q σ) : (State.writeLimit s p f v lo hi lower bit).Ok q σ := by
  unfold State.writeLimit
  repeat' split
  all_goals simp_all +contextual (maxDischargeDepth := 99) only [okIte, implies_true, State.lockViol_ok,
      State.setFld_ok, State.clampBit_ok]

theorem State.vmLimits_ok {s : State} {w : Nat} (h0 : s.Ok q σ) : (State.vmLimits s w).Ok q σ := by
  unfold State.vmLimits
  repeat' split
  all_goals simp_all +contextual (maxDischargeDepth := 99) only [State.stageAct_ok, State.writeLimit_ok]

theorem State.loadGo_ok {s : State} (h0 : s.Ok q σ) : (State.loadGo s).Ok q σ := by
  unfold State.loadGo
  repeat' split
  all_goals simp_all +contextual (maxDischargeDepth := 99) only [okMk, okFold, okIte, implies_true, State.raiseBy_ok,
      State.setFld_ok]

theorem State.almFieldWrite_ok {s : State} {hh : Nat} {viaHh : Bool} {reg : Nat} {w : Nat} {k : Nat} (h0 : s.Ok q σ)
    : (State.almFieldWrite s hh viaHh reg w k).Ok q σ := by
  unfold State.almFieldWrite
  repeat' split
  all_goals simp_all +contextual (maxDischargeDepth := 99) only [okIte, implies_true, State.raiseBy_ok,
      State.setAlm_ok]

theorem State.almSoftField_ok {s : State} {hh : Nat} {viaHh : Bool} {reg : Nat} {w : Nat} {k : Nat} (h0 : s.Ok q σ)
    : (State.almSoftField s hh viaHh reg w k).Ok q σ := by
  unfold State.almSoftField
  repeat' split
  all_goals simp_all +contextual (maxDischargeDepth := 99) only [State.almFieldWrite_ok, State.raiseBy_ok]

theorem State.distribute_ok {s : State} {k : Nat} {op : Nat} {e : AlmEntry} (h0 : s.Ok q σ) :
    (State.distribute s k op e).Ok q σ := by
  unfold State.distribute
  repeat' split
  all_goals simp_all +contextual (maxDischargeDepth := 99) only [okFoldl, implies_true, State.toPort_ok]

theorem State.rootArm_ok {s : State} {hh : Nat} {k : Nat} (h0 : s.Ok q σ) : (State.rootArm s hh k).Ok q σ := by
  unfold State.rootArm
  repeat' split
  all_goals simp_all +contextual (maxDischargeDepth := 99) only [okMk, okFold, okIte, implies_true, State.almArm_ok,
      State.raiseBy_ok, State.distribute_ok]

theorem State.almSoftArm_ok {s : State} {hh : Nat} {k : Nat} (h0 : s.Ok q σ) : (State.almSoftArm s hh k).Ok q σ := by
  unfold State.almSoftArm
  repeat' split
  all_goals simp_all +contextual (maxDischargeDepth := 99) only [State.rootArm_ok, State.almArm_ok, State.raiseBy_ok]

theorem State.almCancel_ok {s : State} {hh : Nat} {k : Nat} (h0 : s.Ok q σ) : (State.almCancel s hh k).Ok q σ := by
  unfold State.almCancel
  repeat' split
  all_goals simp_all +contextual (maxDischargeDepth := 99) only [okIte, implies_true, State.setAlm_ok,
      State.raiseBy_ok]

theorem State.almSoftCancel_ok {s : State} {hh : Nat} {k : Nat} (h0 : s.Ok q σ) :
    (State.almSoftCancel s hh k).Ok q σ := by
  unfold State.almSoftCancel
  repeat' split
  all_goals simp_all +contextual (maxDischargeDepth := 99) only [okIte, implies_true, State.almCancel_ok,
      State.distribute_ok, State.raiseBy_ok]

theorem State.timeWrite_ok {s : State} {hh : Nat} {via : Option (Fin 8)} {off : Nat} {w : Nat} (h0 : s.Ok q σ) :
    (State.timeWrite s hh via off w).Ok q σ := by
  unfold State.timeWrite
  repeat' split
  all_goals simp_all +contextual (maxDischargeDepth := 99) only [State.loadGo_ok, State.almSoftField_ok,
      State.almSoftArm_ok, State.almSoftCancel_ok, State.writeFields_ok]

theorem State.dawnReq_ok {s : State} (h0 : s.Ok q σ) : (State.dawnReq s).Ok q σ := by
  unfold State.dawnReq
  repeat' split
  all_goals simp_all +contextual (maxDischargeDepth := 99) only [okMk, okFold, okIte, implies_true, State.setFld_ok,
      State.raiseBy_ok]

theorem State.gapAnew_ok {s : State} (h0 : s.Ok q σ) : (State.gapAnew s).Ok q σ := by
  unfold State.gapAnew
  repeat' split
  all_goals simp_all +contextual (maxDischargeDepth := 99) only [okMk, okFold]

theorem State.timedRegWrite_ok {s : State} {w : Nat} (h0 : s.Ok q σ) : (State.timedRegWrite s w).Ok q σ := by
  unfold State.timedRegWrite
  repeat' split
  all_goals simp_all +contextual (maxDischargeDepth := 99) only [okIte, okFoldl, implies_true, State.writeFields_ok,
      State.gapAnew_ok, State.setTokens_ok]

theorem State.clearRc_ok {s : State} {lo hi : Nat} {t : List Fld} (h : s.Ok q σ) : (s.clearRc lo hi t).Ok q σ := by
  unfold State.clearRc; rw [okMk]; exact ⟨h.1, h.2, Tab.rises_keep _ _ h.regs, h.4, h.5, h.6, h.7, h.8, h.9, h.10,
      h.11⟩

theorem State.cntClearAll_ok {s : State} (h0 : s.Ok q σ) : (State.cntClearAll s).Ok q σ := by
  unfold State.cntClearAll
  repeat' split
  all_goals simp_all +contextual (maxDischargeDepth := 99) only [State.clearRc_ok]

theorem State.nocWrite_ok {s : State} {off : Nat} {w : Nat} (h0 : s.Ok q σ) : (State.nocWrite s off w).Ok q σ := by
  unfold State.nocWrite
  repeat' split
  all_goals simp_all +contextual (maxDischargeDepth := 99) only [State.timedRegWrite_ok, State.writeFields_ok,
      State.cntClearAll_ok, State.setFld_ok]

theorem State.plainWrite_ok {s : State} {a : Acc} {p : Nat} {off : Nat} {w : Nat} (h0 : s.Ok q σ) :
    (State.plainWrite s a p off w).Ok q σ := by
  unfold State.plainWrite
  repeat' split
  all_goals simp_all +contextual (maxDischargeDepth := 99) only [okIte, implies_true, State.denial_ok,
      State.writeFields_ok]

theorem State.setAxis_ok {s : State} {k : Nat} {a2 : AxisSt} (h0 : s.Ok q σ) : (State.setAxis s k a2).Ok q σ := by
  unfold State.setAxis
  repeat' split
  all_goals simp_all +contextual (maxDischargeDepth := 99) only [okMk, okFold]

theorem State.axisStart_ok {s : State} {k : Nat} (h0 : s.Ok q σ) : (State.axisStart s k).Ok q σ := by
  unfold State.axisStart
  repeat' split
  all_goals simp_all +contextual (maxDischargeDepth := 99) only [State.setAxis_ok]

theorem State.axisWrite_ok {s : State} {a : Acc} {off : Nat} {w : Nat} (h0 : s.Ok q σ) :
    (State.axisWrite s a off w).Ok q σ := by
  unfold State.axisWrite
  repeat' split
  all_goals simp_all +contextual (maxDischargeDepth := 99) only [okIte, implies_true, State.plainWrite_ok,
      State.axisStart_ok]

theorem State.ephWrite_ok {s : State} {a : Acc} {off : Nat} {w : Nat} (h0 : s.Ok q σ) :
    (State.ephWrite s a off w).Ok q σ := by
  unfold State.ephWrite
  repeat' split
  all_goals simp_all +contextual (maxDischargeDepth := 99) only [okIte, implies_true, State.plainWrite_ok,
      State.ephRestart_ok]

theorem State.arm_ok {s : State} {f : SchedF} (h0 : s.Ok q σ) : (State.arm s f).Ok q σ := by
  unfold State.arm
  repeat' split
  all_goals simp_all +contextual (maxDischargeDepth := 99) only [State.aim_ok, State.orFld_ok, State.setFld_ok]

theorem State.armWrite_ok {s : State} {strobe : Bool} {arm : Bool} {w : Nat} (h0 : s.Ok q σ) :
    (State.armWrite s strobe arm w).Ok q σ := by
  unfold State.armWrite
  repeat' split
  all_goals simp_all +contextual (maxDischargeDepth := 99) only [okFoldl, implies_true, State.arm_ok, State.disarm_ok]

theorem State.schedWrite_ok {s : State} {a : Acc} {p : Nat} {off : Nat} {w : Nat} (h0 : s.Ok q σ) :
    (State.schedWrite s a p off w).Ok q σ := by
  unfold State.schedWrite
  repeat' split
  all_goals simp_all +contextual (maxDischargeDepth := 99) only [okIte, okFoldl, implies_true, State.plainWrite_ok,
      State.denial_ok, State.clampBit_ok, State.writeField_ok, State.applySched_ok, State.lockViol_ok,
      State.setFld_ok]

theorem State.ingestWrite_ok {s : State} {hh : Nat} {m : Nat} {off : Nat} {w : Nat} (h0 : s.Ok q σ) :
    (State.ingestWrite s hh m off w).Ok q σ := by
  unfold State.ingestWrite
  repeat' split
  all_goals simp_all +contextual (maxDischargeDepth := 99) only [okIte, implies_true, State.writeFields_ok,
      State.raiseBy_ok, State.setFld_ok]

theorem State.whbGo_ok {s : State} (h0 : s.Ok q σ) : (State.whbGo s).Ok q σ := by
  unfold State.whbGo
  repeat' split
  all_goals simp_all +contextual (maxDischargeDepth := 99) only [State.whbSend_ok]

theorem State.reqCtrl_ok {s : State} {w : Nat} (h0 : s.Ok q σ) : (State.reqCtrl s w).Ok q σ := by
  unfold State.reqCtrl
  repeat' split
  all_goals simp_all +contextual (maxDischargeDepth := 99) only [okMk, okFold, State.setFld_ok, State.whbGo_ok]

theorem State.slSend_ok {s : State} {id : Nat} {w : Nat} (h0 : s.Ok q σ) : (State.slSend s id w).Ok q σ := by
  unfold State.slSend
  repeat' split
  all_goals simp_all +contextual (maxDischargeDepth := 99) only [State.whbSend_ok]

theorem State.slWrite_ok {s : State} {id : Nat} {w : Nat} (h0 : s.Ok q σ) : (State.slWrite s id w).Ok q σ := by
  unfold State.slWrite
  repeat' split
  all_goals simp_all +contextual (maxDischargeDepth := 99) only [okMk, okFold, State.raiseBy_ok, State.slSend_ok,
      State.setFld_ok]

theorem State.whbWrite_ok {s : State} {off : Nat} {w : Nat} (h0 : s.Ok q σ) : (State.whbWrite s off w).Ok q σ := by
  unfold State.whbWrite
  repeat' split
  all_goals simp_all +contextual (maxDischargeDepth := 99) only [State.reqCtrl_ok, State.slWrite_ok,
      State.writeFields_ok]

theorem State.latchClr_ok {s : State} {n : Nat} (h0 : s.Ok q σ) : (State.latchClr s n).Ok q σ := by
  unfold State.latchClr
  repeat' split
  all_goals simp_all +contextual (maxDischargeDepth := 99) only [State.setFld_ok]

theorem State.faultClr_ok {s : State} {n : Nat} (h0 : s.Ok q σ) : (State.faultClr s n).Ok q σ := by
  unfold State.faultClr
  repeat' split
  all_goals simp_all +contextual (maxDischargeDepth := 99) only [okIte, implies_true, State.latchClr_ok,
      State.motorOff_ok]

theorem State.stopReq_ok {s : State} {n : Nat} (h0 : s.Ok q σ) : (State.stopReq s n).Ok q σ := by
  unfold State.stopReq
  repeat' split
  all_goals simp_all +contextual (maxDischargeDepth := 99) only [okIte, implies_true, State.modGt_ok,
      State.motorOff_ok, State.setMotorState_ok]

theorem State.diagBegin_ok {s : State} {n : Nat} {forStart : Bool} (h0 : s.Ok q σ) :
    (State.diagBegin s n forStart).Ok q σ := by
  unfold State.diagBegin
  repeat' split
  all_goals simp_all +contextual (maxDischargeDepth := 99) only [State.gatesOff_ok, State.setFld_ok, State.setGt_ok]

theorem State.startReq_ok {s : State} {n : Nat} {hh : Nat} (h0 : s.Ok q σ) : (State.startReq s n hh).Ok q σ := by
  unfold State.startReq
  repeat' split
  all_goals simp_all +contextual (maxDischargeDepth := 99) only [State.drew_ok, State.raiseBy_ok, State.setFld_ok,
      State.gatesOff_ok, State.modMo_ok, State.setMotorState_ok, State.diagBegin_ok]

theorem State.offsetCal_ok {s : State} {n : Nat} (h0 : s.Ok q σ) : (State.offsetCal s n).Ok q σ := by
  unfold State.offsetCal
  repeat' split
  all_goals simp_all +contextual (maxDischargeDepth := 99) only [State.modMo_ok, State.setMotorState_ok]

theorem State.motorCtrl_ok {s : State} {n : Nat} {hh : Nat} {w : Nat} (h0 : s.Ok q σ) :
    (State.motorCtrl s n hh w).Ok q σ := by
  unfold State.motorCtrl
  repeat' split
  all_goals simp_all +contextual (maxDischargeDepth := 99) only [State.faultClr_ok, State.stopReq_ok,
      State.startReq_ok, State.offsetCal_ok]

theorem State.writeEach_ok {s : State} {p : Nat} {fs : List Fld} {w : Nat} {g : State → Fld → Nat → Option State}
    (h0 : s.Ok q σ) (hg : ∀ (t : State) (f : Fld) (v : Nat), t.Ok q σ → OkOpt q σ (g t f v)) :
        (s.writeEach p fs w g).Ok q σ := by
  refine okFoldl (fun t f ht => ?_) h0
  have := hg t f (f.part w) ht
  cases e : g t f (f.part w) with
  | none => exact State.writeField_ok ht
  | some u => exact this u e

theorem State.lkGuard_ok {s : State} {p : Nat} {f : Fld} {v : Nat} {k : State → State} (h0 : s.Ok q σ)
    (h4 : ∀ (t0 : State), t0.Ok q σ → (k t0).Ok q σ) : (State.lkGuard s p f v k).Ok q σ := by
  unfold State.lkGuard
  repeat' split
  all_goals simp_all +contextual (maxDischargeDepth := 99) only [State.lockViol_ok]

theorem State.storeClamped_ok {s : State} {p : Nat} {f : Fld} {v : Nat} {c : Nat} {bit : Nat} (h0 : s.Ok q σ) :
    (State.storeClamped s p f v c bit).Ok q σ := by
  unfold State.storeClamped
  repeat' split
  all_goals simp_all +contextual (maxDischargeDepth := 99) only [implies_true, State.lkGuard_ok, State.setFld_ok,
      State.clampBit_ok]

theorem State.writeIgnored_ok {s : State} {p : Nat} (h0 : s.Ok q σ) : (State.writeIgnored s p).Ok q σ := by
  unfold State.writeIgnored
  repeat' split
  all_goals simp_all +contextual (maxDischargeDepth := 99) only [State.setFld_ok]

theorem State.motorField_ok {n w : Nat} {t : State} {f : Fld} {v : Nat} (h : t.Ok q σ) : OkOpt q σ
    (State.motorField n w t f v) := by
  unfold State.motorField
  repeat' (refine okIteOpt (fun _ => ?_) (fun _ => ?_))
  all_goals first
    | (rw [okNone]; trivial)
    | (rw [okSome]; exact State.writeLimit_ok h)
    | (rw [okSome]; exact State.storeClamped_ok h)
    | (rw [okSome]; exact State.setFld_ok h)
    | (rw [okSome]; exact State.lkGuard_ok h (fun t ht => State.setFld_ok ht))
    | (rw [okSome]; exact okIte (fun _ => okIte (fun _ => h) (fun _ => State.writeIgnored_ok h))
        (fun _ => State.setFld_ok h))
    | (rw [okSome]; exact okIte (fun _ => State.writeIgnored_ok h) (fun _ => State.setFld_ok h))

theorem State.inEnv_ok {s : State} {p : Nat} {out : Fld} {lo : Fld} {hi : Fld} (h0 : s.Ok q σ) :
    (State.inEnv s p out lo hi).Ok q σ := by
  unfold State.inEnv
  repeat' split
  all_goals simp_all +contextual (maxDischargeDepth := 99) only [State.setFld_ok]

theorem State.showDerate_ok {s : State} {n : Nat} (h0 : s.Ok q σ) : (State.showDerate s n).Ok q σ := by
  unfold State.showDerate
  repeat' split
  all_goals simp_all +contextual (maxDischargeDepth := 99) only [State.condition_ok, State.setFld_ok]

theorem State.motorWrite_ok {s : State} {a : Acc} {n : Nat} {off : Nat} {w : Nat} (h0 : s.Ok q σ) :
    (State.motorWrite s a n off w).Ok q σ := by
  unfold State.motorWrite
  repeat' split
  all_goals simp_all +contextual (maxDischargeDepth := 99) only [okIte, implies_true, State.motorCtrl_ok,
      State.writeEach_ok, State.motorField_ok, State.inEnv_ok, State.showDerate_ok, State.applyMotor_ok]

theorem State.pwmField_ok {n : Nat} {w : Nat} {t : State} {f : Fld} {v : Nat} (h2 : t.Ok q σ) : OkOpt q σ
    (State.pwmField n w t f v) := by
  unfold State.pwmField
  repeat' split
  all_goals simp_all +contextual (maxDischargeDepth := 99) only [okIte, okSome, okNone, implies_true,
      State.setShadow_ok, State.clampBit_ok, State.storeClamped_ok, State.writeIgnored_ok]

theorem State.dtInEnv_ok {s : State} {n : Nat} (h0 : s.Ok q σ) : (State.dtInEnv s n).Ok q σ := by
  unfold State.dtInEnv
  refine okFoldl (fun t f ht => ?_) h0
  dsimp only
  split
  · exact State.setShadow_ok (State.inEnv_ok ht)
  · exact State.inEnv_ok ht

theorem State.pwmWrite_ok {s : State} {n : Nat} {off : Nat} {w : Nat} (h0 : s.Ok q σ) :
    (State.pwmWrite s n off w).Ok q σ := by
  unfold State.pwmWrite
  repeat' split
  all_goals simp_all +contextual (maxDischargeDepth := 99) only [okIte, implies_true, State.writeIgnored_ok,
      State.writeEach_ok, State.pwmField_ok, State.dtInEnv_ok, State.applyShadows_ok]

theorem State.diagGo_ok {s : State} {n : Nat} (h0 : s.Ok q σ) : (State.diagGo s n).Ok q σ := by
  unfold State.diagGo
  repeat' split
  all_goals simp_all +contextual (maxDischargeDepth := 99) only [State.diagBegin_ok]

theorem State.cstGo_ok {s : State} {n : Nat} (h0 : s.Ok q σ) : (State.cstGo s n).Ok q σ := by
  unfold State.cstGo
  repeat' split
  all_goals simp_all +contextual (maxDischargeDepth := 99) only [okIte, implies_true, State.setFld_ok,
      State.modGt_ok, State.gatesOff_ok]

theorem State.swOff_ok {s : State} {n : Nat} {sw : Nat} (h0 : s.Ok q σ) : (State.swOff s n sw).Ok q σ := by
  unfold State.swOff
  repeat' split
  all_goals simp_all +contextual (maxDischargeDepth := 99) only [State.modGt_ok]

theorem State.cmdOff_ok {s : State} {n : Nat} {sw : Nat} (h0 : s.Ok q σ) : (State.cmdOff s n sw).Ok q σ := by
  unfold State.cmdOff
  repeat' split
  all_goals simp_all +contextual (maxDischargeDepth := 99) only [State.setGt_ok, State.swOff_ok]

theorem State.modPw_ok {s : State} {n : Nat} {f : PwmSt → PwmSt} (h0 : s.Ok q σ) : (State.modPw s n f).Ok q σ := by
  unfold State.modPw
  repeat' split
  all_goals simp_all +contextual (maxDischargeDepth := 99) only [State.setPw_ok]

theorem State.reportGap_ok {s : State} {n : Nat} {sw : Nat} (h0 : s.Ok q σ) : (State.reportGap s n sw).Ok q σ := by
  unfold State.reportGap
  repeat' split
  all_goals simp_all +contextual (maxDischargeDepth := 99) only [State.modPw_ok]

theorem State.swOn_ok {s : State} {n : Nat} {sw : Nat} (h0 : s.Ok q σ) : (State.swOn s n sw).Ok q σ := by
  unfold State.swOn
  repeat' split
  all_goals simp_all +contextual (maxDischargeDepth := 99) only [State.modGt_ok, State.reportGap_ok]

theorem State.tryOn_ok {s : State} {n : Nat} {sw : Nat} (h0 : s.Ok q σ) : (State.tryOn s n sw).Ok q σ := by
  unfold State.tryOn
  repeat' split
  all_goals simp_all +contextual (maxDischargeDepth := 99) only [okIte, implies_true, State.setGt_ok, State.swOn_ok]

theorem State.afterOff_ok {s : State} {n : Nat} {sw : Nat} (h0 : s.Ok q σ) : (State.afterOff s n sw).Ok q σ := by
  unfold State.afterOff
  repeat' split
  all_goals simp_all +contextual (maxDischargeDepth := 99) only [okIte, implies_true, State.tryOn_ok]

theorem State.overlapped_ok {s : State} {n : Nat} {ph : Nat} (h0 : s.Ok q σ) : (State.overlapped s n ph).Ok q σ := by
  unfold State.overlapped
  repeat' split
  all_goals simp_all +contextual (maxDischargeDepth := 99) only [okIte, implies_true, State.raise_ok, State.bump_ok,
      State.setGt_ok]

theorem State.cmdOn_ok {s : State} {n : Nat} {sw : Nat} (h0 : s.Ok q σ) : (State.cmdOn s n sw).Ok q σ := by
  unfold State.cmdOn
  repeat' split
  all_goals simp_all +contextual (maxDischargeDepth := 99) only [okIte, implies_true, State.setGt_ok,
      State.overlapped_ok, State.tryOn_ok]

theorem State.commands_ok {s : State} {n : Nat} {m : Nat} (h0 : s.Ok q σ) : (State.commands s n m).Ok q σ := by
  unfold State.commands
  repeat' split
  all_goals simp_all +contextual (maxDischargeDepth := 99) only [okIte, okFoldl, implies_true, State.cmdOff_ok,
      State.afterOff_ok, State.overlapped_ok, State.setGt_ok, State.cmdOn_ok]

theorem State.directTest_ok {s : State} {n : Nat} {w : Nat} (h0 : s.Ok q σ) : (State.directTest s n w).Ok q σ := by
  unfold State.directTest
  repeat' split
  all_goals simp_all +contextual (maxDischargeDepth := 99) only [okIte, implies_true, State.commands_ok,
      State.setGt_ok]

theorem State.gateField_ok {n w : Nat} {slew : Bool} {t : State} {f : Fld} {v : Nat} (h : t.Ok q σ) : OkOpt q σ
    (State.gateField n w slew t f v) := by
  have a : ∀ (c : Prop) [Decidable c] (x : State) (r : Option State), x.Ok q σ → OkOpt q σ r → OkOpt q σ
      (if c then some x else r) :=
    fun c _ x r hx hr => okIteOpt (fun _ => by rw [okSome]; exact hx) (fun _ => hr)
  unfold State.gateField
  dsimp only
  refine a _ _ _ (State.writeLimit_ok h) (a _ _ _ (State.writeLimit_ok h) (a _ _ _ (State.writeLimit_ok h) (a _ _ _
    (State.writeLimit_ok h) (a _ _ _ (State.storeClamped_ok h) (a _ _ _ (State.storeClamped_ok h) (a _ _ _
    (State.storeClamped_ok h) (a _ _ _ (State.storeClamped_ok h) (a _ _ _ ?_ (a _ _ _ ?_ ?_)))))))))
  · exact okIte (fun _ => State.writeIgnored_ok h) (fun _ => State.setFld_ok h)
  · exact okIte (fun _ => State.writeIgnored_ok h) (fun _ => State.setFld_ok h)
  · rw [okNone]; trivial

theorem State.gateWrite_ok {s : State} {n off w : Nat} (h : s.Ok q σ) : (s.gateWrite n off w).Ok q σ := by
  have k := State.writeEach_ok (p := pGate n) (fs := s.fieldsOf (pGate n) off) (w := w)
    (g := State.gateField n w (s.on (pGate n) GATE.DRIVE_SLEW_EN)) h (fun t f v ht => State.gateField_ok ht)
  unfold State.gateWrite
  refine okIte (fun _ => ?_) (fun _ => okIte (fun _ => State.directTest_ok h)
    (fun _ => okIte (fun _ => State.inEnv_ok (State.inEnv_ok k))
        (fun _ => okIte (fun _ => State.tripAct_ok k) (fun _ => k))))
  simp_all +contextual (maxDischargeDepth := 99) only [okIte, State.latchClr_ok, State.diagGo_ok, State.cstGo_ok,
      implies_true]

theorem State.ouvCstGo_ok {s : State} (h0 : s.Ok q σ) : (State.ouvCstGo s).Ok q σ := by
  unfold State.ouvCstGo
  repeat' split
  all_goals simp_all +contextual (maxDischargeDepth := 99) only [okMk, okFold, State.setFld_ok]

theorem State.showRevg_ok {s : State} (h0 : s.Ok q σ) : (State.showRevg s).Ok q σ := by
  unfold State.showRevg
  repeat' split
  all_goals simp_all +contextual (maxDischargeDepth := 99) only [State.setFld_ok]

theorem State.ouvWrite_ok {s : State} {a : Acc} {off : Nat} {w : Nat} (h0 : s.Ok q σ) :
    (State.ouvWrite s a off w).Ok q σ := by
  unfold State.ouvWrite
  repeat' split
  all_goals simp_all +contextual (maxDischargeDepth := 99) only [State.ouvCstGo_ok, State.showRevg_ok,
      State.plainWrite_ok]

theorem State.driveWrite_ok {s : State} {a : Acc} {p : Nat} {off : Nat} {w : Nat} (h0 : s.Ok q σ) :
    (State.driveWrite s a p off w).Ok q σ := by
  unfold State.driveWrite
  repeat' split
  all_goals simp_all +contextual (maxDischargeDepth := 99) only [State.motorWrite_ok, State.pwmWrite_ok,
      State.gateWrite_ok, State.ouvWrite_ok]

theorem State.slotAbort_ok {s : State} {k : Nat} (h : s.Ok q σ) : (s.slotAbort k).Ok q σ := by
  unfold State.slotAbort
  refine okFoldl (fun t x ht => ?_) h
  split
  · exact okIte (fun _ => State.abortRun_ok ht) (fun _ => ht)
  · exact ht

theorem State.loadFail_ok {s : State} {k : Nat} {code : Nat} {who : Nat} (h0 : s.Ok q σ) :
    (State.loadFail s k code who).Ok q σ := by
  unfold State.loadFail
  repeat' split
  all_goals simp_all +contextual (maxDischargeDepth := 99) only [State.setFld_ok, State.raiseBy_ok]

theorem State.load__ok {s : State} {k : Nat} {who : Nat} (h0 : s.Ok q σ) : (State.load_ s k who).Ok q σ := by
  unfold State.load_
  repeat' split
  all_goals simp_all +contextual (maxDischargeDepth := 99) only [okMk, okFold, okIte, implies_true,
      State.loadFail_ok, State.setFld_ok, State.setPv_ok]

theorem State.launchTile_ok {s : State} {k : Nat} {g : SlotImg} {n t r : Nat} (h : s.Ok q σ) :
    (s.launchTile k g n t r).Ok q σ := by
  unfold State.launchTile
  have hz : ∀ (l : List Nat) (z : TileSt) (f : Nat → Nat) (c : List Byte), Tab.wf (0 : Byte) z.sram = true →
      Tab.wf (0 : Byte) (l.foldl (fun (z : TileSt) j => z.put (f j) c) z).sram = true := by
    intro l
    induction l with
    | nil => exact fun _ _ _ hz => hz
    | cons j l ih => exact fun z f c hz => ih _ f c (TileSt.put_wf _ _ _ hz)
  refine State.tileState_ok
      (okFoldl (fun t x ht => State.setFld_ok ht) (State.setFld_ok (State.setFld_ok (State.setTl_ok h ?_))))
  refine hz _ _ _ _ ?_
  dsimp only
  exact Tab.wf_keep _ _ _ (State.tl_wf h t)

theorem State.recordLost_ok {s : State} {a1 : Nat} (h0 : s.Ok q σ) : (State.recordLost s a1).Ok q σ := by
  unfold State.recordLost
  repeat' split
  all_goals simp_all +contextual (maxDischargeDepth := 99) only [State.raiseBy_ok, State.setRunFlag_ok,
      State.setFld_ok, State.setPv_ok]

theorem State.recordStart_ok {s : State} {a1 : Nat} {r : RunSt} (h0 : s.Ok q σ) :
    (State.recordStart s a1 r).Ok q σ := by
  unfold State.recordStart
  repeat' split
  all_goals simp_all +contextual (maxDischargeDepth := 99) only [State.recordLost_ok, State.dramStore_ok,
      State.dramAsk_ok, State.setPv_ok, State.setFld_ok]

theorem State.replayCheck_ok {s : State} {a1 : Nat} {r : RunSt} (h0 : s.Ok q σ) :
    (State.replayCheck s a1 r).Ok q σ := by
  unfold State.replayCheck
  repeat' split
  all_goals simp_all +contextual (maxDischargeDepth := 99) only [okIte, implies_true, State.setFld_ok,
      State.setPv_ok, State.raiseBy_ok, State.setFeed_ok]

theorem State.provLaunch_ok {s : State} {a1 : Nat} {r : RunSt} (h0 : s.Ok q σ) :
    (State.provLaunch s a1 r).Ok q σ := by
  unfold State.provLaunch
  repeat' split
  all_goals simp_all +contextual (maxDischargeDepth := 99) only [okIte, okFoldl, implies_true, State.setFld_ok,
      State.setPv_ok, State.recordStart_ok, State.replayCheck_ok]

theorem State.setRun_ok {s : State} {a1 : Nat} {r : RunSt} (h0 : s.Ok q σ) : (State.setRun s a1 r).Ok q σ := by
  unfold State.setRun
  repeat' split
  all_goals simp_all +contextual (maxDischargeDepth := 99) only [okMk, okFold]

theorem State.launch_ok {s : State} {k : Nat} {who : Nat} (h0 : s.Ok q σ) : (State.launch s k who).Ok q σ := by
  unfold State.launch
  repeat' split
  all_goals simp_all +contextual (maxDischargeDepth := 99) only [okIte, okFoldl, implies_true, State.raiseBy_ok,
      State.setFld_ok, State.launchTile_ok, State.setPair_ok, State.provLaunch_ok, State.setRun_ok]

theorem State.sieveCtrl_ok {s : State} {k : Nat} {w : Nat} {who : Nat} (h0 : s.Ok q σ) :
    (State.sieveCtrl s k w who).Ok q σ := by
  unfold State.sieveCtrl
  repeat' split
  all_goals simp_all +contextual (maxDischargeDepth := 99) only [State.slotAbort_ok, State.load__ok,
      State.raiseBy_ok, State.setFld_ok, State.launch_ok]

theorem State.sieveWrite_ok {s : State} {hh : Nat} {off : Nat} {w : Nat} (h0 : s.Ok q σ) :
    (State.sieveWrite s hh off w).Ok q σ := by
  unfold State.sieveWrite
  repeat' split
  all_goals simp_all +contextual (maxDischargeDepth := 99) only [okIte, implies_true, State.writeFields_ok,
      State.sieveCtrl_ok, State.setFld_ok, State.clampBit_ok]

theorem State.admCommit_ok {s : State} (h0 : s.Ok q σ) : (State.admCommit s).Ok q σ := by
  unfold State.admCommit
  repeat' split
  all_goals simp_all +contextual (maxDischargeDepth := 99) only [okMk, okFold, okIte, implies_true, State.setFld_ok,
      State.raiseBy_ok, State.raise_ok]

theorem State.admWrite_ok {s : State} {off : Nat} {w : Nat} (h0 : s.Ok q σ) : (State.admWrite s off w).Ok q σ := by
  grind [State.admWrite, State.writeFields_ok, State.admCommit_ok, State.writeIgnored_ok, State.setFld_ok,
      State.clampBit_ok]

theorem State.unlistQueue_ok {s : State} {n : Nat} (h0 : s.Ok q σ) : (State.unlistQueue s n).Ok q σ := by
  unfold State.unlistQueue
  repeat' split
  all_goals simp_all +contextual (maxDischargeDepth := 99) only [okMk, okFold, okFoldl, implies_true]

theorem State.qRenew_ok {s : State} {n : Nat} (h0 : s.Ok q σ) : (State.qRenew s n).Ok q σ := by
  unfold State.qRenew
  repeat' split
  all_goals simp_all +contextual (maxDischargeDepth := 99) only [State.unlistQueue_ok, State.clearRegs_ok,
      State.setQ_ok]

theorem State.qeWrite_ok {s : State} {off : Nat} {w : Nat} (h0 : s.Ok q σ) : (State.qeWrite s off w).Ok q σ := by
  unfold State.qeWrite
  repeat' split
  all_goals simp_all +contextual (maxDischargeDepth := 99) only [okIte, okFoldl, implies_true, State.setFld_ok,
      State.qRenew_ok, State.lockViol_ok, State.clampBit_ok, State.writeFields_ok]

theorem State.qEmpty_ok {s : State} {n : Nat} (h0 : s.Ok q σ) : (State.qEmpty s n).Ok q σ := by
  unfold State.qEmpty
  repeat' split
  all_goals simp_all +contextual (maxDischargeDepth := 99) only [State.unlistQueue_ok, State.setQ_ok]

theorem State.qCfgWrite_ok {s : State} {n : Nat} {w : Nat} {hh : Nat} (h0 : s.Ok q σ) :
    (State.qCfgWrite s n w hh).Ok q σ := by
  unfold State.qCfgWrite
  repeat' split
  all_goals simp_all +contextual (maxDischargeDepth := 99) only [okIte, implies_true, State.qEvent_ok,
      State.setFld_ok, State.setQ_ok, State.qEmpty_ok]

theorem State.qLockedWrite_ok {s : State} {n : Nat} {f : Fld} {w : Nat} {hh : Nat} (h0 : s.Ok q σ) :
    (State.qLockedWrite s n f w hh).Ok q σ := by
  unfold State.qLockedWrite
  repeat' split
  all_goals simp_all +contextual (maxDischargeDepth := 99) only [State.qEvent_ok, State.setFld_ok]

theorem State.qFlush_ok {s : State} {n : Nat} (h0 : s.Ok q σ) : (State.qFlush s n).Ok q σ := by
  unfold State.qFlush
  repeat' split
  all_goals simp_all +contextual (maxDischargeDepth := 99) only [State.qAbandon_ok, State.setQ_ok, State.qTouch_ok,
      State.unlistQueue_ok]

theorem State.qMark_ok {s : State} {n : Nat} (h0 : s.Ok q σ) : (State.qMark s n).Ok q σ := by
  unfold State.qMark
  repeat' split
  all_goals simp_all +contextual (maxDischargeDepth := 99) only [State.setQ_ok]

theorem State.qRewind_ok {s : State} {n : Nat} (h0 : s.Ok q σ) : (State.qRewind s n).Ok q σ := by
  unfold State.qRewind
  repeat' split
  all_goals (try dsimp only)
  repeat' split
  all_goals simp_all +contextual (maxDischargeDepth := 99) only [State.qTouch_ok, State.setQ_ok]
  all_goals (repeat' split)
  all_goals simp_all +contextual (maxDischargeDepth := 99) only [State.tl_wf (q := q) (σ := σ), TileSt.put_wf,
      Tab.wf_keep, TileSt.reset_wf, okMk, okFold, okIte, okFoldl, okNext, okIteOut, okSome, okNone, implies_true,
      State.qTouch_ok, State.setQ_ok]

theorem State.qRelease_ok {s : State} {n : Nat} (h0 : s.Ok q σ) : (State.qRelease s n).Ok q σ := by
  unfold State.qRelease
  repeat' split
  all_goals simp_all +contextual (maxDischargeDepth := 99) only [State.setQ_ok]

theorem State.qehWrite_ok {s : State} {hh p off w : Nat} (h : s.Ok q σ) : (s.qehWrite hh p off w).Ok q σ := by
  unfold State.qehWrite
  refine okIte (fun _ => State.writeFields_ok h) (fun _ => ?_)
  refine okIte (fun _ => State.qCfgWrite_ok h) (fun _ => ?_)
  refine okIte (fun _ => State.qLockedWrite_ok h) (fun _ => ?_)
  refine okIte (fun _ => State.qLockedWrite_ok h) (fun _ => ?_)
  refine okIte (fun _ => State.qLockedWrite_ok h) (fun _ => ?_)
  refine okIte (fun _ => okIte (fun _ => State.writeIgnored_ok h) (fun _ => State.setFld_ok h)) (fun _ => ?_)
  refine okIte (fun _ => State.setFld_ok (okIte (fun _ => State.clampBit_ok (State.setFld_ok (State.setFld_ok h)))
    (fun _ => State.setFld_ok (State.setFld_ok h)))) (fun _ => ?_)
  refine okIte (fun _ => State.qTouch_ok (State.setFld_ok h)) (fun _ => ?_)
  refine okIte (fun _ => ?_) (fun _ => State.writeFields_ok h)
  have a : ∀ c : Prop, [Decidable c] → ∀ t u : State, t.Ok q σ → (t.Ok q σ → u.Ok q σ) →
      (if c then u else t).Ok q σ :=
    fun c _ t u ht hu => okIte (fun _ => hu ht) (fun _ => ht)
  exact a _ _ _ (a _ _ _ (a _ _ _ (a _ _ _ h State.qFlush_ok) State.qMark_ok) State.qRewind_ok) State.qRelease_ok

theorem State.slotCtrlWrite_ok {s : State} {p : Nat} {k : Nat} {w : Nat} {hh : Nat} (h0 : s.Ok q σ) :
    (State.slotCtrlWrite s p k w hh).Ok q σ := by
  unfold State.slotCtrlWrite
  repeat' split
  all_goals simp_all +contextual (maxDischargeDepth := 99) only [okIte, implies_true, State.setFld_ok,
      State.clampBit_ok, State.setSlot_ok, State.raiseBy_ok, State.idleSlot_ok]

theorem State.schImmediate_ok {s : State} {p : Nat} (h0 : s.Ok q σ) : (State.schImmediate s p).Ok q σ := by
  unfold State.schImmediate
  repeat' split
  all_goals simp_all +contextual (maxDischargeDepth := 99) only [State.schApply_ok]

theorem State.cirWrite_ok {s : State} {p : Nat} {k : Nat} {f : Fld} {v : Nat} {new : Nat} {hh : Nat} (h0 : s.Ok q σ)
    : (State.cirWrite s p k f v new hh).Ok q σ := by
  unfold State.cirWrite
  repeat' split
  all_goals simp_all +contextual (maxDischargeDepth := 99) only [okIte, implies_true, State.raiseBy_ok,
      State.setShadow_ok]

theorem State.sizeWrite_ok {s : State} {g : Nat} {f : Fld} {v : Nat} (h0 : s.Ok q σ) :
    (State.sizeWrite s g f v).Ok q σ := by
  unfold State.sizeWrite
  repeat' split
  all_goals simp_all +contextual (maxDischargeDepth := 99) only [State.setShadow_ok, State.clampBit_ok]

theorem State.slotWrite_ok {s : State} {hh : Nat} {p : Nat} {k : Nat} {r : Nat} {w : Nat} (h0 : s.Ok q σ) :
    (State.slotWrite s hh p k r w).Ok q σ := by
  unfold State.slotWrite
  repeat' split
  all_goals simp_all +contextual (maxDischargeDepth := 99) only [okIte, implies_true, State.raiseBy_ok,
      State.setFld_ok, State.slotCtrlWrite_ok, State.schImmediate_ok, State.cirWrite_ok, State.setShadow_ok,
      State.sizeWrite_ok, State.writeFields_ok]

theorem State.schWrite_ok {s : State} {hh : Nat} {g : Nat} {off : Nat} {w : Nat} (h0 : s.Ok q σ) :
    (State.schWrite s hh g off w).Ok q σ := by
  unfold State.schWrite
  repeat' split
  all_goals simp_all +contextual (maxDischargeDepth := 99) only [okIte, implies_true, State.slotWrite_ok,
      State.lockViol_ok, State.setFld_ok, State.clampBit_ok, State.writeFields_ok]

theorem State.setRing_ok {s : State} {k : Nat} {a2 : RingSt} (h0 : s.Ok q σ) : (State.setRing s k a2).Ok q σ := by
  unfold State.setRing
  repeat' split
  all_goals simp_all +contextual (maxDischargeDepth := 99) only [okMk, okFold]

theorem State.ringOff_ok {s : State} {k : Nat} (h0 : s.Ok q σ) : (State.ringOff s k).Ok q σ := by
  unfold State.ringOff
  repeat' split
  all_goals simp_all +contextual (maxDischargeDepth := 99) only [State.setRing_ok, State.setFld_ok]

theorem State.ringsLost_ok {s : State} {off : Nat} {w : Nat} (h0 : s.Ok q σ) : (State.ringsLost s off w).Ok q σ := by
  unfold State.ringsLost
  repeat' split
  all_goals simp_all +contextual (maxDischargeDepth := 99) only [okIte, okFoldl, implies_true, State.ringOff_ok]

theorem State.setPolB_ok {s : State} {k : Nat} {a2 : Nat} {b : Buckets} (h0 : s.Ok q σ) :
    (State.setPolB s k a2 b).Ok q σ := by
  unfold State.setPolB
  repeat' split
  all_goals simp_all +contextual (maxDischargeDepth := 99) only [okMk, okFold]

theorem State.polWrite_ok {s : State} {g : Nat} {off : Nat} {w : Nat} (h0 : s.Ok q σ) :
    (State.polWrite s g off w).Ok q σ := by
  unfold State.polWrite
  repeat' split
  all_goals simp_all +contextual (maxDischargeDepth := 99) only [okIte, okFoldl, implies_true, State.setFld_ok,
      State.lockViol_ok, State.clampBit_ok, State.sizeWrite_ok, State.applyShadows_ok, State.writeFields_ok,
      State.setPolB_ok]

theorem State.fabWrite_ok {s : State} {off : Nat} {w : Nat} (h0 : s.Ok q σ) : (State.fabWrite s off w).Ok q σ := by
  unfold State.fabWrite
  repeat' split
  all_goals simp_all +contextual (maxDischargeDepth := 99) only [State.writeFields_ok, State.send_ok, State.setFld_ok]

theorem State.fabpWrite_ok {s : State} {k : Nat} {off : Nat} {w : Nat} (h0 : s.Ok q σ) :
    (State.fabpWrite s k off w).Ok q σ := by
  unfold State.fabpWrite
  repeat' split
  all_goals simp_all +contextual (maxDischargeDepth := 99) only [State.writeFields_ok]

theorem State.discWrite_ok {s : State} {off : Nat} {w : Nat} (h0 : s.Ok q σ) : (State.discWrite s off w).Ok q σ := by
  unfold State.discWrite
  repeat' split
  all_goals simp_all +contextual (maxDischargeDepth := 99) only [State.writeFields_ok]

theorem State.constLeave_ok {s : State} (h0 : s.Ok q σ) : (State.constLeave s).Ok q σ := by
  unfold State.constLeave
  repeat' split
  all_goals simp_all +contextual (maxDischargeDepth := 99) only [okMk, okFold, State.raise_ok, State.setCState_ok]

theorem State.constJoin_ok {s : State} (h0 : s.Ok q σ) : (State.constJoin s).Ok q σ := by
  unfold State.constJoin
  repeat' split
  all_goals simp_all +contextual (maxDischargeDepth := 99) only [State.constWait_ok]

theorem State.constCtrl_ok {s : State} {w : Nat} (h0 : s.Ok q σ) : (State.constCtrl s w).Ok q σ := by
  unfold State.constCtrl
  repeat' split
  all_goals simp_all +contextual (maxDischargeDepth := 99) only [State.setFld_ok, State.constLeave_ok,
      State.constJoin_ok]

theorem State.constWrite_ok {s : State} {off : Nat} {w : Nat} (h0 : s.Ok q σ) :
    (State.constWrite s off w).Ok q σ := by
  unfold State.constWrite
  repeat' split
  all_goals simp_all +contextual (maxDischargeDepth := 99) only [okIte, implies_true, State.writeFields_ok,
      State.constEnable_ok, State.constCtrl_ok, State.constShow_ok]

theorem State.ringCfgWrite_ok {s : State} {pg : Nat} {k : Nat} {w : Nat} (h0 : s.Ok q σ) :
    (State.ringCfgWrite s pg k w).Ok q σ := by
  unfold State.ringCfgWrite
  repeat' split
  all_goals simp_all +contextual (maxDischargeDepth := 99) only [okIte, implies_true, State.setFld_ok,
      State.clampBit_ok, State.ringOff_ok]

theorem State.ringErr_ok {s : State} {k : Nat} {hh : Nat} (h0 : s.Ok q σ) : (State.ringErr s k hh).Ok q σ := by
  unfold State.ringErr
  repeat' split
  all_goals simp_all +contextual (maxDischargeDepth := 99) only [okIte, implies_true, State.raiseBy_ok]

theorem State.ringHeadWrite_ok {s : State} {k : Nat} {v : Nat} {hh : Nat} (h0 : s.Ok q σ) :
    (State.ringHeadWrite s k v hh).Ok q σ := by
  unfold State.ringHeadWrite
  repeat' split
  all_goals simp_all +contextual (maxDischargeDepth := 99) only [okIte, implies_true, State.setFld_ok,
      State.ringErr_ok]

theorem State.ringRegWrite_ok {s : State} {pg : Nat} {hh : Nat} {k : Nat} {r : Nat} {w : Nat} (h0 : s.Ok q σ) :
    (State.ringRegWrite s pg hh k r w).Ok q σ := by
  unfold State.ringRegWrite
  repeat' split
  all_goals simp_all +contextual (maxDischargeDepth := 99) only [okIte, implies_true, State.ringCfgWrite_ok,
      State.setFld_ok, State.clampBit_ok, State.ringHeadWrite_ok]

theorem State.hostWrite_ok {s : State} {hh : Nat} {off : Nat} {w : Nat} (h0 : s.Ok q σ) :
    (State.hostWrite s hh off w).Ok q σ := by
  unfold State.hostWrite
  repeat' split
  all_goals simp_all +contextual (maxDischargeDepth := 99) only [okIte, implies_true, State.ringRegWrite_ok,
      State.lockViol_ok, State.setFld_ok, State.clampBit_ok, State.writeFields_ok]

theorem State.setMb_ok {s : State} {a1 : Nat} {m : Nat} {a3 : MbSt} (h0 : s.Ok q σ) :
    (State.setMb s a1 m a3).Ok q σ := by
  unfold State.setMb
  repeat' split
  all_goals simp_all +contextual (maxDischargeDepth := 99) only [okMk, okFold]

theorem State.mbCfgWrite_ok {s : State} {a1 : Nat} {m : Nat} {w : Nat} (h0 : s.Ok q σ) :
    (State.mbCfgWrite s a1 m w).Ok q σ := by
  unfold State.mbCfgWrite
  repeat' split
  all_goals simp_all +contextual (maxDischargeDepth := 99) only [okIte, implies_true, State.setFld_ok, State.setMb_ok]

theorem State.hhWrite_ok {s : State} {hh : Nat} {p : Nat} {off : Nat} {w : Nat} (h0 : s.Ok q σ) :
    (State.hhWrite s hh p off w).Ok q σ := by
  unfold State.hhWrite
  repeat' split
  all_goals simp_all +contextual (maxDischargeDepth := 99) only [State.ringRegWrite_ok, State.mbCfgWrite_ok,
      State.setFld_ok, State.clampBit_ok, State.writeFields_ok]

theorem State.endSession_ok {s : State} (h0 : s.Ok q σ) : (State.endSession s).Ok q σ := by
  unfold State.endSession
  repeat' split
  all_goals simp_all +contextual (maxDischargeDepth := 99) only [State.raise_ok, State.setFld_ok]

theorem State.haltRun_ok {s : State} {a1 : Nat} {cause : Nat} {t : Nat} (h0 : s.Ok q σ) :
    (State.haltRun s a1 cause t).Ok q σ := by
  unfold State.haltRun
  repeat' split
  all_goals simp_all +contextual (maxDischargeDepth := 99) only [State.tl_wf (q := q) (σ := σ), okFoldl,
      implies_true, State.setTl_ok, State.setRun_ok]

theorem State.haltReq_ok {s : State} {a1 : Nat} (h0 : s.Ok q σ) : (State.haltReq s a1).Ok q σ := by
  unfold State.haltReq
  repeat' split
  all_goals simp_all +contextual (maxDischargeDepth := 99) only [State.haltRun_ok]

theorem State.resumeRun_ok {s : State} {a1 : Nat} (h0 : s.Ok q σ) : (State.resumeRun s a1).Ok q σ := by
  unfold State.resumeRun
  repeat' split
  all_goals simp_all +contextual (maxDischargeDepth := 99) only [State.tl_wf (q := q) (σ := σ), okIte, okFoldl,
      implies_true, State.setTl_ok, State.tileState_ok, State.raiseBy_ok, State.setFld_ok, State.setPair_ok,
      State.setRun_ok]

theorem State.stepRun_ok {s : State} {a1 : Nat} (h0 : s.Ok q σ) : (State.stepRun s a1).Ok q σ := by
  unfold State.stepRun
  repeat' split
  all_goals simp_all +contextual (maxDischargeDepth := 99) only [State.tl_wf (q := q) (σ := σ), okFoldl,
      implies_true, State.setTl_ok, State.setFld_ok, State.setRun_ok]

theorem State.runCtrlWrite_ok {s : State} {a1 : Nat} {w : Nat} (h0 : s.Ok q σ) :
    (State.runCtrlWrite s a1 w).Ok q σ := by
  unfold State.runCtrlWrite
  repeat' split
  all_goals simp_all +contextual (maxDischargeDepth := 99) only [State.setFld_ok, State.haltReq_ok,
      State.resumeRun_ok, State.stepRun_ok]

theorem State.ctxDataWrite_ok {s : State} {a1 : Nat} {hi : Bool} {w : Nat} (h0 : s.Ok q σ) :
    (State.ctxDataWrite s a1 hi w).Ok q σ := by
  unfold State.ctxDataWrite
  repeat' split
  all_goals simp_all +contextual (maxDischargeDepth := 99) only [State.tl_wf (q := q) (σ := σ), okIte, implies_true,
      State.setTl_ok, State.raiseBy_ok]

theorem State.keyWrite_ok {s : State} {k : Nat} {i : Nat} {w : Nat} (h0 : s.Ok q σ) :
    (State.keyWrite s k i w).Ok q σ := by
  unfold State.keyWrite
  repeat' split
  all_goals simp_all +contextual (maxDischargeDepth := 99) only [okMk, okFold, okIte, implies_true,
      State.lockViol_ok, State.endSession_ok, State.orFld_ok, State.setFld_ok]

theorem State.debugWrite_ok {s : State} {off : Nat} {w : Nat} (h0 : s.Ok q σ) :
    (State.debugWrite s off w).Ok q σ := by
  unfold State.debugWrite
  repeat' split
  all_goals simp_all +contextual (maxDischargeDepth := 99) only [okIte, implies_true, State.endSession_ok,
      State.runCtrlWrite_ok, State.ctxDataWrite_ok, State.writeFields_ok, State.keyWrite_ok]

theorem State.offerNotify_ok {s : State} {node : Nat} {dst : Nat} {arg : Nat} (h0 : s.Ok q σ) :
    (State.offerNotify s node dst arg).Ok q σ := by
  unfold State.offerNotify
  repeat' split
  all_goals simp_all +contextual (maxDischargeDepth := 99) only [State.offer_ok]

theorem State.sendSummary_ok {s : State} (h0 : s.Ok q σ) : (State.sendSummary s).Ok q σ := by
  unfold State.sendSummary
  repeat' split
  all_goals simp_all +contextual (maxDischargeDepth := 99) only [State.offerNotify_ok]

theorem State.summarise_ok {s : State} (h0 : s.Ok q σ) : (State.summarise s).Ok q σ := by
  unfold State.summarise
  repeat' split
  all_goals simp_all +contextual (maxDischargeDepth := 99) only [okIte, implies_true, State.sendSummary_ok,
      State.setFld_ok]

theorem State.noteFaultn_ok {s : State} (h0 : s.Ok q σ) : (State.noteFaultn s).Ok q σ := by
  unfold State.noteFaultn
  repeat' split
  all_goals simp_all +contextual (maxDischargeDepth := 99) only [okMk, okFold]

theorem State.faultWrite_ok {s : State} {off : Nat} {w : Nat} (h0 : s.Ok q σ) :
    (State.faultWrite s off w).Ok q σ := by
  unfold State.faultWrite
  repeat' split
  all_goals simp_all +contextual (maxDischargeDepth := 99) only [State.summarise_ok, State.writeFields_ok,
      State.noteFaultn_ok]

theorem State.refmonWrite_ok {s : State} {off : Nat} {w : Nat} (h0 : s.Ok q σ) :
    (State.refmonWrite s off w).Ok q σ := by
  unfold State.refmonWrite
  repeat' split
  all_goals simp_all +contextual (maxDischargeDepth := 99) only [State.writeFields_ok, State.setFld_ok]

theorem State.blockWrite_ok {hr : State → Nat → State} {s : State} {a : Acc} {p : Nat} {off : Nat} {w : Nat}
    {a6 : Blk} (h0 : ∀ (t0 : State) (t1 : Nat), t0.Ok q σ → (hr t0 t1).Ok q σ) (h1 : s.Ok q σ) :
    (State.blockWrite hr s a p off w a6).Ok q σ := by
  unfold State.blockWrite
  repeat' split
  all_goals simp_all +contextual (maxDischargeDepth := 99) only [okFoldl, implies_true, State.resetCtrl_ok,
      State.writeFields_ok, State.vmLimits_ok, State.timeWrite_ok, State.dawnReq_ok, State.nocWrite_ok,
      State.condition_ok, State.axisWrite_ok, State.ephWrite_ok, State.armWrite_ok, State.schedWrite_ok,
      State.ingestWrite_ok, State.whbWrite_ok, State.driveWrite_ok, State.sieveWrite_ok, State.admWrite_ok,
      State.qeWrite_ok, State.qehWrite_ok, State.schWrite_ok, State.ringsLost_ok, State.polWrite_ok,
      State.fabWrite_ok, State.fabpWrite_ok, State.discWrite_ok, State.constWrite_ok, State.provWrite_ok,
      State.hostWrite_ok, State.hhWrite_ok, State.debugWrite_ok, State.faultWrite_ok, State.refmonWrite_ok]

theorem State.wordWrite_ok {hr : State → Nat → State} {s : State} {a : Acc} {p : Nat} {off : Nat} {w : Nat}
    (h0 : ∀ (t0 : State) (t1 : Nat), t0.Ok q σ → (hr t0 t1).Ok q σ) (h1 : s.Ok q σ) :
    (State.wordWrite hr s a p off w).Ok q σ := by
  unfold State.wordWrite
  repeat' split
  all_goals simp_all +contextual (maxDischargeDepth := 99) only [implies_true, State.headerWrite_ok,
      State.blockWrite_ok]

theorem State.regWrite_ok {hr : State → Nat → State} {s : State} {a : Acc} {addr : Nat} {p : Nat}
    {ws : List (Nat × Nat)} (h0 : ∀ (t0 : State) (t1 : Nat), t0.Ok q σ → (hr t0 t1).Ok q σ) (h1 : s.Ok q σ) :
    (State.regWrite hr s a addr p ws).Ok q σ := by
  unfold State.regWrite
  repeat' split
  all_goals simp_all +contextual (maxDischargeDepth := 99) only [okIte, okFoldl, implies_true, State.denial_ok,
      State.wordWrite_ok, State.setFld_ok]

theorem State.readSidLo_ok {s : State} {a : Acc} {ident : Nat} {both : Bool} (h0 : s.Ok q σ) :
    (State.readSidLo s a ident both).Ok q σ := by
  unfold State.readSidLo
  repeat' split
  all_goals simp_all +contextual (maxDischargeDepth := 99) only [okMk, okFold, State.answer_ok]

theorem State.ctxDataRead_ok {s : State} {a1 : Nat} {hi : Bool} (h0 : s.Ok q σ) :
    (State.ctxDataRead s a1 hi).2.Ok q σ := by
  unfold State.ctxDataRead
  repeat' split
  all_goals simp_all +contextual (maxDischargeDepth := 99) only [State.drew_ok, State.raiseBy_ok]

theorem State.clearRead_ok {s : State} {p : Nat} {off : Nat} (h0 : s.Ok q σ) : (State.clearRead s p off).Ok q σ := by
  unfold State.clearRead
  repeat' split
  all_goals simp_all +contextual (maxDischargeDepth := 99) only [okFoldl, implies_true, State.setFld_ok]

theorem State.wordRead_ok {s : State} {a : Acc} {p : Nat} {off : Nat} (h0 : s.Ok q σ) :
    (State.wordRead s a p off).2.Ok q σ := by
  unfold State.wordRead
  repeat' split
  all_goals simp_all +contextual (maxDischargeDepth := 99) only [State.ctxDataRead_ok, State.clearRead_ok,
      State.drew_ok]

theorem State.regRead_ok {s : State} {a : Acc} {addr : Nat} {p : Nat} {off : Nat} {wide : Bool} (h0 : s.Ok q σ) :
    (State.regRead s a addr p off wide).Ok q σ := by
  unfold State.regRead
  repeat' split
  all_goals simp_all +contextual (maxDischargeDepth := 99) only [State.denial_ok, State.readSidLo_ok,
      State.wordRead_ok, State.answer_ok]

theorem State.pageAccess_ok {hr : State → Nat → State} {s : State} {i : Instr} {a : Acc} {addr : Nat} {o : Nat}
    {n : Nat} {write : Bool} {v : Nat} (h0 : ∀ (t0 : State) (t1 : Nat), t0.Ok q σ → (hr t0 t1).Ok q σ)
    (h1 : s.Ok q σ) : (State.pageAccess hr s i a addr o n write v).Ok q σ := by
  unfold State.pageAccess
  repeat' split
  all_goals (try dsimp only)
  repeat' split
  all_goals simp_all +contextual (maxDischargeDepth := 99) only [okMk, okFold, implies_true, State.decodeError_ok,
      State.serve_ok, State.regWrite_ok, State.regRead_ok, State.denial_ok]
  all_goals (repeat' split)
  all_goals simp_all +contextual (maxDischargeDepth := 99) only [State.tl_wf (q := q) (σ := σ), TileSt.put_wf,
      Tab.wf_keep, TileSt.reset_wf, okMk, okFold, okIte, okFoldl, okNext, okIteOut, okSome, okNone, implies_true,
      State.decodeError_ok, State.serve_ok, State.regWrite_ok, State.regRead_ok, State.denial_ok]

theorem State.windowAccess_ok {s : State} {a : Acc} {addr o n : Nat} {write : Bool} {data : List Byte}
    (h : s.Ok q σ) : (s.windowAccess a addr o n write data).Ok q σ := by
  unfold State.windowAccess
  refine okIte (fun _ => State.decodeError_ok h) (fun _ => okIte (fun _ => State.decodeError_ok h) (fun _ =>
    okIte (fun _ => State.decodeError_ok h)
        (fun _ => okIte (fun _ => State.decodeError_ok h) (fun _ => okIte (fun _ => ?_)
    (fun _ => okIte (fun _ => State.denial_ok h) (fun _ => okIte (fun _ => ?_) (fun _ => State.answer_ok h)))))))
  · simp only [okMk, okFold]; exact h
  · refine State.answer_ok (okIte (fun _ => h) (fun _ => ?_))
    rw [okMk]
    exact ⟨h.1, h.2, h.3, h.4, h.5, h.6, h.7, h.8,
      Tab.wf_foldl (0 : Byte) _ (fun e : Nat × Byte => e.2) (fun e => o - 0x1000 + e.1) _ h.req, h.10, h.11⟩

theorem State.portAccess_ok {s : State} {i : Instr} {a : Acc} {n : Nat} {addr : Nat} {bytes : Nat} {room : Nat}
    {write : Bool} {k : State → State} (h0 : s.Ok q σ) (h8 : ∀ (t0 : State), t0.Ok q σ → (k t0).Ok q σ) :
    (State.portAccess s i a n addr bytes room write k).Ok q σ := by
  unfold State.portAccess
  repeat' split
  all_goals simp_all +contextual (maxDischargeDepth := 99) only [okMk, okFold, State.decodeError_ok, State.answer_ok,
      State.denial_ok]

theorem State.spillRead_ok {s : State} {n : Nat} {b : Nat} {client : Nat} (h0 : s.Ok q σ) :
    (State.spillRead s n b client).Ok q σ := by
  unfold State.spillRead
  repeat' split
  all_goals simp_all +contextual (maxDischargeDepth := 99) only [State.dramAsk_ok, State.setQ_ok]

theorem State.spillReturned_ok {s : State} {n : Nat} {b : Nat} {status : Nat} {flits : Nat} {client : Nat}
    (h0 : s.Ok q σ) : (State.spillReturned s n b status flits client).Ok q σ := by
  unfold State.spillReturned
  repeat' split
  all_goals simp_all +contextual (maxDischargeDepth := 99) only [okIte, implies_true, State.dramDone_ok,
      State.setQ_ok, State.spillErrInfo_ok, State.raise_ok]

theorem State.pullBlock_ok {s : State} {n : Nat} {client : Nat} (h0 : s.Ok q σ) :
    (State.pullBlock s n client).Ok q σ := by
  unfold State.pullBlock
  repeat' split
  all_goals simp_all +contextual (maxDischargeDepth := 99) only [okIte, implies_true, State.spillWritten_ok,
      State.spillRead_ok, State.spillReturned_ok]

theorem State.pull_ok {s : State} {n k off cnt client f : Nat} (h : s.Ok q σ) :
    (s.pull n k off cnt client f).Ok q σ := by
  induction f generalizing s with
  | zero => exact h
  | succ f ih =>
    rw [State.pull]
    exact okIte (fun _ => ih (State.pullBlock_ok h)) (fun _ => h)

theorem State.popStreamFor_ok {s : State} {n : Nat} {nw : Nat} {client : Nat} {hh : Nat} (h0 : s.Ok q σ) :
    (State.popStreamFor s n nw client hh).Ok q σ := by
  unfold State.popStreamFor
  repeat' split
  all_goals (try dsimp only)
  repeat' split
  all_goals simp_all +contextual (maxDischargeDepth := 99) only [State.popReply_ok, State.setQ_ok, State.pull_ok,
      State.qEvent_ok, State.qTouch_ok]
  all_goals (repeat' split)
  all_goals simp_all +contextual (maxDischargeDepth := 99) only [State.tl_wf (q := q) (σ := σ), TileSt.put_wf,
      Tab.wf_keep, TileSt.reset_wf, okMk, okFold, okIte, okFoldl, okNext, okIteOut, okSome, okNone, implies_true,
      State.popReply_ok, State.setQ_ok, State.pull_ok, State.qEvent_ok, State.qTouch_ok]

theorem State.popStream_ok {s : State} {n : Nat} {nw : Nat} {hh : Nat} (h0 : s.Ok q σ) :
    (State.popStream s n nw hh).Ok q σ := by
  unfold State.popStream
  repeat' split
  all_goals simp_all +contextual (maxDischargeDepth := 99) only [State.popStreamFor_ok]

theorem State.popAccess_ok {s : State} {a : Acc} {n : Nat} {addr : Nat} {nw : Nat} (h0 : s.Ok q σ) :
    (State.popAccess s a n addr nw).Ok q σ := by
  unfold State.popAccess
  repeat' split
  all_goals simp_all +contextual (maxDischargeDepth := 99) only [okMk, okFold, State.popStream_ok, State.denial_ok]

theorem State.portBus_ok {s : State} {i : Instr} {a : Acc} {ag : Nat} {addr : Nat} {o : Nat} {n : Nat}
    {write : Bool} {data : List Byte} {bad : Bool} {stall : optParam Nat 0} (h0 : s.Ok q σ) :
    (State.portBus s i a ag addr o n write data bad stall).Ok q σ := by
  unfold State.portBus
  repeat' split
  all_goals simp_all +contextual (maxDischargeDepth := 99) only [okIte, implies_true, State.decodeError_ok,
      State.portAccess_ok, State.qPush_ok, State.popAccess_ok]

theorem State.mbConsume_ok {s : State} {a1 : Nat} {m : Nat} (h0 : s.Ok q σ) : (State.mbConsume s a1 m).Ok q σ := by
  unfold State.mbConsume
  repeat' split
  all_goals simp_all +contextual (maxDischargeDepth := 99) only [okIte, implies_true, State.setMb_ok, State.bump_ok]

theorem State.mbRead_ok {s : State} {i : Instr} {a : Acc} {a3 : Nat} {m : Nat} {consume : Bool} {off : Nat}
    {bytes : Nat} (h0 : s.Ok q σ) : (State.mbRead s i a a3 m consume off bytes).Ok q σ := by
  unfold State.mbRead
  repeat' split
  all_goals simp_all +contextual (maxDischargeDepth := 99) only [okMk, okFold, State.decodeError_ok, State.denial_ok,
      State.answer_ok, State.mbConsume_ok]

theorem State.mailBus_ok {s : State} {i : Instr} {a : Acc} {addr : Nat} {o : Nat} {n : Nat} {consume : Bool}
    {write : Bool} (h0 : s.Ok q σ) : (State.mailBus s i a addr o n consume write).Ok q σ := by
  unfold State.mailBus
  repeat' split
  all_goals (try dsimp only)
  repeat' split
  all_goals simp_all +contextual (maxDischargeDepth := 99) only [okMk, okFold, State.decodeError_ok, State.mbRead_ok]
  all_goals (repeat' split)
  all_goals simp_all +contextual (maxDischargeDepth := 99) only [State.tl_wf (q := q) (σ := σ), TileSt.put_wf,
      Tab.wf_keep, TileSt.reset_wf, okMk, okFold, okIte, okFoldl, okNext, okIteOut, okSome, okNone, implies_true,
      State.decodeError_ok, State.mbRead_ok]

theorem State.busAccess_ok {hr : State → Nat → State} {s : State} {i : Instr} {a : Acc} {ag : Nat} {addr : Nat}
    {n : Nat} {write : Bool} {data : List Byte} (h0 : ∀ (t0 : State) (t1 : Nat), t0.Ok q σ → (hr t0 t1).Ok q σ)
    (h1 : s.Ok q σ) : (State.busAccess hr s i a ag addr n write data).Ok q σ := by
  unfold State.busAccess
  repeat' split
  all_goals (try dsimp only)
  repeat' split
  all_goals simp_all +contextual (maxDischargeDepth := 99) only [okMk, okFold, implies_true, State.answer_ok,
      State.decodeError_ok, State.dramAccess_ok, State.sramAccess_ok, State.pageAccess_ok, State.wicketMark_ok,
      State.windowAccess_ok, State.portBus_ok, State.mailBus_ok]
  all_goals (repeat' split)
  all_goals simp_all +contextual (maxDischargeDepth := 99) only [State.tl_wf (q := q) (σ := σ), TileSt.put_wf,
      Tab.wf_keep, TileSt.reset_wf, okMk, okFold, okIte, okFoldl, okNext, okIteOut, okSome, okNone, implies_true,
      State.answer_ok, State.decodeError_ok, State.dramAccess_ok, State.sramAccess_ok, State.pageAccess_ok,
      State.wicketMark_ok, State.windowAccess_ok, State.portBus_ok, State.mailBus_ok]

theorem State.mxPerform_ok {hr : State → Nat → State} {s : State} {i : Instr} {r : MxReq}
    (h0 : ∀ (t0 : State) (t1 : Nat), t0.Ok q σ → (hr t0 t1).Ok q σ) (h1 : s.Ok q σ) :
    (State.mxPerform hr s i r).Ok q σ := by
  unfold State.mxPerform
  repeat' split
  all_goals simp_all +contextual (maxDischargeDepth := 99) only [implies_true, State.answer_ok, State.mirrorRead_ok,
      State.decodeError_ok, State.busAccess_ok]

theorem State.mxAnswered_ok {hr : State → Nat → State} {s : State} {i : Instr} {r : MxReq}
    (h0 : ∀ (t0 : State) (t1 : Nat), t0.Ok q σ → (hr t0 t1).Ok q σ) (h1 : s.Ok q σ) :
    (State.mxAnswered hr s i r).Ok q σ := by
  unfold State.mxAnswered
  repeat' split
  all_goals simp_all +contextual (maxDischargeDepth := 99) only [okMk, okFold, implies_true, State.rspParity_ok,
      State.mxFinish_ok, State.mxPerform_ok]

theorem State.wk_ok {s : State} {k : State → State} (h0 : s.Ok q σ) (h1 : ∀ (t0 : State), t0.Ok q σ → (k t0).Ok q σ)
    : (State.wk s k).Ok q σ := by
  unfold State.wk
  repeat' split
  all_goals simp_all +contextual (maxDischargeDepth := 99) only []

theorem State.wkReply_ok {s : State} {ack : Nat} {ws : List Nat} (h0 : s.Ok q σ) :
    (State.wkReply s ack ws).Ok q σ := by
  unfold State.wkReply
  repeat' split
  all_goals simp_all +contextual (maxDischargeDepth := 99) only [State.wkSend_ok]

theorem execWicketBusyLimit_ok {s : State} (h0 : s.Ok q σ) : OkOut q σ (execWicketBusyLimit s) := by
  unfold execWicketBusyLimit
  repeat' split
  all_goals simp_all +contextual (maxDischargeDepth := 99) only [okMk, okFold, okIte, okNext, implies_true,
      State.wk_ok, State.wkReply_ok]

theorem State.blockAccess_ok {s : State} {i : Instr} {a : Acc} {a3 : Nat} {r : Nat} {write : Bool}
    {k : State → State} (h0 : s.Ok q σ) (h6 : ∀ (t0 : State), t0.Ok q σ → (k t0).Ok q σ) :
    (State.blockAccess s i a a3 r write k).Ok q σ := by
  unfold State.blockAccess
  repeat' split
  all_goals simp_all +contextual (maxDischargeDepth := 99) only [implies_true, State.access_ok]

theorem execRunStep_ok {a : Acc} {a1 : Fin 8} {w : Word} {s : State} (h3 : s.Ok q σ) : OkOut q σ
    (execRunStep a a1 w s) := by
  unfold execRunStep
  repeat' split
  all_goals simp_all +contextual (maxDischargeDepth := 99) only [okNext, implies_true, State.blockAccess_ok,
      State.runCtrlWrite_ok]

theorem execSyncSend_ok {s : State} (h0 : s.Ok q σ) : OkOut q σ (execSyncSend s) := by
  unfold execSyncSend
  repeat' split
  all_goals simp_all +contextual (maxDischargeDepth := 99) only [okMk, okFold, okFoldl, okNext, implies_true,
      State.incr_ok, State.sendLocal_ok]

theorem State.onWh_ok {s : State} {f : Weigh → Weigh} (h0 : s.Ok q (σ₀, none)) : (State.onWh s f).Ok q
    (σ₀, none) := by
  unfold State.onWh
  repeat' split
  all_goals simp_all +contextual (maxDischargeDepth := 99) only [okMkAny, okFoldAny]

end Sys2Proof.Machine
end

