-- ==== Sys2Proof/Laws/Keeps3.lean ====
section
/-!
SUPPORT. Part 3 of what every operation and every command keeps, in the order in which they rest on each other.
-/

namespace Sys2Proof.Machine

variable {q : List Instr} {σ : Silicon × Option Weigh} {σ₀ : Silicon}

theorem execVbakSample_ok {mv : Int} {s : State} (h1 : s.Ok q (σ₀, none)) : OkOut q (σ₀, none)
    (execVbakSample mv s) := by
  unfold execVbakSample
  repeat' split
  all_goals simp_all +contextual (maxDischargeDepth := 99) only [okNext, State.onWh_ok]

theorem State.hotAct_ok {s : State} (h0 : s.Ok q σ) : (State.hotAct s).Ok q σ := by
  unfold State.hotAct
  repeat' split
  all_goals simp_all +contextual (maxDischargeDepth := 99) only [okMk, okFold, State.condition_ok, State.supplyOff_ok]

theorem State.vcpAct_ok {s : State} (h0 : s.Ok q σ) : (State.vcpAct s).Ok q σ := by
  unfold State.vcpAct
  repeat' split
  all_goals simp_all +contextual (maxDischargeDepth := 99) only [State.showRevg_ok, State.condition_ok,
      State.setFld_ok]

theorem execOuvCstDone_ok {failed : BitVec 5} {s : State} (h1 : s.Ok q σ) : OkOut q σ (execOuvCstDone failed s) := by
  unfold execOuvCstDone
  repeat' split
  all_goals simp_all +contextual (maxDischargeDepth := 99) only [okMk, okFold, okNext, State.raise_ok,
      State.setFld_ok, State.stageAct_ok, State.hotAct_ok, State.vcpAct_ok]

theorem execSidHiRead_ok {a : Acc} {via : Option (Fin 8)} {s : State} (h2 : s.Ok q σ) : OkOut q σ
    (execSidHiRead a via s) := by
  unfold execSidHiRead
  repeat' split
  all_goals simp_all +contextual (maxDischargeDepth := 99) only [okNext, implies_true, State.access_ok,
      State.answer_ok]

theorem State.stillAtLimit_ok {s : State} (h0 : s.Ok q σ) : (State.stillAtLimit s).Ok q σ := by
  unfold State.stillAtLimit
  repeat' split
  all_goals simp_all +contextual (maxDischargeDepth := 99) only [okMk, okFold, State.setFld_ok]

theorem State.leafFault_ok {s : State} {a1 : Nat} {t : Nat} {c : LeafSt} {code : Nat} {shown : Nat} (h0 : s.Ok q σ)
    : (State.leafFault s a1 t c code shown).Ok q σ := by
  unfold State.leafFault
  repeat' split
  all_goals (try dsimp only)
  repeat' split
  all_goals simp_all +contextual (maxDischargeDepth := 99) only [State.setFld_ok, State.raiseBy_ok, State.setRun_ok]
  all_goals (repeat' split)
  all_goals simp_all +contextual (maxDischargeDepth := 99) only [State.tl_wf (q := q) (σ := σ), TileSt.put_wf,
      Tab.wf_keep, TileSt.reset_wf, okMk, okFold, okIte, okFoldl, okNext, okIteOut, okSome, okNone, implies_true,
      State.setFld_ok, State.raiseBy_ok, State.setRun_ok]

theorem State.recordHit_ok {s : State} {t : Nat} {watch : Bool} {k : Nat} {leaf : Nat} {pc : Nat} (h0 : s.Ok q σ) :
    (State.recordHit s t watch k leaf pc).Ok q σ := by
  unfold State.recordHit
  repeat' split
  all_goals simp_all +contextual (maxDischargeDepth := 99) only [okIte, implies_true, State.setFld_ok]

theorem State.hit_ok {s : State} {i : Issue} {watch : Bool} {k : Nat} (h0 : s.Ok q σ)
    (hI : Tab.wf (0 : Byte) i.x.sram = true) : (State.hit s i watch k).Ok q σ := by
  unfold State.hit
  repeat' split
  all_goals simp_all +contextual (maxDischargeDepth := 99) only [okIte, implies_true, State.raiseBy_ok,
      State.recordHit_ok, State.haltRun_ok]

theorem State.bpHit_ok {s : State} {i : Issue} {k : Nat} (h0 : s.Ok q σ) (hI : Tab.wf (0 : Byte) i.x.sram = true) :
    (State.bpHit s i k).Ok q σ := by
  unfold State.bpHit
  repeat' split
  all_goals simp_all +contextual (maxDischargeDepth := 99) only [State.hit_ok, State.setTl_ok]

theorem State.issue_ok {s : State} {t cls op : Nat} {uses : Ins → List Nat} {k : Issue → Ins → State} (h : s.Ok q σ)
    (hk : ∀ i n, Tab.wf (0 : Byte) i.x.sram = true → (k i n).Ok q σ) : (s.issue t cls op uses k).Ok q σ := by
  unfold State.issue
  split
  · exact h
  · rename_i i e
    have hI := State.issuing_wf h e
    split
    · exact State.leafFault_ok h
    · refine okIte (fun _ => ?_) (fun _ => h)
      split
      · exact State.bpHit_ok h hI
      · exact okIte (fun _ => okIte (fun _ => hk _ _ hI) (fun _ => h)) (fun _ => State.leafFault_ok h)

theorem State.issued_ok {s : State} {a1 : Nat} {t : Nat} (h0 : s.Ok q σ) : (State.issued s a1 t).Ok q σ := by
  unfold State.issued
  repeat' split
  all_goals (try dsimp only)
  repeat' split
  all_goals simp_all +contextual (maxDischargeDepth := 99) only [State.tl_wf (q := q) (σ := σ), State.setTl_ok,
      State.setPair_ok, State.setRun_ok]
  all_goals (repeat' split)
  all_goals simp_all +contextual (maxDischargeDepth := 99) only [State.tl_wf (q := q) (σ := σ), TileSt.put_wf,
      Tab.wf_keep, TileSt.reset_wf, okMk, okFold, okIte, okFoldl, okNext, okIteOut, okSome, okNone, implies_true,
      State.setTl_ok, State.setPair_ok, State.setRun_ok]

theorem State.putCtx_ok {s : State} {i : Issue} {c : LeafSt} (h0 : s.Ok q σ)
    (hI : Tab.wf (0 : Byte) i.x.sram = true) : (State.putCtx s i c).Ok q σ := by
  unfold State.putCtx
  repeat' split
  all_goals simp_all +contextual (maxDischargeDepth := 99) only [State.tl_wf (q := q) (σ := σ), State.setTl_ok]

theorem State.reach_ok {s : State} {i : Issue} {b : Option BarAt} (h0 : s.Ok q σ)
    (hI : Tab.wf (0 : Byte) i.x.sram = true) : (State.reach s i b).Ok q σ := by
  unfold State.reach
  repeat' split
  all_goals (try dsimp only)
  repeat' split
  all_goals simp_all +contextual (maxDischargeDepth := 99) only [State.tl_wf (q := q) (σ := σ), State.leafFault_ok,
      State.issued_ok, State.putCtx_ok, State.setTl_ok, State.tileState_ok, State.raiseBy_ok, State.endRun_ok,
      State.setRun_ok]
  all_goals (repeat' split)
  all_goals simp_all +contextual (maxDischargeDepth := 99) only [State.tl_wf (q := q) (σ := σ), TileSt.put_wf,
      Tab.wf_keep, TileSt.reset_wf, okMk, okFold, okIte, okFoldl, okNext, okIteOut, okSome, okNone, implies_true,
      State.leafFault_ok, State.issued_ok, State.putCtx_ok, State.setTl_ok, State.tileState_ok, State.raiseBy_ok,
      State.endRun_ok, State.setRun_ok]

theorem State.reduce_ok {s : State} {t : Nat} {op : Nat} (h0 : s.Ok q σ) : (State.reduce s t op).Ok q σ := by
  unfold State.reduce
  repeat' split
  all_goals simp_all +contextual (maxDischargeDepth := 99) only [implies_true, State.issue_ok, State.reach_ok]

theorem execVredImin_ok {t : Fin 64} {s : State} (h1 : s.Ok q σ) : OkOut q σ (execVredImin t s) := by
  unfold execVredImin
  repeat' split
  all_goals simp_all +contextual (maxDischargeDepth := 99) only [okNext, State.reduce_ok]

theorem State.frameIn_ok {s : State} {k : Nat} {f : Frame} (h0 : s.Ok q σ) : (State.frameIn s k f).Ok q σ := by
  unfold State.frameIn
  repeat' split
  all_goals simp_all +contextual (maxDischargeDepth := 99) only [State.setPort_ok, State.bump_ok]

theorem State.retryStall_ok {s : State} {k : Nat} {f : Frame} (h0 : s.Ok q σ) : (State.retryStall s k f).Ok q σ := by
  unfold State.retryStall
  repeat' split
  all_goals simp_all +contextual (maxDischargeDepth := 99) only [okIte, implies_true, State.setPort_ok,
      State.setPair_ok]

theorem State.startReplay_ok {s : State} {k : Nat} {from_ : Nat} (h0 : s.Ok q σ) :
    (State.startReplay s k from_).Ok q σ := by
  unfold State.startReplay
  repeat' split
  all_goals (try dsimp only)
  repeat' split
  all_goals simp_all +contextual (maxDischargeDepth := 99) only [State.setPort_ok, State.linkDown_ok, State.raise_ok,
      State.bump_ok]
  all_goals (repeat' split)
  all_goals simp_all +contextual (maxDischargeDepth := 99) only [State.tl_wf (q := q) (σ := σ), TileSt.put_wf,
      Tab.wf_keep, TileSt.reset_wf, okMk, okFold, okIte, okFoldl, okNext, okIteOut, okSome, okNone, implies_true,
      State.setPort_ok, State.linkDown_ok, State.raise_ok, State.bump_ok]

theorem State.takeAck_ok {s : State} {k : Nat} {f : Frame} (h0 : s.Ok q σ) : (State.takeAck s k f).Ok q σ := by
  unfold State.takeAck
  repeat' split
  all_goals simp_all +contextual (maxDischargeDepth := 99) only [State.setPort_ok, State.startReplay_ok]

theorem State.badFrame_ok {s : State} {k : Nat} {reason : Nat} (h0 : s.Ok q σ) :
    (State.badFrame s k reason).Ok q σ := by
  unfold State.badFrame
  repeat' split
  all_goals simp_all +contextual (maxDischargeDepth := 99) only [okIte, implies_true, State.bump_ok, State.raise_ok,
      State.setFld_ok]

theorem State.colour_ok {s : State} {k : Nat} {a2 : Nat} {bytes : Nat} (h0 : s.Ok q σ) :
    (State.colour s k a2 bytes).2.Ok q σ := by
  unfold State.colour
  repeat' split
  all_goals (try dsimp only)
  repeat' split
  all_goals simp_all +contextual (maxDischargeDepth := 99) only [State.setPolB_ok]
  all_goals (repeat' split)
  all_goals simp_all +contextual (maxDischargeDepth := 99) only [State.tl_wf (q := q) (σ := σ), TileSt.put_wf,
      Tab.wf_keep, TileSt.reset_wf, okMk, okFold, okIte, okFoldl, okNext, okIteOut, okSome, okNone, implies_true,
      State.setPolB_ok]

theorem State.refillSlot_ok {s : State} {p : Nat} {k : Nat} (h0 : s.Ok q σ) : (State.refillSlot s p k).Ok q σ := by
  unfold State.refillSlot
  repeat' split
  all_goals simp_all +contextual (maxDischargeDepth := 99) only [State.setSlot_ok]

theorem State.promoteEx_ok {s : State} {p : Nat} {k : Nat} (h0 : s.Ok q σ) : (State.promoteEx s p k).Ok q σ := by
  unfold State.promoteEx
  repeat' split
  all_goals simp_all +contextual (maxDischargeDepth := 99) only [State.wakeSlot_ok]

theorem State.retime_ok {s : State} {p : Nat} {k : Nat} (h0 : s.Ok q σ) : (State.retime s p k).Ok q σ := by
  unfold State.retime
  repeat' split
  all_goals simp_all +contextual (maxDischargeDepth := 99) only [State.idleSlot_ok, State.setSlot_ok,
      State.placeSlot_ok]

theorem State.schRefill_ok {s : State} {p : Nat} (h0 : s.Ok q σ) : (State.schRefill s p).Ok q σ := by
  unfold State.schRefill
  repeat' split
  all_goals simp_all +contextual (maxDischargeDepth := 99) only [okIte, okFoldl, implies_true, State.schApply_ok,
      State.refillSlot_ok, State.promoteEx_ok, State.retime_ok]

theorem State.polRefill_ok {s : State} {k : Nat} (h0 : s.Ok q σ) : (State.polRefill s k).Ok q σ := by
  unfold State.polRefill
  repeat' split
  all_goals simp_all +contextual (maxDischargeDepth := 99) only [okFoldl, implies_true, State.setPolB_ok]

theorem State.refillNow_ok {s : State} {g : Nat} (h0 : s.Ok q σ) : (State.refillNow s g).Ok q σ := by
  unfold State.refillNow
  repeat' split
  all_goals simp_all +contextual (maxDischargeDepth := 99) only [State.setSc_ok, State.schRefill_ok,
      State.polRefill_ok]

theorem State.police_ok {s : State} {k : Nat} {a2 : Nat} {bytes : Nat} (h0 : s.Ok q σ) :
    (State.police s k a2 bytes).2.Ok q σ := by
  unfold State.police
  repeat' split
  all_goals (try dsimp only)
  repeat' split
  all_goals simp_all +contextual (maxDischargeDepth := 99) only [State.colour_ok, State.refillNow_ok, State.bump_ok,
      State.raiseBy_ok]
  all_goals (repeat' split)
  all_goals simp_all +contextual (maxDischargeDepth := 99) only [State.tl_wf (q := q) (σ := σ), TileSt.put_wf,
      Tab.wf_keep, TileSt.reset_wf, okMk, okFold, okIte, okFoldl, okNext, okIteOut, okSome, okNone, implies_true,
      State.colour_ok, State.refillNow_ok, State.bump_ok, State.raiseBy_ok]

theorem State.sendRouted_ok {s : State} {f : Frame} (h0 : s.Ok q σ) : (State.sendRouted s f).Ok q σ := by
  unfold State.sendRouted
  repeat' split
  all_goals simp_all +contextual (maxDischargeDepth := 99) only [okIte, implies_true, State.toPort_ok,
      State.unroutable_ok]

theorem State.returnResponse_ok {s : State} {a1 : RemoteReq} {p : List Flit} (h0 : s.Ok q σ) :
    (State.returnResponse s a1 p).Ok q σ := by
  unfold State.returnResponse
  repeat' split
  all_goals simp_all +contextual (maxDischargeDepth := 99) only [State.sendRouted_ok]

theorem State.policed_ok {s : State} {k : Nat} {f : Frame} {a3 : State → State} (h0 : s.Ok q σ)
    (h3 : ∀ (t0 : State), t0.Ok q σ → (a3 t0).Ok q σ) : (State.policed s k f a3).Ok q σ := by
  unfold State.policed
  repeat' split
  all_goals simp_all +contextual (maxDischargeDepth := 99) only [okIte, implies_true, State.police_ok,
      State.returnResponse_ok]

theorem State.wantUpdate_ok {s : State} {k : Nat} {nak : Bool} (h0 : s.Ok q σ) :
    (State.wantUpdate s k nak).Ok q σ := by
  unfold State.wantUpdate
  repeat' split
  all_goals simp_all +contextual (maxDischargeDepth := 99) only [State.setPort_ok]

theorem State.openEpisode_ok {s : State} {k : Nat} (h0 : s.Ok q σ) : (State.openEpisode s k).Ok q σ := by
  unfold State.openEpisode
  repeat' split
  all_goals simp_all +contextual (maxDischargeDepth := 99) only [okIte, implies_true, State.wantUpdate_ok,
      State.setPort_ok]

theorem State.linkAccept_ok {s : State} {k : Nat} {f : Frame} {a3 : State → Nat → State} (h0 : s.Ok q σ)
    (h3 : ∀ (t0 : State) (t1 : Nat), t0.Ok q σ → (a3 t0 t1).Ok q σ) : (State.linkAccept s k f a3).Ok q σ := by
  unfold State.linkAccept
  repeat' split
  all_goals simp_all +contextual (maxDischargeDepth := 99) only [okMk, okFold, okIte, implies_true, State.frameIn_ok,
      State.linkDown_ok, State.raise_ok, State.setFld_ok, State.retryStall_ok, State.setPort_ok, State.takeAck_ok,
      State.freeUnused_ok, State.badFrame_ok, State.policed_ok, State.wantUpdate_ok, State.openEpisode_ok]

theorem State.setSfld_ok {s : State} {p : Nat} {f : Fld} {v : Int} (h0 : s.Ok q σ) :
    (State.setSfld s p f v).Ok q σ := by
  unfold State.setSfld
  repeat' split
  all_goals simp_all +contextual (maxDischargeDepth := 99) only [State.setFld_ok]

theorem State.set32_ok {s : State} {f : Fld} {v : Int} (h0 : s.Ok q σ) : (State.set32 s f v).Ok q σ := by
  unfold State.set32
  repeat' split
  all_goals simp_all +contextual (maxDischargeDepth := 99) only [State.setSfld_ok, State.drew_ok, State.setFld_ok]

theorem State.storeOff_ok {s : State} {off : Int} {rtt : Int} (h0 : s.Ok q σ) :
    (State.storeOff s off rtt).Ok q σ := by
  unfold State.storeOff
  repeat' split
  all_goals simp_all +contextual (maxDischargeDepth := 99) only [okMk, okFold, okIte, implies_true, State.raise_ok]

theorem State.setRunLen_ok {s : State} {n : Nat} (h0 : s.Ok q σ) : (State.setRunLen s n).Ok q σ := by
  unfold State.setRunLen
  repeat' split
  all_goals simp_all +contextual (maxDischargeDepth := 99) only [okMk, okFold]

theorem State.loadRequest_ok {s : State} (h0 : s.Ok q σ) : (State.loadRequest s).Ok q σ := by
  unfold State.loadRequest
  repeat' split
  all_goals simp_all +contextual (maxDischargeDepth := 99) only [okMk, okFold, okIte, implies_true, State.raise_ok]

theorem State.toRoot_ok {s : State} {p : List Byte} (h0 : s.Ok q σ) : (State.toRoot s p).Ok q σ := by
  unfold State.toRoot
  repeat' split
  all_goals simp_all +contextual (maxDischargeDepth := 99) only [State.sendRouted_ok]

theorem State.constAdvance_ok {s : State} {o : Int} (h0 : s.Ok q σ) : (State.constAdvance s o).Ok q σ := by
  unfold State.constAdvance
  repeat' split
  all_goals simp_all +contextual (maxDischargeDepth := 99) only [okIte, implies_true, State.setRunLen_ok,
      State.setCState_ok, State.loadRequest_ok, State.raise_ok, State.setFld_ok, State.toRoot_ok]

theorem State.validExchange_ok {s : State} {k : Nat} {a2 : Exchange} {t3 : Nat} {t4 : Nat} (h0 : s.Ok q σ) :
    (State.validExchange s k a2 t3 t4).Ok q σ := by
  unfold State.validExchange
  repeat' split
  all_goals (try dsimp only)
  repeat' split
  all_goals simp_all +contextual (maxDischargeDepth := 99) only [okMk, okFold, State.bump_ok, State.set32_ok,
      State.storeOff_ok, State.setFld_ok, State.constAdvance_ok]
  all_goals (repeat' split)
  all_goals simp_all +contextual (maxDischargeDepth := 99) only [State.tl_wf (q := q) (σ := σ), TileSt.put_wf,
      Tab.wf_keep, TileSt.reset_wf, okMk, okFold, okIte, okFoldl, okNext, okIteOut, okSome, okNone, implies_true,
      State.bump_ok, State.set32_ok, State.storeOff_ok, State.setFld_ok, State.constAdvance_ok]

theorem State.timeVoid_ok {s : State} (h0 : s.Ok q σ) : (State.timeVoid s).Ok q σ := by
  unfold State.timeVoid
  repeat' split
  all_goals simp_all +contextual (maxDischargeDepth := 99) only [okMk, okFold, State.raise_ok, State.bump_ok]

theorem State.delayRespIn_ok {s : State} {k : Nat} {f : Frame} (h0 : s.Ok q σ) :
    (State.delayRespIn s k f).Ok q σ := by
  unfold State.delayRespIn
  repeat' split
  all_goals simp_all +contextual (maxDischargeDepth := 99) only [okIte, implies_true, State.validExchange_ok,
      State.timeVoid_ok]

theorem execDelayRespReceive_ok {k : Fin 4} {f : Frame} {s : State} (h2 : s.Ok q σ) : OkOut q σ
    (execDelayRespReceive k f s) := by
  unfold execDelayRespReceive
  repeat' split
  all_goals simp_all +contextual (maxDischargeDepth := 99) only [okNext, implies_true, State.linkAccept_ok,
      State.delayRespIn_ok]

theorem State.holdBack_ok {s : State} {c : Instr} (h0 : s.Ok q σ) : (State.holdBack s c).Ok q σ := by
  unfold State.holdBack
  repeat' split
  all_goals simp_all +contextual (maxDischargeDepth := 99) only [okMk, okFold]

theorem State.after_ok {s : State} {c : Instr} {first : Instr → Bool} {k : State} (h0 : s.Ok q σ) (h3 : k.Ok q σ) :
    (State.after s c first k).Ok q σ := by
  unfold State.after
  repeat' split
  all_goals simp_all +contextual (maxDischargeDepth := 99) only [State.holdBack_ok]

theorem State.slotAccess_ok {s : State} {i : Instr} {a : Acc} {p : Nat} {k : Nat} {r : Nat} {w : Nat}
    (h0 : s.Ok q σ) : (State.slotAccess s i a p k r w).Ok q σ := by
  unfold State.slotAccess
  repeat' split
  all_goals simp_all +contextual (maxDischargeDepth := 99) only [okIte, implies_true, State.access_ok,
      State.denial_ok, State.schWrite_ok]

theorem execCirWrite_ok {a : Acc} {p : Fin 5} {k : Fin 64} {hi : Bool} {w : Word} {s : State} (h5 : s.Ok q σ)
    : OkOut q σ (execCirWrite a p k hi w s) := by
  unfold execCirWrite
  repeat' split
  all_goals simp_all +contextual (maxDischargeDepth := 99) only [okNext, State.after_ok, State.slotAccess_ok]

theorem State.wkForget_ok {s : State} (h0 : s.Ok q σ) : (State.wkForget s).Ok q σ := by
  unfold State.wkForget
  repeat' split
  all_goals simp_all +contextual (maxDischargeDepth := 99) only [okMk, okFold]

theorem State.emitFrame_ok {s : State} {k : Nat} {f : Frame} (h0 : s.Ok q σ) : (State.emitFrame s k f).Ok q σ := by
  unfold State.emitFrame
  repeat' split
  all_goals simp_all +contextual (maxDischargeDepth := 99) only [State.bump_ok, State.send_ok]

theorem State.sendReplay_ok {s : State} {k : Nat} {u : Unacked} (h0 : s.Ok q σ) :
    (State.sendReplay s k u).Ok q σ := by
  unfold State.sendReplay
  repeat' split
  all_goals simp_all +contextual (maxDischargeDepth := 99) only [okIte, implies_true, State.voidExchange_ok,
      State.emitFrame_ok, State.setPort_ok]

theorem execSidLoRead_ok {a : Acc} {both : Bool} {via : Option (Fin 8)} {s : State} (h3 : s.Ok q σ) : OkOut q σ
    (execSidLoRead a both via s) := by
  unfold execSidLoRead
  repeat' split
  all_goals simp_all +contextual (maxDischargeDepth := 99) only [okNext, implies_true, State.access_ok,
      State.readSidLo_ok]

theorem State.flyCredit_ok {s : State} {r : Nat} {o : Nat} {vc : Nat} {lat : Nat} (h0 : s.Ok q σ) :
    (State.flyCredit s r o vc lat).Ok q σ := by
  unfold State.flyCredit
  repeat' split
  all_goals simp_all +contextual (maxDischargeDepth := 99) only [okMk, okFold]

theorem State.releaseCredits_ok {s : State} {r : Nat} (h0 : s.Ok q σ) : (State.releaseCredits s r).Ok q σ := by
  unfold State.releaseCredits
  repeat' split
  all_goals simp_all +contextual (maxDischargeDepth := 99) only [okMk, okFold, okFoldl, implies_true,
      State.flyCredit_ok]

theorem State.eventLatency_ok {s : State} {w0 : Nat} (h0 : s.Ok q σ) : (State.eventLatency s w0).Ok q σ := by
  unfold State.eventLatency
  repeat' split
  all_goals simp_all +contextual (maxDischargeDepth := 99) only [okIte, implies_true, State.setFld_ok,
      State.raise_ok, State.nocBump_ok]

theorem State.ejected_ok {s : State} {c : Cross} (h0 : s.Ok q σ) : (State.ejected s c).Ok q σ := by
  unfold State.ejected
  repeat' split
  all_goals (try dsimp only)
  repeat' split
  all_goals simp_all +contextual (maxDischargeDepth := 99) only [okMk, okFold, okFoldl, implies_true,
      State.flyCredit_ok, State.setQ_ok, State.eventLatency_ok]
  all_goals (repeat' split)
  all_goals simp_all +contextual (maxDischargeDepth := 99) only [State.tl_wf (q := q) (σ := σ), TileSt.put_wf,
      Tab.wf_keep, TileSt.reset_wf, okMk, okFold, okIte, okFoldl, okNext, okIteOut, okSome, okNone, implies_true,
      State.flyCredit_ok, State.setQ_ok, State.eventLatency_ok]

theorem State.creditBack_ok {s : State} {r : Nat} {p : Nat} {vc : Nat} (h0 : s.Ok q σ) :
    (State.creditBack s r p vc).Ok q σ := by
  unfold State.creditBack
  repeat' split
  all_goals simp_all +contextual (maxDischargeDepth := 99) only [okMk, okFold, State.flyCredit_ok]

theorem State.setDiscard_ok {s : State} {k : Nat} {on : Bool} (h0 : s.Ok q σ) : (State.setDiscard s k on).Ok q σ := by
  unfold State.setDiscard
  repeat' split
  all_goals simp_all +contextual (maxDischargeDepth := 99) only [okMk, okFold]

theorem State.routerErr_ok {s : State} {r : Nat} {p : Nat} {vc : Nat} {e : Ev} {hdr : List Nat} (h0 : s.Ok q σ) :
    (State.routerErr s r p vc e hdr).Ok q σ := by
  unfold State.routerErr
  repeat' split
  all_goals simp_all +contextual (maxDischargeDepth := 99) only [okIte, implies_true, State.raise_ok, State.setFld_ok]

theorem State.setBuf_ok {s : State} {r : Nat} {p : Nat} {vc : Nat} {l : List Flit} (h0 : s.Ok q σ) :
    (State.setBuf s r p vc l).Ok q σ := by
  unfold State.setBuf
  repeat' split
  all_goals simp_all +contextual (maxDischargeDepth := 99) only [okMk, okFold]

theorem State.arrive_ok {s : State} {r p vc : Nat} {f : Flit} {parity sideband : Bool} (h0 : s.Ok q σ) :
    (State.arrive s r p vc f parity sideband).Ok q σ := by
  have k0 : (if sideband then s.nocBump (pNocr r) NOCR.ERRCNT_SB_CORRECTED else s).Ok q σ :=
    okIte (fun _ => State.nocBump_ok h0) (fun _ => h0)
  unfold State.arrive
  dsimp only
  refine okIte (fun _ => State.creditBack_ok (State.setDiscard_ok k0)) (fun _ => okIte
    (fun _ => State.creditBack_ok (State.setDiscard_ok (State.nocBump_ok (State.routerErr_ok k0)))) (fun _ => okIte
    (fun _ => State.creditBack_ok (State.setDiscard_ok (State.routerErr_ok k0))) (fun _ => okIte
    (fun _ => State.setDiscard_ok (State.nocBump_ok (State.routerErr_ok k0))) (fun _ => ?_))))
  have k1 : ∀ (c : Prop) [Decidable c] (a b : State), a.Ok q σ → b.Ok q σ → (if c then a else b).Ok q σ :=
    fun c _ a b ha hb => okIte (fun _ => ha) (fun _ => hb)
  have k2 := k1 (parity = true) _ _ (State.nocBump_ok (p := pNocr r) (f := NOCR.ERRCNT_DATA_PARITY) (n := 1)
    (State.routerErr_ok (r := r) (p := p) (vc := vc) (e := NOCR.evDATA_PARITY)
        (hdr := if decide (f.typ ≤ 1) then f.words else
      Tab.get [] s.noc.hdr (chan r p vc)) k0)) k0
  refine k1 _ _ _ ?_ (State.setFld_ok ?_) <;> refine k1 _ _ _ ?_ ?_ <;> simp only [okMk, okFold]
  all_goals exact State.setBuf_ok k2

theorem State.readOut_ok {s : State} {c : Cross} (h0 : s.Ok q σ) : (State.readOut s c).Ok q σ := by
  unfold State.readOut
  repeat' split
  all_goals simp_all +contextual (maxDischargeDepth := 99) only [State.ejected_ok, State.arrive_ok]

theorem State.nocTick_ok {s : State} (h0 : s.Ok q σ) : (State.nocTick s).Ok q σ := by
  unfold State.nocTick
  repeat' split
  all_goals simp_all +contextual (maxDischargeDepth := 99) only [okMk, okFold, okFoldl, implies_true,
      State.releaseCredits_ok, State.readOut_ok]

theorem State.flagOnce_ok {s : State} {a1 : Nat} {b : Nat} {e : Ev} (h0 : s.Ok q σ) :
    (State.flagOnce s a1 b e).Ok q σ := by
  unfold State.flagOnce
  repeat' split
  all_goals simp_all +contextual (maxDischargeDepth := 99) only [State.raiseBy_ok, State.setRunFlag_ok]

theorem State.chargeOvl_ok {s : State} {a1 : Nat} {n : Nat} (h0 : s.Ok q σ) : (State.chargeOvl s a1 n).Ok q σ := by
  unfold State.chargeOvl
  repeat' split
  all_goals simp_all +contextual (maxDischargeDepth := 99) only [okIte, implies_true, State.setRunFlag_ok,
      State.setFld_ok, State.setPv_ok, State.flagOnce_ok]

theorem State.ledger64_ok {s : State} {a1 : Nat} {lo : Fld} {hi : Fld} {n : Nat} (h0 : s.Ok q σ) :
    (State.ledger64 s a1 lo hi n).Ok q σ := by
  unfold State.ledger64
  repeat' split
  all_goals simp_all +contextual (maxDischargeDepth := 99) only [okIte, implies_true, State.setPair_ok,
      State.flagOnce_ok]

theorem State.chargeRef_ok {s : State} {a1 : Nat} {n : Nat} (h0 : s.Ok q σ) : (State.chargeRef s a1 n).Ok q σ := by
  unfold State.chargeRef
  repeat' split
  all_goals simp_all +contextual (maxDischargeDepth := 99) only [okIte, implies_true, State.ledger64_ok,
      State.setPv_ok, State.flagOnce_ok]

theorem State.ledgerTick_ok {s : State} {a1 : Nat} {r : RunSt} (h0 : s.Ok q σ) :
    (State.ledgerTick s a1 r).Ok q σ := by
  unfold State.ledgerTick
  repeat' split
  all_goals simp_all +contextual (maxDischargeDepth := 99) only [State.chargeOvl_ok, State.setRun_ok,
      State.chargeRef_ok, State.ledger64_ok]

theorem State.stall_ok {s : State} {n : Nat} (h0 : s.Ok q σ) : (State.stall s n).Ok q σ := by
  unfold State.stall
  repeat' split
  all_goals simp_all +contextual (maxDischargeDepth := 99) only [okIte, implies_true, State.raise_ok,
      State.motorFault_ok, State.gatesOff_ok, State.setMotorState_ok]

theorem execHandoverTimeout_ok {n : Fin 4} {s : State} (h1 : s.Ok q σ) : OkOut q σ (execHandoverTimeout n s) := by
  unfold execHandoverTimeout
  repeat' split
  all_goals simp_all +contextual (maxDischargeDepth := 99) only [okNext, State.stall_ok, State.raise_ok]

theorem State.mirror_ok {s : State} {p : List Byte} (h0 : s.Ok q σ) : (State.mirror s p).Ok q σ := by
  unfold State.mirror
  repeat' split
  all_goals simp_all +contextual (maxDischargeDepth := 99) only [okIte, implies_true, State.setFld_ok, State.incr_ok,
      State.condition_ok, State.raise_ok]

theorem State.confirmParam_ok {s : State} {id : Nat} {v : Nat} (h0 : s.Ok q σ) :
    (State.confirmParam s id v).Ok q σ := by
  unfold State.confirmParam
  repeat' split
  all_goals simp_all +contextual (maxDischargeDepth := 99) only [State.setFld_ok]

theorem State.confirm_ok {s : State} {op : Nat} {sub : Nat} {req : List Byte} {p : List Byte} (h0 : s.Ok q σ) :
    (State.confirm s op sub req p).Ok q σ := by
  unfold State.confirm
  repeat' split
  all_goals simp_all +contextual (maxDischargeDepth := 99) only [okFoldl, implies_true, State.confirmParam_ok]

theorem State.staleMirror_ok {s : State} (h0 : s.Ok q σ) : (State.staleMirror s).Ok q σ := by
  unfold State.staleMirror
  repeat' split
  all_goals simp_all +contextual (maxDischargeDepth := 99) only [State.condition_ok, State.setFld_ok]

theorem State.whbFree_ok {s : State} (h0 : s.Ok q σ) : (State.whbFree s).Ok q σ := by
  unfold State.whbFree
  repeat' split
  all_goals (try dsimp only)
  repeat' split
  all_goals simp_all +contextual (maxDischargeDepth := 99) only [okMk, okFold, State.setFld_ok, State.whbSend_ok,
      State.whbGo_ok, State.slSend_ok]
  all_goals (repeat' split)
  all_goals simp_all +contextual (maxDischargeDepth := 99) only [State.tl_wf (q := q) (σ := σ), TileSt.put_wf,
      Tab.wf_keep, TileSt.reset_wf, okMk, okFold, okIte, okFoldl, okNext, okIteOut, okSome, okNone, implies_true,
      State.setFld_ok, State.whbSend_ok, State.whbGo_ok, State.slSend_ok]

theorem State.whbComplete_ok {s : State} {op sub : Nat} {req : List Byte} {r : WhRsp} (h : s.Ok q σ) :
    (s.whbComplete op sub req r).Ok q σ := by
  unfold State.whbComplete
  have k1 :
      ((s.setFld pWhb WHB.REQ_STATUS_RESULT r.result).setFld pWhb WHB.REQ_STATUS_RSP_LEN r.payload.length).Ok q σ :=
    State.setFld_ok (State.setFld_ok h)
  have a : ∀ c : Prop, [Decidable c] → ∀ t u : State, t.Ok q σ → (t.Ok q σ → u.Ok q σ) →
      (if c then u else t).Ok q σ :=
    fun c _ t u ht hu => okIte (fun _ => hu ht) (fun _ => ht)
  refine State.whbFree_ok ?_
  refine a _ _ _ ?_ (fun h => okSame h)
  refine a _ _ _ ?_ State.staleMirror_ok
  refine a _ _ _ ?_ State.confirm_ok
  refine a _ _ _ ?_ State.raise_ok
  refine a _ _ _ ?_ State.mirror_ok
  have k2 : (if s.wb.kind = 0 then
      { (s.setFld pWhb WHB.REQ_STATUS_RESULT r.result).setFld pWhb WHB.REQ_STATUS_RSP_LEN r.payload.length with
        wb := ((s.setFld pWhb WHB.REQ_STATUS_RESULT r.result).setFld pWhb WHB.REQ_STATUS_RSP_LEN
          r.payload.length).wb.fill r.payload }.setFld pWhb WHB.REQ_STATUS_DONE 1
      else (s.setFld pWhb WHB.REQ_STATUS_RESULT r.result).setFld pWhb WHB.REQ_STATUS_RSP_LEN r.payload.length).Ok q σ := by
    refine okIte (fun _ => State.setFld_ok ?_) (fun _ => k1)
    rw [okMk]
    exact ⟨k1.1, k1.2, k1.3, k1.4, k1.5, k1.6, k1.7, k1.8, k1.9,
      Tab.wf_foldl (0 : Byte) _ (fun e : Nat × Byte => e.2) (fun e => e.1) _ k1.rsp, k1.11⟩
  exact okIte (fun _ => State.raiseBy_ok k2) (fun _ => a _ _ _ k2 State.raise_ok)

theorem execWhbResponse_ok {s : State} (h0 : s.Ok q (σ₀, none)) : OkOut q (σ₀, none) (execWhbResponse s) := by
  unfold execWhbResponse
  repeat' split
  all_goals simp_all +contextual (maxDischargeDepth := 99) only [okMkAny, okFoldAny, okNext, State.bump_ok,
      State.whbComplete_ok]

theorem State.haltCause_ok {s : State} {a1 : Nat} {cause : Nat} {tile : Nat} (h0 : s.Ok q σ) :
    (State.haltCause s a1 cause tile).Ok q σ := by
  unfold State.haltCause
  repeat' split
  all_goals simp_all +contextual (maxDischargeDepth := 99) only [State.setFld_ok, State.drew_ok]

theorem execRunStepDone_ok {a0 : Fin 8} {s : State} (h1 : s.Ok q σ) : OkOut q σ (execRunStepDone a0 s) := by
  unfold execRunStepDone
  repeat' split
  all_goals simp_all +contextual (maxDischargeDepth := 99) only [State.tl_wf (q := q) (σ := σ), okFoldl, okNext,
      implies_true, State.setTl_ok, State.setFld_ok, State.haltCause_ok, State.setRun_ok]

theorem State.endpointReset_ok {s : State} (h0 : s.Ok q σ) : (State.endpointReset s).Ok q σ := by
  unfold State.endpointReset
  repeat' split
  all_goals simp_all +contextual (maxDischargeDepth := 99) only [okMk, okFold, State.setFld_ok]

theorem State.linkReset_ok {s : State} {f : Fld} (h0 : s.Ok q σ) : (State.linkReset s f).Ok q σ := by
  unfold State.linkReset
  repeat' split
  all_goals simp_all +contextual (maxDischargeDepth := 99) only [State.warmRequest_ok, State.endpointReset_ok]

theorem State.linkGone_ok {s : State} (h0 : s.Ok q σ) : (State.linkGone s).Ok q σ := by
  unfold State.linkGone
  repeat' split
  all_goals simp_all +contextual (maxDischargeDepth := 99) only [okMk, okFold]

theorem State.hostLinkDown_ok {s : State} (h0 : s.Ok q σ) : (State.hostLinkDown s).Ok q σ := by
  unfold State.hostLinkDown
  repeat' split
  all_goals simp_all +contextual (maxDischargeDepth := 99) only [State.raise_ok, State.linkReset_ok,
      State.linkGone_ok]

theorem execHostLinkDown_ok {s : State} (h0 : s.Ok q σ) : OkOut q σ (execHostLinkDown s) := by
  unfold execHostLinkDown
  repeat' split
  all_goals simp_all +contextual (maxDischargeDepth := 99) only [okNext, State.hostLinkDown_ok]

theorem State.retire_ok {s : State} {i : Issue} {c : LeafSt} (h0 : s.Ok q σ)
    (hI : Tab.wf (0 : Byte) i.x.sram = true) : (State.retire s i c).Ok q σ := by
  unfold State.retire
  repeat' split
  all_goals simp_all +contextual (maxDischargeDepth := 99) only [State.issued_ok, State.putCtx_ok]

theorem State.issueRegs_ok {s : State} {t : Nat} {cls : Nat} {op : Nat} {uses : Ins → List Nat}
    {f : LeafSt → Ins → LeafSt} (h0 : s.Ok q σ) : (State.issueRegs s t cls op uses f).Ok q σ := by
  unfold State.issueRegs
  repeat' split
  all_goals simp_all +contextual (maxDischargeDepth := 99) only [implies_true, State.issue_ok, State.retire_ok]

theorem State.vecOp_ok {s : State} {t : Nat} {cls : Nat} {op : Nat} {f : Nat → Nat → Nat → Nat} (h0 : s.Ok q σ) :
    (State.vecOp s t cls op f).Ok q σ := by
  unfold State.vecOp
  repeat' split
  all_goals simp_all +contextual (maxDischargeDepth := 99) only [State.issueRegs_ok]

theorem execVffma_ok {t : Fin 64} {s : State} (h1 : s.Ok q σ) : OkOut q σ (execVffma t s) := by
  unfold execVffma
  repeat' split
  all_goals simp_all +contextual (maxDischargeDepth := 99) only [okNext, State.vecOp_ok]

theorem execFrameBadCrc_ok {k : Fin 4} {corrected : BitVec 16} {uncorrectable : BitVec 16} {s : State}
    (h3 : s.Ok q σ) : OkOut q σ (execFrameBadCrc k corrected uncorrectable s) := by
  unfold execFrameBadCrc
  repeat' split
  all_goals simp_all +contextual (maxDischargeDepth := 99) only [okNext, State.bump_ok, State.raise_ok,
      State.openEpisode_ok]

theorem execStrobeDutyWindow_ok {s : State} (h0 : s.Ok q σ) : OkOut q σ (execStrobeDutyWindow s) := by
  unfold execStrobeDutyWindow
  repeat' split
  all_goals simp_all +contextual (maxDischargeDepth := 99) only [okFoldl, okNext, implies_true, State.rollWindow_ok]

theorem State.showOutstanding_ok {s : State} (h0 : s.Ok q σ) : (State.showOutstanding s).Ok q σ := by
  unfold State.showOutstanding
  repeat' split
  all_goals simp_all +contextual (maxDischargeDepth := 99) only [State.setFld_ok]

theorem execIllegalInstruction_ok {t : Fin 64} {s : State} (h : s.Ok q σ) : OkOut q σ
    (execIllegalInstruction t s) := by
  unfold execIllegalInstruction
  split
  · rw [okNext]; exact h
  · rename_i i e
    split
    · rw [okNext]; exact State.leafFault_ok h
    · refine okIteOut (fun _ => by rw [okNext]; exact h) (fun _ => ?_)
      split
      · rw [okNext]; exact State.bpHit_ok h (State.issuing_wf h e)
      · rw [okNext]; exact State.leafFault_ok h

theorem State.copyDown_ok {s : State} {k : Nat} {n : Nat} {f : Frame} (h0 : s.Ok q σ) :
    (State.copyDown s k n f).Ok q σ := by
  unfold State.copyDown
  repeat' split
  all_goals simp_all +contextual (maxDischargeDepth := 99) only [okFoldl, implies_true, State.toPort_ok]

theorem State.forward_ok {s : State} {k : Nat} {n : Nat} {f : Frame} (h0 : s.Ok q σ) :
    (State.forward s k n f).Ok q σ := by
  unfold State.forward
  repeat' split
  all_goals simp_all +contextual (maxDischargeDepth := 99) only [okIte, implies_true, State.bump_ok, State.raise_ok,
      State.toPort_ok, State.unroutable_ok]

theorem State.above_ok {s : State} {k : Nat} {n : Nat} {f : Frame} {deliver : State → State} (h0 : s.Ok q σ)
    (h4 : ∀ (t0 : State), t0.Ok q σ → (deliver t0).Ok q σ) : (State.above s k n f deliver).Ok q σ := by
  unfold State.above
  repeat' split
  all_goals simp_all +contextual (maxDischargeDepth := 99) only [State.unroutable_ok, State.copyDown_ok,
      State.forward_ok]

theorem State.serveExcess_ok {s : State} {c : Nat} {client : Nat} (h0 : s.Ok q σ) :
    (State.serveExcess s c client).Ok q σ := by
  unfold State.serveExcess
  repeat' split
  all_goals simp_all +contextual (maxDischargeDepth := 99) only [okMk, okFold, State.dramCount_ok]

theorem State.laneTree_ok {s : State} {t : Nat} {op : Nat} (h0 : s.Ok q σ) : (State.laneTree s t op).Ok q σ := by
  unfold State.laneTree
  repeat' split
  all_goals simp_all +contextual (maxDischargeDepth := 99) only [State.issueRegs_ok]

theorem execVltreeIadd_ok {t : Fin 64} {s : State} (h1 : s.Ok q σ) : OkOut q σ (execVltreeIadd t s) := by
  unfold execVltreeIadd
  repeat' split
  all_goals simp_all +contextual (maxDischargeDepth := 99) only [okNext, State.laneTree_ok]

theorem execPageSrst_ok {a : Acc} {page : Fin 512} {s : State} (h2 : s.Ok q σ) : OkOut q σ
    (execPageSrst a page s) := by
  unfold execPageSrst
  repeat' split
  all_goals simp_all +contextual (maxDischargeDepth := 99) only [okNext, implies_true, State.access_ok,
      State.softReset_ok]

theorem execRunResume_ok {a : Acc} {a1 : Fin 8} {w : Word} {s : State} (h3 : s.Ok q σ) : OkOut q σ
    (execRunResume a a1 w s) := by
  unfold execRunResume
  repeat' split
  all_goals simp_all +contextual (maxDischargeDepth := 99) only [okNext, implies_true, State.blockAccess_ok,
      State.runCtrlWrite_ok]

theorem execMailboxFill_ok {a0 : Fin 8} {m : Fin 16} {s : State} (h2 : s.Ok q σ) : OkOut q σ
    (execMailboxFill a0 m s) := by
  unfold execMailboxFill
  repeat' split
  all_goals (try dsimp only)
  repeat' split
  all_goals simp_all +contextual (maxDischargeDepth := 99) only [okMk, okFold, okNext, State.raiseBy_ok,
      State.setMb_ok, State.popStreamFor_ok]
  all_goals (repeat' split)
  all_goals simp_all +contextual (maxDischargeDepth := 99) only [State.tl_wf (q := q) (σ := σ), TileSt.put_wf,
      Tab.wf_keep, TileSt.reset_wf, okMk, okFold, okIte, okFoldl, okNext, okIteOut, okSome, okNone, implies_true,
      State.raiseBy_ok, State.setMb_ok, State.popStreamFor_ok]

theorem State.mxAdmit_ok {s : State} {k : Nat} (h0 : s.Ok q σ) : (State.mxAdmit s k).Ok q σ := by
  unfold State.mxAdmit
  split
  · exact h0
  · refine okIte (fun _ => h0) (fun _ => okSame (x := ite _ s (ite _ (s.bump pMatrix MATRIX.HOLD_COUNT_ORDER)
      (ite _ (s.bump pMatrix MATRIX.HOLD_COUNT_SLOT) s))) ?_)
    exact okIte (fun _ => h0)
        (fun _ => okIte (fun _ => State.bump_ok h0) (fun _ => okIte (fun _ => State.bump_ok h0) (fun _ => h0)))

theorem State.mxSettle_ok {s : State} (h0 : s.Ok q σ) : (State.mxSettle s).Ok q σ := by
  unfold State.mxSettle
  repeat' split
  all_goals simp_all +contextual (maxDischargeDepth := 99) only [okFoldl, implies_true, State.showOutstanding_ok,
      State.mxAdmit_ok]

theorem State.mxComplete_ok {hr : State → Nat → State} {s : State} {i : Instr} {k : Nat}
    (h0 : ∀ (t0 : State) (t1 : Nat), t0.Ok q σ → (hr t0 t1).Ok q σ) (h1 : s.Ok q σ) :
    (State.mxComplete hr s i k).Ok q σ := by
  unfold State.mxComplete
  repeat' split
  all_goals simp_all +contextual (maxDischargeDepth := 99) only [okMk, okFold, implies_true, State.mxSettle_ok,
      State.mxAnswered_ok]

theorem State.commitEmits_ok {s : State} {a1 : Nat} {r : RunSt} (h0 : s.Ok q σ) :
    (State.commitEmits s a1 r).Ok q σ := by
  unfold State.commitEmits
  repeat' split
  all_goals simp_all +contextual (maxDischargeDepth := 99) only [okMk, okFold, okFoldl, implies_true,
      State.qPushItem_ok]

theorem State.stepDone_ok {s : State} {a1 : Nat} {r : RunSt} (h0 : s.Ok q σ) : (State.stepDone s a1 r).Ok q σ := by
  unfold State.stepDone
  repeat' split
  all_goals simp_all +contextual (maxDischargeDepth := 99) only [okMk, okFold, okIte, implies_true,
      State.commitEmits_ok, State.setPair_ok, State.releaseHeld_ok, State.flagOnce_ok, State.setRun_ok]

theorem execRecordSigned_ok {s : State} (h0 : s.Ok q (σ₀, none)) : OkOut q (σ₀, none) (execRecordSigned s) := by
  unfold execRecordSigned
  repeat' split
  all_goals (try dsimp only)
  repeat' split
  all_goals simp_all +contextual (maxDischargeDepth := 99) only [okMkAny, okFoldAny, okNext]
  all_goals (repeat' split)
  all_goals simp_all +contextual (maxDischargeDepth := 99) only [State.tl_wf (q := q) (σ := (σ₀, none)),
      TileSt.put_wf, Tab.wf_keep, TileSt.reset_wf, okMkAny, okFoldAny, okIte, okFoldl, okNext, okIteOut, okSome,
      okNone, implies_true]

theorem execVext_ok {t : Fin 64} {s : State} (h1 : s.Ok q σ) : OkOut q σ (execVext t s) := by
  unfold execVext
  repeat' split
  all_goals simp_all +contextual (maxDischargeDepth := 99) only [okNext, State.issueRegs_ok]

theorem State.wkFault_ok {s : State} {code : Nat} (h0 : s.Ok q σ) : (State.wkFault s code).Ok q σ := by
  unfold State.wkFault
  repeat' split
  all_goals simp_all +contextual (maxDischargeDepth := 99) only [okMk, okFold, State.wkSend_ok]

theorem execWicketBadOp_ok {s : State} (h0 : s.Ok q σ) : OkOut q σ (execWicketBadOp s) := by
  unfold execWicketBadOp
  repeat' split
  all_goals simp_all +contextual (maxDischargeDepth := 99) only [okNext, implies_true, State.wk_ok, State.wkFault_ok]

theorem State.windowOver_ok {s : State} (h0 : s.Ok q σ) : (State.windowOver s).Ok q σ := by
  unfold State.windowOver
  repeat' split
  all_goals (try dsimp only)
  repeat' split
  all_goals simp_all +contextual (maxDischargeDepth := 99) only [okMk, okFold, State.setFld_ok, State.raise_ok]
  all_goals (repeat' split)
  all_goals simp_all +contextual (maxDischargeDepth := 99) only [State.tl_wf (q := q) (σ := σ), TileSt.put_wf,
      Tab.wf_keep, TileSt.reset_wf, okMk, okFold, okIte, okFoldl, okNext, okIteOut, okSome, okNone, implies_true,
      State.setFld_ok, State.raise_ok]

theorem execWhbRetryTimeout_ok {s : State} (h0 : s.Ok q σ) : OkOut q σ (execWhbRetryTimeout s) := by
  unfold execWhbRetryTimeout
  repeat' split
  all_goals simp_all +contextual (maxDischargeDepth := 99) only [okMk, okFold, okNext, okIteOut, implies_true,
      State.send_ok, State.bump_ok, State.setFld_ok, State.raiseBy_ok, State.whbFree_ok, State.staleMirror_ok]

theorem State.whServe_ok {s : State} {i : Instr} {op : Nat} {sub : Nat} {tag : Nat} {k : State → State}
    (h0 : s.Ok q (σ₀, none)) (h5 : ∀ (t0 : State), t0.Ok q (σ₀, none) → (k t0).Ok q (σ₀, none)) :
    (State.whServe s i op sub tag k).Ok q (σ₀, none) := by
  unfold State.whServe
  repeat' split
  all_goals (try dsimp only)
  repeat' split
  all_goals simp_all +contextual (maxDischargeDepth := 99) only [okMkAny, okFoldAny]
  all_goals (repeat' split)
  all_goals simp_all +contextual (maxDischargeDepth := 99) only [State.tl_wf (q := q) (σ := (σ₀, none)),
      TileSt.put_wf, Tab.wf_keep, TileSt.reset_wf, okMkAny, okFoldAny, okIte, okFoldl, okNext, okIteOut, okSome,
      okNone, implies_true]

theorem State.whAnswer_ok {s : State} {op : Nat} {sub : Nat} {result : Nat} {tag : Nat} {p : List Byte}
    (h0 : s.Ok q (σ₀, none)) : (State.whAnswer s op sub result tag p).Ok q (σ₀, none) := by
  unfold State.whAnswer
  repeat' split
  all_goals simp_all +contextual (maxDischargeDepth := 99) only [okMkAny, okFoldAny]

theorem execWhReadStatus_ok {tag : BitVec 8} {s : State} (h1 : s.Ok q (σ₀, none)) : OkOut q (σ₀, none)
    (execWhReadStatus tag s) := by
  unfold execWhReadStatus
  repeat' split
  all_goals simp_all +contextual (maxDischargeDepth := 99) only [okNext, implies_true, State.whServe_ok,
      State.drew_ok, State.whAnswer_ok]

theorem execHalt_ok {t : Fin 64} {s : State} (h1 : s.Ok q σ) : OkOut q σ (execHalt t s) := by
  unfold execHalt
  repeat' split
  all_goals simp_all +contextual (maxDischargeDepth := 99) only [okNext, implies_true, State.issue_ok, State.reach_ok]

theorem State.ctrlAccess_ok {s : State} {i : Instr} {a : Acc} {k : Nat} {w : Nat} (h0 : s.Ok q σ) :
    (State.ctrlAccess s i a k w).Ok q σ := by
  unfold State.ctrlAccess
  repeat' split
  all_goals simp_all +contextual (maxDischargeDepth := 99) only [implies_true, State.access_ok, State.sieveWrite_ok]

theorem execSlotLaunch_ok {a : Acc} {k : Fin 16} {s : State} (h2 : s.Ok q σ) : OkOut q σ (execSlotLaunch a k s) := by
  unfold execSlotLaunch
  repeat' split
  all_goals simp_all +contextual (maxDischargeDepth := 99) only [okNext, State.ctrlAccess_ok]

theorem execArbiterWindowEnd_ok {s : State} (h0 : s.Ok q σ) : OkOut q σ (execArbiterWindowEnd s) := by
  unfold execArbiterWindowEnd
  repeat' split
  all_goals (try dsimp only)
  repeat' split
  all_goals simp_all +contextual (maxDischargeDepth := 99) only [okNext, State.windowOver_ok]
  all_goals (repeat' split)
  all_goals simp_all +contextual (maxDischargeDepth := 99) only [State.tl_wf (q := q) (σ := σ), TileSt.put_wf,
      Tab.wf_keep, TileSt.reset_wf, okMk, okFold, okIte, okFoldl, okNext, okIteOut, okSome, okNone, implies_true,
      State.windowOver_ok]

theorem State.mgrAccess_ok {s : State} {i : Instr} {a : Acc} {p : Nat} {off : Nat} {k : State → State}
    (h0 : s.Ok q σ) (h5 : ∀ (t0 : State), t0.Ok q σ → (k t0).Ok q σ) : (State.mgrAccess s i a p off k).Ok q σ := by
  unfold State.mgrAccess
  repeat' split
  all_goals simp_all +contextual (maxDischargeDepth := 99) only [implies_true, State.access_ok, State.denial_ok]

theorem execPageLockSet_ok {a : Acc} {page : Fin 512} {s : State} (h2 : s.Ok q σ) : OkOut q σ
    (execPageLockSet a page s) := by
  unfold execPageLockSet
  repeat' split
  all_goals simp_all +contextual (maxDischargeDepth := 99) only [okNext, implies_true, State.mgrAccess_ok,
      State.lockPage_ok]

theorem execSessionEndWrite_ok {a : Acc} {s : State} (h1 : s.Ok q σ) : OkOut q σ (execSessionEndWrite a s) := by
  unfold execSessionEndWrite
  repeat' split
  all_goals simp_all +contextual (maxDischargeDepth := 99) only [okNext, implies_true, State.mgrAccess_ok,
      State.endSession_ok]

theorem execSealSwitchLow_ok {s : State} (h0 : s.Ok q (σ₀, none)) : OkOut q (σ₀, none) (execSealSwitchLow s) := by
  unfold execSealSwitchLow
  repeat' split
  all_goals simp_all +contextual (maxDischargeDepth := 99) only [okMkAny, okFoldAny, okNext]

theorem State.enterRamp_ok {s : State} {n : Nat} {theta : Nat} (h0 : s.Ok q σ) :
    (State.enterRamp s n theta).Ok q σ := by
  unfold State.enterRamp
  repeat' split
  all_goals simp_all +contextual (maxDischargeDepth := 99) only [State.modMo_ok, State.setMotorState_ok]

theorem State.enterRun_ok {s : State} {n : Nat} (h0 : s.Ok q σ) : (State.enterRun s n).Ok q σ := by
  unfold State.enterRun
  repeat' split
  all_goals simp_all +contextual (maxDischargeDepth := 99) only [State.modMo_ok, State.setMotorState_ok]

theorem State.startAngle_ok {s : State} {n : Nat} (h0 : s.Ok q σ) : (State.startAngle s n).Ok q σ := by
  unfold State.startAngle
  repeat' split
  all_goals (try dsimp only)
  repeat' split
  all_goals simp_all +contextual (maxDischargeDepth := 99) only [State.setMotorState_ok, State.modMo_ok,
      State.enterRamp_ok, State.enterRun_ok]
  all_goals (repeat' split)
  all_goals simp_all +contextual (maxDischargeDepth := 99) only [State.tl_wf (q := q) (σ := σ), TileSt.put_wf,
      Tab.wf_keep, TileSt.reset_wf, okMk, okFold, okIte, okFoldl, okNext, okIteOut, okSome, okNone, implies_true,
      State.setMotorState_ok, State.modMo_ok, State.enterRamp_ok, State.enterRun_ok]

theorem State.almAck_ok {s : State} {f : Frame} (h0 : s.Ok q σ) : (State.almAck s f).Ok q σ := by
  unfold State.almAck
  repeat' split
  all_goals simp_all +contextual (maxDischargeDepth := 99) only [State.toRoot_ok]

theorem State.distArm_ok {s : State} {f : Frame} (h0 : s.Ok q σ) : (State.distArm s f).Ok q σ := by
  unfold State.distArm
  repeat' split
  all_goals simp_all +contextual (maxDischargeDepth := 99) only [okMk, okFold, okIte, implies_true, State.almArm_ok,
      State.setAlm_ok, State.almAck_ok]

theorem execParentTimeout_ok {s : State} (h0 : s.Ok q σ) : OkOut q σ (execParentTimeout s) := by
  unfold execParentTimeout
  repeat' split
  all_goals simp_all +contextual (maxDischargeDepth := 99) only [okNext, State.constLost_ok]

theorem execVltreeFmin_ok {t : Fin 64} {s : State} (h1 : s.Ok q σ) : OkOut q σ (execVltreeFmin t s) := by
  unfold execVltreeFmin
  repeat' split
  all_goals simp_all +contextual (maxDischargeDepth := 99) only [okNext, State.laneTree_ok]

theorem State.setFunc_ok {s : State} {f : Nat} {a2 : FuncSt} (h0 : s.Ok q σ) : (State.setFunc s f a2).Ok q σ := by
  unfold State.setFunc
  repeat' split
  all_goals simp_all +contextual (maxDischargeDepth := 99) only [okMk, okFold]

theorem State.signal_ok {s : State} {f : Nat} {v : Nat} (h0 : s.Ok q σ) : (State.signal s f v).Ok q σ := by
  unfold State.signal
  repeat' split
  all_goals simp_all +contextual (maxDischargeDepth := 99) only [okIte, implies_true, State.send_ok, State.setFunc_ok]

theorem State.ringSignal_ok {s : State} {k : Nat} (h0 : s.Ok q σ) : (State.ringSignal s k).Ok q σ := by
  unfold State.ringSignal
  repeat' split
  all_goals simp_all +contextual (maxDischargeDepth := 99) only [State.signal_ok, State.setRing_ok]

theorem execRingCoalTimeout_ok {k : Fin 64} {s : State} (h1 : s.Ok q σ) : OkOut q σ (execRingCoalTimeout k s) := by
  unfold execRingCoalTimeout
  repeat' split
  all_goals simp_all +contextual (maxDischargeDepth := 99) only [okIte, okNext, implies_true, State.ringSignal_ok]

theorem State.unsupported_ok {s : State} {f : Nat} {posted : Bool} (h0 : s.Ok q σ) :
    (State.unsupported s f posted).Ok q σ := by
  unfold State.unsupported
  repeat' split
  all_goals simp_all +contextual (maxDischargeDepth := 99) only [okMk, okFold, State.bump_ok, State.raiseBy_ok]

theorem State.mbOff_ok {s : State} {a1 : Nat} {m : Nat} (h0 : s.Ok q σ) : (State.mbOff s a1 m).Ok q σ := by
  unfold State.mbOff
  repeat' split
  all_goals simp_all +contextual (maxDischargeDepth := 99) only [State.setMb_ok]

theorem State.hostHousehold_ok {s : State} {a1 : Nat} {flr : Bool} (h0 : s.Ok q σ) :
    (State.hostHousehold s a1 flr).Ok q σ := by
  unfold State.hostHousehold
  repeat' split
  all_goals simp_all +contextual (maxDischargeDepth := 99) only [okFoldl, implies_true, State.calmPage_ok,
      State.clearFields_ok, State.mbOff_ok, State.setFunc_ok]

theorem State.blockHousehold_ok {s : State} {p : Nat} {off : Nat} {size : Nat} {keep : Fld → Bool} (h0 : s.Ok q σ) :
    (State.blockHousehold s p off size keep).Ok q σ := by
  unfold State.blockHousehold
  repeat' split
  all_goals simp_all +contextual (maxDischargeDepth := 99) only [State.clearFields_ok]

theorem State.provHousehold_ok {s : State} {a1 : Nat} (h0 : s.Ok q σ) : (State.provHousehold s a1).Ok q σ := by
  unfold State.provHousehold
  repeat' split
  all_goals simp_all +contextual (maxDischargeDepth := 99) only [State.setPv_ok, State.blockHousehold_ok]

theorem State.egressHousehold_ok {s : State} {a1 : Nat} (h0 : s.Ok q σ) : (State.egressHousehold s a1).Ok q σ := by
  unfold State.egressHousehold
  repeat' split
  all_goals simp_all +contextual (maxDischargeDepth := 99) only [okIte, okFoldl, implies_true,
      State.blockHousehold_ok, State.setSlot_ok, State.idleSlot_ok, State.clearRegs_ok, State.ringOff_ok,
      State.setPolB_ok, State.clearFields_ok]

theorem State.queueHousehold_ok {s : State} {a1 : Nat} (h0 : s.Ok q σ) : (State.queueHousehold s a1).Ok q σ := by
  unfold State.queueHousehold
  repeat' split
  all_goals simp_all +contextual (maxDischargeDepth := 99) only [okFoldl, implies_true, State.blockHousehold_ok,
      State.setQ_ok, State.unlistQueue_ok, State.calmPage_ok, State.clearFields_ok, State.setFld_ok]

theorem State.pageHousehold_ok {s : State} {p : Nat} {keep : Fld → Bool} (h0 : s.Ok q σ) :
    (State.pageHousehold s p keep).Ok q σ := by
  unfold State.pageHousehold
  repeat' split
  all_goals simp_all +contextual (maxDischargeDepth := 99) only [State.clearFields_ok, State.blockRest_ok,
      State.calmPage_ok]

theorem State.driveHousehold_ok {s : State} {a1 : Nat} (h0 : s.Ok q σ) : (State.driveHousehold s a1).Ok q σ := by
  unfold State.driveHousehold
  repeat' split
  all_goals simp_all +contextual (maxDischargeDepth := 99) only [okFoldl, implies_true, State.pageHousehold_ok]

theorem State.lineHousehold_ok {s : State} {a1 : Nat} (h0 : s.Ok q σ) : (State.lineHousehold s a1).Ok q σ := by
  unfold State.lineHousehold
  repeat' split
  all_goals simp_all +contextual (maxDischargeDepth := 99) only [okFoldl, implies_true, State.setAxis_ok,
      State.blockHousehold_ok, State.setSched_ok, State.disarm_ok, State.pageHousehold_ok]

theorem State.debugHouseholdReset_ok {s : State} {a1 : Nat} (h0 : s.Ok q σ) :
    (State.debugHouseholdReset s a1).Ok q σ := by
  unfold State.debugHouseholdReset
  repeat' split
  all_goals simp_all +contextual (maxDischargeDepth := 99) only [State.clearRegs_ok]

theorem State.sieveHousehold_ok {s : State} {h : Nat} (h0 : s.Ok q σ) : (s.sieveHousehold h).Ok q σ := by
  unfold State.sieveHousehold
  refine State.debugHouseholdReset_ok
      (okFoldl (fun t x ht => State.setTl_ok (State.pageHousehold_ok ht) TileSt.reset_wf) ?_)
  refine okFoldl (fun t x ht => State.blockHousehold_ok ?_) ?_
  · rw [okMk]; exact ⟨ht.1, ht.2, ht.3, ht.4, ht.5, ht.6, ht.7, ht.8, ht.9, ht.10, ht.11⟩
  · split
    · exact State.abortRun_ok h0
    · exact h0

theorem State.almHousehold_ok {s : State} {h : Nat} (h0 : s.Ok q σ) : (s.almHousehold h).Ok q σ := by
  unfold State.almHousehold; rw [okMk]
  exact ⟨h0.1, h0.2, h0.3, h0.4, h0.5, Tab.rises_map _ (fun e => by split <;> rfl) _ _ h0.alm, h0.7, h0.8, h0.9,
      h0.10, h0.11⟩

theorem State.applyHousehold_ok {s : State} {a1 : Nat} {flr : Bool} (h0 : s.Ok q σ) :
    (State.applyHousehold s a1 flr).Ok q σ := by
  unfold State.applyHousehold
  repeat' split
  all_goals simp_all +contextual (maxDischargeDepth := 99) only [okMk, okFold, State.hostHousehold_ok,
      State.provHousehold_ok, State.egressHousehold_ok, State.queueHousehold_ok, State.driveHousehold_ok,
      State.lineHousehold_ok, State.sieveHousehold_ok, State.almHousehold_ok]

theorem State.mxFlush_ok {s : State} {a1 : Nat} (h0 : s.Ok q σ) : (State.mxFlush s a1).Ok q σ := by
  unfold State.mxFlush
  repeat' split
  all_goals simp_all +contextual (maxDischargeDepth := 99) only [okMk, okFold, okFoldl, implies_true,
      State.mxSettle_ok, State.mxAnswered_ok, State.applyHousehold_ok]

theorem State.householdReset_ok {s : State} {a1 : Nat} {flr : Bool} (h0 : s.Ok q σ) :
    (State.householdReset s a1 flr).Ok q σ := by
  unfold State.householdReset
  repeat' split
  all_goals simp_all +contextual (maxDischargeDepth := 99) only [State.applyHousehold_ok, State.mxFlush_ok]

theorem State.hhRequest_ok {s : State} {a1 : Nat} (h0 : s.Ok q σ) : (State.hhRequest s a1).Ok q σ := by
  unfold State.hhRequest
  repeat' split
  all_goals simp_all +contextual (maxDischargeDepth := 99) only [State.householdReset_ok]

theorem State.sendRemote_ok {s : State} {r : Nat} {tag : Nat} {a : Acc} {write : Bool} {addr : Nat} {n : Nat}
    {data : List Byte} (h0 : s.Ok q σ) : (State.sendRemote s r tag a write addr n data).Ok q σ := by
  unfold State.sendRemote
  repeat' split
  all_goals simp_all +contextual (maxDischargeDepth := 99) only [okMk, okFold, State.offer_ok]

theorem State.hostRemote_ok {s : State} {i : Instr} {f : Nat} {a : Acc} {addr n : Nat} {write : Bool}
    {data : List Byte}
    (h : s.Ok q σ) : (s.hostRemote i f a addr n write data).Ok q σ := by
  unfold State.hostRemote
  refine okIte (fun _ => okFoldl (fun t x ht => State.offer_ok ht) h) (fun _ => okIte (fun _ => ?_) (fun _ => ?_))
  · simp only [okMk, okFold]; exact h
  · refine okFoldl (fun t x ht => ?_) h
    dsimp only
    split
    · have := State.sendRemote_ok (r := 23) (tag := ‹Nat›) (a := a) (write := false) (addr := addr + x.1) (n := x.2)
        (data := []) ht
      simp only [okMk, okFold]; exact this
    · exact ht

theorem State.flushMsgs_ok {s : State} {f : Nat} (h0 : s.Ok q σ) : (State.flushMsgs s f).Ok q σ := by
  unfold State.flushMsgs
  repeat' split
  all_goals simp_all +contextual (maxDischargeDepth := 99) only [okFoldl, implies_true, State.send_ok,
      State.setFunc_ok]

theorem State.msixWrite_ok {s : State} {f : Nat} {o : Nat} {data : List Byte} (h0 : s.Ok q σ) :
    (State.msixWrite s f o data).Ok q σ := by
  unfold State.msixWrite
  repeat' split
  all_goals simp_all +contextual (maxDischargeDepth := 99) only [State.flushMsgs_ok, State.setFunc_ok]

theorem State.barAccess_ok {s : State} {i : Instr} {f : Fin 9} {two : Bool} {off : Nat} {n : Nat} {write : Bool}
    {data : List Byte} (h0 : s.Ok q σ) : (State.barAccess s i f two off n write data).Ok q σ := by
  unfold State.barAccess
  repeat' split
  all_goals simp_all +contextual (maxDischargeDepth := 99) only [okMk, okFold, okIte, implies_true,
      State.busAccess_ok, State.hhRequest_ok, State.hostRemote_ok, State.msixWrite_ok, State.answer_ok,
      State.decodeError_ok]

theorem State.notAsked_ok {s : State} {i : Instr} (h0 : s.Ok q σ) : (State.notAsked s i).Ok q σ := by
  unfold State.notAsked
  repeat' split
  all_goals simp_all +contextual (maxDischargeDepth := 99) only [okMk, okFold]

theorem State.hostRead_ok {s : State} {i : Instr} {f : Fin 9} {two : Bool} {off : Nat} {n : Nat} (h0 : s.Ok q σ) :
    (State.hostRead s i f two off n).Ok q σ := by
  unfold State.hostRead
  repeat' split
  all_goals simp_all +contextual (maxDischargeDepth := 99) only [okMk, okFold, okIte, implies_true,
      State.barAccess_ok, State.notAsked_ok]

theorem execHostMemRead_ok {f : Fin 9} {two : Bool} {off : BitVec 26} {bytes : Fin 4097} {s : State} (h4 : s.Ok q σ)
    : OkOut q σ (execHostMemRead f two off bytes s) := by
  unfold execHostMemRead
  repeat' split
  all_goals simp_all +contextual (maxDischargeDepth := 99) only [okNext, State.unsupported_ok, State.hostRead_ok]

theorem execWhbBadOp_ok {tag : BitVec 8} {op : Fin 16} {sub : Fin 16} {s : State} (h3 : s.Ok q (σ₀, none)) : OkOut q
    (σ₀, none) (execWhbBadOp tag op sub s) := by
  unfold execWhbBadOp
  repeat' split
  all_goals simp_all +contextual (maxDischargeDepth := 99) only [okNext, implies_true, State.whServe_ok,
      State.whAnswer_ok]

theorem State.angleTaken_ok {s : State} {n : Nat} {theta : Nat} (h0 : s.Ok q σ) :
    (State.angleTaken s n theta).Ok q σ := by
  unfold State.angleTaken
  repeat' split
  all_goals (try dsimp only)
  repeat' split
  all_goals simp_all +contextual (maxDischargeDepth := 99) only [State.enterRun_ok, State.setFld_ok,
      State.enterRamp_ok]
  all_goals (repeat' split)
  all_goals simp_all +contextual (maxDischargeDepth := 99) only [State.tl_wf (q := q) (σ := σ), TileSt.put_wf,
      Tab.wf_keep, TileSt.reset_wf, okMk, okFold, okIte, okFoldl, okNext, okIteOut, okSome, okNone, implies_true,
      State.enterRun_ok, State.setFld_ok, State.enterRamp_ok]

theorem execMotorAlignDone_ok {n : Fin 4} {s : State} (h1 : s.Ok q σ) : OkOut q σ (execMotorAlignDone n s) := by
  unfold execMotorAlignDone
  repeat' split
  all_goals simp_all +contextual (maxDischargeDepth := 99) only [okNext, State.angleTaken_ok]

theorem State.takeNum_ok {s : State} {n : Nat} (h0 : s.Ok q σ) : (State.takeNum s n).Ok q σ := by
  unfold State.takeNum
  repeat' split
  all_goals simp_all +contextual (maxDischargeDepth := 99) only [okMk, okFold, okIte, implies_true, State.setNum_ok,
      State.setFld_ok, State.raise_ok]

theorem State.numberSelf_ok {s : State} (h0 : s.Ok q σ) : (State.numberSelf s).Ok q σ := by
  unfold State.numberSelf
  repeat' split
  all_goals (try dsimp only)
  repeat' split
  all_goals simp_all +contextual (maxDischargeDepth := 99) only [okMk, okFold, State.takeNum_ok, State.raise_ok]
  all_goals (repeat' split)
  all_goals simp_all +contextual (maxDischargeDepth := 99) only [State.tl_wf (q := q) (σ := σ), TileSt.put_wf,
      Tab.wf_keep, TileSt.reset_wf, okMk, okFold, okIte, okFoldl, okNext, okIteOut, okSome, okNone, implies_true,
      State.takeNum_ok, State.raise_ok]

theorem State.pageWrite_ok {s : State} {i : Instr} {a : Acc} {p : Nat} {off : Nat} {w : Nat} (h0 : s.Ok q σ) :
    (State.pageWrite s i a p off w).Ok q σ := by
  unfold State.pageWrite
  repeat' split
  all_goals simp_all +contextual (maxDischargeDepth := 99) only [implies_true, State.busAccess_ok, State.hhRequest_ok]

theorem execHhReset_ok {a : Acc} {w : Word} {s : State} (h2 : s.Ok q σ) : OkOut q σ (execHhReset a w s) := by
  unfold execHhReset
  repeat' split
  all_goals simp_all +contextual (maxDischargeDepth := 99) only [okNext, State.pageWrite_ok]

theorem State.cplTimeout_ok {s : State} {f : Nat} (h0 : s.Ok q σ) : (State.cplTimeout s f).Ok q σ := by
  unfold State.cplTimeout
  repeat' split
  all_goals simp_all +contextual (maxDischargeDepth := 99) only [okMk, okFold, State.raiseBy_ok, State.bump_ok]

theorem execHostCplTimeout_ok {f : Fin 9} {s : State} (h1 : s.Ok q σ) : OkOut q σ (execHostCplTimeout f s) := by
  unfold execHostCplTimeout
  repeat' split
  all_goals simp_all +contextual (maxDischargeDepth := 99) only [okMk, okFold, okNext, State.cplTimeout_ok,
      State.notAsked_ok]

theorem State.autoDawn_ok {s : State} (h0 : s.Ok q σ) : (State.autoDawn s).Ok q σ := by
  unfold State.autoDawn
  repeat' split
  all_goals simp_all +contextual (maxDischargeDepth := 99) only [okMk, okFold, State.setFld_ok]

theorem State.pllLock_ok {s : State} (h0 : s.Ok q σ) : (State.pllLock s).Ok q σ := by
  unfold State.pllLock
  repeat' split
  all_goals simp_all +contextual (maxDischargeDepth := 99) only [State.autoDawn_ok, State.setFld_ok]

theorem execPllLock_ok {s : State} (h0 : s.Ok q σ) : OkOut q σ (execPllLock s) := by
  unfold execPllLock
  repeat' split
  all_goals simp_all +contextual (maxDischargeDepth := 99) only [okNext, State.pllLock_ok]

theorem execPwmCommandEdge_ok {n : Fin 4} {s : State} (h1 : s.Ok q σ) : OkOut q σ (execPwmCommandEdge n s) := by
  unfold execPwmCommandEdge
  repeat' split
  all_goals simp_all +contextual (maxDischargeDepth := 99) only [okIte, okNext, okIteOut, implies_true,
      State.setPw_ok, State.raise_ok, State.bump_ok, State.commands_ok]

end Sys2Proof.Machine
end

