-- ==== Sys2Proof/Laws/Keeps4.lean ====
section
/-!
SUPPORT. Part 4 of what every operation and every command keeps, in the order in which they rest on each other.
-/

namespace Sys2Proof.Machine

variable {q : List Instr} {σ : Silicon × Option Weigh} {σ₀ : Silicon}

theorem State.rxPump_ok {s : State} {m a2 : Nat} (h0 : s.Ok q σ) : (State.rxPump s m a2).Ok q σ := by
  induction a2 generalizing s with
  | zero => exact h0
  | succ n ih =>
    rw [State.rxPump]
    split
    · exact ih (State.offer_ok (okSame (State.setRx_ok h0)))
    · exact h0

theorem State.mapAckIn_ok {s : State} {f : Frame} (h0 : s.Ok q σ) : (State.mapAckIn s f).Ok q σ := by
  unfold State.mapAckIn
  repeat' split
  all_goals simp_all +contextual (maxDischargeDepth := 99) only [okMk, okFold, okIte, implies_true,
      State.rootActivate_ok]

theorem State.salu_ok {s : State} {t : Nat} {op : Nat} {f : Nat → Nat → Nat} (h0 : s.Ok q σ) :
    (State.salu s t op f).Ok q σ := by
  unfold State.salu
  repeat' split
  all_goals simp_all +contextual (maxDischargeDepth := 99) only [State.issueRegs_ok]

theorem execSub_ok {t : Fin 64} {s : State} (h1 : s.Ok q σ) : OkOut q σ (execSub t s) := by
  unfold execSub
  repeat' split
  all_goals simp_all +contextual (maxDischargeDepth := 99) only [okNext, State.salu_ok]

theorem State.sampleAdc_ok {s : State} {n : Nat} {codes : List Nat} (h0 : s.Ok q σ) :
    (State.sampleAdc s n codes).Ok q σ := by
  unfold State.sampleAdc
  repeat' split
  all_goals simp_all +contextual (maxDischargeDepth := 99) only [okIte, okFoldl, implies_true, State.setFld_ok,
      State.raise_ok, State.condition_ok, State.bump_ok]

theorem State.sampleTick_ok {s : State} {n : Fin 4} {codes : List Nat} (h0 : s.Ok q σ) :
    (State.sampleTick s n codes).Ok q σ := by
  unfold State.sampleTick
  repeat' split
  all_goals simp_all +contextual (maxDischargeDepth := 99) only [okIte, implies_true, State.sampleAdc_ok,
      State.applyMotor_ok]

theorem execDawnPrime_ok {s : State} (h0 : s.Ok q σ) : OkOut q σ (execDawnPrime s) := by
  unfold execDawnPrime
  repeat' split
  all_goals simp_all +contextual (maxDischargeDepth := 99) only [okMk, okFold, okNext, State.setFld_ok]

theorem execVfsub_ok {t : Fin 64} {s : State} (h1 : s.Ok q σ) : OkOut q σ (execVfsub t s) := by
  unfold execVfsub
  repeat' split
  all_goals simp_all +contextual (maxDischargeDepth := 99) only [okNext, State.vecOp_ok]

theorem execSpillRead_ok {a0 : Fin 256} {s : State} (h1 : s.Ok q σ) : OkOut q σ (execSpillRead a0 s) := by
  unfold execSpillRead
  repeat' split
  all_goals simp_all +contextual (maxDischargeDepth := 99) only [okNext, State.spillRead_ok]

theorem execSredFmin_ok {t : Fin 64} {s : State} (h1 : s.Ok q σ) : OkOut q σ (execSredFmin t s) := by
  unfold execSredFmin
  repeat' split
  all_goals simp_all +contextual (maxDischargeDepth := 99) only [okNext, State.reduce_ok]

theorem State.winOp_ok {s : State} {t : Nat} {op : Nat} {w : Nat} {k : Issue → Ins → Nat → State} (h0 : s.Ok q σ)
    (h4 : ∀ (t0 : Issue) (t1 : Ins) (t2 : Nat), Tab.wf (0 : Byte) t0.x.sram = true → (k t0 t1 t2).Ok q σ) :
    (State.winOp s t op w k).Ok q σ := by
  grind [State.winOp, State.issue_ok, State.leafFault_ok]

theorem State.watch_ok {s : State} {i : Issue} {off : Nat} {n : Nat} {write : Bool} (h0 : s.Ok q σ)
    (hI : Tab.wf (0 : Byte) i.x.sram = true) : (State.watch s i off n write).Ok q σ := by
  unfold State.watch
  repeat' split
  all_goals simp_all +contextual (maxDischargeDepth := 99) only [okFoldl, implies_true, State.hit_ok]

theorem State.store_ok {s : State} {t op w : Nat} {f : LeafSt → Ins → List (Nat × List Byte)} (h : s.Ok q σ) :
    (s.store t op w f).Ok q σ := by
  unfold State.store
  refine State.winOp_ok h (fun i n off hi => ?_)
  have hz : ∀ (l : List (Nat × List Byte)) (x : TileSt), Tab.wf (0 : Byte) x.sram = true →
      Tab.wf (0 : Byte) (l.foldl (fun (x : TileSt) ab => x.put (i.addr off + ab.1) ab.2) x).sram = true := by
    intro l
    induction l with
    | nil => exact fun _ hz => hz
    | cons j l ih => exact fun x hx => ih _ (TileSt.put_wf _ _ _ hx)
  exact State.watch_ok (State.retire_ok (State.setTl_ok h (hz _ _ hi)) (hz _ _ hi)) (hz _ _ hi)

theorem execVst_ok {t : Fin 64} {s : State} (h1 : s.Ok q σ) : OkOut q σ (execVst t s) := by
  unfold execVst
  repeat' split
  all_goals simp_all +contextual (maxDischargeDepth := 99) only [okNext, State.store_ok]

theorem execConstLeave_ok {a : Acc} {s : State} (h1 : s.Ok q σ) : OkOut q σ (execConstLeave a s) := by
  unfold execConstLeave
  repeat' split
  all_goals simp_all +contextual (maxDischargeDepth := 99) only [okNext, implies_true, State.mgrAccess_ok,
      State.constCtrl_ok]

theorem execDmawait_ok {t : Fin 64} {s : State} (h1 : s.Ok q σ) : OkOut q σ (execDmawait t s) := by
  unfold execDmawait
  repeat' split
  all_goals simp_all +contextual (maxDischargeDepth := 99) only [okIte, okNext, implies_true, State.issue_ok,
      State.retire_ok, State.putCtx_ok]

theorem execSltu_ok {t : Fin 64} {s : State} (h1 : s.Ok q σ) : OkOut q σ (execSltu t s) := by
  unfold execSltu
  repeat' split
  all_goals simp_all +contextual (maxDischargeDepth := 99) only [okNext, State.salu_ok]

theorem State.ringAccess_ok {s : State} {i : Instr} {a : Acc} {via : Option (Fin 8)} {k : Nat} {r : Nat} {w : Nat}
    (h0 : s.Ok q σ) : (State.ringAccess s i a via k r w).Ok q σ := by
  unfold State.ringAccess
  repeat' split
  all_goals simp_all +contextual (maxDischargeDepth := 99) only [implies_true, State.access_ok, State.ringRegWrite_ok]

theorem State.almAccess_ok {s : State} {i : Instr} {a : Acc} {via : Option (Fin 8)} {off : Nat}
    {k : State → Nat → State} (h0 : s.Ok q σ) (h5 : ∀ (t0 : State) (t1 : Nat), t0.Ok q σ → (k t0 t1).Ok q σ) :
    (State.almAccess s i a via off k).Ok q σ := by
  unfold State.almAccess
  repeat' split
  all_goals simp_all +contextual (maxDischargeDepth := 99) only [okIte, implies_true, State.access_ok,
      State.denial_ok]

theorem execAlmCancel_ok {a : Acc} {via : Option (Fin 8)} {s : State} (h2 : s.Ok q σ) : OkOut q σ
    (execAlmCancel a via s) := by
  unfold execAlmCancel
  repeat' split
  all_goals simp_all +contextual (maxDischargeDepth := 99) only [okNext, implies_true, State.almAccess_ok,
      State.almSoftCancel_ok]

theorem State.discIn_ok {s : State} {k : Nat} {f : Frame} {sub : Nat} {deliver : State → State} (h0 : s.Ok q σ)
    (h4 : ∀ (t0 : State), t0.Ok q σ → (deliver t0).Ok q σ) : (State.discIn s k f sub deliver).Ok q σ := by
  unfold State.discIn
  repeat' split
  all_goals simp_all +contextual (maxDischargeDepth := 99) only [okIte, implies_true, State.linkAccept_ok,
      State.above_ok]

theorem State.rxDrop_ok {s : State} {m : Nat} {vc : Nat} (h0 : s.Ok q σ) : (State.rxDrop s m vc).Ok q σ := by
  unfold State.rxDrop
  repeat' split
  all_goals simp_all +contextual (maxDischargeDepth := 99) only [State.bump_ok]

theorem execCsiFrameShortPacket_ok {m : Fin 4} {p : CsiHead} {_isEnd : Bool} {s : State} (h3 : s.Ok q σ) : OkOut q σ
    (execCsiFrameShortPacket m p _isEnd s) := by
  unfold execCsiFrameShortPacket
  repeat' split
  all_goals simp_all +contextual (maxDischargeDepth := 99) only [okNext, State.raise_ok, State.rxDrop_ok]

theorem State.keepHello_ok {s : State} {k : Nat} {f : Frame} (h0 : s.Ok q σ) : (State.keepHello s k f).Ok q σ := by
  unfold State.keepHello
  repeat' split
  all_goals simp_all +contextual (maxDischargeDepth := 99) only [State.setFld_ok, State.setPair_ok]

theorem State.set16_ok {s : State} {p : Nat} {f : Fld} {v : Int} (h0 : s.Ok q σ) : (State.set16 s p f v).Ok q σ := by
  unfold State.set16
  repeat' split
  all_goals simp_all +contextual (maxDischargeDepth := 99) only [State.setSfld_ok, State.drew_ok, State.setFld_ok]

theorem State.runFail_ok {s : State} {a1 : Nat} {r : RunSt} {code : Nat} (h0 : s.Ok q σ) :
    (State.runFail s a1 r code).Ok q σ := by
  unfold State.runFail
  repeat' split
  all_goals simp_all +contextual (maxDischargeDepth := 99) only [State.raiseBy_ok, State.endRun_ok]

theorem execGateLatchClr_ok {a : Acc} {n : Fin 4} {s : State} (h2 : s.Ok q σ) : OkOut q σ
    (execGateLatchClr a n s) := by
  unfold execGateLatchClr
  repeat' split
  all_goals simp_all +contextual (maxDischargeDepth := 99) only [okNext, implies_true, State.access_ok,
      State.latchClr_ok]

theorem execLinkUpdateDue_ok {k : Fin 4} {s : State} (h1 : s.Ok q σ) : OkOut q σ (execLinkUpdateDue k s) := by
  unfold execLinkUpdateDue
  repeat' split
  all_goals simp_all +contextual (maxDischargeDepth := 99) only [okNext, State.wantUpdate_ok]

theorem execDramTempCross_ok {c : Fin 2} {hot : Bool} {throttled : Bool} {s : State} (h3 : s.Ok q σ) : OkOut q σ
    (execDramTempCross c hot throttled s) := by
  unfold execDramTempCross
  repeat' split
  all_goals simp_all +contextual (maxDischargeDepth := 99) only [okMk, okFold, okNext, State.condition_ok]

theorem execDawnDrainCheck_ok {notEmpty : List (Fin 120)} {s : State} (h1 : s.Ok q σ) : OkOut q σ
    (execDawnDrainCheck notEmpty s) := by
  unfold execDawnDrainCheck
  repeat' split
  all_goals simp_all +contextual (maxDischargeDepth := 99) only [okMk, okFold, okNext, State.setFld_ok,
      State.dawnFail_ok]

theorem State.armAccess_ok {s : State} {i : Instr} {a : Acc} {p : Nat} {off : Nat} {strobe : Bool} {arm : Bool}
    {w : Nat} (h0 : s.Ok q σ) : (State.armAccess s i a p off strobe arm w).Ok q σ := by
  unfold State.armAccess
  repeat' split
  all_goals simp_all +contextual (maxDischargeDepth := 99) only [okIte, implies_true, State.access_ok,
      State.armWrite_ok, State.denial_ok]

theorem execPcfgWrite_ok {a : Acc} {a1 : Fin 8} {off : Fin 64} {w : Word} {s : State} (h4 : s.Ok q σ) : OkOut q σ
    (execPcfgWrite a a1 off w s) := by
  unfold execPcfgWrite
  repeat' split
  all_goals simp_all +contextual (maxDischargeDepth := 99) only [okNext, State.after_ok, State.provAccess_ok]

theorem State.carryRequest_ok {s : State} {p : List Flit} (h0 : s.Ok q σ) : (State.carryRequest s p).Ok q σ := by
  unfold State.carryRequest
  repeat' split
  all_goals simp_all +contextual (maxDischargeDepth := 99) only [State.sendRouted_ok]

theorem State.mxSubmit_ok {s : State} {r : MxReq} (h0 : s.Ok q σ) : (State.mxSubmit s r).Ok q σ := by
  unfold State.mxSubmit
  repeat' split
  all_goals simp_all +contextual (maxDischargeDepth := 99) only [okMk, okFold, State.mxSettle_ok]

theorem State.heldAccess_ok {s : State} {a : Acc} {port : Bool} {n : Nat} {nw : Nat} {k : State → State}
    (h0 : s.Ok q σ) (h5 : ∀ (t0 : State), t0.Ok q σ → (k t0).Ok q σ) : (State.heldAccess s a port n nw k).Ok q σ := by
  unfold State.heldAccess
  repeat' split
  all_goals simp_all +contextual (maxDischargeDepth := 99) only [okMk, okFold, State.denial_ok]

theorem State.heldRead_ok {s : State} {n : Nat} {nw : Nat} {off : Nat} {hh : Nat} (h0 : s.Ok q σ) :
    (State.heldRead s n nw off hh).Ok q σ := by
  unfold State.heldRead
  repeat' split
  all_goals (try dsimp only)
  repeat' split
  all_goals simp_all +contextual (maxDischargeDepth := 99) only [State.setQ_ok, State.popReply_ok, State.qEvent_ok]
  all_goals (repeat' split)
  all_goals simp_all +contextual (maxDischargeDepth := 99) only [State.tl_wf (q := q) (σ := σ), TileSt.put_wf,
      Tab.wf_keep, TileSt.reset_wf, okMk, okFold, okIte, okFoldl, okNext, okIteOut, okSome, okNone, implies_true,
      State.setQ_ok, State.popReply_ok, State.qEvent_ok]

theorem State.takeItem_ok {s : State} {n : Nat} (h0 : s.Ok q σ) : (State.takeItem s n).Ok q σ := by
  unfold State.takeItem
  repeat' split
  all_goals (try dsimp only)
  repeat' split
  all_goals simp_all +contextual (maxDischargeDepth := 99) only [State.pull_ok, State.qTouch_ok, State.setQ_ok]
  all_goals (repeat' split)
  all_goals simp_all +contextual (maxDischargeDepth := 99) only [State.tl_wf (q := q) (σ := σ), TileSt.put_wf,
      Tab.wf_keep, TileSt.reset_wf, okMk, okFold, okIte, okFoldl, okNext, okIteOut, okSome, okNone, implies_true,
      State.pull_ok, State.qTouch_ok, State.setQ_ok]

theorem State.take_ok {s : State} {n : Nat} {nw : Nat} {off : Nat} {hh : Nat} (h0 : s.Ok q σ) :
    (State.take s n nw off hh).Ok q σ := by
  unfold State.take
  repeat' split
  all_goals simp_all +contextual (maxDischargeDepth := 99) only [State.heldRead_ok, State.takeItem_ok]

theorem State.requestAt_ok {s : State} {i : Instr} {a2 : Flit} {data : List Byte} {bad : Bool} (h0 : s.Ok q σ) :
    (State.requestAt s i a2 data bad).Ok q σ := by
  unfold State.requestAt
  repeat' split
  all_goals (try dsimp only)
  repeat' split
  all_goals simp_all +contextual (maxDischargeDepth := 99) only [okMk, okFold, implies_true, State.heldAccess_ok,
      State.take_ok, State.heldRead_ok, State.releaseHeld_ok, State.portBus_ok, State.busAccess_ok,
      State.hhRequest_ok]
  all_goals (repeat' split)
  all_goals simp_all +contextual (maxDischargeDepth := 99) only [State.tl_wf (q := q) (σ := σ), TileSt.put_wf,
      Tab.wf_keep, TileSt.reset_wf, okMk, okFold, okIte, okFoldl, okNext, okIteOut, okSome, okNone, implies_true,
      State.heldAccess_ok, State.take_ok, State.heldRead_ok, State.releaseHeld_ok, State.portBus_ok,
      State.busAccess_ok, State.hhRequest_ok]

theorem State.itemDenied_ok {s : State} {a1 : Nat} {hh : Nat} {served : Bool} (h0 : s.Ok q σ) :
    (State.itemDenied s a1 hh served).Ok q σ := by
  unfold State.itemDenied
  repeat' split
  all_goals simp_all +contextual (maxDischargeDepth := 99) only [okIte, implies_true, State.bump_ok, State.raiseBy_ok]

theorem State.requestIn_ok {s : State} {i : Instr} {r : Nat} {p : List Flit} (h0 : s.Ok q σ) :
    (State.requestIn s i r p).Ok q σ := by
  unfold State.requestIn
  split
  · exact h0
  · dsimp only
    refine okIte
        (fun _ => okIte (fun _ => State.carryRequest_ok h0) (fun _ => State.reply_ok (State.unroutable_ok h0)))
        (fun _ =>
      okIte (fun _ => State.mxSubmit_ok h0) (fun _ => ?_))
    have k : ∀ (c : Prop) [Decidable c] (x y : State), x.Ok q σ → y.Ok q σ → (if c then x else y).Ok q σ :=
      fun c _ x y hx hy => okIte (fun _ => hx) (fun _ => hy)
    refine State.answerPacket_ok ?_
    simp only [okMk, okFold]
    split
    · exact k _ _ _ (State.itemDenied_ok (k _ _ _ (State.requestAt_ok h0) (State.decodeError_ok h0)))
        (k _ _ _ (State.requestAt_ok h0) (State.decodeError_ok h0))
    · exact k _ _ _ (State.requestAt_ok h0) (State.decodeError_ok h0)

theorem State.takeInput_ok {s : State} {r : Nat} {o : Nat} {vc : Nat} {p : Nat} (h0 : s.Ok q σ) :
    (State.takeInput s r o vc p).Ok q σ := by
  unfold State.takeInput
  repeat' split
  all_goals simp_all +contextual (maxDischargeDepth := 99) only [okMk, okFold, State.creditBack_ok, State.setBuf_ok]

theorem State.setCredit_ok {s : State} {r : Nat} {o : Nat} {vc : Nat} {n : Nat} (h0 : s.Ok q σ) :
    (State.setCredit s r o vc n).Ok q σ := by
  unfold State.setCredit
  repeat' split
  all_goals simp_all +contextual (maxDischargeDepth := 99) only [okMk, okFold, State.setFld_ok]

theorem State.cross_ok {s : State} {c : Cross} (h0 : s.Ok q σ) : (State.cross s c).Ok q σ := by
  unfold State.cross
  repeat' split
  all_goals simp_all +contextual (maxDischargeDepth := 99) only [okMk, okFold]

theorem State.grant_ok {s : State} {r : Nat} {o : Nat} {vc : Nat} {p : Nat} {f : Flit} {parity : Bool}
    {sideband : Bool} (h0 : s.Ok q σ) : (State.grant s r o vc p f parity sideband).Ok q σ := by
  unfold State.grant
  repeat' split
  all_goals simp_all +contextual (maxDischargeDepth := 99) only [okMk, okFold, State.takeInput_ok,
      State.setCredit_ok, State.cross_ok, State.nocBump_ok]

theorem execWeighhouseHalt_ok {s : State} (h0 : s.Ok q (σ₀, none)) : OkOut q (σ₀, none) (execWeighhouseHalt s) := by
  unfold execWeighhouseHalt
  repeat' split
  all_goals simp_all +contextual (maxDischargeDepth := 99) only [okNext, State.onWh_ok]

theorem State.offerSegment_ok {s : State} {r : Nat} {ag : Nat} {dst : Nat} {dag : Nat} {g : Seg} (h0 : s.Ok q σ) :
    (State.offerSegment s r ag dst dag g).Ok q σ := by
  unfold State.offerSegment
  repeat' split
  all_goals simp_all +contextual (maxDischargeDepth := 99) only [State.offer_ok]

theorem State.phyReset_ok {s : State} (h0 : s.Ok q σ) : (State.phyReset s).Ok q σ := by
  unfold State.phyReset
  repeat' split
  all_goals simp_all +contextual (maxDischargeDepth := 99) only [okIte, okFoldl, implies_true, State.linkDown_ok,
      State.setLink_ok, State.setFld_ok, State.setRx_ok, State.hostLinkDown_ok]

theorem execModuleReady_ok {k : Fin 4} {s : State} (h1 : s.Ok q σ) : OkOut q σ (execModuleReady k s) := by
  unfold execModuleReady
  repeat' split
  all_goals simp_all +contextual (maxDischargeDepth := 99) only [okNext, State.setLink_ok, State.setFld_ok]

theorem State.joinAtRoot_ok {s : State} {k : Nat} {f : Frame} (h0 : s.Ok q σ) : (State.joinAtRoot s k f).Ok q σ := by
  unfold State.joinAtRoot
  repeat' split
  all_goals simp_all +contextual (maxDischargeDepth := 99) only [okMk, okFold, okIte, implies_true,
      State.sendLocal_ok]

theorem State.joinIn_ok {s : State} {k : Nat} {f : Frame} (h0 : s.Ok q σ) : (State.joinIn s k f).Ok q σ := by
  unfold State.joinIn
  repeat' split
  all_goals simp_all +contextual (maxDischargeDepth := 99) only [okIte, implies_true, State.joinAtRoot_ok,
      State.sendLocal_ok]

theorem execJoinReceive_ok {k : Fin 4} {f : Frame} {s : State} (h2 : s.Ok q σ) : OkOut q σ
    (execJoinReceive k f s) := by
  unfold execJoinReceive
  repeat' split
  all_goals simp_all +contextual (maxDischargeDepth := 99) only [okNext, implies_true, State.discIn_ok,
      State.joinIn_ok]

theorem execSlewComplete_ok {s : State} (h0 : s.Ok q σ) : OkOut q σ (execSlewComplete s) := by
  unfold execSlewComplete
  repeat' split
  all_goals simp_all +contextual (maxDischargeDepth := 99) only [okNext, State.setFld_ok]

theorem execSpillWmUpdate_ok {a0 : Fin 256} {s : State} (h1 : s.Ok q σ) : OkOut q σ (execSpillWmUpdate a0 s) := by
  unfold execSpillWmUpdate
  repeat' split
  all_goals simp_all +contextual (maxDischargeDepth := 99) only [okIte, okNext, okIteOut, implies_true,
      State.holdBack_ok, State.setFld_ok, State.setQ_ok, State.qEvent_ok]

theorem State.forwardSegment_ok {s : State} {g : Seg} (h0 : s.Ok q σ) : (State.forwardSegment s g).Ok q σ := by
  unfold State.forwardSegment
  repeat' split
  all_goals simp_all +contextual (maxDischargeDepth := 99) only [okFoldl, implies_true, State.offerSegment_ok]

theorem State.acceptSegment_ok {s : State} {g : Seg} (h0 : s.Ok q σ) : (State.acceptSegment s g).Ok q σ := by
  unfold State.acceptSegment
  repeat' split
  all_goals simp_all +contextual (maxDischargeDepth := 99) only [okIte, implies_true, State.forwardSegment_ok,
      State.showSegs_ok, State.setEph_ok, State.raise_ok, State.bump_ok]

theorem State.receiveSegment_ok {s : State} {g : Seg} (h0 : s.Ok q σ) : (State.receiveSegment s g).Ok q σ := by
  unfold State.receiveSegment
  repeat' split
  all_goals simp_all +contextual (maxDischargeDepth := 99) only [okIte, implies_true, State.raise_ok, State.bump_ok,
      State.acceptSegment_ok]

theorem State.eventPacket_ok {s : State} {r : Nat} {p : List Flit} (h0 : s.Ok q σ) :
    (State.eventPacket s r p).Ok q σ := by
  unfold State.eventPacket
  repeat' split
  all_goals simp_all +contextual (maxDischargeDepth := 99) only [okMk, okFold, okIte, implies_true,
      State.receiveSegment_ok, State.send_ok]

theorem execMsixUnmask_ok {f : Fin 9} {what : Unmask} {s : State} (h2 : s.Ok q σ) : OkOut q σ
    (execMsixUnmask f what s) := by
  unfold execMsixUnmask
  repeat' split
  all_goals simp_all +contextual (maxDischargeDepth := 99) only [okNext, State.flushMsgs_ok, State.setFunc_ok]

theorem State.freeFrom_ok {s : State} {t : Nat} {beat : Nat} (h0 : s.Ok q σ) : (State.freeFrom s t beat).Ok q σ := by
  unfold State.freeFrom
  repeat' split
  all_goals simp_all +contextual (maxDischargeDepth := 99) only [State.tl_wf (q := q) (σ := σ), State.setTl_ok]

theorem State.branch_ok {s : State} {t : Nat} {op : Nat} {uses : Ins → List Nat} {taken : LeafSt → Ins → Bool}
    (h0 : s.Ok q σ) : (State.branch s t op uses taken).Ok q σ := by
  unfold State.branch
  repeat' split
  all_goals simp_all +contextual (maxDischargeDepth := 99) only [okIte, implies_true, State.issue_ok,
      State.freeFrom_ok, State.issued_ok, State.putCtx_ok, State.retire_ok]

theorem execBnz_ok {t : Fin 64} {s : State} (h1 : s.Ok q σ) : OkOut q σ (execBnz t s) := by
  unfold execBnz
  repeat' split
  all_goals simp_all +contextual (maxDischargeDepth := 99) only [okNext, State.branch_ok]

theorem execAdmCommit_ok {a : Acc} {s : State} (h1 : s.Ok q σ) : OkOut q σ (execAdmCommit a s) := by
  unfold execAdmCommit
  repeat' split
  all_goals simp_all +contextual (maxDischargeDepth := 99) only [okNext, implies_true, State.mgrAccess_ok,
      State.admCommit_ok]

theorem State.saluImm_ok {s : State} {t : Nat} {op : Nat} {f : Nat → Int → Nat} (h0 : s.Ok q σ) :
    (State.saluImm s t op f).Ok q σ := by
  unfold State.saluImm
  repeat' split
  all_goals simp_all +contextual (maxDischargeDepth := 99) only [State.issueRegs_ok]

theorem execLih_ok {t : Fin 64} {s : State} (h1 : s.Ok q σ) : OkOut q σ (execLih t s) := by
  unfold execLih
  repeat' split
  all_goals simp_all +contextual (maxDischargeDepth := 99) only [okNext, State.saluImm_ok]

theorem State.mapAck_ok {s : State} (h0 : s.Ok q σ) : (State.mapAck s).Ok q σ := by
  unfold State.mapAck
  repeat' split
  all_goals simp_all +contextual (maxDischargeDepth := 99) only [okIte, implies_true, State.toPort_ok,
      State.unroutable_ok]

theorem State.stage_ok {s : State} {epoch : Nat} {m : List MapEntry} (h0 : s.Ok q σ) :
    (State.stage s epoch m).Ok q σ := by
  unfold State.stage
  repeat' split
  all_goals simp_all +contextual (maxDischargeDepth := 99) only [okMk, okFold, State.setFld_ok]

theorem State.mapIn_ok {s : State} {f : Frame} (h0 : s.Ok q σ) : (State.mapIn s f).Ok q σ := by
  unfold State.mapIn
  repeat' split
  all_goals simp_all +contextual (maxDischargeDepth := 99) only [okMk, okFold, okIte, implies_true,
      State.downTree_ok, State.mapAck_ok, State.stage_ok]

theorem State.tapSet_ok {s : State} {code : Nat} (h0 : s.Ok q σ) : (State.tapSet s code).Ok q σ := by
  unfold State.tapSet
  repeat' split
  all_goals simp_all +contextual (maxDischargeDepth := 99) only [okMk, okFold, okIte, okFoldl, implies_true,
      State.gatesOff_ok]

theorem execTapExtest_ok {s : State} (h0 : s.Ok q σ) : OkOut q σ (execTapExtest s) := by
  unfold execTapExtest
  repeat' split
  all_goals simp_all +contextual (maxDischargeDepth := 99) only [okNext, State.tapSet_ok]

theorem execVlane_ok {t : Fin 64} {s : State} (h1 : s.Ok q σ) : OkOut q σ (execVlane t s) := by
  unfold execVlane
  repeat' split
  all_goals simp_all +contextual (maxDischargeDepth := 99) only [okNext, State.issueRegs_ok]

theorem State.gets_ok {s : State} {i : Issue} {n : Ins} (h0 : s.Ok q σ) (hI : Tab.wf (0 : Byte) i.x.sram = true) :
    (State.gets s i n).Ok q σ := by
  unfold State.gets
  repeat' split
  all_goals simp_all +contextual (maxDischargeDepth := 99) only [State.leafFault_ok, State.retire_ok,
      State.setRunFlag_ok]

theorem execGets_ok {t : Fin 64} {s : State} (h1 : s.Ok q σ) : OkOut q σ (execGets t s) := by
  unfold execGets
  repeat' split
  all_goals simp_all +contextual (maxDischargeDepth := 99) only [okNext, implies_true, State.issue_ok, State.gets_ok]

theorem execVfadd_ok {t : Fin 64} {s : State} (h1 : s.Ok q σ) : OkOut q σ (execVfadd t s) := by
  unfold execVfadd
  repeat' split
  all_goals simp_all +contextual (maxDischargeDepth := 99) only [okNext, State.vecOp_ok]

theorem State.rxPumps_ok {s : State} {r : Nat} (h0 : s.Ok q σ) : (State.rxPumps s r).Ok q σ := by
  unfold State.rxPumps
  repeat' split
  all_goals simp_all +contextual (maxDischargeDepth := 99) only [State.rxPump_ok]

theorem execVredImax_ok {t : Fin 64} {s : State} (h1 : s.Ok q σ) : OkOut q σ (execVredImax t s) := by
  unfold execVredImax
  repeat' split
  all_goals simp_all +contextual (maxDischargeDepth := 99) only [okNext, State.reduce_ok]

theorem execNakResend_ok {k : Fin 4} {s : State} (h1 : s.Ok q σ) : OkOut q σ (execNakResend k s) := by
  unfold execNakResend
  repeat' split
  all_goals simp_all +contextual (maxDischargeDepth := 99) only [okNext, State.wantUpdate_ok]

theorem State.injectFrame_ok {s : State} {a1 : InReq} (h0 : s.Ok q σ) : OkOpt q σ (State.injectFrame s a1) := by
  unfold State.injectFrame
  repeat' split
  all_goals (try dsimp only)
  repeat' split
  all_goals simp_all +contextual (maxDischargeDepth := 99) only [okMk, okFold, okSome, okNone, State.offer_ok]
  all_goals (repeat' split)
  all_goals simp_all +contextual (maxDischargeDepth := 99) only [State.tl_wf (q := q) (σ := σ), TileSt.put_wf,
      Tab.wf_keep, TileSt.reset_wf, okMk, okFold, okIte, okFoldl, okNext, okIteOut, okSome, okNone, implies_true,
      State.offer_ok]

theorem State.itemIn_ok {s : State} {k : Nat} {f : Frame} (h0 : s.Ok q σ) : (State.itemIn s k f).Ok q σ := by
  unfold State.itemIn
  repeat' split
  all_goals simp_all +contextual (maxDischargeDepth := 99) only [okFoldl, implies_true, State.offer_ok]

theorem State.distCancel_ok {s : State} {f : Frame} (h0 : s.Ok q σ) : (State.distCancel s f).Ok q σ := by
  unfold State.distCancel
  repeat' split
  all_goals simp_all +contextual (maxDischargeDepth := 99) only [okIte, implies_true, State.almAck_ok,
      State.almCancel_ok]

theorem State.distAck_ok {s : State} {f : Frame} (h0 : s.Ok q σ) : (State.distAck s f).Ok q σ := by
  unfold State.distAck
  repeat' split
  all_goals simp_all +contextual (maxDischargeDepth := 99) only [okMk, okFold, okIte, implies_true, State.raise_ok]

theorem State.distResend_ok {s : State} {f : Frame} (h0 : s.Ok q σ) : (State.distResend s f).Ok q σ := by
  unfold State.distResend
  repeat' split
  all_goals simp_all +contextual (maxDischargeDepth := 99) only [okIte, okFoldl, implies_true, State.sendRouted_ok]

theorem State.almEvent_ok {s : State} {f : Frame} (h0 : s.Ok q σ) : (State.almEvent s f).Ok q σ := by
  unfold State.almEvent
  repeat' split
  all_goals simp_all +contextual (maxDischargeDepth := 99) only [State.distArm_ok, State.distCancel_ok,
      State.distAck_ok, State.distResend_ok]

theorem State.handEvent_ok {s : State} {f : Frame} (h0 : s.Ok q σ) : (State.handEvent s f).Ok q σ := by
  unfold State.handEvent
  repeat' split
  all_goals simp_all +contextual (maxDischargeDepth := 99) only [State.send_ok]

theorem State.eventIn_ok {s : State} {k : Nat} {f : Frame} (h0 : s.Ok q σ) : (State.eventIn s k f).Ok q σ := by
  unfold State.eventIn
  repeat' split
  all_goals simp_all +contextual (maxDischargeDepth := 99) only [State.offerSegment_ok, State.almEvent_ok,
      State.handEvent_ok]

theorem State.deliverHeld_ok {s : State} {a1 : InReq} (h0 : s.Ok q σ) : OkOpt q σ (State.deliverHeld s a1) := by
  unfold State.deliverHeld
  repeat' split
  all_goals simp_all +contextual (maxDischargeDepth := 99) only [okSome, okNone, State.injectFrame_ok,
      State.itemIn_ok, State.eventIn_ok]

theorem State.serveInbound_ok {s : State} {k : Nat} (h : s.Ok q σ) : (s.serveInbound k).Ok q σ := by
  unfold State.serveInbound
  split
  · exact h
  · rename_i x t e
    obtain ⟨y, _, hy⟩ := List.exists_of_findSome?_eq_some e
    cases d : s.deliverHeld y with
    | none => rw [d] at hy; cases hy
    | some u =>
      rw [d] at hy
      simp only [Option.map_some, Option.some.injEq, Prod.mk.injEq] at hy
      have := State.deliverHeld_ok h u d
      refine State.freeUnused_ok ?_
      rw [← hy.2]
      simp only [okMk, okFold]; exact this

theorem State.toAgent_ok {s : State} {k : Nat} {n : Nat} {f : Frame} (h0 : s.Ok q σ) :
    (State.toAgent s k n f).Ok q σ := by
  unfold State.toAgent
  repeat' split
  all_goals simp_all +contextual (maxDischargeDepth := 99) only [okMk, okFold, State.serveInbound_ok]

theorem State.almFrameIn_ok {s : State} {k : Nat} {f : Frame} {op : Nat} (h0 : s.Ok q σ) :
    (State.almFrameIn s k f op).Ok q σ := by
  unfold State.almFrameIn
  repeat' split
  all_goals simp_all +contextual (maxDischargeDepth := 99) only [implies_true, State.linkAccept_ok, State.above_ok,
      State.toAgent_ok]

theorem execAlmResendReqReceive_ok {k : Fin 4} {f : Frame} {s : State} (h2 : s.Ok q σ) : OkOut q σ
    (execAlmResendReqReceive k f s) := by
  unfold execAlmResendReqReceive
  repeat' split
  all_goals simp_all +contextual (maxDischargeDepth := 99) only [okNext, State.almFrameIn_ok]

theorem execMeterIndexEdge_ok {ch : Fin 2} {lz : Bool} {s : State} (h2 : s.Ok q (σ₀, none)) : OkOut q (σ₀, none)
    (execMeterIndexEdge ch lz s) := by
  unfold execMeterIndexEdge
  repeat' split
  all_goals simp_all +contextual (maxDischargeDepth := 99) only [okMkAny, okFoldAny, okNext]

theorem execGateNoriseTimeout_ok {n : Fin 4} {sw : Fin 6} {s : State} (h2 : s.Ok q σ) : OkOut q σ
    (execGateNoriseTimeout n sw s) := by
  unfold execGateNoriseTimeout
  repeat' split
  all_goals simp_all +contextual (maxDischargeDepth := 99) only [okNext, okIteOut, implies_true,
      State.setMotorState_ok, State.raise_ok, State.orFld_ok, State.swOff_ok]

theorem State.axisSticky_ok {s : State} {k : Nat} {bit : Nat} (h0 : s.Ok q σ) :
    (State.axisSticky s k bit).Ok q σ := by
  unfold State.axisSticky
  repeat' split
  all_goals simp_all +contextual (maxDischargeDepth := 99) only [State.orFld_ok]

theorem State.setAxisCount_ok {s : State} {k : Nat} {v : Int} (h0 : s.Ok q σ) :
    (State.setAxisCount s k v).Ok q σ := by
  unfold State.setAxisCount
  repeat' split
  all_goals simp_all +contextual (maxDischargeDepth := 99) only [State.setPair_ok]

theorem State.indexEdge_ok {s : State} {k : Nat} (h0 : s.Ok q σ) : (State.indexEdge s k).Ok q σ := by
  unfold State.indexEdge
  repeat' split
  all_goals simp_all +contextual (maxDischargeDepth := 99) only [okMk, okFold, okIte, implies_true, State.setAxis_ok,
      State.setSfld_ok, State.raise_ok, State.axisSticky_ok, State.bump_ok, State.setAxisCount_ok,
      State.ephRestart_ok]

theorem execSummaryNotifyPeriodic_ok {s : State} (h0 : s.Ok q σ) : OkOut q σ (execSummaryNotifyPeriodic s) := by
  unfold execSummaryNotifyPeriodic
  repeat' split
  all_goals simp_all +contextual (maxDischargeDepth := 99) only [okMk, okFold, okNext, State.sendSummary_ok]

theorem execFabpRequestInject_ok {k : Fin 4} {s : State} (h1 : s.Ok q σ) : OkOut q σ (execFabpRequestInject k s) := by
  unfold execFabpRequestInject
  repeat' split
  all_goals simp_all +contextual (maxDischargeDepth := 99) only [okNext, State.serveInbound_ok]

theorem execSealParam_ok {tag id : BitVec 8} {body : List Byte} {s : State} (h : s.Ok q (σ₀, none)) : OkOut q
    (σ₀, none) (execSealParam tag id body s) := by
  unfold execSealParam
  rw [okNext]
  refine State.whServe_ok h (fun t ht => ?_)
  split
  · exact State.whAnswer_ok ht
  · refine okIte (fun _ => State.whAnswer_ok ht) (fun _ => State.drew_ok ?_)
    simp only [okMkAny, okFoldAny]; exact ht

theorem execAlmDistAckReceive_ok {k : Fin 4} {f : Frame} {s : State} (h2 : s.Ok q σ) : OkOut q σ
    (execAlmDistAckReceive k f s) := by
  unfold execAlmDistAckReceive
  repeat' split
  all_goals simp_all +contextual (maxDischargeDepth := 99) only [okNext, State.almFrameIn_ok]

theorem State.popStamps_ok {s : State} {m v t : Nat} {l : List StampEntry} (h : s.Ok q σ) :
    (s.popStamps m v t l).1.Ok q σ := by
  induction l generalizing s with
  | nil => exact h
  | cons e l ih =>
    rw [State.popStamps]
    split
    · exact ih (State.raise_ok (State.bump_ok h))
    · exact h

theorem State.sendUpdate_ok {s : State} {k : Nat} (h0 : s.Ok q σ) : (State.sendUpdate s k).Ok q σ := by
  unfold State.sendUpdate
  repeat' split
  all_goals simp_all +contextual (maxDischargeDepth := 99) only [State.emitFrame_ok, State.setPort_ok]

theorem State.stampTime_ok {s : State} {k : Nat} {f : Frame} (h0 : s.Ok q σ) : (State.stampTime s k f).1.Ok q σ := by
  unfold State.stampTime
  repeat' split
  all_goals simp_all +contextual (maxDischargeDepth := 99) only [okMk, okFold]

theorem State.sendNew_ok {s : State} {k : Nat} {a2 : TxFrame} (h0 : s.Ok q σ) : (State.sendNew s k a2).Ok q σ := by
  unfold State.sendNew
  repeat' split
  all_goals simp_all +contextual (maxDischargeDepth := 99) only [State.stampTime_ok, State.setPort_ok,
      State.freeUnused_ok, State.emitFrame_ok, State.setFld_ok]

theorem execFrameTransmit_ok {k : Fin 4} {s : State} (h1 : s.Ok q σ) : OkOut q σ (execFrameTransmit k s) := by
  unfold execFrameTransmit
  repeat' split
  all_goals (try dsimp only)
  repeat' split
  all_goals simp_all +contextual (maxDischargeDepth := 99) only [okNext, State.sendUpdate_ok, State.sendReplay_ok,
      State.sendNew_ok]
  all_goals (repeat' split)
  all_goals simp_all +contextual (maxDischargeDepth := 99) only [State.tl_wf (q := q) (σ := σ), TileSt.put_wf,
      Tab.wf_keep, TileSt.reset_wf, okMk, okFold, okIte, okFoldl, okNext, okIteOut, okSome, okNone, implies_true,
      State.sendUpdate_ok, State.sendReplay_ok, State.sendNew_ok]

theorem State.facetMeasure_ok {s : State} {n : Nat} {a2 : Int} (h0 : s.Ok q σ) :
    (State.facetMeasure s n a2).Ok q σ := by
  unfold State.facetMeasure
  repeat' split
  all_goals simp_all +contextual (maxDischargeDepth := 99) only [okIte, implies_true, State.setSfld_ok,
      State.modMo_ok, State.raise_ok, State.setFld_ok]

theorem State.facetUpdate_ok {s : State} {n : Nat} (h0 : s.Ok q σ) : (State.facetUpdate s n).Ok q σ := by
  unfold State.facetUpdate
  repeat' split
  all_goals (try dsimp only)
  repeat' split
  all_goals simp_all +contextual (maxDischargeDepth := 99) only [State.setMo_ok, State.setFld_ok,
      State.facetMeasure_ok, State.raise_ok]
  all_goals (repeat' split)
  all_goals simp_all +contextual (maxDischargeDepth := 99) only [State.tl_wf (q := q) (σ := σ), TileSt.put_wf,
      Tab.wf_keep, TileSt.reset_wf, okMk, okFold, okIte, okFoldl, okNext, okIteOut, okSome, okNone, implies_true,
      State.setMo_ok, State.setFld_ok, State.facetMeasure_ok, State.raise_ok]

theorem State.wheelNow_ok {s : State} {p : Nat} (h0 : s.Ok q σ) : (State.wheelNow s p).Ok q σ := by
  unfold State.wheelNow
  repeat' split
  all_goals simp_all +contextual (maxDischargeDepth := 99) only [okIte, okFoldl, implies_true, State.wakeSlot_ok]

theorem State.missingCheck_ok {s : State} {k : Nat} (h0 : s.Ok q σ) : (State.missingCheck s k).Ok q σ := by
  unfold State.missingCheck
  repeat' split
  all_goals simp_all +contextual (maxDischargeDepth := 99) only [okIte, implies_true, State.raise_ok,
      State.axisSticky_ok, State.setAxis_ok]

theorem State.blockSlot_ok {s : State} {p : Nat} {k : Nat} (h0 : s.Ok q σ) : (State.blockSlot s p k).Ok q σ := by
  unfold State.blockSlot
  repeat' split
  all_goals simp_all +contextual (maxDischargeDepth := 99) only [State.idleSlot_ok, State.setSlot_ok]

theorem execShFieldWrite_ok {a : Acc} {page : Fin 512} {off : Fin 1024} {w : Word} {s : State} (h4 : s.Ok q σ)
    : OkOut q σ (execShFieldWrite a page off w s) := by
  unfold execShFieldWrite
  repeat' split
  all_goals simp_all +contextual (maxDischargeDepth := 99) only [okNext, State.pageWrite_ok]

theorem execCommitComplete_ok {s : State} (h0 : s.Ok q (σ₀, none)) : OkOut q (σ₀, none) (execCommitComplete s) := by
  unfold execCommitComplete
  repeat' split
  all_goals simp_all +contextual (maxDischargeDepth := 99) only [okMkAny, okFoldAny, okNext]

theorem execMul_ok {t : Fin 64} {s : State} (h1 : s.Ok q σ) : OkOut q σ (execMul t s) := by
  unfold execMul
  repeat' split
  all_goals simp_all +contextual (maxDischargeDepth := 99) only [okNext, State.salu_ok]

theorem execVltreeFmax_ok {t : Fin 64} {s : State} (h1 : s.Ok q σ) : OkOut q σ (execVltreeFmax t s) := by
  unfold execVltreeFmax
  repeat' split
  all_goals simp_all +contextual (maxDischargeDepth := 99) only [okNext, State.laneTree_ok]

theorem State.mapSettle_ok {s : State} (h0 : s.Ok q σ) : (State.mapSettle s).Ok q σ := by
  unfold State.mapSettle
  repeat' split
  all_goals simp_all +contextual (maxDischargeDepth := 99) only [okMk, okFold, okIte, okFoldl, implies_true,
      State.stage_ok, State.downTree_ok, State.rootActivate_ok]

theorem execMapSettle_ok {s : State} (h0 : s.Ok q σ) : OkOut q σ (execMapSettle s) := by
  unfold execMapSettle
  repeat' split
  all_goals simp_all +contextual (maxDischargeDepth := 99) only [okNext, State.after_ok, State.mapSettle_ok]

theorem State.mxAnswer_ok {s : State} {k : Nat} (h0 : s.Ok q σ) : (State.mxAnswer s k).Ok q σ := by
  unfold State.mxAnswer
  repeat' split
  all_goals simp_all +contextual (maxDischargeDepth := 99) only [okMk, okFold, State.raise_ok, State.bump_ok]

theorem State.rspTimeout_ok {s : State} {r : Nat} {agent : Nat} {tag : Nat} (h0 : s.Ok q σ) :
    (State.rspTimeout s r agent tag).Ok q σ := by
  unfold State.rspTimeout
  repeat' split
  all_goals (try dsimp only)
  repeat' split
  all_goals simp_all +contextual (maxDischargeDepth := 99) only [okMk, okFold, State.mxAnswer_ok, State.nocBump_ok,
      State.raiseBy_ok, State.setFld_ok]
  all_goals (repeat' split)
  all_goals simp_all +contextual (maxDischargeDepth := 99) only [State.tl_wf (q := q) (σ := σ), TileSt.put_wf,
      Tab.wf_keep, TileSt.reset_wf, okMk, okFold, okIte, okFoldl, okNext, okIteOut, okSome, okNone, implies_true,
      State.mxAnswer_ok, State.nocBump_ok, State.raiseBy_ok, State.setFld_ok]

theorem execAnd_ok {t : Fin 64} {s : State} (h1 : s.Ok q σ) : OkOut q σ (execAnd t s) := by
  unfold execAnd
  repeat' split
  all_goals simp_all +contextual (maxDischargeDepth := 99) only [okNext, State.salu_ok]

theorem execHostMalformedTlp_ok {s : State} (h0 : s.Ok q σ) : OkOut q σ (execHostMalformedTlp s) := by
  unfold execHostMalformedTlp
  repeat' split
  all_goals simp_all +contextual (maxDischargeDepth := 99) only [okMk, okFold, okNext, State.bump_ok, State.raise_ok]

theorem execSegmentReceive_ok {ws : List (BitVec 64)} {s : State} (h1 : s.Ok q σ) : OkOut q σ
    (execSegmentReceive ws s) := by
  unfold execSegmentReceive
  repeat' split
  all_goals simp_all +contextual (maxDischargeDepth := 99) only [okNext, State.receiveSegment_ok]

theorem execWicketAbort_ok {s : State} (h0 : s.Ok q σ) : OkOut q σ (execWicketAbort s) := by
  unfold execWicketAbort
  repeat' split
  all_goals simp_all +contextual (maxDischargeDepth := 99) only [okNext, implies_true, State.wk_ok, State.wkReply_ok,
      State.wkForget_ok]

theorem execVfFlr_ok {a0 : Fin 8} {s : State} (h1 : s.Ok q σ) : OkOut q σ (execVfFlr a0 s) := by
  unfold execVfFlr
  repeat' split
  all_goals simp_all +contextual (maxDischargeDepth := 99) only [okNext, State.householdReset_ok]

theorem State.eccRead_ok {s : State} {i : Issue} {e : EccResult} {k : State → State} (h0 : s.Ok q σ)
    (hI : Tab.wf (0 : Byte) i.x.sram = true) (h3 : ∀ (t0 : State), t0.Ok q σ → (k t0).Ok q σ) :
    (State.eccRead s i e k).Ok q σ := by
  unfold State.eccRead
  repeat' split
  all_goals simp_all +contextual (maxDischargeDepth := 99) only [State.raiseBy_ok, State.bump_ok, State.leafFault_ok]

theorem State.load_ok {s : State} {t : Nat} {op : Nat} {w : Nat} {e : EccResult}
    {f : LeafSt → Ins → List Byte → LeafSt} (h0 : s.Ok q σ) : (State.load s t op w e f).Ok q σ := by
  unfold State.load
  repeat' split
  all_goals simp_all +contextual (maxDischargeDepth := 99) only [implies_true, State.winOp_ok, State.eccRead_ok,
      State.watch_ok, State.retire_ok]

theorem State.response_ok {s0 : State} {r : Nat} {p : List Flit} (h0 : s0.Ok q σ) :
    (State.response s0 r p).Ok q σ := by
  unfold State.response
  repeat' split
  all_goals (try dsimp only)
  repeat' split
  all_goals simp_all +contextual (maxDischargeDepth := 99) only [okMk, okFold, State.rspTimeout_ok, State.nocBump_ok,
      State.mxAnswer_ok, State.raise_ok, State.raiseBy_ok, State.setFld_ok]
  all_goals (repeat' split)
  all_goals simp_all +contextual (maxDischargeDepth := 99) only [State.tl_wf (q := q) (σ := σ), TileSt.put_wf,
      Tab.wf_keep, TileSt.reset_wf, okMk, okFold, okIte, okFoldl, okNext, okIteOut, okSome, okNone, implies_true,
      State.rspTimeout_ok, State.nocBump_ok, State.mxAnswer_ok, State.raise_ok, State.raiseBy_ok, State.setFld_ok]

theorem execVmax_ok {t : Fin 64} {s : State} (h1 : s.Ok q σ) : OkOut q σ (execVmax t s) := by
  unfold execVmax
  repeat' split
  all_goals simp_all +contextual (maxDischargeDepth := 99) only [okNext, State.vecOp_ok]

theorem State.firstInfo_ok {s : State} {arg : Nat} (h0 : s.Ok q σ) : (State.firstInfo s arg).Ok q σ := by
  unfold State.firstInfo
  repeat' split
  all_goals simp_all +contextual (maxDischargeDepth := 99) only [State.setFld_ok]

theorem State.csiPacket_ok {s : State} {m : Nat} {p : CsiHead} {k : State} (h0 : s.Ok q σ) (h3 : k.Ok q σ) :
    (State.csiPacket s m p k).Ok q σ := by
  unfold State.csiPacket
  repeat' split
  all_goals simp_all +contextual (maxDischargeDepth := 99) only [State.raise_ok, State.rxDrop_ok]

theorem State.setLine_ok {s : State} {m : Nat} {vc : Nat} {l : Option LineBuf} (h0 : s.Ok q σ) :
    (State.setLine s m vc l).Ok q σ := by
  unfold State.setLine
  repeat' split
  all_goals simp_all +contextual (maxDischargeDepth := 99) only [State.setRx_ok]

theorem State.longPacket_ok {s : State} {m : Nat} {v : Nat} {dt : Nat} {wc : Nat} {payload : List Byte}
    {crcGood : Bool} {corrected : Bool} (h0 : s.Ok q σ) :
    (State.longPacket s m v dt wc payload crcGood corrected).Ok q σ := by
  unfold State.longPacket
  repeat' split
  all_goals simp_all +contextual (maxDischargeDepth := 99) only [okIte, implies_true, State.raise_ok,
      State.rxDrop_ok, State.setLine_ok]

theorem execCsiLongPacket_ok {m : Fin 4} {vc : Fin 4} {dt : Fin 64} {wc : BitVec 16} {payload : List Byte}
    {crcGood : Bool} {a6 : CsiCheck} {s : State} (h7 : s.Ok q σ) : OkOut q σ
    (execCsiLongPacket m vc dt wc payload crcGood a6 s) := by
  unfold execCsiLongPacket
  repeat' split
  all_goals simp_all +contextual (maxDischargeDepth := 99) only [okNext, State.csiPacket_ok, State.longPacket_ok]

theorem execSredImax_ok {t : Fin 64} {s : State} (h1 : s.Ok q σ) : OkOut q σ (execSredImax t s) := by
  unfold execSredImax
  repeat' split
  all_goals simp_all +contextual (maxDischargeDepth := 99) only [okNext, State.reduce_ok]

theorem State.heardHalt_ok {s : State} {a1 : Nat} {r : RunSt} {halted : Bool} (h0 : s.Ok q σ) :
    (State.heardHalt s a1 r halted).Ok q σ := by
  unfold State.heardHalt
  repeat' split
  all_goals simp_all +contextual (maxDischargeDepth := 99) only [State.setRunFlag_ok]

theorem State.chargeRty_ok {s : State} {a1 : Nat} {n : Nat} (h0 : s.Ok q σ) : (State.chargeRty s a1 n).Ok q σ := by
  unfold State.chargeRty
  repeat' split
  all_goals simp_all +contextual (maxDischargeDepth := 99) only [okIte, implies_true, State.ledger64_ok,
      State.setPv_ok, State.flagOnce_ok]

theorem State.chargeCross_ok {s : State} {a1 : Nat} {refMax : Nat} {rtyMax : Nat} {stall : Nat} {held : Nat}
    (h0 : s.Ok q σ) : (State.chargeCross s a1 refMax rtyMax stall held).Ok q σ := by
  unfold State.chargeCross
  repeat' split
  all_goals simp_all +contextual (maxDischargeDepth := 99) only [State.chargeRty_ok, State.chargeRef_ok,
      State.setPv_ok]

theorem State.crossed_ok {s : State} {a1 : Nat} {r : RunSt} {refMax : Nat} {rtyMax : Nat} {age : Nat}
    (h0 : s.Ok q σ) : (State.crossed s a1 r refMax rtyMax age).Ok q σ := by
  unfold State.crossed
  repeat' split
  all_goals simp_all +contextual (maxDischargeDepth := 99) only [State.chargeCross_ok]

theorem State.resume_ok {s : State} {r : RunSt} {f : LeafSt → LeafSt} (h0 : s.Ok q σ) :
    (State.resume s r f).Ok q σ := by
  unfold State.resume
  repeat' split
  all_goals simp_all +contextual (maxDischargeDepth := 99) only [State.tl_wf (q := q) (σ := σ), okIte, okFoldl,
      implies_true, State.tileState_ok, State.setFld_ok, State.setTl_ok]

theorem execBarrierComplete_ok {a0 : Fin 8} {a1 : RefReport} {a2 : BitVec 32} {a3 : Bool} {a4 : State}
    (h4 : a4.Ok q σ) : OkOut q σ (execBarrierComplete a0 a1 a2 a3 a4) := by
  unfold execBarrierComplete
  repeat' split
  all_goals simp_all +contextual (maxDischargeDepth := 99) only [okNext, State.after_ok, State.heardHalt_ok,
      State.crossed_ok, State.stepDone_ok, State.setRun_ok, State.resume_ok]

theorem execAuthCheckDone_ok {s : State} (h0 : s.Ok q σ) : OkOut q σ (execAuthCheckDone s) := by
  unfold execAuthCheckDone
  repeat' split
  all_goals simp_all +contextual (maxDischargeDepth := 99) only [okMk, okFold, okIte, okNext, implies_true,
      State.raise_ok, State.setFld_ok, State.wkReply_ok, State.bump_ok, State.wkFault_ok]

theorem State.detectSample_ok {s : State} {n : Nat} (h0 : s.Ok q σ) : (State.detectSample s n).Ok q σ := by
  unfold State.detectSample
  repeat' split
  all_goals simp_all +contextual (maxDischargeDepth := 99) only [State.setMo_ok]

theorem State.wkIssue_ok {s : State} {a1 : Nat} {data : List Nat} {write : Bool} (h0 : s.Ok q σ) :
    (State.wkIssue s a1 data write).Ok q σ := by
  unfold State.wkIssue
  repeat' split
  all_goals simp_all +contextual (maxDischargeDepth := 99) only [okMk, okFold, State.mxSubmit_ok, State.drew_ok]

theorem State.copyCode_ok {s : State} {code : List Byte} {consts : List Byte} {ts : List Nat} (h0 : s.Ok q σ) :
    (State.copyCode s code consts ts).Ok q σ := by
  unfold State.copyCode
  repeat' split
  all_goals simp_all +contextual (maxDischargeDepth := 99) only [State.tl_wf (q := q) (σ := σ), TileSt.put_wf,
      okFoldl, implies_true, State.setTl_ok]

theorem execVshr_ok {t : Fin 64} {s : State} (h1 : s.Ok q σ) : OkOut q σ (execVshr t s) := by
  unfold execVshr
  repeat' split
  all_goals simp_all +contextual (maxDischargeDepth := 99) only [okNext, State.vecOp_ok]

theorem State.zgateCheck_ok {s : State} {k : Nat} (h0 : s.Ok q σ) : (State.zgateCheck s k).Ok q σ := by
  unfold State.zgateCheck
  repeat' split
  all_goals simp_all +contextual (maxDischargeDepth := 99) only [okIte, implies_true, State.setAxis_ok,
      State.orFld_ok, State.raise_ok]

theorem State.showAxisLive_ok {s : State} {k : Nat} (h : s.Ok q σ) : (s.showAxisLive k).Ok q σ := by
  refine State.setFld_ok ?_; rw [okMk]; exact ⟨h.1, h.2, h.3, h.4, Tab.rises_set _ _ _ _ h.live, h.6, h.7, h.8, h.9,
      h.10, h.11⟩

theorem State.axisIndex_ok {s : State} {k : Nat} {z : Bool} (h0 : s.Ok q σ) : (State.axisIndex s k z).Ok q σ := by
  unfold State.axisIndex
  repeat' split
  all_goals simp_all +contextual (maxDischargeDepth := 99) only [okIte, implies_true, State.setAxis_ok,
      State.zgateCheck_ok, State.showAxisLive_ok, State.missingCheck_ok, State.indexEdge_ok]

theorem execStbArmNow_ok {a : Acc} {w : Word} {s : State} (h2 : s.Ok q σ) : OkOut q σ (execStbArmNow a w s) := by
  unfold execStbArmNow
  repeat' split
  all_goals simp_all +contextual (maxDischargeDepth := 99) only [okNext, State.armAccess_ok]

theorem State.diagVerdict_ok {s : State} {n : Nat} {step : Nat} {nodes : List Nat} (h0 : s.Ok q σ) :
    (State.diagVerdict s n step nodes).Ok q σ := by
  unfold State.diagVerdict
  repeat' split
  all_goals simp_all +contextual (maxDischargeDepth := 99) only [okIte, implies_true, State.orFld_ok]

theorem State.notifyPage_ok {s : State} {p : Nat} (h0 : s.Ok q σ) : (State.notifyPage s p).Ok q σ := by
  unfold State.notifyPage
  repeat' split
  all_goals simp_all +contextual (maxDischargeDepth := 99) only [okMk, okFold, State.offerNotify_ok]

theorem execNotifyPeriodic_ok {s : State} (h0 : s.Ok q σ) : OkOut q σ (execNotifyPeriodic s) := by
  unfold execNotifyPeriodic
  repeat' split
  all_goals simp_all +contextual (maxDischargeDepth := 99) only [okMk, okFold, okFoldl, okNext, implies_true,
      State.notifyPage_ok]

theorem State.strapRef_ok {s : State} (h0 : s.Ok q σ) : (State.strapRef s).Ok q σ := by
  unfold State.strapRef
  repeat' split
  all_goals simp_all +contextual (maxDischargeDepth := 99) only [okIte, implies_true, State.setFld_ok]

theorem State.latchStraps_ok {s : State} {s1 : Nat} {s2 : Nat} {s3 : Nat} (h0 : s.Ok q σ) :
    (State.latchStraps s s1 s2 s3).Ok q σ := by
  unfold State.latchStraps
  repeat' split
  all_goals simp_all +contextual (maxDischargeDepth := 99) only [okMk, okFold, okIte, implies_true, State.setFld_ok,
      State.raise_ok]

theorem State.almDenial_ok {s : State} {a1 : Nat} (h0 : s.Ok q σ) : (State.almDenial s a1).Ok q σ := by
  unfold State.almDenial
  repeat' split
  all_goals simp_all +contextual (maxDischargeDepth := 99) only [okMk, okFold, State.drew_ok, State.denial_ok]

theorem execTapSamplePreload_ok {s : State} (h0 : s.Ok q σ) : OkOut q σ (execTapSamplePreload s) := by
  unfold execTapSamplePreload
  repeat' split
  all_goals simp_all +contextual (maxDischargeDepth := 99) only [okNext, State.tapSet_ok]

theorem execMapAckReceive_ok {k : Fin 4} {f : Frame} {s : State} (h2 : s.Ok q σ) : OkOut q σ
    (execMapAckReceive k f s) := by
  unfold execMapAckReceive
  repeat' split
  all_goals simp_all +contextual (maxDischargeDepth := 99) only [okNext, implies_true, State.discIn_ok,
      State.mapAckIn_ok]

theorem State.readTd_ok {s : State} {n : Nat} {td : Nat} (h0 : s.Ok q σ) : (State.readTd s n td).Ok q σ := by
  unfold State.readTd
  repeat' split
  all_goals simp_all +contextual (maxDischargeDepth := 99) only [okIte, implies_true, State.setFld_ok,
      State.setMo_ok, State.raise_ok, State.modMo_ok, State.showDerate_ok, State.motorFault_ok]

theorem execMotorDerateUpdate_ok {n : Fin 4} {td : BitVec 10} {s : State} (h2 : s.Ok q σ) : OkOut q σ
    (execMotorDerateUpdate n td s) := by
  unfold execMotorDerateUpdate
  repeat' split
  all_goals simp_all +contextual (maxDischargeDepth := 99) only [okNext, State.after_ok, State.modMo_ok,
      State.readTd_ok]

theorem execDiscardTimeout_ok {a0 : Fin 256} {node : Fin 64} {agent : Fin 64} {master : Fin 64} {hh : Fin 64}
    {s : State} (h5 : s.Ok q σ) : OkOut q σ (execDiscardTimeout a0 node agent master hh s) := by
  unfold execDiscardTimeout
  repeat' split
  all_goals simp_all +contextual (maxDischargeDepth := 99) only [okNext, State.setQ_ok]

theorem execVddwRise_ok {s : State} (h0 : s.Ok q (σ₀, none)) : OkOut q (σ₀, none) (execVddwRise s) := by
  unfold execVddwRise
  repeat' split
  all_goals simp_all +contextual (maxDischargeDepth := 99) only [okNext, State.onWh_ok]

theorem State.lineStart_ok {s : State} {m : Nat} {v : Nat} {lineNo : Nat} {corrected : Bool} (h0 : s.Ok q σ) :
    (State.lineStart s m v lineNo corrected).Ok q σ := by
  unfold State.lineStart
  repeat' split
  all_goals simp_all +contextual (maxDischargeDepth := 99) only [okIte, implies_true, State.raise_ok,
      State.rxDrop_ok, State.setLine_ok, State.popStamps_ok, State.setFld_ok, State.setRx_ok, State.bump_ok]

theorem State.axisBegin_ok {s : State} (h0 : s.Ok q σ) : (State.axisBegin s).Ok q σ := by
  unfold State.axisBegin
  repeat' split
  all_goals simp_all +contextual (maxDischargeDepth := 99) only [okFoldl, implies_true, State.setAxis_ok]

theorem execWicketNonceExpire_ok {s : State} (h0 : s.Ok q σ) : OkOut q σ (execWicketNonceExpire s) := by
  unfold execWicketNonceExpire
  repeat' split
  all_goals simp_all +contextual (maxDischargeDepth := 99) only [okMk, okFold, okNext]

theorem State.popFinish_ok {s : State} {i : Issue} {n : Ins} (h0 : s.Ok q σ)
    (hI : Tab.wf (0 : Byte) i.x.sram = true) : (State.popFinish s i n).Ok q σ := by
  unfold State.popFinish
  repeat' split
  all_goals (try dsimp only)
  repeat' split
  all_goals simp_all +contextual (maxDischargeDepth := 99) only [State.tl_wf (q := q) (σ := σ), TileSt.put_wf,
      State.setTl_ok, State.retire_ok, State.raiseBy_ok, State.setRun_ok, State.watch_ok]
  all_goals (repeat' split)
  all_goals simp_all +contextual (maxDischargeDepth := 99) only [State.tl_wf (q := q) (σ := σ), TileSt.put_wf,
      Tab.wf_keep, TileSt.reset_wf, okMk, okFold, okIte, okFoldl, okNext, okIteOut, okSome, okNone, implies_true,
      State.setTl_ok, State.retire_ok, State.raiseBy_ok, State.setRun_ok, State.watch_ok]

theorem execPopItemObtained_ok {t : Fin 64} {s : State} (h1 : s.Ok q σ) : OkOut q σ (execPopItemObtained t s) := by
  unfold execPopItemObtained
  repeat' split
  all_goals (try dsimp only)
  repeat' split
  all_goals simp_all +contextual (maxDischargeDepth := 99) only [State.tl_wf (q := q) (σ := σ), okNext,
      State.popFinish_ok]
  all_goals (repeat' split)
  all_goals simp_all +contextual (maxDischargeDepth := 99) only [State.tl_wf (q := q) (σ := σ), TileSt.put_wf,
      Tab.wf_keep, TileSt.reset_wf, okMk, okFold, okIte, okFoldl, okNext, okIteOut, okSome, okNone, implies_true,
      State.popFinish_ok]

theorem State.constLoaded_ok {s : State} (h0 : s.Ok q σ) : (State.constLoaded s).Ok q σ := by
  unfold State.constLoaded
  repeat' split
  all_goals simp_all +contextual (maxDischargeDepth := 99) only [okMk, okFold, State.setFld_ok]

theorem execMailboxConsumeRead_ok {a : Acc} {a1 : Fin 8} {m : Fin 16} {off : Fin 4096} {bytes : Fin 4097}
    {s : State} (h5 : s.Ok q σ) : OkOut q σ (execMailboxConsumeRead a a1 m off bytes s) := by
  unfold execMailboxConsumeRead
  repeat' split
  all_goals simp_all +contextual (maxDischargeDepth := 99) only [okNext, State.mbRead_ok]

theorem execPfFlr_ok {s : State} (h0 : s.Ok q σ) : OkOut q σ (execPfFlr s) := by
  unfold execPfFlr
  repeat' split
  all_goals simp_all +contextual (maxDischargeDepth := 99) only [okNext, State.raise_ok, State.endpointReset_ok]

theorem execVfmul_ok {t : Fin 64} {s : State} (h1 : s.Ok q σ) : OkOut q σ (execVfmul t s) := by
  unfold execVfmul
  repeat' split
  all_goals simp_all +contextual (maxDischargeDepth := 99) only [okNext, State.vecOp_ok]

theorem execPageSrstDone_ok {page : Fin 512} {s : State} (h1 : s.Ok q σ) : OkOut q σ (execPageSrstDone page s) := by
  unfold execPageSrstDone
  repeat' split
  all_goals simp_all +contextual (maxDischargeDepth := 99) only [okMk, okFold, okNext]

theorem execOuvCstGo_ok {a : Acc} {s : State} (h1 : s.Ok q σ) : OkOut q σ (execOuvCstGo a s) := by
  unfold execOuvCstGo
  repeat' split
  all_goals simp_all +contextual (maxDischargeDepth := 99) only [okNext, implies_true, State.access_ok,
      State.ouvCstGo_ok]

theorem execSyntoniseDone_ok {s : State} (h0 : s.Ok q σ) : OkOut q σ (execSyntoniseDone s) := by
  unfold execSyntoniseDone
  repeat' split
  all_goals simp_all +contextual (maxDischargeDepth := 99) only [okNext, State.setCState_ok]

theorem execShr_ok {t : Fin 64} {s : State} (h1 : s.Ok q σ) : OkOut q σ (execShr t s) := by
  unfold execShr
  repeat' split
  all_goals simp_all +contextual (maxDischargeDepth := 99) only [okNext, State.salu_ok]

theorem State.switchRef_ok {s : State} {c : Nat} (h0 : s.Ok q σ) : (State.switchRef s c).Ok q σ := by
  unfold State.switchRef
  repeat' split
  all_goals simp_all +contextual (maxDischargeDepth := 99) only [okMk, okFold, okFoldl, implies_true,
      State.condition_ok, State.setFld_ok, State.raise_ok]

theorem State.refSwitch_ok {s : State} {arg : Nat} (h : s.Ok q σ) : OkOpt q σ (s.refSwitch arg) := by
  unfold State.refSwitch
  intro t e
  dsimp only at e
  split at e
  · cases e; exact h
  · split at e
    · cases x : s.autoTarget with
      | none => rw [x] at e; cases e
      | some c => rw [x] at e; cases e; exact State.switchRef_ok h
    · split at e
      · cases e; exact State.switchRef_ok h
      · cases e

theorem State.almAct_ok {s : State} {e : AlmEntry} (h0 : s.Ok q σ) : OkOpt q σ (State.almAct s e) := by
  unfold State.almAct
  repeat' split
  all_goals simp_all +contextual (maxDischargeDepth := 99) only [okFoldl, okSome, implies_true, State.applyPage_ok,
      State.launch_ok, State.startReq_ok, State.stopReq_ok, State.arm_ok, State.disarm_ok, State.refSwitch_ok,
      State.raise_ok]

theorem State.almFire_ok {s : State} {k : Nat} {e : AlmEntry} (h : s.Ok q σ) : (s.almFire k e).Ok q σ := by
  unfold State.almFire
  refine okIte (fun _ => State.raiseBy_ok (State.almDenial_ok (State.setAlm_ok h))) (fun _ => ?_)
  have := State.almAct_ok (e := e)
      (State.setAlm_ok (k := k) (e := { e with st := 3, applied := s.tb.count, now := none }) h)
  split
  · rename_i t e1; exact this t e1
  · exact State.raise_ok (State.setAlm_ok h)

theorem execAlmApply_ok {k : Fin 64} {s : State} (h1 : s.Ok q σ) : OkOut q σ (execAlmApply k s) := by
  unfold execAlmApply
  repeat' split
  all_goals simp_all +contextual (maxDischargeDepth := 99) only [okIte, okNext, implies_true, State.almFire_ok]

theorem execLaneSyncGained_ok {m : Fin 4} {latency : Fin 181} {s : State} (h2 : s.Ok q σ) : OkOut q σ
    (execLaneSyncGained m latency s) := by
  unfold execLaneSyncGained
  repeat' split
  all_goals simp_all +contextual (maxDischargeDepth := 99) only [okNext, State.setFld_ok]

theorem execSredIadd_ok {t : Fin 64} {s : State} (h1 : s.Ok q σ) : OkOut q σ (execSredIadd t s) := by
  unfold execSredIadd
  repeat' split
  all_goals simp_all +contextual (maxDischargeDepth := 99) only [okNext, State.reduce_ok]

theorem State.whNext_ok {s : State} (h0 : s.Ok q (σ₀, none)) : ∀ x, (State.whNext s) = some x → x.2.Ok q
    (σ₀, none) := by
  intro x e
  unfold State.whNext at e
  split at e
  · cases e
  · split at e
    · cases e
    · cases e; exact ⟨h0.1, h0.2, h0.3, h0.4, h0.5, h0.6, h0.7, h0.8, h0.9, h0.10, trivial⟩

theorem execGateStuckTimeout_ok {n : Fin 4} {ph : Fin 3} {s : State} (h2 : s.Ok q σ) : OkOut q σ
    (execGateStuckTimeout n ph s) := by
  unfold execGateStuckTimeout
  repeat' split
  all_goals simp_all +contextual (maxDischargeDepth := 99) only [okNext, okIteOut, implies_true, State.motorFault_ok,
      State.raise_ok, State.orFld_ok]

theorem execDramTrainingDone_ok {c : Fin 2} {ok : Bool} {s : State} (h2 : s.Ok q σ) : OkOut q σ
    (execDramTrainingDone c ok s) := by
  unfold execDramTrainingDone
  repeat' split
  all_goals simp_all +contextual (maxDischargeDepth := 99) only [okMk, okFold, okNext, State.raise_ok]

theorem State.skipRefills_ok {s : State} (h0 : s.Ok q σ) : (State.skipRefills s).Ok q σ := by
  unfold State.skipRefills
  repeat' split
  all_goals simp_all +contextual (maxDischargeDepth := 99) only [okMk, okFold, okFoldl, implies_true]

theorem execCounterLoadApply_ok {s : State} (h0 : s.Ok q σ) : OkOut q σ (execCounterLoadApply s) := by
  unfold execCounterLoadApply
  repeat' split
  all_goals simp_all +contextual (maxDischargeDepth := 99) only [okMk, okFold, okNext, State.constLoaded_ok,
      State.voidExchange_ok, State.skipRefills_ok, State.setFld_ok]

theorem State.setVfs_ok {s : State} {en : Bool} {n : Nat} (h0 : s.Ok q σ) : (State.setVfs s en n).Ok q σ := by
  unfold State.setVfs
  repeat' split
  all_goals simp_all +contextual (maxDischargeDepth := 99) only [okMk, okFold]

theorem execTrigDisarmNow_ok {a : Acc} {w : Word} {s : State} (h2 : s.Ok q σ) : OkOut q σ
    (execTrigDisarmNow a w s) := by
  unfold execTrigDisarmNow
  repeat' split
  all_goals simp_all +contextual (maxDischargeDepth := 99) only [okNext, State.armAccess_ok]

theorem execDramRailMonitorCross_ok {rail : DramRail} {mv : Nat} {s : State} (h : s.Ok q σ) : OkOut q σ
    (execDramRailMonitorCross rail mv s) := by
  unfold execDramRailMonitorCross
  rw [okNext]
  have k : ∀ f e v b, ((s.setFld pPower f v).condition pPower e b).Ok q σ := fun f e v b => State.condition_ok
      (State.setFld_ok h)
  refine okIte (fun _ => ?_) (fun _ => k _ _ _ _)
  have k' := k (match rail with | .vdd2x => POWER.RAIL_STATUS_VDD2X_OK | .vddqx => POWER.RAIL_STATUS_VDDQX_OK)
  rw [okMk]
  refine ⟨(k _ _ _ _).1, (k _ _ _ _).2, (k _ _ _ _).3, (k _ _ _ _).4, (k _ _ _ _).5, (k _ _ _ _).6, rfl,
      (k _ _ _ _).8, (k _ _ _ _).9, (k _ _ _ _).10, (k _ _ _ _).11⟩

theorem State.trackPut_ok {s : State} {a1 : Nat} {a : Nat} {n : Nat} (h0 : s.Ok q σ) :
    (State.trackPut s a1 a n).Ok q σ := by
  unfold State.trackPut
  repeat' split
  all_goals simp_all +contextual (maxDischargeDepth := 99) only [State.setPv_ok]

theorem State.trackGet_ok {s : State} {a1 : Nat} {a : Nat} {n : Nat} (h0 : s.Ok q σ) :
    (State.trackGet s a1 a n).Ok q σ := by
  unfold State.trackGet
  repeat' split
  all_goals simp_all +contextual (maxDischargeDepth := 99) only [State.flagOnce_ok]

theorem State.dmaStart_ok {s : State} {t op : Nat} {put : Bool} {e : EccResult} (h : s.Ok q σ) :
    (s.dmaStart t op put e).Ok q σ := by
  unfold State.dmaStart
  refine State.issue_ok h (fun i n hi => ?_)
  dsimp only
  refine okIte (fun _ => State.leafFault_ok h) (fun _ => ?_)
  split
  · exact State.leafFault_ok h
  · refine okIte (fun _ => State.retire_ok h hi) (fun _ => okIte (fun _ => ?_) (fun _ => ?_))
    · refine State.eccRead_ok h hi (fun u hu => ?_)
      exact State.watch_ok
          (State.dramAsk_ok (State.retire_ok
              (okIte (fun _ => State.trackPut_ok hu) (fun _ => State.trackGet_ok hu)) hi)) hi
    · exact State.leafFault_ok (okSame (State.denial_ok h))

end Sys2Proof.Machine
end

