-- ==== Sys2Proof/Laws/Keeps5.lean ====
section
/-!
SUPPORT. Part 5 of what every operation and every command keeps, in the order in which they rest on each other.
-/

namespace Sys2Proof.Machine

variable {q : List Instr} {σ : Silicon × Option Weigh} {σ₀ : Silicon}

theorem execDmaget_ok {t : Fin 64} {s : State} (h1 : s.Ok q σ) : OkOut q σ (execDmaget t s) := by
  unfold execDmaget
  repeat' split
  all_goals simp_all +contextual (maxDischargeDepth := 99) only [okNext, State.dmaStart_ok]

theorem execWheelLevel1Move_ok {p : Fin 5} {s : State} (h1 : s.Ok q σ) : OkOut q σ (execWheelLevel1Move p s) := by
  unfold execWheelLevel1Move
  repeat' split
  all_goals simp_all +contextual (maxDischargeDepth := 99) only [okIte, okFoldl, okNext, implies_true,
      State.setSlot_ok, State.reexamine_ok]

theorem State.qMismatch_ok {s : State} {a1 : Nat} (h0 : s.Ok q σ) : (State.qMismatch s a1).Ok q σ := by
  unfold State.qMismatch
  repeat' split
  all_goals (try dsimp only)
  repeat' split
  all_goals simp_all +contextual (maxDischargeDepth := 99) only [State.qEvent_ok, State.raise_ok, State.bump_ok,
      State.setFld_ok, State.unlistQueue_ok, State.qTouch_ok, State.pushResult_ok, State.setQ_ok]
  all_goals (repeat' split)
  all_goals simp_all +contextual (maxDischargeDepth := 99) only [State.tl_wf (q := q) (σ := σ), TileSt.put_wf,
      Tab.wf_keep, TileSt.reset_wf, okMk, okFold, okIte, okFoldl, okNext, okIteOut, okSome, okNone, implies_true,
      State.qEvent_ok, State.raise_ok, State.bump_ok, State.setFld_ok, State.unlistQueue_ok, State.qTouch_ok,
      State.pushResult_ok, State.setQ_ok]

theorem execQptrMismatch_ok {a0 : Fin 256} {s : State} (h1 : s.Ok q σ) : OkOut q σ (execQptrMismatch a0 s) := by
  unfold execQptrMismatch
  repeat' split
  all_goals (try dsimp only)
  repeat' split
  all_goals simp_all +contextual (maxDischargeDepth := 99) only [okNext, State.after_ok, State.qMismatch_ok]
  all_goals (repeat' split)
  all_goals simp_all +contextual (maxDischargeDepth := 99) only [State.tl_wf (q := q) (σ := σ), TileSt.put_wf,
      Tab.wf_keep, TileSt.reset_wf, okMk, okFold, okIte, okFoldl, okNext, okIteOut, okSome, okNone, implies_true,
      State.after_ok, State.qMismatch_ok]

theorem execTapIdcode_ok {s : State} (h0 : s.Ok q σ) : OkOut q σ (execTapIdcode s) := by
  unfold execTapIdcode
  repeat' split
  all_goals simp_all +contextual (maxDischargeDepth := 99) only [okNext, State.send_ok, State.tapSet_ok]

theorem execVltreeImax_ok {t : Fin 64} {s : State} (h1 : s.Ok q σ) : OkOut q σ (execVltreeImax t s) := by
  unfold execVltreeImax
  repeat' split
  all_goals simp_all +contextual (maxDischargeDepth := 99) only [okNext, State.laneTree_ok]

theorem State.mxIssue_ok {s : State} {i : Instr} {k : Nat} {r : MxReq} (h0 : s.Ok q σ) :
    (State.mxIssue s i k r).Ok q σ := by
  unfold State.mxIssue
  repeat' split
  all_goals simp_all +contextual (maxDischargeDepth := 99) only [okMk, okFold, implies_true, State.mxAnswered_ok,
      State.hhRequest_ok, State.sendRemote_ok]

theorem execVxor_ok {t : Fin 64} {s : State} (h1 : s.Ok q σ) : OkOut q σ (execVxor t s) := by
  unfold execVxor
  repeat' split
  all_goals simp_all +contextual (maxDischargeDepth := 99) only [okNext, State.vecOp_ok]

theorem execImpedanceProbeStart_ok {s : State} (h0 : s.Ok q (σ₀, none)) : OkOut q (σ₀, none)
    (execImpedanceProbeStart s) := by
  unfold execImpedanceProbeStart
  repeat' split
  all_goals simp_all +contextual (maxDischargeDepth := 99) only [okNext, State.onWh_ok]

theorem execReplayFeed_ok {a0 : Fin 8} {s : State} (h1 : s.Ok q σ) : OkOut q σ (execReplayFeed a0 s) := by
  unfold execReplayFeed
  repeat' split
  all_goals simp_all +contextual (maxDischargeDepth := 99) only [okIte, okNext, okIteOut, implies_true,
      State.feedOne_ok, State.setFld_ok, State.bump_ok, State.raiseBy_ok, State.setPv_ok]

theorem State.qRegAccess_ok {s : State} {i : Instr} {a : Acc} {n r w : Nat} (h : s.Ok q σ) :
    (s.qRegAccess i a n r w).Ok q σ := by
  unfold State.qRegAccess
  exact State.access_ok h (fun t ht => okIte (fun _ => State.denial_ok ht) (fun _ => State.qehWrite_ok ht))

theorem execQueueCfgWrite_ok {a : Acc} {a1 : Fin 256} {reg : Fin 4} {w : Word} {s : State} (h4 : s.Ok q σ)
    : OkOut q σ (execQueueCfgWrite a a1 reg w s) := by
  unfold execQueueCfgWrite
  repeat' split
  all_goals simp_all +contextual (maxDischargeDepth := 99) only [okNext, State.qRegAccess_ok]

theorem State.faultsEnd_ok {s : State} {a1 : Nat} {r : RunSt} (h0 : s.Ok q σ) : (State.faultsEnd s a1 r).Ok q σ := by
  unfold State.faultsEnd
  repeat' split
  all_goals simp_all +contextual (maxDischargeDepth := 99) only [State.raiseBy_ok, State.endRun_ok]

theorem State.runsTick_ok {s : State} (h : s.Ok q σ) : s.runsTick.Ok q σ := by
  refine okFoldl (fun t x ht => ?_) h
  split
  · exact State.faultsEnd_ok (State.ledgerTick_ok ht)
  · exact ht

theorem State.axisSense_ok {s : State} {k : Nat} (h0 : s.Ok q σ) : (State.axisSense s k).Ok q σ := by
  unfold State.axisSense
  repeat' split
  all_goals simp_all +contextual (maxDischargeDepth := 99) only [okIte, implies_true, State.setAxis_ok]

theorem State.dirCheck_ok {s : State} {k : Nat} (h0 : s.Ok q σ) : (State.dirCheck s k).Ok q σ := by
  unfold State.dirCheck
  repeat' split
  all_goals simp_all +contextual (maxDischargeDepth := 99) only [okIte, implies_true, State.setAxis_ok,
      State.raise_ok, State.axisSticky_ok]

theorem State.zCheck_ok {s : State} {k : Nat} (h0 : s.Ok q σ) : (State.zCheck s k).Ok q σ := by
  unfold State.zCheck
  repeat' split
  all_goals simp_all +contextual (maxDischargeDepth := 99) only [okIte, implies_true, State.setAxis_ok,
      State.raise_ok, State.axisSticky_ok]

theorem State.axisCounted_ok {s : State} {k : Nat} {d : Int} (h0 : s.Ok q σ) : (State.axisCounted s k d).Ok q σ := by
  unfold State.axisCounted
  repeat' split
  all_goals simp_all +contextual (maxDischargeDepth := 99) only [State.setAxisCount_ok, State.setPair_ok,
      State.showAxisLive_ok, State.missingCheck_ok, State.dirCheck_ok, State.zCheck_ok]

theorem State.axisEdge_ok {s : State} {k : Nat} {a : Bool} {b : Bool} (h0 : s.Ok q σ) :
    (State.axisEdge s k a b).Ok q σ := by
  unfold State.axisEdge
  repeat' split
  all_goals simp_all +contextual (maxDischargeDepth := 99) only [okIte, implies_true, State.setAxis_ok,
      State.raise_ok, State.axisSticky_ok, State.bump_ok, State.axisCounted_ok]

theorem State.axisFilter_ok {s : State} {k : Nat} (h0 : s.Ok q σ) : (State.axisFilter s k).Ok q σ := by
  unfold State.axisFilter
  repeat' split
  all_goals simp_all +contextual (maxDischargeDepth := 99) only [okIte, implies_true, State.axisSense_ok,
      State.axisEdge_ok, State.axisIndex_ok]

theorem State.axisFilters_ok {s : State} (h0 : s.Ok q σ) : (State.axisFilters s).Ok q σ := by
  unfold State.axisFilters
  repeat' split
  all_goals simp_all +contextual (maxDischargeDepth := 99) only [okFoldl, implies_true, State.axisFilter_ok]

theorem State.vmTick_ok {s : State} (h0 : s.Ok q σ) : (State.vmTick s).Ok q σ := by
  unfold State.vmTick
  repeat' split
  all_goals simp_all +contextual (maxDischargeDepth := 99) only [State.setFld_ok]

theorem State.tick_ok {s : State} (h : s.Ok q (σ₀, none)) : s.tick.Ok q (σ₀, none) := by
  have a : ∀ (c : Prop) [Decidable c] (x y : State), x.Ok q (σ₀, none) → y.Ok q (σ₀, none) →
      (if c then x else y).Ok q (σ₀, none) :=
    fun c _ x y hx hy => okIte (fun _ => hx) (fun _ => hy)
  have k := a (s.tb.running = true) _ _ (State.runsTick_ok h) h
  have k1 := fun w b c => (State.Ok.mk k.1 k.2 k.3 k.4 k.5 k.6 k.7 k.8 k.9 k.10 trivial :
    State.Ok q (σ₀, none)
        { (if s.tb.running then s.runsTick else s) with wh := w, tb :=
            { (if s.tb.running then s.runsTick else s).tb with beat := b, count := c } })
  unfold State.tick
  exact State.nocTick_ok (a _ _ _ (State.axisFilters_ok (State.vmTick_ok (k1 _ _ _))) (k1 _ _ _))

theorem execBge_ok {t : Fin 64} {s : State} (h1 : s.Ok q σ) : OkOut q σ (execBge t s) := by
  unfold execBge
  repeat' split
  all_goals simp_all +contextual (maxDischargeDepth := 99) only [okNext, State.branch_ok]

theorem execAxisEdge_ok {k : Fin 6} {la : Bool} {lb : Bool} {s : State} (h3 : s.Ok q σ) : OkOut q σ
    (execAxisEdge k la lb s) := by
  unfold execAxisEdge
  repeat' split
  all_goals simp_all +contextual (maxDischargeDepth := 99) only [okNext, State.axisFilter_ok, State.setAxis_ok]

theorem execDidtFire_ok {n : Fin 4} {sw : Fin 6} {s : State} (h2 : s.Ok q σ) : OkOut q σ (execDidtFire n sw s) := by
  unfold execDidtFire
  repeat' split
  all_goals simp_all +contextual (maxDischargeDepth := 99) only [okNext, okIteOut, implies_true,
      State.setMotorState_ok, State.raise_ok, State.orFld_ok, State.setGt_ok]

theorem execTransportReceive_ok {k : Fin 4} {f : Frame} {s : State} (h2 : s.Ok q σ) : OkOut q σ
    (execTransportReceive k f s) := by
  unfold execTransportReceive
  repeat' split
  all_goals simp_all +contextual (maxDischargeDepth := 99) only [okNext, implies_true, State.linkAccept_ok,
      State.above_ok, State.toAgent_ok]

theorem execNotifySend_ok {page : Fin 512} {s : State} (h1 : s.Ok q σ) : OkOut q σ (execNotifySend page s) := by
  unfold execNotifySend
  repeat' split
  all_goals simp_all +contextual (maxDischargeDepth := 99) only [okNext, okIteOut, implies_true, State.notifyPage_ok]

theorem execBr_ok {t : Fin 64} {s : State} (h1 : s.Ok q σ) : OkOut q σ (execBr t s) := by
  unfold execBr
  repeat' split
  all_goals simp_all +contextual (maxDischargeDepth := 99) only [okNext, State.branch_ok]

theorem execQueuePopStream_ok {a : Acc} {a1 : Fin 256} {off : Fin 2048} {bytes : Fin 1024} {s : State}
    (h4 : s.Ok q σ) : OkOut q σ (execQueuePopStream a a1 off bytes s) := by
  unfold execQueuePopStream
  repeat' split
  all_goals simp_all +contextual (maxDischargeDepth := 99) only [okMk, okFold, okIte, okNext, implies_true,
      State.after_ok, State.portAccess_ok, State.popAccess_ok]

theorem State.alignAll_ok {s : State} (h0 : s.Ok q σ) : (State.alignAll s).Ok q σ := by
  unfold State.alignAll
  repeat' split
  all_goals simp_all +contextual (maxDischargeDepth := 99) only [okFoldl, implies_true, State.alignPwm_ok]

theorem State.portsDawn_ok {s : State} (h0 : s.Ok q σ) : (State.portsDawn s).Ok q σ := by
  unfold State.portsDawn
  repeat' split
  all_goals simp_all +contextual (maxDischargeDepth := 99) only [okMk, okFold, okFoldl, implies_true]

theorem State.nocDawn_ok {s : State} (h0 : s.Ok q σ) : (State.nocDawn s).Ok q σ := by
  unfold State.nocDawn
  repeat' split
  all_goals simp_all +contextual (maxDischargeDepth := 99) only [okMk, okFold, okFoldl, implies_true,
      State.gapAnew_ok, State.setTokens_ok]

theorem execDawnRelease_ok {s : State} (h0 : s.Ok q σ) : OkOut q σ (execDawnRelease s) := by
  unfold execDawnRelease
  refine okIteOut (fun _ => by rw [okNext]; exact h0) (fun _ => ?_)
  dsimp only
  rw [okNext]
  refine State.setFld_ok
      (State.setPair_ok (State.alignAll_ok (State.voidExchange_ok (State.portsDawn_ok (State.nocDawn_ok ?_)))))
  have k : (if s.tb.running then s else s.axisBegin).Ok q σ := okIte (fun _ => h0) (fun _ => State.axisBegin_ok h0)
  exact ⟨k.1, k.2, k.3, k.4, k.5, h0.6, k.7, k.8, k.9, k.10, k.11⟩

theorem State.egressErr_ok {s : State} {p : Nat} {k : Nat} {hh : Nat} {st : Nat} (h0 : s.Ok q σ) :
    (State.egressErr s p k hh st).Ok q σ := by
  unfold State.egressErr
  repeat' split
  all_goals simp_all +contextual (maxDischargeDepth := 99) only [okIte, implies_true, State.raiseBy_ok,
      State.setFld_ok]

theorem State.debit_ok {s : State} {p : Nat} {k : Nat} {w : Nat} {l : Nat} (h0 : s.Ok q σ) :
    (State.debit s p k w l).Ok q σ := by
  unfold State.debit
  repeat' split
  all_goals simp_all +contextual (maxDischargeDepth := 99) only [State.setPair_ok, State.setSlot_ok]

theorem State.sojourn_ok {s : State} {p : Nat} {k : Nat} {c : Nat} (h0 : s.Ok q σ) :
    (State.sojourn s p k c).Ok q σ := by
  unfold State.sojourn
  repeat' split
  all_goals simp_all +contextual (maxDischargeDepth := 99) only [okIte, implies_true, State.setSlot_ok,
      State.setFld_ok, State.raise_ok]

theorem State.postWords_ok {s : State} {a : Nat} {ws : List Nat} (h0 : s.Ok q σ) :
    (State.postWords s a ws).Ok q σ := by
  unfold State.postWords
  repeat' split
  all_goals simp_all +contextual (maxDischargeDepth := 99) only [okFoldl, implies_true, State.send_ok]

theorem State.ringWrite_ok {s : State} {k : Nat} {seq : Nat} {queue : Nat} {ws : List Nat} {poison : Bool}
    {err : Bool} (h0 : s.Ok q σ) : (State.ringWrite s k seq queue ws poison err).Ok q σ := by
  unfold State.ringWrite
  repeat' split
  all_goals simp_all +contextual (maxDischargeDepth := 99) only [okIte, implies_true, State.postWords_ok,
      State.setFld_ok, State.setRing_ok, State.ringSignal_ok]

theorem State.sendItem_ok {s : State} {j : Nat} {k : Nat} {hh : Nat} {seq : Nat} {queue : Nat} {ws : List Nat}
    {poison : Bool} {vc : Nat} (h0 : s.Ok q σ) : (State.sendItem s j k hh seq queue ws poison vc).Ok q σ := by
  unfold State.sendItem
  repeat' split
  all_goals simp_all +contextual (maxDischargeDepth := 99) only [okIte, implies_true, State.bump_ok, State.toPort_ok,
      State.unroutable_ok]

theorem State.sendFrame_ok {s : State} {p : Nat} {k : Nat} {w : Nat} {l : Nat} {fail : Option (PopFail × Nat)}
    (h0 : s.Ok q σ) : (State.sendFrame s p k w l fail).Ok q σ := by
  unfold State.sendFrame
  repeat' split
  all_goals (try dsimp only)
  repeat' split
  all_goals simp_all +contextual (maxDischargeDepth := 99) only [okMk, okFold, State.popStreamFor_ok,
      State.egressErr_ok, State.bump_ok, State.raiseBy_ok, State.debit_ok, State.sojourn_ok, State.ringWrite_ok,
      State.sendItem_ok, State.setSlot_ok, State.idleSlot_ok]
  all_goals (repeat' split)
  all_goals simp_all +contextual (maxDischargeDepth := 99) only [State.tl_wf (q := q) (σ := σ), TileSt.put_wf,
      Tab.wf_keep, TileSt.reset_wf, okMk, okFold, okIte, okFoldl, okNext, okIteOut, okSome, okNone, implies_true,
      State.popStreamFor_ok, State.egressErr_ok, State.bump_ok, State.raiseBy_ok, State.debit_ok, State.sojourn_ok,
      State.ringWrite_ok, State.sendItem_ok, State.setSlot_ok, State.idleSlot_ok]

theorem State.serveList_ok {s : State} {p w : Nat} {credit : Bool} {fail : Option (PopFail × Nat)} {f : Nat}
    (h : s.Ok q σ) : (s.serveList p w credit fail f).1.Ok q σ := by
  induction f generalizing s with
  | zero => exact h
  | succ f ih =>
    rw [State.serveList]
    split
    · exact h
    · split
      · exact ih (State.idleSlot_ok h)
      · split
        · exact ih (State.blockSlot_ok h)
        · dsimp only
          repeat' split
          all_goals first
            | exact h
            | exact ih (State.setSc_ok (State.setSlot_ok (State.setSlot_ok h)))
            | exact ih (State.placeSlot_ok (State.setSlot_ok h))
            | exact State.sendFrame_ok (State.setSlot_ok h)

theorem execLinkLos_ok {k : Fin 4} {modabs : Bool} {s : State} (h2 : s.Ok q σ) : OkOut q σ
    (execLinkLos k modabs s) := by
  unfold execLinkLos
  dsimp only
  have a : ∀ (c : Prop) [Decidable c] (x y : State), x.Ok q σ → y.Ok q σ → (if c then x else y).Ok q σ :=
    fun c _ x y hx hy => okIte (fun _ => hx) (fun _ => hy)
  have k1 :
      (if modabs then s.setFld (pFabp k) FABP.LINK_STATUS_MODABS 1 else s.setFld
          (pFabp k) FABP.LINK_STATUS_LOS 1).Ok q σ :=
    a _ _ _ (State.setFld_ok h2) (State.setFld_ok h2)
  refine okIteOut (fun _ => ?_) (fun _ => okIteOut (fun _ => ?_) (fun _ => ?_)) <;> rw [okNext]
  · exact State.linkDown_ok (State.raise_ok k1)
  · exact State.restartWait_ok k1
  · exact k1

theorem execMapAckTimeout_ok {s : State} (h0 : s.Ok q σ) : OkOut q σ (execMapAckTimeout s) := by
  unfold execMapAckTimeout
  repeat' split
  all_goals simp_all +contextual (maxDischargeDepth := 99) only [okNext, State.rootActivate_ok, State.raise_ok]

theorem execVfmin_ok {t : Fin 64} {s : State} (h1 : s.Ok q σ) : OkOut q σ (execVfmin t s) := by
  unfold execVfmin
  repeat' split
  all_goals simp_all +contextual (maxDischargeDepth := 99) only [okNext, State.vecOp_ok]

theorem State.coreReset_ok {s : State} {keep : Nat → Fld → Bool} (h : s.Ok q σ) : (s.coreReset keep).Ok q σ := by
  unfold State.coreReset
  refine State.strapRef_ok (State.vcpAct_ok (okFoldl (fun t x ht => State.setFld_ok ht) ?_))
  rw [okMk]
  refine ⟨h.1, h.2, Tab.rises_keep _ _ h.regs, rfl, Tab.rises_set _ _ _ _ ?_, rfl, rfl, rfl, rfl, rfl, h.11⟩
  refine Tab.rises_filterMap _ (fun e e' he => ?_) _ _ h.live
  split at he
  · cases he
  · cases he; rfl

theorem execTapClamp_ok {s : State} (h0 : s.Ok q σ) : OkOut q σ (execTapClamp s) := by
  unfold execTapClamp
  repeat' split
  all_goals simp_all +contextual (maxDischargeDepth := 99) only [okNext, State.tapSet_ok]

theorem State.vecOp1_ok {s : State} {t : Nat} {cls : Nat} {op : Nat} {f : Nat → Nat} (h0 : s.Ok q σ) :
    (State.vecOp1 s t cls op f).Ok q σ := by
  unfold State.vecOp1
  repeat' split
  all_goals simp_all +contextual (maxDischargeDepth := 99) only [State.issueRegs_ok]

theorem execVcvtif_ok {t : Fin 64} {s : State} (h1 : s.Ok q σ) : OkOut q σ (execVcvtif t s) := by
  unfold execVcvtif
  repeat' split
  all_goals simp_all +contextual (maxDischargeDepth := 99) only [okNext, State.vecOp1_ok]

theorem State.watchMotor_ok {s : State} {n : Nat} {w : Int} (h0 : s.Ok q σ) : (State.watchMotor s n w).Ok q σ := by
  unfold State.watchMotor
  repeat' split
  all_goals simp_all +contextual (maxDischargeDepth := 99) only [okIte, implies_true, State.setMo_ok,
      State.motorFault_ok, State.raise_ok, State.stall_ok]

theorem State.newDuties_ok {s : State} {n : Nat} {duty : Nat → Nat} {phase : Nat → Nat} (h0 : s.Ok q σ) :
    (State.newDuties s n duty phase).Ok q σ := by
  unfold State.newDuties
  repeat' split
  all_goals simp_all +contextual (maxDischargeDepth := 99) only [okIte, okFoldl, implies_true, State.setShadow_ok,
      State.applyShadows_ok]

theorem State.currentLoop_ok {s : State} {n : Nat} {theta : Nat} {r : Int × Int} (h0 : s.Ok q σ) :
    (State.currentLoop s n theta r).Ok q σ := by
  unfold State.currentLoop
  repeat' split
  all_goals simp_all +contextual (maxDischargeDepth := 99) only [State.setSfld_ok, State.setFld_ok, State.setMo_ok,
      State.newDuties_ok]

theorem State.alignStep_ok {s : State} {n : Nat} {w : Int} (h0 : s.Ok q σ) : (State.alignStep s n w).Ok q σ := by
  unfold State.alignStep
  repeat' split
  all_goals simp_all +contextual (maxDischargeDepth := 99) only [State.watchMotor_ok, State.currentLoop_ok]

theorem execHostUnsupportedRequest_ok {posted : Bool} {s : State} (h1 : s.Ok q σ) : OkOut q σ
    (execHostUnsupportedRequest posted s) := by
  unfold execHostUnsupportedRequest
  repeat' split
  all_goals simp_all +contextual (maxDischargeDepth := 99) only [okNext, State.unsupported_ok]

theorem State.delayReqIn_ok {s : State} {k : Nat} {f : Frame} {start : Nat} (h0 : s.Ok q σ) :
    (State.delayReqIn s k f start).Ok q σ := by
  unfold State.delayReqIn
  repeat' split
  all_goals simp_all +contextual (maxDischargeDepth := 99) only [State.sendLocal_ok]

theorem execDelayReqReceive_ok {k : Fin 4} {f : Frame} {start : BitVec 64} {s : State} (h3 : s.Ok q σ) : OkOut q σ
    (execDelayReqReceive k f start s) := by
  unfold execDelayReqReceive
  repeat' split
  all_goals simp_all +contextual (maxDischargeDepth := 99) only [okNext, implies_true, State.linkAccept_ok,
      State.delayReqIn_ok]

theorem execQueueMark_ok {a : Acc} {a1 : Fin 256} {s : State} (h2 : s.Ok q σ) : OkOut q σ (execQueueMark a a1 s) := by
  unfold execQueueMark
  repeat' split
  all_goals simp_all +contextual (maxDischargeDepth := 99) only [okNext, State.qRegAccess_ok]

theorem State.schDue_ok {s : State} {p : Nat} (h0 : s.Ok q σ) : (State.schDue s p).Ok q σ := by
  unfold State.schDue
  repeat' split
  all_goals simp_all +contextual (maxDischargeDepth := 99) only [State.wheelNow_ok, State.refillNow_ok]

theorem execSlotWake_ok {p : Fin 5} {k : Fin 64} {s : State} (h2 : s.Ok q σ) : OkOut q σ (execSlotWake p k s) := by
  unfold execSlotWake
  repeat' split
  all_goals (try dsimp only)
  repeat' split
  all_goals simp_all +contextual (maxDischargeDepth := 99) only [okNext, State.schDue_ok, State.wakeSlot_ok]
  all_goals (repeat' split)
  all_goals simp_all +contextual (maxDischargeDepth := 99) only [State.tl_wf (q := q) (σ := σ), TileSt.put_wf,
      Tab.wf_keep, TileSt.reset_wf, okMk, okFold, okIte, okFoldl, okNext, okIteOut, okSome, okNone, implies_true,
      State.schDue_ok, State.wakeSlot_ok]

theorem State.vecCmp_ok {s : State} {t : Nat} {cls : Nat} {op : Nat} {f : Nat → Nat → Bool} (h0 : s.Ok q σ) :
    (State.vecCmp s t cls op f).Ok q σ := by
  unfold State.vecCmp
  repeat' split
  all_goals simp_all +contextual (maxDischargeDepth := 99) only [State.issueRegs_ok]

theorem execVfcmplt_ok {t : Fin 64} {s : State} (h1 : s.Ok q σ) : OkOut q σ (execVfcmplt t s) := by
  unfold execVfcmplt
  repeat' split
  all_goals simp_all +contextual (maxDischargeDepth := 99) only [okNext, State.vecCmp_ok]

theorem State.unheld_ok {s : State} (h : s.Ok q (σ₀, none)) : ∀ x, s.unheld = some x → x.2.Ok q (σ₀, none) := by
  intro x e
  unfold State.unheld at e
  split at e
  · exact State.whNext_ok h x e
  · split at e
    · cases e
    · split at e
      · cases e; exact okSame h
      · split at e
        · cases e
        · cases e; exact okSame h

theorem execTrigPulseEnd_ok {o : Fin 40} {s : State} (h1 : s.Ok q σ) : OkOut q σ (execTrigPulseEnd o s) := by
  unfold execTrigPulseEnd
  repeat' split
  all_goals simp_all +contextual (maxDischargeDepth := 99) only [okNext, okIteOut, implies_true, State.setSched_ok,
      State.closeOn_ok]

theorem execQueueRelease_ok {a : Acc} {a1 : Fin 256} {s : State} (h2 : s.Ok q σ) : OkOut q σ
    (execQueueRelease a a1 s) := by
  unfold execQueueRelease
  repeat' split
  all_goals simp_all +contextual (maxDischargeDepth := 99) only [okNext, State.qRegAccess_ok]

theorem execActivateReceive_ok {k : Fin 4} {f : Frame} {s : State} (h2 : s.Ok q σ) : OkOut q σ
    (execActivateReceive k f s) := by
  unfold execActivateReceive
  repeat' split
  all_goals simp_all +contextual (maxDischargeDepth := 99) only [okIte, okNext, implies_true, State.discIn_ok,
      State.downTree_ok, State.activate_ok]

theorem State.putDigest_ok {s : State} {a1 : Nat} {f : Fld} {d : List Byte} (h0 : s.Ok q σ) :
    (State.putDigest s a1 f d).Ok q σ := by
  unfold State.putDigest
  repeat' split
  all_goals simp_all +contextual (maxDischargeDepth := 99) only [okFoldl, implies_true, State.setFld_ok]

theorem execSlotLoadDone_ok {k : Fin 16} {readOk : Bool} {s : State} (h2 : s.Ok q σ) : OkOut q σ
    (execSlotLoadDone k readOk s) := by
  unfold execSlotLoadDone
  simp +contextual (maxDischargeDepth := 99) only [okMk, okFold, okIte, okFoldl, okNext, okIteOut, implies_true,
      State.loadFail_ok, State.raiseBy_ok, State.putDigest_ok, State.copyCode_ok, State.setFld_ok, *]
  repeat' split
  all_goals simp_all +contextual (maxDischargeDepth := 99) only [State.tl_wf (q := q) (σ := σ), TileSt.put_wf,
      Tab.wf_keep, TileSt.reset_wf, okMk, okFold, okIte, okFoldl, okNext, okIteOut, okSome, okNone, implies_true,
      State.loadFail_ok, State.raiseBy_ok, State.putDigest_ok, State.copyCode_ok, State.setFld_ok]

theorem execVddwFall_ok {s : State} (h0 : s.Ok q (σ₀, none)) : OkOut q (σ₀, none) (execVddwFall s) := by
  unfold execVddwFall
  repeat' split
  all_goals simp_all +contextual (maxDischargeDepth := 99) only [okNext, State.onWh_ok]

theorem State.refLoop_ok {s : State} (h0 : s.Ok q σ) : (State.refLoop s).Ok q σ := by
  unfold State.refLoop
  repeat' split
  all_goals simp_all +contextual (maxDischargeDepth := 99) only [okMk, okFold, okIte, implies_true, State.setFld_ok,
      State.raise_ok]

theorem execRefAheadUpdate_ok {s : State} (h0 : s.Ok q σ) : OkOut q σ (execRefAheadUpdate s) := by
  unfold execRefAheadUpdate
  repeat' split
  all_goals simp_all +contextual (maxDischargeDepth := 99) only [okNext, State.after_ok, State.refLoop_ok]

theorem execWarmReq_ok {a : Acc} {w : Word} {s : State} (h2 : s.Ok q σ) : OkOut q σ (execWarmReq a w s) := by
  unfold execWarmReq
  repeat' split
  all_goals simp_all +contextual (maxDischargeDepth := 99) only [okNext, implies_true, State.mgrAccess_ok,
      State.resetCtrl_ok]

theorem execSld_ok {a0 : TileRead} {a1 : State} (h1 : a1.Ok q σ) : OkOut q σ (execSld a0 a1) := by
  unfold execSld
  repeat' split
  all_goals simp_all +contextual (maxDischargeDepth := 99) only [okNext, State.load_ok]

theorem State.loopCal_ok {s : State} {k : Nat} {tx : Nat} {rx : Nat} {stable : Bool} (h0 : s.Ok q σ) :
    (State.loopCal s k tx rx stable).Ok q σ := by
  unfold State.loopCal
  repeat' split
  all_goals simp_all +contextual (maxDischargeDepth := 99) only [okMk, okFold, State.setFld_ok, State.raise_ok]

theorem execVredFadd_ok {t : Fin 64} {s : State} (h1 : s.Ok q σ) : OkOut q σ (execVredFadd t s) := by
  unfold execVredFadd
  repeat' split
  all_goals simp_all +contextual (maxDischargeDepth := 99) only [okNext, State.reduce_ok]

theorem execSpillReadDone_ok {a0 : Fin 256} {status : Fin 8} {poisonedFlits : Fin 4} {s : State} (h3 : s.Ok q σ)
    : OkOut q σ (execSpillReadDone a0 status poisonedFlits s) := by
  unfold execSpillReadDone
  repeat' split
  all_goals simp_all +contextual (maxDischargeDepth := 99) only [okNext, State.spillReturned_ok, State.setQ_ok]

theorem execAgePromote_ok {k : Nat} {s : State} (h1 : s.Ok q σ) : OkOut q σ (execAgePromote k s) := by
  unfold execAgePromote
  repeat' split
  all_goals simp_all +contextual (maxDischargeDepth := 99) only [okMk, okFold, okNext, State.raise_ok, State.bump_ok]

theorem execLoadGo_ok {a : Acc} {s : State} (h1 : s.Ok q σ) : OkOut q σ (execLoadGo a s) := by
  unfold execLoadGo
  repeat' split
  all_goals simp_all +contextual (maxDischargeDepth := 99) only [okNext, implies_true, State.access_ok,
      State.loadGo_ok]

theorem State.lockStep_ok {s : State} {n : Nat} {w : Int} {e : Int} {covered : Bool} (h0 : s.Ok q σ) :
    (State.lockStep s n w e covered).Ok q σ := by
  unfold State.lockStep
  repeat' split
  all_goals simp_all +contextual (maxDischargeDepth := 99) only [okIte, implies_true, State.modMo_ok,
      State.setMotorState_ok, State.setMo_ok, State.raise_ok]

theorem execMirrorRefresh_ok {s : State} (h0 : s.Ok q σ) : OkOut q σ (execMirrorRefresh s) := by
  unfold execMirrorRefresh
  repeat' split
  all_goals simp_all +contextual (maxDischargeDepth := 99) only [okMk, okFold, okNext, State.mxSubmit_ok]

theorem execMotorRestart_ok {n : Fin 4} {s : State} (h1 : s.Ok q σ) : OkOut q σ (execMotorRestart n s) := by
  unfold execMotorRestart
  repeat' split
  all_goals simp_all +contextual (maxDischargeDepth := 99) only [okNext, State.raise_ok, State.bump_ok,
      State.startAngle_ok, State.modMo_ok]

theorem execMotorStart_ok {a : Acc} {n : Fin 4} {s : State} (h2 : s.Ok q σ) : OkOut q σ (execMotorStart a n s) := by
  unfold execMotorStart
  repeat' split
  all_goals simp_all +contextual (maxDischargeDepth := 99) only [okNext, implies_true, State.access_ok,
      State.startReq_ok]

theorem execAxisOpenWire_ok {k : Fin 6} {sig : Fin 3} {s : State} (h2 : s.Ok q σ) : OkOut q σ
    (execAxisOpenWire k sig s) := by
  unfold execAxisOpenWire
  repeat' split
  all_goals simp_all +contextual (maxDischargeDepth := 99) only [okNext, okIteOut, implies_true,
      State.showAxisLive_ok, State.raise_ok, State.axisSticky_ok, State.setAxis_ok]

theorem execChargerLevelCross_ok {mv : Nat} {s : State} (h1 : s.Ok q (σ₀, none)) : OkOut q (σ₀, none)
    (execChargerLevelCross mv s) := by
  unfold execChargerLevelCross
  repeat' split
  all_goals simp_all +contextual (maxDischargeDepth := 99) only [okNext, State.onWh_ok]

theorem execTokenGain_ok {r : Fin 30} {agent : Fin 8} {s : State} (h2 : s.Ok q σ) : OkOut q σ
    (execTokenGain r agent s) := by
  unfold execTokenGain
  repeat' split
  all_goals simp_all +contextual (maxDischargeDepth := 99) only [okMk, okFold, okIte, okNext, implies_true,
      State.setTokens_ok, State.payOffers_ok]

theorem State.linkUp_ok {s : State} {k : Nat} {rxUnits : List (Nat × Nat)} (h0 : s.Ok q σ) :
    (State.linkUp s k rxUnits).Ok q σ := by
  unfold State.linkUp
  repeat' split
  all_goals simp_all +contextual (maxDischargeDepth := 99) only [State.setPort_ok, State.setLink_ok, State.setFld_ok,
      State.neighboursChanged_ok, State.showTree_ok, State.raise_ok]

theorem execHelloReceive_ok {k : Fin 4} {f : Frame} {s : State} (h2 : s.Ok q σ) : OkOut q σ
    (execHelloReceive k f s) := by
  unfold execHelloReceive
  repeat' split
  all_goals simp_all +contextual (maxDischargeDepth := 99) only [okNext, okIteOut, implies_true, State.frameIn_ok,
      State.badFrame_ok, State.linkDown_ok, State.raise_ok, State.bump_ok, State.keepHello_ok, State.linkUp_ok]

theorem State.limitAction_ok {s : State} {majOk : Bool} (h0 : s.Ok q σ) : (State.limitAction s majOk).Ok q σ := by
  unfold State.limitAction
  repeat' split
  all_goals simp_all +contextual (maxDischargeDepth := 99) only [okIte, implies_true, State.setFld_ok,
      State.condition_ok, State.stillAtLimit_ok]

theorem State.warnRules_ok {s : State} {e : Nat} {majOk : Bool} (h0 : s.Ok q σ) :
    (State.warnRules s e majOk).Ok q σ := by
  unfold State.warnRules
  repeat' split
  all_goals simp_all +contextual (maxDischargeDepth := 99) only [okMk, okFold, State.condition_ok, State.setFld_ok,
      State.limitAction_ok]

theorem execQueueDisable_ok {a : Acc} {a1 : Fin 256} {w : Word} {s : State} (h3 : s.Ok q σ) : OkOut q σ
    (execQueueDisable a a1 w s) := by
  unfold execQueueDisable
  repeat' split
  all_goals simp_all +contextual (maxDischargeDepth := 99) only [okNext, State.qRegAccess_ok]

theorem execStrobeDutyCut_ok {k : Fin 8} {s : State} (h1 : s.Ok q σ) : OkOut q σ (execStrobeDutyCut k s) := by
  unfold execStrobeDutyCut
  repeat' split
  all_goals simp_all +contextual (maxDischargeDepth := 99) only [okNext, okIteOut, implies_true, State.dutyCut_ok]

theorem execJoinSend_ok {s : State} (h0 : s.Ok q σ) : OkOut q σ (execJoinSend s) := by
  unfold execJoinSend
  repeat' split
  all_goals simp_all +contextual (maxDischargeDepth := 99) only [okNext, State.join_ok]

theorem execRefillInstant_ok {page : Fin 9} {s : State} (h1 : s.Ok q σ) : OkOut q σ (execRefillInstant page s) := by
  unfold execRefillInstant
  repeat' split
  all_goals simp_all +contextual (maxDischargeDepth := 99) only [okNext, State.refillNow_ok]

theorem execPePerst_ok {s : State} (h0 : s.Ok q σ) : OkOut q σ (execPePerst s) := by
  unfold execPePerst
  repeat' split
  all_goals simp_all +contextual (maxDischargeDepth := 99) only [okNext, State.raise_ok, State.linkReset_ok,
      State.linkGone_ok]

theorem execOutSafe_ok {a : Acc} {w : Word} {s : State} (h2 : s.Ok q σ) : OkOut q σ (execOutSafe a w s) := by
  unfold execOutSafe
  repeat' split
  all_goals simp_all +contextual (maxDischargeDepth := 99) only [okNext, implies_true, State.access_ok,
      State.condition_ok, State.plainWrite_ok]

theorem State.syncIn_ok {s : State} {k : Nat} {f : Frame} {start : Nat} (h0 : s.Ok q σ) :
    (State.syncIn s k f start).Ok q σ := by
  unfold State.syncIn
  repeat' split
  all_goals simp_all +contextual (maxDischargeDepth := 99) only [okMk, okFold, okIte, implies_true,
      State.timeVoid_ok, State.setFld_ok, State.armEngine_ok, State.setCState_ok, State.loadRequest_ok,
      State.sendLocal_ok, State.constShow_ok]

theorem execSlParamWrite_ok {a : Acc} {reg : Fin 12} {w : Word} {s : State} (h3 : s.Ok q σ) : OkOut q σ
    (execSlParamWrite a reg w s) := by
  unfold execSlParamWrite
  repeat' split
  all_goals simp_all +contextual (maxDischargeDepth := 99) only [okNext, implies_true, State.access_ok,
      State.slWrite_ok]

theorem execWicketLogout_ok {s : State} (h0 : s.Ok q σ) : OkOut q σ (execWicketLogout s) := by
  unfold execWicketLogout
  repeat' split
  all_goals simp_all +contextual (maxDischargeDepth := 99) only [okNext, implies_true, State.wk_ok, State.wkReply_ok,
      State.endSession_ok]

theorem execRunHalted_ok {a0 : Fin 8} {s : State} (h1 : s.Ok q σ) : OkOut q σ (execRunHalted a0 s) := by
  unfold execRunHalted
  repeat' split
  all_goals simp_all +contextual (maxDischargeDepth := 99) only [okIte, okFoldl, okNext, implies_true,
      State.tileState_ok, State.haltCause_ok, State.setRun_ok, State.setPair_ok, State.setFld_ok, State.raiseBy_ok,
      State.setRunFlag_ok, State.bump_ok]

theorem State.rampStep_ok {s : State} {n : Nat} {theta : Nat} {w : Int} (h0 : s.Ok q σ) :
    (State.rampStep s n theta w).Ok q σ := by
  unfold State.rampStep
  repeat' split
  all_goals simp_all +contextual (maxDischargeDepth := 99) only [okIte, implies_true, State.setFld_ok,
      State.setMo_ok, State.watchMotor_ok, State.currentLoop_ok, State.modMo_ok, State.enterRun_ok]

theorem execWhReadLedger_ok {tag : BitVec 8} {lseq : BitVec 32} {n : BitVec 16} {bad : Option (BitVec 32)}
    {s : State} (h4 : s.Ok q (σ₀, none)) : OkOut q (σ₀, none) (execWhReadLedger tag lseq n bad s) := by
  unfold execWhReadLedger
  repeat' split
  all_goals simp_all +contextual (maxDischargeDepth := 99) only [okMkAny, okFoldAny, okIte, okNext, implies_true,
      State.whServe_ok, State.whAnswer_ok]

theorem execSlotLoad_ok {a : Acc} {k : Fin 16} {s : State} (h2 : s.Ok q σ) : OkOut q σ (execSlotLoad a k s) := by
  unfold execSlotLoad
  repeat' split
  all_goals simp_all +contextual (maxDischargeDepth := 99) only [okNext, State.ctrlAccess_ok]

theorem execBar_ok {t : Fin 64} {s : State} (h1 : s.Ok q σ) : OkOut q σ (execBar t s) := by
  unfold execBar
  repeat' split
  all_goals simp_all +contextual (maxDischargeDepth := 99) only [okNext, implies_true, State.issue_ok, State.reach_ok]

theorem execHelloSend_ok {k : Fin 4} {s : State} (h1 : s.Ok q σ) : OkOut q σ (execHelloSend k s) := by
  unfold execHelloSend
  repeat' split
  all_goals simp_all +contextual (maxDischargeDepth := 99) only [okNext, State.emitFrame_ok, State.setPort_ok]

theorem State.recordAppend_ok {s : State} {a1 : Nat} {r : RunSt} {i : QItem} (h0 : s.Ok q σ) :
    (State.recordAppend s a1 r i).Ok q σ := by
  unfold State.recordAppend
  repeat' split
  all_goals simp_all +contextual (maxDischargeDepth := 99) only [okIte, implies_true, State.recordLost_ok,
      State.dramStore_ok, State.dramAsk_ok, State.setFld_ok, State.setPv_ok]

theorem State.portTake_ok {s : State} {a1 : Nat} {r : RunSt} (h0 : s.Ok q σ) : (State.portTake s a1 r).Ok q σ := by
  unfold State.portTake
  repeat' split
  all_goals (try dsimp only)
  repeat' split
  all_goals simp_all +contextual (maxDischargeDepth := 99) only [State.takeItem_ok, State.setRun_ok, State.setPv_ok,
      State.recordAppend_ok, State.chargeRty_ok]
  all_goals (repeat' split)
  all_goals simp_all +contextual (maxDischargeDepth := 99) only [State.tl_wf (q := q) (σ := σ), TileSt.put_wf,
      Tab.wf_keep, TileSt.reset_wf, okMk, okFold, okIte, okFoldl, okNext, okIteOut, okSome, okNone, implies_true,
      State.takeItem_ok, State.setRun_ok, State.setPv_ok, State.recordAppend_ok, State.chargeRty_ok]

theorem State.pop_ok {s : State} {i : Issue} {n : Ins} (h0 : s.Ok q σ) (hI : Tab.wf (0 : Byte) i.x.sram = true) :
    (State.pop s i n).Ok q σ := by
  unfold State.pop
  repeat' split
  all_goals simp_all +contextual (maxDischargeDepth := 99) only [okIte, implies_true, State.leafFault_ok,
      State.portTake_ok, State.popFinish_ok, State.putCtx_ok]

theorem execPop_ok {t : Fin 64} {s : State} (h1 : s.Ok q σ) : OkOut q σ (execPop t s) := by
  unfold execPop
  repeat' split
  all_goals simp_all +contextual (maxDischargeDepth := 99) only [okNext, implies_true, State.issue_ok, State.pop_ok]

theorem execQueueRewind_ok {a : Acc} {a1 : Fin 256} {s : State} (h2 : s.Ok q σ) : OkOut q σ
    (execQueueRewind a a1 s) := by
  unfold execQueueRewind
  repeat' split
  all_goals simp_all +contextual (maxDischargeDepth := 99) only [okNext, State.after_ok, State.qRegAccess_ok]

theorem execWhStamp_ok {tag : BitVec 8} {sid : BitVec 64} {nonce : BitVec 64} {ackLseq : BitVec 32}
    {ackTally : BitVec 32} {s : State} (h5 : s.Ok q (σ₀, none)) : OkOut q (σ₀, none)
    (execWhStamp tag sid nonce ackLseq ackTally s) := by
  unfold execWhStamp
  repeat' split
  all_goals simp_all +contextual (maxDischargeDepth := 99) only [okMkAny, okFoldAny, okIte, okNext, implies_true,
      State.whServe_ok, State.whAnswer_ok]

theorem execVmul_ok {t : Fin 64} {s : State} (h1 : s.Ok q σ) : OkOut q σ (execVmul t s) := by
  unfold execVmul
  repeat' split
  all_goals simp_all +contextual (maxDischargeDepth := 99) only [okNext, State.vecOp_ok]

theorem execMotorCalDone_ok {n : Fin 4} {u : BitVec 14} {v : BitVec 14} {w : BitVec 14} {s : State} (h4 : s.Ok q σ)
    : OkOut q σ (execMotorCalDone n u v w s) := by
  unfold execMotorCalDone
  repeat' split
  all_goals simp_all +contextual (maxDischargeDepth := 99) only [okFoldl, okNext, okIteOut, implies_true,
      State.setFld_ok, State.sampleTick_ok, State.motorOff_ok, State.startAngle_ok]

theorem State.wkAccess_ok {s : State} {a1 : Nat} {data : List Nat} {write : Bool} (h0 : s.Ok q σ) :
    (State.wkAccess s a1 data write).Ok q σ := by
  unfold State.wkAccess
  repeat' split
  all_goals simp_all +contextual (maxDischargeDepth := 99) only [okMk, okFold, State.wkFault_ok, State.wkSend_ok,
      State.decodeError_ok, State.drew_ok, State.wkIssue_ok]

theorem execWicketRead_ok {hdr : BitVec 60} {s : State} (h1 : s.Ok q σ) : OkOut q σ (execWicketRead hdr s) := by
  unfold execWicketRead
  repeat' split
  all_goals simp_all +contextual (maxDischargeDepth := 99) only [okNext, implies_true, State.wk_ok, State.wkAccess_ok]

theorem State.takeFor_ok {s : State} {ak vc : Nat} (h0 : s.Ok q σ) : ∀ x, (State.takeFor s ak vc) = some x
    → x.2.Ok q σ := by
  intro x e
  unfold State.takeFor at e
  split at e
  · cases e
  · cases e; exact okSame h0

theorem State.takePacket_ok {s : State} {r vc : Nat} (h : s.Ok q σ) : ∀ x, s.takePacket r vc = some x
    → x.2.Ok q σ := by
  intro x e
  obtain ⟨ag, _, hag⟩ := List.exists_of_findSome?_eq_some e
  exact State.takeFor_ok h x hag

theorem State.responseArrive_ok {s : State} {r : Nat} {timed : Bool} (h : s.Ok q σ) :
    (s.responseArrive r timed).Ok q σ := by
  unfold State.responseArrive
  split
  · exact h
  · rename_i p t e
    have k := State.takePacket_ok h _ e
    dsimp only
    split
    · exact okIte (fun _ => okSame (State.response_ok (r := r) (p := p) k))
        (fun _ => State.returnResponse_ok (okSame (State.response_ok (r := r) (p := p) k)))
    · exact State.rxPumps_ok (State.response_ok k)

theorem execPacketDeliver_ok {r : Fin 30} {vc : Fin 6} {s : State} (h : s.Ok q σ) : OkOut q σ
    (execPacketDeliver r vc s) := by
  unfold execPacketDeliver
  refine okIteOut (fun _ => by rw [okNext]; exact h) (fun _ => ?_)
  split
  · rw [okNext]; exact h
  · rename_i p t e
    have k := State.takePacket_ok h _ e
    exact okIteOut (fun _ => by rw [okNext]; exact State.responseArrive_ok h)
        (fun _ => okIteOut (fun _ => by rw [okNext]; exact h)
      (fun _ => okIteOut (fun _ => by rw [okNext]; exact State.eventPacket_ok k)
          (fun _ => by rw [okNext]; exact State.requestIn_ok k)))

theorem execVfmax_ok {t : Fin 64} {s : State} (h1 : s.Ok q σ) : OkOut q σ (execVfmax t s) := by
  unfold execVfmax
  repeat' split
  all_goals simp_all +contextual (maxDischargeDepth := 99) only [okNext, State.vecOp_ok]

theorem State.holdover_ok {s : State} (h0 : s.Ok q σ) : (State.holdover s).Ok q σ := by
  unfold State.holdover
  repeat' split
  all_goals simp_all +contextual (maxDischargeDepth := 99) only [okMk, okFold, State.setFld_ok]

theorem State.emit_ok {s : State} {i : Issue} {n : Ins} {e : EccResult} (h0 : s.Ok q σ)
    (hI : Tab.wf (0 : Byte) i.x.sram = true) : (State.emit s i n e).Ok q σ := by
  unfold State.emit
  repeat' split
  all_goals (try dsimp only)
  repeat' split
  all_goals simp_all +contextual (maxDischargeDepth := 99) only [implies_true, State.leafFault_ok, State.eccRead_ok,
      State.setRun_ok, State.retire_ok, State.watch_ok]
  all_goals (repeat' split)
  all_goals simp_all +contextual (maxDischargeDepth := 99) only [State.tl_wf (q := q) (σ := σ), TileSt.put_wf,
      Tab.wf_keep, TileSt.reset_wf, okMk, okFold, okIte, okFoldl, okNext, okIteOut, okSome, okNone, implies_true,
      State.leafFault_ok, State.eccRead_ok, State.setRun_ok, State.retire_ok, State.watch_ok]

theorem execEmit_ok {a0 : TileRead} {a1 : State} (h1 : a1.Ok q σ) : OkOut q σ (execEmit a0 a1) := by
  unfold execEmit
  repeat' split
  all_goals simp_all +contextual (maxDischargeDepth := 99) only [okNext, implies_true, State.issue_ok, State.emit_ok]

theorem State.profile_ok {s : State} {n : Nat} (h0 : s.Ok q σ) : (State.profile s n).Ok q σ := by
  grind [State.profile, State.setMo_ok, State.modMo_ok, State.raise_ok, State.motorFault_ok]

theorem State.reference_ok {s : State} {n : Nat} {w : Int} {e : Int} (h0 : s.Ok q σ) :
    (State.reference s n w e).1.Ok q σ := by
  unfold State.reference
  repeat' split
  all_goals simp_all +contextual (maxDischargeDepth := 99) only [State.setMo_ok]

theorem State.runStep_ok {s : State} {n : Nat} {theta : Nat} {w : Int} (h0 : s.Ok q σ) :
    (State.runStep s n theta w).Ok q σ := by
  unfold State.runStep
  repeat' split
  all_goals simp_all +contextual (maxDischargeDepth := 99) only [okIte, implies_true, State.facetUpdate_ok,
      State.lockStep_ok, State.condition_ok, State.setFld_ok, State.modMo_ok, State.profile_ok, State.reference_ok,
      State.watchMotor_ok, State.currentLoop_ok, State.motorOff_ok]

theorem execWeighhouseStart_ok {a0 : Bool} {a1 : Bool} {a2 : StartAreas} {a3 : Int} {a4 : State}
    (h4 : a4.Ok q (σ₀, none)) : OkOut q (σ₀, none) (execWeighhouseStart a0 a1 a2 a3 a4) := by
  unfold execWeighhouseStart
  repeat' split
  all_goals simp_all +contextual (maxDischargeDepth := 99) only [okNext, State.onWh_ok]

theorem execCtxDataAccess_ok {a : Acc} {a1 : Fin 8} {hi : Bool} {write : Bool} {w : Word} {s : State}
    (h5 : s.Ok q σ) : OkOut q σ (execCtxDataAccess a a1 hi write w s) := by
  unfold execCtxDataAccess
  repeat' split
  all_goals simp_all +contextual (maxDischargeDepth := 99) only [okNext, implies_true, State.blockAccess_ok,
      State.ctxDataWrite_ok, State.ctxDataRead_ok, State.answer_ok]

theorem State.bstAct_ok {s : State} {n : Nat} (h0 : s.Ok q σ) : (State.bstAct s n).Ok q σ := by
  unfold State.bstAct
  repeat' split
  all_goals simp_all +contextual (maxDischargeDepth := 99) only [okIte, okFoldl, implies_true, State.bump_ok,
      State.modGt_ok, State.swOff_ok, State.raise_ok, State.condition_ok, State.tryOn_ok]

theorem State.cstEnd_ok {s : State} {n : Nat} (h0 : s.Ok q σ) : (State.cstEnd s n).Ok q σ := by
  unfold State.cstEnd
  repeat' split
  all_goals simp_all +contextual (maxDischargeDepth := 99) only [okIte, implies_true, State.setFld_ok,
      State.setGt_ok, State.raise_ok, State.motorFault_ok]

theorem execCstHalfStepEnd_ok {n : Fin 4} {active : BitVec 19} {s : State} (h2 : s.Ok q σ) : OkOut q σ
    (execCstHalfStepEnd n active s) := by
  unfold execCstHalfStepEnd
  repeat' split
  all_goals simp_all +contextual (maxDischargeDepth := 99) only [okIte, okNext, okIteOut, implies_true,
      State.setGt_ok, State.bstAct_ok, State.cstEnd_ok, State.tripAct_ok]

theorem execCntClearAll_ok {a : Acc} {s : State} (h1 : s.Ok q σ) : OkOut q σ (execCntClearAll a s) := by
  unfold execCntClearAll
  repeat' split
  all_goals simp_all +contextual (maxDischargeDepth := 99) only [okNext, implies_true, State.mgrAccess_ok,
      State.nocWrite_ok]

theorem execSpillWrite_ok {a0 : Fin 256} {s : State} (h1 : s.Ok q σ) : OkOut q σ (execSpillWrite a0 s) := by
  unfold execSpillWrite
  repeat' split
  all_goals simp_all +contextual (maxDischargeDepth := 99) only [okIte, okNext, implies_true, State.setQ_ok,
      State.spillWrite_ok]

theorem State.vstbOff_ok {s : State} (h0 : s.Ok q σ) : (State.vstbOff s).Ok q σ := by
  unfold State.vstbOff
  repeat' split
  all_goals simp_all +contextual (maxDischargeDepth := 99) only [okIte, okFoldl, implies_true, State.stopPulse_ok]

theorem State.vstbRail_ok {s : State} {mv : Nat} (h0 : s.Ok q σ) : (State.vstbRail s mv).Ok q σ := by
  unfold State.vstbRail
  repeat' split
  all_goals simp_all +contextual (maxDischargeDepth := 99) only [okIte, implies_true, State.condition_ok,
      State.setFld_ok, State.vstbOff_ok]

theorem execPowerStageSupplyCross_ok {rail : StageRail} {mv : Nat} {s : State} (h2 : s.Ok q σ) : OkOut q σ
    (execPowerStageSupplyCross rail mv s) := by
  unfold execPowerStageSupplyCross
  repeat' split
  all_goals simp_all +contextual (maxDischargeDepth := 99) only [okMk, okFold, okNext, State.vstbRail_ok,
      State.vmRail_ok, State.vgdRail_ok]

theorem execTapBypass_ok {s : State} (h0 : s.Ok q σ) : OkOut q σ (execTapBypass s) := by
  unfold execTapBypass
  repeat' split
  all_goals simp_all +contextual (maxDischargeDepth := 99) only [okNext, State.tapSet_ok]

theorem State.applyNotify_ok {s : State} {arg : Nat} (h0 : s.Ok q σ) : (State.applyNotify s arg).Ok q σ := by
  unfold State.applyNotify
  repeat' split
  all_goals simp_all +contextual (maxDischargeDepth := 99) only [okMk, okFold, okIte, implies_true, State.bump_ok,
      State.setFld_ok, State.firstInfo_ok, State.noteFaultn_ok, State.summarise_ok]

theorem State.notifyIn_ok {s : State} (h0 : s.Ok q σ) : (State.notifyIn s).Ok q σ := by
  unfold State.notifyIn
  repeat' split
  all_goals simp_all +contextual (maxDischargeDepth := 99) only [okMk, okFold, okIte, implies_true,
      State.applyNotify_ok, State.raise_ok]

theorem execNotifyReceive_ok {s : State} (h0 : s.Ok q σ) : OkOut q σ (execNotifyReceive s) := by
  unfold execNotifyReceive
  repeat' split
  all_goals simp_all +contextual (maxDischargeDepth := 99) only [okNext, State.after_ok, State.notifyIn_ok]

theorem execCreditReturn_ok {a0 : Fin 30} {a1 : Fin 6} {a2 : CreditIn} {a3 : State} (h3 : a3.Ok q σ) : OkOut q σ
    (execCreditReturn a0 a1 a2 a3) := by
  unfold execCreditReturn
  repeat' split
  all_goals simp_all +contextual (maxDischargeDepth := 99) only [okMk, okFold, okNext, okIteOut, implies_true,
      State.nocBump_ok, State.routerErr_ok, State.setCredit_ok]

theorem execPwmLinkLoss_ok {n : Fin 4} {cause : Option (Fin 3)} {s : State} (h2 : s.Ok q σ) : OkOut q σ
    (execPwmLinkLoss n cause s) := by
  unfold execPwmLinkLoss
  repeat' split
  all_goals simp_all +contextual (maxDischargeDepth := 99) only [okNext, State.setFld_ok, State.modGt_ok,
      State.bump_ok, State.motorFault_ok, State.raise_ok]

theorem execFaultnForceWrite_ok {a : Acc} {w : Word} {s : State} (h2 : s.Ok q σ) : OkOut q σ
    (execFaultnForceWrite a w s) := by
  unfold execFaultnForceWrite
  repeat' split
  all_goals simp_all +contextual (maxDischargeDepth := 99) only [okNext, implies_true, State.mgrAccess_ok,
      State.noteFaultn_ok, State.setFld_ok]

theorem execQueueTake_ok {a : Acc} {port : Bool} {n : Fin 256} {off : Fin 1024} {words : Fin 65} {s : State}
    (h : s.Ok q σ) : OkOut q σ (execQueueTake a port n off words s) := by
  unfold execQueueTake
  rw [okNext]
  refine State.after_ok h (State.heldAccess_ok h (fun t ht => ?_))
  split
  · exact okIte (fun _ => State.heldRead_ok (State.portTake_ok ht)) (fun _ => State.take_ok ht)
  · exact State.take_ok ht

theorem State.foreignAccess_ok {s : State} {i : Instr} {a : Acc} {addr : Nat} {n : Nat} {write : Bool}
    {data : List Byte} (h0 : s.Ok q σ) : (State.foreignAccess s i a addr n write data).Ok q σ := by
  unfold State.foreignAccess
  repeat' split
  all_goals simp_all +contextual (maxDischargeDepth := 99) only [okMk, okFold, State.hostRemote_ok,
      State.decodeError_ok, State.unroutable_ok]

theorem State.anyAccess_ok {s : State} {i : Instr} {a : Acc} {addr : Nat} {n : Nat} {write : Bool}
    {data : List Byte} (h0 : s.Ok q σ) : (State.anyAccess s i a addr n write data).Ok q σ := by
  unfold State.anyAccess
  repeat' split
  all_goals simp_all +contextual (maxDischargeDepth := 99) only [implies_true, State.busAccess_ok,
      State.hhRequest_ok, State.foreignAccess_ok]

theorem execRoutineCommit_ok {s : State} (h0 : s.Ok q (σ₀, none)) : OkOut q (σ₀, none) (execRoutineCommit s) := by
  unfold execRoutineCommit
  repeat' split
  all_goals simp_all +contextual (maxDischargeDepth := 99) only [okMkAny, okFoldAny, okNext]

theorem execHostLinkUp_ok {speed : Fin 4} {width : Fin 3} {s : State} (h2 : s.Ok q σ) : OkOut q σ
    (execHostLinkUp speed width s) := by
  unfold execHostLinkUp
  repeat' split
  all_goals simp_all +contextual (maxDischargeDepth := 99) only [okMk, okFold, okNext, okIteOut, implies_true,
      State.raise_ok, State.drew_ok]

theorem execAlmFieldWrite_ok {a : Acc} {via : Option (Fin 8)} {reg : Fin 4} {w : Word} {s : State} (h4 : s.Ok q σ)
    : OkOut q σ (execAlmFieldWrite a via reg w s) := by
  unfold execAlmFieldWrite
  repeat' split
  all_goals simp_all +contextual (maxDischargeDepth := 99) only [okNext, implies_true, State.almAccess_ok,
      State.almSoftField_ok]

theorem execStbDisarmNow_ok {a : Acc} {w : Word} {s : State} (h2 : s.Ok q σ) : OkOut q σ
    (execStbDisarmNow a w s) := by
  unfold execStbDisarmNow
  repeat' split
  all_goals simp_all +contextual (maxDischargeDepth := 99) only [okNext, State.armAccess_ok]

theorem execLinkIdleTimeout_ok {k : Fin 4} {s : State} (h1 : s.Ok q σ) : OkOut q σ (execLinkIdleTimeout k s) := by
  unfold execLinkIdleTimeout
  repeat' split
  all_goals simp_all +contextual (maxDischargeDepth := 99) only [okNext, State.linkDown_ok]

theorem execSredFmax_ok {t : Fin 64} {s : State} (h1 : s.Ok q σ) : OkOut q σ (execSredFmax t s) := by
  unfold execSredFmax
  repeat' split
  all_goals simp_all +contextual (maxDischargeDepth := 99) only [okNext, State.reduce_ok]

theorem execPageEnable_ok {a : Acc} {page : Fin 512} {en : Bool} {s : State} (h3 : s.Ok q σ) : OkOut q σ
    (execPageEnable a page en s) := by
  unfold execPageEnable
  repeat' split
  all_goals simp_all +contextual (maxDischargeDepth := 99) only [okNext, implies_true, State.access_ok,
      State.setEnable_ok]

theorem execVor_ok {t : Fin 64} {s : State} (h1 : s.Ok q σ) : OkOut q σ (execVor t s) := by
  unfold execVor
  repeat' split
  all_goals simp_all +contextual (maxDischargeDepth := 99) only [okNext, State.vecOp_ok]

theorem State.assignIn_ok {s : State} {f : Frame} (h0 : s.Ok q σ) : (State.assignIn s f).Ok q σ := by
  unfold State.assignIn
  repeat' split
  all_goals simp_all +contextual (maxDischargeDepth := 99) only [okIte, implies_true, State.sendLocal_ok,
      State.raise_ok, State.takeNum_ok]

theorem execAssignReceive_ok {k : Fin 4} {f : Frame} {s : State} (h2 : s.Ok q σ) : OkOut q σ
    (execAssignReceive k f s) := by
  unfold execAssignReceive
  repeat' split
  all_goals simp_all +contextual (maxDischargeDepth := 99) only [okNext, implies_true, State.discIn_ok,
      State.assignIn_ok]

theorem State.obsAdapt_ok {s : State} {n : Nat} {w : Int} (h0 : s.Ok q σ) : (State.obsAdapt s n w).Ok q σ := by
  unfold State.obsAdapt
  repeat' split
  all_goals simp_all +contextual (maxDischargeDepth := 99) only [okIte, implies_true, State.setMo_ok,
      State.setFld_ok, State.raise_ok]

theorem execDmaput_ok {a0 : TileRead} {a1 : State} (h1 : a1.Ok q σ) : OkOut q σ (execDmaput a0 a1) := by
  unfold execDmaput
  repeat' split
  all_goals simp_all +contextual (maxDischargeDepth := 99) only [okNext, State.dmaStart_ok]

theorem execVmLimitsWrite_ok {a : Acc} {w : Word} {s : State} (h2 : s.Ok q σ) : OkOut q σ
    (execVmLimitsWrite a w s) := by
  unfold execVmLimitsWrite
  repeat' split
  all_goals simp_all +contextual (maxDischargeDepth := 99) only [okNext, implies_true, State.mgrAccess_ok,
      State.vmLimits_ok]

theorem execDramRefresh_ok {c : Fin 2} {early behind : Bool} {waits : List (Fin 8 × BitVec 32)} {s : State}
    (h4 : s.Ok q σ) : OkOut q σ (execDramRefresh c early behind waits s) := by
  unfold execDramRefresh
  dsimp only
  rw [okNext]
  refine okFoldl (fun t w ht => ?_) (okSame h4)
  split
  · exact State.setRun_ok ht
  · exact ht

theorem execVmin_ok {t : Fin 64} {s : State} (h1 : s.Ok q σ) : OkOut q σ (execVmin t s) := by
  unfold execVmin
  repeat' split
  all_goals simp_all +contextual (maxDischargeDepth := 99) only [okNext, State.vecOp_ok]

theorem execWhTempCross_ok {hot : Bool} {vbakMv : Nat} {s : State} (h2 : s.Ok q (σ₀, none)) : OkOut q (σ₀, none)
    (execWhTempCross hot vbakMv s) := by
  unfold execWhTempCross
  repeat' split
  all_goals simp_all +contextual (maxDischargeDepth := 99) only [okNext, State.onWh_ok]

theorem execRestartsClear_ok {n : Fin 4} {s : State} (h1 : s.Ok q σ) : OkOut q σ (execRestartsClear n s) := by
  unfold execRestartsClear
  repeat' split
  all_goals simp_all +contextual (maxDischargeDepth := 99) only [okNext, State.setFld_ok]

theorem execFaultNUpdate_ok {s : State} (h0 : s.Ok q σ) : OkOut q σ (execFaultNUpdate s) := by
  unfold execFaultNUpdate
  repeat' split
  all_goals simp_all +contextual (maxDischargeDepth := 99) only [okMk, okFold, okNext, State.setFld_ok,
      State.raise_ok]

theorem execAcceptMainPower_ok {s : State} (h0 : s.Ok q (σ₀, none)) : OkOut q (σ₀, none) (execAcceptMainPower s) := by
  unfold execAcceptMainPower
  repeat' split
  all_goals simp_all +contextual (maxDischargeDepth := 99) only [okNext, State.onWh_ok]

theorem execLaneSyncLoss_ok {a0 : LanesOff} {a1 : State} (h1 : a1.Ok q σ) : OkOut q σ (execLaneSyncLoss a0 a1) := by
  unfold execLaneSyncLoss
  repeat' split
  all_goals simp_all +contextual (maxDischargeDepth := 99) only [okIte, okFoldl, okNext, okIteOut, implies_true,
      State.setFld_ok, State.rxDrop_ok, State.setRx_ok, State.raise_ok]

theorem execHouseholdResetDone_ok {a0 : Fin 8} {s : State} (h1 : s.Ok q σ) : OkOut q σ
    (execHouseholdResetDone a0 s) := by
  unfold execHouseholdResetDone
  repeat' split
  all_goals simp_all +contextual (maxDischargeDepth := 99) only [okMk, okFold, okNext, State.raise_ok]

theorem execImpedanceProbeDone_ok {riseMv : Nat} {vbakMv : Nat} {s : State} (h2 : s.Ok q (σ₀, none)) : OkOut q
    (σ₀, none) (execImpedanceProbeDone riseMv vbakMv s) := by
  unfold execImpedanceProbeDone
  repeat' split
  all_goals simp_all +contextual (maxDischargeDepth := 99) only [okNext, State.onWh_ok]

theorem execSegmentFrameReceive_ok {k : Fin 4} {f : Frame} {s : State} (h2 : s.Ok q σ) : OkOut q σ
    (execSegmentFrameReceive k f s) := by
  unfold execSegmentFrameReceive
  repeat' split
  all_goals simp_all +contextual (maxDischargeDepth := 99) only [okNext, implies_true, State.linkAccept_ok,
      State.above_ok, State.toAgent_ok]

theorem State.wkProto_ok {s : State} {f : Fld} (h : s.Ok q σ) : (s.wkProto f).Ok q σ := by
  unfold State.wkProto
  refine okIte (fun _ => State.raise_ok ?_) (fun _ => State.bump_ok h)
  simp only [okMk, okFold]; exact State.bump_ok h

theorem execVcmpeq_ok {t : Fin 64} {s : State} (h1 : s.Ok q σ) : OkOut q σ (execVcmpeq t s) := by
  unfold execVcmpeq
  repeat' split
  all_goals simp_all +contextual (maxDischargeDepth := 99) only [okNext, State.vecCmp_ok]

theorem execTrigArmNow_ok {a : Acc} {w : Word} {s : State} (h2 : s.Ok q σ) : OkOut q σ (execTrigArmNow a w s) := by
  unfold execTrigArmNow
  repeat' split
  all_goals simp_all +contextual (maxDischargeDepth := 99) only [okNext, State.armAccess_ok]

theorem execReplayEnable_ok {a : Acc} {a1 : Fin 8} {w : Word} {s : State} (h3 : s.Ok q σ) : OkOut q σ
    (execReplayEnable a a1 w s) := by
  unfold execReplayEnable
  repeat' split
  all_goals simp_all +contextual (maxDischargeDepth := 99) only [okNext, State.after_ok, State.provAccess_ok]

theorem State.config_ok {s : State} {f : Nat} {req : CfgReq} (h0 : s.Ok q σ) : (State.config s f req).Ok q σ := by
  unfold State.config
  repeat' split
  all_goals simp_all +contextual (maxDischargeDepth := 99) only [okMk, okFold, State.answer_ok, State.flushMsgs_ok,
      State.setFunc_ok, State.setVfs_ok]

theorem execHostConfigRequest_ok {f : Fin 9} {req : CfgReq} {s : State} (h2 : s.Ok q σ) : OkOut q σ
    (execHostConfigRequest f req s) := by
  unfold execHostConfigRequest
  repeat' split
  all_goals simp_all +contextual (maxDischargeDepth := 99) only [okMk, okFold, okNext, State.config_ok,
      State.unsupported_ok]

theorem execTripNLow_ok {n : Fin 4} {low : Bool} {s : State} (h2 : s.Ok q σ) : OkOut q σ (execTripNLow n low s) := by
  unfold execTripNLow
  repeat' split
  all_goals simp_all +contextual (maxDischargeDepth := 99) only [okIte, okNext, implies_true, State.tripAct_ok,
      State.setGt_ok]

theorem execHhCtrlReset_ok {a : Acc} {a1 : Fin 8} {w : Word} {s : State} (h3 : s.Ok q σ) : OkOut q σ
    (execHhCtrlReset a a1 w s) := by
  unfold execHhCtrlReset
  repeat' split
  all_goals simp_all +contextual (maxDischargeDepth := 99) only [okNext, State.pageWrite_ok]

theorem execRunFirstIssue_ok {a0 : Fin 8} {s : State} (h1 : s.Ok q σ) : OkOut q σ (execRunFirstIssue a0 s) := by
  unfold execRunFirstIssue
  repeat' split
  all_goals simp_all +contextual (maxDischargeDepth := 99) only [okIte, okFoldl, okNext, implies_true,
      State.tileState_ok, State.setRun_ok]

theorem execWicketAccessComplete_ok {s : State} (h0 : s.Ok q σ) : OkOut q σ (execWicketAccessComplete s) := by
  unfold execWicketAccessComplete
  repeat' split
  all_goals simp_all +contextual (maxDischargeDepth := 99) only [okNext, implies_true, State.mxComplete_ok,
      State.hhRequest_ok]

theorem execAxisEnable_ok {a : Acc} {k : Fin 6} {w : Word} {s : State} (h3 : s.Ok q σ) : OkOut q σ
    (execAxisEnable a k w s) := by
  unfold execAxisEnable
  repeat' split
  all_goals simp_all +contextual (maxDischargeDepth := 99) only [okNext, implies_true, State.access_ok,
      State.axisWrite_ok]

theorem execVcpUvCross_ok {below : Bool} {s : State} (h1 : s.Ok q σ) : OkOut q σ (execVcpUvCross below s) := by
  unfold execVcpUvCross
  repeat' split
  all_goals simp_all +contextual (maxDischargeDepth := 99) only [okMk, okFold, okNext, State.vcpAct_ok]

theorem execInterlockRelease_ok {n : Fin 4} {sw : Fin 6} {s : State} (h2 : s.Ok q σ) : OkOut q σ
    (execInterlockRelease n sw s) := by
  unfold execInterlockRelease
  repeat' split
  all_goals simp_all +contextual (maxDischargeDepth := 99) only [okNext, okIteOut, implies_true, State.setGt_ok,
      State.raise_ok, State.bump_ok, State.swOn_ok]

theorem execMotorOffsetCal_ok {a : Acc} {n : Fin 4} {s : State} (h2 : s.Ok q σ) : OkOut q σ
    (execMotorOffsetCal a n s) := by
  unfold execMotorOffsetCal
  repeat' split
  all_goals simp_all +contextual (maxDischargeDepth := 99) only [okNext, implies_true, State.access_ok,
      State.offsetCal_ok]

theorem State.pushPort_ok {s : State} {i : Instr} {a : Acc} {n : Nat} {agent : Nat} {off : Nat} {room : Nat}
    {last : Bool} {data : List Byte} {poisoned : Bool} (h0 : s.Ok q σ) :
    (State.pushPort s i a n agent off room last data poisoned).Ok q σ := by
  unfold State.pushPort
  repeat' split
  all_goals simp_all +contextual (maxDischargeDepth := 99) only [okMk, okFold, okIte, implies_true,
      State.portAccess_ok, State.qPush_ok]

theorem execQueuePush_ok {a : Acc} {a1 : Fin 256} {agent : Fin 8} {off : Fin 4096} {data : List Byte}
    {poisoned : Bool} {s : State} (h6 : s.Ok q σ) : OkOut q σ (execQueuePush a a1 agent off data poisoned s) := by
  unfold execQueuePush
  repeat' split
  all_goals simp_all +contextual (maxDischargeDepth := 99) only [okNext, State.after_ok, State.pushPort_ok]

theorem execBlt_ok {t : Fin 64} {s : State} (h1 : s.Ok q σ) : OkOut q σ (execBlt t s) := by
  unfold execBlt
  repeat' split
  all_goals simp_all +contextual (maxDischargeDepth := 99) only [okNext, State.branch_ok]

theorem execConstJoin_ok {a : Acc} {s : State} (h1 : s.Ok q σ) : OkOut q σ (execConstJoin a s) := by
  unfold execConstJoin
  repeat' split
  all_goals simp_all +contextual (maxDischargeDepth := 99) only [okNext, implies_true, State.mgrAccess_ok,
      State.constCtrl_ok]

theorem execSlotAbort_ok {a : Acc} {k : Fin 16} {s : State} (h2 : s.Ok q σ) : OkOut q σ (execSlotAbort a k s) := by
  unfold execSlotAbort
  repeat' split
  all_goals simp_all +contextual (maxDischargeDepth := 99) only [okNext, State.ctrlAccess_ok]

theorem execAlmDistArmReceive_ok {k : Fin 4} {f : Frame} {s : State} (h2 : s.Ok q σ) : OkOut q σ
    (execAlmDistArmReceive k f s) := by
  unfold execAlmDistArmReceive
  repeat' split
  all_goals simp_all +contextual (maxDischargeDepth := 99) only [okNext, State.almFrameIn_ok]

end Sys2Proof.Machine
end

