-- ==== Sys2Proof/Laws/Keeps6.lean ====
section
/-!
SUPPORT. Part 6 of what every operation and every command keeps, in the order in which they rest on each other.
-/

namespace Sys2Proof.Machine

variable {q : List Instr} {σ : Silicon × Option Weigh} {σ₀ : Silicon}

theorem State.announceIn_ok {s : State} {k : Nat} {f : Frame} (h0 : s.Ok q σ) : (State.announceIn s k f).Ok q σ := by
  unfold State.announceIn
  repeat' split
  all_goals simp_all +contextual (maxDischargeDepth := 99) only [okMk, okFold, State.setFld_ok, State.elect_ok,
      State.showTree_ok]

theorem execSummaryNotifyReceive_ok {s : State} (h0 : s.Ok q σ) : OkOut q σ (execSummaryNotifyReceive s) := by
  unfold execSummaryNotifyReceive
  repeat' split
  all_goals simp_all +contextual (maxDischargeDepth := 99) only [okMk, okFold, okIte, okFoldl, okNext, implies_true,
      State.signal_ok]

theorem execWhReadKey_ok {tag : BitVec 8} {s : State} (h1 : s.Ok q (σ₀, none)) : OkOut q (σ₀, none)
    (execWhReadKey tag s) := by
  unfold execWhReadKey
  repeat' split
  all_goals simp_all +contextual (maxDischargeDepth := 99) only [okNext, implies_true, State.whServe_ok,
      State.whAnswer_ok]

theorem execSpillWriteDone_ok {a0 : Fin 256} {status : Fin 8} {s : State} (h2 : s.Ok q σ) : OkOut q σ
    (execSpillWriteDone a0 status s) := by
  unfold execSpillWriteDone
  repeat' split
  all_goals simp_all +contextual (maxDischargeDepth := 99) only [okNext, State.releaseCredits_ok,
      State.spillWritten_ok]

theorem State.offerEntry_ok {s : State} {k : Nat} {e : AlmEntry} {node : Nat} (h0 : s.Ok q σ) :
    (State.offerEntry s k e node).Ok q σ := by
  unfold State.offerEntry
  repeat' split
  all_goals simp_all +contextual (maxDischargeDepth := 99) only [State.offer_ok]

theorem execAlmLock_ok {k : Fin 64} {s : State} (h1 : s.Ok q σ) : OkOut q σ (execAlmLock k s) := by
  unfold execAlmLock
  repeat' split
  all_goals simp_all +contextual (maxDischargeDepth := 99) only [okFoldl, okNext, okIteOut, implies_true,
      State.offerEntry_ok, State.setAlm_ok]

theorem execDbgRst_ok {s : State} (h0 : s.Ok q σ) : OkOut q σ (execDbgRst s) := by
  unfold execDbgRst
  repeat' split
  all_goals simp_all +contextual (maxDischargeDepth := 99) only [okNext, State.endSession_ok, State.wkForget_ok]

theorem State.mbReady_ok {s : State} {a1 : Nat} {m : Nat} (h0 : s.Ok q σ) : (State.mbReady s a1 m).Ok q σ := by
  unfold State.mbReady
  repeat' split
  all_goals simp_all +contextual (maxDischargeDepth := 99) only [okIte, implies_true, State.setMb_ok, State.raise_ok,
      State.signal_ok]

theorem execXor_ok {t : Fin 64} {s : State} (h1 : s.Ok q σ) : OkOut q σ (execXor t s) := by
  unfold execXor
  repeat' split
  all_goals simp_all +contextual (maxDischargeDepth := 99) only [okNext, State.salu_ok]

theorem execEvtPendClear_ok {a : Acc} {page : Fin 512} {w : Word} {s : State} (h3 : s.Ok q σ) : OkOut q σ
    (execEvtPendClear a page w s) := by
  unfold execEvtPendClear
  repeat' split
  all_goals simp_all +contextual (maxDischargeDepth := 99) only [okNext, implies_true, State.access_ok,
      State.pendClear_ok]

theorem execVbakCommitCross_ok {s : State} (h0 : s.Ok q (σ₀, none)) : OkOut q (σ₀, none) (execVbakCommitCross s) := by
  unfold execVbakCommitCross
  repeat' split
  all_goals simp_all +contextual (maxDischargeDepth := 99) only [okNext, State.onWh_ok]

theorem execTakeRetry_ok {a0 : Fin 8} {s : State} (h1 : s.Ok q σ) : OkOut q σ (execTakeRetry a0 s) := by
  unfold execTakeRetry
  repeat' split
  all_goals simp_all +contextual (maxDischargeDepth := 99) only [okNext, State.portTake_ok]

theorem State.candLost_ok {s : State} {sel : Nat} {v : CandView} (h0 : s.Ok q σ) :
    (State.candLost s sel v).Ok q σ := by
  unfold State.candLost
  repeat' split
  all_goals simp_all +contextual (maxDischargeDepth := 99) only [State.raise_ok]

theorem execWhbGo_ok {a : Acc} {w : Word} {s : State} (h2 : s.Ok q σ) : OkOut q σ (execWhbGo a w s) := by
  unfold execWhbGo
  repeat' split
  all_goals simp_all +contextual (maxDischargeDepth := 99) only [okNext, implies_true, State.access_ok,
      State.reqCtrl_ok]

theorem execOr_ok {t : Fin 64} {s : State} (h1 : s.Ok q σ) : OkOut q σ (execOr t s) := by
  unfold execOr
  repeat' split
  all_goals simp_all +contextual (maxDischargeDepth := 99) only [okNext, State.salu_ok]

theorem execRegisterWrite_ok {a : Acc} {addr : BitVec 48} {wide : Bool} {v : BitVec 64} {s : State} (h4 : s.Ok q σ)
    : OkOut q σ (execRegisterWrite a addr wide v s) := by
  unfold execRegisterWrite
  repeat' split
  all_goals simp_all +contextual (maxDischargeDepth := 99) only [okNext, State.after_ok, State.anyAccess_ok]

theorem execQueueHeldRead_ok {a : Acc} {port : Bool} {a2 : Fin 256} {off : Fin 1024} {words : Fin 65} {s : State}
    (h5 : s.Ok q σ) : OkOut q σ (execQueueHeldRead a port a2 off words s) := by
  unfold execQueueHeldRead
  repeat' split
  all_goals simp_all +contextual (maxDischargeDepth := 99) only [okNext, implies_true, State.heldAccess_ok,
      State.heldRead_ok]

theorem State.dramServe_ok {s : State} {c : Nat} (h0 : s.Ok q σ) : (State.dramServe s c).Ok q σ := by
  unfold State.dramServe
  repeat' split
  all_goals simp_all +contextual (maxDischargeDepth := 99) only [okMk, okFold, State.dramCount_ok,
      State.serveExcess_ok]

theorem State.dramCorrected_ok {s : State} {c : Nat} (h0 : s.Ok q σ) : (State.dramCorrected s c).Ok q σ := by
  unfold State.dramCorrected
  repeat' split
  all_goals simp_all +contextual (maxDischargeDepth := 99) only [okMk, okFold, State.raise_ok]

theorem execDramRequestServe_ok {a0 : DramServe} {a1 : State} (h1 : a1.Ok q σ) : OkOut q σ
    (execDramRequestServe a0 a1) := by
  unfold execDramRequestServe
  repeat' split
  all_goals simp_all +contextual (maxDischargeDepth := 99) only [okNext, State.dramServe_ok, State.dramCorrected_ok]

theorem State.retry_ok {s : State} {n : Nat} (h0 : s.Ok q σ) : (State.retry s n).Ok q σ := by
  unfold State.retry
  repeat' split
  all_goals simp_all +contextual (maxDischargeDepth := 99) only [okFoldl, implies_true, State.tryOn_ok]

theorem State.gatePeriod_ok {s : State} {n : Nat} (h0 : s.Ok q σ) : (State.gatePeriod s n).Ok q σ := by
  unfold State.gatePeriod
  repeat' split
  all_goals simp_all +contextual (maxDischargeDepth := 99) only [okIte, implies_true, State.modMo_ok, State.setGt_ok,
      State.setFld_ok, State.tripLatch_ok, State.retry_ok]

theorem State.takePeriod_ok {s : State} {n : Nat} {b : Nat} (h0 : s.Ok q σ) : (State.takePeriod s n b).Ok q σ := by
  unfold State.takePeriod
  repeat' split
  all_goals simp_all +contextual (maxDischargeDepth := 99) only [okIte, implies_true, State.setPw_ok,
      State.setPair_ok, State.clampBit_ok]

theorem State.adaptDeadTime_ok {s : State} {n : Nat} (h0 : s.Ok q σ) : (State.adaptDeadTime s n).Ok q σ := by
  unfold State.adaptDeadTime
  repeat' split
  all_goals simp_all +contextual (maxDischargeDepth := 99) only [okIte, implies_true, State.setPw_ok,
      State.setFld_ok, State.raise_ok]

theorem execPwmPeriodStart_ok {n : Fin 4} {s : State} (h1 : s.Ok q σ) : OkOut q σ (execPwmPeriodStart n s) := by
  unfold execPwmPeriodStart
  repeat' split
  all_goals simp_all +contextual (maxDischargeDepth := 99) only [okNext, State.holdBack_ok, State.gatePeriod_ok,
      State.takePeriod_ok, State.periodBoundary_ok, State.adaptDeadTime_ok]

theorem execMotorFaultClr_ok {a : Acc} {n : Fin 4} {s : State} (h2 : s.Ok q σ) : OkOut q σ
    (execMotorFaultClr a n s) := by
  unfold execMotorFaultClr
  repeat' split
  all_goals simp_all +contextual (maxDischargeDepth := 99) only [okNext, implies_true, State.access_ok,
      State.faultClr_ok]

theorem execSst_ok {t : Fin 64} {s : State} (h1 : s.Ok q σ) : OkOut q σ (execSst t s) := by
  unfold execSst
  repeat' split
  all_goals simp_all +contextual (maxDischargeDepth := 99) only [okNext, State.store_ok]

theorem execShl_ok {t : Fin 64} {s : State} (h1 : s.Ok q σ) : OkOut q σ (execShl t s) := by
  unfold execShl
  repeat' split
  all_goals simp_all +contextual (maxDischargeDepth := 99) only [okNext, State.salu_ok]

theorem execItemFrameReceive_ok {k : Fin 4} {f : Frame} {s : State} (h2 : s.Ok q σ) : OkOut q σ
    (execItemFrameReceive k f s) := by
  unfold execItemFrameReceive
  repeat' split
  all_goals simp_all +contextual (maxDischargeDepth := 99) only [okNext, implies_true, State.linkAccept_ok,
      State.above_ok, State.toAgent_ok]

theorem execItemTimeout_ok {a0 : Fin 256} {s : State} (h1 : s.Ok q σ) : OkOut q σ (execItemTimeout a0 s) := by
  unfold execItemTimeout
  repeat' split
  all_goals simp_all +contextual (maxDischargeDepth := 99) only [okNext, State.after_ok, State.qAbandon_ok]

theorem execProtectionLimitWrite_ok {a : Acc} {page : Fin 512} {off : Fin 1024} {w : Word} {s : State}
    (h4 : s.Ok q σ) : OkOut q σ (execProtectionLimitWrite a page off w s) := by
  unfold execProtectionLimitWrite
  repeat' split
  all_goals simp_all +contextual (maxDischargeDepth := 99) only [okNext, implies_true, State.access_ok,
      State.driveWrite_ok]

theorem execEphemSample_ok {s : State} (h0 : s.Ok q σ) : OkOut q σ (execEphemSample s) := by
  unfold execEphemSample
  repeat' split
  all_goals simp_all +contextual (maxDischargeDepth := 99) only [okNext, okIteOut, implies_true, State.setEph_ok]

theorem execAddi_ok {t : Fin 64} {s : State} (h1 : s.Ok q σ) : OkOut q σ (execAddi t s) := by
  unfold execAddi
  repeat' split
  all_goals simp_all +contextual (maxDischargeDepth := 99) only [okNext, State.saluImm_ok]

theorem execTargetTimeout_ok {k : Nat} {s : State} (h1 : s.Ok q σ) : OkOut q σ (execTargetTimeout k s) := by
  unfold execTargetTimeout
  repeat' split
  all_goals simp_all +contextual (maxDischargeDepth := 99) only [okMk, okFold, okNext, State.mxSettle_ok,
      State.mxFinish_ok, State.raiseBy_ok]

theorem State.calSample_ok {s : State} {n : Nat} {codes : List Nat} (h0 : s.Ok q σ) :
    (State.calSample s n codes).Ok q σ := by
  unfold State.calSample
  repeat' split
  all_goals simp_all +contextual (maxDischargeDepth := 99) only [State.modMo_ok]

theorem execNop_ok {t : Fin 64} {s : State} (h1 : s.Ok q σ) : OkOut q σ (execNop t s) := by
  unfold execNop
  repeat' split
  all_goals simp_all +contextual (maxDischargeDepth := 99) only [okNext, State.issueRegs_ok]

theorem execRedTimeout_ok {a0 : Fin 8} {s : State} (h1 : s.Ok q σ) : OkOut q σ (execRedTimeout a0 s) := by
  unfold execRedTimeout
  repeat' split
  all_goals simp_all +contextual (maxDischargeDepth := 99) only [okNext, State.runFail_ok, State.raiseBy_ok]

theorem execQueueReleaseHeld_ok {a : Acc} {port : Bool} {a2 : Fin 256} {s : State} (h3 : s.Ok q σ) : OkOut q σ
    (execQueueReleaseHeld a port a2 s) := by
  unfold execQueueReleaseHeld
  repeat' split
  all_goals simp_all +contextual (maxDischargeDepth := 99) only [okNext, implies_true, State.heldAccess_ok,
      State.releaseHeld_ok]

theorem execMailboxReady_ok {a0 : Fin 8} {m : Fin 16} {s : State} (h2 : s.Ok q σ) : OkOut q σ
    (execMailboxReady a0 m s) := by
  unfold execMailboxReady
  repeat' split
  all_goals simp_all +contextual (maxDischargeDepth := 99) only [okNext, State.after_ok, State.mbReady_ok]

theorem execVdot4u_ok {t : Fin 64} {s : State} (h1 : s.Ok q σ) : OkOut q σ (execVdot4u t s) := by
  unfold execVdot4u
  repeat' split
  all_goals simp_all +contextual (maxDischargeDepth := 99) only [okNext, State.vecOp_ok]

theorem execTileSramAccess_ok {a : Acc} {t : Fin 64} {off : BitVec 18} {write : Bool} {words : Fin 65}
    {data : List Byte} {s : State} (h6 : s.Ok q σ) : OkOut q σ (execTileSramAccess a t off write words data s) := by
  unfold execTileSramAccess
  repeat' split
  all_goals simp_all +contextual (maxDischargeDepth := 99) only [okNext, State.sramAccess_ok]

theorem execSredImin_ok {t : Fin 64} {s : State} (h1 : s.Ok q σ) : OkOut q σ (execSredImin t s) := by
  unfold execSredImin
  repeat' split
  all_goals simp_all +contextual (maxDischargeDepth := 99) only [okNext, State.reduce_ok]

theorem execPacketInject_ok {r : Fin 30} {agent : Fin 8} {w0 : BitVec 64} {w1 : BitVec 64} {w2 : BitVec 64}
    {w3 : BitVec 64} {flits : List (BitVec 256)} {s : State} (h7 : s.Ok q σ) : OkOut q σ
    (execPacketInject r agent w0 w1 w2 w3 flits s) := by
  unfold execPacketInject
  repeat' split
  all_goals simp_all +contextual (maxDischargeDepth := 99) only [okMk, okFold, okIte, okNext, okIteOut, implies_true,
      State.offer_ok]

theorem execVadd_ok {t : Fin 64} {s : State} (h1 : s.Ok q σ) : OkOut q σ (execVadd t s) := by
  unfold execVadd
  repeat' split
  all_goals simp_all +contextual (maxDischargeDepth := 99) only [okNext, State.vecOp_ok]

theorem execWicketAuth_ok {arg : Fin 16} {mac : BitVec 256} {s : State} (h2 : s.Ok q σ) : OkOut q σ
    (execWicketAuth arg mac s) := by
  unfold execWicketAuth
  repeat' split
  all_goals simp_all +contextual (maxDischargeDepth := 99) only [okMk, okFold, okIte, okNext, implies_true,
      State.wk_ok, State.wkFault_ok]

theorem execMapReceive_ok {k : Fin 4} {f : Frame} {s : State} (h2 : s.Ok q σ) : OkOut q σ (execMapReceive k f s) := by
  unfold execMapReceive
  repeat' split
  all_goals simp_all +contextual (maxDischargeDepth := 99) only [okNext, implies_true, State.discIn_ok,
      State.mapIn_ok]

theorem execHallTransition_ok {n : Fin 4} {code : Fin 8} {s : State} (h2 : s.Ok q σ) : OkOut q σ
    (execHallTransition n code s) := by
  unfold execHallTransition
  repeat' split
  all_goals simp_all +contextual (maxDischargeDepth := 99) only [okNext, okIteOut, implies_true, State.setMo_ok]

theorem execRspTimeout_ok {r : Fin 30} {agent : Fin 8} {tag : Fin 256} {s : State} (h3 : s.Ok q σ) : OkOut q σ
    (execRspTimeout r agent tag s) := by
  unfold execRspTimeout
  repeat' split
  all_goals (try dsimp only)
  repeat' split
  all_goals simp_all +contextual (maxDischargeDepth := 99) only [okNext, State.rspTimeout_ok]
  all_goals (repeat' split)
  all_goals simp_all +contextual (maxDischargeDepth := 99) only [State.tl_wf (q := q) (σ := σ), TileSt.put_wf,
      Tab.wf_keep, TileSt.reset_wf, okMk, okFold, okIte, okFoldl, okNext, okIteOut, okSome, okNone, implies_true,
      State.rspTimeout_ok]

theorem execVld_ok {a0 : TileRead} {a1 : State} (h1 : a1.Ok q σ) : OkOut q σ (execVld a0 a1) := by
  unfold execVld
  repeat' split
  all_goals simp_all +contextual (maxDischargeDepth := 99) only [okNext, State.load_ok]

theorem execReductionResult_ok {a0 : Fin 8} {a1 : List (List (BitVec 64))} {a2 : RefReport} {a3 : BitVec 32}
    {a4 : Bool} {a5 : State} (h5 : a5.Ok q σ) : OkOut q σ (execReductionResult a0 a1 a2 a3 a4 a5) := by
  unfold execReductionResult
  repeat' split
  all_goals simp_all +contextual (maxDischargeDepth := 99) only [okNext, State.setRun_ok, State.heardHalt_ok,
      State.crossed_ok, State.resume_ok]

theorem execVsel_ok {t : Fin 64} {s : State} (h1 : s.Ok q σ) : OkOut q σ (execVsel t s) := by
  unfold execVsel
  repeat' split
  all_goals simp_all +contextual (maxDischargeDepth := 99) only [okNext, State.issueRegs_ok]

theorem execRtcStop_ok {s : State} (h0 : s.Ok q (σ₀, none)) : OkOut q (σ₀, none) (execRtcStop s) := by
  unfold execRtcStop
  repeat' split
  all_goals simp_all +contextual (maxDischargeDepth := 99) only [okNext, State.onWh_ok]

theorem execTrigFire_ok {k : Fin 32} {s : State} (h1 : s.Ok q σ) : OkOut q σ (execTrigFire k s) := by
  unfold execTrigFire
  repeat' split
  all_goals (try dsimp only)
  repeat' split
  all_goals simp_all +contextual (maxDischargeDepth := 99) only [okNext, State.fireTest_ok, State.forceDue_ok]
  all_goals (repeat' split)
  all_goals simp_all +contextual (maxDischargeDepth := 99) only [State.tl_wf (q := q) (σ := σ), TileSt.put_wf,
      Tab.wf_keep, TileSt.reset_wf, okMk, okFold, okIte, okFoldl, okNext, okIteOut, okSome, okNone, implies_true,
      State.fireTest_ok, State.forceDue_ok]

theorem execBreakpointHit_ok {t : Fin 64} {s : State} (h : s.Ok q σ) : OkOut q σ (execBreakpointHit t s) := by
  unfold execBreakpointHit
  repeat' split
  all_goals rw [okNext]
  · exact h
  · exact State.bpHit_ok h (State.issuing_wf h ‹_›)
  · exact h

theorem execMatrixGrant_ok {a0 : Grant} {a1 : State} (h1 : a1.Ok q σ) : OkOut q σ (execMatrixGrant a0 a1) := by
  unfold execMatrixGrant
  repeat' split
  all_goals simp_all +contextual (maxDischargeDepth := 99) only [okMk, okFold, okNext, State.mxSettle_ok,
      State.mxFinish_ok, State.raiseBy_ok, State.mxIssue_ok]

theorem State.lateRead_ok {s : State} (h : s.Ok q σ) : OkOpt q σ s.lateRead := by
  unfold State.lateRead
  split
  · rw [okNone]; trivial
  · split
    · rw [okNone]; trivial
    · rename_i c rest _
      have k : State.Ok q σ { s with host := { s.host with late := rest } } := by
        simp only [okMk, okFold]; exact h
      rw [okSome]
      refine State.nocBump_ok ?_
      cases c
      case hostMemRead f two off n _ =>
        have := State.barAccess_ok (i := .hostMemRead f two off n) (f := f) (two := two) (off := off.toNat) (n := n)
            (write := false) (data := []) k
        rw [okMk]
        exact ⟨this.1, this.2, this.3, this.4, this.5, this.6, this.7, this.8, this.9, this.10, this.11⟩
      all_goals (rw [okMk]; exact ⟨h.1, h.2, h.3, h.4, h.5, h.6, h.7, h.8, h.9, h.10, h.11⟩)

theorem State.idle_ok {s : State} (h : s.Ok q (σ₀, none)) : s.idle.Ok q (σ₀, none) := by
  unfold State.idle
  split
  · exact State.mxComplete_ok (fun t n ht => State.hhRequest_ok ht) h
  · split
    · exact State.lateRead_ok h _ ‹_›
    · exact State.tick_ok h

theorem execRingEnable_ok {a : Acc} {via : Option (Fin 8)} {k : Fin 64} {w : Word} {s : State} (h4 : s.Ok q σ)
    : OkOut q σ (execRingEnable a via k w s) := by
  unfold execRingEnable
  repeat' split
  all_goals simp_all +contextual (maxDischargeDepth := 99) only [okNext, State.ringAccess_ok]

theorem State.diagEnd_ok {s : State} {n : Nat} (h0 : s.Ok q σ) : (State.diagEnd s n).Ok q σ := by
  unfold State.diagEnd
  repeat' split
  all_goals simp_all +contextual (maxDischargeDepth := 99) only [okIte, implies_true, State.raise_ok,
      State.setFld_ok, State.setGt_ok, State.motorFault_ok, State.setMotorState_ok]

theorem execDiagStepEnd_ok {n : Fin 4} {u : Nat} {v : Nat} {w : Nat} {s : State} (h4 : s.Ok q σ) : OkOut q σ
    (execDiagStepEnd n u v w s) := by
  unfold execDiagStepEnd
  repeat' split
  all_goals simp_all +contextual (maxDischargeDepth := 99) only [okNext, okIteOut, implies_true,
      State.diagVerdict_ok, State.diagEnd_ok, State.modGt_ok]

theorem State.decision_ok {s : State} {p : Nat} {credit : Bool} {fail : Option (PopFail × Nat)} (h0 : s.Ok q σ) :
    (State.decision s p credit fail).Ok q σ := by
  unfold State.decision
  repeat' split
  all_goals (try dsimp only)
  repeat' split
  all_goals simp_all +contextual (maxDischargeDepth := 99) only [State.serveList_ok]
  all_goals (repeat' split)
  all_goals simp_all +contextual (maxDischargeDepth := 99) only [State.tl_wf (q := q) (σ := σ), TileSt.put_wf,
      Tab.wf_keep, TileSt.reset_wf, okMk, okFold, okIte, okFoldl, okNext, okIteOut, okSome, okNone, implies_true,
      State.serveList_ok]

theorem execVrnd_ok {t : Fin 64} {s : State} (h1 : s.Ok q σ) : OkOut q σ (execVrnd t s) := by
  unfold execVrnd
  repeat' split
  all_goals simp_all +contextual (maxDischargeDepth := 99) only [okNext, implies_true, State.issue_ok,
      State.retire_ok]

theorem execMeterEdge_ok {ch : Fin 2} {la : Bool} {lb : Bool} {s : State} (h3 : s.Ok q (σ₀, none)) : OkOut q
    (σ₀, none) (execMeterEdge ch la lb s) := by
  unfold execMeterEdge
  repeat' split
  all_goals simp_all +contextual (maxDischargeDepth := 99) only [okMkAny, okFoldAny, okNext]

theorem execRingHeadWrite_ok {a : Acc} {via : Option (Fin 8)} {k : Fin 64} {w : Word} {s : State} (h4 : s.Ok q σ)
    : OkOut q σ (execRingHeadWrite a via k w s) := by
  unfold execRingHeadWrite
  repeat' split
  all_goals simp_all +contextual (maxDischargeDepth := 99) only [okNext, State.ringAccess_ok]

theorem execEvtForce_ok {a : Acc} {page : Fin 512} {w : Word} {s : State} (h3 : s.Ok q σ) : OkOut q σ
    (execEvtForce a page w s) := by
  unfold execEvtForce
  repeat' split
  all_goals simp_all +contextual (maxDischargeDepth := 99) only [okNext, implies_true, State.access_ok,
      State.evtForce_ok]

theorem execAuthLockoutEnd_ok {s : State} (h0 : s.Ok q σ) : OkOut q σ (execAuthLockoutEnd s) := by
  unfold execAuthLockoutEnd
  repeat' split
  all_goals simp_all +contextual (maxDischargeDepth := 99) only [okNext, State.setFld_ok]

theorem execReplayTimeout_ok {k : Fin 4} {s : State} (h1 : s.Ok q σ) : OkOut q σ (execReplayTimeout k s) := by
  unfold execReplayTimeout
  repeat' split
  all_goals simp_all +contextual (maxDischargeDepth := 99) only [okNext, State.startReplay_ok]

theorem execDiagGo_ok {a : Acc} {n : Fin 4} {s : State} (h2 : s.Ok q σ) : OkOut q σ (execDiagGo a n s) := by
  unfold execDiagGo
  repeat' split
  all_goals simp_all +contextual (maxDischargeDepth := 99) only [okNext, implies_true, State.access_ok,
      State.diagGo_ok]

theorem execVreq_ok {t : Fin 64} {s : State} (h1 : s.Ok q σ) : OkOut q σ (execVreq t s) := by
  unfold execVreq
  repeat' split
  all_goals simp_all +contextual (maxDischargeDepth := 99) only [okNext, State.issueRegs_ok]

theorem execSegmentExpire_ok {s : State} (h0 : s.Ok q σ) : OkOut q σ (execSegmentExpire s) := by
  unfold execSegmentExpire
  split
  · rw [okNext]; exact h0
  · dsimp only
    exact okIteOut (fun _ => by rw [okNext]; exact h0) (fun _ => by rw [okNext]; exact State.segExpire_ok h0)

theorem execVcStall_ok {r : Fin 30} {port : Fin 5} {vc : Fin 6} {s : State} (h3 : s.Ok q σ) : OkOut q σ
    (execVcStall r port vc s) := by
  unfold execVcStall
  repeat' split
  all_goals simp_all +contextual (maxDischargeDepth := 99) only [okMk, okFold, okNext, okIteOut, implies_true,
      State.setFld_ok, State.routerErr_ok]

theorem execDmaComplete_ok {t : Fin 64} {leaf : Fin 64} {s : State} (h2 : s.Ok q σ) : OkOut q σ
    (execDmaComplete t leaf s) := by
  unfold execDmaComplete
  repeat' split
  all_goals (try dsimp only)
  repeat' split
  all_goals simp_all +contextual (maxDischargeDepth := 99) only [State.tl_wf (q := q) (σ := σ), TileSt.put_wf,
      okNext, State.dramDone_ok, State.dramStore_ok, State.dramFetch_ok, State.setTl_ok, State.retire_ok]
  all_goals (repeat' split)
  all_goals simp_all +contextual (maxDischargeDepth := 99) only [State.tl_wf (q := q) (σ := σ), TileSt.put_wf,
      Tab.wf_keep, TileSt.reset_wf, okMk, okFold, okIte, okFoldl, okNext, okIteOut, okSome, okNone, implies_true,
      State.dramDone_ok, State.dramStore_ok, State.dramFetch_ok, State.setTl_ok, State.retire_ok]

theorem execWhbFrameBadCrc_ok {toCore : Bool} {s : State} (h1 : s.Ok q (σ₀, none)) : OkOut q (σ₀, none)
    (execWhbFrameBadCrc toCore s) := by
  unfold execWhbFrameBadCrc
  repeat' split
  all_goals simp_all +contextual (maxDischargeDepth := 99) only [okMkAny, okFoldAny, okNext, State.bump_ok]

theorem execDirectTestEnd_ok {n : Fin 4} {s : State} (h1 : s.Ok q σ) : OkOut q σ (execDirectTestEnd n s) := by
  unfold execDirectTestEnd
  repeat' split
  all_goals simp_all +contextual (maxDischargeDepth := 99) only [okNext, State.commands_ok, State.setGt_ok]

theorem execFacetIndexEdge_ok {n : Fin 4} {s : State} (h1 : s.Ok q σ) : OkOut q σ (execFacetIndexEdge n s) := by
  unfold execFacetIndexEdge
  repeat' split
  all_goals (try dsimp only)
  repeat' split
  all_goals simp_all +contextual (maxDischargeDepth := 99) only [okNext, State.modMo_ok, State.facetMeasure_ok]
  all_goals (repeat' split)
  all_goals simp_all +contextual (maxDischargeDepth := 99) only [State.tl_wf (q := q) (σ := σ), TileSt.put_wf,
      Tab.wf_keep, TileSt.reset_wf, okMk, okFold, okIte, okFoldl, okNext, okIteOut, okSome, okNone, implies_true,
      State.modMo_ok, State.facetMeasure_ok]

theorem execHostMemWrite_ok {f : Fin 9} {two : Bool} {off : BitVec 26} {data : List Byte} {poisoned : Bool}
    {s : State} (h5 : s.Ok q σ) : OkOut q σ (execHostMemWrite f two off data poisoned s) := by
  unfold execHostMemWrite
  repeat' split
  all_goals simp_all +contextual (maxDischargeDepth := 99) only [okMk, okFold, okNext, State.unsupported_ok,
      State.bump_ok, State.raiseBy_ok, State.barAccess_ok]

theorem execVltreeImin_ok {t : Fin 64} {s : State} (h1 : s.Ok q σ) : OkOut q σ (execVltreeImin t s) := by
  unfold execVltreeImin
  repeat' split
  all_goals simp_all +contextual (maxDischargeDepth := 99) only [okNext, State.laneTree_ok]

theorem execStrapSample_ok {s1 : BitVec 12} {s2 : BitVec 12} {s3 : BitVec 12} {s : State} (h3 : s.Ok q σ)
    : OkOut q σ (execStrapSample s1 s2 s3 s) := by
  unfold execStrapSample
  repeat' split
  all_goals simp_all +contextual (maxDischargeDepth := 99) only [okIte, okNext, implies_true, State.latchStraps_ok,
      State.strapRef_ok]

theorem execVand_ok {t : Fin 64} {s : State} (h1 : s.Ok q σ) : OkOut q σ (execVand t s) := by
  unfold execVand
  repeat' split
  all_goals simp_all +contextual (maxDischargeDepth := 99) only [okNext, State.vecOp_ok]

theorem execSyncReceive_ok {k : Fin 4} {f : Frame} {start : BitVec 64} {s : State} (h3 : s.Ok q σ) : OkOut q σ
    (execSyncReceive k f start s) := by
  unfold execSyncReceive
  repeat' split
  all_goals simp_all +contextual (maxDischargeDepth := 99) only [okNext, implies_true, State.linkAccept_ok,
      State.syncIn_ok]

theorem execWicketCrcFault_ok {framed : Bool} {s : State} (h1 : s.Ok q σ) : OkOut q σ
    (execWicketCrcFault framed s) := by
  unfold execWicketCrcFault
  repeat' split
  all_goals simp_all +contextual (maxDischargeDepth := 99) only [okNext, implies_true, State.wk_ok, State.wkProto_ok,
      State.wkFault_ok]

theorem execWicketChallenge_ok {s : State} (h0 : s.Ok q σ) : OkOut q σ (execWicketChallenge s) := by
  unfold execWicketChallenge
  repeat' split
  all_goals simp_all +contextual (maxDischargeDepth := 99) only [okMk, okFold, okIte, okNext, implies_true,
      State.wk_ok, State.wkFault_ok, State.drew_ok, State.wkReply_ok]

theorem execTreeStable_ok {s : State} (h0 : s.Ok q σ) : OkOut q σ (execTreeStable s) := by
  unfold execTreeStable
  repeat' split
  all_goals simp_all +contextual (maxDischargeDepth := 99) only [okNext, okIteOut, implies_true, State.raise_ok,
      State.setFld_ok, State.numberSelf_ok, State.join_ok]

theorem execSredFadd_ok {t : Fin 64} {s : State} (h1 : s.Ok q σ) : OkOut q σ (execSredFadd t s) := by
  unfold execSredFadd
  repeat' split
  all_goals simp_all +contextual (maxDischargeDepth := 99) only [okNext, State.reduce_ok]

theorem execAnnounceSend_ok {s : State} (h0 : s.Ok q σ) : OkOut q σ (execAnnounceSend s) := by
  unfold execAnnounceSend
  repeat' split
  all_goals simp_all +contextual (maxDischargeDepth := 99) only [okMk, okFold, okIte, okNext, implies_true,
      State.elect_ok, State.incr_ok, State.announce_ok]

theorem execCsiLineStart_ok {m : Fin 4} {p : CsiHead} {lineNo : BitVec 16} {s : State} (h3 : s.Ok q σ) : OkOut q σ
    (execCsiLineStart m p lineNo s) := by
  unfold execCsiLineStart
  repeat' split
  all_goals simp_all +contextual (maxDischargeDepth := 99) only [okNext, State.csiPacket_ok, State.lineStart_ok]

theorem execWeightsWriteDetect_ok {a0 : Fin 8} {s : State} (h1 : s.Ok q σ) : OkOut q σ
    (execWeightsWriteDetect a0 s) := by
  unfold execWeightsWriteDetect
  repeat' split
  all_goals simp_all +contextual (maxDischargeDepth := 99) only [okIte, okNext, okIteOut, implies_true,
      State.raiseBy_ok, State.setPv_ok, State.setRunFlag_ok]

theorem execBz_ok {t : Fin 64} {s : State} (h1 : s.Ok q σ) : OkOut q σ (execBz t s) := by
  unfold execBz
  repeat' split
  all_goals simp_all +contextual (maxDischargeDepth := 99) only [okNext, State.branch_ok]

theorem State.fireLinked_ok {s0 : State} {k : Nat} (h0 : s0.Ok q σ) : (State.fireLinked s0 k).Ok q σ := by
  unfold State.fireLinked
  repeat' split
  all_goals simp_all +contextual (maxDischargeDepth := 99) only [okIte, implies_true, State.dutyTest_ok,
      State.setSched_ok, State.raise_ok, State.orFld_ok, State.bump_ok, State.incr_ok, State.startPulse_ok,
      State.disarm_ok]

theorem execStrobeFire_ok {k : Fin 8} {s : State} (h1 : s.Ok q σ) : OkOut q σ (execStrobeFire k s) := by
  unfold execStrobeFire
  repeat' split
  all_goals (try dsimp only)
  repeat' split
  all_goals simp_all +contextual (maxDischargeDepth := 99) only [okNext, State.fireLinked_ok, State.fireTest_ok,
      State.forceDue_ok]
  all_goals (repeat' split)
  all_goals simp_all +contextual (maxDischargeDepth := 99) only [State.tl_wf (q := q) (σ := σ), TileSt.put_wf,
      Tab.wf_keep, TileSt.reset_wf, okMk, okFold, okIte, okFoldl, okNext, okIteOut, okSome, okNone, implies_true,
      State.fireLinked_ok, State.fireTest_ok, State.forceDue_ok]

theorem execAxisIndexEdge_ok {k : Fin 6} {lz : Bool} {s : State} (h2 : s.Ok q σ) : OkOut q σ
    (execAxisIndexEdge k lz s) := by
  unfold execAxisIndexEdge
  repeat' split
  all_goals simp_all +contextual (maxDischargeDepth := 99) only [okNext, State.axisFilter_ok, State.setAxis_ok]

theorem execPcsLocked_ok {k : Fin 4} {los : Bool} {fec : Bool} {tx : Fin 64} {rx : Fin 64} {stable : Bool}
    {s : State} (h6 : s.Ok q σ) : OkOut q σ (execPcsLocked k los fec tx rx stable s) := by
  unfold execPcsLocked
  repeat' split
  all_goals simp_all +contextual (maxDischargeDepth := 99) only [okNext, State.setLink_ok, State.loopCal_ok,
      State.setFld_ok, State.setPort_ok]

theorem execMeterWireFault_ok {ch : Fin 2} {kind : Fin 7} {s : State} (h2 : s.Ok q (σ₀, none)) : OkOut q (σ₀, none)
    (execMeterWireFault ch kind s) := by
  unfold execMeterWireFault
  repeat' split
  all_goals simp_all +contextual (maxDischargeDepth := 99) only [okMkAny, okFoldAny, okNext]

theorem execLinkUpdateReceive_ok {k : Fin 4} {f : Frame} {s : State} (h2 : s.Ok q σ) : OkOut q σ
    (execLinkUpdateReceive k f s) := by
  unfold execLinkUpdateReceive
  repeat' split
  all_goals simp_all +contextual (maxDischargeDepth := 99) only [okNext, State.frameIn_ok, State.badFrame_ok,
      State.takeAck_ok, State.setPort_ok]

theorem execSealNonce_ok {tag : BitVec 8} {s : State} (h1 : s.Ok q (σ₀, none)) : OkOut q (σ₀, none)
    (execSealNonce tag s) := by
  unfold execSealNonce
  repeat' split
  all_goals simp_all +contextual (maxDischargeDepth := 99) only [okMkAny, okFoldAny, okNext, implies_true,
      State.whServe_ok, State.drew_ok, State.whAnswer_ok]

theorem State.lineEnd_ok {s : State} {m : Nat} {v : Nat} {corrected : Bool} (h0 : s.Ok q σ) :
    (State.lineEnd s m v corrected).Ok q σ := by
  unfold State.lineEnd
  repeat' split
  all_goals simp_all +contextual (maxDischargeDepth := 99) only [State.rxDrop_ok, State.setLine_ok, State.bump_ok,
      State.rxPump_ok, State.setRx_ok]

theorem execCsiLineEnd_ok {m : Fin 4} {p : CsiHead} {_lineNo : BitVec 16} {s : State} (h3 : s.Ok q σ) : OkOut q σ
    (execCsiLineEnd m p _lineNo s) := by
  unfold execCsiLineEnd
  repeat' split
  all_goals simp_all +contextual (maxDischargeDepth := 99) only [okNext, State.csiPacket_ok, State.lineEnd_ok]

theorem execJoinExpire_ok {ident : BitVec 64} {s : State} (h1 : s.Ok q σ) : OkOut q σ (execJoinExpire ident s) := by
  unfold execJoinExpire
  repeat' split
  all_goals simp_all +contextual (maxDischargeDepth := 99) only [okMk, okFold, okNext]

theorem execLateRsp_ok {k : Nat} {s : State} (h1 : s.Ok q σ) : OkOut q σ (execLateRsp k s) := by
  unfold execLateRsp
  repeat' split
  all_goals simp_all +contextual (maxDischargeDepth := 99) only [okMk, okFold, okNext, implies_true,
      State.mxPerform_ok, State.hhRequest_ok, State.raise_ok, State.bump_ok]

theorem execCbcTrip_ok {n : Fin 4} {ph : Fin 3} {s : State} (h2 : s.Ok q σ) : OkOut q σ (execCbcTrip n ph s) := by
  unfold execCbcTrip
  repeat' split
  all_goals simp_all +contextual (maxDischargeDepth := 99) only [okIte, okNext, okIteOut, implies_true,
      State.setGt_ok, State.setFld_ok, State.bump_ok, State.setMo_ok, State.motorFault_ok, State.raise_ok]

theorem execPorAssert_ok {c : PorCause} {s : State} (h1 : s.Ok q σ) : OkOut q σ (execPorAssert c s) := by
  unfold execPorAssert
  repeat' split
  all_goals simp_all +contextual (maxDischargeDepth := 99) only [okMk, okFold, okNext, State.coreReset_ok,
      State.setFld_ok]

theorem execWhReadParams_ok {tag : BitVec 8} {s : State} (h1 : s.Ok q (σ₀, none)) : OkOut q (σ₀, none)
    (execWhReadParams tag s) := by
  unfold execWhReadParams
  repeat' split
  all_goals simp_all +contextual (maxDischargeDepth := 99) only [okNext, implies_true, State.whServe_ok,
      State.drew_ok, State.whAnswer_ok]

theorem execDirectTestPulse_ok {a : Acc} {n : Fin 4} {w : Word} {s : State} (h3 : s.Ok q σ) : OkOut q σ
    (execDirectTestPulse a n w s) := by
  unfold execDirectTestPulse
  repeat' split
  all_goals simp_all +contextual (maxDischargeDepth := 99) only [okNext, implies_true, State.access_ok,
      State.directTest_ok]

theorem execCloseTally_ok {tag : BitVec 8} {coil : BitVec 64} {sid : BitVec 64} {s : State} (h3 : s.Ok q (σ₀, none))
    : OkOut q (σ₀, none) (execCloseTally tag coil sid s) := by
  unfold execCloseTally
  repeat' split
  all_goals simp_all +contextual (maxDischargeDepth := 99) only [okMkAny, okFoldAny, okIte, okNext, implies_true,
      State.whServe_ok, State.whAnswer_ok, State.drew_ok]

theorem execResponseArrive_ok {r : Fin 30} {timed : Bool} {s : State} (h : s.Ok q σ) : OkOut q σ
    (execResponseArrive r timed s) := by
  unfold execResponseArrive
  rw [okNext]; exact State.responseArrive_ok h

theorem execSegmentTakeForce_ok {s : State} (h0 : s.Ok q σ) : OkOut q σ (execSegmentTakeForce s) := by
  unfold execSegmentTakeForce
  repeat' split
  all_goals simp_all +contextual (maxDischargeDepth := 99) only [okNext, State.forceDue_ok]

theorem execOuvOvertemp_ok {hot : Bool} {s : State} (h1 : s.Ok q σ) : OkOut q σ (execOuvOvertemp hot s) := by
  unfold execOuvOvertemp
  repeat' split
  all_goals simp_all +contextual (maxDischargeDepth := 99) only [okMk, okFold, okNext, State.hotAct_ok]

theorem execSealOpen_ok {tag : BitVec 8} {r s : BitVec 256} {st : State} (h : st.Ok q (σ₀, none)) : OkOut q
    (σ₀, none) (execSealOpen tag r s st) := by
  unfold execSealOpen
  rw [okNext]
  refine State.whServe_ok h (fun t ht => ?_)
  dsimp only
  split
  · refine State.whAnswer_ok ?_; simp only [okMkAny, okFoldAny]; exact ht
  · refine State.whAnswer_ok ?_; simp only [okMkAny, okFoldAny]; exact ht
  · refine State.drew_ok ?_; simp only [okMkAny, okFoldAny]; exact ht

theorem execDawnReq_ok {a : Acc} {s : State} (h1 : s.Ok q σ) : OkOut q σ (execDawnReq a s) := by
  unfold execDawnReq
  repeat' split
  all_goals simp_all +contextual (maxDischargeDepth := 99) only [okNext, implies_true, State.access_ok,
      State.dawnReq_ok]

theorem execWhReadIdent_ok {tag : BitVec 8} {s : State} (h1 : s.Ok q (σ₀, none)) : OkOut q (σ₀, none)
    (execWhReadIdent tag s) := by
  unfold execWhReadIdent
  repeat' split
  all_goals simp_all +contextual (maxDischargeDepth := 99) only [okNext, implies_true, State.whServe_ok,
      State.whAnswer_ok]

theorem execCstGo_ok {a : Acc} {n : Fin 4} {s : State} (h2 : s.Ok q σ) : OkOut q σ (execCstGo a n s) := by
  unfold execCstGo
  repeat' split
  all_goals simp_all +contextual (maxDischargeDepth := 99) only [okNext, implies_true, State.access_ok,
      State.cstGo_ok]

theorem execVcvtfi_ok {t : Fin 64} {s : State} (h1 : s.Ok q σ) : OkOut q σ (execVcvtfi t s) := by
  unfold execVcvtfi
  repeat' split
  all_goals simp_all +contextual (maxDischargeDepth := 99) only [okNext, State.vecOp1_ok]

theorem execOutputShort_ok {x : Shorted} {s : State} (h2 : s.Ok q σ) : OkOut q σ (execOutputShort x s) := by
  obtain ⟨o, on⟩ := x
  unfold execOutputShort
  dsimp only
  rw [okNext]
  have a : ∀ (c : Prop) [Decidable c] (x y : State), x.Ok q σ → y.Ok q σ → (if c then x else y).Ok q σ :=
    fun c _ x y hx hy => okIte (fun _ => hx) (fun _ => hy)
  have k : ∀ f v e, State.Ok q σ { s.setFld pLine f v with live := Tab.set 0 (s.setFld pLine f v).live pLine e } := by
    intro f v e
    have h := State.setFld_ok (p := pLine) (f := f) (v := v) h2
    exact ⟨h.1, h.2, h.3, h.4, Tab.rises_set _ _ _ _ h.live, h.6, h.7, h.8, h.9, h.10, h.11⟩
  exact a _ _ _ (State.raise_ok (k _ _ _)) (k _ _ _)

theorem execLoopOutputWrite_ok {a : Acc} {page : Fin 512} {off : Fin 1024} {w : Word} {s : State} (h4 : s.Ok q σ)
    : OkOut q σ (execLoopOutputWrite a page off w s) := by
  unfold execLoopOutputWrite
  repeat' split
  all_goals simp_all +contextual (maxDischargeDepth := 99) only [okNext, implies_true, State.access_ok,
      State.driveWrite_ok]

theorem execI2cGo_ok {a : Acc} {w : Word} {s : State} (h2 : s.Ok q σ) : OkOut q σ (execI2cGo a w s) := by
  unfold execI2cGo
  repeat' split
  all_goals simp_all +contextual (maxDischargeDepth := 99) only [okNext, implies_true, State.mgrAccess_ok,
      State.fabWrite_ok]

theorem execVphyMonitorCross_ok {mv : Nat} {s : State} (h1 : s.Ok q σ) : OkOut q σ (execVphyMonitorCross mv s) := by
  unfold execVphyMonitorCross
  repeat' split
  all_goals simp_all +contextual (maxDischargeDepth := 99) only [okIte, okNext, implies_true, State.condition_ok,
      State.setFld_ok, State.phyReset_ok]

theorem execDebugKeyWrite_ok {a : Acc} {k : Fin 9} {i : Fin 8} {w : Word} {s : State} (h4 : s.Ok q σ) : OkOut q σ
    (execDebugKeyWrite a k i w s) := by
  unfold execDebugKeyWrite
  repeat' split
  all_goals simp_all +contextual (maxDischargeDepth := 99) only [okNext, implies_true, State.mgrAccess_ok,
      State.keyWrite_ok]

theorem execTapReset_ok {s : State} (h0 : s.Ok q σ) : OkOut q σ (execTapReset s) := by
  unfold execTapReset
  repeat' split
  all_goals simp_all +contextual (maxDischargeDepth := 99) only [okNext, State.tapSet_ok]

theorem execWarmTakeEffect_ok {s : State} (h0 : s.Ok q σ) : OkOut q σ (execWarmTakeEffect s) := by
  unfold execWarmTakeEffect
  repeat' split
  all_goals simp_all +contextual (maxDischargeDepth := 99) only [okMk, okFold, okNext, State.coreReset_ok]

theorem execTrap_ok {t : Fin 64} {s : State} (h1 : s.Ok q σ) : OkOut q σ (execTrap t s) := by
  unfold execTrap
  repeat' split
  all_goals simp_all +contextual (maxDischargeDepth := 99) only [okNext, implies_true, State.issue_ok,
      State.leafFault_ok]

theorem execEgressDecision_ok {a0 : Fin 5} {a1 : EgressIn} {a2 : State} (h2 : a2.Ok q σ) : OkOut q σ
    (execEgressDecision a0 a1 a2) := by
  unfold execEgressDecision
  repeat' split
  all_goals simp_all +contextual (maxDischargeDepth := 99) only [okNext, State.after_ok, State.decision_ok,
      State.schDue_ok]

theorem execLinkDownWaitEnd_ok {k : Fin 4} {s : State} (h1 : s.Ok q σ) : OkOut q σ (execLinkDownWaitEnd k s) := by
  unfold execLinkDownWaitEnd
  repeat' split
  all_goals simp_all +contextual (maxDischargeDepth := 99) only [okNext, State.setLink_ok]

theorem execSlewTransition_ok {n : Fin 4} {low : Bool} {m : BitVec 12} {s : State} (h3 : s.Ok q σ) : OkOut q σ
    (execSlewTransition n low m s) := by
  unfold execSlewTransition
  repeat' split
  all_goals simp_all +contextual (maxDischargeDepth := 99) only [okIte, okNext, okIteOut, implies_true,
      State.holdBack_ok, State.setGt_ok, State.setFld_ok, State.raise_ok]

theorem execWheelTick_ok {p : Fin 5} {s : State} (h1 : s.Ok q σ) : OkOut q σ (execWheelTick p s) := by
  unfold execWheelTick
  repeat' split
  all_goals simp_all +contextual (maxDischargeDepth := 99) only [okNext, State.schDue_ok]

theorem execBstUvCross_ok {n : Fin 4} {ph : Fin 3} {below : Bool} {s : State} (h3 : s.Ok q σ) : OkOut q σ
    (execBstUvCross n ph below s) := by
  unfold execBstUvCross
  repeat' split
  all_goals simp_all +contextual (maxDischargeDepth := 99) only [okIte, okNext, implies_true, State.setGt_ok,
      State.bstAct_ok]

theorem execWicketWrite_ok {hdr : BitVec 60} {data : List (BitVec 64)} {s : State} (h2 : s.Ok q σ) : OkOut q σ
    (execWicketWrite hdr data s) := by
  unfold execWicketWrite
  repeat' split
  all_goals simp_all +contextual (maxDischargeDepth := 99) only [okNext, implies_true, State.wk_ok, State.wkAccess_ok]

theorem execSlotEnable_ok {a : Acc} {p : Fin 5} {k : Fin 64} {w : Word} {s : State} (h4 : s.Ok q σ) : OkOut q σ
    (execSlotEnable a p k w s) := by
  unfold execSlotEnable
  repeat' split
  all_goals simp_all +contextual (maxDischargeDepth := 99) only [okNext, State.after_ok, State.slotAccess_ok]

theorem execVsra_ok {t : Fin 64} {s : State} (h1 : s.Ok q σ) : OkOut q σ (execVsra t s) := by
  unfold execVsra
  repeat' split
  all_goals simp_all +contextual (maxDischargeDepth := 99) only [okNext, State.vecOp_ok]

theorem execBindWrite_ok {a : Acc} {p : Fin 5} {k : Fin 64} {ctrl : Bool} {w : Word} {s : State} (h5 : s.Ok q σ)
    : OkOut q σ (execBindWrite a p k ctrl w s) := by
  unfold execBindWrite
  repeat' split
  all_goals simp_all +contextual (maxDischargeDepth := 99) only [okNext, State.slotAccess_ok]

theorem execMotorDetectDone_ok {n : Fin 4} {peaks : List (Fin 16384)} {s : State} (h2 : s.Ok q σ) : OkOut q σ
    (execMotorDetectDone n peaks s) := by
  unfold execMotorDetectDone
  repeat' split
  all_goals simp_all +contextual (maxDischargeDepth := 99) only [okNext, okIteOut, implies_true,
      State.setMotorState_ok, State.raise_ok, State.angleTaken_ok, State.setFld_ok]

theorem execBindCfgWrite_ok {a : Acc} {m : Fin 4} {v : Fin 4} {w : Word} {s : State} (h4 : s.Ok q σ) : OkOut q σ
    (execBindCfgWrite a m v w s) := by
  unfold execBindCfgWrite
  repeat' split
  all_goals simp_all +contextual (maxDischargeDepth := 99) only [okNext, implies_true, State.access_ok,
      State.ingestWrite_ok]

theorem execAlmDistCancelReceive_ok {k : Fin 4} {f : Frame} {s : State} (h2 : s.Ok q σ) : OkOut q σ
    (execAlmDistCancelReceive k f s) := by
  unfold execAlmDistCancelReceive
  repeat' split
  all_goals simp_all +contextual (maxDischargeDepth := 99) only [okNext, State.almFrameIn_ok]

theorem execOwnerWrite_ok {a : Acc} {page : Fin 512} {v : Fin 16} {s : State} (h3 : s.Ok q σ) : OkOut q σ
    (execOwnerWrite a page v s) := by
  unfold execOwnerWrite
  repeat' split
  all_goals simp_all +contextual (maxDischargeDepth := 99) only [okNext, implies_true, State.mgrAccess_ok,
      State.setOwner_ok]

theorem execSoftOffHoldEnd_ok {n : Fin 4} {sw : Fin 6} {s : State} (h2 : s.Ok q σ) : OkOut q σ
    (execSoftOffHoldEnd n sw s) := by
  unfold execSoftOffHoldEnd
  repeat' split
  all_goals (try dsimp only)
  repeat' split
  all_goals simp_all +contextual (maxDischargeDepth := 99) only [okNext, State.setGt_ok]
  all_goals (repeat' split)
  all_goals simp_all +contextual (maxDischargeDepth := 99) only [State.tl_wf (q := q) (σ := σ), TileSt.put_wf,
      Tab.wf_keep, TileSt.reset_wf, okMk, okFold, okIte, okFoldl, okNext, okIteOut, okSome, okNone, implies_true,
      State.setGt_ok]

theorem execI2cDone_ok {nack : Bool} {data : Word} {s : State} (h2 : s.Ok q σ) : OkOut q σ
    (execI2cDone nack data s) := by
  unfold execI2cDone
  repeat' split
  all_goals simp_all +contextual (maxDischargeDepth := 99) only [okIte, okNext, implies_true, State.setFld_ok,
      State.raise_ok]

theorem execRcCounterRead_ok {a : Acc} {addr : BitVec 48} {wide : Bool} {s : State} (h3 : s.Ok q σ) : OkOut q σ
    (execRcCounterRead a addr wide s) := by
  unfold execRcCounterRead
  repeat' split
  all_goals simp_all +contextual (maxDischargeDepth := 99) only [okNext, State.anyAccess_ok]

theorem execPcsLockLost_ok {k : Fin 4} {hiBer : Bool} {s : State} (h2 : s.Ok q σ) : OkOut q σ
    (execPcsLockLost k hiBer s) := by
  unfold execPcsLockLost
  repeat' split
  all_goals simp_all +contextual (maxDischargeDepth := 99) only [okNext, State.setFld_ok, State.candUnlocked_ok,
      State.linkDown_ok, State.raise_ok, State.restartWait_ok]

theorem execRemoteFail_ok {a0 : Fin 8} {s : State} (h1 : s.Ok q σ) : OkOut q σ (execRemoteFail a0 s) := by
  unfold execRemoteFail
  repeat' split
  all_goals simp_all +contextual (maxDischargeDepth := 99) only [okNext, State.runFail_ok]

theorem execHotReset_ok {s : State} (h0 : s.Ok q σ) : OkOut q σ (execHotReset s) := by
  unfold execHotReset
  repeat' split
  all_goals simp_all +contextual (maxDischargeDepth := 99) only [okNext, State.linkReset_ok, State.linkGone_ok]

theorem execWhReadTally_ok {tag : BitVec 8} {no : BitVec 32} {bad : Option (BitVec 32)} {s : State}
    (h : s.Ok q (σ₀, none)) : OkOut q (σ₀, none) (execWhReadTally tag no bad s) := by
  unfold execWhReadTally
  rw [okNext]
  refine State.whServe_ok h (fun t ht => ?_)
  split
  · refine State.whAnswer_ok ?_; simp only [okMkAny, okFoldAny]; exact ht
  · split <;> exact State.whAnswer_ok ht

theorem execRefLoss_ok {s : State} (h0 : s.Ok q σ) : OkOut q σ (execRefLoss s) := by
  unfold execRefLoss
  repeat' split
  all_goals simp_all +contextual (maxDischargeDepth := 99) only [okNext, State.raise_ok, State.holdover_ok]

theorem execMotorUpdate_ok {n : Fin 4} {u : BitVec 14} {v : BitVec 14} {w : BitVec 14} {s : State} (h4 : s.Ok q σ)
    : OkOut q σ (execMotorUpdate n u v w s) := by
  unfold execMotorUpdate
  repeat' split
  all_goals (try dsimp only)
  repeat' split
  all_goals simp_all +contextual (maxDischargeDepth := 99) only [okNext, State.holdBack_ok, State.sampleTick_ok,
      State.calSample_ok, State.detectSample_ok, State.drew_ok, State.obsAdapt_ok, State.setSfld_ok, State.setFld_ok,
      State.alignStep_ok, State.rampStep_ok, State.runStep_ok]
  all_goals (repeat' split)
  all_goals simp_all +contextual (maxDischargeDepth := 99) only [State.tl_wf (q := q) (σ := σ), TileSt.put_wf,
      Tab.wf_keep, TileSt.reset_wf, okMk, okFold, okIte, okFoldl, okNext, okIteOut, okSome, okNone, implies_true,
      State.holdBack_ok, State.sampleTick_ok, State.calSample_ok, State.detectSample_ok, State.drew_ok,
      State.obsAdapt_ok, State.setSfld_ok, State.setFld_ok, State.alignStep_ok, State.rampStep_ok, State.runStep_ok]

theorem execAnnounceReceive_ok {k : Fin 4} {f : Frame} {s : State} (h2 : s.Ok q σ) : OkOut q σ
    (execAnnounceReceive k f s) := by
  unfold execAnnounceReceive
  repeat' split
  all_goals simp_all +contextual (maxDischargeDepth := 99) only [okNext, implies_true, State.discIn_ok,
      State.announceIn_ok]

theorem execRunHalt_ok {a : Acc} {a1 : Fin 8} {w : Word} {s : State} (h3 : s.Ok q σ) : OkOut q σ
    (execRunHalt a a1 w s) := by
  unfold execRunHalt
  repeat' split
  all_goals simp_all +contextual (maxDischargeDepth := 99) only [okNext, implies_true, State.blockAccess_ok,
      State.runCtrlWrite_ok]

theorem State.storeCand_ok {s : State} {agree : Bool} {v : CandView} (h0 : s.Ok q σ) :
    (State.storeCand s agree v).Ok q σ := by
  unfold State.storeCand
  repeat' split
  all_goals simp_all +contextual (maxDischargeDepth := 99) only [State.set16_ok, State.setFld_ok]

theorem State.windowEnd_ok {s : State} {meas : List CandMeas} (h0 : s.Ok q σ) : (State.windowEnd s meas).Ok q σ := by
  unfold State.windowEnd
  repeat' split
  all_goals simp_all +contextual (maxDischargeDepth := 99) only [okMk, okFold, okIte, okFoldl, implies_true,
      State.candLost_ok, State.storeCand_ok, State.setFld_ok, State.incr_ok, State.set16_ok, State.stillAtLimit_ok,
      State.warnRules_ok]

theorem execRefmonWindowEnd_ok {meas : List CandMeas} {s : State} (h1 : s.Ok q σ) : OkOut q σ
    (execRefmonWindowEnd meas s) := by
  unfold execRefmonWindowEnd
  repeat' split
  all_goals simp_all +contextual (maxDischargeDepth := 99) only [okNext, State.windowEnd_ok]

theorem execQueuePushLast_ok {a : Acc} {a1 : Fin 256} {agent : Fin 8} {off : Fin 2048} {data : List Byte}
    {poisoned : Bool} {s : State} (h6 : s.Ok q σ) : OkOut q σ (execQueuePushLast a a1 agent off data poisoned s) := by
  unfold execQueuePushLast
  repeat' split
  all_goals simp_all +contextual (maxDischargeDepth := 99) only [okNext, State.after_ok, State.pushPort_ok]

theorem execErrClr_ok {a : Acc} {page : Fin 512} {s : State} (h2 : s.Ok q σ) : OkOut q σ (execErrClr a page s) := by
  unfold execErrClr
  repeat' split
  all_goals simp_all +contextual (maxDischargeDepth := 99) only [okNext, implies_true, State.access_ok,
      State.errClr_ok]

theorem execVbcast_ok {t : Fin 64} {s : State} (h1 : s.Ok q σ) : OkOut q σ (execVbcast t s) := by
  unfold execVbcast
  repeat' split
  all_goals simp_all +contextual (maxDischargeDepth := 99) only [okNext, State.issueRegs_ok]

theorem execMailboxPeekRead_ok {a : Acc} {a1 : Fin 8} {m : Fin 16} {consume : Bool} {off : Fin 4096}
    {bytes : Fin 4097} {s : State} (h6 : s.Ok q σ) : OkOut q σ (execMailboxPeekRead a a1 m consume off bytes s) := by
  unfold execMailboxPeekRead
  repeat' split
  all_goals simp_all +contextual (maxDischargeDepth := 99) only [okNext, State.mbRead_ok]

theorem execUnroutableRequest_ok {w0 : BitVec 64} {w1 : BitVec 64} {s : State} (h2 : s.Ok q σ) : OkOut q σ
    (execUnroutableRequest w0 w1 s) := by
  unfold execUnroutableRequest
  repeat' split
  all_goals simp_all +contextual (maxDischargeDepth := 99) only [okNext, State.reply_ok, State.unroutable_ok]

theorem execShadowBoundaryWrite_ok {a : Acc} {page : Fin 512} {b : Fin 4} {s : State} (h3 : s.Ok q σ) : OkOut q σ
    (execShadowBoundaryWrite a page b s) := by
  unfold execShadowBoundaryWrite
  repeat' split
  all_goals simp_all +contextual (maxDischargeDepth := 99) only [okNext, implies_true, State.access_ok,
      State.setBoundary_ok]

theorem execFlitForward_ok {r : Fin 30} {out : Fin 6} {parity : Bool} {sideband : Bool} {s : State} (h4 : s.Ok q σ)
    : OkOut q σ (execFlitForward r out parity sideband s) := by
  unfold execFlitForward
  repeat' split
  all_goals (try dsimp only)
  repeat' split
  all_goals simp_all +contextual (maxDischargeDepth := 99) only [okMk, okFold, okNext, State.nocBump_ok,
      State.grant_ok]
  all_goals (repeat' split)
  all_goals simp_all +contextual (maxDischargeDepth := 99) only [State.tl_wf (q := q) (σ := σ), TileSt.put_wf,
      Tab.wf_keep, TileSt.reset_wf, okMk, okFold, okIte, okFoldl, okNext, okIteOut, okSome, okNone, implies_true,
      State.nocBump_ok, State.grant_ok]

theorem execEphemFit_ok {s : State} (h0 : s.Ok q σ) : OkOut q σ (execEphemFit s) := by
  unfold execEphemFit
  repeat' split
  all_goals simp_all +contextual (maxDischargeDepth := 99) only [okNext, State.drew_ok, State.setEph_ok]

theorem execInputDigestDone_ok {a0 : Fin 8} {s : State} (h1 : s.Ok q σ) : OkOut q σ (execInputDigestDone a0 s) := by
  unfold execInputDigestDone
  repeat' split
  all_goals simp_all +contextual (maxDischargeDepth := 99) only [okNext, State.setRun_ok, State.putDigest_ok,
      State.bump_ok]

theorem execEvtEnWrite_ok {a : Acc} {page : Fin 512} {w : Word} {s : State} (h3 : s.Ok q σ) : OkOut q σ
    (execEvtEnWrite a page w s) := by
  unfold execEvtEnWrite
  repeat' split
  all_goals simp_all +contextual (maxDischargeDepth := 99) only [okNext, implies_true, State.access_ok,
      State.evtEnable_ok]

theorem execWhReadStamp_ok {tag : BitVec 8} {s : State} (h : s.Ok q (σ₀, none)) : OkOut q (σ₀, none)
    (execWhReadStamp tag s) := by
  unfold execWhReadStamp
  rw [okNext]
  refine State.whServe_ok h (fun t ht => ?_)
  split <;> exact State.whAnswer_ok ht

theorem execOpenWireClear_ok {k : Fin 6} {sig : Fin 3} {s : State} (h2 : s.Ok q σ) : OkOut q σ
    (execOpenWireClear k sig s) := by
  unfold execOpenWireClear
  repeat' split
  all_goals simp_all +contextual (maxDischargeDepth := 99) only [okNext, State.showAxisLive_ok, State.setAxis_ok]

theorem execSealNonceExpire_ok {s : State} (h0 : s.Ok q (σ₀, none)) : OkOut q (σ₀, none) (execSealNonceExpire s) := by
  unfold execSealNonceExpire
  repeat' split
  all_goals simp_all +contextual (maxDischargeDepth := 99) only [okMkAny, okFoldAny, okNext]

theorem execAdd_ok {t : Fin 64} {s : State} (h1 : s.Ok q σ) : OkOut q σ (execAdd t s) := by
  unfold execAdd
  repeat' split
  all_goals simp_all +contextual (maxDischargeDepth := 99) only [okNext, State.salu_ok]

theorem execPorRelease_ok {s : State} (h0 : s.Ok q σ) : OkOut q σ (execPorRelease s) := by
  unfold execPorRelease
  repeat' split
  all_goals simp_all +contextual (maxDischargeDepth := 99) only [okMk, okFold, okNext, State.coreReset_ok]

theorem execSlt_ok {t : Fin 64} {s : State} (h1 : s.Ok q σ) : OkOut q σ (execSlt t s) := by
  unfold execSlt
  repeat' split
  all_goals simp_all +contextual (maxDischargeDepth := 99) only [okNext, State.salu_ok]

theorem execTimedRegWrite_ok {a : Acc} {w : Word} {s : State} (h2 : s.Ok q σ) : OkOut q σ
    (execTimedRegWrite a w s) := by
  unfold execTimedRegWrite
  repeat' split
  all_goals simp_all +contextual (maxDischargeDepth := 99) only [okNext, implies_true, State.mgrAccess_ok,
      State.timedRegWrite_ok]

theorem execEphemPublish_ok {s : State} (h0 : s.Ok q σ) : OkOut q σ (execEphemPublish s) := by
  unfold execEphemPublish
  repeat' split
  all_goals simp_all +contextual (maxDischargeDepth := 99) only [okMk, okFold, okFoldl, okNext, okIteOut,
      implies_true, State.acceptSegment_ok, State.toPort_ok, State.sendRouted_ok]

theorem execBakLowCross_ok {below : Bool} {s : State} (h1 : s.Ok q (σ₀, none)) : OkOut q (σ₀, none)
    (execBakLowCross below s) := by
  unfold execBakLowCross
  repeat' split
  all_goals simp_all +contextual (maxDischargeDepth := 99) only [okNext, State.onWh_ok]

theorem execWicketStatus_ok {s : State} (h0 : s.Ok q σ) : OkOut q σ (execWicketStatus s) := by
  unfold execWicketStatus
  repeat' split
  all_goals simp_all +contextual (maxDischargeDepth := 99) only [okNext, implies_true, State.wk_ok, State.wkReply_ok]

theorem execVredFmin_ok {t : Fin 64} {s : State} (h1 : s.Ok q σ) : OkOut q σ (execVredFmin t s) := by
  unfold execVredFmin
  repeat' split
  all_goals simp_all +contextual (maxDischargeDepth := 99) only [okNext, State.reduce_ok]

theorem execVsub_ok {t : Fin 64} {s : State} (h1 : s.Ok q σ) : OkOut q σ (execVsub t s) := by
  unfold execVsub
  repeat' split
  all_goals simp_all +contextual (maxDischargeDepth := 99) only [okNext, State.vecOp_ok]

theorem execVshl_ok {t : Fin 64} {s : State} (h1 : s.Ok q σ) : OkOut q σ (execVshl t s) := by
  unfold execVshl
  repeat' split
  all_goals simp_all +contextual (maxDischargeDepth := 99) only [okNext, State.vecOp_ok]

theorem execVredIadd_ok {t : Fin 64} {s : State} (h1 : s.Ok q σ) : OkOut q σ (execVredIadd t s) := by
  unfold execVredIadd
  repeat' split
  all_goals simp_all +contextual (maxDischargeDepth := 99) only [okNext, State.reduce_ok]

theorem execVredFmax_ok {t : Fin 64} {s : State} (h1 : s.Ok q σ) : OkOut q σ (execVredFmax t s) := by
  unfold execVredFmax
  repeat' split
  all_goals simp_all +contextual (maxDischargeDepth := 99) only [okNext, State.reduce_ok]

theorem execRootHoldExpire_ok {s : State} (h0 : s.Ok q σ) : OkOut q σ (execRootHoldExpire s) := by
  unfold execRootHoldExpire
  repeat' split
  all_goals simp_all +contextual (maxDischargeDepth := 99) only [okMk, okFold, okNext, okIteOut, implies_true,
      State.noteHold_ok, State.elect_ok, State.raise_ok]

theorem execRefFallback_ok {s : State} (h0 : s.Ok q σ) : OkOut q σ (execRefFallback s) := by
  unfold execRefFallback
  repeat' split
  all_goals simp_all +contextual (maxDischargeDepth := 99) only [okMk, okFold, okNext, okIteOut, implies_true,
      State.raise_ok, State.setFld_ok, State.autoDawn_ok, State.condition_ok]

theorem execSealSwitchHigh_ok {s : State} (h0 : s.Ok q (σ₀, none)) : OkOut q (σ₀, none) (execSealSwitchHigh s) := by
  unfold execSealSwitchHigh
  repeat' split
  all_goals simp_all +contextual (maxDischargeDepth := 99) only [okMkAny, okFoldAny, okNext, okIteOut, implies_true,
      State.drew_ok]

theorem execVcmplt_ok {t : Fin 64} {s : State} (h1 : s.Ok q σ) : OkOut q σ (execVcmplt t s) := by
  unfold execVcmplt
  repeat' split
  all_goals simp_all +contextual (maxDischargeDepth := 99) only [okNext, State.vecCmp_ok]

theorem execVdot4_ok {t : Fin 64} {s : State} (h1 : s.Ok q σ) : OkOut q σ (execVdot4 t s) := by
  unfold execVdot4
  repeat' split
  all_goals simp_all +contextual (maxDischargeDepth := 99) only [okNext, State.vecOp_ok]

theorem execSra_ok {t : Fin 64} {s : State} (h1 : s.Ok q σ) : OkOut q σ (execSra t s) := by
  unfold execSra
  repeat' split
  all_goals simp_all +contextual (maxDischargeDepth := 99) only [okNext, State.salu_ok]

theorem execTapHighz_ok {s : State} (h0 : s.Ok q σ) : OkOut q σ (execTapHighz s) := by
  unfold execTapHighz
  repeat' split
  all_goals simp_all +contextual (maxDischargeDepth := 99) only [okNext, State.tapSet_ok]

theorem execStep_ok {t : Fin 64} {s : State} (h1 : s.Ok q σ) : OkOut q σ (execStep t s) := by
  unfold execStep
  repeat' split
  all_goals simp_all +contextual (maxDischargeDepth := 99) only [okNext, implies_true, State.issue_ok, State.reach_ok]

theorem execVbakFastRise_ok {s : State} (h0 : s.Ok q (σ₀, none)) : OkOut q (σ₀, none) (execVbakFastRise s) := by
  unfold execVbakFastRise
  repeat' split
  all_goals simp_all +contextual (maxDischargeDepth := 99) only [okNext, State.onWh_ok]

theorem execWicketLineReset_ok {s : State} (h0 : s.Ok q σ) : OkOut q σ (execWicketLineReset s) := by
  unfold execWicketLineReset
  repeat' split
  all_goals simp_all +contextual (maxDischargeDepth := 99) only [okNext, implies_true, State.wk_ok, State.wkProto_ok]

theorem execShadowDiscard_ok {a : Acc} {page : Fin 512} {s : State} (h2 : s.Ok q σ) : OkOut q σ
    (execShadowDiscard a page s) := by
  unfold execShadowDiscard
  repeat' split
  all_goals simp_all +contextual (maxDischargeDepth := 99) only [okNext, implies_true, State.access_ok,
      State.dropShadows_ok]

theorem execQueueFlush_ok {a : Acc} {a1 : Fin 256} {s : State} (h2 : s.Ok q σ) : OkOut q σ
    (execQueueFlush a a1 s) := by
  unfold execQueueFlush
  repeat' split
  all_goals simp_all +contextual (maxDischargeDepth := 99) only [okNext, State.qRegAccess_ok]

theorem execVltreeFadd_ok {t : Fin 64} {s : State} (h1 : s.Ok q σ) : OkOut q σ (execVltreeFadd t s) := by
  unfold execVltreeFadd
  repeat' split
  all_goals simp_all +contextual (maxDischargeDepth := 99) only [okNext, State.laneTree_ok]

theorem execQueueEnable_ok {a : Acc} {a1 : Fin 256} {w : Word} {s : State} (h3 : s.Ok q σ) : OkOut q σ
    (execQueueEnable a a1 w s) := by
  unfold execQueueEnable
  repeat' split
  all_goals simp_all +contextual (maxDischargeDepth := 99) only [okNext, State.qRegAccess_ok]

theorem execAlmArm_ok {a : Acc} {via : Option (Fin 8)} {s : State} (h2 : s.Ok q σ) : OkOut q σ
    (execAlmArm a via s) := by
  unfold execAlmArm
  repeat' split
  all_goals simp_all +contextual (maxDischargeDepth := 99) only [okNext, implies_true, State.almAccess_ok,
      State.almSoftArm_ok]

theorem execPllUnlock_ok {s : State} (h0 : s.Ok q σ) : OkOut q σ (execPllUnlock s) := by
  unfold execPllUnlock
  repeat' split
  all_goals simp_all +contextual (maxDischargeDepth := 99) only [okNext, State.setFld_ok, State.holdover_ok,
      State.raise_ok]

theorem execMotorStop_ok {a : Acc} {n : Fin 4} {s : State} (h2 : s.Ok q σ) : OkOut q σ (execMotorStop a n s) := by
  unfold execMotorStop
  repeat' split
  all_goals simp_all +contextual (maxDischargeDepth := 99) only [okNext, implies_true, State.access_ok,
      State.stopReq_ok]

theorem execSteerStep_ok {s : State} (h0 : s.Ok q σ) : OkOut q σ (execSteerStep s) := by
  unfold execSteerStep
  repeat' split
  all_goals simp_all +contextual (maxDischargeDepth := 99) only [okMk, okFold, okNext, okIteOut, implies_true,
      State.setSfld_ok]

end Sys2Proof.Machine
end

