-- ==== Sys2Proof/Laws/State.lean ====
section
/-!
SUPPORT. What each update of the state leaves in each field, and reads after writes.
-/

namespace Sys2Proof.Machine

variable (s : State)

/-! ### setFld -/

@[simp] theorem State.setFld_pending (p : Nat) (f : Fld) (v : Nat) : (s.setFld p f v).pending = s.pending := rfl
@[simp] theorem State.setFld_held (p : Nat) (f : Fld) (v : Nat) : (s.setFld p f v).held = s.held := rfl
@[simp] theorem State.setFld_freeIdx (p : Nat) (f : Fld) (v : Nat) : (s.setFld p f v).freeIdx = s.freeIdx := rfl
@[simp] theorem State.setFld_trainings (p : Nat) (f : Fld) (v : Nat) : (s.setFld p f v).trainings = s.trainings := rfl
@[simp] theorem State.setFld_si (p : Nat) (f : Fld) (v : Nat) : (s.setFld p f v).si = s.si := rfl
@[simp] theorem State.setFld_shadows (p : Nat) (f : Fld) (v : Nat) : (s.setFld p f v).shadows = s.shadows := rfl
@[simp] theorem State.setFld_live (p : Nat) (f : Fld) (v : Nat) : (s.setFld p f v).live = s.live := rfl
@[simp] theorem State.setFld_resp (p : Nat) (f : Fld) (v : Nat) : (s.setFld p f v).resp = s.resp := rfl
@[simp] theorem State.setFld_sent (p : Nat) (f : Fld) (v : Nat) : (s.setFld p f v).sent = s.sent := rfl
@[simp] theorem State.setFld_srstBusy (p : Nat) (f : Fld) (v : Nat) : (s.setFld p f v).srstBusy = s.srstBusy := rfl
@[simp] theorem State.setFld_srstAt (p : Nat) (f : Fld) (v : Nat) : (s.setFld p f v).srstAt = s.srstAt := rfl
@[simp] theorem State.setFld_errAt (p : Nat) (f : Fld) (v : Nat) : (s.setFld p f v).errAt = s.errAt := rfl
@[simp] theorem State.setFld_hhReset (p : Nat) (f : Fld) (v : Nat) : (s.setFld p f v).hhReset = s.hhReset := rfl
@[simp] theorem State.setFld_warmDue (p : Nat) (f : Fld) (v : Nat) : (s.setFld p f v).warmDue = s.warmDue := rfl
@[simp] theorem State.setFld_por (p : Nat) (f : Fld) (v : Nat) : (s.setFld p f v).por = s.por := rfl
@[simp] theorem State.setFld_lastRst (p : Nat) (f : Fld) (v : Nat) : (s.setFld p f v).lastRst = s.lastRst := rfl
@[simp] theorem State.setFld_tb (p : Nat) (f : Fld) (v : Nat) : (s.setFld p f v).tb = s.tb := rfl
@[simp] theorem State.setFld_mx (p : Nat) (f : Fld) (v : Nat) : (s.setFld p f v).mx = s.mx := rfl
@[simp] theorem State.setFld_ln (p : Nat) (f : Fld) (v : Nat) : (s.setFld p f v).ln = s.ln := rfl
@[simp] theorem State.setFld_wh (p : Nat) (f : Fld) (v : Nat) : (s.setFld p f v).wh = s.wh := rfl
@[simp] theorem State.setFld_wb (p : Nat) (f : Fld) (v : Nat) : (s.setFld p f v).wb = s.wb := rfl
@[simp] theorem State.setFld_dr (p : Nat) (f : Fld) (v : Nat) : (s.setFld p f v).dr = s.dr := rfl
@[simp] theorem State.setFld_dram (p : Nat) (f : Fld) (v : Nat) : (s.setFld p f v).dram = s.dram := rfl
@[simp] theorem State.setFld_qs (p : Nat) (f : Fld) (v : Nat) : (s.setFld p f v).qs = s.qs := rfl
@[simp] theorem State.setFld_qwait (p : Nat) (f : Fld) (v : Nat) : (s.setFld p f v).qwait = s.qwait := rfl
@[simp] theorem State.setFld_sch (p : Nat) (f : Fld) (v : Nat) : (s.setFld p f v).sch = s.sch := rfl
@[simp] theorem State.setFld_pol (p : Nat) (f : Fld) (v : Nat) : (s.setFld p f v).pol = s.pol := rfl
@[simp] theorem State.setFld_tile (p : Nat) (f : Fld) (v : Nat) : (s.setFld p f v).tile = s.tile := rfl
@[simp] theorem State.setFld_run (p : Nat) (f : Fld) (v : Nat) : (s.setFld p f v).run = s.run := rfl
@[simp] theorem State.setFld_img (p : Nat) (f : Fld) (v : Nat) : (s.setFld p f v).img = s.img := rfl
@[simp] theorem State.setFld_pv (p : Nat) (f : Fld) (v : Nat) : (s.setFld p f v).pv = s.pv := rfl
@[simp] theorem State.setFld_noc (p : Nat) (f : Fld) (v : Nat) : (s.setFld p f v).noc = s.noc := rfl
@[simp] theorem State.setFld_fab (p : Nat) (f : Fld) (v : Nat) : (s.setFld p f v).fab = s.fab := rfl
@[simp] theorem State.setFld_disc (p : Nat) (f : Fld) (v : Nat) : (s.setFld p f v).disc = s.disc := rfl
@[simp] theorem State.setFld_cst (p : Nat) (f : Fld) (v : Nat) : (s.setFld p f v).cst = s.cst := rfl
@[simp] theorem State.setFld_host (p : Nat) (f : Fld) (v : Nat) : (s.setFld p f v).host = s.host := rfl
@[simp] theorem State.setFld_dbg (p : Nat) (f : Fld) (v : Nat) : (s.setFld p f v).dbg = s.dbg := rfl
@[simp] theorem State.setFld_flt (p : Nat) (f : Fld) (v : Nat) : (s.setFld p f v).flt = s.flt := rfl
@[simp] theorem State.setFld_blk (p : Nat) (f : Fld) (v : Nat) (q : Nat) : (s.setFld p f v).blk q = s.blk q := rfl

/-! ### setShadow -/

@[simp] theorem State.setShadow_pending (p : Nat) (f : Fld) (v : Nat) : (s.setShadow p f v).pending = s.pending := rfl
@[simp] theorem State.setShadow_held (p : Nat) (f : Fld) (v : Nat) : (s.setShadow p f v).held = s.held := rfl
@[simp] theorem State.setShadow_freeIdx (p : Nat) (f : Fld) (v : Nat) : (s.setShadow p f v).freeIdx = s.freeIdx := rfl
@[simp] theorem State.setShadow_trainings (p : Nat) (f : Fld) (v : Nat) : (s.setShadow p f v).trainings =
    s.trainings := rfl
@[simp] theorem State.setShadow_si (p : Nat) (f : Fld) (v : Nat) : (s.setShadow p f v).si = s.si := rfl
@[simp] theorem State.setShadow_regs (p : Nat) (f : Fld) (v : Nat) : (s.setShadow p f v).regs = s.regs := rfl
@[simp] theorem State.setShadow_live (p : Nat) (f : Fld) (v : Nat) : (s.setShadow p f v).live = s.live := rfl
@[simp] theorem State.setShadow_resp (p : Nat) (f : Fld) (v : Nat) : (s.setShadow p f v).resp = s.resp := rfl
@[simp] theorem State.setShadow_sent (p : Nat) (f : Fld) (v : Nat) : (s.setShadow p f v).sent = s.sent := rfl
@[simp] theorem State.setShadow_srstBusy (p : Nat) (f : Fld) (v : Nat) : (s.setShadow p f v).srstBusy =
    s.srstBusy := rfl
@[simp] theorem State.setShadow_srstAt (p : Nat) (f : Fld) (v : Nat) : (s.setShadow p f v).srstAt = s.srstAt := rfl
@[simp] theorem State.setShadow_errAt (p : Nat) (f : Fld) (v : Nat) : (s.setShadow p f v).errAt = s.errAt := rfl
@[simp] theorem State.setShadow_hhReset (p : Nat) (f : Fld) (v : Nat) : (s.setShadow p f v).hhReset = s.hhReset := rfl
@[simp] theorem State.setShadow_warmDue (p : Nat) (f : Fld) (v : Nat) : (s.setShadow p f v).warmDue = s.warmDue := rfl
@[simp] theorem State.setShadow_por (p : Nat) (f : Fld) (v : Nat) : (s.setShadow p f v).por = s.por := rfl
@[simp] theorem State.setShadow_lastRst (p : Nat) (f : Fld) (v : Nat) : (s.setShadow p f v).lastRst = s.lastRst := rfl
@[simp] theorem State.setShadow_tb (p : Nat) (f : Fld) (v : Nat) : (s.setShadow p f v).tb = s.tb := rfl
@[simp] theorem State.setShadow_mx (p : Nat) (f : Fld) (v : Nat) : (s.setShadow p f v).mx = s.mx := rfl
@[simp] theorem State.setShadow_ln (p : Nat) (f : Fld) (v : Nat) : (s.setShadow p f v).ln = s.ln := rfl
@[simp] theorem State.setShadow_wh (p : Nat) (f : Fld) (v : Nat) : (s.setShadow p f v).wh = s.wh := rfl
@[simp] theorem State.setShadow_wb (p : Nat) (f : Fld) (v : Nat) : (s.setShadow p f v).wb = s.wb := rfl
@[simp] theorem State.setShadow_dr (p : Nat) (f : Fld) (v : Nat) : (s.setShadow p f v).dr = s.dr := rfl
@[simp] theorem State.setShadow_dram (p : Nat) (f : Fld) (v : Nat) : (s.setShadow p f v).dram = s.dram := rfl
@[simp] theorem State.setShadow_qs (p : Nat) (f : Fld) (v : Nat) : (s.setShadow p f v).qs = s.qs := rfl
@[simp] theorem State.setShadow_qwait (p : Nat) (f : Fld) (v : Nat) : (s.setShadow p f v).qwait = s.qwait := rfl
@[simp] theorem State.setShadow_sch (p : Nat) (f : Fld) (v : Nat) : (s.setShadow p f v).sch = s.sch := rfl
@[simp] theorem State.setShadow_pol (p : Nat) (f : Fld) (v : Nat) : (s.setShadow p f v).pol = s.pol := rfl
@[simp] theorem State.setShadow_tile (p : Nat) (f : Fld) (v : Nat) : (s.setShadow p f v).tile = s.tile := rfl
@[simp] theorem State.setShadow_run (p : Nat) (f : Fld) (v : Nat) : (s.setShadow p f v).run = s.run := rfl
@[simp] theorem State.setShadow_img (p : Nat) (f : Fld) (v : Nat) : (s.setShadow p f v).img = s.img := rfl
@[simp] theorem State.setShadow_pv (p : Nat) (f : Fld) (v : Nat) : (s.setShadow p f v).pv = s.pv := rfl
@[simp] theorem State.setShadow_noc (p : Nat) (f : Fld) (v : Nat) : (s.setShadow p f v).noc = s.noc := rfl
@[simp] theorem State.setShadow_fab (p : Nat) (f : Fld) (v : Nat) : (s.setShadow p f v).fab = s.fab := rfl
@[simp] theorem State.setShadow_disc (p : Nat) (f : Fld) (v : Nat) : (s.setShadow p f v).disc = s.disc := rfl
@[simp] theorem State.setShadow_cst (p : Nat) (f : Fld) (v : Nat) : (s.setShadow p f v).cst = s.cst := rfl
@[simp] theorem State.setShadow_host (p : Nat) (f : Fld) (v : Nat) : (s.setShadow p f v).host = s.host := rfl
@[simp] theorem State.setShadow_dbg (p : Nat) (f : Fld) (v : Nat) : (s.setShadow p f v).dbg = s.dbg := rfl
@[simp] theorem State.setShadow_flt (p : Nat) (f : Fld) (v : Nat) : (s.setShadow p f v).flt = s.flt := rfl
@[simp] theorem State.setShadow_fld (p : Nat) (f : Fld) (v : Nat) (q : Nat) (g : Fld) : (s.setShadow p f v).fld q g =
    s.fld q g := rfl
@[simp] theorem State.setShadow_on (p : Nat) (f : Fld) (v : Nat) (q : Nat) (g : Fld) : (s.setShadow p f v).on q g =
    s.on q g := rfl
@[simp] theorem State.setShadow_owner (p : Nat) (f : Fld) (v : Nat) (q : Nat) : (s.setShadow p f v).owner q =
    s.owner q := rfl
@[simp] theorem State.setShadow_liveMask (p : Nat) (f : Fld) (v : Nat) (q : Nat) : (s.setShadow p f v).liveMask q =
    s.liveMask q := rfl
@[simp] theorem State.setShadow_blk (p : Nat) (f : Fld) (v : Nat) (q : Nat) : (s.setShadow p f v).blk q =
    s.blk q := rfl

/-! ### dropShadows -/

@[simp] theorem State.dropShadows_pending (p : Nat) : (s.dropShadows p).pending = s.pending := rfl
@[simp] theorem State.dropShadows_held (p : Nat) : (s.dropShadows p).held = s.held := rfl
@[simp] theorem State.dropShadows_freeIdx (p : Nat) : (s.dropShadows p).freeIdx = s.freeIdx := rfl
@[simp] theorem State.dropShadows_trainings (p : Nat) : (s.dropShadows p).trainings = s.trainings := rfl
@[simp] theorem State.dropShadows_si (p : Nat) : (s.dropShadows p).si = s.si := rfl
@[simp] theorem State.dropShadows_regs (p : Nat) : (s.dropShadows p).regs = s.regs := rfl
@[simp] theorem State.dropShadows_live (p : Nat) : (s.dropShadows p).live = s.live := rfl
@[simp] theorem State.dropShadows_resp (p : Nat) : (s.dropShadows p).resp = s.resp := rfl
@[simp] theorem State.dropShadows_sent (p : Nat) : (s.dropShadows p).sent = s.sent := rfl
@[simp] theorem State.dropShadows_srstBusy (p : Nat) : (s.dropShadows p).srstBusy = s.srstBusy := rfl
@[simp] theorem State.dropShadows_srstAt (p : Nat) : (s.dropShadows p).srstAt = s.srstAt := rfl
@[simp] theorem State.dropShadows_errAt (p : Nat) : (s.dropShadows p).errAt = s.errAt := rfl
@[simp] theorem State.dropShadows_hhReset (p : Nat) : (s.dropShadows p).hhReset = s.hhReset := rfl
@[simp] theorem State.dropShadows_warmDue (p : Nat) : (s.dropShadows p).warmDue = s.warmDue := rfl
@[simp] theorem State.dropShadows_por (p : Nat) : (s.dropShadows p).por = s.por := rfl
@[simp] theorem State.dropShadows_lastRst (p : Nat) : (s.dropShadows p).lastRst = s.lastRst := rfl
@[simp] theorem State.dropShadows_tb (p : Nat) : (s.dropShadows p).tb = s.tb := rfl
@[simp] theorem State.dropShadows_mx (p : Nat) : (s.dropShadows p).mx = s.mx := rfl
@[simp] theorem State.dropShadows_ln (p : Nat) : (s.dropShadows p).ln = s.ln := rfl
@[simp] theorem State.dropShadows_wh (p : Nat) : (s.dropShadows p).wh = s.wh := rfl
@[simp] theorem State.dropShadows_wb (p : Nat) : (s.dropShadows p).wb = s.wb := rfl
@[simp] theorem State.dropShadows_dr (p : Nat) : (s.dropShadows p).dr = s.dr := rfl
@[simp] theorem State.dropShadows_dram (p : Nat) : (s.dropShadows p).dram = s.dram := rfl
@[simp] theorem State.dropShadows_qs (p : Nat) : (s.dropShadows p).qs = s.qs := rfl
@[simp] theorem State.dropShadows_qwait (p : Nat) : (s.dropShadows p).qwait = s.qwait := rfl
@[simp] theorem State.dropShadows_sch (p : Nat) : (s.dropShadows p).sch = s.sch := rfl
@[simp] theorem State.dropShadows_pol (p : Nat) : (s.dropShadows p).pol = s.pol := rfl
@[simp] theorem State.dropShadows_tile (p : Nat) : (s.dropShadows p).tile = s.tile := rfl
@[simp] theorem State.dropShadows_run (p : Nat) : (s.dropShadows p).run = s.run := rfl
@[simp] theorem State.dropShadows_img (p : Nat) : (s.dropShadows p).img = s.img := rfl
@[simp] theorem State.dropShadows_pv (p : Nat) : (s.dropShadows p).pv = s.pv := rfl
@[simp] theorem State.dropShadows_noc (p : Nat) : (s.dropShadows p).noc = s.noc := rfl
@[simp] theorem State.dropShadows_fab (p : Nat) : (s.dropShadows p).fab = s.fab := rfl
@[simp] theorem State.dropShadows_disc (p : Nat) : (s.dropShadows p).disc = s.disc := rfl
@[simp] theorem State.dropShadows_cst (p : Nat) : (s.dropShadows p).cst = s.cst := rfl
@[simp] theorem State.dropShadows_host (p : Nat) : (s.dropShadows p).host = s.host := rfl
@[simp] theorem State.dropShadows_dbg (p : Nat) : (s.dropShadows p).dbg = s.dbg := rfl
@[simp] theorem State.dropShadows_flt (p : Nat) : (s.dropShadows p).flt = s.flt := rfl
@[simp] theorem State.dropShadows_fld (p : Nat) (q : Nat) (g : Fld) : (s.dropShadows p).fld q g = s.fld q g := rfl
@[simp] theorem State.dropShadows_on (p : Nat) (q : Nat) (g : Fld) : (s.dropShadows p).on q g = s.on q g := rfl
@[simp] theorem State.dropShadows_owner (p : Nat) (q : Nat) : (s.dropShadows p).owner q = s.owner q := rfl
@[simp] theorem State.dropShadows_liveMask (p : Nat) (q : Nat) : (s.dropShadows p).liveMask q = s.liveMask q := rfl
@[simp] theorem State.dropShadows_blk (p : Nat) (q : Nat) : (s.dropShadows p).blk q = s.blk q := rfl

/-! ### drew -/

@[simp] theorem State.drew_pending (n : Nat) : (s.drew n).pending = s.pending := rfl
@[simp] theorem State.drew_held (n : Nat) : (s.drew n).held = s.held := rfl
@[simp] theorem State.drew_trainings (n : Nat) : (s.drew n).trainings = s.trainings := rfl
@[simp] theorem State.drew_si (n : Nat) : (s.drew n).si = s.si := rfl
@[simp] theorem State.drew_regs (n : Nat) : (s.drew n).regs = s.regs := rfl
@[simp] theorem State.drew_shadows (n : Nat) : (s.drew n).shadows = s.shadows := rfl
@[simp] theorem State.drew_live (n : Nat) : (s.drew n).live = s.live := rfl
@[simp] theorem State.drew_resp (n : Nat) : (s.drew n).resp = s.resp := rfl
@[simp] theorem State.drew_sent (n : Nat) : (s.drew n).sent = s.sent := rfl
@[simp] theorem State.drew_srstBusy (n : Nat) : (s.drew n).srstBusy = s.srstBusy := rfl
@[simp] theorem State.drew_srstAt (n : Nat) : (s.drew n).srstAt = s.srstAt := rfl
@[simp] theorem State.drew_errAt (n : Nat) : (s.drew n).errAt = s.errAt := rfl
@[simp] theorem State.drew_hhReset (n : Nat) : (s.drew n).hhReset = s.hhReset := rfl
@[simp] theorem State.drew_warmDue (n : Nat) : (s.drew n).warmDue = s.warmDue := rfl
@[simp] theorem State.drew_por (n : Nat) : (s.drew n).por = s.por := rfl
@[simp] theorem State.drew_lastRst (n : Nat) : (s.drew n).lastRst = s.lastRst := rfl
@[simp] theorem State.drew_tb (n : Nat) : (s.drew n).tb = s.tb := rfl
@[simp] theorem State.drew_mx (n : Nat) : (s.drew n).mx = s.mx := rfl
@[simp] theorem State.drew_ln (n : Nat) : (s.drew n).ln = s.ln := rfl
@[simp] theorem State.drew_wh (n : Nat) : (s.drew n).wh = s.wh := rfl
@[simp] theorem State.drew_wb (n : Nat) : (s.drew n).wb = s.wb := rfl
@[simp] theorem State.drew_dr (n : Nat) : (s.drew n).dr = s.dr := rfl
@[simp] theorem State.drew_dram (n : Nat) : (s.drew n).dram = s.dram := rfl
@[simp] theorem State.drew_qs (n : Nat) : (s.drew n).qs = s.qs := rfl
@[simp] theorem State.drew_qwait (n : Nat) : (s.drew n).qwait = s.qwait := rfl
@[simp] theorem State.drew_sch (n : Nat) : (s.drew n).sch = s.sch := rfl
@[simp] theorem State.drew_pol (n : Nat) : (s.drew n).pol = s.pol := rfl
@[simp] theorem State.drew_tile (n : Nat) : (s.drew n).tile = s.tile := rfl
@[simp] theorem State.drew_run (n : Nat) : (s.drew n).run = s.run := rfl
@[simp] theorem State.drew_img (n : Nat) : (s.drew n).img = s.img := rfl
@[simp] theorem State.drew_pv (n : Nat) : (s.drew n).pv = s.pv := rfl
@[simp] theorem State.drew_noc (n : Nat) : (s.drew n).noc = s.noc := rfl
@[simp] theorem State.drew_fab (n : Nat) : (s.drew n).fab = s.fab := rfl
@[simp] theorem State.drew_disc (n : Nat) : (s.drew n).disc = s.disc := rfl
@[simp] theorem State.drew_cst (n : Nat) : (s.drew n).cst = s.cst := rfl
@[simp] theorem State.drew_host (n : Nat) : (s.drew n).host = s.host := rfl
@[simp] theorem State.drew_dbg (n : Nat) : (s.drew n).dbg = s.dbg := rfl
@[simp] theorem State.drew_flt (n : Nat) : (s.drew n).flt = s.flt := rfl
@[simp] theorem State.drew_fld (n : Nat) (q : Nat) (g : Fld) : (s.drew n).fld q g = s.fld q g := rfl
@[simp] theorem State.drew_on (n : Nat) (q : Nat) (g : Fld) : (s.drew n).on q g = s.on q g := rfl
@[simp] theorem State.drew_owner (n : Nat) (q : Nat) : (s.drew n).owner q = s.owner q := rfl
@[simp] theorem State.drew_liveMask (n : Nat) (q : Nat) : (s.drew n).liveMask q = s.liveMask q := rfl
@[simp] theorem State.drew_blk (n : Nat) (q : Nat) : (s.drew n).blk q = s.blk q := rfl

/-! ### send -/

@[simp] theorem State.send_pending (k : String) (d : Nat) (l : List Nat) : (s.send k d l).pending = s.pending := rfl
@[simp] theorem State.send_held (k : String) (d : Nat) (l : List Nat) : (s.send k d l).held = s.held := rfl
@[simp] theorem State.send_freeIdx (k : String) (d : Nat) (l : List Nat) : (s.send k d l).freeIdx = s.freeIdx := rfl
@[simp] theorem State.send_trainings (k : String) (d : Nat) (l : List Nat) : (s.send k d l).trainings =
    s.trainings := rfl
@[simp] theorem State.send_si (k : String) (d : Nat) (l : List Nat) : (s.send k d l).si = s.si := rfl
@[simp] theorem State.send_regs (k : String) (d : Nat) (l : List Nat) : (s.send k d l).regs = s.regs := rfl
@[simp] theorem State.send_shadows (k : String) (d : Nat) (l : List Nat) : (s.send k d l).shadows = s.shadows := rfl
@[simp] theorem State.send_live (k : String) (d : Nat) (l : List Nat) : (s.send k d l).live = s.live := rfl
@[simp] theorem State.send_resp (k : String) (d : Nat) (l : List Nat) : (s.send k d l).resp = s.resp := rfl
@[simp] theorem State.send_srstBusy (k : String) (d : Nat) (l : List Nat) : (s.send k d l).srstBusy =
    s.srstBusy := rfl
@[simp] theorem State.send_srstAt (k : String) (d : Nat) (l : List Nat) : (s.send k d l).srstAt = s.srstAt := rfl
@[simp] theorem State.send_errAt (k : String) (d : Nat) (l : List Nat) : (s.send k d l).errAt = s.errAt := rfl
@[simp] theorem State.send_hhReset (k : String) (d : Nat) (l : List Nat) : (s.send k d l).hhReset = s.hhReset := rfl
@[simp] theorem State.send_warmDue (k : String) (d : Nat) (l : List Nat) : (s.send k d l).warmDue = s.warmDue := rfl
@[simp] theorem State.send_por (k : String) (d : Nat) (l : List Nat) : (s.send k d l).por = s.por := rfl
@[simp] theorem State.send_lastRst (k : String) (d : Nat) (l : List Nat) : (s.send k d l).lastRst = s.lastRst := rfl
@[simp] theorem State.send_tb (k : String) (d : Nat) (l : List Nat) : (s.send k d l).tb = s.tb := rfl
@[simp] theorem State.send_mx (k : String) (d : Nat) (l : List Nat) : (s.send k d l).mx = s.mx := rfl
@[simp] theorem State.send_ln (k : String) (d : Nat) (l : List Nat) : (s.send k d l).ln = s.ln := rfl
@[simp] theorem State.send_wh (k : String) (d : Nat) (l : List Nat) : (s.send k d l).wh = s.wh := rfl
@[simp] theorem State.send_wb (k : String) (d : Nat) (l : List Nat) : (s.send k d l).wb = s.wb := rfl
@[simp] theorem State.send_dr (k : String) (d : Nat) (l : List Nat) : (s.send k d l).dr = s.dr := rfl
@[simp] theorem State.send_dram (k : String) (d : Nat) (l : List Nat) : (s.send k d l).dram = s.dram := rfl
@[simp] theorem State.send_qs (k : String) (d : Nat) (l : List Nat) : (s.send k d l).qs = s.qs := rfl
@[simp] theorem State.send_qwait (k : String) (d : Nat) (l : List Nat) : (s.send k d l).qwait = s.qwait := rfl
@[simp] theorem State.send_sch (k : String) (d : Nat) (l : List Nat) : (s.send k d l).sch = s.sch := rfl
@[simp] theorem State.send_pol (k : String) (d : Nat) (l : List Nat) : (s.send k d l).pol = s.pol := rfl
@[simp] theorem State.send_tile (k : String) (d : Nat) (l : List Nat) : (s.send k d l).tile = s.tile := rfl
@[simp] theorem State.send_run (k : String) (d : Nat) (l : List Nat) : (s.send k d l).run = s.run := rfl
@[simp] theorem State.send_img (k : String) (d : Nat) (l : List Nat) : (s.send k d l).img = s.img := rfl
@[simp] theorem State.send_pv (k : String) (d : Nat) (l : List Nat) : (s.send k d l).pv = s.pv := rfl
@[simp] theorem State.send_noc (k : String) (d : Nat) (l : List Nat) : (s.send k d l).noc = s.noc := rfl
@[simp] theorem State.send_fab (k : String) (d : Nat) (l : List Nat) : (s.send k d l).fab = s.fab := rfl
@[simp] theorem State.send_disc (k : String) (d : Nat) (l : List Nat) : (s.send k d l).disc = s.disc := rfl
@[simp] theorem State.send_cst (k : String) (d : Nat) (l : List Nat) : (s.send k d l).cst = s.cst := rfl
@[simp] theorem State.send_host (k : String) (d : Nat) (l : List Nat) : (s.send k d l).host = s.host := rfl
@[simp] theorem State.send_dbg (k : String) (d : Nat) (l : List Nat) : (s.send k d l).dbg = s.dbg := rfl
@[simp] theorem State.send_flt (k : String) (d : Nat) (l : List Nat) : (s.send k d l).flt = s.flt := rfl
@[simp] theorem State.send_fld (k : String) (d : Nat) (l : List Nat) (q : Nat) (g : Fld) : (s.send k d l).fld q g =
    s.fld q g := rfl
@[simp] theorem State.send_on (k : String) (d : Nat) (l : List Nat) (q : Nat) (g : Fld) : (s.send k d l).on q g =
    s.on q g := rfl
@[simp] theorem State.send_owner (k : String) (d : Nat) (l : List Nat) (q : Nat) : (s.send k d l).owner q =
    s.owner q := rfl
@[simp] theorem State.send_liveMask (k : String) (d : Nat) (l : List Nat) (q : Nat) : (s.send k d l).liveMask q =
    s.liveMask q := rfl
@[simp] theorem State.send_blk (k : String) (d : Nat) (l : List Nat) (q : Nat) : (s.send k d l).blk q = s.blk q := rfl

/-! ### answer -/

@[simp] theorem State.answer_pending (l : List Nat) : (s.answer l).pending = s.pending := rfl
@[simp] theorem State.answer_held (l : List Nat) : (s.answer l).held = s.held := rfl
@[simp] theorem State.answer_freeIdx (l : List Nat) : (s.answer l).freeIdx = s.freeIdx := rfl
@[simp] theorem State.answer_trainings (l : List Nat) : (s.answer l).trainings = s.trainings := rfl
@[simp] theorem State.answer_si (l : List Nat) : (s.answer l).si = s.si := rfl
@[simp] theorem State.answer_regs (l : List Nat) : (s.answer l).regs = s.regs := rfl
@[simp] theorem State.answer_shadows (l : List Nat) : (s.answer l).shadows = s.shadows := rfl
@[simp] theorem State.answer_live (l : List Nat) : (s.answer l).live = s.live := rfl
@[simp] theorem State.answer_sent (l : List Nat) : (s.answer l).sent = s.sent := rfl
@[simp] theorem State.answer_srstBusy (l : List Nat) : (s.answer l).srstBusy = s.srstBusy := rfl
@[simp] theorem State.answer_srstAt (l : List Nat) : (s.answer l).srstAt = s.srstAt := rfl
@[simp] theorem State.answer_errAt (l : List Nat) : (s.answer l).errAt = s.errAt := rfl
@[simp] theorem State.answer_hhReset (l : List Nat) : (s.answer l).hhReset = s.hhReset := rfl
@[simp] theorem State.answer_warmDue (l : List Nat) : (s.answer l).warmDue = s.warmDue := rfl
@[simp] theorem State.answer_por (l : List Nat) : (s.answer l).por = s.por := rfl
@[simp] theorem State.answer_lastRst (l : List Nat) : (s.answer l).lastRst = s.lastRst := rfl
@[simp] theorem State.answer_tb (l : List Nat) : (s.answer l).tb = s.tb := rfl
@[simp] theorem State.answer_mx (l : List Nat) : (s.answer l).mx = s.mx := rfl
@[simp] theorem State.answer_ln (l : List Nat) : (s.answer l).ln = s.ln := rfl
@[simp] theorem State.answer_wh (l : List Nat) : (s.answer l).wh = s.wh := rfl
@[simp] theorem State.answer_wb (l : List Nat) : (s.answer l).wb = s.wb := rfl
@[simp] theorem State.answer_dr (l : List Nat) : (s.answer l).dr = s.dr := rfl
@[simp] theorem State.answer_dram (l : List Nat) : (s.answer l).dram = s.dram := rfl
@[simp] theorem State.answer_qs (l : List Nat) : (s.answer l).qs = s.qs := rfl
@[simp] theorem State.answer_qwait (l : List Nat) : (s.answer l).qwait = s.qwait := rfl
@[simp] theorem State.answer_sch (l : List Nat) : (s.answer l).sch = s.sch := rfl
@[simp] theorem State.answer_pol (l : List Nat) : (s.answer l).pol = s.pol := rfl
@[simp] theorem State.answer_tile (l : List Nat) : (s.answer l).tile = s.tile := rfl
@[simp] theorem State.answer_run (l : List Nat) : (s.answer l).run = s.run := rfl
@[simp] theorem State.answer_img (l : List Nat) : (s.answer l).img = s.img := rfl
@[simp] theorem State.answer_pv (l : List Nat) : (s.answer l).pv = s.pv := rfl
@[simp] theorem State.answer_noc (l : List Nat) : (s.answer l).noc = s.noc := rfl
@[simp] theorem State.answer_fab (l : List Nat) : (s.answer l).fab = s.fab := rfl
@[simp] theorem State.answer_disc (l : List Nat) : (s.answer l).disc = s.disc := rfl
@[simp] theorem State.answer_cst (l : List Nat) : (s.answer l).cst = s.cst := rfl
@[simp] theorem State.answer_host (l : List Nat) : (s.answer l).host = s.host := rfl
@[simp] theorem State.answer_dbg (l : List Nat) : (s.answer l).dbg = s.dbg := rfl
@[simp] theorem State.answer_flt (l : List Nat) : (s.answer l).flt = s.flt := rfl
@[simp] theorem State.answer_fld (l : List Nat) (q : Nat) (g : Fld) : (s.answer l).fld q g = s.fld q g := rfl
@[simp] theorem State.answer_on (l : List Nat) (q : Nat) (g : Fld) : (s.answer l).on q g = s.on q g := rfl
@[simp] theorem State.answer_owner (l : List Nat) (q : Nat) : (s.answer l).owner q = s.owner q := rfl
@[simp] theorem State.answer_liveMask (l : List Nat) (q : Nat) : (s.answer l).liveMask q = s.liveMask q := rfl
@[simp] theorem State.answer_blk (l : List Nat) (q : Nat) : (s.answer l).blk q = s.blk q := rfl

/-! ### setTl -/

@[simp] theorem State.setTl_pending (t : Nat) (x : TileSt) : (s.setTl t x).pending = s.pending := rfl
@[simp] theorem State.setTl_held (t : Nat) (x : TileSt) : (s.setTl t x).held = s.held := rfl
@[simp] theorem State.setTl_freeIdx (t : Nat) (x : TileSt) : (s.setTl t x).freeIdx = s.freeIdx := rfl
@[simp] theorem State.setTl_trainings (t : Nat) (x : TileSt) : (s.setTl t x).trainings = s.trainings := rfl
@[simp] theorem State.setTl_si (t : Nat) (x : TileSt) : (s.setTl t x).si = s.si := rfl
@[simp] theorem State.setTl_regs (t : Nat) (x : TileSt) : (s.setTl t x).regs = s.regs := rfl
@[simp] theorem State.setTl_shadows (t : Nat) (x : TileSt) : (s.setTl t x).shadows = s.shadows := rfl
@[simp] theorem State.setTl_live (t : Nat) (x : TileSt) : (s.setTl t x).live = s.live := rfl
@[simp] theorem State.setTl_resp (t : Nat) (x : TileSt) : (s.setTl t x).resp = s.resp := rfl
@[simp] theorem State.setTl_sent (t : Nat) (x : TileSt) : (s.setTl t x).sent = s.sent := rfl
@[simp] theorem State.setTl_srstBusy (t : Nat) (x : TileSt) : (s.setTl t x).srstBusy = s.srstBusy := rfl
@[simp] theorem State.setTl_srstAt (t : Nat) (x : TileSt) : (s.setTl t x).srstAt = s.srstAt := rfl
@[simp] theorem State.setTl_errAt (t : Nat) (x : TileSt) : (s.setTl t x).errAt = s.errAt := rfl
@[simp] theorem State.setTl_hhReset (t : Nat) (x : TileSt) : (s.setTl t x).hhReset = s.hhReset := rfl
@[simp] theorem State.setTl_warmDue (t : Nat) (x : TileSt) : (s.setTl t x).warmDue = s.warmDue := rfl
@[simp] theorem State.setTl_por (t : Nat) (x : TileSt) : (s.setTl t x).por = s.por := rfl
@[simp] theorem State.setTl_lastRst (t : Nat) (x : TileSt) : (s.setTl t x).lastRst = s.lastRst := rfl
@[simp] theorem State.setTl_tb (t : Nat) (x : TileSt) : (s.setTl t x).tb = s.tb := rfl
@[simp] theorem State.setTl_mx (t : Nat) (x : TileSt) : (s.setTl t x).mx = s.mx := rfl
@[simp] theorem State.setTl_ln (t : Nat) (x : TileSt) : (s.setTl t x).ln = s.ln := rfl
@[simp] theorem State.setTl_wh (t : Nat) (x : TileSt) : (s.setTl t x).wh = s.wh := rfl
@[simp] theorem State.setTl_wb (t : Nat) (x : TileSt) : (s.setTl t x).wb = s.wb := rfl
@[simp] theorem State.setTl_dr (t : Nat) (x : TileSt) : (s.setTl t x).dr = s.dr := rfl
@[simp] theorem State.setTl_dram (t : Nat) (x : TileSt) : (s.setTl t x).dram = s.dram := rfl
@[simp] theorem State.setTl_qs (t : Nat) (x : TileSt) : (s.setTl t x).qs = s.qs := rfl
@[simp] theorem State.setTl_qwait (t : Nat) (x : TileSt) : (s.setTl t x).qwait = s.qwait := rfl
@[simp] theorem State.setTl_sch (t : Nat) (x : TileSt) : (s.setTl t x).sch = s.sch := rfl
@[simp] theorem State.setTl_pol (t : Nat) (x : TileSt) : (s.setTl t x).pol = s.pol := rfl
@[simp] theorem State.setTl_run (t : Nat) (x : TileSt) : (s.setTl t x).run = s.run := rfl
@[simp] theorem State.setTl_img (t : Nat) (x : TileSt) : (s.setTl t x).img = s.img := rfl
@[simp] theorem State.setTl_pv (t : Nat) (x : TileSt) : (s.setTl t x).pv = s.pv := rfl
@[simp] theorem State.setTl_noc (t : Nat) (x : TileSt) : (s.setTl t x).noc = s.noc := rfl
@[simp] theorem State.setTl_fab (t : Nat) (x : TileSt) : (s.setTl t x).fab = s.fab := rfl
@[simp] theorem State.setTl_disc (t : Nat) (x : TileSt) : (s.setTl t x).disc = s.disc := rfl
@[simp] theorem State.setTl_cst (t : Nat) (x : TileSt) : (s.setTl t x).cst = s.cst := rfl
@[simp] theorem State.setTl_host (t : Nat) (x : TileSt) : (s.setTl t x).host = s.host := rfl
@[simp] theorem State.setTl_dbg (t : Nat) (x : TileSt) : (s.setTl t x).dbg = s.dbg := rfl
@[simp] theorem State.setTl_flt (t : Nat) (x : TileSt) : (s.setTl t x).flt = s.flt := rfl
@[simp] theorem State.setTl_fld (t : Nat) (x : TileSt) (q : Nat) (g : Fld) : (s.setTl t x).fld q g = s.fld q g := rfl
@[simp] theorem State.setTl_on (t : Nat) (x : TileSt) (q : Nat) (g : Fld) : (s.setTl t x).on q g = s.on q g := rfl
@[simp] theorem State.setTl_owner (t : Nat) (x : TileSt) (q : Nat) : (s.setTl t x).owner q = s.owner q := rfl
@[simp] theorem State.setTl_liveMask (t : Nat) (x : TileSt) (q : Nat) : (s.setTl t x).liveMask q = s.liveMask q := rfl
@[simp] theorem State.setTl_blk (t : Nat) (x : TileSt) (q : Nat) : (s.setTl t x).blk q = s.blk q := rfl

/-! ### setRun -/

@[simp] theorem State.setRun_pending (h : Nat) (r : RunSt) : (s.setRun h r).pending = s.pending := rfl
@[simp] theorem State.setRun_held (h : Nat) (r : RunSt) : (s.setRun h r).held = s.held := rfl
@[simp] theorem State.setRun_freeIdx (h : Nat) (r : RunSt) : (s.setRun h r).freeIdx = s.freeIdx := rfl
@[simp] theorem State.setRun_trainings (h : Nat) (r : RunSt) : (s.setRun h r).trainings = s.trainings := rfl
@[simp] theorem State.setRun_si (h : Nat) (r : RunSt) : (s.setRun h r).si = s.si := rfl
@[simp] theorem State.setRun_regs (h : Nat) (r : RunSt) : (s.setRun h r).regs = s.regs := rfl
@[simp] theorem State.setRun_shadows (h : Nat) (r : RunSt) : (s.setRun h r).shadows = s.shadows := rfl
@[simp] theorem State.setRun_live (h : Nat) (r : RunSt) : (s.setRun h r).live = s.live := rfl
@[simp] theorem State.setRun_resp (h : Nat) (r : RunSt) : (s.setRun h r).resp = s.resp := rfl
@[simp] theorem State.setRun_sent (h : Nat) (r : RunSt) : (s.setRun h r).sent = s.sent := rfl
@[simp] theorem State.setRun_srstBusy (h : Nat) (r : RunSt) : (s.setRun h r).srstBusy = s.srstBusy := rfl
@[simp] theorem State.setRun_srstAt (h : Nat) (r : RunSt) : (s.setRun h r).srstAt = s.srstAt := rfl
@[simp] theorem State.setRun_errAt (h : Nat) (r : RunSt) : (s.setRun h r).errAt = s.errAt := rfl
@[simp] theorem State.setRun_hhReset (h : Nat) (r : RunSt) : (s.setRun h r).hhReset = s.hhReset := rfl
@[simp] theorem State.setRun_warmDue (h : Nat) (r : RunSt) : (s.setRun h r).warmDue = s.warmDue := rfl
@[simp] theorem State.setRun_por (h : Nat) (r : RunSt) : (s.setRun h r).por = s.por := rfl
@[simp] theorem State.setRun_lastRst (h : Nat) (r : RunSt) : (s.setRun h r).lastRst = s.lastRst := rfl
@[simp] theorem State.setRun_tb (h : Nat) (r : RunSt) : (s.setRun h r).tb = s.tb := rfl
@[simp] theorem State.setRun_mx (h : Nat) (r : RunSt) : (s.setRun h r).mx = s.mx := rfl
@[simp] theorem State.setRun_ln (h : Nat) (r : RunSt) : (s.setRun h r).ln = s.ln := rfl
@[simp] theorem State.setRun_wh (h : Nat) (r : RunSt) : (s.setRun h r).wh = s.wh := rfl
@[simp] theorem State.setRun_wb (h : Nat) (r : RunSt) : (s.setRun h r).wb = s.wb := rfl
@[simp] theorem State.setRun_dr (h : Nat) (r : RunSt) : (s.setRun h r).dr = s.dr := rfl
@[simp] theorem State.setRun_dram (h : Nat) (r : RunSt) : (s.setRun h r).dram = s.dram := rfl
@[simp] theorem State.setRun_qs (h : Nat) (r : RunSt) : (s.setRun h r).qs = s.qs := rfl
@[simp] theorem State.setRun_qwait (h : Nat) (r : RunSt) : (s.setRun h r).qwait = s.qwait := rfl
@[simp] theorem State.setRun_sch (h : Nat) (r : RunSt) : (s.setRun h r).sch = s.sch := rfl
@[simp] theorem State.setRun_pol (h : Nat) (r : RunSt) : (s.setRun h r).pol = s.pol := rfl
@[simp] theorem State.setRun_tile (h : Nat) (r : RunSt) : (s.setRun h r).tile = s.tile := rfl
@[simp] theorem State.setRun_img (h : Nat) (r : RunSt) : (s.setRun h r).img = s.img := rfl
@[simp] theorem State.setRun_pv (h : Nat) (r : RunSt) : (s.setRun h r).pv = s.pv := rfl
@[simp] theorem State.setRun_noc (h : Nat) (r : RunSt) : (s.setRun h r).noc = s.noc := rfl
@[simp] theorem State.setRun_fab (h : Nat) (r : RunSt) : (s.setRun h r).fab = s.fab := rfl
@[simp] theorem State.setRun_disc (h : Nat) (r : RunSt) : (s.setRun h r).disc = s.disc := rfl
@[simp] theorem State.setRun_cst (h : Nat) (r : RunSt) : (s.setRun h r).cst = s.cst := rfl
@[simp] theorem State.setRun_host (h : Nat) (r : RunSt) : (s.setRun h r).host = s.host := rfl
@[simp] theorem State.setRun_dbg (h : Nat) (r : RunSt) : (s.setRun h r).dbg = s.dbg := rfl
@[simp] theorem State.setRun_flt (h : Nat) (r : RunSt) : (s.setRun h r).flt = s.flt := rfl
@[simp] theorem State.setRun_fld (h : Nat) (r : RunSt) (q : Nat) (g : Fld) : (s.setRun h r).fld q g = s.fld q g := rfl
@[simp] theorem State.setRun_on (h : Nat) (r : RunSt) (q : Nat) (g : Fld) : (s.setRun h r).on q g = s.on q g := rfl
@[simp] theorem State.setRun_owner (h : Nat) (r : RunSt) (q : Nat) : (s.setRun h r).owner q = s.owner q := rfl
@[simp] theorem State.setRun_liveMask (h : Nat) (r : RunSt) (q : Nat) : (s.setRun h r).liveMask q =
    s.liveMask q := rfl
@[simp] theorem State.setRun_blk (h : Nat) (r : RunSt) (q : Nat) : (s.setRun h r).blk q = s.blk q := rfl

/-! ### setPv -/

@[simp] theorem State.setPv_pending (h : Nat) (v : ProvSt) : (s.setPv h v).pending = s.pending := rfl
@[simp] theorem State.setPv_held (h : Nat) (v : ProvSt) : (s.setPv h v).held = s.held := rfl
@[simp] theorem State.setPv_freeIdx (h : Nat) (v : ProvSt) : (s.setPv h v).freeIdx = s.freeIdx := rfl
@[simp] theorem State.setPv_trainings (h : Nat) (v : ProvSt) : (s.setPv h v).trainings = s.trainings := rfl
@[simp] theorem State.setPv_si (h : Nat) (v : ProvSt) : (s.setPv h v).si = s.si := rfl
@[simp] theorem State.setPv_regs (h : Nat) (v : ProvSt) : (s.setPv h v).regs = s.regs := rfl
@[simp] theorem State.setPv_shadows (h : Nat) (v : ProvSt) : (s.setPv h v).shadows = s.shadows := rfl
@[simp] theorem State.setPv_live (h : Nat) (v : ProvSt) : (s.setPv h v).live = s.live := rfl
@[simp] theorem State.setPv_resp (h : Nat) (v : ProvSt) : (s.setPv h v).resp = s.resp := rfl
@[simp] theorem State.setPv_sent (h : Nat) (v : ProvSt) : (s.setPv h v).sent = s.sent := rfl
@[simp] theorem State.setPv_srstBusy (h : Nat) (v : ProvSt) : (s.setPv h v).srstBusy = s.srstBusy := rfl
@[simp] theorem State.setPv_srstAt (h : Nat) (v : ProvSt) : (s.setPv h v).srstAt = s.srstAt := rfl
@[simp] theorem State.setPv_errAt (h : Nat) (v : ProvSt) : (s.setPv h v).errAt = s.errAt := rfl
@[simp] theorem State.setPv_hhReset (h : Nat) (v : ProvSt) : (s.setPv h v).hhReset = s.hhReset := rfl
@[simp] theorem State.setPv_warmDue (h : Nat) (v : ProvSt) : (s.setPv h v).warmDue = s.warmDue := rfl
@[simp] theorem State.setPv_por (h : Nat) (v : ProvSt) : (s.setPv h v).por = s.por := rfl
@[simp] theorem State.setPv_lastRst (h : Nat) (v : ProvSt) : (s.setPv h v).lastRst = s.lastRst := rfl
@[simp] theorem State.setPv_tb (h : Nat) (v : ProvSt) : (s.setPv h v).tb = s.tb := rfl
@[simp] theorem State.setPv_mx (h : Nat) (v : ProvSt) : (s.setPv h v).mx = s.mx := rfl
@[simp] theorem State.setPv_ln (h : Nat) (v : ProvSt) : (s.setPv h v).ln = s.ln := rfl
@[simp] theorem State.setPv_wh (h : Nat) (v : ProvSt) : (s.setPv h v).wh = s.wh := rfl
@[simp] theorem State.setPv_wb (h : Nat) (v : ProvSt) : (s.setPv h v).wb = s.wb := rfl
@[simp] theorem State.setPv_dr (h : Nat) (v : ProvSt) : (s.setPv h v).dr = s.dr := rfl
@[simp] theorem State.setPv_dram (h : Nat) (v : ProvSt) : (s.setPv h v).dram = s.dram := rfl
@[simp] theorem State.setPv_qs (h : Nat) (v : ProvSt) : (s.setPv h v).qs = s.qs := rfl
@[simp] theorem State.setPv_qwait (h : Nat) (v : ProvSt) : (s.setPv h v).qwait = s.qwait := rfl
@[simp] theorem State.setPv_sch (h : Nat) (v : ProvSt) : (s.setPv h v).sch = s.sch := rfl
@[simp] theorem State.setPv_pol (h : Nat) (v : ProvSt) : (s.setPv h v).pol = s.pol := rfl
@[simp] theorem State.setPv_tile (h : Nat) (v : ProvSt) : (s.setPv h v).tile = s.tile := rfl
@[simp] theorem State.setPv_run (h : Nat) (v : ProvSt) : (s.setPv h v).run = s.run := rfl
@[simp] theorem State.setPv_img (h : Nat) (v : ProvSt) : (s.setPv h v).img = s.img := rfl
@[simp] theorem State.setPv_noc (h : Nat) (v : ProvSt) : (s.setPv h v).noc = s.noc := rfl
@[simp] theorem State.setPv_fab (h : Nat) (v : ProvSt) : (s.setPv h v).fab = s.fab := rfl
@[simp] theorem State.setPv_disc (h : Nat) (v : ProvSt) : (s.setPv h v).disc = s.disc := rfl
@[simp] theorem State.setPv_cst (h : Nat) (v : ProvSt) : (s.setPv h v).cst = s.cst := rfl
@[simp] theorem State.setPv_host (h : Nat) (v : ProvSt) : (s.setPv h v).host = s.host := rfl
@[simp] theorem State.setPv_dbg (h : Nat) (v : ProvSt) : (s.setPv h v).dbg = s.dbg := rfl
@[simp] theorem State.setPv_flt (h : Nat) (v : ProvSt) : (s.setPv h v).flt = s.flt := rfl
@[simp] theorem State.setPv_fld (h : Nat) (v : ProvSt) (q : Nat) (g : Fld) : (s.setPv h v).fld q g = s.fld q g := rfl
@[simp] theorem State.setPv_on (h : Nat) (v : ProvSt) (q : Nat) (g : Fld) : (s.setPv h v).on q g = s.on q g := rfl
@[simp] theorem State.setPv_owner (h : Nat) (v : ProvSt) (q : Nat) : (s.setPv h v).owner q = s.owner q := rfl
@[simp] theorem State.setPv_liveMask (h : Nat) (v : ProvSt) (q : Nat) : (s.setPv h v).liveMask q = s.liveMask q := rfl
@[simp] theorem State.setPv_blk (h : Nat) (v : ProvSt) (q : Nat) : (s.setPv h v).blk q = s.blk q := rfl

/-! ### setQ -/

@[simp] theorem State.setQ_pending (n : Nat) (x : QueueSt) : (s.setQ n x).pending = s.pending := rfl
@[simp] theorem State.setQ_held (n : Nat) (x : QueueSt) : (s.setQ n x).held = s.held := rfl
@[simp] theorem State.setQ_freeIdx (n : Nat) (x : QueueSt) : (s.setQ n x).freeIdx = s.freeIdx := rfl
@[simp] theorem State.setQ_trainings (n : Nat) (x : QueueSt) : (s.setQ n x).trainings = s.trainings := rfl
@[simp] theorem State.setQ_si (n : Nat) (x : QueueSt) : (s.setQ n x).si = s.si := rfl
@[simp] theorem State.setQ_regs (n : Nat) (x : QueueSt) : (s.setQ n x).regs = s.regs := rfl
@[simp] theorem State.setQ_shadows (n : Nat) (x : QueueSt) : (s.setQ n x).shadows = s.shadows := rfl
@[simp] theorem State.setQ_live (n : Nat) (x : QueueSt) : (s.setQ n x).live = s.live := rfl
@[simp] theorem State.setQ_resp (n : Nat) (x : QueueSt) : (s.setQ n x).resp = s.resp := rfl
@[simp] theorem State.setQ_sent (n : Nat) (x : QueueSt) : (s.setQ n x).sent = s.sent := rfl
@[simp] theorem State.setQ_srstBusy (n : Nat) (x : QueueSt) : (s.setQ n x).srstBusy = s.srstBusy := rfl
@[simp] theorem State.setQ_srstAt (n : Nat) (x : QueueSt) : (s.setQ n x).srstAt = s.srstAt := rfl
@[simp] theorem State.setQ_errAt (n : Nat) (x : QueueSt) : (s.setQ n x).errAt = s.errAt := rfl
@[simp] theorem State.setQ_hhReset (n : Nat) (x : QueueSt) : (s.setQ n x).hhReset = s.hhReset := rfl
@[simp] theorem State.setQ_warmDue (n : Nat) (x : QueueSt) : (s.setQ n x).warmDue = s.warmDue := rfl
@[simp] theorem State.setQ_por (n : Nat) (x : QueueSt) : (s.setQ n x).por = s.por := rfl
@[simp] theorem State.setQ_lastRst (n : Nat) (x : QueueSt) : (s.setQ n x).lastRst = s.lastRst := rfl
@[simp] theorem State.setQ_tb (n : Nat) (x : QueueSt) : (s.setQ n x).tb = s.tb := rfl
@[simp] theorem State.setQ_mx (n : Nat) (x : QueueSt) : (s.setQ n x).mx = s.mx := rfl
@[simp] theorem State.setQ_ln (n : Nat) (x : QueueSt) : (s.setQ n x).ln = s.ln := rfl
@[simp] theorem State.setQ_wh (n : Nat) (x : QueueSt) : (s.setQ n x).wh = s.wh := rfl
@[simp] theorem State.setQ_wb (n : Nat) (x : QueueSt) : (s.setQ n x).wb = s.wb := rfl
@[simp] theorem State.setQ_dr (n : Nat) (x : QueueSt) : (s.setQ n x).dr = s.dr := rfl
@[simp] theorem State.setQ_dram (n : Nat) (x : QueueSt) : (s.setQ n x).dram = s.dram := rfl
@[simp] theorem State.setQ_qwait (n : Nat) (x : QueueSt) : (s.setQ n x).qwait = s.qwait := rfl
@[simp] theorem State.setQ_sch (n : Nat) (x : QueueSt) : (s.setQ n x).sch = s.sch := rfl
@[simp] theorem State.setQ_pol (n : Nat) (x : QueueSt) : (s.setQ n x).pol = s.pol := rfl
@[simp] theorem State.setQ_tile (n : Nat) (x : QueueSt) : (s.setQ n x).tile = s.tile := rfl
@[simp] theorem State.setQ_run (n : Nat) (x : QueueSt) : (s.setQ n x).run = s.run := rfl
@[simp] theorem State.setQ_img (n : Nat) (x : QueueSt) : (s.setQ n x).img = s.img := rfl
@[simp] theorem State.setQ_pv (n : Nat) (x : QueueSt) : (s.setQ n x).pv = s.pv := rfl
@[simp] theorem State.setQ_noc (n : Nat) (x : QueueSt) : (s.setQ n x).noc = s.noc := rfl
@[simp] theorem State.setQ_fab (n : Nat) (x : QueueSt) : (s.setQ n x).fab = s.fab := rfl
@[simp] theorem State.setQ_disc (n : Nat) (x : QueueSt) : (s.setQ n x).disc = s.disc := rfl
@[simp] theorem State.setQ_cst (n : Nat) (x : QueueSt) : (s.setQ n x).cst = s.cst := rfl
@[simp] theorem State.setQ_host (n : Nat) (x : QueueSt) : (s.setQ n x).host = s.host := rfl
@[simp] theorem State.setQ_dbg (n : Nat) (x : QueueSt) : (s.setQ n x).dbg = s.dbg := rfl
@[simp] theorem State.setQ_flt (n : Nat) (x : QueueSt) : (s.setQ n x).flt = s.flt := rfl
@[simp] theorem State.setQ_fld (n : Nat) (x : QueueSt) (q : Nat) (g : Fld) : (s.setQ n x).fld q g = s.fld q g := rfl
@[simp] theorem State.setQ_on (n : Nat) (x : QueueSt) (q : Nat) (g : Fld) : (s.setQ n x).on q g = s.on q g := rfl
@[simp] theorem State.setQ_owner (n : Nat) (x : QueueSt) (q : Nat) : (s.setQ n x).owner q = s.owner q := rfl
@[simp] theorem State.setQ_liveMask (n : Nat) (x : QueueSt) (q : Nat) : (s.setQ n x).liveMask q = s.liveMask q := rfl
@[simp] theorem State.setQ_blk (n : Nat) (x : QueueSt) (q : Nat) : (s.setQ n x).blk q = s.blk q := rfl

/-! ### setSc -/

@[simp] theorem State.setSc_pending (p : Nat) (c : SchSt) : (s.setSc p c).pending = s.pending := rfl
@[simp] theorem State.setSc_held (p : Nat) (c : SchSt) : (s.setSc p c).held = s.held := rfl
@[simp] theorem State.setSc_freeIdx (p : Nat) (c : SchSt) : (s.setSc p c).freeIdx = s.freeIdx := rfl
@[simp] theorem State.setSc_trainings (p : Nat) (c : SchSt) : (s.setSc p c).trainings = s.trainings := rfl
@[simp] theorem State.setSc_si (p : Nat) (c : SchSt) : (s.setSc p c).si = s.si := rfl
@[simp] theorem State.setSc_regs (p : Nat) (c : SchSt) : (s.setSc p c).regs = s.regs := rfl
@[simp] theorem State.setSc_shadows (p : Nat) (c : SchSt) : (s.setSc p c).shadows = s.shadows := rfl
@[simp] theorem State.setSc_live (p : Nat) (c : SchSt) : (s.setSc p c).live = s.live := rfl
@[simp] theorem State.setSc_resp (p : Nat) (c : SchSt) : (s.setSc p c).resp = s.resp := rfl
@[simp] theorem State.setSc_sent (p : Nat) (c : SchSt) : (s.setSc p c).sent = s.sent := rfl
@[simp] theorem State.setSc_srstBusy (p : Nat) (c : SchSt) : (s.setSc p c).srstBusy = s.srstBusy := rfl
@[simp] theorem State.setSc_srstAt (p : Nat) (c : SchSt) : (s.setSc p c).srstAt = s.srstAt := rfl
@[simp] theorem State.setSc_errAt (p : Nat) (c : SchSt) : (s.setSc p c).errAt = s.errAt := rfl
@[simp] theorem State.setSc_hhReset (p : Nat) (c : SchSt) : (s.setSc p c).hhReset = s.hhReset := rfl
@[simp] theorem State.setSc_warmDue (p : Nat) (c : SchSt) : (s.setSc p c).warmDue = s.warmDue := rfl
@[simp] theorem State.setSc_por (p : Nat) (c : SchSt) : (s.setSc p c).por = s.por := rfl
@[simp] theorem State.setSc_lastRst (p : Nat) (c : SchSt) : (s.setSc p c).lastRst = s.lastRst := rfl
@[simp] theorem State.setSc_tb (p : Nat) (c : SchSt) : (s.setSc p c).tb = s.tb := rfl
@[simp] theorem State.setSc_mx (p : Nat) (c : SchSt) : (s.setSc p c).mx = s.mx := rfl
@[simp] theorem State.setSc_ln (p : Nat) (c : SchSt) : (s.setSc p c).ln = s.ln := rfl
@[simp] theorem State.setSc_wh (p : Nat) (c : SchSt) : (s.setSc p c).wh = s.wh := rfl
@[simp] theorem State.setSc_wb (p : Nat) (c : SchSt) : (s.setSc p c).wb = s.wb := rfl
@[simp] theorem State.setSc_dr (p : Nat) (c : SchSt) : (s.setSc p c).dr = s.dr := rfl
@[simp] theorem State.setSc_dram (p : Nat) (c : SchSt) : (s.setSc p c).dram = s.dram := rfl
@[simp] theorem State.setSc_qs (p : Nat) (c : SchSt) : (s.setSc p c).qs = s.qs := rfl
@[simp] theorem State.setSc_qwait (p : Nat) (c : SchSt) : (s.setSc p c).qwait = s.qwait := rfl
@[simp] theorem State.setSc_pol (p : Nat) (c : SchSt) : (s.setSc p c).pol = s.pol := rfl
@[simp] theorem State.setSc_tile (p : Nat) (c : SchSt) : (s.setSc p c).tile = s.tile := rfl
@[simp] theorem State.setSc_run (p : Nat) (c : SchSt) : (s.setSc p c).run = s.run := rfl
@[simp] theorem State.setSc_img (p : Nat) (c : SchSt) : (s.setSc p c).img = s.img := rfl
@[simp] theorem State.setSc_pv (p : Nat) (c : SchSt) : (s.setSc p c).pv = s.pv := rfl
@[simp] theorem State.setSc_noc (p : Nat) (c : SchSt) : (s.setSc p c).noc = s.noc := rfl
@[simp] theorem State.setSc_fab (p : Nat) (c : SchSt) : (s.setSc p c).fab = s.fab := rfl
@[simp] theorem State.setSc_disc (p : Nat) (c : SchSt) : (s.setSc p c).disc = s.disc := rfl
@[simp] theorem State.setSc_cst (p : Nat) (c : SchSt) : (s.setSc p c).cst = s.cst := rfl
@[simp] theorem State.setSc_host (p : Nat) (c : SchSt) : (s.setSc p c).host = s.host := rfl
@[simp] theorem State.setSc_dbg (p : Nat) (c : SchSt) : (s.setSc p c).dbg = s.dbg := rfl
@[simp] theorem State.setSc_flt (p : Nat) (c : SchSt) : (s.setSc p c).flt = s.flt := rfl
@[simp] theorem State.setSc_fld (p : Nat) (c : SchSt) (q : Nat) (g : Fld) : (s.setSc p c).fld q g = s.fld q g := rfl
@[simp] theorem State.setSc_on (p : Nat) (c : SchSt) (q : Nat) (g : Fld) : (s.setSc p c).on q g = s.on q g := rfl
@[simp] theorem State.setSc_owner (p : Nat) (c : SchSt) (q : Nat) : (s.setSc p c).owner q = s.owner q := rfl
@[simp] theorem State.setSc_liveMask (p : Nat) (c : SchSt) (q : Nat) : (s.setSc p c).liveMask q = s.liveMask q := rfl
@[simp] theorem State.setSc_blk (p : Nat) (c : SchSt) (q : Nat) : (s.setSc p c).blk q = s.blk q := rfl

/-! ### A register, a tile, a queue or a run read after it is written -/

theorem State.fld_setFld_ne {p q : Nat} {f g : Fld} (v : Nat) (h : regKey q g.bit ≠ regKey p f.bit) :
    (s.setFld p f v).fld q g = s.fld q g := Tab.get_set_ne _ _ _ _ h

theorem State.fld_setFld_self (p : Nat) (f : Fld) (v : Nat) (h : Tab.risesFrom 0 s.regs = true) :
    (s.setFld p f v).fld p f = v % 2 ^ f.width := Tab.get_set_self _ _ _ _ h

theorem State.regs_set_rises (p : Nat) (f : Fld) (v : Nat) (h : Tab.risesFrom 0 s.regs = true) :
    Tab.risesFrom 0 (s.setFld p f v).regs = true := Tab.rises_set _ _ _ _ h

theorem State.tl_setTl_ne {t k : Nat} (x : TileSt) (h : k ≠ t) : (s.setTl t x).tl k =
    s.tl k := Tab.get_set_ne _ _ _ _ h

theorem State.tl_setTl_self (t : Nat) (x : TileSt) (h : x ≠ TileSt.reset) : (s.setTl t x).tl t = x := by
  simp only [State.tl, State.setTl, Tab.get, Tab.set, if_neg h, Tab.lookup_insert_self]; rfl

theorem State.q_setQ_ne {n k : Nat} (q : QueueSt) (h : k ≠ n) : (s.setQ n q).q k = s.q k := Tab.get_set_ne _ _ _ _ h

theorem State.runOf_setRun_ne {h k : Nat} (r : RunSt) (e : k ≠ h) : (s.setRun h r).runOf k = s.runOf k :=
  Tab.lookup_insert_ne _ _ e

@[simp] theorem State.runOf_setRun_self (h : Nat) (r : RunSt) : (s.setRun h r).runOf h =
    some r := Tab.lookup_insert_self _ _ _

theorem TileSt.put_nil (x : TileSt) (a : Nat) : x.put a [] = x := rfl

/-- A read of a byte that a write does not reach gives what it gave before. -/
theorem TileSt.byte_put_ne (l : List Byte) (x : TileSt) (A a : Nat) (h : a < A ∨ A + l.length ≤ a) :
    (x.put A l).byte a = x.byte a := by
  induction l generalizing x A with
  | nil => rfl
  | cons b l ih =>
    rw [List.length_cons] at h
    exact (ih { x with sram := Tab.set 0 x.sram A b } (A + 1) (by omega)).trans (Tab.get_set_ne _ _ _ _ (by omega))

/-- A read of a byte just written gives it. -/
theorem TileSt.byte_put (l : List Byte) (x : TileSt) (A j : Nat) (hx : Tab.risesFrom 0 x.sram = true) (h :
    j < l.length) :
    (x.put A l).byte (A + j) = l[j]?.getD 0 := by
  induction l generalizing x A j with
  | nil => cases h
  | cons b l ih =>
    rw [List.length_cons] at h
    cases j with
    | zero =>
      exact (TileSt.byte_put_ne l { x with sram := Tab.set 0 x.sram A b } (A + 1) A (by omega)).trans
        (Tab.get_set_self _ _ _ _ hx)
    | succ j =>
      rw [show A + (j + 1) = A + 1 + j by omega]
      exact ih { x with sram := Tab.set 0 x.sram A b } (A + 1) j (Tab.rises_set _ _ _ _ hx) (by omega)

end Sys2Proof.Machine
end

