-- ==== Sys2Proof/Laws/Raise.lean ====
section
/-!
SUPPORT. What an event, a condition and the writes behind them leave.
-/

namespace Sys2Proof.Machine

/-- Registers of different pages, or different bits of one page, have different keys. -/
theorem regKey_ne {p q a b : Nat} (ha : a < 32768) (hb : b < 32768) (h : p ≠ q ∨ a ≠ b) :
    regKey p a ≠ regKey q b := by
  intro e; unfold regKey at e; omega

/-- A field of another page is as before a write. -/
theorem fld_setFld_page (t : State) {q p : Nat} {g f : Fld} (v : Nat) (h : p ≠ q) (hg : g.bit < 32768) (hf :
    f.bit < 32768) :
    (t.setFld q g v).fld p f = t.fld p f := State.fld_setFld_ne t v (regKey_ne hf hg (.inl h))

/-- A field of another page is as before an occurrence. -/
theorem fld_occur_page (t : State) {q p : Nat} {f : Fld} (n : Nat) (h : p ≠ q) (hf : f.bit < 32768) :
    (t.occur q n).fld p f = t.fld p f := by
  unfold State.occur; dsimp only
  split
  · rw [fld_setFld_page _ _ h (by decide) hf, fld_setFld_page _ _ h (by decide) hf]
  · rw [fld_setFld_page _ _ h (by decide) hf]

/-- A field of another page is as before an error is recorded. -/
theorem fld_recordErr_page (t : State) {q p : Nat} {f : Fld} (e : Ev) (hh : Nat) (h : p ≠ q) (hf : f.bit < 32768) :
    (t.recordErr q e hh).fld p f = t.fld p f := by
  have b1 : ((((t.bump q HDR.ERR_COUNT_COUNT).setFld q HDR.ERR_FIRST_STAMP_LO (t.tb.count % 2 ^ 32)).setFld q
      HDR.ERR_COUNT_FIRST_CODE e.code).setFld q HDR.ERR_COUNT_FIRST_HH hh).fld p f = t.fld p f := by
    rw [fld_setFld_page _ _ h (by decide) hf, fld_setFld_page _ _ h (by decide) hf, fld_setFld_page _ _ h
        (by decide) hf,
      State.bump, fld_setFld_page _ _ h (by decide) hf]
  have b2 : (t.bump q HDR.ERR_COUNT_COUNT).fld p f = t.fld p f := by rw [State.bump, fld_setFld_page _ _ h
      (by decide) hf]
  unfold State.recordErr; dsimp only
  split <;> split <;> first | exact b1 | exact b2

/-- A field of another page is as before an event. -/
theorem fld_raiseBy_page (t : State) {q p : Nat} {f : Fld} (e : Ev) (hh : Nat) (h : p ≠ q) (hf : f.bit < 32768) :
    (t.raiseBy q e hh).fld p f = t.fld p f := by
  unfold State.raiseBy; dsimp only
  split
  · exact fld_occur_page _ _ h hf
  · rw [fld_recordErr_page _ _ _ h hf, fld_occur_page _ _ h hf]

/-- The same for an event of no household. -/
theorem fld_raise_page (t : State) {q p : Nat} {f : Fld} (e : Ev) (h : p ≠ q) (hf : f.bit < 32768) :
    (t.raise q e).fld p f = t.fld p f := fld_raiseBy_page t e _ h hf

/-- Writes of EVT_RAW leave every other field. -/
theorem fld_foldl_raw (l : List (Nat × Nat)) (t : State) (p : Nat) (f : Fld) (h1 : f.bit < 32768)
    (h2 : f.bit ≠ HDR.EVT_RAW_RAW.bit) :
    (l.foldl (fun (t : State) e => t.setFld e.1 HDR.EVT_RAW_RAW e.2) t).fld p f = t.fld p f := by
  induction l generalizing t with
  | nil => rfl
  | cons e l ih => rw [List.foldl_cons, ih, State.fld_setFld_ne _ _ (regKey_ne h1 (by decide) (.inr h2))]

/-- The charge pump changes fields of its page alone. -/
theorem fld_vcpAct_ne (t : State) {p : Nat} {f : Fld} (hp : p ≠ pOuvgor) (hf : f.bit < 32768) :
    t.vcpAct.fld p f = t.fld p f := by
  unfold State.vcpAct State.showRevg
  rw [fld_setFld_page _ _ hp (by decide) hf]
  unfold State.condition; dsimp only
  split
  · rw [fld_raise_page _ _ hp hf]; exact fld_setFld_page _ _ hp (by decide) hf
  · exact fld_setFld_page _ _ hp (by decide) hf

/-- The strap of the reference changes fields of REFMON alone. -/
theorem fld_strapRef_ne (t : State) {p : Nat} {f : Fld} (hp : p ≠ pRefmon) (hf : f.bit < 32768) :
    t.strapRef.fld p f = t.fld p f := by
  unfold State.strapRef; dsimp only
  split
  · rw [fld_setFld_page _ _ hp (by decide) hf, fld_setFld_page _ _ hp (by decide) hf]
  · split
    · rw [fld_setFld_page _ _ hp (by decide) hf, fld_setFld_page _ _ hp (by decide) hf]
    · rw [fld_setFld_page _ _ hp (by decide) hf]

/-- An event changes registers and the beats of first errors alone. -/
theorem raise_fields (t : State) (p : Nat) (e : Ev) : ∃ r a, t.raise p e = { t with regs := r, errAt := a } := by
  have b1 : ∃ r, t.occur p e.bit = { t with regs := r } := by
    unfold State.occur; dsimp only; split <;> exact ⟨_, rfl⟩
  obtain ⟨r, hr⟩ := b1
  have b2 : ∀ x : State, ∃ r a, x.recordErr p e 14 = { x with regs := r, errAt := a } := by
    intro x; unfold State.recordErr State.bump State.setFld; dsimp only
    split <;> split <;> first | exact ⟨_, _, rfl⟩ | exact ⟨_, x.errAt, rfl⟩
  unfold State.raise State.raiseBy; dsimp only; rw [hr]
  split
  · exact ⟨r, t.errAt, rfl⟩
  · obtain ⟨r2, a, h2⟩ := b2 { t with regs := r }
    rw [h2]; exact ⟨r2, a, rfl⟩

/-- A condition changes registers, live conditions and the beats of first errors alone. -/
theorem condition_fields (t : State) (p : Nat) (e : Ev) (b : Bool) :
    ∃ r l a, t.condition p e b = { t with regs := r, live := l, errAt := a } := by
  unfold State.condition; dsimp only
  split
  · obtain ⟨r, a, h⟩ := raise_fields { t with live := Tab.set 0 t.live p (putBit (t.liveMask p) e.bit b) } p e
    rw [h]; exact ⟨_, _, _, rfl⟩
  · exact ⟨t.regs, _, t.errAt, rfl⟩

/-- The strap of the reference changes registers alone. -/
theorem strapRef_fields (t : State) : ∃ r, t.strapRef = { t with regs := r } := by
  unfold State.strapRef; dsimp only; split
  · exact ⟨_, rfl⟩
  · split <;> exact ⟨_, rfl⟩

/-- The generation shown changes registers alone. -/
theorem showRevg_fields (t : State) : ∃ r, t.showRevg = { t with regs := r } := ⟨_, rfl⟩

/-- What the charge pump changes. -/
theorem vcpAct_fields (u : State) : ∃ r l e, u.vcpAct = { u with regs := r, live := l, errAt := e } := by
  unfold State.vcpAct
  generalize hv : u.setFld pOuvgor OUVGOR.PUMP_STATUS_VCP_OK (b2n (!u.dr.vcpPin)) = v
  obtain ⟨r, l, e, h⟩ := condition_fields v pOuvgor OUVGOR.evVCP_UV u.dr.vcpPin
  obtain ⟨r2, h2⟩ := showRevg_fields { v with regs := r, live := l, errAt := e }
  rw [h, h2, ← hv]; exact ⟨r2, l, e, rfl⟩

/-- What the charge pump and the strap together change. -/
theorem vcpAct_strapRef (u : State) : ∃ r l e, u.vcpAct.strapRef = { u with regs := r, live := l, errAt := e } := by
  obtain ⟨r, l, e, h⟩ := vcpAct_fields u
  obtain ⟨r2, h2⟩ := strapRef_fields { u with regs := r, live := l, errAt := e }
  rw [h, h2]; exact ⟨r2, l, e, rfl⟩

/-- Writes of EVT_RAW change registers alone. -/
theorem foldl_raw (l : List (Nat × Nat)) (t : State) :
    ∃ r, l.foldl (fun (t : State) e => t.setFld e.1 HDR.EVT_RAW_RAW e.2) t = { t with regs := r } := by
  induction l generalizing t with
  | nil => exact ⟨t.regs, rfl⟩
  | cons e l ih => obtain ⟨r, hr⟩ := ih (t.setFld e.1 HDR.EVT_RAW_RAW e.2); exact ⟨r, hr⟩

end Sys2Proof.Machine
end

