-- ==== Sys2Proof/Laws/Word.lean ====
section
/-!
SUPPORT. Laws of bit fields and bytes.
-/

namespace Sys2Proof.Machine

theorem bitAt_eq_testBit (v i : Nat) : bitAt v i = v.testBit i := by
  unfold bitAt; rw [Nat.testBit_eq_decide_div_mod_eq, Nat.shiftRight_eq_div_pow]
  by_cases h : v / 2 ^ i % 2 = 1 <;> simp [h]

theorem bitAt_setBit (v i : Nat) : bitAt (setBit v i) i = true := by
  rw [bitAt_eq_testBit, setBit, Nat.testBit_or, Nat.one_shiftLeft, Nat.testBit_two_pow_self, Bool.or_true]

theorem bitAt_clrBit (v i : Nat) : bitAt (clrBit v i) i = false := by
  unfold clrBit
  split
  · rename_i h
    rw [bitAt, Nat.shiftRight_eq_div_pow] at *
    rw [Nat.one_shiftLeft]
    simp only [beq_iff_eq] at h
    have h2 : 2 ^ i ≤ v := by
      apply Nat.le_of_not_lt; intro hl; rw [Nat.div_eq_of_lt hl] at h; cases h
    have h3 : (v - 2 ^ i) / 2 ^ i = v / 2 ^ i - 1 := by
      have := Nat.sub_mul_div v (2 ^ i) 1; rwa [Nat.mul_one] at this
    rw [h3]; simp; omega
  · rename_i h; simpa using h

theorem ofLeBytes_leBytes (n v : Nat) : ofLeBytes (leBytes n v) = v % 256 ^ n := by
  induction n generalizing v with
  | zero => simp [leBytes, ofLeBytes, Nat.mod_one]
  | succ n ih =>
    have e : 256 ^ (n + 1) = 256 * 256 ^ n := by rw [Nat.pow_succ, Nat.mul_comm]
    rw [leBytes, ofLeBytes, ih, BitVec.toNat_ofNat, e, Nat.mod_mul]

end Sys2Proof.Machine
end

