-- ==== Sys2Proof/Laws/Served.lean ====
section
/-!
SUPPORT. What an access, an issue, a port or a link does where it is served: cited in place of unfolding it.
-/

namespace Sys2Proof.Machine

theorem access_served {s : State} {i : Instr} {a : Acc} {p off : Nat} {w : Bool} {k : State → State}
    (h : s.serves a p off w = true) : s.access i a p off w k = k (s.answer [0]) := by
  simp only [State.serves, Bool.and_eq_true, Bool.not_eq_true', beq_iff_eq] at h
  simp [State.access, State.serve, h]

theorem mgr_served {s : State} {i : Instr} {a : Acc} {p off : Nat} {k : State → State}
    (h : s.serves a p off true = true) (ha : a.hh = 15) : s.mgrAccess i a p off k = k (s.answer [0]) := by
  rw [State.mgrAccess, access_served h, if_pos ha]

theorem whServe_served {s : State} {i : Instr} {op sub tag : Nat} {k : State → State} (h : s.whServes op tag = true) :
    s.whServe i op sub tag k = k { s with wh := { s.wh with turn := false } } := by
  simp only [State.whServes, Bool.and_eq_true, Bool.not_eq_true', beq_iff_eq] at h
  obtain ⟨⟨⟨⟨h1, h2⟩, h3⟩, h4⟩, h5⟩ := h
  unfold State.whServe
  have b1 : ({ s.wh with turn := false } : Weigh).busy = false := by
    simp only [Weigh.busy]; cases e1 : s.wh.signing.isEmpty <;> cases e2 : s.wh.idBad <;> simp_all
  have b2 : (!s.wh.turn && !s.wh.queue.isEmpty) = false := by
    cases e1 : s.wh.turn <;> cases e2 : s.wh.queue.isEmpty <;> simp_all
  dsimp only
  rw [if_neg (by simp [h1]), if_neg (by simp [h2]), if_neg (by rw [b1, b2]; simp)]
  cases hl : s.wh.last with
  | none => rfl
  | some l =>
    rw [hl] at h5
    have : ¬ (l.op = op ∧ l.tag = tag) := by rintro ⟨h6, h7⟩; simp [h6, h7] at h5
    simp [this]

theorem after_none {s : State} {c : Instr} {first : Instr → Bool} {k : State} (h : s.stands first = false) :
    s.after c first k = k := by
  rw [State.after, h]; rfl

theorem stands_none {s : State} {first : Instr → Bool} (h : ∀ c, first c = false) : s.stands first = false := by
  simp [State.stands, h]

theorem regionOf_page {p off : Nat} (hp : p < 512) (ho : off < 4096) : regionOf (regAddr p off % 2 ^ 38) = some (2,
    0x2000000000, 2 ^ 21) := by
  have e : regAddr p off % 2 ^ 38 = 0x2000000000 + p * 4096 + off := by unfold regAddr; omega
  rw [e]
  simp only [regionOf, List.find?]
  have a1 : (decide (0 ≤ 0x2000000000 + p * 4096 + off) && decide (0x2000000000 + p * 4096 + off < 0 + 2 ^ 34)) =
      false := by
    simp; omega
  have a2 : (decide (0x1000000000 ≤ 0x2000000000 + p * 4096 + off) && decide
      (0x2000000000 + p * 4096 + off < 0x1000000000 + 2 ^ 24)) = false := by
    simp; omega
  have a3 : (decide (0x2000000000 ≤ 0x2000000000 + p * 4096 + off) && decide
      (0x2000000000 + p * 4096 + off < 0x2000000000 + 2 ^ 21)) = true := by
    simp; omega
  simp only [a1, a2, a3]

theorem serves_iff {s : State} {a : Acc} {p off : Nat} {w : Bool} (h : s.serves a p off w = true) :
    s.por = false ∧ s.tb.dawn = 0 ∧ (w && p == pWhb && a.master == .wicket) = false ∧ ∃ b, s.blk p = some b ∧
      (regFields b p off).isEmpty = false ∧ s.srstBusy.contains p = false ∧ s.hhReset.contains a.hh.val = false ∧
      (s.mayReach a.hh p off w || s.wicketMay a p off w) = true := by
  simp only [State.serves, Bool.and_eq_true, Bool.not_eq_true', beq_iff_eq] at h
  obtain ⟨⟨h1, h2⟩, h3⟩ := h
  unfold State.judge at h2
  split at h2
  · cases h2
  rename_i hd
  split at h2
  · cases h2
  rename_i b hb
  split at h2
  · cases h2
  split at h2
  · cases h2
  split at h2
  · cases h2
  split at h2
  · rename_i c1 c2 c3 c4
    exact ⟨h1, by simpa using hd, h3, b, hb, by simpa using c1, by simpa using c2, by simpa using c3, c4⟩
  · cases h2

theorem pageAccess_served {hr : State → Nat → State} {s : State} {i : Instr} {a : Acc} {p off v : Nat} {w : Bool}
    {addr : Nat}
    (h : s.serves a p off w = true) (ho : off < 4096) (h4 : off % 4 = 0) :
    s.pageAccess hr i a addr (p * 4096 + off) 4 w v = (if w then
        (s.answer [0]).regWrite hr a addr p [(off, v % 2 ^ 32)]
      else (s.answer [0]).regRead a addr p off false) := by
  obtain ⟨h1, h2, h3, b, h5, h6, h7, h8, h9⟩ := serves_iff h
  have e1 : (p * 4096 + off) / 4096 = p := by omega
  have e2 : (p * 4096 + off) % 4096 = off := by omega
  have e3 : (!((4 == 4 || 4 == 8) && off % 4 == 0)) = false := by simp [h4]
  unfold State.pageAccess
  simp only [e1, e2, h5, e3, h7, h8]
  simp only [show ((4 : Nat) == 8) = false from rfl, Bool.false_eq_true, if_false, State.serve, h3]
  have ha : ([off].any fun x => (regFields b p x).isEmpty) = false := by simp only [List.any_cons, List.any_nil, h6,
      Bool.or_false]
  have hb : ([off].all fun x => s.mayReach (↑a.hh) p x w || s.wicketMay a p x w) = true := by
    simp only [List.all_cons, List.all_nil, h9, Bool.and_true]
  have hc : ((List.range (4 / 4096 + 2)).any fun j =>
      decide (p * 4096 + j * 4096 < p * 4096 + off + 4) && (s.blk (p + j)).isNone) = false := by
    simp [List.range_succ, h5]; omega
  simp only [ha, hb, hc, Bool.false_eq_true, if_false, if_true]

theorem busAccess_served {hr : State → Nat → State} {s : State} {i : Instr} {a : Acc} {p off : Nat} {w : Bool} {data :
    List Byte}
    (h : s.serves a p off w = true) (hp : p < 512) (ho : off < 4096) (h4 : off % 4 = 0)
    (hm : a.master ≠ .wicket ∨ inRange 0x100 64 p = false) :
    s.busAccess hr i a 0 (regAddr p off) 4 w data = (if w then
      (s.answer [0]).regWrite hr a (regAddr p off) p [(off, ofLeBytes data % 2 ^ 32)]
      else (s.answer [0]).regRead a (regAddr p off) p off false) := by
  obtain ⟨h1, h2, h3, b, h5, h6, h7, h8, h9⟩ := serves_iff h
  have e0 : regAddr p off % 2 ^ 38 = 0x2000000000 + p * 4096 + off := by unfold regAddr; omega
  have r1 := regionOf_page hp ho
  have r2 := regionOf_page (p := p) (off := off + 3) hp (by omega)
  have e1 : regAddr p (off + 3) % 2 ^ 38 = regAddr p off % 2 ^ 38 + 4 - 1 := by unfold regAddr; omega
  rw [e1] at r2
  unfold State.busAccess
  simp only [h1, h2, r1, r2]
  have e2 : regAddr p off % 2 ^ 38 - 0x2000000000 = p * 4096 + off := by omega
  have e3 : (p * 4096 + off) / 4096 = p := by omega
  simp only [e2, e3]
  have hmark : ∀ t : State, ∀ f, (if (w && inRange 0x100 64 p && t.resp == some ⟨.ok, [0]⟩) =
      true then t.wicketMark a f else t) = t := by
    intro t f
    rcases hm with hm | hm
    · have : (a.master == Master.wicket) = false := by cases e : a.master <;> simp_all
      simp [State.wicketMark, this]
    · simp [hm]
  simp only [hmark]
  rw [pageAccess_served h ho h4]
  simp

theorem pageWrite_served {s : State} {i : Instr} {a : Acc} {p off w : Nat}
    (h : s.serves a p off true = true) (hp : p < 512) (ho : off < 4096) (h4 : off % 4 = 0) (hw : w < 2 ^ 32)
    (hm : a.master ≠ .wicket ∨ inRange 0x100 64 p = false) (hd : s.mgrDenied a.hh p (s.fieldsOf p off) w = false)
    (hn : s.notMine p off = false) (hk : s.maskDenied a.hh p off w = false) :
    s.pageWrite i a p off w = (s.answer [0]).wordWrite State.hhRequest a p off w := by
  have e : ofLeBytes (leBytes 4 w) % 2 ^ 32 = w := by rw [ofLeBytes_leBytes]; omega
  have hd' : (s.answer [0]).mgrDenied a.hh p ((s.answer [0]).fieldsOf p off) w = false := hd
  have hn' : (s.answer [0]).notMine p off = false := hn
  have hk' : (s.answer [0]).maskDenied a.hh p off w = false := hk
  rw [State.pageWrite, busAccess_served h hp ho h4 hm, e, if_pos rfl, State.regWrite]
  simp [hd', hn', hk']
/-- Marking an instruction's destination in the scoreboard changes nothing else of a context. -/

theorem marked_eq (c : LeafSt) (n : Ins) (b : Nat) : c.marked n b = { c with ready := (c.marked n b).ready } := by
  unfold LeafSt.marked
  split
  · rfl
  · split <;> rfl

/-- The instruction that issues comes from the tile's context in issue, with its destination marked. -/

theorem nextIs_at {s : State} {t cls op : Nat} {uses : Ins → List Nat} {i : Issue} {n : Ins}
    (h : s.nextIs t cls op uses i n = true) :
    i.t = t ∧ i.x = s.tl t ∧ ∃ c, (s.tl t).ctxs[(s.tl t).cur]? = some c ∧ i.c = { c with ready := i.c.ready } := by
  unfold State.nextIs at h
  split at h
  · cases h
  · rename_i j hj
    simp only [Bool.and_eq_true, beq_iff_eq] at h
    have hi := h.1.1.1.1.1.1
    subst hi
    unfold State.issuing at hj
    dsimp only at hj
    repeat' split at hj
    all_goals first
      | (injection hj with hj; subst hj; exact ⟨rfl, rfl, _, ‹_›, marked_eq _ _ _⟩)
      | cases hj

theorem issue_next {s : State} {t cls op : Nat} {uses : Ins → List Nat} {i : Issue} {n : Ins} {k : Issue → Ins →
    State}
    (h : s.nextIs t cls op uses i n = true) : s.issue t cls op uses k = k i n := by
  unfold State.nextIs at h
  unfold State.issue
  cases hs : s.issuing t with
  | none => rw [hs] at h; cases h
  | some j =>
    rw [hs] at h
    simp only [Bool.and_eq_true, beq_iff_eq] at h
    obtain ⟨⟨⟨⟨⟨⟨h1, h2⟩, h3⟩, h4⟩, h5⟩, h6⟩, h7⟩ := h
    simp only
    cases hf : j.fetch with
    | error c => rw [hf] at h2; cases h2
    | ok w =>
      rw [hf] at h2
      simp only [beq_iff_eq] at h2
      subst h2 h1
      simp only [h3, h4, and_self, if_true]
      cases hb : s.bpAt j with
      | some b => rw [hb] at h5; cases h5
      | none => simp only [h6, if_true, h7]

theorem portAccess_served {s : State} {i : Instr} {a : Acc} {n addr bytes room : Nat} {w : Bool} {k : State → State}
    (h : s.portServes a n addr bytes room = true) : s.portAccess i a n addr bytes room w k = k (s.answer [0]) := by
  simp only [State.portServes, Bool.and_eq_true, Bool.not_eq_true', beq_iff_eq, decide_eq_true_eq,
    Bool.or_eq_true] at h
  obtain ⟨⟨⟨⟨⟨⟨⟨⟨⟨h1, h2⟩, h3⟩, h4⟩, h5⟩, h6⟩, h7⟩, h8⟩, h9⟩, h10⟩ := h
  unfold State.portAccess
  rw [if_neg (by simp [h1]), if_neg (by simp [h2]), if_neg (by simpa using h3), if_neg (by omega), if_neg
      (by simpa using h9), if_pos h10]

theorem heldAccess_step {s : State} {a : Acc} {n nw : Nat} {k : State → State} (h : s.stepPort a n = true) :
    s.heldAccess a true n nw k = k s := by
  simp only [State.stepPort] at h
  simp [State.heldAccess, h]

theorem qRegAccess_served {s : State} {i : Instr} {a : Acc} {n r w : Nat} (h : s.serves a (qPage n) (qReg n r) true =
    true)
    (hd : s.mgrDenied a.hh (qPage n) (s.fieldsOf (qPage n) (qReg n r)) w = false) :
    s.qRegAccess i a n r w = (s.answer [0]).qehWrite a.hh (qPage n) (qReg n r) w := by
  rw [State.qRegAccess, access_served h]
  have : (s.answer [0]).mgrDenied a.hh (qPage n) ((s.answer [0]).fieldsOf (qPage n) (qReg n r)) w = false := hd
  simp only [this, Bool.false_eq_true, if_false]

theorem qehWrite_reg {s : State} {hh n r w : Nat} (hn : n < 256) (hr : r < 0x40) :
    s.qehWrite hh (qPage n) (qReg n r) w = (
      if r = 0x00 then s.qCfgWrite n w hh
      else if r = 0x04 then s.qLockedWrite n (QEH.SPILL_BASE_LO_BASE.at (n % 32)) w hh
      else if r = 0x08 then s.qLockedWrite n (QEH.SPILL_BASE_HI_BASE.at (n % 32)) w hh
      else if r = 0x0C then s.qLockedWrite n (QEH.SPILL_RATE_RATE.at (n % 32)) w hh
      else if r = 0x1C then
        let s1 := if bitAt w 0 then s.qFlush n else s
        let s2 := if bitAt w 1 then s1.qMark n else s1
        let s3 := if bitAt w 2 then s2.qRewind n else s2
        if bitAt w 3 then s3.qRelease n else s3
      else s.qehWrite hh (qPage n) (qReg n r) w) := by
  have e1 : (qReg n r - 0x200) / 0x40 = n % 32 := by unfold qReg; omega
  have e2 : (qReg n r - 0x200) % 0x40 = r := by unfold qReg; omega
  have e3 : 32 * (qPage n - pQeh 0) + n % 32 = n := by unfold qPage pQeh; omega
  have e4 : ¬ qReg n r < 0x200 := by unfold qReg; omega
  by_cases h0 : r = 0
  · rw [if_pos h0, State.qehWrite, if_neg e4]; simp only [e1, e2, e3]; rw [if_pos h0]
  rw [if_neg h0]
  by_cases h1 : r = 4
  · rw [if_pos h1, State.qehWrite, if_neg e4]; simp only [e1, e2, e3]; rw [if_neg h0, if_pos h1]
  rw [if_neg h1]
  by_cases h2 : r = 8
  · rw [if_pos h2, State.qehWrite, if_neg e4]; simp only [e1, e2, e3]; rw [if_neg h0, if_neg h1, if_pos h2]
  rw [if_neg h2]
  by_cases h3 : r = 0xC
  · rw [if_pos h3, State.qehWrite, if_neg e4]; simp only [e1, e2, e3]; rw [if_neg h0, if_neg h1, if_neg h2, if_pos h3]
  rw [if_neg h3]
  by_cases h4 : r = 0x1C
  · rw [if_pos h4, State.qehWrite, if_neg e4]; simp only [e1, e2, e3]
    subst h4; rfl
  rw [if_neg h4]

theorem slotAccess_served {s : State} {i : Instr} {a : Acc} {p k r w : Nat} (hk : k < 64) (hr : r < 0x30)
    (h : s.serves a (pSch p) (0x100 + 0x30 * k + r) true = true)
    (hd : s.mgrDenied a.hh (pSch p) (s.fieldsOf (pSch p) (0x100 + 0x30 * k + r)) w = false) :
    s.slotAccess i a p k r w = (s.answer [0]).slotWrite a.hh p k r w := by
  rw [State.slotAccess, access_served h]
  have : (s.answer [0]).mgrDenied a.hh (pSch p) ((s.answer [0]).fieldsOf (pSch p) (0x100 + 0x30 * k + r)) w =
      false := hd
  simp only [this, Bool.false_eq_true, if_false]
  have e1 : (0x100 + 0x30 * k + r - 0x100) / 0x30 = k := by omega
  have e2 : (0x100 + 0x30 * k + r - 0x100) % 0x30 = r := by omega
  have e3 : pSch p - pSch 0 = p := by unfold pSch; omega
  rw [State.schWrite]; simp only; rw [if_pos (by omega), e1, e2, e3]

theorem linkAccept_taken {s : State} {k : Nat} {f : Frame} {g : State → Nat → State} (h : s.linkTakes k f = true) :
    s.linkAccept k f g = (g (s.linkTaken k f) (s.frameIn k f).fab.next).freeUnused := by
  simp only [State.linkTakes, Bool.and_eq_true, beq_iff_eq, decide_eq_true_eq] at h
  obtain ⟨⟨⟨⟨⟨h1, h2⟩, h3⟩, h6⟩, h4⟩, h5⟩ := h
  unfold State.linkAccept
  simp only [h1, Bool.not_true, Bool.false_eq_true, if_false, ← h3]
  have e : (f.seq + 4096 - f.seq) % 4096 = 0 := by omega
  have e2 : ¬ 256 < (s.frameIn k f).rxHeld k f.vc + f.units := by omega
  simp only [e, if_true, if_neg e2, h2, ne_eq, not_true_eq_false, if_false]
  unfold State.policed
  rw [if_pos (by exact h5)]
  rfl

end Sys2Proof.Machine
end

