-- ==== Sys2Proof/Laws/Tick.lean ====
section
/-!
SUPPORT. What a tick does to time: the beat goes up by one, and the master count with it while it runs.
-/

namespace Sys2Proof.Machine

/-- The beat and the master count are these. -/
def State.At (b c : Nat) (s : State) : Prop := s.tb.beat = b ∧ s.tb.count = c

variable {b₀ c₀ : Nat}

theorem atFold (x : State) : (x.tb.beat = b₀ ∧ x.tb.count = c₀) = x.At b₀ c₀ := propext Iff.rfl

theorem atMk (pending held freeIdx trainings si regs shadows live resp sent srstBusy srstAt errAt
    hhReset warmDue por lastRst tb mx ln wh wb dr dram qs qwait sch pol tile run img pv noc fab disc cst host dbg flt) :
    (State.mk pending held freeIdx trainings si regs shadows live resp sent srstBusy srstAt errAt
    hhReset warmDue por lastRst tb mx ln wh wb dr dram qs qwait sch pol tile run img pv noc fab disc cst host dbg flt).At b₀ c₀ =
    (tb.beat = b₀ ∧ tb.count = c₀) := propext Iff.rfl

theorem atIte {p : Prop} [Decidable p] {a b : State} (h1 : p → a.At b₀ c₀) (h2 : ¬ p → b.At b₀ c₀) :
    (if p then a else b).At b₀ c₀ := by
  split <;> simp_all

theorem atFoldl {α : Type} {f : State → α → State} {l : List α} {s : State} (hk : ∀ t x, t.At b₀ c₀ →
    (f t x).At b₀ c₀)
    (h : s.At b₀ c₀) : (l.foldl f s).At b₀ c₀ := by
  induction l generalizing s with
  | nil => exact h
  | cons a l ih => exact ih (hk _ _ h)

theorem State.setFld_at {s : State} {p : Nat} {f : Fld} {v : Nat} (h0 : s.At b₀ c₀) :
    (State.setFld s p f v).At b₀ c₀ := by
  unfold State.setFld
  repeat' split
  all_goals simp_all +contextual (maxDischargeDepth := 99) only [atMk, atFold]

theorem State.setRunFlag_at {s : State} {a1 : Nat} {b : Nat} (h0 : s.At b₀ c₀) :
    (State.setRunFlag s a1 b).At b₀ c₀ := by
  unfold State.setRunFlag
  repeat' split
  all_goals simp_all +contextual (maxDischargeDepth := 99) only [State.setFld_at]

theorem State.setPv_at {s : State} {a1 : Nat} {v : ProvSt} (h0 : s.At b₀ c₀) : (State.setPv s a1 v).At b₀ c₀ := by
  unfold State.setPv
  repeat' split
  all_goals simp_all +contextual (maxDischargeDepth := 99) only [atMk, atFold]

theorem State.occur_at {s : State} {p : Nat} {n : Nat} (h0 : s.At b₀ c₀) : (State.occur s p n).At b₀ c₀ := by
  unfold State.occur
  repeat' split
  all_goals simp_all +contextual (maxDischargeDepth := 99) only [State.setFld_at]

theorem State.bump_at {s : State} {p : Nat} {f : Fld} {n : Nat} (h0 : s.At b₀ c₀) :
    (State.bump s p f n).At b₀ c₀ := by
  unfold State.bump
  repeat' split
  all_goals simp_all +contextual (maxDischargeDepth := 99) only [State.setFld_at]

theorem State.recordErr_at {s : State} {p : Nat} {e : Ev} {hh : Nat} (h0 : s.At b₀ c₀) :
    (State.recordErr s p e hh).At b₀ c₀ := by
  unfold State.recordErr
  repeat' split
  all_goals simp_all +contextual (maxDischargeDepth := 99) only [atMk, atFold, atIte, implies_true, State.bump_at,
      State.setFld_at]

theorem State.raiseBy_at {s : State} {p : Nat} {e : Ev} {hh : Nat} (h0 : s.At b₀ c₀) :
    (State.raiseBy s p e hh).At b₀ c₀ := by
  unfold State.raiseBy
  repeat' split
  all_goals simp_all +contextual (maxDischargeDepth := 99) only [State.occur_at, State.recordErr_at]

theorem State.flagOnce_at {s : State} {a1 : Nat} {b : Nat} {e : Ev} (h0 : s.At b₀ c₀) :
    (State.flagOnce s a1 b e).At b₀ c₀ := by
  unfold State.flagOnce
  repeat' split
  all_goals simp_all +contextual (maxDischargeDepth := 99) only [State.raiseBy_at, State.setRunFlag_at]

theorem State.chargeOvl_at {s : State} {a1 : Nat} {n : Nat} (h0 : s.At b₀ c₀) :
    (State.chargeOvl s a1 n).At b₀ c₀ := by
  unfold State.chargeOvl
  repeat' split
  all_goals simp_all +contextual (maxDischargeDepth := 99) only [atIte, implies_true, State.setRunFlag_at,
      State.setFld_at, State.setPv_at, State.flagOnce_at]

theorem State.setRun_at {s : State} {a1 : Nat} {r : RunSt} (h0 : s.At b₀ c₀) : (State.setRun s a1 r).At b₀ c₀ := by
  unfold State.setRun
  repeat' split
  all_goals simp_all +contextual (maxDischargeDepth := 99) only [atMk, atFold]

theorem State.setPair_at {s : State} {p : Nat} {lo : Fld} {hi : Fld} {v : Nat} (h0 : s.At b₀ c₀) :
    (State.setPair s p lo hi v).At b₀ c₀ := by
  unfold State.setPair
  repeat' split
  all_goals simp_all +contextual (maxDischargeDepth := 99) only [State.setFld_at]

theorem State.ledger64_at {s : State} {a1 : Nat} {lo : Fld} {hi : Fld} {n : Nat} (h0 : s.At b₀ c₀) :
    (State.ledger64 s a1 lo hi n).At b₀ c₀ := by
  unfold State.ledger64
  repeat' split
  all_goals simp_all +contextual (maxDischargeDepth := 99) only [atIte, implies_true, State.setPair_at,
      State.flagOnce_at]

theorem State.chargeRef_at {s : State} {a1 : Nat} {n : Nat} (h0 : s.At b₀ c₀) :
    (State.chargeRef s a1 n).At b₀ c₀ := by
  unfold State.chargeRef
  repeat' split
  all_goals simp_all +contextual (maxDischargeDepth := 99) only [atIte, implies_true, State.ledger64_at,
      State.setPv_at, State.flagOnce_at]

theorem State.ledgerTick_at {s : State} {a1 : Nat} {r : RunSt} (h0 : s.At b₀ c₀) :
    (State.ledgerTick s a1 r).At b₀ c₀ := by
  unfold State.ledgerTick
  repeat' split
  all_goals simp_all +contextual (maxDischargeDepth := 99) only [State.chargeOvl_at, State.setRun_at,
      State.chargeRef_at, State.ledger64_at]

theorem State.setTl_at {s : State} {t : Nat} {a2 : TileSt} (h0 : s.At b₀ c₀) : (State.setTl s t a2).At b₀ c₀ := by
  unfold State.setTl
  repeat' split
  all_goals simp_all +contextual (maxDischargeDepth := 99) only [atMk, atFold]

theorem State.tileState_at {s : State} {t : Nat} {v : Nat} (h0 : s.At b₀ c₀) : (State.tileState s t v).At b₀ c₀ := by
  unfold State.tileState
  repeat' split
  all_goals simp_all +contextual (maxDischargeDepth := 99) only [State.setFld_at]

theorem State.popReply_at {s : State} {nw : Nat} {d0 : Nat} {mask : Nat} {ws : List QWord} (h0 : s.At b₀ c₀) :
    (State.popReply s nw d0 mask ws).At b₀ c₀ := by
  unfold State.popReply
  repeat' split
  all_goals simp_all +contextual (maxDischargeDepth := 99) only [atMk, atFold]

theorem State.setQ_at {s : State} {n : Nat} {a2 : QueueSt} (h0 : s.At b₀ c₀) : (State.setQ s n a2).At b₀ c₀ := by
  unfold State.setQ
  repeat' split
  all_goals simp_all +contextual (maxDischargeDepth := 99) only [atMk, atFold]

theorem State.qEvent_at {s : State} {n : Nat} {e : Ev} {hh : Nat} (h0 : s.At b₀ c₀) :
    (State.qEvent s n e hh).At b₀ c₀ := by
  unfold State.qEvent
  repeat' split
  all_goals simp_all +contextual (maxDischargeDepth := 99) only [atIte, implies_true, State.raiseBy_at,
      State.setFld_at]

theorem State.qTouch_at {s : State} {n : Nat} (h0 : s.At b₀ c₀) : (State.qTouch s n).At b₀ c₀ := by
  unfold State.qTouch
  repeat' split
  all_goals simp_all +contextual (maxDischargeDepth := 99) only [atIte, implies_true, State.setQ_at, State.qEvent_at]

theorem State.releaseHeld_at {s : State} {n : Nat} {nw : Nat} (h0 : s.At b₀ c₀) :
    (State.releaseHeld s n nw).At b₀ c₀ := by
  unfold State.releaseHeld
  repeat' split
  all_goals simp_all +contextual (maxDischargeDepth := 99) only [State.popReply_at, State.qTouch_at, State.setQ_at]

theorem State.provEnd_at {s : State} {a1 : Nat} (h0 : s.At b₀ c₀) : (State.provEnd s a1).At b₀ c₀ := by
  unfold State.provEnd
  repeat' split
  all_goals simp_all +contextual (maxDischargeDepth := 99) only [State.setFld_at, State.setPv_at]

theorem State.endRun_at {s : State} {a1 : Nat} {r : RunSt} {slotSt : Nat} {code : Nat} {tile : Option Nat}
    (h0 : s.At b₀ c₀) : (State.endRun s a1 r slotSt code tile).At b₀ c₀ := by
  unfold State.endRun
  repeat' split
  all_goals simp_all +contextual (maxDischargeDepth := 99) only [atMk, atFold, atIte, atFoldl, implies_true,
      State.setTl_at, State.tileState_at, State.releaseHeld_at, State.setFld_at, State.provEnd_at]

theorem State.faultsEnd_at {s : State} {a1 : Nat} {r : RunSt} (h0 : s.At b₀ c₀) :
    (State.faultsEnd s a1 r).At b₀ c₀ := by
  unfold State.faultsEnd
  repeat' split
  all_goals simp_all +contextual (maxDischargeDepth := 99) only [State.raiseBy_at, State.endRun_at]

theorem State.setAxis_at {s : State} {k : Nat} {a2 : AxisSt} (h0 : s.At b₀ c₀) : (State.setAxis s k a2).At b₀ c₀ := by
  unfold State.setAxis
  repeat' split
  all_goals simp_all +contextual (maxDischargeDepth := 99) only [atMk, atFold]

theorem State.axisSense_at {s : State} {k : Nat} (h0 : s.At b₀ c₀) : (State.axisSense s k).At b₀ c₀ := by
  unfold State.axisSense
  repeat' split
  all_goals simp_all +contextual (maxDischargeDepth := 99) only [atIte, implies_true, State.setAxis_at]

theorem State.raise_at {s : State} {p : Nat} {e : Ev} (h0 : s.At b₀ c₀) : (State.raise s p e).At b₀ c₀ := by
  unfold State.raise
  repeat' split
  all_goals simp_all +contextual (maxDischargeDepth := 99) only [State.raiseBy_at]

theorem State.orFld_at {s : State} {p : Nat} {f : Fld} {m : Nat} (h0 : s.At b₀ c₀) :
    (State.orFld s p f m).At b₀ c₀ := by
  unfold State.orFld
  repeat' split
  all_goals simp_all +contextual (maxDischargeDepth := 99) only [State.setFld_at]

theorem State.axisSticky_at {s : State} {k : Nat} {bit : Nat} (h0 : s.At b₀ c₀) :
    (State.axisSticky s k bit).At b₀ c₀ := by
  unfold State.axisSticky
  repeat' split
  all_goals simp_all +contextual (maxDischargeDepth := 99) only [State.orFld_at]

theorem State.setAxisCount_at {s : State} {k : Nat} {v : Int} (h0 : s.At b₀ c₀) :
    (State.setAxisCount s k v).At b₀ c₀ := by
  unfold State.setAxisCount
  repeat' split
  all_goals simp_all +contextual (maxDischargeDepth := 99) only [State.setPair_at]

theorem State.showAxisLive_at {s : State} {k : Nat} (h0 : s.At b₀ c₀) : (State.showAxisLive s k).At b₀ c₀ := by
  unfold State.showAxisLive
  repeat' split
  all_goals simp_all +contextual (maxDischargeDepth := 99) only [atMk, atFold, State.setFld_at]

theorem State.missingCheck_at {s : State} {k : Nat} (h0 : s.At b₀ c₀) : (State.missingCheck s k).At b₀ c₀ := by
  unfold State.missingCheck
  repeat' split
  all_goals simp_all +contextual (maxDischargeDepth := 99) only [atIte, implies_true, State.raise_at,
      State.axisSticky_at, State.setAxis_at]

theorem State.dirCheck_at {s : State} {k : Nat} (h0 : s.At b₀ c₀) : (State.dirCheck s k).At b₀ c₀ := by
  unfold State.dirCheck
  repeat' split
  all_goals simp_all +contextual (maxDischargeDepth := 99) only [atIte, implies_true, State.setAxis_at,
      State.raise_at, State.axisSticky_at]

theorem State.zCheck_at {s : State} {k : Nat} (h0 : s.At b₀ c₀) : (State.zCheck s k).At b₀ c₀ := by
  unfold State.zCheck
  repeat' split
  all_goals simp_all +contextual (maxDischargeDepth := 99) only [atIte, implies_true, State.setAxis_at,
      State.raise_at, State.axisSticky_at]

theorem State.axisCounted_at {s : State} {k : Nat} {d : Int} (h0 : s.At b₀ c₀) :
    (State.axisCounted s k d).At b₀ c₀ := by
  unfold State.axisCounted
  repeat' split
  all_goals simp_all +contextual (maxDischargeDepth := 99) only [State.setAxisCount_at, State.setPair_at,
      State.showAxisLive_at, State.missingCheck_at, State.dirCheck_at, State.zCheck_at]

theorem State.axisEdge_at {s : State} {k : Nat} {a : Bool} {b : Bool} (h0 : s.At b₀ c₀) :
    (State.axisEdge s k a b).At b₀ c₀ := by
  unfold State.axisEdge
  repeat' split
  all_goals simp_all +contextual (maxDischargeDepth := 99) only [atIte, implies_true, State.setAxis_at,
      State.raise_at, State.axisSticky_at, State.bump_at, State.axisCounted_at]

theorem State.zgateCheck_at {s : State} {k : Nat} (h0 : s.At b₀ c₀) : (State.zgateCheck s k).At b₀ c₀ := by
  unfold State.zgateCheck
  repeat' split
  all_goals simp_all +contextual (maxDischargeDepth := 99) only [atIte, implies_true, State.setAxis_at,
      State.orFld_at, State.raise_at]

theorem State.setSfld_at {s : State} {p : Nat} {f : Fld} {v : Int} (h0 : s.At b₀ c₀) :
    (State.setSfld s p f v).At b₀ c₀ := by
  unfold State.setSfld
  repeat' split
  all_goals simp_all +contextual (maxDischargeDepth := 99) only [State.setFld_at]

theorem State.ephRestart_at {s : State} (h0 : s.At b₀ c₀) : (State.ephRestart s).At b₀ c₀ := by
  unfold State.ephRestart
  repeat' split
  all_goals simp_all +contextual (maxDischargeDepth := 99) only [atMk, atFold]

theorem State.indexEdge_at {s : State} {k : Nat} (h0 : s.At b₀ c₀) : (State.indexEdge s k).At b₀ c₀ := by
  unfold State.indexEdge
  repeat' split
  all_goals simp_all +contextual (maxDischargeDepth := 99) only [atMk, atFold, atIte, implies_true, State.setAxis_at,
      State.setSfld_at, State.raise_at, State.axisSticky_at, State.bump_at, State.setAxisCount_at,
      State.ephRestart_at]

theorem State.axisIndex_at {s : State} {k : Nat} {z : Bool} (h0 : s.At b₀ c₀) : (State.axisIndex s k z).At b₀ c₀ := by
  unfold State.axisIndex
  repeat' split
  all_goals simp_all +contextual (maxDischargeDepth := 99) only [atIte, implies_true, State.setAxis_at,
      State.zgateCheck_at, State.showAxisLive_at, State.missingCheck_at, State.indexEdge_at]

theorem State.axisFilter_at {s : State} {k : Nat} (h0 : s.At b₀ c₀) : (State.axisFilter s k).At b₀ c₀ := by
  unfold State.axisFilter
  repeat' split
  all_goals simp_all +contextual (maxDischargeDepth := 99) only [atIte, implies_true, State.axisSense_at,
      State.axisEdge_at, State.axisIndex_at]

theorem State.axisFilters_at {s : State} (h0 : s.At b₀ c₀) : (State.axisFilters s).At b₀ c₀ := by
  unfold State.axisFilters
  repeat' split
  all_goals simp_all +contextual (maxDischargeDepth := 99) only [atFoldl, implies_true, State.axisFilter_at]

theorem State.flyCredit_at {s : State} {r : Nat} {o : Nat} {vc : Nat} {lat : Nat} (h0 : s.At b₀ c₀) :
    (State.flyCredit s r o vc lat).At b₀ c₀ := by
  unfold State.flyCredit
  repeat' split
  all_goals simp_all +contextual (maxDischargeDepth := 99) only [atMk, atFold]

theorem State.releaseCredits_at {s : State} {r : Nat} (h0 : s.At b₀ c₀) : (State.releaseCredits s r).At b₀ c₀ := by
  unfold State.releaseCredits
  repeat' split
  all_goals simp_all +contextual (maxDischargeDepth := 99) only [atMk, atFold, atFoldl, implies_true,
      State.flyCredit_at]

theorem State.nocBump_at {s : State} {p : Nat} {f : Fld} {n : Nat} (h0 : s.At b₀ c₀) :
    (State.nocBump s p f n).At b₀ c₀ := by
  unfold State.nocBump
  repeat' split
  all_goals simp_all +contextual (maxDischargeDepth := 99) only [State.bump_at]

theorem State.eventLatency_at {s : State} {w0 : Nat} (h0 : s.At b₀ c₀) : (State.eventLatency s w0).At b₀ c₀ := by
  unfold State.eventLatency
  repeat' split
  all_goals simp_all +contextual (maxDischargeDepth := 99) only [atIte, implies_true, State.setFld_at,
      State.raise_at, State.nocBump_at]

theorem State.ejected_at {s : State} {c : Cross} (h0 : s.At b₀ c₀) : (State.ejected s c).At b₀ c₀ := by
  unfold State.ejected
  repeat' split
  all_goals (try dsimp only)
  repeat' split
  all_goals simp_all +contextual (maxDischargeDepth := 99) only [atMk, atFold, atFoldl, implies_true,
      State.flyCredit_at, State.setQ_at, State.eventLatency_at]
  all_goals (repeat' split)
  all_goals simp_all +contextual (maxDischargeDepth := 99) only [atMk, atFold, atIte, atFoldl, implies_true,
      State.flyCredit_at, State.setQ_at, State.eventLatency_at]

theorem State.creditBack_at {s : State} {r : Nat} {p : Nat} {vc : Nat} (h0 : s.At b₀ c₀) :
    (State.creditBack s r p vc).At b₀ c₀ := by
  unfold State.creditBack
  repeat' split
  all_goals simp_all +contextual (maxDischargeDepth := 99) only [atMk, atFold, State.flyCredit_at]

theorem State.setDiscard_at {s : State} {k : Nat} {on : Bool} (h0 : s.At b₀ c₀) :
    (State.setDiscard s k on).At b₀ c₀ := by
  unfold State.setDiscard
  repeat' split
  all_goals simp_all +contextual (maxDischargeDepth := 99) only [atMk, atFold]

theorem State.routerErr_at {s : State} {r : Nat} {p : Nat} {vc : Nat} {e : Ev} {hdr : List Nat} (h0 : s.At b₀ c₀) :
    (State.routerErr s r p vc e hdr).At b₀ c₀ := by
  unfold State.routerErr
  repeat' split
  all_goals simp_all +contextual (maxDischargeDepth := 99) only [atIte, implies_true, State.raise_at, State.setFld_at]

theorem State.setBuf_at {s : State} {r : Nat} {p : Nat} {vc : Nat} {l : List Flit} (h0 : s.At b₀ c₀) :
    (State.setBuf s r p vc l).At b₀ c₀ := by
  unfold State.setBuf
  repeat' split
  all_goals simp_all +contextual (maxDischargeDepth := 99) only [atMk, atFold]

theorem State.arrive_at {s : State} {r p vc : Nat} {f : Flit} {parity sideband : Bool} (h0 : s.At b₀ c₀) :
    (State.arrive s r p vc f parity sideband).At b₀ c₀ := by
  have k0 : (if sideband then s.nocBump (pNocr r) NOCR.ERRCNT_SB_CORRECTED else s).At b₀ c₀ :=
    atIte (fun _ => State.nocBump_at h0) (fun _ => h0)
  unfold State.arrive
  dsimp only
  refine atIte (fun _ => State.creditBack_at (State.setDiscard_at k0)) (fun _ => atIte
    (fun _ => State.creditBack_at (State.setDiscard_at (State.nocBump_at (State.routerErr_at k0)))) (fun _ => atIte
    (fun _ => State.creditBack_at (State.setDiscard_at (State.routerErr_at k0))) (fun _ => atIte
    (fun _ => State.setDiscard_at (State.nocBump_at (State.routerErr_at k0))) (fun _ => ?_))))
  have k1 : ∀ (c : Prop) [Decidable c] (a b : State), a.At b₀ c₀ → b.At b₀ c₀ → (if c then a else b).At b₀ c₀ :=
    fun c _ a b ha hb => atIte (fun _ => ha) (fun _ => hb)
  have k2 := k1 (parity = true) _ _ (State.nocBump_at (p := pNocr r) (f := NOCR.ERRCNT_DATA_PARITY) (n := 1)
    (State.routerErr_at (r := r) (p := p) (vc := vc) (e := NOCR.evDATA_PARITY)
        (hdr := if decide (f.typ ≤ 1) then f.words else
      Tab.get [] s.noc.hdr (chan r p vc)) k0)) k0
  refine k1 _ _ _ ?_ (State.setFld_at ?_) <;> refine k1 _ _ _ ?_ ?_
  all_goals exact k2

theorem State.readOut_at {s : State} {c : Cross} (h0 : s.At b₀ c₀) : (State.readOut s c).At b₀ c₀ := by
  unfold State.readOut
  repeat' split
  all_goals simp_all +contextual (maxDischargeDepth := 99) only [State.ejected_at, State.arrive_at]

theorem State.nocTick_at {s : State} (h0 : s.At b₀ c₀) : (State.nocTick s).At b₀ c₀ := by
  unfold State.nocTick
  repeat' split
  all_goals simp_all +contextual (maxDischargeDepth := 99) only [atMk, atFold, atFoldl, implies_true,
      State.releaseCredits_at, State.readOut_at]

theorem State.runsTick_at {s : State} (h : s.At b₀ c₀) : s.runsTick.At b₀ c₀ := by
  refine atFoldl (fun t x ht => ?_) h
  split
  · exact State.faultsEnd_at (State.ledgerTick_at ht)
  · exact ht


theorem State.vmTick_at {s : State} (h : s.At b₀ c₀) : s.vmTick.At b₀ c₀ := by
  unfold State.vmTick
  split
  · exact atIte (fun _ => State.setFld_at h) (fun _ => h)
  · exact h


/-- A tick: the beat passes, and the master count runs while the counters do (R116). -/

theorem State.tick_at (s : State) : s.tick.tb.beat = s.tb.beat + 1 ∧
    s.tick.tb.count = if s.tb.running then cadd s.tb.count 1 else s.tb.count := by
  cases hr : s.tb.running with
  | true =>
    obtain ⟨h1, h2⟩ := State.runsTick_at (s := s) ⟨rfl, rfl⟩
    unfold State.tick
    simp only [hr, if_true]
    exact State.nocTick_at (State.axisFilters_at (State.vmTick_at ⟨congrArg (· + 1) h1, congrArg (cadd · 1) h2⟩))
  | false =>
    unfold State.tick
    simp only [hr, Bool.false_eq_true, if_false]
    exact State.nocTick_at ⟨rfl, rfl⟩

end Sys2Proof.Machine
end

