-- ==== Sys2Proof/Tests/Slice0.lean ====
section
/-!
SUPPORT. The model's own tests: WellFormed's smoke tests, the spec's worked values, and for each statement a state and operands
that meet its hypotheses.
-/

set_option Elab.async false -- the kernel evaluates these one after another: at once they would exhaust the threads

namespace Sys2Proof.Tests

open Sys2Proof Sys2Proof.Machine

/-- The manager on the host. -/
def mgr : Acc := ⟨.host, 15, 29, 0, false⟩

/-- The device with its counters running at `c`. -/
def ticking (c : Nat) : State :=
  { State.reset with tb := { Timebase.reset with running := true, count := c, dawned := true } }

/-! ### WellFormed: an ill-formed term for each check -/

theorem test_wf_frame : (Instr.helloReceive 0 Frame.blank).wf = true := by decide
theorem test_wf_kind : (Instr.helloReceive 0 { Frame.blank with kind := 16 }).wf = false := by decide
theorem test_wf_version : (Instr.joinReceive 0 { Frame.blank with version := 16 }).wf = false := by decide
theorem test_wf_vc : (Instr.itemFrameReceive 0 { Frame.blank with vc := 8 }).wf = false := by decide
theorem test_wf_dst : (Instr.announceReceive 0 { Frame.blank with dst := 1024 }).wf = false := by decide
theorem test_wf_src : (Instr.mapReceive 0 { Frame.blank with src := 1024 }).wf = false := by decide
theorem test_wf_hh : (Instr.transportReceive 0 { Frame.blank with hh := 16 }).wf = false := by decide
theorem test_wf_epoch : (Instr.activateReceive 0 { Frame.blank with epoch := 16 }).wf = false := by decide
theorem test_wf_seq : (Instr.assignReceive 0 { Frame.blank with seq := 4096 }).wf = false := by decide
theorem test_wf_ack : (Instr.mapAckReceive 0 { Frame.blank with ack := 4096 }).wf = false := by decide
theorem test_wf_age : (Instr.linkUpdateReceive 0 { Frame.blank with age := 2 ^ 32 }).wf = false := by decide
theorem test_wf_arg2 : (Instr.delayRespReceive 0 { Frame.blank with arg2 := 2 ^ 64 }).wf = false := by decide
theorem test_wf_arg3 : (Instr.almDistArmReceive 0 { Frame.blank with arg3 := 2 ^ 64 }).wf = false := by decide
theorem test_wf_payload_words : (Instr.segmentFrameReceive 0 { Frame.blank with payload := [0] }).wf = false := by decide
theorem test_wf_payload_length :
    (Instr.itemFrameReceive 0 { Frame.blank with payload := List.replicate 8200 0 }).wf = false := by decide +kernel
theorem test_wf_seal_param : (Instr.sealParam 0 9 (List.replicate 257 0)).wf = false := by decide +kernel
theorem test_wf_tile_access : (Instr.tileSramAccess mgr 0 0 true 1 [0]).wf = false := by decide
theorem test_wf_host_write : (Instr.hostMemWrite 0 false 0 (List.replicate 4097 0) false).wf = false := by decide +kernel
theorem test_wf_dawn_measures : (Instr.dawnMeasureEnd (List.replicate 119 0) (List.replicate 120 0)).wf = false := by decide
theorem test_wf_refmon : (Instr.refmonWindowEnd []).wf = false := by decide
theorem test_wf_segment : (Instr.segmentReceive (List.replicate 7 0)).wf = false := by decide
theorem test_wf_csi : (Instr.csiLongPacket 0 0 0x2A 3 [0, 0] true ⟨false, .clean⟩).wf = false := by decide
theorem test_wf_peaks : (Instr.motorDetectDone 0 []).wf = false := by decide
theorem test_wf_flits : (Instr.packetInject 0 0 0 0 0 0 (List.replicate 17 0)).wf = false := by decide
theorem test_wf_wicket : (Instr.wicketWrite 0 []).wf = false := by decide

/-! ### Values that the spec works out -/

/-- The instruction word of chapter 10's worked case: VRED.FADD v5, v5. -/
theorem test_vred_fadd_word : ((insOf 0x6045_1400_0000_0000).cls, (insOf 0x6045_1400_0000_0000).op,
    (insOf 0x6045_1400_0000_0000).rd, (insOf 0x6045_1400_0000_0000).ra) = (6, 1, 5, 5) := by decide

/-- Table 10.14: the canonical sum of 2^24, 1, 1 and 1 over 64 leaves. -/
theorem test_canonical_sum : treeOf (redOp 1 32) 7
    ([0x4B800000, 0x3F800000, 0x3F800000, 0x3F800000] ++ List.replicate 60 0) = 0x4B800001 := by decide +kernel

/-- Table 10.14: the native variant's first add rounds to even. -/
theorem test_native_sum : fpAdd (fpAdd (fpAdd 0x4B800000 0x3F800000) 0x3F800000) 0x3F800000 = 0x4B800000 := by decide +kernel

/-- Table 4.15: the offset of REFIN. -/
theorem test_refin_offset : candOffset 3200 ⟨10486, 33553445, true, false⟩ = 1046 := by decide +kernel

/-- Chapter 4's worked case: two candidates, and the three of its second half. -/
theorem test_estimates : estimate [⟨0, 0, true, false⟩, ⟨1, 1046, true, false⟩] 0 600 = (-1046, false, false) ∧
    estimate [⟨0, 0, true, false⟩, ⟨1, 1046, true, false⟩, ⟨6, 1039, true, false⟩] 0 600 = (-1039, false, true) := by decide

/-- Chapter 7's worked ledger entry. -/
theorem test_ledger_entry : entryWord0 14913 9 1 0 0x1200 = 0x0000_3A41_2500_1200 ∧
    0x6A3B_0C15 * 2 ^ 32 + indexDevData (-3) 1 = 0x6A3B_0C15_FFFD_0001 := by decide

/-- Table 7.20: the two lengths of the open tally. -/
def tally4711 : Weigh :=
  let w := ((Weigh.reset.setParam 1 0x05001B0F).setParam 2 0x04FFF2C1).setParam 5 0x0C0
  { w with
    w0 := { Weigh.reset.w0 with edges := 379990420 }
    w1 := { Weigh.reset.w1 with edges := 380025210 } }

theorem test_tally_lengths : tally4711.length 0 = 1900108990 ∧ tally4711.length 1 = 1900049239 ∧
    tally4711.primaryLen = 1900108990 := by decide +kernel

/-- Table 17.17: the header words of entry 0 and of the pad. -/
theorem test_ring_headers : ringHeader 0x0A31 false false false 64 0x41 9 = 0x0A31_0100_0041_0009 ∧
    ringHeader 0 true false false 0 0x41 7 = 0x0000_8000_0041_0007 := by decide

/-- Table 5.14: household 2's write to a page that the SWL-9656 lacks. -/
def hh2Write : State :=
  let s : State := { ticking 5000 with si := { Silicon.reset with is9656 := true } }
  match exec (.registerWrite ⟨.host, 2, 29, 0, false⟩ 0x20_0013_A100 false 1) s with
  | .next t => t
  | _ => s

theorem test_decode_error : hh2Write.stored pMatrix 0x118 = 0xC022_1D00 ∧ hh2Write.stored pMatrix 0x110 = 0x0013_A100 ∧
    hh2Write.stored pMatrix 0x114 = 0x20 ∧ hh2Write.fld pMatrix HDR.ERR_FIRST_STAMP_LO = 5000 ∧
    hh2Write.fld pMatrix HDR.ERR_COUNT_FIRST_CODE = 1 ∧ hh2Write.fld pMatrix HDR.ERR_COUNT_FIRST_HH = 2 := by decide +kernel

/-- R204: one quadrature edge counts up in X4 and not in X2's B edge. -/
theorem test_edges : edgeDelta 0 false false true false = 1 ∧ edgeDelta 0 true true true false = -1 ∧
    edgeDelta 1 true false true true = 0 := by decide

/-- R388, R389: ADD wraps, halves round up, and the result saturates. -/
theorem test_requant : requant 3 1 1 = 2 ∧ requant 1000 1 0 = 127 ∧ requant (2 ^ 32 - 3) 1 1 = 2 ^ 32 - 1 := by decide

/-! ### One step -/

theorem test_tick : (match step (ticking 5000) with
    | .next t => t.tb.count
    | _ => 0) = 5001 := by decide +kernel

theorem test_queue_front : (match step { ticking 5000 with pending := [.tapReset, .tapClamp] } with
    | .next t => t.pending
    | _ => []) = [.tapClamp] := by decide +kernel

theorem test_memory_wf_reset : Memory.wf State.reset = true := by decide

/-! ### What meets the hypotheses of each statement -/

theorem witness_EmptyQueueStep :
    (({ ticking 5000 with held := [.wicketAbort] } : State).unheld).isSome = true ∧
    (ticking 5000).pending = [] ∧ (ticking 5000).unheld.isNone = true ∧
    (ticking 5000).mxNext (fun r => r.hdr.isSome || r.acc.master == .engine) = none ∧ (ticking 5000).lateRead.isNone = true ∧
    (ticking 5000).tb.running = true ∧ State.reset.tb.running = false ∧ State.reset.unheld.isNone = true ∧
    (({ ticking 5000 with host := { HostSt.reset with late := [.hostMemRead 0 false 0 8] } } : State).lateRead).isSome = true ∧
    (({ ticking 5000 with mx := { Matrix.reset with issued :=
      [⟨1, mgr, 0, false, 8, [], 0, 0, false, some (0, 0), 0, none, true, 0, 0, 0⟩] } } : State).mxNext
      (fun r => r.hdr.isSome || r.acc.master == .engine)).isSome = true := by
  decide +kernel

theorem witness_StepKeepsCanonical :
    ({ ticking 5000 with pending := [.tapReset] } : State).canon = true ∧
    step { ticking 5000 with pending := [.tapReset] } = .next ((ticking 5000).tapSet 1) := ⟨by decide +kernel, rfl⟩

theorem witness_StepConsumesFrontCommand :
    ({ ticking 5000 with pending := [.tapReset, .tapClamp] } : State).canon = true ∧ step { ticking 5000 with pending := [.tapReset, .tapClamp] } =
      .next (({ ticking 5000 with pending := [.tapClamp] } : State).tapSet 1) := ⟨by decide +kernel, rfl⟩

theorem witness_WeighhouseIsolated :
    (ticking 5000).canon = true ∧ Instr.ofWeighhouse .warmTakeEffect = false ∧ exec .warmTakeEffect (ticking 5000) = .next (ticking 5000) ∧
    ({ ticking 5000 with pending := [.tapReset] } : State).canon = true ∧ Instr.ofWeighhouse .tapReset = false ∧
    step { ticking 5000 with pending := [.tapReset] } = .next ((ticking 5000).tapSet 1) ∧
    (ticking 5000).pending = [] ∧ (ticking 5000).whNext = none ∧ (ticking 5000).unheld = none ∧ step (ticking 5000) = .next (ticking 5000).idle :=
  ⟨by decide +kernel, rfl, rfl, by decide +kernel, rfl, rfl, rfl, rfl, rfl, rfl⟩

theorem witness_OwnerWriteRule :
    (ticking 5000).canon = true ∧ (ticking 5000).serves mgr 0x090 0x030 true = true ∧ mgr.hh = 15 ∧
    (ticking 5000).blk 0x090 = some .motor ∧ Blk.own .motor = .p ∧
    (ticking 5000).serves mgr 0x002 0x030 true = true ∧ (ticking 5000).blk 0x002 = some .time ∧ Blk.own .time ≠ .p := by
  decide +kernel

theorem witness_ErrClrRule :
    (ticking 5000).canon = true ∧ (ticking 5000).serves mgr 0x100 0x00C true = true ∧
    0 < POWER.evVM_OV.code ∧ POWER.evVM_OV.code < 256 := by decide +kernel

theorem witness_MatrixClampRule :
    (ticking 5000).canon = true ∧ mgr.hh = 15 ∧ mgr.fab = false ∧ (ticking 5000).serves mgr pMatrix 0x108 true = true ∧
    (ticking 5000).serves mgr pMatrix 0x10C true = true ∧ pMatrix = 8 := by decide +kernel

theorem witness_HeaderEventWritesComplete :
    State.reset.serves mgr 0x002 0x01C true = true ∧ State.reset.serves mgr 0x1D0 0x018 true = true ∧
    State.reset.serves mgr 0 0x020 true = true ∧ State.reset.serves mgr 0x100 0x00C true = true ∧
    State.reset.serves mgr 0x090 0x034 true = true ∧ State.reset.serves mgr 0x1C0 0x02C true = true ∧ mgr.hh = 15 ∧
    State.reset.serves mgr 0x090 0x02C true = true := by decide

theorem witness_PageControlCompletes :
    (State.reset.blk 0x090 = some .motor ∧ State.reset.serves mgr 0x090 0x00C true = true ∧ Blk.enCtl .motor = true ∧
      State.reset.serves mgr 0x090 0x034 true = true ∧ State.reset.serves mgr 0x090 0x030 true = true ∧ mgr.hh = 15 ∧
      Blk.own .motor = .p ∧ Tab.lookup State.reset.srstAt 0x090 ≠ some State.reset.tb.beat ∧
      Tab.lookup (State.reset.softReset 0x090).srstAt 0x090 = some State.reset.tb.beat) ∧
    (State.reset.blk 0x002 = some .time ∧ State.reset.serves mgr 0x002 0x00C true = true ∧ Blk.enCtl .time = false ∧
      State.reset.serves mgr 0x002 0x030 true = true ∧ Blk.own .time ≠ .p) := by decide

/-- The device in a step of a dawn. -/
def dawning (n : Nat) : State := { State.reset with tb := { Timebase.reset with dawn := n } }

theorem witness_CounterAndDawnComplete :
    State.reset.serves mgr (timePage none) 0x100 false = true ∧
    (ticking 5).serves mgr (timePage (some 3)) 0x104 false = true ∧
    (let s := (ticking 5).setPair pTime TIME.LOAD_LO_V_LO TIME.LOAD_HI_V_HI 1000;
      s.serves mgr pTime 0x110 true = true ∧ s.pair pTime TIME.LOAD_LO_V_LO TIME.LOAD_HI_V_HI = 1000 ∧
      s.countAt (s.tb.beat + 64) < 1000 ∧ s.motorEnabled = false ∧ s.runActive = false ∧ s.outputArmed = false ∧
      s.axisEnabled = false ∧ s.anyArmed (fun m => decide (m ≤ 1000)) = false) ∧
    (ticking 5).pair pTime TIME.LOAD_LO_V_LO TIME.LOAD_HI_V_HI ≤ (ticking 5).countAt ((ticking 5).tb.beat + 64) ∧
    ({ ticking 5 with tb := { Timebase.reset with load := [(9, 70)], beat := 71 } } : State).tb.load = [(9, 70)] ∧
    ({ ticking 5 with tb := { Timebase.reset with load := [(9, 70)] } } : State).tb.load = [(9, 70)] ∧
    State.reset.dawnReq.tb.beat < State.reset.dawnReq.tb.dawnAt ∧
    State.reset.serves mgr pDawn 0x100 true = true ∧ State.reset.dawnRefusal = 0 ∧
    (State.reset.setFld pTrig TRIG.ARMED_ARMED 1).serves mgr pDawn 0x100 true = true ∧
    (State.reset.setFld pTrig TRIG.ARMED_ARMED 1).dawnRefusal ≠ 0 ∧
    (dawning 1).dawnDue 1 = true ∧ (dawning 2).dawnDue 2 = true ∧ (dawning 3).dawnDue 3 = true ∧
    (dawning 4).dawnDue 4 = true ∧ marginal (List.replicate 120 8) = [] ∧
    (dawning 4).fld pDawn DAWN.DAWN_STATUS_ATTEMPTS < 3 ∧ (marginal (List.replicate 119 8 ++ [1])) = [119] ∧
    3 ≤ ((dawning 4).setFld pDawn DAWN.DAWN_STATUS_ATTEMPTS 3).fld pDawn DAWN.DAWN_STATUS_ATTEMPTS ∧
    (ticking 5).tb.running = true ∧ State.reset.tb.running = false ∧ State.reset.tb.dawned = false ∧ State.reset.tb.dawn = 0 := by decide

/-- The device at count `c` with entry 0 of the almanac, which ALM_SEL selects. -/
def withAlm (c : Nat) (e : AlmEntry) : State :=
  { State.reset with tb := { Timebase.reset with running := true, count := c, dawned := true, alm := [(0, e)] } }

/-- An entry of household h with a meridian, a lateness rule, a code and a state. -/
def entryOf (h mer late code st : Nat) : AlmEntry := ⟨mer, h, late, 0x090, code, 0, st, 0, none⟩

theorem witness_AlmanacCommandsComplete :
    (let s := withAlm 100 (entryOf 15 1000 0 8 0);
      s.almSel none = 0 ∧ s.almMine 0 = true ∧ s.constRoot = false ∧ s.serves mgr (timePage none) 0x118 true = true ∧
      s.serves mgr (timePage none) 0x128 true = true ∧ (s.almEntry 0).armed = false ∧ (s.almEntry 0).bad = false ∧
      s.tb.count + 256 ≤ (s.almEntry 0).mer) ∧
    (let s := withAlm 100 (entryOf 3 1000 0 8 1);
      let a : Acc := ⟨.tile, 3, 0, 0, false⟩;
      s.almSel (some 3) = 0 ∧ s.almMine 0 = true ∧ s.constRoot = false ∧ (s.almEntry 0).owner = 3 ∧
      s.serves a (timePage (some 3)) 0x10C true = true ∧ s.serves a (timePage (some 3)) 0x11C true = true ∧
      (s.almEntry 0).armed = true ∧ (s.almEntry 0).st = 1 ∧ s.almLocked (s.almEntry 0) = false) ∧
    ((withAlm 900 (entryOf 15 1000 0 9 0)).almEntry 0).bad = true ∧
    (let e := (withAlm 900 (entryOf 15 1000 0 8 0)).almEntry 0; e.bad = false ∧ e.mer < 900 + 256 ∧ e.late = 0) ∧
    (let e := (withAlm 900 (entryOf 15 1000 1 8 0)).almEntry 0; e.bad = false ∧ e.mer < 900 + 256 ∧ e.late ≠ 0) ∧
    ((withAlm 900 (entryOf 15 1000 0 8 2)).almLocked (entryOf 15 1000 0 8 2)) = true ∧
    (let s := withAlm 800 (entryOf 15 1000 0 8 1); (s.almEntry 0).st = 1 ∧ (s.almEntry 0).now = none ∧ (s.almEntry 0).mer ≤ s.tb.count + 256) ∧
    (let s := withAlm 1000 (entryOf 3 1000 0 1 2);
      (s.almEntry 0).armed = true ∧ (s.almEntry 0).now = none ∧ (s.almEntry 0).mer ≤ s.tb.count ∧
      s.almBehind 0 (s.almEntry 0) = false ∧ (s.almEntry 0).owner ≠ 15 ∧
      s.almOwned (s.almEntry 0) = false) ∧
    (let s := withAlm 1000 (entryOf 15 1000 0 8 2); (s.almEntry 0).owner = 15 ∧ (s.almAct (s.almEntry 0)).isSome = true) ∧
    (let s := withAlm 1000 (entryOf 15 1000 0 7 2); (s.almEntry 0).owner = 15 ∧ (s.almAct (s.almEntry 0)) = none) := by
  decide

theorem witness_ReferenceMonitorCompletes :
    State.reset.fld pRefmon REFMON.REF_ACTIVE_SOURCE = 0 ∧ State.reset.fld pRefmon REFMON.THRESH_WARN = 600 ∧
    (estList (State.reset.candViews (List.replicate 6 ⟨1048576, 1342177280, false, false⟩)) 0).length = 1 ∧
    estimate (estList (State.reset.candViews (List.replicate 6 ⟨1048576, 1342177280, false, false⟩)) 0) 0 600 = (0, true, false) ∧
    State.reset.on pRefmon REFMON.STATUS_HOLDOVER = false ∧ State.reset.holdover.on pRefmon REFMON.STATUS_HOLDOVER = true ∧
    (State.reset.setFld pRefmon REFMON.REF_ACTIVE_SOURCE 0xE).fld pRefmon REFMON.REF_ACTIVE_SOURCE = 0xE ∧
    (State.reset.setFld pRefmon REFMON.STATUS_PLL_LOCK 1).on pRefmon REFMON.STATUS_PLL_LOCK = true ∧
    State.reset.on pRefmon REFMON.STATUS_PLL_LOCK = false ∧ State.reset.tb.running = false ∧
    State.reset.tb.fallback = 0 ∧ ({ State.reset with tb := { Timebase.reset with fallback := 1 } } : State).tb.fallback = 1 ∧
    ({ State.reset with tb := { Timebase.reset with fallback := 2 } } : State).tb.fallback = 2 := by decide

/-- The device with axis channel 0 enabled. -/
def axisOn : State := { ticking 5 with tb := { (ticking 5).tb with beat := 100 } }.setFld pAxis (AXIS.CFG_EN.at 0) 1

/-- The device with axis channel 0 enabled, whose balls have long had the levels `v`. -/
def axisSees (v : Nat) : State := axisOn.setAxis 0 { AxisSt.reset with pin := v, sense := v }

theorem witness_AxisCommandsComplete :
    State.reset.serves mgr pAxis 0x200 true = true ∧ (0x80000000 / 2 ^ 28) % 8 < 5 ∧
    State.reset.on pAxis (AXIS.CFG_EN.at 0) = false ∧
    axisOn.on pAxis (AXIS.CFG_EN.at 0) = true ∧ axisOn.fld pAxis (AXIS.CFG_MODE.at 0) = 0 ∧
    State.reset.tb.running = false ∧ axisOn.tb.running = true ∧ ((axisSees 0).axisSense 0).axis 0 = (axisSees 0).axis 0 ∧
    (∀ v ∈ [0, 1, 3, 4, 5], ((axisSees v).axis 0).atA + (axisSees v).fld pAxis (AXIS.CFG_FILT.at 0) ≤ (axisSees v).tb.beat ∧
      ((axisSees v).axisSense 0 = axisSees v)) ∧
    bitAt ((axisSees 1).axis 0).sense 0 = true ∧ bitAt ((axisSees 3).axis 0).sense 1 = true ∧
    bitAt ((axisSees 4).axis 0).sense 2 = true ∧ ((axisSees 5).axis 0).a ≠ true ∧ ((axisSees 5).axis 0).z ≠ true ∧
    bothChanged 0 false false true false = false ∧ (axisSees 3).on pAxis (AXIS.CFG_EN.at 0) = true ∧
    bitAt (State.reset.axis 0).openLive 2 = false := by decide

/-- The device with its ephemeris engine enabled in a role, at count 100, with a state of the engine. -/
def ephOn (role : Nat) (e : Ephem) : State :=
  let s : State := { ticking 100 with ln := { State.reset.ln with eph := e } }
  (s.setFld pEphem HDR.PAGE_CTRL_EN 1).setFld pEphem EPHEM.ROLE_ROLE role

/-- A segment of device `dev` that begins at `t0`, with its CRC. -/
def segOf (dev t0 : Nat) : List (BitVec 64) :=
  let ws := [0xE501000000000000 + dev * 2 ^ 22, t0, 0, 0, 0, 0, 0]
  (ws ++ [segCrc ws]).map (BitVec.ofNat 64)

theorem witness_EphemerisCommandsComplete :
    (let s := { ephOn 1 Ephem.reset with tb := { (ticking 65536).tb with beat := 65536 } };
      s.ephMaster = true ∧ s.tb.count % 4096 = 0 ∧ s.tb.count % 65536 = 0 ∧ s.ln.eph.formed = none) ∧
    (ephOn 1 { Ephem.reset with formed := some ⟨[1]⟩ }).ln.eph.formed = some ⟨[1]⟩ ∧ Seg.word ⟨[1]⟩ 6 ≠ 100 ∧
    (let s := ephOn 2 Ephem.reset;
      s.enabled pEphem = true ∧ s.fld pEphem EPHEM.ROLE_ROLE = 2 ∧ s.fld pEphem EPHEM.SOURCE_MASTER_DEV = 0 ∧
      s.ln.eph.cur.toList ++ s.ln.eph.pend = [] ∧ s.tb.count = 100) ∧
    (let g : Seg := ⟨(segOf 0 200).map BitVec.toNat⟩;
      g.crc = segCrc g.words ∧ g.type = 0xE5 ∧ g.version = 1 ∧ g.dev = 0 ∧ 100 < g.t0) ∧
    (let g : Seg := ⟨(segOf 3 200).map BitVec.toNat⟩;
      g.crc = segCrc g.words ∧ g.type = 0xE5 ∧ g.version = 1 ∧ g.dev ≠ 0) ∧
    (let g : Seg := ⟨(segOf 0 90).map BitVec.toNat⟩;
      g.crc = segCrc g.words ∧ g.type = 0xE5 ∧ g.version = 1 ∧ g.dev = 0 ∧ g.t0 ≤ 100) ∧
    (let g : Seg := ⟨[0, 0, 0, 0, 0, 0, 0, 1]⟩; g.crc ≠ segCrc g.words) ∧
    (let s := ephOn 2 { Ephem.reset with pend := [⟨[0, 50]⟩] }; s.ln.eph.pend = [⟨[0, 50]⟩] ∧ Seg.t0 ⟨[0, 50]⟩ ≤ s.tb.count) ∧
    (let s := ephOn 2 { Ephem.reset with cur := some ⟨[0, 50]⟩ };
      s.ln.eph.cur = some ⟨[0, 50]⟩ ∧ Seg.t0 ⟨[0, 50]⟩ + Seg.validLen ⟨[0, 50]⟩ ≤ s.tb.count ∧ s.ln.eph.pend.head? = none) := by decide +kernel

/-- Trigger schedule 0 (or strobe 0) armed in TIME mode at count 1000, with NEXT at `n`, in a state of the schedule. -/
def armedAt (f : SchedF) (n : Nat) (x : SchedSt) : State :=
  ((((ticking 1000).setFld f.page f.armed 1).setFld f.page f.mode 1).setPair f.page f.nextLo f.nextHi n).setSched f x

theorem witness_ScheduleCommandsComplete :
    State.reset.serves mgr pTrig 0x108 true = true ∧ State.reset.serves mgr pTrig 0x10C true = true ∧
    State.reset.serves mgr pStrobe 0x104 true = true ∧ State.reset.serves mgr pStrobe 0x108 true = true ∧
    State.reset.serves mgr pLine 0x100 true = true ∧
    (let s := armedAt (trigF 0) 1000 SchedSt.reset;
      s.forceDue = s ∧ s.isArmed (trigF 0) = true ∧ s.isLinked (trigF 0) = false ∧ s.schedAt (trigF 0) = some 1000 ∧
      s.passed (trigF 0) 1000 = 1 ∧ (s.dutyTest (trigF 0)).outBusy (trigF 0) = false) ∧
    (let s := armedAt (stbF 0) 1001 SchedSt.reset;
      s.forceDue = s ∧ s.isLinked (stbF 0) = false ∧ s.isArmed (stbF 0) = true ∧ s.schedAt (stbF 0) = some 1000 ∧
      s.passed (stbF 0) 1000 = 0) ∧
    (let s := armedAt (trigF 0) 1000 { SchedSt.reset with idleAt := 2000 };
      s.passed (trigF 0) 1000 = 1 ∧ (s.dutyTest (trigF 0)).outBusy (trigF 0) = true) ∧
    (let s := (armedAt (stbF 0) 1000 { SchedSt.reset with linked := [0] }).setFld pStrobe (STROBE.CFG_LINK.at 0) 1;
      s.isArmed (stbF 0) = true ∧ s.isLinked (stbF 0) = true ∧ (s.sched (stbF 0)).linked = [0] ∧
      0 ≤ s.tb.beat ∧ (s.dutyTest (stbF 0)).outBusy (stbF 0) = false ∧
      ((s.setFld pStrobe (STROBE.DUTY_MAX_DUTY.at 0) 0).dutyTest (stbF 0)).outBusy (stbF 0) = true) ∧
    (State.reset.sched (trigF 0)).idleAt ≤ State.reset.tb.beat + 2 ∧
    (State.reset.sched (stbF 7)).idleAt ≤ State.reset.tb.beat + 2 ∧
    (let s := (armedAt (stbF 0) 1000 { SchedSt.reset with pulse := true, idleAt := 2000 }).setFld pStrobe
        (STROBE.DUTY_MAX_DUTY.at 0) 0;
      (s.sched (stbF 0)).pulse = true ∧ s.tb.beat + 2 < (s.sched (stbF 0)).idleAt ∧ s.dutySpent 0 = true) := by decide +kernel

/-- The device with another Weighhouse die, one that runs. -/
def weighing (f : Weigh → Weigh) : State := { State.reset with wh := f { Weigh.reset with halted := false } }

theorem witness_WeighhousePowerPathCompletes :
    State.reset.wh.src ≠ 1 ∧ (weighing (fun w => { w with src := 1 })).wh.src = 1 ∧
    (let s := weighing (fun w => { w with src := 2, gap := some 5, ns := 20000000 });
      s.wh.halted = false ∧ s.wh.commit = false ∧ s.wh.src = 2 ∧ s.wh.gap = some 5 ∧ s.wh.low = false ∧
      s.wh.riseAt + 20000000 ≤ s.wh.ns) ∧
    State.reset.wh.ns < State.reset.wh.riseAt + 20000000 ∧
    (let s := weighing (fun w => { w with ns := 1000000000 });
      s.wh.halted = false ∧ s.wh.commit = false ∧ s.wh.routineAt + 1000000000 ≤ s.wh.ns) ∧
    (let s := weighing (fun w => { w with src := 1 }); s.wh.halted = false ∧ s.wh.src = 1 ∧ s.wh.commit = false) ∧
    (let s := weighing (fun w => { w with commit := true });
      s.wh.halted = false ∧ s.wh.commit = true ∧ s.wh.probeDue = false) ∧
    (weighing (fun w => { w with probeDue := true })).wh.probeDue = true ∧
    State.reset.wh.halted = true := by decide

theorem witness_BackupElementCompletes :
    (weighing id).wh.halted = false ∧ (weighing id).wh.sealSt = 0 ∧ (weighing id).wh.opener = none ∧
    (weighing id).wh.hot = false ∧
    (let s := weighing (fun w => { w.setParam 9 0x10 with chg := 3, absent := false });
      s.wh.halted = false ∧ s.wh.absent = false ∧ s.wh.hot = false ∧ s.wh.src = 0 ∧ s.wh.charges = true ∧
      s.wh.probeAt = none ∧ s.wh.chg = 3) ∧
    (let s := weighing (fun w => { w with absent := true }); s.wh.halted = false ∧ s.wh.absent = true) ∧
    (let s := weighing (fun w => { w with chg := 2 }); s.wh.halted = false ∧ s.wh.chg = 2) ∧
    (let s := weighing (fun w => { w.setParam 9 0 with ns := 8000000000 });
      s.wh.charges = false ∧ s.wh.sampleAt + 8000000000 ≤ s.wh.ns) ∧
    (weighing (fun w => w.setParam 9 0)).wh.charges = false ∧
    (weighing id).wh.ns < (weighing id).wh.sampleAt + 8000000000 ∧
    (weighing (fun w => { w with sealSt := 2 })).wh.sealSt = 2 ∧
    (let s := weighing (fun w => { w with probing := true, probeAt := some 0, ns := 1000000 });
      s.wh.probing = true ∧ s.wh.probeAt = some 0 ∧ 0 + 1000000 ≤ s.wh.ns) := by decide

theorem witness_MeterAndRecordsComplete :
    (let s := weighing (fun w => ((w.setParam 1 5).setParam 3 1024).setParam 5 0x40);
      s.wh.halted = false ∧ (s.wh.ch 0).z = false ∧ s.wh.counts 0 = true ∧ s.wh.param 3 ≠ 0 ∧
      bitAt (s.wh.ch 0).wired 2 = false) ∧
    (weighing id).whServes 2 7 = true ∧ (weighing id).whServes 3 7 = true ∧ (weighing id).wh.idBad = false ∧
    (weighing id).wh.storeUsed < 128 ∧
    128 ≤ (weighing (fun w => { w with store := List.replicate 128 (5, []) })).wh.storeUsed ∧
    (let s := weighing (fun w => { w with signing := [⟨1, [], none⟩] });
      s.wh.signing = [⟨1, [], none⟩] ∧ s.wh.src = 0 ∧ s.wh.halted = false ∧ s.wh.idBad = false) := by decide +kernel

theorem witness_WeighhouseReadsComplete :
    (7 : BitVec 8).toNat = 7 ∧ (weighing id).whServes 1 7 = true ∧ (weighing id).wh.store.find? (fun e => e.1 == 0) = none ∧
    (weighing (fun w => { w with store := [(1, [5])], stamp := some [6] })).whServes 1 7 = true ∧
    (weighing (fun w => { w with store := [(1, [5])] })).wh.store.find? (fun e => e.1 == 1) = some (1, [5]) ∧
    (weighing (fun w => { w with stamp := some [6] })).wh.stamp = some [6] ∧ (weighing id).wh.stamp = none ∧
    whListed 9 0 = false ∧ (weighing id).whServes 9 7 = true := by decide

theorem witness_SealCommandsComplete :
    (weighing id).whServes 4 7 = true ∧
    (weighing id).openRefusal 0 0 = some 1 ∧
    (weighing (fun w => { w with refusedAt := some 0 })).openRefusal 0 0 = some 7 ∧
    (weighing (fun w => { w with refusedAt := some 0 })).whServes 4 7 = true ∧
    (weighing id).wh.paramRefusal 0 [] = some (4, []) ∧
    (weighing id).wh.paramRefusal 6 [1, 0, 0, 0] = none ∧ (weighing id).wh.sealSt = 0 ∧ (weighing id).wh.sealLow = false ∧
    (let s := weighing (fun w => { w with sealLow := true });
      s.whServes 4 7 = true ∧ s.wh.paramRefusal 6 [1, 0, 0, 0] = none ∧ s.wh.sealLow = true) := by decide +kernel

/-- The device with another bridge block. -/
def bridging (f : Whb → Whb) : State := { State.reset with wb := f State.reset.wb }

theorem witness_BridgeCommandsComplete :
    State.reset.serves mgr pWhb 0x100 true = true ∧ State.reset.serves mgr pWhb 0x204 true = true ∧
    (let s := bridging (fun b => { b with ready := true });
      s.serves mgr pWhb 0x204 true = true ∧ s.fld pWhb WHB.MIRROR_SEAL_STATE ≠ 1 ∧
      s.on pWhb WHB.REQ_STATUS_BUSY = false ∧ s.wb.ready = true) ∧ State.reset.wb.ready = false ∧
    (weighing (fun w => { w with lane := some (rspFrame ⟨1, 0, 0, 1, []⟩) })).wh.lane = some (rspFrame ⟨1, 0, 0, 1, []⟩) ∧
    rspOf (rspFrame ⟨1, 0, 0, 1, []⟩) = some ⟨1, 0, 0, 1, []⟩ ∧ rspOf [] = none ∧
    State.reset.wb.req = none ∧
    (let s := (bridging (fun b => { b with req := some (1, 0, []), kind := 0 })).setFld pWhb WHB.REQ_STATUS_ATTEMPTS 3;
      s.wb.req = some (1, 0, []) ∧ s.fld pWhb WHB.REQ_STATUS_ATTEMPTS = 3 ∧ s.tb.beat < s.wb.sentAt + 200000000) ∧
    (let s : State := { bridging (fun b => { b with req := some (1, 0, []) }) with
        tb := { Timebase.reset with beat := 200000000 } };
      s.wb.req = some (1, 0, []) ∧ s.wb.sentAt + 200000000 ≤ s.tb.beat ∧ s.fld pWhb WHB.REQ_STATUS_ATTEMPTS < 3 ∧
      3 ≤ (s.setFld pWhb WHB.REQ_STATUS_ATTEMPTS 3).fld pWhb WHB.REQ_STATUS_ATTEMPTS) ∧
    State.reset.mirrorDueNow = true ∧ (State.reset.setFld pPower POWER.MIRROR_CTRL_MIRROR_EN 0).mirrorDueNow = false := by
  decide

/-- The device with its host link up. -/
def linked : State := { ticking 5000 with host := { State.reset.host with linkUp := true } }

theorem witness_ResetCommandsComplete :
    State.reset.por = false ∧ ({ State.reset with por := true } : State).por = true ∧
    State.reset.serves mgr pDevice 0x120 true = true ∧ mgr.hh = 15 ∧
    bitAt 0x5A01 0 = true ∧ bitsOf 0x5A01 15 8 = 0x5A ∧ State.reset.warmDue = none ∧ bitAt 0 0 = false ∧
    ({ State.reset with warmDue := some (4096, 1) } : State).warmDue = some (4096, 1) ∧
    (let s : State := { State.reset with warmDue := some (4096, 1), tb := { Timebase.reset with beat := 4096 } };
      s.warmDue = some (4096, 1) ∧ 4096 ≤ s.tb.beat) ∧ State.reset.tb.beat < 4096 ∧
    State.reset.fieldAt (regKey pHost HOST.LINK_CFG_TARGET_SPEED.bit) = some HOST.LINK_CFG_TARGET_SPEED ∧
    State.reset.fieldAt (regKey pPower POWER.POR_CAUSE_CAUSE.bit) = some POWER.POR_CAUSE_CAUSE ∧
    State.reset.inert = false ∧
    linked.hostUp = true ∧ bitAt (State.reset.fld pDevice DEVICE.STRAP_CFG) 2 = false ∧ State.reset.phyOk = true ∧
    (3 : Fin 4).val + 1 ≤ State.reset.speedCap ∧
    (3 : Fin 4).val + 1 ≤ max 1 (State.reset.fld pHost HOST.LINK_CFG_TARGET_SPEED) := by decide

theorem witness_HouseholdResetsComplete :
    (let s := { linked with host := { linked.host with vfEnable := true, numVfs := 8 } };
      s.hostUp = true ∧ s.funcExists 3 = true) ∧
    State.reset.serves mgr pHost 0x110 true = true ∧ mgr.hh = 15 ∧ mgr.master ≠ .wicket ∧
    State.reset.serves ⟨.host, 2, 29, 0, false⟩ (pHh 2) 0x144 true = true ∧
    bitAt 0x5A01 0 = true ∧ bitsOf 0x5A01 15 8 = 0x5A ∧ bitAt 0 0 = false ∧
    2 ∈ ({ State.reset with hhReset := [2] } : State).hhReset := by decide

theorem witness_SuppliesComplete :
    State.reset.dr.ouvCst = false ∧ ({ State.reset with dr := { State.reset.dr with ouvCst := true } } : State).dr.ouvCst = true ∧
    State.reset.on pPower POWER.RAIL_STATUS_VGD_OK = true ∧ hyster true 8000 8500 9000 = false ∧
    State.reset.on pPower POWER.RAIL_STATUS_VSTB_OK = true ∧ hyster true 4000 4400 4500 = false ∧
    State.reset.on pPower POWER.RAIL_STATUS_VM_OK = true ∧ State.reset.on pPower POWER.RAIL_STATUS_VM_OV = false ∧
    hyster true 40000 State.reset.vmUvLim (State.reset.vmUvLim + 250) = true ∧
    State.reset.phyOk = true ∧ hyster true 800 830 850 = false ∧ State.reset.on pPower POWER.RAIL_STATUS_VDD2X_OK = true ∧
    hyster true 900 1000 1020 = false ∧ State.reset.on pPower POWER.RAIL_STATUS_VDDQX_OK = true ∧
    hyster true 500 540 550 = false ∧ State.reset.serves mgr pPower 0x104 true = true ∧ mgr.hh = 15 := by decide

/-- The device with another DRAM state. -/
def dramOf (f : DramSt → DramSt) : State := { State.reset with dram := f State.reset.dram }

theorem witness_DramCommandsComplete :
    State.reset.serves mgr pDramadm 0x100 true = true ∧ mgr.hh = 15 ∧ State.reset.admCause = 0 ∧
    (State.reset.setFld pDramadm DRAMADM.SPILL_RES_BYTES 0xFFFFFF).admCause = 1 ∧
    (State.reset.setFld pDramadm (DRAMADM.REG_CTRL_EN.at 0) 1 |>.setFld pDramadm (DRAMADM.REG_SIZE_MIB.at 0) 0x7FFF).admCause = 3 ∧
    (takeFirst (fun x : DramReq => x.ch == 0 && x.timed) [⟨0, true, false, 3, 64⟩]).isSome = true ∧
    takeFirst (fun x : DramReq => x.ch == 0 && x.timed) [⟨0, false, true, 3, 64⟩] = none ∧
    (takeFirst (fun x : DramReq => x.ch == 0 && x.committed) [⟨0, false, true, 3, 64⟩]).isSome = true ∧
    (dramOf (fun d => { d with waiting := [⟨0, false, false, 3, 64⟩] })).excNext 0 = some 3 ∧
    State.reset.tb.haltedIslands = false ∧
    ({ State.reset with tb := { Timebase.reset with haltedIslands := true } } : State).tb.haltedIslands = true ∧
    State.reset.excNext 0 = none ∧
    (ticking 65536).stands (writesField pDramadm DRAMADM.REF_ENV_MAX) = false ∧ (ticking 65536).onTick 65536 = true ∧
    (ticking 65536).dram.refAt ≠ (ticking 65536).tb.beat + 1 ∧ (ticking 65536).dram.winAt ≠ (ticking 65536).tb.beat + 1 ∧
    (ticking 65537).onTick 65536 = false ∧
    (State.reset.setFld pDramadm DRAMADM.ADM_ADAPT_ADAPT_EN 0).on pDramadm DRAMADM.ADM_ADAPT_ADAPT_EN = false ∧
    (State.reset.setFld pDramadm DRAMADM.ADM_ADAPT_ADAPT_EN 1).on pDramadm DRAMADM.ADM_ADAPT_ADAPT_EN = true := by
  decide +kernel

/-- A run of household 0 on tile 0 whose one leaf is about to issue the word `w`; its context is `c`. -/
def tileRun (w : Nat) (c : LeafSt) : State :=
  let r : RunSt := {
    slot := 0, launched := 100, started := true, tiles := [0], entry := 0, codeSize := 4096, leafSram := 4096, usesSid := true
    tried := false, got := false, digested := false, takeAt := 0, takeRef := 0, anchor := false, gotAt := 0, emits := []
    poison := [], redDone := false, readyAt := 0, readyRef := 0, sentRef := 0, sentRty := 0, faults := [], refUntil := 0
    resumeAt := 0, active := false, haltReq := none }
  let s := State.reset.setFld (pTile 0) (HDR.owner (pTile 0)) 0
  { s with run := [(0, r)], tile := [(0, { TileSt.reset with sram := (TileSt.reset.put 0 (leBytes 8 w)).sram, ctxs := [c] })] }

/-- A leaf with s1 = 3, s2 = 5 and v1 lane 0 = 7. -/
def leaf0 : LeafSt := ⟨0, 0, [(1, 3), (2, 5)], [(16, 7)], [], none, false, [], false, false, []⟩

/-- The word of CLASS, OP, RD 3, RA 1, RB 2 and IMM. -/
def insWord (cls op imm : Nat) : Nat := cls * 2 ^ 60 + op * 2 ^ 54 + 3 * 2 ^ 48 + 1 * 2 ^ 42 + 2 * 2 ^ 36 + imm

/-- The instruction issues in `tileRun`, with some context and fields. -/
def issues (cls op imm : Nat) (uses : Ins → List Nat) : Bool :=
  let n := insOf (insWord cls op imm)
  match (tileRun (insWord cls op imm) leaf0).issuing 0 with
  | some i => (tileRun (insWord cls op imm) leaf0).nextIs 0 cls op uses { i with c := i.c.marked n 0 } n
  | none => false

theorem witness_ScalarInstructionsComplete :
    (issues 0 2 8 Ins.none && issues 0 3 8 (fun n => [n.ra]) && issues 0 4 8 (fun n => [n.ra]) && issues 0 5 8 Ins.raRb
      && issues 0 6 8 Ins.raRb && issues 0 0 0 Ins.none && issues 0 8 9 (fun n => [n.rd])) = true ∧
    ((List.range 11).all (fun op => issues 1 op 0 Ins.rdRaRb) && issues 1 0x10 1 Ins.rdRa && issues 1 0x11 1 Ins.rdRa) = true ∧
    ((tileRun (insWord 0 8 9) leaf0).issuing 0).any (fun i =>
      i.r.usesSid && ((tileRun (insWord 0 8 9) leaf0).special i 9).isSome) = true := by decide +kernel

theorem witness_VectorInstructionsComplete :
    (((List.range 11) ++ [0x0E, 0x10, 0x11, 0x12]).all (fun op => issues 2 op 3 Ins.rdRaRb)
      && issues 2 0x0B 0 Ins.raRb && issues 2 0x0C 0 Ins.raRb && issues 2 0x0D 0 Ins.rdRa
      && issues 2 0x13 0 (fun n => [n.rd]) && issues 2 0x14 0 Ins.rdRa) = true ∧
    ((List.range 6).all (fun op => issues 3 op 0 Ins.rdRaRb) && issues 3 6 0 Ins.rdRa && issues 3 7 0 Ins.rdRa
      && issues 3 8 0 Ins.raRb && (List.range 6).all (fun op => issues 6 (0x20 + op) 0 Ins.rdRa)
      && issues 7 0 1 Ins.rdRa) = true := by decide +kernel

/-- The fields of the one leaf's next instruction in a state, tested. -/
def issueTest (s : State) (f : Issue → Ins → Bool) : Bool :=
  match s.issuing 0 with
  | some i => (match i.fetch with
    | .ok w => f i (insOf w)
    | .error _ => false)
  | none => false

/-- A leaf with an outstanding DMA. -/
def leafDma (put : Bool) : LeafSt := { leaf0 with dma := [⟨put, 0, 0, 64, if put then leBytes 64 5 else []⟩] }

/-- A leaf whose POP waits. -/
def leafPop : LeafSt := { leaf0 with popWait := true }

/-- The run has obtained its step item. -/
def gotItem (s : State) : State := { s with run := s.run.map (fun e => (e.1, { e.2 with tried := true, got := true })) }

/-- Household 0 may reach the first 64 MiB of DRAM; queue 0 is its own. -/
def ownsMem (s : State) : State :=
  let u := s.setFld pQe (QE.Q_OWNER_QUEUE.at 0) 0
  { u with dram := { u.dram with adm := { u.dram.adm with regions := [⟨0, 64, 0⟩] } } }

/-- A leaf with s1 = 0 and s2 = 64. -/
def leafLow : LeafSt := { leaf0 with s := [(2, 64)] }

theorem witness_MemoryAndQueueInstructionsComplete :
    (issues 4 0 61 Ins.rdRa && issues 4 1 61 Ins.rdRa && issues 4 2 5 Ins.rdRa && issues 4 3 5 Ins.rdRa
      && issues 4 0x0A 0 Ins.none && issues 5 0 1 Ins.rdRaRb && issues 5 1 1 Ins.raRb && issues 4 8 1 Ins.raRb
      && issues 4 9 1 Ins.raRb) = true ∧
    (issueTest (tileRun (insWord 4 0 61) leaf0) (fun i n => i.winFault (i.offset n) 64 64 == none)
      && issueTest (tileRun (insWord 4 2 5) leaf0) (fun i n => i.winFault (i.offset n) 8 8 == none)
      && issueTest (ownsMem (tileRun (insWord 4 8 1) leafLow)) (fun i n => i.winFault (i.c.sreg n.rb) 64 64 == none
        && (ownsMem (tileRun 0 leafLow)).dramMapped (i.c.sreg n.ra) 64
        && (ownsMem (tileRun 0 leafLow)).dramMay i.h (i.c.sreg n.ra) 64)
      && issueTest (gotItem (tileRun (insWord 5 0 1) leaf0)) (fun i n => i.winFault (i.c.sreg n.rb) 8 1 == none
        && i.r.tried && i.r.got)
      && issueTest (ownsMem (tileRun (insWord 5 1 1) leafLow)) (fun i n => i.winFault (i.c.sreg n.rb) 8 1 == none
        && (ownsMem (tileRun 0 leafLow)).qOwner (i.c.sreg n.ra % 256) == i.h)) = true ∧
    ((tileRun 0 (leafDma true)).tl 0).ctxs.findIdx? (fun c => c.leaf == 0) = some 0 ∧
    ((tileRun 0 (leafDma false)).runOf ((tileRun 0 (leafDma false)).tileOwner 0)).isSome = true ∧
    (gotItem (tileRun (insWord 5 0 1) leafPop)).tl 0 = (tileRun (insWord 5 0 1) leafPop).tl 0 ∧
    ((tileRun (insWord 5 0 1) leafPop).tl 0).ctxs[0]? = some leafPop := by decide +kernel

/-- Breakpoint 0 of tile 0 stands at the first instruction. -/
def bpOn (s : State) : State :=
  (s.setFld (pTile 0) (TILE.BP_CTRL_EN.at 0) 1).setFld (pTile 0) (TILE.BP_CTRL_ANY_LEAF.at 0) 1

theorem witness_BarrierInstructionsComplete :
    (issues 0 1 0 Ins.none && issues 8 0 0 Ins.none && issues 8 1 0 Ins.none && issues 0 7 0x2A Ins.none
      && (List.range 6).all (fun op => issues 6 op 0 Ins.rdRa && issues 6 (0x10 + op) 0 Ins.rdRa)) = true ∧
    issueTest (bpOn (tileRun 0 leaf0)) (fun i _ => (bpOn (tileRun 0 leaf0)).bpAt i == some 0) = true ∧
    issueTest (tileRun (9 * 2 ^ 60) leaf0) (fun i n =>
      !insLegal n.cls n.op && ((tileRun (9 * 2 ^ 60) leaf0).bpAt i).isNone) = true := by decide +kernel

/-- An image of one instruction, 8 bytes of code, in DRAM of the manager's at address 0, with this program digest. -/
def imageMem (dig : List Byte) : List (Nat × Byte) :=
  let hd : List Byte := [0x45, 0x44, 0x42, 0x01, 1, 0, 3, 0] ++ leBytes 4 8 ++ leBytes 4 0 ++ leBytes 4 64 ++ leBytes 4 0 ++
    [1, 0] ++ List.replicate 6 0 ++ dig ++ List.replicate 64 0
  (hd ++ leBytes 8 0).mapIdx (fun i b => (i, b))

/-- Slot 0 is household 0's, its state `st`, its image at address 0 with this program digest; tile 0 is its own. -/
def slotOf (dig : List Byte) (st : Nat) : State :=
  let z := { State.reset with tb := { State.reset.tb with beat := 1000, count := 4000 } }
  let u := ((((z.setFld pSieve (SIEVE.SLOT_OWNER_SLOT.at 0) 0).setFld pSieve (SIEVE.STATUS_STATE.at 0) st).setFld
    (pTile 0) (HDR.owner (pTile 0)) 0).setFld pQe (QE.Q_OWNER_QUEUE.at 0) 0).setFld pSieve (SIEVE.CFG_MODE.at 0) 1
  { u with
    dram := { u.dram with mem := imageMem dig, adm := { u.dram.adm with regions := [⟨0, 64, 0⟩] } }
    img := [(0, ⟨[0], 0, 8, 0, 64, 3, 0, 0⟩)] }

/-- The digest of that image. -/
def imageDigest : List Byte :=
  let hd := (slotOf (List.replicate 32 0) 1).dramRead 0 136
  sha256 (hd.take 32 ++ hd.drop 64)

theorem witness_SlotCommandsComplete :
    (slotOf [] 0).slotOwner 0 = 0 ∧ (slotOf [] 0).serves mgr pSieve 0x200 true = true ∧
    (List.range 16).any (fun j => (slotOf [] 0).slotOwner j == 0 && ((slotOf [] 0).slotState j == 1 ||
      (slotOf [] 0).slotState j == 3)) = false ∧ (slotOf (List.replicate 32 0) 0).imageErr 0 = 0 ∧
    (slotOf [] 0).launchCause 0 = 1 ∧ (slotOf [] 2).launchCause 0 = 0 ∧ (Tab.lookup (slotOf [] 2).img 0).isSome = true ∧
    (slotOf (List.replicate 32 0) 1).slotState 0 = 1 ∧ (slotOf (List.replicate 32 0) 1).imageErr 0 = 0 ∧
    80 * (slotOf (List.replicate 32 0) 1).loadBlocks 0 ≤ 1000 ∧ (slotOf [] 1).tb.beat = 1000 := by decide +kernel

theorem witness_SlotCommandsComplete_digest :
    imageDigest ≠ List.replicate 32 0 ∧ imageDigest.length = 32 ∧ (slotOf imageDigest 1).imageErr 0 = 0 ∧
    ((slotOf imageDigest 1).dramRead 0 64).drop 32 = imageDigest := by decide +kernel

/-- A run of household 0 in slot 0, of `chips` chips, its one leaf at barrier `b`. -/
def atBarrier (b : BarAt) (chips : Nat) : State :=
  (tileRun 0 { leaf0 with bar := some b }).setFld pSieve (SIEVE.CFG_CHIPS_M1.at 0) (chips - 1)

/-- A run of household 0 takes its items from queue 0. -/
def takesItems (tried : Bool) : State :=
  let s := ownsMem (tileRun 0 leaf0)
  { s.setFld pSieve SIEVE.RUNNING_RUNNING 1 with run := s.run.map (fun e => (e.1, { e.2 with tried := tried })) }

theorem witness_RunCommandsComplete :
    ((atBarrier ⟨8, 1, 0, []⟩ 1).runOf 0).any (fun r => (atBarrier ⟨8, 1, 0, []⟩ 1).barrierOf r == some ⟨8, 1, 0, []⟩) = true ∧
    ((atBarrier ⟨8, 0, 0, []⟩ 1).runOf 0).any (fun r => !r.got && (atBarrier ⟨8, 0, 0, []⟩ 1).barrierOf r == some ⟨8, 0, 0, []⟩)
      = true ∧
    ((atBarrier ⟨6, 0x10, 3, [9]⟩ 2).runOf 0).any (fun r => (atBarrier ⟨6, 0x10, 3, [9]⟩ 2).barrierOf r ==
      some ⟨6, 0x10, 3, [9]⟩ && decide (1 < (atBarrier ⟨6, 0x10, 3, [9]⟩ 2).slotChips r.slot)) = true ∧
    ((takesItems true).runOf 0).any (fun r => r.tried && !r.got && (takesItems true).slotInQ r.slot == 0) = true ∧
    (takesItems true).qOwner 0 = 0 ∧ ((takesItems true).boundTo 0).isEmpty = true ∧
    (takesItems true).stands (releasesHeld 0) = false ∧ (atBarrier ⟨8, 1, 0, []⟩ 1).stands (beforeStep 0) = false ∧ bitAt (takesItems true).runningMask 0 = true ∧
    (tileRun 0 leaf0).por = false ∧ (tileRun 0 leaf0).tb.dawn = 0 ∧
    (tilesOf 64 16).any (fun t => ((tileRun 0 leaf0).blk (pTile t)).isNone) = false ∧
    (tilesOf 64 16).any (fun t => (tileRun 0 leaf0).tileOwner t != 0) = false ∧
    (tileRun 0 leaf0).hhReset.contains 0 = false := by decide +kernel

/-- Motor channel 0 is in a state of Table 8.3. -/
def motorIn (st : Nat) : State := (ticking 9000).setMotorState 0 st

/-- Motor channel 0 has been in a state of Table 8.3 for 2^40 beats, 63 samples summed, its 12 vectors done, its ramp
at the end. -/
def motorLong (st : Nat) : State :=
  let s := motorIn st
  let t := s.setMo 0 { s.mo 0 with calN := 63, detK := 12, rampTop := some 0 }
  { t with tb := { t.tb with beat := 2 ^ 40 } }

/-- Motor channel 0 may start: its pages enabled, its supplies good, its limits set. -/
def motorReady : State :=
  let s := (((((motorIn 0).setFld (pMotor 0) HDR.PAGE_CTRL_EN 1).setFld (pPwm 0) HDR.PAGE_CTRL_EN 1).setFld (pGate 0)
    HDR.PAGE_CTRL_EN 1).setFld (pMotor 0) MOTOR.ILIM_CBC_ILIM 100).setFld (pMotor 0) MOTOR.ILIM_AVG_ILIM 50
  s.setFld (pMotor 0) MOTOR.MODE_START_METHOD 2

theorem witness_MotorCommandsComplete :
    motorReady.serves mgr (pMotor 0) 0x100 true = true ∧ motorReady.motorState 0 = 0 ∧ motorReady.startRefusal 0 = none ∧
    (motorIn 0).startRefusal 0 = some 1 ∧
    (motorIn 8).serves mgr (pMotor 0) 0x100 true = true ∧ (motorIn 8).motorState 0 = 8 ∧
    (motorIn 8).on (pMotor 0) MOTOR.MODE_STOP_MODE = false ∧
    ((motorIn 8).setFld (pMotor 0) MOTOR.MODE_STOP_MODE 1).on (pMotor 0) MOTOR.MODE_STOP_MODE = true ∧
    (motorIn 0).serves mgr 0x090 0x148 true = true ∧ isLimitReg 0x090 0x148 = true ∧
    (motorIn 0).serves mgr 0x094 0x128 true = true ∧ isLoopReg 0x094 0x128 = true := by decide +kernel

theorem witness_MotorCommandsComplete_times :
    [2, 3, 4, 5, 6, 10].all (fun st => (motorLong st).motorState 0 == st && ((motorLong st).mo 0).calN == 63
      && decide (12 ≤ ((motorLong st).detect 0).detK) && ((motorLong st).mo 0).rampTop == some 0
      && decide (((motorLong st).mo 0).stateAt + (motorLong st).fld (pMotor 0) MOTOR.ALIGN_ALIGN_TIME * 65536 ≤ 2 ^ 40)
      && decide (((motorLong st).mo 0).stateAt + (motorLong st).fld (pMotor 0) MOTOR.RESTART_DELAY * 65536 ≤ 2 ^ 40)
      && decide (((motorLong st).mo 0).runAt + 2 ^ 30 ≤ 2 ^ 40)
      && decide ((motorLong st).fld (pMotor 0) MOTOR.HANDOVER_TMO * 65536 ≤ 2 ^ 40)) = true ∧
    (List.range 8).any (fun c => (motorIn 6).hallSector 0 c == some ((motorIn 6).hallNow 0)) = true ∧
    (List.range 8).any (fun c => ((motorIn 6).hallSector 0 c).any (· != (motorIn 6).hallNow 0)) = true := by decide +kernel

/-- Motor channel 0, its pages enabled, is in a state of Table 8.3. -/
def motorOnIn (st : Nat) : State := motorReady.setMotorState 0 st

/-- Motor channel 0 is LOCKED with facets of pitch 1,000 and a segment in force. -/
def facetsOn : State :=
  let s := (((motorOnIn 8).setFld (pMotor 0) MOTOR.MODE_FACET_EN 1).setFld (pMotor 0) MOTOR.FACET_PITCH_PITCH 1000)
  { s with ln := { s.ln with eph := { s.ln.eph with cur := some ⟨[0, 0, 0, 0, 100000]⟩ } } }

/-- Time stands at this beat. -/
def onTickAt (b : Nat) : State := { motorOnIn 0 with tb := { (motorOnIn 0).tb with beat := b, count := b } }

/-- The first period of PWM generator 0 is due at beat 5. -/
def pwmDue : State := (onTickAt 9).setPw 0 { PwmSt.reset with due := some 5 }

theorem witness_DriveUpdatesComplete :
    (motorOnIn 0).enabled (pMotor 0) = true ∧ (motorOnIn 0).motorState 0 = 0 ∧ (motorOnIn 4).motorState 0 = 4 ∧
    (motorOnIn 2).motorState 0 = 2 ∧ (motorOnIn 3).motorState 0 = 3 ∧
    (motorOnIn 0).stands (writesField (pMotor 0) MOTOR.OBS_ENV_MAX) = false ∧ (onTickAt 65536).onTick 65536 = true ∧
    ((onTickAt 65536).mo 0).derateAt ≠ (onTickAt 65536).tb.beat + 1 ∧ (onTickAt 65536).pending = [] ∧
    ((motorOnIn 0).gt 0).cst = 0 ∧ (pwmDue.pw 0).due = some 5 ∧ 5 ≤ pwmDue.tb.beat ∧ pwmDue.enabled (pPwm 0) = true ∧
    pwmDue.pending = [] ∧ (pwmDue.pw 0).running = false ∧
    (motorOnIn 5).motorState 0 = 5 ∧ (motorOnIn 8).motorState 0 = 8 ∧
    facetsOn.on (pMotor 0) MOTOR.MODE_FACET_EN = true ∧ facetsOn.fld (pMotor 0) MOTOR.FACET_PITCH_PITCH = 1000 ∧
    facetsOn.fld (pMotor 0) MOTOR.FACET_TRIM_TRIM = (facetsOn.mo 0).trimTarget ∧
    (facetsOn.positionAt (facetsOn.axisStamp (facetsOn.fld (pMotor 0) MOTOR.MODE_FACET_AXIS))).isSome = true ∧
    (motorOnIn 0).enabled (pPwm 0) = true ∧ (motorOnIn 0).linked 0 = true ∧ ((motorOnIn 0).gt 0).test = false := by
  decide +kernel

/-- Power stage 0 changed by `f`, its pages enabled, at beat 5,000. -/
def stage (f : GateSt → GateSt) : State :=
  let s := motorReady.setGt 0 (f GateSt.reset)
  { s with tb := { s.tb with beat := 5000 } }

theorem witness_GateCommandsComplete :
    (let s := stage (fun g => { g with wait := 1, cmd := 1, test := true });
      bitAt (s.gt 0).on (otherSw 0) = false ∧ bitAt (s.gt 0).wait 0 = true ∧ bitAt (s.gt 0).cmd 0 = true ∧
      bitAt (s.gt 0).cmd (otherSw 0) = false ∧ s.heldOff 0 0 = false ∧ (s.gt 0).test = true) ∧
    bitAt ((stage id).gt 0).wait 0 = false ∧
    (let s := stage (fun g => { g with wait := 1, above := 2, offAt := [(1, 0)] });
      bitAt (s.gt 0).wait 0 = true ∧ bitAt (s.gt 0).above (otherSw 0) = true ∧ bitAt (s.gt 0).cmd (otherSw 0) = false ∧
      Tab.lookup (s.gt 0).offAt (otherSw 0) = some 0 ∧ 2000 ≤ s.tb.beat) ∧
    (let s := stage (fun g => { g with on := 1, cmd := 1, onAt := [(0, 0)], softAt := [(0, 0)] });
      bitAt (s.gt 0).on 0 = true ∧ Tab.lookup (s.gt 0).onAt 0 = some 0 ∧ bitAt (s.gt 0).cmd 0 = true ∧
      bitAt (s.gt 0).soft 0 = false ∧ (s.gt 0).cst = 0 ∧ Tab.lookup (s.gt 0).softAt 0 = some 0 ∧
      200 + 100 * s.fld (pGate 0) GATE.SOFT_OFF_T2L ≤ s.tb.beat) ∧ (stage id).enabled (pGate 0) = true ∧
    (let s := (((stage id).setFld (pGate 0) GATE.DRIVE_SLEW_EN 1).setFld (pGate 0) GATE.SLEW_DIV 4);
      s.on (pGate 0) GATE.DRIVE_STRONG = false ∧ s.on (pGate 0) GATE.DRIVE_SLEW_EN = true ∧
      s.stands (writesField (pGate 0) GATE.SLEW_ENV_H_MAX) = false ∧
      (s.gt 0).numH + 1 < 2 ^ s.fld (pGate 0) GATE.SLEW_DIV) ∧
    (let s := (((stage id).setFld (pGate 0) GATE.DRIVE_SLEW_EN 1).setFld (pGate 0) GATE.SLEW_DIV 0);
      2 ^ s.fld (pGate 0) GATE.SLEW_DIV ≤ (s.gt 0).numH + 1) := by decide +kernel

theorem witness_GateCommandsComplete_levels :
    ((stage id).gt 0).cst = 0 ∧ ((stage (fun g => { g with cst := 5 })).gt 0).cst = 5 ∧
    (let t := stage (fun g => { g with bstPin := 1 });
      (List.range 3).filter (fun k => bitAt (t.gt 0).bstPin k && !bitAt (t.gt 0).bstLow k) = [0] ∧
      (List.range 3).filter (fun k => !bitAt (t.gt 0).bstPin k && bitAt (t.gt 0).bstLow k) = []) ∧
    (let t := stage (fun g => { g with bstLow := 2 });
      (List.range 3).filter (fun k => bitAt (t.gt 0).bstPin k && !bitAt (t.gt 0).bstLow k) = [] ∧
      (List.range 3).filter (fun k => !bitAt (t.gt 0).bstPin k && bitAt (t.gt 0).bstLow k) = [1]) ∧
    ((stage id).gt 0).tripLow = false ∧ (stage id).tripActs 0 = false ∧ (stage id).dr.ouvCst = false ∧
    (let t := (stage (fun g => { g with tripLow := true })).setFld (pGate 0) GATE.TRIP_CFG_EN 1;
      t.tripActs 0 = true ∧ t.on (pGate 0) GATE.LATCH_TRIP = false ∧ (t.gt 0).cycOff = false ∧
      (t.setFld (pGate 0) GATE.TRIP_CFG_MODE 0).on (pGate 0) GATE.TRIP_CFG_MODE = false ∧
      (t.setFld (pGate 0) GATE.TRIP_CFG_MODE 1).on (pGate 0) GATE.TRIP_CFG_MODE = true) := by decide +kernel

theorem witness_DiagnosticsComplete :
    motorReady.serves mgr (pGate 0) 0x100 true = true ∧ motorReady.motorState 0 = 0 ∧ (motorReady.gt 0).diag = 0 ∧
    (motorReady.gt 0).cst = 0 ∧ ((stage (fun g => { g with diag := 9 })).gt 0).diag = 9 ∧
    ((stage (fun g => { g with diag := 12 })).gt 0).diag = 12 ∧ ((stage (fun g => { g with cst := 6 })).gt 0).cst = 6 ∧
    motorReady.serves mgr pOuvgor 0x188 true = true ∧ (∀ n < 4, motorReady.motorState n = 0) ∧
    ({ motorReady with dr := { motorReady.dr with ouvCst := true } } : State).dr.ouvCst = true ∧
    motorReady.serves mgr (pGate 0) 0x138 true = true ∧ bitsOf 0xA7000001 31 24 = 0xA7 ∧ motorReady.latched 0 = false ∧
    motorReady.linked 0 = true ∧ ((stage (fun g => { g with test := true })).gt 0).test = true ∧
    ((stage id).gt 0).stepDue = 0 ∧ ((stage id).gt 0).halfDue = 0 ∧ ((stage id).gt 0).testDue = 0 ∧
    ((stage (fun g => { g with diag := 12 })).gt 0).cst = 0 := by decide +kernel

/-- Receiver 0 is enabled, with a binding of channel 1 for every type; `l` is its open line on that channel. -/
def rxOf (l : Option LineBuf) : State :=
  let s := ((ticking 5000).setFld (pIngest 0) HDR.PAGE_CTRL_EN 1).setFld (pIngest 0) (INGEST.BIND_CFG_BIND_EN.at 1) 1
  let t := (s.setFld (pIngest 0) (INGEST.BIND_CFG_DT.at 1) 0x3F).setFld (pIngest 0) INGEST.RX_STATUS_LANE_SYNC 15
  t.setLine 0 1 l

/-- An open line. -/
def openLine : LineBuf := ⟨1, 7, 4000, none, 0, 0, [], false, false, false, false, false, false⟩

theorem witness_IngestCommandsComplete :
    (rxOf none).enabled (pIngest 0) = true ∧ (rxOf none).phyOk = true ∧
    (rxOf none).on (pIngest 0) (INGEST.BIND_CFG_BIND_EN.at 1) = true ∧ Tab.lookup ((rxOf none).rx 0).lines 1 = none ∧
    Tab.lookup ((rxOf (some openLine)).rx 0).lines 1 = some openLine ∧ openLine.drop = false ∧ openLine.got = false ∧
    (rxOf none).fld (pIngest 0) (INGEST.BIND_CFG_DT.at 1) = 0x3F ∧ 2 ≤ lineRoom 0x2A false ∧
    (rxOf (some openLine)).rxWaiting 0 = 0 ∧
    (rxOf none).fld (pIngest 0) INGEST.RX_STATUS_LANE_SYNC = 15 ∧
    (rxOf none).serves mgr (pIngest 0) 0x220 true = true := by decide +kernel

/-- A matrix request of the manager's for DEVICE.ID, with `n` words to move. -/
def request (n : Nat) : MxReq :=
  { port := 0, acc := mgr, addr := 0x2000000000, write := false, size := 4, data := [], words := n, arrived := 4000
    promoted := false, hdr := some (0, 0), ref := 0, slot := none, reserved := true }

/-- The port's pick. -/
def picks (s : State) (port : Nat) : Option Nat :=
  s.pickGrant port (fun r => r.reserved || (decide (5 ≤ r.port) && s.mxReady r))

/-- The matrix holds requests. -/
def matrixOf (m : Matrix) : State := { ticking 5000 with mx := m }

theorem witness_MatrixCommandsComplete :
    (let s := matrixOf ⟨[request 9], [], [], []⟩; s.por = false ∧ s.tb.dawn = 0 ∧ picks s 0 = some 0 ∧
      s.mx.waiting[0]? = some (request 9)) ∧
    (let s := matrixOf ⟨[request 1], [], [], []⟩; picks s 0 = some 0 ∧ s.namesSelf false 0x2000000000 = true) ∧
    (let r := { request 1 with port := 3, acc := { mgr with fab := true }, addr := 9 * 2 ^ 38 }
     let s := matrixOf ⟨[r], [], [], []⟩;
      picks s 3 = some 0 ∧ s.namesSelf true (9 * 2 ^ 38) = false ∧ s.freeSlot 29 = some 0) ∧
    picks (matrixOf ⟨[{ request 1 with port := 7 }], [], [], []⟩) 7 = some 0 ∧
    (let s := { matrixOf ⟨[request 1], [], [], []⟩ with tb := { (ticking 5000).tb with beat := 2 ^ 40 } };
      s.fld pMatrix MATRIX.AGE_PROMOTE_BEATS ≤ s.waited (request 1)) ∧
    (matrixOf ⟨[], [request 0], [], []⟩).mx.issued[0]? = some (request 0) ∧
    (let s := { matrixOf ⟨[], [request 0], [], []⟩ with tb := { (ticking 5000).tb with beat := 2 ^ 40 } };
      2 ^ s.fld pMatrix MATRIX.TIMEOUT_EXP ≤ s.tb.beat) ∧
    (matrixOf ⟨[], [], [request 0], []⟩).mx.late[0]? = some (request 0) ∧
    (matrixOf ⟨[], [], [request 0], []⟩).busHeld 0x2000000000 = false ∧ (request 0).slot = none ∧
    mgr.fab = false ∧ mgr.master ≠ .wicket ∧ (ticking 5000).serves mgr pAxis (4 * 128) true = true ∧
    (ticking 5000).mgrDenied mgr.hh pAxis ((ticking 5000).fieldsOf pAxis (4 * 128)) 1 = false ∧
    (ticking 5000).notMine pAxis (4 * 128) = false ∧ (ticking 5000).maskDenied mgr.hh pAxis (4 * 128) 1 = false ∧
    (ticking 5000).serves mgr pAxis (4 * 128) false = true ∧
    (ticking 5000).pending = [] := by
  decide +kernel

/-- The network moves: the first dawn has completed. -/
def netOn (f : NocSt → NocSt) : State :=
  let s := ticking 5000
  { s with noc := f s.noc, tb := { s.tb with beat := 2 ^ 40 } }

theorem witness_NetworkSendingCompletes :
    (netOn id).nocMoves = true ∧ (netOn id).tb.dawn = 0 ∧ 0 < agentsAt 8 ∧ 3 < agentSlots 8 0 ∧
    Tab.lookup (netOn id).noc.slots (256 * agentKey 8 0 + 3) = none ∧
    (let s := netOn (fun n => { n with inject := [(8 * agentKey 0 0, [⟨0, false, [8 * 2 ^ 58, 0, 0, 0], false, 0⟩])] });
      s.nocMoves = true ∧ s.candidate 0 5 0 = some 0 ∧ 0 < s.nocCredit 0 5 0 ∧ (s.inputHead 0 5 0 0).isSome = true ∧
      Tab.get 0 s.noc.decided 5 = 0) ∧
    (netOn id).nocCredit 0 5 0 = 4 ∧
    (let s := (netOn (fun n => { n with flying := [(chan 0 5 0, [7])] })).setCredit 0 5 0 3;
      s.nocCredit 0 5 0 = 3 ∧ takeFirst (fun b => decide (b ≤ s.tb.beat)) (s.creditsOut (chan 0 5 0)) = some (7, [])) ∧
    ((netOn id).setBuf 0 4 0 [⟨0, false, [8 * 2 ^ 58, 0, 0, 0], false, 0⟩]).nbuf 0 4 0 ≠ [] ∧
    (netOn id).noc.stalled.contains (chan 0 4 0) = false ∧
    Tab.get 0 (netOn id).noc.moved (chan 0 4 0) + (netOn id).fld pNoc NOC.STALL_LIMIT_BEATS ≤ 2 ^ 40 := by decide +kernel

/-- A packet of one flit, with OP `op` and TAG 3, has reached the node interface of router 0 on a channel. -/
def ejected (vc op : Nat) (slots : List (Nat × RspSlot)) (remote : List (Nat × RemoteReq)) : State :=
  let s := netOn (fun n => { n with
    eject := [(chan 0 4 vc, [⟨0, false, [op * 2 ^ 40 + 3 * 2 ^ 24, 3 * 2 ^ 48, 0, 0], false, 0⟩])], slots := slots })
  { s with fab := { s.fab with remote := remote } }

theorem witness_NetworkReceivingCompletes :
    ((ejected 4 5 [] []).takePacket 0 4).isSome = true ∧ (ejected 4 5 [] []).por = false ∧ (ejected 4 5 [] []).tb.dawn = 0 ∧
    ((ejected 0 1 [] []).takePacket 0 0).any (fun e => !(e.1.take 1).any (ejected 0 1 [] []).packetWaits) = true ∧
    ((ejected 2 0 [] []).takePacket 0 2).any (fun e => (Tab.lookup e.2.fab.remote 3).isNone) = true ∧
    Tab.lookup (ejected 2 0 [(256 * agentKey 0 0 + 3, ⟨8, false, 2, 5⟩)] []).noc.slots (256 * agentKey 0 0 + 3) = some ⟨8, false, 2, 5⟩ ∧
    (netOn id).slotExpired ⟨8, false, 2, 5⟩ = true ∧
    ((netOn id).setFld pNoc NOC.CNT_CTRL_FREEZE 0).slotExpired ⟨8, false, 2, 2 ^ 40⟩ = false ∧
    mgr.hh = 15 ∧ (netOn id).serves mgr pNoc 0x104 true = true ∧ (netOn id).serves mgr pNoc 0x138 true = true := by
  decide +kernel

/-- Queue 0 holds one item of two words and is household 0's, which runs. -/
def queued (held : Bool) : State :=
  let w (v : Nat) : QWord := ⟨v, wordParity v, false, 0, 0, 0⟩
  let s := ((ticking 5000).setFld pQe (QE.Q_OWNER_QUEUE.at 0) 0).setFld pSieve SIEVE.RUNNING_RUNNING 1
  let t := s.setFld (qPage 0) (QEH.Q_CFG_EN.at 0) 1
  t.setQ 0 { QueueSt.reset with items := [⟨0, 0, [w 5, w 9], 4000, 0, held, 0⟩], nextIdx := 1 }

/-- Household 0's run asks. -/
def own : Acc := ⟨.tile, 0, 8, 0, false⟩

theorem witness_QueuePortsComplete :
    (queued false).portServes own 0 (portAddr 0 0) 16 0x1000 = true ∧
    (queued false).portServes own 0 (portAddr 0 0x1000) 16 0x800 = true ∧
    (queued false).portServes own 0 (portAddr 0 0x1800) 24 0x800 = true ∧ (queued false).boundTo 0 = [] ∧
    (queued false).tailWait 0 = false ∧ (queued false).popWaits 0 3 = false ∧ (queued false).pending = [] ∧
    (queued true).stepPort own 0 = true := by decide +kernel

theorem witness_QueueRegistersComplete :
    (queued false).pending = [] ∧
    ([0, 4, 8, 12, 0x1C].all (fun r => (queued false).serves mgr (qPage 0) (qReg 0 r) true)) = true ∧
    (queued false).qOn 0 = true ∧ (ticking 5000).qOn 1 = false ∧
    ([0, 4, 8, 12, 0x1C].all (fun r => (ticking 5000).serves mgr (qPage 1) (qReg 1 r) true)) = true := by decide +kernel

theorem witness_QueueRegistersComplete_rules (w : Nat) :
    (queued false).mgrDenied mgr.hh (qPage 0) ((queued false).fieldsOf (qPage 0) (qReg 0 0x1C)) w = false := by
  rfl

/-- Queue 0 holds one item of nine words in one place. -/
def spilled (place : Nat) : State :=
  let w (v : Nat) : QWord := ⟨v, wordParity v, false, place, 0, 0⟩
  (queued false).setQ 0 { QueueSt.reset with items := [⟨0, 0, (List.range 9).map w, 4000, 0, false, 0⟩], nextIdx := 1 }

theorem witness_SpillCommandsComplete :
    (let s := (spilled 2).setQ 0 { (spilled 2).q 0 with items := ((spilled 2).q 0).items ++ ((spilled 0).q 0).items };
      7 ≤ (s.q 0).settle.tail.length ∧ (s.q 0).settle.spilling = true ∧ s.tb.haltedIslands = false ∧
      (s.q 0).settle.blocks < (s.setFld (qPage 0) (QEH.Q_CFG_SPILL_SIZE.at 0) 1).qSpill 0 / 64) ∧
    (spilled 0).pending = [] ∧ (queued false).tb.count % 65536 ≠ 0 ∧
    (let s := { spilled 0 with tb := { (spilled 0).tb with count := 65536, beat := 65536 } };
      s.tb.count % 65536 = 0 ∧ (s.q 0).updated ≠ s.tb.beat + 1) ∧
    (let s := { spilled 0 with tb := { (spilled 0).tb with beat := 2 ^ 60 } }; s.itemDue 0 = true) ∧
    ((spilled 1).q 0).oldestAt 1 = some 0 ∧ ((spilled 2).q 0).oldestAt 2 = some 0 ∧ ((spilled 2).q 0).headLen + 7 ≤ 16 ∧
    ((spilled 3).q 0).oldestAt 3 = some 0 ∧ (spilled 0).on (qPage 0) (QEH.Q_CFG_ADAPT_EN.at 0) = true ∧
    ((spilled 0).setFld (qPage 0) (QEH.Q_CFG_ADAPT_EN.at 0) 0).on (qPage 0) (QEH.Q_CFG_ADAPT_EN.at 0) = false ∧
    ((spilled 0).q 0).opened = none := by decide +kernel

/-- Slot 3 of the endpoint's scheduler is enabled for queue 0 with an item, and is first in HI. -/
def slotOn (en : Bool) : State :=
  let s := queued false
  let t := (((s.setFld (pSch 1) (SCH.SLOT_CTRL_EN.at 3) (b2n en)).setFld (pSch 1) (SCH.BIND_QUEUE.at 3) 0).setFld (pSch 1)
    (SCH.SLOT_OWNER_SLOT.at 3) 0).setFld (pSch 1) (SCH.SLOT_CTRL_QUANTUM.at 3) 4096
  let u := ((((t.setFld (pSch 1) (SCH.CIR_LO_CIR.at 3) 1000).setFld (pSch 1) (SCH.PIR_LO_PIR.at 3) 2000).setFld (pSch 1)
    (SCH.CBS_BYTES.at 3) 4096).setFld (pSch 1) (SCH.PBS_BYTES.at 3) 4096).setFld (pFabp 0)
    FABP.LINK_STATUS_STATE 4
  let v := u.setPort 0 { u.port 0 with rxUnits := [(0, 100), (1, 100)] }
  let w := v.setSlot 1 3 { SlotSt.reset with place := 1, b := ⟨4096 * 65536, 4096 * 65536, 0, 0⟩ }
  w.setSc 1 { w.sc 1 with hi := [3] }

/-- The count stands at a multiple of 2^20. -/
def onGrid : State := { slotOn true with tb := { (slotOn true).tb with count := 2 ^ 40, beat := 2 ^ 40 } }

theorem witness_SchedulerCommandsComplete_times :
    onGrid.onTick (2 ^ onGrid.pageExp 1) = true ∧ (onGrid.sc 1).refilled ≠ onGrid.tb.beat + 1 ∧ onGrid.onTick 65536 = true ∧
    (slotOn true).schDue 1 = slotOn true := by
  refine ⟨?_, ?_, ?_, ?_⟩ <;> decide +kernel

theorem witness_SchedulerCommandsComplete :
    ([0, 4, 8, 0x10].all (fun r => (ticking 5000).serves mgr (pSch 1) (0x100 + 0x30 * 3 + r) true)) = true ∧
    (ticking 5000).on (pSch 1) (SCH.SLOT_CTRL_EN.at 3) = false ∧ (slotOn true).on (pSch 1) (SCH.SLOT_CTRL_EN.at 3) = true ∧
    (slotOn true).headLen 1 3 = some 52 ∧ ((slotOn true).sc 1).hi = [3] ∧ (slotOn true).slotBlocked 1 3 52 = false ∧
    (let t := (slotOn true).setSlot 1 3 { (slotOn true).slot 1 3 with deficit := 4096, turn := true };
      t.commOk 1 3 52 = true ∧ t.portAccepts 1 3 52 true = true) ∧
    (slotOn true).tb.dawn = 0 ∧ (slotOn true).pending = [] ∧
    (let t := (slotOn true).setSlot 1 3 SlotSt.reset; (t.slot 1 3).place = 0 ∧ t.headLen 1 3 = some 52) ∧
    (slotOn false).slotCause 1 3 = 0 ∧ 64 ≤ bitsOf (setBit 4096 31) 15 0 := by decide +kernel

/-- Port 2 is in link state `x`. -/
def portIn (x : Nat) : State :=
  let s := (ticking 5000).setFld (pFabp 2) FABP.LINK_STATUS_STATE x
  { s with tb := { s.tb with beat := 2 ^ 40 } }

/-- A HELLO of device `id`, which names device `partner`. -/
def helloOf (id partner : Nat) (fec : Bool) : Frame :=
  { Frame.blank with lcl := true, hh := 15, arg2 := 2 ^ 60
                     payload := leBytes 8 id ++ leBytes 2 7 ++ leBytes 1 1 ++ leBytes 1 (b2n fec)
                       ++ (List.range 6).flatMap (fun _ => leBytes 2 256) ++ leBytes 8 partner }

theorem witness_LinkBringUpCompletes :
    ([1, 2, 3, 4, 5].all (fun x => (portIn x).linkState 2 == x)) = true ∧ (portIn 2).phyOk = true ∧
    (portIn 2).fecEn 2 = false ∧ (portIn 3).fecEn 2 = false ∧ ((portIn 3).port 2).since + 1000000 ≤ (portIn 3).tb.beat ∧
    ((portIn 3).port 2).helloAt = none ∧ ((portIn 4).port 2).rxAt + 2 ^ 20 ≤ (portIn 4).tb.beat ∧
    (helloOf 5 9 false).kind = 0 ∧ bitsOf (helloOf 5 9 false).arg2 63 60 = 1 ∧ (helloOf 5 9 false).badReason = 0 ∧
    (helloOf 5 9 false).bytesAt 0 8 ≠ (portIn 3).myId ∧ (helloOf (portIn 3).myId 9 false).bytesAt 0 8 = (portIn 3).myId ∧
    bitAt ((helloOf 5 9 false).bytesAt 11 1) 0 = false ∧ bitAt ((helloOf 5 9 true).bytesAt 11 1) 0 = true ∧
    (helloOf 5 (portIn 3).myId false).bytesAt 24 8 = (portIn 3).myId ∧ (helloOf 5 9 false).bytesAt 24 8 ≠ (portIn 3).myId ∧
    (helloOf 5 9 false).bytesAt 0 8 ≠ (portIn 4).pair (pFabp 2) FABP.PARTNER_ID_LO_ID FABP.PARTNER_ID_HI_ID := by
  decide +kernel

/-- Port 2 is up, with the given frames in its replay buffer and its send queue. -/
def portUpIn (un : List Unacked) (tx : List TxFrame) (at_ : Option Nat) (due epi : Bool) : State :=
  (portIn 4).setPort 2 { PortSt.reset with unacked := un, txq := tx, replayAt := at_, updateDue := due, episode := epi, nakAt := some 5
                                           rxUnits := (List.range 6).map (fun v => (v, 256)) }

/-- An ITEM frame of one word with a sequence number. -/
def itemFrame (n : Nat) : Frame :=
  { Frame.blank with kind := 2, vc := 0, src := 7, hh := 1, seq := n, payload := leBytes 8 0 }

/-- A LINK UPDATE that acknowledges sequence number `n`. -/
def updateOf (n : Nat) : Frame := { Frame.blank with lcl := true, hh := 15, ack := n, ackV := true, arg2 := 3 }

theorem witness_LinkFramesComplete :
    (portUpIn [] [] none true true).portUp 2 = true ∧ ((portUpIn [] [] none true true).port 2).episode = true ∧
    (portUpIn [] [] none true true).updateNeeded 2 = true ∧
    10 + 2 ^ (portUpIn [⟨itemFrame 4, 10, 10⟩] [] none false false).fld (pFabp 2) FABP.REPLAY_CFG_REPLAY_EXP ≤ 2 ^ 40 ∧
    ((portUpIn [⟨itemFrame 4, 10, 10⟩] [] none false false).port 2).replayAt = none ∧
    (portUpIn [⟨itemFrame 4, 10, 10⟩] [] none false false).tb.beat = 2 ^ 40 ∧
    ((portUpIn [] [] none true true).port 2).updateDue = true ∧ (updateOf 4).kind = 0 ∧
    bitsOf (updateOf 4).arg2 63 60 = 0 ∧ (updateOf 4).badReason = 0 ∧
    ((portUpIn [⟨itemFrame 4, 10, 10⟩] [] (some 4) false false).port 2).updateDue = false ∧
    ((portUpIn [⟨itemFrame 4, 10, 10⟩] [] (some 4) false false).port 2).replayAt = some 4 ∧
    ((portUpIn [⟨itemFrame 4, 10, 10⟩] [] (some 4) false false).port 2).unacked.find? (fun u => u.frame.seq == 4)
      = some ⟨itemFrame 4, 10, 10⟩ ∧
    ((portUpIn [⟨itemFrame 4, 10, 10⟩] [] (some 4) false false).port 2).unacked = [⟨itemFrame 4, 10, 10⟩] ∧
    ((portUpIn [] [⟨4, none, itemFrame 0⟩] none false false).port 2).replayAt = none ∧
    (portUpIn [] [⟨4, none, itemFrame 0⟩] none false false).nextFrame 2 = some ⟨4, none, itemFrame 0⟩ := by
  decide +kernel

/-- Port 2 is up and expects the first frame. -/
def portRx : State := portUpIn [] [] none false false

/-- An ALMANAC event with an OP. -/
def almFrameOf (op : Nat) : Frame := almFrame 7 true (almPayload 40 op 1 0 1 AlmEntry.reset)

/-- A TRANSPORT frame that carries a READ of 8 bytes. -/
def readFrame : Frame :=
  { Frame.blank with kind := 1, vc := vcOf 0 0, src := 7
                     payload := leBytes 8 (2 ^ 40) ++ leBytes 8 (7 * 2 ^ 48) ++ leBytes 8 0 ++ leBytes 8 0 }

/-- The module bus runs a transaction. -/
def i2cBusy (read : Bool) : State :=
  ((ticking 5000).setFld pFab FAB.I2C_CTRL_BUSY 1).setFld pFab FAB.I2C_CTRL_READ (b2n read)

theorem witness_FabricFramesComplete :
    portRx.linkTakes 2 readFrame = true ∧ readFrame.kind = 1 ∧ portRx.linkTakes 2 (itemFrame 0) = true ∧
    ([0, 1, 2, 3].all (fun o => portRx.linkTakes 2 (almFrameOf o) && (almFrameOf o).bytesAt 1 1 == o
      && (almFrameOf o).kind == 3 && (almFrameOf o).arg2 % 16 == 0xE)) = true ∧
    portRx.linkTakes 2 { Frame.blank with kind := 3, vc := 5, arg2 := 13 } = true ∧
    (ticking 5000).serves mgr pFab 0x118 true = true ∧ (ticking 5000).on pFab FAB.I2C_CTRL_BUSY = false ∧
    (i2cBusy true).on pFab FAB.I2C_CTRL_BUSY = true ∧ (i2cBusy true).on pFab FAB.I2C_CTRL_READ = true ∧
    (i2cBusy false).on pFab FAB.I2C_CTRL_READ = false := by decide +kernel

/-- Discovery runs, in state `st`, with or without a root. -/
def discOn (st : Nat) (hasRoot isRoot : Bool) : State :=
  let s := (((portRx.setFld pDisc HDR.PAGE_CTRL_EN 1).setFld pDisc DISC.DISC_STATUS_STATE st).setFld pDisc DISC.DISC_STATUS_IS_ROOT
    (b2n isRoot)).setFld pDisc DISC.DISC_STATUS_NUM_VALID 1
  { s with disc := { s.disc with hasRoot := hasRoot, dirty := true, devices := [⟨5, 1, [], 0⟩], acks := some [3] } }

/-- A discovery frame with a SUB and `n` payload bytes. -/
def discFrameOf (sub n : Nat) : Frame := discFrame sub 1 (2 ^ 16 * 2) (List.replicate n 0)

theorem witness_DiscoveryCompletes :
    ([(0, 32), (1, 72), (2, 24), (3, 24), (4, 0), (5, 0)].all (fun x => (discOn 1 true true).linkTakes 2 (discFrameOf x.1 x.2)
      && (discFrameOf x.1 x.2).kind == 4 && (discFrameOf x.1 x.2).arg2 % 16 == x.1)) = true ∧
    (discOn 1 true true).enabled pDisc = true ∧
    ([(1, 1), (1, 64), (1, 256)].all (fun x => (discOn 1 true true).annPassed 0 x.2)) = true ∧
    (discOn 1 true true).annPassed 0 ((discOn 1 true true).fld pDisc DISC.DISC_TIMING_SETTLE_N) = true ∧
    (discOn 1 true true).pending = [] ∧ (discOn 1 true true).tb.beat = 2 ^ 40 ∧
    ((discOn 1 true true).elect false).on pDisc DISC.DISC_STATUS_IS_ROOT = true ∧
    ((discOn 1 false false).elect false).on pDisc DISC.DISC_STATUS_IS_ROOT = false ∧
    (let s := { discOn 1 false false with disc := { (discOn 1 false false).disc with holdFrom := some 0 } };
      s.disc.hasRoot = false ∧ s.noteHold.holdOver = true ∧ (s.noteHold.elect true).disc.hasRoot = true) ∧
    (let s := ({ discOn 1 false false with disc := { (discOn 1 false false).disc with holdFrom := some 0 } } : State).setFld
      pDevice DEVICE.STRAP_CFG 16;
      s.disc.hasRoot = false ∧ s.noteHold.holdOver = true ∧ (s.noteHold.elect true).disc.hasRoot = false ∧
      (s.noteHold.elect true).disc.noRoot = false) ∧
    (discOn 1 true true).disc.hasRoot = true ∧ (discOn 1 true true).fld pDisc DISC.DISC_STATUS_STATE = 1 ∧
    (discOn 1 true true).on pDisc DISC.DISC_STATUS_IS_ROOT = true ∧
    ([true, false].all (fun b => (((discOn 1 true b).setFld pDisc DISC.DISC_STATUS_STATE 2).raise pDisc DISC.evTREE_STABLE).on
      pDisc DISC.DISC_STATUS_IS_ROOT == b)) = true ∧
    (discOn 2 true false).fld pDisc DISC.DISC_STATUS_STATE = 2 ∧ (discOn 2 true false).on pDisc DISC.DISC_STATUS_IS_ROOT = false ∧
    (discOn 1 true true).numValid = true ∧ (discOn 1 true true).disc.dirty = true ∧
    (((discOn 1 true true).rootMap.map MapEntry.dev).filter (fun d => d != (discOn 1 true true).devNum) = []) ∧
    (let s := { discOn 1 true true with disc := { (discOn 1 true true).disc with binds := [(5, 3)] } };
      s.disc.dirty = true ∧ s.numValid = true ∧ (s.rootMap.map MapEntry.dev).filter (fun d => d != s.devNum) = [3]) ∧
    (discOn 1 true true).disc.devices.any (fun d => d.ident == (5 : BitVec 64).toNat && (discOn 1 true true).annPassed d.at_ 256) = true ∧
    (discOn 1 true true).disc.acks = some [3] := by decide +kernel

/-- The constellation engine runs on port 2, in state `st`; an exchange may be under way. -/
def constOn (st : Nat) (exch : Option Exchange) (rem : Int) : State :=
  let s := ((((discOn 3 true false).setFld pConst HDR.PAGE_CTRL_EN 1).setFld pConst CONST.CONST_STATUS_STATE st).setFld pDisc
    DISC.DISC_STATUS_ROOT_PORT 2).setFld pConst CONST.CONST_CFG_SYNC_EXP 20
  { s with cst := { s.cst with exch := exch, rem := rem } }

/-- A TIME frame with a SUB and an exchange number. -/
def timeFrameOf (sub exch : Nat) : Frame := { (discOn 3 true false).timeFrame 2 sub exch 320000 with lcl := true }

theorem witness_ConstellationCompletes :
    (constOn 7 none 0).enabled pConst = true ∧ (constOn 7 none 0).cState = 7 ∧
    ([0, 1, 2].all (fun n => (constOn 7 none 0).linkTakes 2 (timeFrameOf n 5) && (timeFrameOf n 5).kind == 5
      && (timeFrameOf n 5).arg2 % 16 == n)) = true ∧
    (let x : Exchange := ⟨5, 310000, 320000, some 330000, 0, 0, false, false⟩; let s := constOn 4 (some x) 0
      s.linkTakes 2 (timeFrameOf 2 5) = true ∧ (s.linkTaken 2 (timeFrameOf 2 5)).cst.exch = some x ∧
      x.num = bitsOf (timeFrameOf 2 5).arg2 63 32 ∧ (timeFrameOf 2 5).replayed = false ∧
      (2 : Fin 4) = (s.linkTaken 2 (timeFrameOf 2 5)).rootPort ∧
      (s.linkTaken 2 (timeFrameOf 2 5)).cst.voidPorts.contains 2 = false ∧
      stampDiff ((s.linkTaken 2 (timeFrameOf 2 5)).tb.count * 64) x.t2 ≤
        ((s.linkTaken 2 (timeFrameOf 2 5)).exchPeriod / 2 * 64 : Nat)) ∧
    (let s := { constOn 7 none 0 with tb := { (constOn 7 none 0).tb with count := 2 ^ 30 } };
      s.onTick s.exchPeriod = true ∧ s.cst.syncAt ≠ s.tb.beat + 1 ∧ s.cst.validAt + 16 * s.exchPeriod ≤ s.tb.beat) ∧
    (constOn 4 none 3).stepsNow < (constOn 4 none 3).fld pConst CONST.CONST_CFG_STEER_MAX ∧
    (constOn 4 none 3).cState = 4 ∧
    (let x : Exchange := ⟨5, 310000, 320000, none, 0, 0, false, true⟩; let s := constOn 4 (some x) 0
      (s.linkTaken 2 (timeFrameOf 2 5)).cst.exch = some x ∧ x.void = true) ∧
    (constOn 4 none 3).on pConst CONST.CONST_CTRL_HOLD = false ∧ 0 < (constOn 4 none 3).cst.rem ∧
    (constOn 4 none (-3)).cst.rem < 0 ∧ (constOn 0 none 0).serves mgr pConst 0x104 true = true ∧
    (let t := ((constOn 0 none 0).answer [0]).setFld pConst CONST.CONST_CTRL_HOLD 0; t.constMember = true ∧ t.cState = 0) ∧
    (((constOn 7 none 0).answer [0]).setFld pConst CONST.CONST_CTRL_HOLD 0).cState = 7 ∧
    (let s := (constOn 3 none 0).setAlm 63 { AlmEntry.reset with st := 3 }; s.cState = 3 ∧ (s.almEntry 63).st = 3 ∧
      s.on pRefmon REFMON.STATUS_SLEWING = false) ∧ (constOn 4 none 0).cState = 4 := by decide +kernel

/-- Household 0's run holds the step item of queue 0. -/
def holdsItem : State :=
  let s0 := gotItem (takesItems true)
  let s := { s0 with tb := { s0.tb with beat := 5000 } }
  s.setQ 0 { QueueSt.reset with items := [⟨0, 0, [⟨5, wordParity 5, false, 0, 0, 0⟩], 4000, 0, true, 0⟩], nextIdx := 1 }

/-- Household 0 replays a record whose next item is due `rel` ticks after the launch. -/
def replaying (rel : Nat) (slipping : Bool) : State :=
  let s := (takesItems true).setPv 0 { ProvSt.reset with feedLeft := 1, weights := some (0, 64), written := true
                                                         slipping := slipping }
  (s.setFld pProv (PROV.PSTATUS_FEED_STATE.at 0) 2).dramPutAll 0 (leBytes 8 rel ++ leBytes 8 1)

/-- The same at count 5000, when the item is late. -/
def replayLate (slipping : Bool) : State :=
  let s := replaying 9 slipping
  { s with tb := { s.tb with count := 5000 } }

theorem witness_ProvenanceCommandsComplete :
    (holdsItem.runOf 0).any (fun r => (holdsItem.stepItem r).isSome && !r.digested && !holdsItem.atStep r
      && decide (r.gotAt + 80 * shaBlocks 8 ≤ holdsItem.tb.beat)) = true ∧
    (let s := { holdsItem with tile := (atBarrier ⟨8, 0, 0, []⟩ 1).tile };
      (s.runOf 0).any (fun r => (s.stepItem r).isSome && !r.digested && s.atStep r)) = true ∧
    ((replaying 9 false).pvOf 0).written = true ∧ ((replaying 9 false).pvOf 0).weights.isSome = true ∧
    ((replaying 9 false).pvOf 0).dirty = false ∧
    (((replaying 9 false).raiseBy pProv PROV.evWEIGHTS_DIRTY 0).runOf 0).isSome = true ∧
    ((({ replaying 9 false with run := [] } : State).raiseBy pProv PROV.evWEIGHTS_DIRTY 0).runOf 0).isSome = false ∧
    ([replaying 9 false, replayLate true, replayLate false].all (fun s => (s.pvOf 0).feedLeft != 0
      && s.pf 0 PROV.PSTATUS_FEED_STATE == 2 && (s.runOf 0).any (fun r => r.launched == 100)
      && sgn 64 (s.dramWord (s.repBase 0 + (s.pvOf 0).feedAt)) == 9
      && bitsOf (s.dramWord (s.repBase 0 + (s.pvOf 0).feedAt + 8)) 63 32 == 0)) = true ∧
    (replaying 9 false).tb.count + 1 ≤ 109 ∧ (ticking 5000).pending = [] ∧ (replayLate true).tb.count + 1 = 109 + 4892 ∧
    ((replayLate true).pvOf 0).slipping = true ∧ ((replayLate false).pvOf 0).slipping = false ∧
    (ticking 5000).serves mgr pProv 0x200 true = true ∧ (ticking 5000).serves mgr pProv 0x210 true = true := by
  decide +kernel

/-- The endpoint's link is up, after the first dawn or before it. -/
def hostOn (dawned : Bool) : State :=
  let s := ticking 5000
  { s with host := { s.host with linkUp := true }, tb := { s.tb with dawned := dawned } }

/-- A read of function 0 is held and one of function 1 waits for another device, both for a long time. -/
def hostWaits : State :=
  let s := hostOn true
  { s with
    tb := { s.tb with beat := 2 ^ 40 }, held := [.hostMemRead 0 false 0 8]
    host := { s.host with reads := [(4, 1, 0)], asked := [(.hostMemRead 0 false 0 8, 0)] }
    noc := { s.noc with slots := [(256 * agentKey 23 0 + 4, ⟨5, false, 15, 0⟩)] } }

theorem witness_HostRequestsComplete :
    (hostOn true).hostUp = true ∧ (hostOn true).barLive 0 = true ∧ (hostOn true).barLive 3 = false ∧
    (hostOn true).tb.dawned = true ∧ (hostOn true).funcExists 0 = true ∧ (hostOn true).funcExists 3 = false ∧
    (hostOn false).hostUp = true ∧ (hostOn false).tb.dawned = false ∧
    (takeFirst (fun c => isReadOf 0 c && decide (hostWaits.askedAt c + hostWaits.cplTime ≤ hostWaits.tb.beat))
      hostWaits.held).isSome = true ∧
    (takeFirst (fun c => isReadOf 1 c && decide (hostWaits.askedAt c + hostWaits.cplTime ≤ hostWaits.tb.beat))
      hostWaits.held).isNone = true ∧
    hostWaits.readSlots 1 = [256 * agentKey 23 0 + 4] := by decide +kernel

/-- Ring 5 holds 128 bytes, not signalled yet. -/
def ringIn : State :=
  let s := ((ticking 5000).setFld pHost (HOST.RING_TAIL_TAIL.at 5) 128).setFld pHost (HOST.RING_IRQ_COAL_ST.at 5) 9
  let t := s.setRing 5 { RingSt.reset with unsig := some 4000 }
  { t with tb := { t.tb with beat := 2 ^ 20 } }

/-- Mailbox 2 of household 0, enabled for queue 0, is in state `st`. -/
def mailbox (st : Nat) (trunc : Bool) : State :=
  let q := (queued false).setFld (pHh 0) (HH.MB_CFG_EN.at 2) 1
  let s := { q with tb := { q.tb with beat := 6000 } }
  s.setMb 0 2 { MbSt.reset with st := st, trunc := trunc }

theorem witness_RingsAndMailboxesComplete :
    ringIn.serves mgr pHost (0x414 + 0x20 * 5) true = true ∧ ringIn.serves mgr (ringPage (some 3)) (0x414 + 0x20 * 5) true = true ∧
    (64 % 64 = 0 ∧ 64 < 2 * ringIn.ringSize 5 ∧
      (64 + 2 * ringIn.ringSize 5 - ringIn.ringHead 5 % (2 * ringIn.ringSize 5)) % (2 * ringIn.ringSize 5) ≤ ringIn.ringUsed 5) ∧
    ringIn.on pHost (HOST.RING_CFG_EN.at 5) = false ∧ ringIn.serves mgr pHost (0x400 + 0x20 * 5) true = true ∧
    (let t := ((ringIn.answer [0]).setFld pHost (HOST.RING_CFG_VEC.at 5) 0).setFld pHost (HOST.RING_CFG_SIZE_CODE.at 5) 2;
      (t.alignBase 5 (t.fld pHost (HOST.RING_BASE_LO_BASE.at 5) * 4096)).2 = false) ∧
    bitsOf (setBit 2 31) 3 0 = 2 ∧ (ringIn.ring 5).unsig = some 4000 ∧ ringIn.tb.beat = 2 ^ 20 ∧ ringIn.fld pHost (HOST.RING_IRQ_COAL_ST.at 5) ≠ 0 ∧
    (mailbox 0 false).on (pHh 0) (HH.MB_CFG_EN.at 2) = true ∧ ((mailbox 0 false).mb 0 2).st = 0 ∧
    ((mailbox 0 false).mb 0 2).err = false ∧ (mailbox 0 false).qOwner ((mailbox 0 false).mbQueue 0 2) = 0 ∧
    ((mailbox 0 false).setFld (pHh 0) (HH.MB_CFG_QUEUE.at 2) 9).qOwner
      (((mailbox 0 false).setFld (pHh 0) (HH.MB_CFG_QUEUE.at 2) 9).mbQueue 0 2) ≠ 0 ∧
    (mailbox 0 false).boundTo ((mailbox 0 false).mbQueue 0 2) = [] ∧
    ((mailbox 0 false).qCur ((mailbox 0 false).mbQueue 0 2)).isSome = true ∧
    ((mailbox 0 false).mb 0 2).freeAt ≤ (mailbox 0 false).tb.beat ∧
    (mailbox 1 true).stands (consumes 0 2) = false ∧
    ((mailbox 1 true).mb 0 2).st = 1 ∧ ((mailbox 1 true).mb 0 2).trunc = true ∧ ((mailbox 1 false).mb 0 2).trunc = false ∧
    (mailbox 2 false).por = false ∧ (mailbox 2 false).tb.dawn = 0 ∧ mgr.master ≠ .fabric ∧ mgr.hh.val = 15 ∧
    (mailbox 2 false).hhReset.contains 15 = false := by decide +kernel

/-- The Wicket port answers; a session of an identity may be open, and the lockout may run. -/
def wicketOn (auth lock : Bool) (id : Nat) : State :=
  let s := (((ticking 5000).setFld pDebug DEBUG.SESSION_AUTH (b2n auth)).setFld pDebug DEBUG.SESSION_LOCKOUT (b2n lock)).setFld
    pDebug DEBUG.SESSION_ID id
  { s with dbg := { s.dbg with busy := true, tap := 1 } }

/-- A check of identity `id` runs after `fails` failures; the manager's opens in OPEN_BOOT. -/
def checking (id fails : Nat) : State :=
  let s := (wicketOn false false 14).setFld pDebug DEBUG.SESSION_OPEN_BOOT 1
  { s with dbg := { s.dbg with check := some ⟨id, [], none, false⟩, fails := fails } }

/-- The header of a request for the register at 0x20_0018_0000 + `o`, 8 bytes. -/
def wkHdr (o : Nat) : BitVec 60 := BitVec.ofNat 60 ((0x2000000000 + o) * 4096)

/-- A Wicket read of the first register page has been issued. -/
def wicketIssued : State :=
  let s := wicketOn true false 15
  { s with mx := { s.mx with issued := [{ port := 0, acc := ⟨.wicket, 15, 37, 0, false⟩, addr := 0x2000000000, write := false
                                          size := 8, data := [], words := 1, arrived := 0, promoted := false, hdr := none
                                          ref := 1, slot := none }] } }

theorem witness_WicketLineCompletes :
    (wicketOn true false 15).wkAlive = true ∧ (wicketOn true false 15).dbg.busy = true ∧
    (wicketOn true false 15).on pDebug DEBUG.SESSION_LOCKOUT = false ∧
    (wicketOn false true 14).on pDebug DEBUG.SESSION_LOCKOUT = true ∧ (wicketOn false true 14).wkAlive = true ∧
    (wicketOn false true 14).on pDebug DEBUG.SESSION_AUTH = false ∧
    (let s := wicketOn true false 15; s.on pDebug DEBUG.SESSION_AUTH = true ∧
      s.namesSelf (wkFab (wkHdr 0).toNat) (wkAddr (wkHdr 0).toNat) = true ∧ wkBadAddr (wkHdr 0).toNat = false ∧
      s.wkPending = none ∧ s.wkWindow (wkHdr 0).toNat = false ∧ s.wkRight 0 = true ∧ s.wkRight 1 = true ∧ s.wkRight 3 = true) ∧
    wicketIssued.mxNext (fun r => r.acc.master == .wicket && r.hdr.isNone) = some 0 ∧
    ((checking 15 0).dbg.check.any (fun c => (checking 15 0).authOk c)) = true ∧
    ((checking 0 2).dbg.check.any (fun c => !(checking 0 2).authOk c)) = true ∧ min 3 (2 + 1) = 3 ∧ min 3 (0 + 1) ≠ 3 ∧
    ((checking 0 0).dbg.check.any (fun c => !(checking 0 0).authOk c)) = true ∧
    (checking 0 2).dbg.checkAt ≤ (checking 0 2).tb.beat ∧ (wicketOn false true 14).dbg.lockAt ≤ 5000 ∧
    (wicketOn false false 14).dbg.off = false ∧ (wicketOn false false 14).serves mgr pDebug 0x10C true = true ∧
    (wicketOn false false 14).serves mgr pDebug (0x800 + 0x20 * 8 + 4 * 7) true = true := by decide +kernel

theorem witness_RunControlCompletes :
    (ticking 5000).serves mgr pDebug 0x200 true = true ∧ bitAt 0x20000000 31 = false ∧ bitAt 0x20000000 30 = false ∧
    (let s := tileRun 0 leaf0;
      ({ s with run := s.run.map (fun e => (e.1, { e.2 with haltReq := some (1, 64) })) } : State).runOf 0 |>.any
        (fun r => r.haltReq == some (1, 64) && !s.runHalted 0 && r.faults.isEmpty)) = true ∧
    (((tileRun 0 leaf0).setFld pDebug (DEBUG.RUN_STATUS_STEPPING.at 0) 1).runOf 0 |>.any (fun r => r.faults.isEmpty &&
      r.tiles.all (fun n => ((tileRun 0 leaf0).setFld pDebug (DEBUG.RUN_STATUS_STEPPING.at 0) 1).stepped n))) = true ∧
    ((tileRun 0 leaf0).setFld pDebug (DEBUG.RUN_STATUS_STEPPING.at 0) 1).on pDebug (DEBUG.RUN_STATUS_STEPPING.at 0) = true ∧
    (ticking 5000).serves mgr pDebug 0x21C false = true ∧ (ticking 5000).serves mgr pDebug 0x220 true = true := by
  decide +kernel

/-- The POWER page has a pending event. -/
def pendingOn : State := (ticking 5000).setFld pPower HDR.EVT_PEND_PEND 4

/-- NOTIFYs wait at the FAULT unit and at the endpoint. -/
def notified (n : Notify) (mgrUp : Bool) : State :=
  let q := ticking 5000
  let s := { q with tb := { q.tb with beat := 5000 } }
  { s with flt := { s.flt with inbox := [n], epInbox := [n], epMgr := mgrUp } }

/-- A level of FAULT_N is due. -/
def faultDue : State :=
  let s := ticking 5000
  { s with flt := { s.flt with line := [(4000, true)] }, tb := { s.tb with beat := 4000 } }

theorem witness_FaultReportingCompletes :
    (pendingOn.blk pPower).isSome = true ∧
    (if pendingOn.pageAny pPower then pendingOn.attribution pPower + 1 else 0) ≠ Tab.get 0 pendingOn.flt.told pPower ∧
    ((ticking 5000).blk (bitsOf (2 ^ 9 + pPower) 8 0)).isSome = true ∧
    pageNode (notified ⟨37, 2 ^ 9 + pPower, false, 0⟩ false) (bitsOf (2 ^ 9 + pPower) 8 0) = 37 ∧
    ((ticking 5000).blk (bitsOf 0x1FF 8 0)).isSome = false ∧
    bitAt (2 ^ 9 + pPower) 9 = true ∧ (notified ⟨37, 2 ^ 9, false, 0⟩ true).flt.epMgr = true ∧
    (notified ⟨37, 2 ^ 9, false, 0⟩ false).flt.epMgr = false ∧ (ticking 5000).tb.dawned = true ∧
    (ticking 65536).onTick 65536 = true ∧ (ticking 65536).flt.perAt ≠ (ticking 65536).tb.beat + 1 ∧
    (ticking 65536).flt.sumAt ≠ (ticking 65536).tb.beat + 1 ∧ 0 + 2 ≤ (notified ⟨37, 0, false, 0⟩ false).tb.beat ∧
    (notified ⟨37, 0, false, 0⟩ false).stands clearsFirst = false ∧
    faultDue.flt.line = [(4000, true)] ∧ faultDue.tb.dawned = true ∧ 4000 ≤ faultDue.tb.beat ∧
    (ticking 5000).on pFault FAULT.SUMMARY_FAULTN = false ∧ (ticking 5000).serves mgr pFault 0x1CC true = true := by
  decide +kernel

/-- The instruction of CLASS and OP issues on tile 0, naming the registers of `insWord`. -/
def issuesAt (x : Nat × Nat × (Ins → List Nat)) : Bool := issues x.1 x.2.1 0 x.2.2

theorem witness_ArithmeticFrame :
    ([(0, 0, Ins.none), (0, 2, Ins.none), (0, 3, fun n => [n.ra]), (0, 6, Ins.raRb), (1, 10, Ins.rdRaRb), (1, 17, Ins.rdRa),
      (2, 20, Ins.rdRa), (2, 14, Ins.rdRaRb), (3, 7, Ins.rdRa), (6, 37, Ins.rdRa), (7, 0, Ins.rdRa), (2, 11, Ins.raRb),
      (3, 8, Ins.raRb)] : List (Nat × Nat × (Ins → List Nat))).all issuesAt = true := by decide +kernel

theorem witness_StoreFrame :
    (tileRun (insWord 4 1 0x3D) leaf0).canon = true ∧
    ((tileRun (insWord 4 1 0x3D) leaf0).issuing 0).any (fun i =>
      i.offset (insOf (insWord 4 1 0x3D)) == 64 && (i.winFault 64 64 64).isNone && i.c.sel (insOf (insWord 4 1 0x3D)) 15) = true ∧
    issues 4 1 0x3D Ins.rdRa = true ∧
    ((tileRun (insWord 4 3 5) leaf0).issuing 0).any (fun i =>
      i.offset (insOf (insWord 4 3 5)) == 8 && (i.winFault 8 8 8).isNone) = true ∧ issues 4 3 5 Ins.rdRa = true := by
  decide +kernel

end Sys2Proof.Tests
end

/-!
Of every command (Chapter 1): a step takes its front command alone, and no command but the Weighhouse die's own changes that
die. And what reset leaves (R9).
-/

namespace Sys2Proof.Machine

section Kept

variable {q : List Instr} {σ : Silicon × Option Weigh} {σ₀ : Silicon}

/-! ### What every command keeps, command by command -/

/-- A command that is not the Weighhouse die's own keeps the queue, the silicon, the canonical form and that die. -/
theorem exec_ok {i : Instr} {s : State} (hi : i.ofWeighhouse = false) (h : s.Ok q σ) : OkOut q σ (exec i s) := by
  cases i with
  | strapSample => exact execStrapSample_ok h
  | porAssert => exact execPorAssert_ok h
  | porRelease => exact execPorRelease_ok h
  | powerStageSupplyCross => exact execPowerStageSupplyCross_ok h
  | vphyMonitorCross => exact execVphyMonitorCross_ok h
  | dramRailMonitorCross => exact execDramRailMonitorCross_ok h
  | vmLimitsWrite => exact execVmLimitsWrite_ok h
  | mirrorRefresh => exact execMirrorRefresh_ok h
  | sidLoRead => exact execSidLoRead_ok h
  | sidHiRead => exact execSidHiRead_ok h
  | loadGo => exact execLoadGo_ok h
  | counterLoadApply => exact execCounterLoadApply_ok h
  | pllLock => exact execPllLock_ok h
  | dawnReq => exact execDawnReq_ok h
  | dawnDrainCheck => exact execDawnDrainCheck_ok h
  | dawnPrime => exact execDawnPrime_ok h
  | dawnRelease => exact execDawnRelease_ok h
  | dawnMeasureEnd => exact execDawnMeasureEnd_ok h
  | almFieldWrite => exact execAlmFieldWrite_ok h
  | almArm => exact execAlmArm_ok h
  | almCancel => exact execAlmCancel_ok h
  | almLock => exact execAlmLock_ok h
  | almApply => exact execAlmApply_ok h
  | refmonWindowEnd => exact execRefmonWindowEnd_ok h
  | refLoss => exact execRefLoss_ok h
  | pllUnlock => exact execPllUnlock_ok h
  | refFallback => exact execRefFallback_ok h
  | matrixGrant => exact execMatrixGrant_ok h
  | agePromote => exact execAgePromote_ok h
  | targetTimeout => exact execTargetTimeout_ok h
  | lateRsp => exact execLateRsp_ok h
  | registerWrite => exact execRegisterWrite_ok h
  | rcCounterRead => exact execRcCounterRead_ok h
  | evtPendClear => exact execEvtPendClear_ok h
  | evtEnWrite => exact execEvtEnWrite_ok h
  | evtForce => exact execEvtForce_ok h
  | errClr => exact execErrClr_ok h
  | shFieldWrite => exact execShFieldWrite_ok h
  | shadowBoundaryWrite => exact execShadowBoundaryWrite_ok h
  | shadowDiscard => exact execShadowDiscard_ok h
  | pageLockSet => exact execPageLockSet_ok h
  | ownerWrite => exact execOwnerWrite_ok h
  | pageSrst => exact execPageSrst_ok h
  | pageSrstDone => exact execPageSrstDone_ok h
  | pageEnable => exact execPageEnable_ok h
  | warmReq => exact execWarmReq_ok h
  | warmTakeEffect => exact execWarmTakeEffect_ok h
  | axisEnable => exact execAxisEnable_ok h
  | axisEdge => exact execAxisEdge_ok h
  | axisIndexEdge => exact execAxisIndexEdge_ok h
  | axisOpenWire => exact execAxisOpenWire_ok h
  | ephemSample => exact execEphemSample_ok h
  | ephemFit => exact execEphemFit_ok h
  | ephemPublish => exact execEphemPublish_ok h
  | segmentReceive => exact execSegmentReceive_ok h
  | segmentTakeForce => exact execSegmentTakeForce_ok h
  | segmentExpire => exact execSegmentExpire_ok h
  | trigArmNow => exact execTrigArmNow_ok h
  | trigDisarmNow => exact execTrigDisarmNow_ok h
  | stbArmNow => exact execStbArmNow_ok h
  | stbDisarmNow => exact execStbDisarmNow_ok h
  | trigFire => exact execTrigFire_ok h
  | trigPulseEnd => exact execTrigPulseEnd_ok h
  | strobeFire => exact execStrobeFire_ok h
  | strobeDutyCut => exact execStrobeDutyCut_ok h
  | strobeDutyWindow => exact execStrobeDutyWindow_ok h
  | outputShort => exact execOutputShort_ok h
  | outSafe => exact execOutSafe_ok h
  | csiFrameShortPacket _ _ isEnd => exact execCsiFrameShortPacket_ok (_isEnd := isEnd) h
  | csiLineStart => exact execCsiLineStart_ok h
  | csiLongPacket => exact execCsiLongPacket_ok h
  | csiLineEnd _ _ lineNo => exact execCsiLineEnd_ok (_lineNo := lineNo) h
  | laneSyncLoss => exact execLaneSyncLoss_ok h
  | bindCfgWrite => exact execBindCfgWrite_ok h
  | whbGo => exact execWhbGo_ok h
  | whbRetryTimeout => exact execWhbRetryTimeout_ok h
  | slParamWrite => exact execSlParamWrite_ok h
  | motorStart => exact execMotorStart_ok h
  | motorStop => exact execMotorStop_ok h
  | motorFaultClr => exact execMotorFaultClr_ok h
  | motorOffsetCal => exact execMotorOffsetCal_ok h
  | motorCalDone => exact execMotorCalDone_ok h
  | motorDetectDone => exact execMotorDetectDone_ok h
  | motorAlignDone => exact execMotorAlignDone_ok h
  | motorUpdate => exact execMotorUpdate_ok h
  | motorRestart => exact execMotorRestart_ok h
  | restartsClear => exact execRestartsClear_ok h
  | handoverTimeout => exact execHandoverTimeout_ok h
  | hallTransition => exact execHallTransition_ok h
  | facetIndexEdge => exact execFacetIndexEdge_ok h
  | motorDerateUpdate => exact execMotorDerateUpdate_ok h
  | cbcTrip => exact execCbcTrip_ok h
  | protectionLimitWrite => exact execProtectionLimitWrite_ok h
  | loopOutputWrite => exact execLoopOutputWrite_ok h
  | pwmPeriodStart => exact execPwmPeriodStart_ok h
  | pwmCommandEdge => exact execPwmCommandEdge_ok h
  | pwmLinkLoss => exact execPwmLinkLoss_ok h
  | interlockRelease => exact execInterlockRelease_ok h
  | gateStuckTimeout => exact execGateStuckTimeout_ok h
  | gateNoriseTimeout => exact execGateNoriseTimeout_ok h
  | slewTransition => exact execSlewTransition_ok h
  | bstUvCross => exact execBstUvCross_ok h
  | vcpUvCross => exact execVcpUvCross_ok h
  | didtFire => exact execDidtFire_ok h
  | softOffHoldEnd => exact execSoftOffHoldEnd_ok h
  | tripNLow => exact execTripNLow_ok h
  | ouvOvertemp => exact execOuvOvertemp_ok h
  | diagGo => exact execDiagGo_ok h
  | diagStepEnd => exact execDiagStepEnd_ok h
  | cstGo => exact execCstGo_ok h
  | cstHalfStepEnd => exact execCstHalfStepEnd_ok h
  | ouvCstGo => exact execOuvCstGo_ok h
  | ouvCstDone => exact execOuvCstDone_ok h
  | gateLatchClr => exact execGateLatchClr_ok h
  | directTestPulse => exact execDirectTestPulse_ok h
  | directTestEnd => exact execDirectTestEnd_ok h
  | slotLoad => exact execSlotLoad_ok h
  | slotLoadDone => exact execSlotLoadDone_ok h
  | slotLaunch => exact execSlotLaunch_ok h
  | runFirstIssue => exact execRunFirstIssue_ok h
  | slotAbort => exact execSlotAbort_ok h
  | breakpointHit => exact execBreakpointHit_ok h
  | nop => exact execNop_ok h
  | halt => exact execHalt_ok h
  | br => exact execBr_ok h
  | bz => exact execBz_ok h
  | bnz => exact execBnz_ok h
  | blt => exact execBlt_ok h
  | bge => exact execBge_ok h
  | trap => exact execTrap_ok h
  | gets => exact execGets_ok h
  | add => exact execAdd_ok h
  | sub => exact execSub_ok h
  | mul => exact execMul_ok h
  | and => exact execAnd_ok h
  | or => exact execOr_ok h
  | xor => exact execXor_ok h
  | shl => exact execShl_ok h
  | shr => exact execShr_ok h
  | sra => exact execSra_ok h
  | slt => exact execSlt_ok h
  | sltu => exact execSltu_ok h
  | addi => exact execAddi_ok h
  | lih => exact execLih_ok h
  | vadd => exact execVadd_ok h
  | vsub => exact execVsub_ok h
  | vmul => exact execVmul_ok h
  | vand => exact execVand_ok h
  | vor => exact execVor_ok h
  | vxor => exact execVxor_ok h
  | vshl => exact execVshl_ok h
  | vshr => exact execVshr_ok h
  | vsra => exact execVsra_ok h
  | vmin => exact execVmin_ok h
  | vmax => exact execVmax_ok h
  | vcmpeq => exact execVcmpeq_ok h
  | vcmplt => exact execVcmplt_ok h
  | vbcast => exact execVbcast_ok h
  | vsel => exact execVsel_ok h
  | vdot4 => exact execVdot4_ok h
  | vdot4u => exact execVdot4u_ok h
  | vreq => exact execVreq_ok h
  | vlane => exact execVlane_ok h
  | vext => exact execVext_ok h
  | vfadd => exact execVfadd_ok h
  | vfsub => exact execVfsub_ok h
  | vfmul => exact execVfmul_ok h
  | vffma => exact execVffma_ok h
  | vfmax => exact execVfmax_ok h
  | vfmin => exact execVfmin_ok h
  | vcvtif => exact execVcvtif_ok h
  | vcvtfi => exact execVcvtfi_ok h
  | vfcmplt => exact execVfcmplt_ok h
  | vld => exact execVld_ok h
  | vst => exact execVst_ok h
  | sld => exact execSld_ok h
  | sst => exact execSst_ok h
  | dmaget => exact execDmaget_ok h
  | dmaput => exact execDmaput_ok h
  | dmawait => exact execDmawait_ok h
  | dmaComplete => exact execDmaComplete_ok h
  | pop => exact execPop_ok h
  | popItemObtained => exact execPopItemObtained_ok h
  | emit => exact execEmit_ok h
  | vredIadd => exact execVredIadd_ok h
  | vredFadd => exact execVredFadd_ok h
  | vredImax => exact execVredImax_ok h
  | vredImin => exact execVredImin_ok h
  | vredFmax => exact execVredFmax_ok h
  | vredFmin => exact execVredFmin_ok h
  | sredIadd => exact execSredIadd_ok h
  | sredFadd => exact execSredFadd_ok h
  | sredImax => exact execSredImax_ok h
  | sredImin => exact execSredImin_ok h
  | sredFmax => exact execSredFmax_ok h
  | sredFmin => exact execSredFmin_ok h
  | vltreeIadd => exact execVltreeIadd_ok h
  | vltreeFadd => exact execVltreeFadd_ok h
  | vltreeImax => exact execVltreeImax_ok h
  | vltreeImin => exact execVltreeImin_ok h
  | vltreeFmax => exact execVltreeFmax_ok h
  | vltreeFmin => exact execVltreeFmin_ok h
  | vrnd => exact execVrnd_ok h
  | step => exact execStep_ok h
  | bar => exact execBar_ok h
  | illegalInstruction => exact execIllegalInstruction_ok h
  | reductionResult => exact execReductionResult_ok h
  | barrierComplete => exact execBarrierComplete_ok h
  | remoteFail => exact execRemoteFail_ok h
  | redTimeout => exact execRedTimeout_ok h
  | tileSramAccess => exact execTileSramAccess_ok h
  | packetInject => exact execPacketInject_ok h
  | tokenGain => exact execTokenGain_ok h
  | flitForward => exact execFlitForward_ok h
  | creditReturn => exact execCreditReturn_ok h
  | packetDeliver => exact execPacketDeliver_ok h
  | responseArrive => exact execResponseArrive_ok h
  | rspTimeout => exact execRspTimeout_ok h
  | vcStall => exact execVcStall_ok h
  | timedRegWrite => exact execTimedRegWrite_ok h
  | cntClearAll => exact execCntClearAll_ok h
  | queuePush => exact execQueuePush_ok h
  | queuePushLast => exact execQueuePushLast_ok h
  | queuePopStream => exact execQueuePopStream_ok h
  | queueTake => exact execQueueTake_ok h
  | queueHeldRead => exact execQueueHeldRead_ok h
  | queueReleaseHeld => exact execQueueReleaseHeld_ok h
  | takeRetry => exact execTakeRetry_ok h
  | queueFlush => exact execQueueFlush_ok h
  | queueMark => exact execQueueMark_ok h
  | queueRewind => exact execQueueRewind_ok h
  | queueRelease => exact execQueueRelease_ok h
  | queueEnable => exact execQueueEnable_ok h
  | queueDisable => exact execQueueDisable_ok h
  | queueCfgWrite => exact execQueueCfgWrite_ok h
  | spillWrite => exact execSpillWrite_ok h
  | spillWriteDone => exact execSpillWriteDone_ok h
  | spillRead => exact execSpillRead_ok h
  | spillReadDone => exact execSpillReadDone_ok h
  | itemTimeout => exact execItemTimeout_ok h
  | discardTimeout => exact execDiscardTimeout_ok h
  | spillWmUpdate => exact execSpillWmUpdate_ok h
  | qptrMismatch => exact execQptrMismatch_ok h
  | refillInstant => exact execRefillInstant_ok h
  | egressDecision => exact execEgressDecision_ok h
  | slotWake => exact execSlotWake_ok h
  | wheelTick => exact execWheelTick_ok h
  | wheelLevel1Move => exact execWheelLevel1Move_ok h
  | slotEnable => exact execSlotEnable_ok h
  | cirWrite => exact execCirWrite_ok h
  | bindWrite => exact execBindWrite_ok h
  | admCommit => exact execAdmCommit_ok h
  | arbiterWindowEnd => exact execArbiterWindowEnd_ok h
  | refAheadUpdate => exact execRefAheadUpdate_ok h
  | dramRequestServe => exact execDramRequestServe_ok h
  | dramRefresh => exact execDramRefresh_ok h
  | moduleReady => exact execModuleReady_ok h
  | pcsLocked => exact execPcsLocked_ok h
  | helloSend => exact execHelloSend_ok h
  | helloReceive => exact execHelloReceive_ok h
  | linkDownWaitEnd => exact execLinkDownWaitEnd_ok h
  | linkLos => exact execLinkLos_ok h
  | pcsLockLost => exact execPcsLockLost_ok h
  | linkIdleTimeout => exact execLinkIdleTimeout_ok h
  | frameTransmit => exact execFrameTransmit_ok h
  | frameBadCrc => exact execFrameBadCrc_ok h
  | linkUpdateReceive => exact execLinkUpdateReceive_ok h
  | linkUpdateDue => exact execLinkUpdateDue_ok h
  | replayTimeout => exact execReplayTimeout_ok h
  | nakResend => exact execNakResend_ok h
  | transportReceive => exact execTransportReceive_ok h
  | fabpRequestInject => exact execFabpRequestInject_ok h
  | unroutableRequest => exact execUnroutableRequest_ok h
  | itemFrameReceive => exact execItemFrameReceive_ok h
  | segmentFrameReceive => exact execSegmentFrameReceive_ok h
  | announceSend => exact execAnnounceSend_ok h
  | announceReceive => exact execAnnounceReceive_ok h
  | rootHoldExpire => exact execRootHoldExpire_ok h
  | treeStable => exact execTreeStable_ok h
  | joinSend => exact execJoinSend_ok h
  | joinReceive => exact execJoinReceive_ok h
  | joinExpire => exact execJoinExpire_ok h
  | assignReceive => exact execAssignReceive_ok h
  | mapSettle => exact execMapSettle_ok h
  | mapReceive => exact execMapReceive_ok h
  | mapAckReceive => exact execMapAckReceive_ok h
  | mapAckTimeout => exact execMapAckTimeout_ok h
  | activateReceive => exact execActivateReceive_ok h
  | i2cGo => exact execI2cGo_ok h
  | i2cDone => exact execI2cDone_ok h
  | syncSend => exact execSyncSend_ok h
  | syncReceive => exact execSyncReceive_ok h
  | delayReqReceive => exact execDelayReqReceive_ok h
  | delayRespReceive => exact execDelayRespReceive_ok h
  | steerStep => exact execSteerStep_ok h
  | constJoin => exact execConstJoin_ok h
  | constLeave => exact execConstLeave_ok h
  | syntoniseDone => exact execSyntoniseDone_ok h
  | parentTimeout => exact execParentTimeout_ok h
  | almDistArmReceive => exact execAlmDistArmReceive_ok h
  | almDistCancelReceive => exact execAlmDistCancelReceive_ok h
  | almDistAckReceive => exact execAlmDistAckReceive_ok h
  | almResendReqReceive => exact execAlmResendReqReceive_ok h
  | inputDigestDone => exact execInputDigestDone_ok h
  | weightsWriteDetect => exact execWeightsWriteDetect_ok h
  | replayEnable => exact execReplayEnable_ok h
  | replayFeed => exact execReplayFeed_ok h
  | pcfgWrite => exact execPcfgWrite_ok h
  | hostMemWrite => exact execHostMemWrite_ok h
  | hostMemRead => exact execHostMemRead_ok h
  | hostConfigRequest => exact execHostConfigRequest_ok h
  | hostUnsupportedRequest => exact execHostUnsupportedRequest_ok h
  | hostMalformedTlp => exact execHostMalformedTlp_ok h
  | hostCplTimeout => exact execHostCplTimeout_ok h
  | msixUnmask => exact execMsixUnmask_ok h
  | ringHeadWrite => exact execRingHeadWrite_ok h
  | ringCoalTimeout => exact execRingCoalTimeout_ok h
  | ringEnable => exact execRingEnable_ok h
  | mailboxFill => exact execMailboxFill_ok h
  | mailboxReady => exact execMailboxReady_ok h
  | mailboxConsumeRead => exact execMailboxConsumeRead_ok h
  | mailboxPeekRead => exact execMailboxPeekRead_ok h
  | hhReset => exact execHhReset_ok h
  | hhCtrlReset => exact execHhCtrlReset_ok h
  | vfFlr => exact execVfFlr_ok h
  | householdResetDone => exact execHouseholdResetDone_ok h
  | pePerst => exact execPePerst_ok h
  | hotReset => exact execHotReset_ok h
  | pfFlr => exact execPfFlr_ok h
  | hostLinkDown => exact execHostLinkDown_ok h
  | hostLinkUp => exact execHostLinkUp_ok h
  | wicketRead => exact execWicketRead_ok h
  | wicketWrite => exact execWicketWrite_ok h
  | wicketStatus => exact execWicketStatus_ok h
  | wicketChallenge => exact execWicketChallenge_ok h
  | wicketAuth => exact execWicketAuth_ok h
  | authCheckDone => exact execAuthCheckDone_ok h
  | wicketLogout => exact execWicketLogout_ok h
  | wicketAbort => exact execWicketAbort_ok h
  | wicketBadOp => exact execWicketBadOp_ok h
  | wicketCrcFault => exact execWicketCrcFault_ok h
  | wicketLineReset => exact execWicketLineReset_ok h
  | wicketBusyLimit => exact execWicketBusyLimit_ok h
  | wicketAccessComplete => exact execWicketAccessComplete_ok h
  | wicketNonceExpire => exact execWicketNonceExpire_ok h
  | authLockoutEnd => exact execAuthLockoutEnd_ok h
  | dbgRst => exact execDbgRst_ok h
  | sessionEndWrite => exact execSessionEndWrite_ok h
  | debugKeyWrite => exact execDebugKeyWrite_ok h
  | runHalt => exact execRunHalt_ok h
  | runHalted => exact execRunHalted_ok h
  | runResume => exact execRunResume_ok h
  | runStep => exact execRunStep_ok h
  | runStepDone => exact execRunStepDone_ok h
  | ctxDataAccess => exact execCtxDataAccess_ok h
  | tapBypass => exact execTapBypass_ok h
  | tapIdcode => exact execTapIdcode_ok h
  | tapSamplePreload => exact execTapSamplePreload_ok h
  | tapExtest => exact execTapExtest_ok h
  | tapClamp => exact execTapClamp_ok h
  | tapHighz => exact execTapHighz_ok h
  | tapReset => exact execTapReset_ok h
  | notifySend => exact execNotifySend_ok h
  | notifyPeriodic => exact execNotifyPeriodic_ok h
  | notifyReceive => exact execNotifyReceive_ok h
  | summaryNotifyReceive => exact execSummaryNotifyReceive_ok h
  | summaryNotifyPeriodic => exact execSummaryNotifyPeriodic_ok h
  | faultNUpdate => exact execFaultNUpdate_ok h
  | faultnForceWrite => exact execFaultnForceWrite_ok h
  | slewComplete => exact execSlewComplete_ok h
  | laneSyncGained => exact execLaneSyncGained_ok h
  | openWireClear => exact execOpenWireClear_ok h
  | dramTrainingDone => exact execDramTrainingDone_ok h
  | dramTempCross => exact execDramTempCross_ok h
  | _ => cases hi

/-- A command of the Weighhouse die keeps the queue, the silicon and the canonical form. -/
theorem exec_okAny_ofWeighhouse {i : Instr} {s : State} (hi : i.ofWeighhouse = true) (h : s.Ok q (σ₀, none)) :
    OkOut q (σ₀, none) (exec i s) := by
  cases i with
  | vddwFall => exact execVddwFall_ok h
  | vddwRise => exact execVddwRise_ok h
  | acceptMainPower => exact execAcceptMainPower_ok h
  | routineCommit => exact execRoutineCommit_ok h
  | vbakCommitCross => exact execVbakCommitCross_ok h
  | commitComplete => exact execCommitComplete_ok h
  | weighhouseHalt => exact execWeighhouseHalt_ok h
  | weighhouseStart => exact execWeighhouseStart_ok h
  | rtcStop => exact execRtcStop_ok h
  | bakLowCross => exact execBakLowCross_ok h
  | chargerLevelCross => exact execChargerLevelCross_ok h
  | vbakFastRise => exact execVbakFastRise_ok h
  | impedanceProbeStart => exact execImpedanceProbeStart_ok h
  | impedanceProbeDone => exact execImpedanceProbeDone_ok h
  | vbakSample => exact execVbakSample_ok h
  | whTempCross => exact execWhTempCross_ok h
  | meterEdge => exact execMeterEdge_ok h
  | meterIndexEdge => exact execMeterIndexEdge_ok h
  | meterWireFault => exact execMeterWireFault_ok h
  | whReadStatus => exact execWhReadStatus_ok h
  | whReadLedger => exact execWhReadLedger_ok h
  | whReadTally => exact execWhReadTally_ok h
  | whReadKey => exact execWhReadKey_ok h
  | whReadIdent => exact execWhReadIdent_ok h
  | whReadParams => exact execWhReadParams_ok h
  | whReadStamp => exact execWhReadStamp_ok h
  | closeTally => exact execCloseTally_ok h
  | whStamp => exact execWhStamp_ok h
  | sealNonce => exact execSealNonce_ok h
  | sealOpen => exact execSealOpen_ok h
  | sealParam => exact execSealParam_ok h
  | whbBadOp => exact execWhbBadOp_ok h
  | whbFrameBadCrc => exact execWhbFrameBadCrc_ok h
  | recordSigned => exact execRecordSigned_ok h
  | sealSwitchLow => exact execSealSwitchLow_ok h
  | sealSwitchHigh => exact execSealSwitchHigh_ok h
  | sealNonceExpire => exact execSealNonceExpire_ok h
  | whbResponse => exact execWhbResponse_ok h
  | _ => cases hi

/-- Every command keeps the queue, the silicon and the canonical form. -/
theorem exec_okAny {i : Instr} {s : State} (h : s.Ok q (σ₀, none)) : OkOut q (σ₀, none) (exec i s) := by
  cases hi : i.ofWeighhouse with
  | false => exact exec_ok hi h
  | true => exact exec_okAny_ofWeighhouse hi h

/-! ### From the canonical form to what is kept -/

/-- A state in canonical form keeps its own queue, silicon and Weighhouse die. -/
theorem State.ok_of_canon {s : State} (h : s.canon = true) : s.Ok s.pending (s.si, some s.wh) := by
  simp only [State.canon, Memory.wf, Bool.and_eq_true] at h
  obtain ⟨⟨⟨⟨hregs, hshadows⟩, hlive⟩, halm⟩, ⟨⟨hmem, htile⟩, hreq⟩, hrsp⟩ := h
  exact ⟨rfl, rfl, hregs, hshadows, hlive, halm, hmem, htile, hreq, hrsp, rfl⟩

/-- Which Weighhouse die a state holds need not be asked for. -/
theorem State.Ok.any {s : State} (h : s.Ok q σ) : s.Ok q (σ.1, none) := { h with wh := trivial }

/-- With the front command taken, the rest of the queue is kept, and the rest of the state as before. -/
theorem State.Ok.taken {s : State} (h : s.Ok q σ) (rest : List Instr) :
    ({ s with pending := rest } : State).Ok rest σ := { h with pending := rfl }

/-- The state has the Weighhouse die that is asked for. -/
theorem State.Ok.wh_eq {s : State} {w : Weigh} (h : s.Ok q (σ₀, some w)) : s.wh = w := h.wh

/-! ### What a step does -/

theorem step_cons {s : State} {c : Instr} {rest : List Instr} (hp : s.pending = c :: rest) :
    step s = exec c { s with pending := rest } := by
  simp only [step, hp]

theorem step_unheld {s t : State} {c : Instr} (hp : s.pending = []) (hu : s.unheld = some (c, t)) :
    step s = exec c t := by
  simp only [step, hp, hu]

theorem step_idle {s : State} (hp : s.pending = []) (hu : s.unheld = none) : step s = .next s.idle := by
  simp only [step, hp, hu]

/-- A step keeps the rest of the queue, the silicon and the canonical form. -/
theorem step_okAny {s : State} (h : s.canon = true) : OkOut s.pending.tail (s.si, none) (step s) := by
  have hs := (State.ok_of_canon h).any
  cases hp : s.pending with
  | cons c rest =>
    rw [step_cons hp]
    exact exec_okAny (hs.taken rest)
  | nil =>
    rw [hp] at hs
    cases hu : s.unheld with
    | some x =>
      rw [step_unheld hp hu]
      exact exec_okAny (State.unheld_ok hs x hu)
    | none =>
      rw [step_idle hp hu, okNext]
      exact State.idle_ok hs

/-! ### The isolation of the Weighhouse die -/

/-- A command that is not the Weighhouse die's own leaves that die as it is. -/
theorem exec_wh {i : Instr} {s t : State} {w : Weigh} (hi : i.ofWeighhouse = false) (h : s.Ok q (σ₀, some w))
    (ht : exec i s = .next t) : t.wh = w :=
  (exec_ok hi h t ht).wh_eq

/-- While the Weighhouse has no request of its own to go on with, a waiting command is resumed in a state that keeps what the
state kept, that die among it. -/
theorem State.unheld_ok_of_whNext_none {s : State} (h : s.Ok q σ) (hw : s.whNext = none) :
    ∀ x, s.unheld = some x → x.2.Ok q σ := by
  intro x hx
  simp only [State.unheld, hw, Option.isSome_none, Bool.false_eq_true, if_false] at hx
  split at hx
  · cases hx
  · split at hx
    · cases hx; exact okSame h
    · split at hx
      · cases hx
      · cases hx; exact okSame h

/-- A nanosecond on the Weighhouse die's clock changes nothing else that is kept. -/
theorem State.Ok.clock {s : State} {w : Weigh} (h : s.Ok q (σ₀, some w)) (tb : Timebase) (halm : tb.alm = s.tb.alm) :
    ({ s with wh := s.wh.clock, tb := tb } : State).Ok q (σ₀, some w.clock) :=
  { h with alm := halm ▸ h.alm, wh := congrArg Weigh.clock h.wh_eq }

/-- A tick lets a nanosecond pass on the Weighhouse die and does nothing else there. -/
theorem State.tick_wh {s : State} {w : Weigh} (h : s.Ok q (σ₀, some w)) : s.tick.wh = w.clock := by
  have hrun : (if s.tb.running then s.runsTick else s).Ok q (σ₀, some w) :=
    okIte (fun _ => State.runsTick_ok h) (fun _ => h)
  have htick : s.tick.Ok q (σ₀, some w.clock) := State.nocTick_ok
    (okIte (fun _ => State.axisFilters_ok (State.vmTick_ok (hrun.clock _ rfl))) (fun _ => hrun.clock _ rfl))
  exact htick.wh_eq

/-- What the device does by itself leaves the Weighhouse die as it is, or is a tick, which lets a nanosecond pass on it. -/
theorem State.idle_wh {s : State} {w : Weigh} (h : s.Ok q (σ₀, some w)) : s.idle.wh = w ∨ s.idle.wh = w.clock := by
  unfold State.idle
  split
  · exact .inl (State.mxComplete_ok (fun _ _ ht => State.hhRequest_ok ht) h).wh_eq
  · split
    · exact .inl (State.lateRead_ok h _ ‹_›).wh_eq
    · exact .inr (State.tick_wh h)

/-- A step that a command makes which is not the Weighhouse die's own leaves that die as it is. -/
theorem step_cons_wh {s t : State} {i : Instr} {rest : List Instr} (hc : s.canon = true) (hp : s.pending = i :: rest)
    (hi : i.ofWeighhouse = false) (hst : step s = .next t) : t.wh = s.wh := by
  rw [step_cons hp] at hst
  exact exec_wh hi ((State.ok_of_canon hc).taken rest) hst

/-- A step on an empty queue leaves the Weighhouse die as it is, or lets a nanosecond pass on it, where neither a request of
that die nor a waiting command of its own goes on. -/
theorem step_nil_wh {s t : State} (hc : s.canon = true) (hp : s.pending = []) (hw : s.whNext = none)
    (hi : ∀ c u, s.unheld = some (c, u) → c.ofWeighhouse = false) (hst : step s = .next t) :
    t.wh = s.wh ∨ t.wh = s.wh.clock := by
  have hs := State.ok_of_canon hc
  cases hu : s.unheld with
  | some x =>
    obtain ⟨c, u⟩ := x
    have hx := State.unheld_ok_of_whNext_none hs hw (c, u) hu
    rw [step_unheld hp hu] at hst
    exact .inl (exec_wh (hi c u hu) hx hst)
  | none =>
    rw [step_idle hp hu] at hst
    cases hst
    exact State.idle_wh hs

end Kept

/-- Settles O6: what `State.Ok` holds of the queue and of the silicon, kept by every command, is what a step leaves. -/
theorem stepConsumesFrontCommand : Obligations.StepConsumesFrontCommand := by
  intro s t hc hst
  have ht := step_okAny hc t hst
  exact ⟨ht.pending, ht.si⟩

/-- Settles O8: no command but the Weighhouse die's own changes that die (`exec_ok`), and by itself the device only lets time
pass on it (`State.idle_wh`). -/
theorem weighhouseIsolated : Obligations.WeighhouseIsolated :=
  ⟨fun _ _ _ hc hi ht => exec_wh hi (State.ok_of_canon hc) ht,
    fun _ _ _ _ hc hp hi hst => step_cons_wh hc hp hi hst,
    fun _ _ hc hp hw hi hst => step_nil_wh hc hp hw hi hst,
    fun _ _ _ _ _ _ _ _ => rfl⟩

/-! ### The state after reset -/

/-- The one register that reset leaves away from its field's reset value: EVT_RAW of the POWER page, with MIRROR_STALE. -/
theorem State.reset_regs :
    State.reset.regs = [(regKey pPower HDR.EVT_RAW_RAW.bit, 2 ^ POWER.evMIRROR_STALE.bit)] := rfl

theorem State.reset_fld (p : Nat) (f : Fld) : State.reset.fld p f =
    if regKey p f.bit = regKey pPower HDR.EVT_RAW_RAW.bit then 2 ^ POWER.evMIRROR_STALE.bit else f.reset := by
  rw [State.fld, State.reset_regs, Tab.get, Tab.lookup, Tab.lookup]
  split <;> rfl

theorem State.reset_liveMask (p : Nat) : State.reset.liveMask p =
    if p = pPower then 2 ^ POWER.evMIRROR_STALE.bit else 0 := by
  have hlive : State.reset.live = [(pPower, 2 ^ POWER.evMIRROR_STALE.bit)] := rfl
  rw [State.liveMask, hlive, Tab.get, Tab.lookup, Tab.lookup]
  split <;> rfl

/-- Settles O3, field by field of the state after reset. -/
theorem resetState : Obligations.ResetState :=
  have hshadow (p : Nat) (f : Fld) : State.reset.shadow p f = State.reset.fld p f := rfl
  have hsram (t a : Nat) : (State.reset.tl t).byte a = 0 := rfl
  ⟨fun p f => ⟨hshadow p f, State.reset_fld p f⟩, State.reset_liveMask, rfl, hsram, ⟨rfl, rfl, rfl⟩, rfl, rfl, rfl, rfl,
    rfl, rfl, rfl⟩

/-- Settles O4: the tables of the state after reset have no entry or one. -/
theorem resetCanonical : Obligations.ResetCanonical := by
  unfold Obligations.ResetCanonical
  decide

end Sys2Proof.Machine

/-!
The control-plane matrix (R164 to R168, R193, R194) and the register accesses that are served (R162, R171, R182).
-/

namespace Sys2Proof.Machine

/-! ### The matrix: a grant, a promotion, a time-out, a late response -/

section Grant

variable {s : State} {port : Fin 35} {bad : Bool} {rsp : BitVec 64} {k : Nat} {r : MxReq} (hpor : s.por = false)
  (hdawn : s.tb.dawn = 0)
  (hpick : s.pickGrant port (fun r => r.reserved || (decide (5 ≤ r.port) && s.mxReady r)) = some k)
  (hr : s.mx.waiting[k]? = some r)

include hpor hdawn hpick hr

/-- A piece with bad parity: the request is answered zeros and not performed (R194). -/
theorem execMatrixGrant_parity (hbad : bad = true) (hport : r.port < 5) : execMatrixGrant ⟨port, bad, rsp⟩ s =
    .next ((({ s with mx := { s.mx with waiting := s.mx.waiting.eraseIdx k } } : State).raiseBy pMatrix
      MATRIX.evMATRIX_PARITY r.acc.hh).mxFinish r (some ⟨.ok, List.replicate ((r.size + 7) / 8) 0⟩)).mxSettle := by
  simp [execMatrixGrant, hpor, hdawn, hpick, hr, hbad, hport]

/-- A good piece that is not the last: four words move (R164). -/
theorem execMatrixGrant_piece (hgood : bad = false ∨ 5 ≤ r.port) (hwords : 4 < r.words) :
    execMatrixGrant ⟨port, bad, rsp⟩ s =
      .next { s with mx := { s.mx with waiting := s.mx.waiting.set k { r with words := r.words - 4 } } } := by
  have hperformed : ¬ (bad = true ∧ r.port < 5) := by grind
  simp only [execMatrixGrant, hpor, hdawn, hpick, hr, hperformed, hwords, Bool.false_eq_true, ne_eq, not_true_eq_false,
    or_self, if_false, if_true]

/-- The last piece, a good one: the request is issued (R165). -/
theorem execMatrixGrant_last (hgood : bad = false ∨ 5 ≤ r.port) (hwords : r.words ≤ 4) {t : State}
    (hissue : s.mxIssue (.matrixGrant ⟨port, bad, rsp⟩) k
      { r with words := 0, issuedAt := s.tb.beat, badRsp := rsp.toNat } = t) :
    execMatrixGrant ⟨port, bad, rsp⟩ s = .next t.mxSettle := by
  have hperformed : ¬ (bad = true ∧ r.port < 5) := by grind
  simp only [execMatrixGrant, hpor, hdawn, hpick, hr, hperformed, Nat.not_lt.2 hwords, hissue, Bool.false_eq_true, ne_eq,
    not_true_eq_false, or_self, if_false]

end Grant

section Request

variable {s : State} {i : Instr} {k : Nat} {r : MxReq}

/-- A request at a node's peripheral bus is performed as it is issued. -/
theorem State.mxIssue_bus (h : 5 ≤ r.port) : s.mxIssue i k r =
    ({ s with mx := { s.mx with waiting := s.mx.waiting.eraseIdx k } } : State).mxAnswered State.hhRequest i r := by
  simp only [State.mxIssue, h, if_true]

/-- A request for this device is issued at its target port. -/
theorem State.mxIssue_local (h : r.port < 5) (hself : s.namesSelf r.acc.fab r.addr = true) : s.mxIssue i k r =
    { s with mx := { s.mx with waiting := s.mx.waiting.eraseIdx k, issued := s.mx.issued ++ [r] } } := by
  simp [State.mxIssue, hself, Nat.not_le.2 h]

/-- A request for another device leaves by NOC_OUT under a free slot, and waits for its response there. -/
theorem State.mxIssue_remote {tag : Nat} (h : r.port = 3) (hself : s.namesSelf r.acc.fab r.addr = false)
    (htag : s.freeSlot 29 = some tag) {t : State}
    (ht : ({ s with mx := { s.mx with waiting := s.mx.waiting.eraseIdx k } } : State).sendRemote 29 tag r.acc r.write
      r.addr r.size r.data = t) :
    s.mxIssue i k r = { t with mx := { t.mx with
      issued := t.mx.issued ++ [{ r with slot := some (256 * agentKey 29 0 + tag) }] } } := by
  subst ht
  simp [State.mxIssue, h, hself, htag]

theorem execAgePromote_due (hr : s.mx.waiting[k]? = some r) (hp : r.promoted = false)
    (hage : s.fld pMatrix MATRIX.AGE_PROMOTE_BEATS ≤ s.waited r) : execAgePromote k s =
    .next ((({ s with mx := { s.mx with waiting := s.mx.waiting.set k { r with promoted := true } } } : State).bump pMatrix
      MATRIX.PROMOTE_COUNT_COUNT).raise pMatrix MATRIX.evAGE_PROMOTED) := by
  simp [execAgePromote, hr, hp, State.aged, hage]

theorem execTargetTimeout_due (hr : s.mx.issued[k]? = some r)
    (hdue : r.issuedAt + 2 ^ s.fld pMatrix MATRIX.TIMEOUT_EXP ≤ s.tb.beat) : execTargetTimeout k s =
    .next (((({ s with mx := { s.mx with issued := s.mx.issued.eraseIdx k, late := s.mx.late ++ [r] } } : State).raiseBy
      pMatrix MATRIX.evTARGET_TIMEOUT r.acc.hh).mxFinish r (some ⟨.timeout, [0]⟩)).mxSettle) := by
  simp only [execTargetTimeout, hr, Nat.not_lt.2 hdue, if_false]

theorem execLateRsp_local (hr : s.mx.late[k]? = some r) (hslot : r.slot = none) (hpor : s.por = false)
    (hbus : s.busHeld r.addr = false) : execLateRsp k s =
    .next ((({ ({ s with mx := { s.mx with late := s.mx.late.eraseIdx k } } : State).mxPerform State.hhRequest (.lateRsp k) r
      with resp := s.resp } : State).bump pMatrix MATRIX.LATE_RSP_COUNT_COUNT).raise pMatrix MATRIX.evLATE_RSP) := by
  simp [execLateRsp, hr, hslot, State.mxReady, hpor, hbus]

end Request

/-! ### Register accesses that are served -/

/-- The address of a register fits an address of 48 bits. -/
theorem toNat_ofNat_regAddr (p : Fin 512) (off : Fin 1024) :
    (BitVec.ofNat 48 (regAddr p (4 * off))).toNat = regAddr p (4 * off) := by
  rw [BitVec.toNat_ofNat, regAddr]
  omega

/-- The four bytes of a value are its lowest 32 bits. -/
theorem ofLeBytes_leBytes_word (v : Nat) : ofLeBytes (leBytes 4 v) % 2 ^ 32 = v % 2 ^ 32 := by
  rw [ofLeBytes_leBytes]
  omega

/-- A local access to a register goes to the bus. -/
theorem State.anyAccess_local {s : State} {i : Instr} {a : Acc} {addr n : Nat} {w : Bool} {data : List Byte}
    (hf : a.fab = false) : s.anyAccess i a addr n w data = s.busAccess State.hhRequest i a 0 addr n w data := by
  simp [State.anyAccess, State.namesSelf, hf]

section Served

variable {s : State} {a : Acc} {p : Fin 512} {off : Fin 1024}

theorem execRegisterWrite_served {v : BitVec 64} (hf : a.fab = false)
    (hm : a.master ≠ .wicket ∨ inRange 0x100 64 p = false) (hs : s.serves a p (4 * off) true = true)
    (hafter : s.stands (fun c => masksFault (regAddr p (4 * off)) && decide (c = .notifyReceive)) = false) :
    execRegisterWrite a (BitVec.ofNat 48 (regAddr p (4 * off))) false v s =
      .next ((s.answer [0]).regWrite State.hhRequest a (regAddr p (4 * off)) p [(4 * off.val, v.toNat % 2 ^ 32)]) := by
  simp only [execRegisterWrite, toNat_ofNat_regAddr]
  rw [after_none hafter, State.anyAccess_local hf, if_neg Bool.false_ne_true,
    busAccess_served hs p.isLt (by omega) (by omega) hm, if_pos rfl, ofLeBytes_leBytes_word]

theorem execRcCounterRead_served (hf : a.fab = false) (hm : a.master ≠ .wicket ∨ inRange 0x100 64 p = false)
    (hs : s.serves a p (4 * off) false = true) :
    execRcCounterRead a (BitVec.ofNat 48 (regAddr p (4 * off))) false s =
      .next ((s.answer [0]).regRead a (regAddr p (4 * off)) p (4 * off) false) := by
  simp only [execRcCounterRead, toNat_ofNat_regAddr]
  rw [State.anyAccess_local hf, if_neg Bool.false_ne_true, busAccess_served hs p.isLt (by omega) (by omega) hm,
    if_neg Bool.false_ne_true]

theorem execShFieldWrite_served {w : Word} (hm : a.master ≠ .wicket ∨ inRange 0x100 64 p = false)
    (hs : s.serves a p (4 * off) true = true) (hd : s.mgrDenied a.hh p (s.fieldsOf p (4 * off)) w.toNat = false)
    (hn : s.notMine p (4 * off) = false) (hk : s.maskDenied a.hh p (4 * off) w.toNat = false) :
    execShFieldWrite a p off w s = .next ((s.answer [0]).wordWrite State.hhRequest a p (4 * off) w.toNat) := by
  rw [execShFieldWrite, pageWrite_served hs p.isLt (by omega) (by omega) w.isLt hm hd hn hk]

end Served

/-- Settles O41: a lemma for each command, cited where the statement's hypotheses name its case. -/
theorem matrixCommandsComplete : Obligations.MatrixCommandsComplete := by
  refine ⟨?grant, fun s k r => execAgePromote_due, fun s k r => execTargetTimeout_due, ?late, ?access⟩
  case grant =>
    rintro s o port bad rsp k r hpor hdawn hpick hr rfl
    refine ⟨fun hbad hport => execMatrixGrant_parity hpor hdawn hpick hr hbad hport,
      fun hgood hwords => execMatrixGrant_piece hpor hdawn hpick hr hgood hwords, ?last⟩
    case last =>
      rintro q rfl hwords
      have hlast {t : State} (hgood : bad = false ∨ 5 ≤ r.port) :=
        execMatrixGrant_last (rsp := rsp) (t := t) hpor hdawn hpick hr hgood hwords
      exact ⟨fun hgood hport hself => hlast (.inl hgood) (State.mxIssue_local hport hself),
        fun tag t hgood hport hself htag ht => hlast (.inl hgood) (State.mxIssue_remote
          (r := { r with words := 0, issuedAt := s.tb.beat, badRsp := rsp.toNat }) hport hself htag ht),
        fun hport => hlast (.inr hport) (State.mxIssue_bus hport)⟩
  case late =>
    rintro s k r t hr rfl hslot hpor hbus
    exact execLateRsp_local hr hslot hpor hbus
  case access =>
    intro s a p off hf hm
    exact ⟨fun hs => ⟨fun hafter v => execRegisterWrite_served hf hm hs hafter,
      fun w hd hn hk => execShFieldWrite_served hm hs hd hn hk⟩, fun hs => execRcCounterRead_served hf hm hs⟩

end Sys2Proof.Machine

/-!
The OWNER register of a page: who takes a write, and which pages it sets (R30, R175, R176).
-/

namespace Sys2Proof.Machine

/-- A page is in its own group: the pages of a quad and of a channel are numbered so that the base and the offset of the
group give the page back. -/
theorem mem_ownerGroup_self (p : Nat) : p ∈ ownerGroup p := by
  unfold ownerGroup
  split
  case isTrue => exact List.mem_map.mpr ⟨p % 4, List.mem_range.mpr (by omega), by omega⟩
  case isFalse =>
    split
    case isTrue h =>
      simp only [inRange, Bool.and_eq_true, decide_eq_true_eq] at h
      exact List.mem_map.mpr ⟨(p - 0x090) / 4, List.mem_range.mpr (by omega), by omega⟩
    case isFalse => exact List.mem_singleton_self p

/-- OWNER stands within its page. -/
theorem HDR.owner_bit_lt (p : Nat) : (HDR.owner p).bit < 32768 := (by decide : HDR.OWNER_OWNER.bit < 32768)

section Owner

variable {s : State} {a : Acc} {p : Nat} {b : Blk} {v : Nat}

/-- One OWNER after a write of one OWNER. -/
theorem State.owner_setFld_owner (hregs : Tab.risesFrom 0 s.regs = true) (p v q : Nat) :
    (s.setFld p (HDR.owner p) v).owner q = if q = p then v % 16 else s.owner q := by
  split
  case isTrue h => subst h; exact State.fld_setFld_self s q (HDR.owner q) v hregs
  case isFalse h => exact fld_setFld_page s v h (HDR.owner_bit_lt p) (HDR.owner_bit_lt q)

/-- One OWNER after the writes of a group of pages, one after another. -/
theorem State.owner_setFld_group (hregs : Tab.risesFrom 0 s.regs = true) (l : List Nat) (v q : Nat) :
    (l.foldl (fun t r => t.setFld r (HDR.owner r) v) s).owner q = if q ∈ l then v % 16 else s.owner q := by
  induction l generalizing s with
  | nil => simp
  | cons p l ih =>
    have hregs' : Tab.risesFrom 0 (s.setFld p (HDR.owner p) v).regs = true := Tab.rises_set _ _ _ _ hregs
    rw [List.foldl_cons, ih hregs', State.owner_setFld_owner hregs]
    by_cases hl : q ∈ l <;> simp [hl]

/-- A value that OWNER accepts, written to a page of kind P that is not a TILE page, sets the page's group (R175). -/
theorem State.setOwner_accepted (hb : s.blk p = some b) (htile : b ≠ .tile) (hown : b.own = .p) (hv : v < 8 ∨ v = 15) :
    s.setOwner p v = (ownerGroup p).foldl (fun t r => t.setFld r (HDR.owner r) v) s := by
  simp [State.setOwner, hb, htile, hown, hv]

/-- A page that is not of kind P, and a value that OWNER does not accept, leave the state (R176). -/
theorem State.setOwner_ignored (hb : s.blk p = some b) (h : ¬ (b.own = .p ∧ (v < 8 ∨ v = 15))) : s.setOwner p v = s := by
  simp only [State.setOwner, hb, if_neg h]

/-- Every page's OWNER after a write to a page that is not a TILE page: the value on the group of a page of kind P that
accepts it, and the old one everywhere else. -/
theorem State.owner_setOwner (hregs : Tab.risesFrom 0 s.regs = true) (hb : s.blk p = some b) (htile : b ≠ .tile)
    (q : Nat) :
    (s.setOwner p v).owner q = if (b.own = .p ∧ (v < 8 ∨ v = 15)) ∧ q ∈ ownerGroup p then v else s.owner q := by
  by_cases h : b.own = .p ∧ (v < 8 ∨ v = 15)
  · have hcut : v % 16 = v := by omega
    rw [State.setOwner_accepted hb htile h.1 h.2, State.owner_setFld_group hregs, hcut]
    simp [h]
  · rw [State.setOwner_ignored hb h, if_neg fun hq => h hq.1]

/-- A served OWNER write by the manager (R30). -/
theorem execOwnerWrite_served {p : Fin 512} {v : Fin 16} (hs : s.serves a p 0x030 true = true) (ha : a.hh = 15) :
    exec (.ownerWrite a p v) s = .next ((s.answer [0]).setOwner p v) :=
  congrArg Host.Outcome.next (mgr_served hs ha)

end Owner

/-- Settles O9: every page's OWNER after the write is known from `State.owner_setOwner`. -/
theorem ownerWriteRule : Obligations.OwnerWriteRule := by
  intro s a p v b hcanon hs ha hb htile
  have hafter (q : Nat) : ((s.answer [0]).setOwner p v).owner q =
      if (b.own = .p ∧ (v.val < 8 ∨ v.val = 15)) ∧ q ∈ ownerGroup p then v.val else s.owner q :=
    State.owner_setOwner (s := s.answer [0]) (State.ok_of_canon hcanon).regs hb htile q
  refine ⟨_, execOwnerWrite_served hs ha, ?accepted, ?reserved, ?otherKind, ?otherPage⟩
  case accepted =>
    intro hown hv
    have hval : v.val < 8 ∨ v.val = 15 := hv.imp_right (congrArg Fin.val)
    rw [hafter, if_pos ⟨⟨hown, hval⟩, mem_ownerGroup_self p⟩]
  case reserved =>
    intro _ hlo hhi
    rw [hafter, if_neg (by omega)]
  case otherKind =>
    intro hown
    rw [hafter, if_neg fun h => hown h.1.1]
  case otherPage =>
    intro q hq
    rw [hafter, if_neg fun h => hq h.2]

end Sys2Proof.Machine

/-!
The straps, the supply monitors, the voltage limits, and what the DRAM controllers report (R58, R59, R97, R98, R105, R147,
R709, R743).
-/

namespace Sys2Proof.Machine

/-! ### The supply monitors (Table 3.8) -/

section Monitor

variable {s t : State} {mv : Nat} {was ok : Bool}

/-- A supply falls where its monitor was good and no longer is: the model's test, as a proposition. -/
theorem ite_falls {α : Type} (was ok : Bool) (x y : α) :
    (if was && !ok then x else y) = if was = true ∧ ok = false then x else y := by
  simp only [Bool.and_eq_true, Bool.not_eq_true']

/-- VGD at a level: its status, its condition, and the gates off where it falls (R97). -/
theorem State.vgdRail_eq (hwas : s.on pPower POWER.RAIL_STATUS_VGD_OK = was) (hok : hyster was mv 8500 9000 = ok)
    (ht : (s.setFld pPower POWER.RAIL_STATUS_VGD_OK (b2n ok)).condition pPower POWER.evVGD_UV (!ok) = t) :
    s.vgdRail mv = if was = true ∧ ok = false then t.supplyOff else t := by
  subst hwas hok ht
  exact ite_falls _ _ _ _

/-- VSTB at a level: its status, its condition, and the strobe pulses ended where it falls (R97). -/
theorem State.vstbRail_eq (hwas : s.on pPower POWER.RAIL_STATUS_VSTB_OK = was) (hok : hyster was mv 4400 4500 = ok)
    (ht : (s.setFld pPower POWER.RAIL_STATUS_VSTB_OK (b2n ok)).condition pPower POWER.evVSTB_UV (!ok) = t) :
    s.vstbRail mv = if was = true ∧ ok = false then t.vstbOff else t := by
  subst hwas hok ht
  exact ite_falls _ _ _ _

/-- VM at a level: its two statuses, their conditions, and the gates off where it falls or its overvoltage begins (R97). -/
theorem State.vmRail_eq {wasOv ov : Bool} (hwas : s.on pPower POWER.RAIL_STATUS_VM_OK = was)
    (hwasOv : s.on pPower POWER.RAIL_STATUS_VM_OV = wasOv) (hok : hyster was mv s.vmUvLim (s.vmUvLim + 250) = ok)
    (hov : (if wasOv then decide (s.vmOvLim ≤ mv + 500) else decide (s.vmOvLim < mv)) = ov)
    (ht : (((s.setFld pPower POWER.RAIL_STATUS_VM_OK (b2n ok)).setFld pPower POWER.RAIL_STATUS_VM_OV
      (b2n ov)).condition pPower POWER.evVM_UV (!ok)).condition pPower POWER.evVM_OV ov = t) :
    s.vmRail mv = if (was = true ∧ ok = false) ∨ (wasOv = false ∧ ov = true) then t.supplyOff else t := by
  subst hwas hwasOv hok hov ht
  simp only [State.vmRail, Bool.or_eq_true, Bool.and_eq_true, Bool.not_eq_true']

/-- VGD's level reaches its monitor where no self-test of OUVGOR runs (R369). -/
theorem execPowerStageSupplyCross_vgd (hcst : s.dr.ouvCst = false) :
    exec (.powerStageSupplyCross .vgd mv) s =
      .next (({ s with dr := { s.dr with vgdPin := some mv } } : State).vgdRail mv) :=
  congrArg Host.Outcome.next (if_neg (Bool.eq_false_iff.mp hcst))

/-- VM's level reaches its monitor where no self-test of OUVGOR runs (R369). -/
theorem execPowerStageSupplyCross_vm (hcst : s.dr.ouvCst = false) :
    exec (.powerStageSupplyCross .vm mv) s =
      .next (({ s with dr := { s.dr with vmPin := some mv } } : State).vmRail mv) :=
  congrArg Host.Outcome.next (if_neg (Bool.eq_false_iff.mp hcst))

/-- A self-test of OUVGOR disconnects the monitors of VM and VGD: their levels are kept for its end (R369). -/
theorem execPowerStageSupplyCross_selfTest (hcst : s.dr.ouvCst = true) :
    exec (.powerStageSupplyCross .vm mv) s = .next { s with dr := { s.dr with vmPin := some mv } } ∧
    exec (.powerStageSupplyCross .vgd mv) s = .next { s with dr := { s.dr with vgdPin := some mv } } :=
  ⟨congrArg Host.Outcome.next (if_pos hcst), congrArg Host.Outcome.next (if_pos hcst)⟩

/-- VPHY at a level: its status, its condition, and the links reset where it falls (R105). -/
theorem execVphyMonitorCross_eq (hwas : s.phyOk = was) (hok : hyster was mv 830 850 = ok)
    (ht : (s.setFld pPower POWER.RAIL_STATUS_VPHY_OK (b2n ok)).condition pPower POWER.evVPHY_LOW (!ok) = t) :
    exec (.vphyMonitorCross mv) s = .next (if was = true ∧ ok = false then t.phyReset else t) := by
  subst hwas hok ht
  exact congrArg Host.Outcome.next (ite_falls _ _ _ _)

/-- VDD2X at a level: its status, its condition, and DRAM's content lost where it falls (R105). -/
theorem execDramRailMonitorCross_vdd2x (hwas : s.on pPower POWER.RAIL_STATUS_VDD2X_OK = was)
    (hok : hyster was mv 1000 1020 = ok)
    (ht : (s.setFld pPower POWER.RAIL_STATUS_VDD2X_OK (b2n ok)).condition pPower POWER.evVDD2X_LOW (!ok) = t) :
    exec (.dramRailMonitorCross .vdd2x mv) s =
      .next (if was = true ∧ ok = false then { t with dram := { t.dram with dead := true, mem := [] } } else t) := by
  subst hwas hok ht
  exact congrArg Host.Outcome.next (ite_falls _ _ _ _)

/-- VDDQX at a level: its status, its condition, and DRAM's content lost where it falls (R105). -/
theorem execDramRailMonitorCross_vddqx (hwas : s.on pPower POWER.RAIL_STATUS_VDDQX_OK = was)
    (hok : hyster was mv 540 550 = ok)
    (ht : (s.setFld pPower POWER.RAIL_STATUS_VDDQX_OK (b2n ok)).condition pPower POWER.evVDDQX_LOW (!ok) = t) :
    exec (.dramRailMonitorCross .vddqx mv) s =
      .next (if was = true ∧ ok = false then { t with dram := { t.dram with dead := true, mem := [] } } else t) := by
  subst hwas hok ht
  exact congrArg Host.Outcome.next (ite_falls _ _ _ _)

end Monitor

/-! ### The limits, and the DRAM controllers -/

section Controllers

variable {s : State}

/-- A served write of VM_LIMITS by the manager (R98). -/
theorem execVmLimitsWrite_served {a : Acc} {w : Word} (hs : s.serves a pPower 0x104 true = true) (ha : a.hh = 15) :
    exec (.vmLimitsWrite a w) s = .next ((s.answer [0]).vmLimits w.toNat) :=
  congrArg Host.Outcome.next (mgr_served hs ha)

/-- A condition leaves the DRAM controllers. -/
theorem State.condition_dram (p : Nat) (e : Ev) (holds : Bool) : (s.condition p e holds).dram = s.dram := by
  obtain ⟨_, _, _, h⟩ := condition_fields s p e holds
  rw [h]

/-- A temperature crossing sets the controller's two conditions, which the windows under way remember (R709). -/
theorem execDramTempCross_dram (c : Fin 2) (hot slow : Bool) :
    ∃ t, exec (.dramTempCross c hot slow) s = .next t ∧ t.dram = { s.dram with
      hot := putBit s.dram.hot c hot, slow := putBit s.dram.slow c slow
      hotWin := s.dram.hotWin || hot, slowWin := s.dram.slowWin || slow } := by
  refine ⟨_, rfl, ?_⟩
  dsimp only
  rw [State.condition_dram, State.condition_dram]

end Controllers

/-- Settles O28: a lemma for each monitor; the straps, whose sampling is `State.latchStraps`; the limits; the controllers. -/
theorem suppliesComplete : Obligations.SuppliesComplete := by
  refine ⟨?straps, ?supplies, fun s a w => execVmLimitsWrite_served, ?controllers⟩
  case straps =>
    rintro s t x y z rfl
    exact ⟨rfl, rfl⟩
  case supplies =>
    intro s t mv was ok
    refine ⟨?vgd, ?vstb, ?vm, execPowerStageSupplyCross_selfTest, execVphyMonitorCross_eq,
      execDramRailMonitorCross_vdd2x, execDramRailMonitorCross_vddqx⟩
    case vgd =>
      rintro u hcst rfl hwas hok ht
      rw [execPowerStageSupplyCross_vgd hcst]
      exact congrArg Host.Outcome.next (State.vgdRail_eq hwas hok ht)
    case vstb =>
      intro hwas hok ht
      exact congrArg Host.Outcome.next (State.vstbRail_eq hwas hok ht)
    case vm =>
      rintro u wasOv ov hcst rfl hwas hwasOv hok hov ht
      rw [execPowerStageSupplyCross_vm hcst]
      exact congrArg Host.Outcome.next (State.vmRail_eq hwas hwasOv hok hov ht)
  case controllers =>
    exact fun s c => ⟨rfl, rfl, execDramTempCross_dram c⟩

end Sys2Proof.Machine

/-!
The Weighhouse's power path (R73 to R75, R86 to R88, R95, R101 to R103, R255, R294).
-/

namespace Sys2Proof.Machine

/-- A command of the Weighhouse die whose new die is known. -/
theorem next_onWh {s : State} {f : Weigh → Weigh} {w : Weigh} (h : f s.wh = w) :
    (.next (s.onWh f) : Out) = .next { s with wh := w } := by
  rw [State.onWh, h]

section PowerPath

variable {w : Weigh}

/-- VDDW falls on a die that is not on BACKUP: a gap that has not ended goes on, else one starts now (R86). -/
theorem Weigh.vddwFall_off (hsrc : w.src ≠ 1) : w.vddwFall = { w with
    src := 1, gap := some (w.gap.getD w.rtcWord), chg := 0, probing := false, probeDue := false, low := false
    tally := { w.tally with gap := true } } := by
  rw [Weigh.vddwFall, if_neg hsrc]
  cases w.gap <;> rfl

/-- A routine commit that is due: the cross-check, then a commit unless the newest sealed slot holds the same state (R87). -/
theorem Weigh.routine_due {x : Weigh} (hrun : w.halted = false) (hcommit : w.commit = false)
    (hdue : w.routineAt + 1000000000 ≤ w.ns) (hx : ({ w with routineAt := w.ns } : Weigh).crossCheck = x) :
    w.routine = if (x.newest.map CommitSlot.body) = some (x.slot true).body then x else x.startCommit := by
  have hgo : ¬ (w.halted = true ∨ w.commit = true ∨ w.ns < w.routineAt + 1000000000) := by
    simp [hrun, hcommit, hdue]
  rw [Weigh.routine, if_neg hgo, hx]
  dsimp only
  cases x.newest with
  | none => exact (if_neg (by simp)).symm
  | some c => simp only [Option.map_some, Option.some.injEq]

/-- VBAK crosses its commit level on BACKUP while no commit runs (R74, R100). -/
theorem execVbakCommitCross_backup {s : State} (hrun : s.wh.halted = false) (hsrc : s.wh.src = 1)
    (hcommit : s.wh.commit = false) :
    exec .vbakCommitCross s = .next { s with wh := ({ s.wh with low := true } : Weigh).startCommit } :=
  next_onWh (by simp [hrun, hsrc, hcommit])

/-- A commit in progress on a running die is sealed (R88). -/
theorem execCommitComplete_running {s : State} (hrun : s.wh.halted = false) (hcommit : s.wh.commit = true) :
    exec .commitComplete s = .next { s with wh := s.wh.sealCommit } :=
  congrArg Host.Outcome.next (if_pos (by simp [hrun, hcommit]))

theorem Weigh.sealCommit_noProbe (hdue : w.probeDue = false) : w.sealCommit = { w with
    commit := false, ring := w.ring.map (fun e => (e.1, { e.2 with good := true })) } :=
  if_neg (Bool.eq_false_iff.mp hdue)

/-- The probe that waited for the commit starts (R100). -/
theorem Weigh.sealCommit_probe (hdue : w.probeDue = true) : w.sealCommit = { w with
    commit := false, ring := w.ring.map (fun e => (e.1, { e.2 with good := true }))
    probing := true, probeDue := false, probeAt := some w.ns } :=
  if_pos hdue

end PowerPath

/-- Settles O20: a lemma for each change of the die, carried to the command by `next_onWh`. -/
theorem weighhousePowerPathCompletes : Obligations.WeighhousePowerPathCompletes := by
  refine ⟨fun s hsrc => next_onWh (Weigh.vddwFall_off hsrc), fun s hsrc => next_onWh (if_neg hsrc), ?accept, ?early,
    ?routine, fun s => execVbakCommitCross_backup, ?sealed, ?probe, ?halt, ?start, fun s => rfl⟩
  case accept =>
    rintro s u v hrun hcommit hsrc hdue rfl rfl
    exact next_onWh ((if_pos hdue).trans (if_neg (by simp [hrun, hcommit, hsrc])))
  case early =>
    intro s hlow hearly
    exact next_onWh (if_neg (by simp [hlow, hearly]))
  case routine =>
    intro s w hrun hcommit hdue hw
    exact congrArg (fun x => Host.Outcome.next { s with wh := x }) (Weigh.routine_due hrun hcommit hdue hw)
  case sealed =>
    intro s hrun hcommit hdue
    rw [execCommitComplete_running hrun hcommit, Weigh.sealCommit_noProbe hdue]
  case probe =>
    intro s hrun hcommit hdue
    rw [execCommitComplete_running hrun hcommit, Weigh.sealCommit_probe hdue]
  case halt =>
    intro s hrun hsrc
    exact next_onWh (if_neg (by simp [hrun, hsrc]))
  case start =>
    rintro s ca cb idn sl lb mv w u v x y z rfl hhalted hu hv hx hy hz
    have htorn : v.ledgerTorn u.tornSlot = x := by
      rw [← hx]
      cases u.tornSlot <;> rfl
    have hkey : x.makeKey s.si.whSerial = y := hy
    have hlast : y.started ((x.newest.map CommitSlot.seq).getD 0) mv = ({ z with
        tally := { z.tally with suspect := z.tally.suspect || z.paramsBad } } : Weigh).sampleVbak mv := by
      rw [← hz]; rfl
    refine next_onWh ((if_neg (by simp [hhalted])).trans ?_)
    rw [← hlast, ← hkey, ← htorn, ← hv, ← hu]

end Sys2Proof.Machine

/-!
The backup element, its charger and probe, and the seal switch (R78, R81 to R85, R92 to R94, R273, R275, R276).
-/

namespace Sys2Proof.Machine

section BackupElement

variable {w : Weigh}

/-- A sample of VBAK below 0 V declares the element absent, whatever its type (R94). -/
theorem Weigh.sampleVbak_negative {mv : Int} (hrun : w.halted = false) (hmv : mv < 0) :
    w.sampleVbak mv = { ({ w with vbak := mv } : Weigh).declareAbsent with passes := 0 } := by
  rw [Weigh.sampleVbak, if_neg (Bool.eq_false_iff.mp hrun)]
  exact if_pos hmv

/-- A sample at or above 0 V is only stored for a type that the charger charges. -/
theorem Weigh.sampleVbak_charging {mv : Int} (hrun : w.halted = false) (hty : w.charges = true) (hmv : 0 ≤ mv) :
    w.sampleVbak mv = { w with vbak := mv } := by
  rw [Weigh.sampleVbak, if_neg (Bool.eq_false_iff.mp hrun)]
  exact (if_neg (Int.not_lt.mpr hmv)).trans (if_pos hty)

/-- For another type a sample below 1.0 V declares the element absent (R93). -/
theorem Weigh.sampleVbak_absent {mv : Int} (hrun : w.halted = false) (hty : w.charges = false) (hmv : mv < 1000) :
    w.sampleVbak mv = { ({ w with vbak := mv } : Weigh).declareAbsent with passes := 0 } := by
  by_cases hneg : mv < 0
  · exact sampleVbak_negative hrun hneg
  · rw [Weigh.sampleVbak, if_neg (Bool.eq_false_iff.mp hrun)]
    exact (if_neg hneg).trans ((if_neg (Bool.eq_false_iff.mp hty)).trans (if_pos hmv))

/-- For another type a sample of 1.0 V or more passes (R93). -/
theorem Weigh.sampleVbak_present {mv : Int} (hrun : w.halted = false) (hty : w.charges = false) (hmv : 1000 ≤ mv) :
    w.sampleVbak mv = ({ w with vbak := mv } : Weigh).passed := by
  rw [Weigh.sampleVbak, if_neg (Bool.eq_false_iff.mp hrun)]
  exact (if_neg (by omega)).trans ((if_neg (Bool.eq_false_iff.mp hty)).trans (if_neg (Int.not_lt.mpr hmv)))

end BackupElement

section Commands

variable {s : State}

theorem execBakLowCross_running {b : Bool} (hrun : s.wh.halted = false) :
    exec (.bakLowCross b) s = .next { s with wh := { s.wh with bakLow := b } } :=
  next_onWh (if_neg (Bool.eq_false_iff.mp hrun))

/-- A charger level with an element that may be charged: constant voltage stays, but for a LIMN cell below 2.0 V (R84). -/
theorem execChargerLevelCross_present {mv : Nat} (hrun : s.wh.halted = false) (habs : s.wh.absent = false)
    (hhot : s.wh.hot = false) : exec (.chargerLevelCross mv) s = .next { s with wh :=
      if s.wh.chg = 3 ∧ ¬ (bitsOf (s.wh.param 9) 5 4 = 1 ∧ mv < 2000) then { s.wh with vbak := mv }
      else ({ s.wh with vbak := mv } : Weigh).charge } := by
  refine next_onWh ((if_neg (by simp [hrun, habs, hhot])).trans ?_)
  simp only [Bool.not_eq_true', decide_eq_false_iff_not]

theorem execChargerLevelCross_stored {mv : Nat} (h : s.wh.absent = true ∨ s.wh.hot = true) :
    exec (.chargerLevelCross mv) s = .next { s with wh := { s.wh with vbak := mv } } :=
  next_onWh (if_pos (.inr h))

theorem execVbakFastRise_constantCurrent (hrun : s.wh.halted = false) (hchg : s.wh.chg = 2) :
    exec .vbakFastRise s = .next { s with wh := s.wh.declareAbsent } :=
  next_onWh (if_neg (by simp [hrun, hchg]))

/-- A probe whose turn has come starts, or waits for the commit that runs (R81, R82, R85, R100). -/
theorem execImpedanceProbeStart_due (hrun : s.wh.halted = false) (hsrc : s.wh.src = 0) (hty : s.wh.charges = true)
    (hphase : s.wh.absent = true ∨ s.wh.chg = 3 ∨ s.wh.chg = 5)
    (hlast : ∀ t, s.wh.probeAt = some t → t + 8000000000 ≤ s.wh.ns) :
    exec .impedanceProbeStart s = .next { s with wh := if s.wh.commit = true then { s.wh with probeDue := true }
      else { s.wh with probing := true, probeDue := false, probeAt := some s.wh.ns } } := by
  refine next_onWh (if_neg ?_)
  cases hat : s.wh.probeAt with
  | none => simp [hrun, hsrc, hty, hphase]
  | some t => simp [hrun, hsrc, hty, hphase, hlast t hat]

theorem execVbakSample_charging {mv : Int} {w : Weigh} (hty : s.wh.charges = true) (hw : s.wh.sampleVbak mv = w) :
    exec (.vbakSample mv) s = .next { s with wh := w } :=
  next_onWh ((if_pos hty).trans hw)

/-- A type that the charger does not charge is sampled every 8 s (R93). -/
theorem execVbakSample_early {mv : Int} (hty : s.wh.charges = false) (hns : s.wh.ns < s.wh.sampleAt + 8000000000) :
    exec (.vbakSample mv) s = .next s :=
  next_onWh ((if_neg (Bool.eq_false_iff.mp hty)).trans (if_pos hns))

theorem execVbakSample_due {mv : Int} {w : Weigh} (hty : s.wh.charges = false)
    (hns : s.wh.sampleAt + 8000000000 ≤ s.wh.ns)
    (hw : ({ s.wh with sampleAt := s.wh.sampleAt + 8000000000 } : Weigh).sampleVbak mv = w) :
    exec (.vbakSample mv) s = .next { s with wh := w } :=
  next_onWh ((if_neg (Bool.eq_false_iff.mp hty)).trans ((if_neg (Nat.not_lt.mpr hns)).trans hw))

theorem execWhTempCross_running {h : Bool} {mv : Nat} (hrun : s.wh.halted = false) :
    exec (.whTempCross h mv) s = .next { s with wh := ({ s.wh with hot := h, vbak := mv } : Weigh).charge } :=
  next_onWh (if_neg (Bool.eq_false_iff.mp hrun))

theorem execSealSwitchLow_running (hrun : s.wh.halted = false) :
    exec .sealSwitchLow s = .next { s with wh := { s.wh with sealLow := true } } :=
  congrArg Host.Outcome.next (if_neg (Bool.eq_false_iff.mp hrun))

/-- WH_SEAL_N goes high on an open seal, or on a FACTORY one with an opener key (R275, R276). -/
theorem execSealSwitchHigh_closes (hrun : s.wh.halted = false)
    (hseal : s.wh.sealSt = 2 ∨ (s.wh.sealSt = 0 ∧ s.wh.opener.isSome = true)) : exec .sealSwitchHigh s =
      .next (({ s with wh := ({ s.wh with sealLow := false } : Weigh).closeSeal (Config.free s.freeIdx) } : State).drew) :=
  (if_neg (Bool.eq_false_iff.mp hrun)).trans (if_pos hseal)

theorem execSealSwitchHigh_clears (hrun : s.wh.halted = false)
    (hseal : ¬ (s.wh.sealSt = 2 ∨ (s.wh.sealSt = 0 ∧ s.wh.opener.isSome = true))) : exec .sealSwitchHigh s =
      .next { s with wh := { s.wh with sealLow := false } } :=
  (if_neg (Bool.eq_false_iff.mp hrun)).trans (if_neg hseal)

/-- A probe ends 1 ms or more after its start: VBAK is stored, and the rise decides (R81 to R83). -/
theorem execImpedanceProbeDone_due {rise mv t : Nat} (hprobe : s.wh.probing = true) (hat : s.wh.probeAt = some t)
    (hdue : t + 1000000 ≤ s.wh.ns) : exec (.impedanceProbeDone rise mv) s = .next { s with wh :=
      if rise ≤ 50 then ({ s.wh with probing := false, vbak := mv } : Weigh).passed
      else if s.wh.absent = true then { s.wh with probing := false, vbak := mv, passes := 0 }
      else ({ s.wh with probing := false, vbak := mv } : Weigh).declareAbsent } :=
  next_onWh (if_neg (by simp [hprobe, hat, hdue]))

end Commands

/-- Settles O21: a lemma for each command, and for each outcome of a sample of VBAK. -/
theorem backupElementCompletes : Obligations.BackupElementCompletes := by
  refine ⟨fun s hrun => ⟨fun b => execBakLowCross_running hrun, fun mv => execChargerLevelCross_present hrun,
    fun mv => execChargerLevelCross_stored, execVbakFastRise_constantCurrent hrun, execImpedanceProbeStart_due hrun,
    ?charging, ?other, fun h mv => execWhTempCross_running hrun, execSealSwitchLow_running hrun,
    execSealSwitchHigh_closes hrun, execSealSwitchHigh_clears hrun⟩, ?probeEnd, fun s => rfl⟩
  case charging =>
    exact fun hty mv => ⟨fun hmv => execVbakSample_charging hty (Weigh.sampleVbak_negative hrun hmv),
      fun hmv => execVbakSample_charging hty (Weigh.sampleVbak_charging hrun hty hmv)⟩
  case other =>
    refine fun hty mv => ⟨execVbakSample_early hty, ?_⟩
    rintro w hns rfl
    exact ⟨fun hmv => execVbakSample_due hty hns (Weigh.sampleVbak_absent hrun hty hmv),
      fun hmv => execVbakSample_due hty hns (Weigh.sampleVbak_present hrun hty hmv)⟩
  case probeEnd =>
    intro s rise mv t hprobe hat hdue
    rw [execImpedanceProbeDone_due hprobe hat hdue]
    exact ⟨fun hrise => by rw [if_pos hrise], fun hrise => by rw [if_neg (Nat.not_le.mpr hrise)]⟩

end Sys2Proof.Machine

/-!
POR, WARM and the resets of the host link (R80, R186, R638, R639, R662, R713).
-/

namespace Sys2Proof.Machine

section CoreReset

variable {s : State} {keep : Nat → Fld → Bool}

/-- The core reset builds its state anew, with the registers that `keep` names; then it writes EVT_RAW where conditions last,
and follows the charge pump and the straps. -/
theorem State.coreReset_eq (s : State) (keep : Nat → Fld → Bool) : ∃ (stays : Nat → Bool) (held : List (Nat × Nat))
    (axis : List (Nat × AxisSt)) (gate : List (Nat × GateSt)),
    (∀ key f, s.fieldAt key = some f → stays key = keep (key / 32768) f) ∧
    s.coreReset keep = (held.foldl (fun (t : State) e => t.setFld e.1 HDR.EVT_RAW_RAW e.2) { State.reset with
      pending := s.pending, freeIdx := s.freeIdx, trainings := s.trainings + 1, si := s.si, wh := s.wh, sent := s.sent
      regs := Tab.keep stays s.regs
      live := held
      tb := { Timebase.reset with beat := s.tb.beat }
      ln := { State.reset.ln with axis := axis }
      dr := { State.reset.dr with
        ouvHot := s.dr.hotPin, vmPin := s.dr.vmPin, vgdPin := s.dr.vgdPin, vcpPin := s.dr.vcpPin, hotPin := s.dr.hotPin
        gate := gate }
      dram := { State.reset.dram with dead := s.dramRailLow, hot := s.dram.hot, slow := s.dram.slow }
      dbg := { State.reset.dbg with tap := s.dbg.tap, off := s.dbg.off } }).vcpAct.strapRef := by
  refine ⟨_, _, _, _, fun key f hat => ?_, rfl⟩
  simp only [hat]

/-- What a core reset writes after it has built the state anew is in the register file alone, with the live conditions and
the beats of first errors. -/
theorem resetWrites_fields (held : List (Nat × Nat)) (t : State) : ∃ r l e,
    (held.foldl (fun (t : State) e => t.setFld e.1 HDR.EVT_RAW_RAW e.2) t).vcpAct.strapRef =
      { t with regs := r, live := l, errAt := e } := by
  obtain ⟨r₀, hraw⟩ := foldl_raw held t
  rw [hraw]
  exact vcpAct_strapRef _

/-- Outside OUVGOR, REFMON and EVT_RAW those writes leave every field. -/
theorem resetWrites_fld (held : List (Nat × Nat)) (t : State) {p : Nat} {f : Fld} (hpump : p ≠ pOuvgor)
    (href : p ≠ pRefmon) (hf : f.bit < 32768) (hraw : f.bit ≠ HDR.EVT_RAW_RAW.bit) :
    (held.foldl (fun (t : State) e => t.setFld e.1 HDR.EVT_RAW_RAW e.2) t).vcpAct.strapRef.fld p f = t.fld p f := by
  rw [fld_strapRef_ne _ href hf, fld_vcpAct_ne _ hpump hf, fld_foldl_raw _ _ _ _ hf hraw]

/-- The page that a register's key names. -/
theorem regKey_page {p b : Nat} (hb : b < 32768) : regKey p b / 32768 = p := by
  unfold regKey; omega

/-- A core reset keeps a field or returns it to its reset value (R186). -/
theorem State.coreReset_fld {p : Nat} {f : Fld} (hpump : p ≠ pOuvgor) (href : p ≠ pRefmon) (hf : f.bit < 32768)
    (hraw : f.bit ≠ HDR.EVT_RAW_RAW.bit) (hat : s.fieldAt (regKey p f.bit) = some f) :
    (s.coreReset keep).fld p f = if keep p f = true then s.fld p f else f.reset := by
  obtain ⟨stays, held, axis, gate, hstays, heq⟩ := s.coreReset_eq keep
  have hkey : stays (regKey p f.bit) = keep p f := by rw [hstays _ f hat, regKey_page hf]
  rw [heq, resetWrites_fld held _ hpump href hf hraw, State.fld, Tab.get, Tab.lookup_keep, hkey]
  exact apply_ite (Option.getD · f.reset) _ _ _

end CoreReset

/-! ### POR and WARM -/

section Por

variable {s : State}

theorem execPorAssert_off {c : PorCause} (hpor : s.por = false) : exec (.porAssert c) s =
    .next (({ s.coreReset liveField with por := true, dbg := DebugSt.reset } : State).setFld pPower
      POWER.POR_CAUSE_CAUSE (PorCause.code c)) :=
  if_neg (Bool.eq_false_iff.mp hpor)

theorem execPorAssert_on {c : PorCause} (hpor : s.por = true) : exec (.porAssert c) s = .next s := if_pos hpor

theorem execPorRelease_on (hpor : s.por = true) : exec .porRelease s = .next { s.coreReset (fun p f => liveField p f ||
    (p == pPower && f.bit == POWER.POR_CAUSE_CAUSE.bit)) with por := false } :=
  if_pos hpor

theorem execPorRelease_off (hpor : s.por = false) : exec .porRelease s = .next s := if_neg (Bool.eq_false_iff.mp hpor)

/-- No access is served while POR is asserted. -/
theorem por_of_serves {a : Acc} {p off : Nat} {w : Bool} (hs : s.serves a p off w = true) : s.por = false := by
  simp only [State.serves, Bool.and_eq_true, Bool.not_eq_true'] at hs
  exact hs.1.1

theorem State.warmRequest_first {cause : Nat} (hpor : s.por = false) (hdue : s.warmDue = none) :
    s.warmRequest cause = { s with warmDue := some (s.tb.beat + 4096, cause) } :=
  if_neg (by simp [hpor, hdue])

theorem State.warmRequest_waiting {cause : Nat} (hdue : s.warmDue.isSome = true) : s.warmRequest cause = s :=
  if_pos (.inr hdue)

/-- RESET_CTRL with its bit and its key requests a WARM with cause 1 (Table 5.10). -/
theorem State.resetCtrl_key {w : Nat} (hbit : bitAt w 0 = true) (hkey : bitsOf w 15 8 = 0x5A) :
    s.resetCtrl w = s.warmRequest 1 :=
  if_pos (by simp [hbit, hkey])

theorem State.resetCtrl_noKey {w : Nat} (h : bitAt w 0 = false ∨ bitsOf w 15 8 ≠ 0x5A) : s.resetCtrl w = s :=
  if_neg (by rcases h with h | h <;> simp [h])

/-- A served write of RESET_CTRL by the manager (R186). -/
theorem execWarmReq_served {a : Acc} {w : Word} (hs : s.serves a pDevice 0x120 true = true) (ha : a.hh = 15) :
    exec (.warmReq a w) s = .next ((s.answer [0]).resetCtrl w.toNat) :=
  congrArg Host.Outcome.next (mgr_served hs ha)

/-- RESET_CTRL without its key, or while a WARM waits already, is answered and has no other effect. -/
theorem State.resetCtrl_ignored {w : Nat}
    (h : bitAt w 0 = false ∨ bitsOf w 15 8 ≠ 0x5A ∨ s.warmDue.isSome = true) : s.resetCtrl w = s := by
  by_cases hkey : bitAt w 0 = true ∧ bitsOf w 15 8 = 0x5A
  · obtain ⟨hbit, hcode⟩ := hkey
    rw [resetCtrl_key hbit hcode]
    exact warmRequest_waiting (by simpa [hbit, hcode] using h)
  · exact resetCtrl_noKey (by simpa [Classical.or_iff_not_imp_left] using hkey)

theorem execWarmTakeEffect_due {b c : Nat} (hdue : s.warmDue = some (b, c)) (hb : b ≤ s.tb.beat) :
    exec .warmTakeEffect s = .next { s.coreReset (fun p f => f.keepWarm || liveField p f) with lastRst := c } := by
  change execWarmTakeEffect s = _
  rw [execWarmTakeEffect, hdue]
  exact if_pos hb

theorem execWarmTakeEffect_early {b c : Nat} (hdue : s.warmDue = some (b, c)) (hb : s.tb.beat < b) :
    exec .warmTakeEffect s = .next s := by
  change execWarmTakeEffect s = _
  rw [execWarmTakeEffect, hdue]
  exact if_neg (Nat.not_le.mpr hb)

end Por

/-! ### The host link -/

section Link

variable {s : State}

/-- PE_PERST outside POR, at an endpoint that the straps do not hold inert. -/
theorem execPePerst_active (hpor : s.por = false) (hinert : s.inert = false) : exec .pePerst s =
    .next ((s.linkGone.linkReset HOST.LINK_CFG_PERST_ACTION).raise pHost HOST.evPERST) :=
  congrArg Host.Outcome.next (if_neg (by simp [hpor, hinert]))

theorem execHotReset_up (hup : s.hostUp = true) :
    exec .hotReset s = .next (s.linkGone.linkReset HOST.LINK_CFG_PERST_ACTION) :=
  congrArg Host.Outcome.next (if_pos hup)

theorem execHostLinkDown_up (hup : s.hostUp = true) :
    exec .hostLinkDown s = .next ((s.linkGone.linkReset HOST.LINK_CFG_LINKDOWN_ACTION).raise pHost HOST.evLINK_DOWN) :=
  congrArg Host.Outcome.next (if_pos hup)

theorem execPfFlr_up (hup : s.hostUp = true) : exec .pfFlr s = .next (s.endpointReset.raise pHost HOST.evPF_FLR) :=
  congrArg Host.Outcome.next (if_pos hup)

/-- The link comes up where the endpoint is not inert, its supply is good, and the rate is within both limits. -/
theorem execHostLinkUp_allowed {v : Fin 4} {k : Fin 3} (hinert : bitAt (s.fld pDevice DEVICE.STRAP_CFG) 2 = false)
    (hphy : s.phyOk = true) (hcap : v.val + 1 ≤ s.speedCap)
    (htarget : v.val + 1 ≤ max 1 (s.fld pHost HOST.LINK_CFG_TARGET_SPEED)) : exec (.hostLinkUp v k) s =
    .next ((({ s with host := { s.host with
      linkUp := true, speed := v.val + 1, width := 2 ^ k.val, ltssm := s.freeVal 6 } } : State).drew).raise pHost
        HOST.evLINK_UP) :=
  if_neg (not_or.mpr ⟨by simp [hinert], not_or.mpr ⟨by simp [hphy],
    not_or.mpr ⟨Nat.not_lt.mpr hcap, Nat.not_lt.mpr htarget⟩⟩⟩)

end Link

/-- Settles O26: each command by its own lemma; the core reset's frame from `State.coreReset_eq`, its register fields from
`State.coreReset_fld`. -/
theorem resetCommandsComplete : Obligations.ResetCommandsComplete := by
  refine ⟨fun s c => ⟨execPorAssert_off, execPorAssert_on⟩, fun s => ⟨execPorRelease_on, execPorRelease_off⟩, ?request,
    fun s b c hdue => ⟨execWarmTakeEffect_due hdue, execWarmTakeEffect_early hdue⟩, ?reset,
    fun s => execPePerst_active, fun s hup => ⟨execHotReset_up hup, execHostLinkDown_up hup, execPfFlr_up hup⟩,
    fun s v k => execHostLinkUp_allowed⟩
  case request =>
    intro s a w hs ha
    rw [execWarmReq_served hs ha]
    refine ⟨fun hbit hkey hdue => ?_, fun h => congrArg Host.Outcome.next (State.resetCtrl_ignored h)⟩
    rw [State.resetCtrl_key hbit hkey]
    exact congrArg Host.Outcome.next (State.warmRequest_first (s := s.answer [0]) (por_of_serves hs) hdue)
  case reset =>
    intro s keep r hr
    have hfld := @State.coreReset_fld s keep
    rw [hr] at hfld
    obtain ⟨_, held, axis, gate, -, heq⟩ := s.coreReset_eq keep
    obtain ⟨regs, live, errAt, hwrites⟩ := resetWrites_fields held _
    obtain rfl := (hwrites.symm.trans heq.symm).trans hr
    exact ⟨rfl, rfl, rfl, rfl, rfl, rfl, rfl, rfl, fun p f => hfld⟩

end Sys2Proof.Machine

/-!
What a step does while no command waits (R116, R121, R187, R281, R447; log entry 1).
-/

namespace Sys2Proof.Machine

section Idle

variable {s : State}

theorem State.idle_mxNext {k : Nat} (hmx : s.mxNext (fun r => r.hdr.isSome || r.acc.master == .engine) = some k) :
    s.idle = s.mxComplete State.hhRequest .wicketAccessComplete k := by
  simp only [State.idle, hmx]

theorem State.idle_lateRead {t : State} (hmx : s.mxNext (fun r => r.hdr.isSome || r.acc.master == .engine) = none)
    (ht : s.lateRead = some t) : s.idle = t := by
  simp only [State.idle, hmx, ht]

theorem State.idle_tick (hmx : s.mxNext (fun r => r.hdr.isSome || r.acc.master == .engine) = none)
    (ht : s.lateRead = none) : s.idle = s.tick := by
  simp only [State.idle, hmx, ht]

end Idle

/-- Settles O2: `step_unheld` for a command that resumes; else the three cases of `State.idle`, with time on a tick from
`State.tick_at`. -/
theorem emptyQueueStep : Obligations.EmptyQueueStep := by
  refine ⟨fun s t c => step_unheld, fun s hp hu => ?_⟩
  rw [step_idle hp hu]
  exact ⟨fun k hmx => congrArg Host.Outcome.next (State.idle_mxNext hmx), fun hmx =>
    ⟨fun t ht => congrArg Host.Outcome.next (State.idle_lateRead hmx ht),
      fun ht => ⟨s.tick, congrArg Host.Outcome.next (State.idle_tick hmx ht), s.tick_at⟩⟩⟩

end Sys2Proof.Machine

/-!
The sidereal counter's reads and loads, and the dawn sequence (R114, R117, R119 to R122, R145, R147).
-/

namespace Sys2Proof.Machine

/-! ### Reads and loads of the counter -/

section Counter

variable {s : State} {a : Acc} {via : Option (Fin 8)} {v b : Nat}

theorem latchKey_eq (a : Acc) (ident : Nat) : latchKey a ident = 16 * a.master.id + ident := by
  rw [latchKey, Nat.mul_comm]

/-- A served read of SID_LO returns the count and latches its upper half (R117). -/
theorem execSidLoRead_served {both : Bool} (hs : s.serves a (timePage via) 0x100 false = true) :
    exec (.sidLoRead a both via) s = .next { s with
      tb := { s.tb with latches := Tab.insert s.tb.latches (16 * a.master.id + timeIdent a via) (s.tb.count / 2 ^ 32) }
      resp := some ⟨.ok, [if both = true then s.tb.count else s.tb.count % 2 ^ 32]⟩ } := by
  rw [← latchKey_eq]
  exact congrArg Host.Outcome.next (access_served hs)

theorem execSidHiRead_served (hs : s.serves a (timePage via) 0x104 false = true) :
    exec (.sidHiRead a via) s = .next { s with resp := some ⟨.ok,
      [(Tab.lookup s.tb.latches (16 * a.master.id + timeIdent a via)).getD (s.tb.count / 2 ^ 32)]⟩ } := by
  rw [← latchKey_eq]
  exact congrArg Host.Outcome.next (access_served hs)

theorem execLoadGo_served (hs : s.serves a pTime 0x110 true = true) :
    exec (.loadGo a) s = .next (s.answer [0]).loadGo :=
  congrArg Host.Outcome.next (access_served hs)

theorem State.loadRefusal_none (hv : s.countAt (s.tb.beat + 64) < v) (hmotor : s.motorEnabled = false)
    (hrun : s.runActive = false) (hout : s.outputArmed = false) (haxis : s.axisEnabled = false)
    (halm : s.anyArmed (fun m => decide (m ≤ v)) = false) : s.loadRefusal v = 0 := by
  simp [State.loadRefusal, hv, hmotor, hrun, hout, haxis, halm]

/-- A value that the count passes before the load takes effect (R119, Table 4.10). -/
theorem State.loadRefusal_past (hv : v ≤ s.countAt (s.tb.beat + 64)) : s.loadRefusal v = 2 := if_pos hv

theorem State.loadGo_accepted (hpair : s.pair pTime TIME.LOAD_LO_V_LO TIME.LOAD_HI_V_HI = v)
    (hr : s.loadRefusal v = 0) :
    s.loadGo = { s with tb := { s.tb with load := s.tb.load ++ [(v, s.tb.beat + 64)] } } := by
  subst hpair
  exact if_pos hr

theorem State.loadGo_refused {r : Nat} (hpair : s.pair pTime TIME.LOAD_LO_V_LO TIME.LOAD_HI_V_HI = v)
    (hr : s.loadRefusal v = r) (hne : r ≠ 0) :
    s.loadGo = (s.setFld pTime TIME.LOAD_CTRL_LOAD_RESULT r).raiseBy pTime TIME.evLOAD_REFUSED 15 := by
  subst hpair hr
  exact if_neg hne

theorem execCounterLoadApply_due {rest : List (Nat × Nat)} (hload : s.tb.load = (v, b) :: rest) (hb : b ≤ s.tb.beat) :
    exec .counterLoadApply s = .next (({ s with tb := { s.tb with
      count := cadd v (s.tb.beat - b), load := rest } } : State).setFld pTime
        TIME.LOAD_CTRL_LOAD_RESULT 1).skipRefills.voidExchange.constLoaded := by
  change execCounterLoadApply s = _
  rw [execCounterLoadApply, hload]
  exact if_pos hb

theorem execCounterLoadApply_early {rest : List (Nat × Nat)} (hload : s.tb.load = (v, b) :: rest) (hb : s.tb.beat < b) :
    exec .counterLoadApply s = .next s := by
  change execCounterLoadApply s = _
  rw [execCounterLoadApply, hload]
  exact if_neg (Nat.not_le.mpr hb)

end Counter

/-! ### The dawn -/

section Dawn

variable {s : State} {a : Acc} {ph : List (Fin 16)} {occ : List (Fin 9)}

theorem execDawnReq_served (hs : s.serves a pDawn 0x100 true = true) :
    exec (.dawnReq a) s = .next (s.answer [0]).dawnReq :=
  congrArg Host.Outcome.next (access_served hs)

theorem State.dawnReq_accepted (hr : s.dawnRefusal = 0) :
    s.dawnReq = ({ s with tb := { s.tb with
      dawn := 1, dawnAuto := false, dawnAt := s.tb.beat + 2048 } } : State).setFld pDawn DAWN.DAWN_STATUS_STATE 1 :=
  if_pos hr

theorem State.dawnReq_refused (hr : s.dawnRefusal ≠ 0) :
    s.dawnReq = (s.setFld pDawn DAWN.DAWN_STATUS_REFUSE_CODE s.dawnRefusal).raiseBy pDawn DAWN.evDAWN_REFUSED 15 :=
  if_neg hr

/-- No step of the dawn is due before its tick. -/
theorem State.dawnDue_early (h : s.tb.beat < s.tb.dawnAt) (k : Nat) : s.dawnDue k = false := by
  simp [State.dawnDue, h]

/-- A step of the dawn that is not due does nothing. -/
theorem next_notDue {due : Bool} {x : Out} (h : due = false) : (if (!due) = true then .next s else x) = .next s :=
  if_pos (by simp [h])

theorem next_due {due : Bool} {x : Out} (h : due = true) : (if (!due) = true then .next s else x) = x :=
  if_neg (by simp [h])

/-- The drain check keeps the least of the crossings that are not empty. -/
theorem exists_lowest_crossing (x : Fin 120) (xs : List (Fin 120)) :
    ∃ m ∈ x :: xs, (∀ y ∈ x :: xs, m ≤ y) ∧ xs.foldl (fun n y => min n y.val) x.val = m.val := by
  have hmin : ((x :: xs).map Fin.val).min? = some ((xs.map Fin.val).foldl min x.val) := List.min?_cons'
  rw [List.foldl_map] at hmin
  obtain ⟨hmem, hle⟩ := List.min?_eq_some_iff.mp hmin
  obtain ⟨m, hm, hval⟩ := List.mem_map.mp hmem
  rw [← hval] at hle ⊢
  exact ⟨m, hm, fun y hy => hle y (List.mem_map_of_mem hy), rfl⟩

theorem execDawnDrainCheck_empty (hdue : s.dawnDue 1 = true) : exec (.dawnDrainCheck []) s =
    .next ((({ s with tb := { s.tb with dawn := 2 } } : State).setFld pDawn DAWN.DAWN_STATUS_STATE 2).setFld pDawn
      DAWN.DAWN_STATUS_ATTEMPTS 0) :=
  next_due hdue

theorem execDawnDrainCheck_notEmpty (hdue : s.dawnDue 1 = true) (x : Fin 120) (xs : List (Fin 120)) :
    ∃ m : Fin 120, m ∈ x :: xs ∧ (∀ y ∈ x :: xs, m ≤ y) ∧
      exec (.dawnDrainCheck (x :: xs)) s = .next (s.dawnFail 1 m) := by
  obtain ⟨m, hmem, hle, hm⟩ := exists_lowest_crossing x xs
  refine ⟨m, hmem, hle, (next_due hdue).trans ?_⟩
  rw [← hm]

/-- At the release the islands resume with the count, which starts at 0 where no counter runs (R121, R147). -/
theorem execDawnRelease_due (hdue : s.dawnDue 3 = true) {c : Nat}
    (hc : (if s.tb.running = true then s.tb.count else 0) = c) :
    exec .dawnRelease s = .next (((({ (if s.tb.running = true then s else s.axisBegin) with
      tb := { s.tb with dawn := 4, haltedIslands := false, running := true, count := c, dawnAt := s.tb.dawnAt + 256 } } :
        State).nocDawn.portsDawn.voidExchange.alignAll).setPair pDawn DAWN.REL_LO_REL_LO DAWN.REL_HI_REL_HI c).setFld pDawn
        DAWN.DAWN_STATUS_STATE 4) := by
  subst hc
  exact next_due hdue

/-- No crossing is marginal: the dawn is done. -/
theorem execDawnMeasureEnd_done (hdue : s.dawnDue 4 = true) (hm : marginal ph = []) {u : State}
    (hu : s.storeXings ph occ = u) : exec (.dawnMeasureEnd ph occ) s =
    .next (((({ u with tb := { u.tb with dawn := 0, dawned := true } } : State).setFld pDawn DAWN.DAWN_STATUS_STATE
      5).setFld pDawn DAWN.DAWN_STATUS_UNALIGNED 0).incr pDawn DAWN.DAWN_COUNT_COUNT |>.raise pDawn DAWN.evDAWN_DONE) := by
  refine (next_due hdue).trans ?_
  rw [hm, hu]

/-- A crossing is marginal before attempt 3: the islands it enters are shifted and the dawn primes again (R122). -/
theorem execDawnMeasureEnd_retry (hdue : s.dawnDue 4 = true) {x : Nat} {xs : List Nat} (hm : marginal ph = x :: xs)
    {u : State} (hu : s.storeXings ph occ = u) (ha : s.fld pDawn DAWN.DAWN_STATUS_ATTEMPTS < 3) :
    exec (.dawnMeasureEnd ph occ) s =
      .next ((({ u with tb := { u.tb with dawn := 2, shift := shiftIslands (x :: xs) u.tb.shift } } : State).setFld pDawn
        DAWN.DAWN_STATUS_STATE 2).setFld pDawn DAWN.DAWN_STATUS_ATTEMPTS (s.fld pDawn DAWN.DAWN_STATUS_ATTEMPTS + 1)
        |>.raise pDawn DAWN.evDAWN_RETRY) := by
  refine (next_due hdue).trans ?_
  rw [hm, hu]
  exact if_pos ha

/-- A crossing is marginal after attempt 3: the dawn fails with code 2 at the lowest. -/
theorem execDawnMeasureEnd_fail (hdue : s.dawnDue 4 = true) {x : Nat} {xs : List Nat} (hm : marginal ph = x :: xs)
    {u : State} (hu : s.storeXings ph occ = u) (ha : 3 ≤ s.fld pDawn DAWN.DAWN_STATUS_ATTEMPTS) :
    exec (.dawnMeasureEnd ph occ) s =
      .next (((u.dawnFail 2 x).setFld pDawn DAWN.DAWN_STATUS_UNALIGNED 1).incr pDawn DAWN.DAWN_COUNT_COUNT) := by
  refine (next_due hdue).trans ?_
  rw [hm, hu]
  exact if_neg (Nat.not_lt.mpr ha)

/-- No automatic dawn where the counters run, one has ended, or one runs (R147). -/
theorem State.autoDawn_ignored (h : s.tb.running = true ∨ s.tb.dawned = true ∨ s.tb.dawn ≠ 0) : s.autoDawn = s :=
  if_pos (by simpa [or_assoc] using h)

theorem State.autoDawn_starts (hrun : s.tb.running = false) (hdone : s.tb.dawned = false) (hdawn : s.tb.dawn = 0) :
    s.autoDawn = (({ s with tb := { s.tb with dawn := 2, dawnAuto := true, dawnAt := s.tb.beat } } : State).setFld pDawn
      DAWN.DAWN_STATUS_STATE 2).setFld pDawn DAWN.DAWN_STATUS_ATTEMPTS 0 :=
  if_neg (by simp [hrun, hdone, hdawn])

end Dawn

/-- Settles O14: a lemma for each outcome of a command of the counter and for each step of the dawn. -/
theorem counterAndDawnComplete : Obligations.CounterAndDawnComplete := by
  refine ⟨fun s a both via => execSidLoRead_served, fun s a via => execSidHiRead_served, ?load,
    fun s v b rest hload => ⟨execCounterLoadApply_due hload, execCounterLoadApply_early hload⟩, ?request, ?early,
    fun s => execDawnDrainCheck_empty, fun s x xs hdue => execDawnDrainCheck_notEmpty hdue x xs,
    fun s hdue => next_due hdue, fun s c hdue => execDawnRelease_due hdue, ?measured, ?lock⟩
  case load =>
    intro s a v hs hpair
    rw [execLoadGo_served hs]
    refine ⟨fun hv hmotor hrun hout haxis halm => ?accepted, fun hv => ?past⟩
    case accepted =>
      have hr : (s.answer [0]).loadRefusal v = 0 := State.loadRefusal_none hv hmotor hrun hout haxis halm
      exact congrArg Host.Outcome.next (State.loadGo_accepted hpair hr)
    case past =>
      have hr : (s.answer [0]).loadRefusal v = 2 := State.loadRefusal_past hv
      exact congrArg Host.Outcome.next (State.loadGo_refused hpair hr (by decide))
  case request =>
    intro s a hs
    rw [execDawnReq_served hs]
    exact ⟨fun hr => congrArg Host.Outcome.next (State.dawnReq_accepted (s := s.answer [0]) hr),
      fun hr => congrArg Host.Outcome.next (State.dawnReq_refused (s := s.answer [0]) hr)⟩
  case early =>
    intro s hearly xs ph occ
    have hnot := State.dawnDue_early hearly
    exact ⟨next_notDue (hnot 1), next_notDue (hnot 2), next_notDue (hnot 3), next_notDue (hnot 4)⟩
  case measured =>
    intro s u ph occ hdue hu
    exact ⟨fun hm => execDawnMeasureEnd_done hdue hm hu,
      fun x xs hm => ⟨execDawnMeasureEnd_retry hdue hm hu, execDawnMeasureEnd_fail hdue hm hu⟩⟩
  case lock =>
    intro s
    exact ⟨fun h => congrArg Host.Outcome.next (State.autoDawn_ignored (s := s.setFld _ _ _) h),
      fun hrun hdone hdawn => congrArg Host.Outcome.next
        (State.autoDawn_starts (s := s.setFld pRefmon REFMON.STATUS_PLL_LOCK 1) hrun hdone hdawn)⟩

end Sys2Proof.Machine

/-!
The almanac: fields, arming, cancelling, locking and applying an entry (R123 to R127, R149, R597, R658).
-/

namespace Sys2Proof.Machine

/-! ### The entry that ALM_SEL selects -/

section Selected

variable {s : State} {a : Acc} {via : Option (Fin 8)} {hh k : Nat}

/-- A served access to the selected entry, which through an HH page is the household's own, acts on that entry (R658). -/
theorem almAccess_served {i : Instr} {off : Nat} {f : State → Nat → State}
    (hown : ∀ h, via = some h → (s.almEntry (s.almSel via)).owner = h.val)
    (hs : s.serves a (timePage via) (if via.isSome then off - 0x0C else off) true = true) :
    s.almAccess i a via off f = f (s.answer [0]) (s.almSel via) := by
  cases via with
  | none => exact access_served hs
  | some h => exact (access_served hs).trans (if_pos (hown h rfl))

theorem State.almSoftField_mine {viaHh : Bool} {reg w : Nat} (hmine : s.almMine k = true) :
    s.almSoftField hh viaHh reg w k = s.almFieldWrite hh viaHh reg w k := if_pos hmine

/-- Off the constellation root software arms by R123 alone. -/
theorem State.almSoftArm_mine (hmine : s.almMine k = true) (hroot : s.constRoot = false) :
    s.almSoftArm hh k = s.almArm hh k :=
  (if_pos hmine).trans (if_neg (by simp [hroot]))

theorem State.almSoftCancel_mine (hmine : s.almMine k = true) (hroot : s.constRoot = false) :
    s.almSoftCancel hh k = s.almCancel hh k :=
  (if_pos hmine).trans (if_neg (by simp [hroot]))

variable (hmine : s.almMine (s.almSel via) = true)
  (hown : ∀ h, via = some h → (s.almEntry (s.almSel via)).owner = h.val)

include hmine hown

theorem execAlmFieldWrite_served {reg : Fin 4} {w : Word} (hs : s.serves a (timePage via)
    (if via.isSome then 0x10C + 4 * reg.val else 0x118 + 4 * reg.val) true = true) :
    exec (.almFieldWrite a via reg w) s =
      .next ((s.answer [0]).almFieldWrite a.hh via.isSome reg w.toNat (s.almSel via)) := by
  have hoff : 0x10C + 4 * reg.val = 0x118 + 4 * reg.val - 0x0C := by omega
  rw [hoff] at hs
  exact congrArg Host.Outcome.next ((almAccess_served hown hs).trans (State.almSoftField_mine hmine))

variable (hroot : s.constRoot = false)
  (hs : s.serves a (timePage via) (if via.isSome then 0x11C else 0x128) true = true)

include hroot hs

theorem execAlmArm_served : exec (.almArm a via) s = .next ((s.answer [0]).almArm a.hh (s.almSel via)) :=
  congrArg Host.Outcome.next ((almAccess_served (off := 0x128) hown hs).trans (State.almSoftArm_mine hmine hroot))

theorem execAlmCancel_served : exec (.almCancel a via) s = .next ((s.answer [0]).almCancel a.hh (s.almSel via)) :=
  congrArg Host.Outcome.next ((almAccess_served (off := 0x128) hown hs).trans (State.almSoftCancel_mine hmine hroot))

end Selected

/-! ### Arming and cancelling -/

section Arm

variable {s : State} {hh k : Nat}

theorem State.almArm_armed (harmed : (s.almEntry k).armed = true) : s.almArm hh k = s := if_pos harmed

theorem State.almArm_bad (harmed : (s.almEntry k).armed = false) (hbad : (s.almEntry k).bad = true) :
    s.almArm hh k = s.raiseBy pTime TIME.evALM_BAD hh :=
  (if_neg (Bool.eq_false_iff.mp harmed)).trans (if_pos hbad)

/-- A good entry that is not armed is armed by its distance from the count alone. -/
theorem State.almArm_good (harmed : (s.almEntry k).armed = false) (hbad : (s.almEntry k).bad = false) :
    s.almArm hh k = if (s.almEntry k).mer < s.tb.count + 256 then
      if (s.almEntry k).late = 0 then
        (s.setAlm k { s.almEntry k with st := 4, applied := s.tb.count }).raiseBy pTime TIME.evMERIDIAN_PAST hh
      else (s.setAlm k { s.almEntry k with st := 1, now := some (s.tb.beat + 1) }).raiseBy pTime TIME.evMERIDIAN_LATE hh
    else s.setAlm k { s.almEntry k with st := 1, now := none } :=
  (if_neg (Bool.eq_false_iff.mp harmed)).trans (if_neg (Bool.eq_false_iff.mp hbad))

theorem AlmEntry.armed_of_almLocked {e : AlmEntry} (hlocked : s.almLocked e = true) : e.armed = true := by
  simp only [State.almLocked, Bool.or_eq_true, Bool.and_eq_true] at hlocked
  rcases hlocked with hlocked | ⟨⟨harmed, -⟩, -⟩
  · simp [AlmEntry.armed, hlocked]
  · simp [AlmEntry.armed, harmed]

theorem State.almCancel_armed (hst : (s.almEntry k).st = 1) (hfree : s.almLocked (s.almEntry k) = false) :
    s.almCancel hh k = s.setAlm k { s.almEntry k with st := 6, now := none } :=
  if_pos ⟨hst, by simp [hfree]⟩

theorem State.almCancel_locked (hlocked : s.almLocked (s.almEntry k) = true) :
    s.almCancel hh k = s.raiseBy pTime TIME.evALM_LOCKED hh :=
  (if_neg (by simp [hlocked])).trans (if_pos (AlmEntry.armed_of_almLocked hlocked))

end Arm

/-! ### Locking and applying -/

section Apply

variable {s : State} {k : Fin 64} {e : AlmEntry}

/-- From 256 st before its meridian an ARMED entry locks and is offered to its nodes (R124, R440). -/
theorem execAlmLock_due (hst : (s.almEntry k).st = 1) (hnow : (s.almEntry k).now = none)
    (hmer : (s.almEntry k).mer ≤ s.tb.count + 256) : exec (.almLock k) s =
    .next ((s.almNodes (s.almEntry k)).foldl (fun t n => t.offerEntry k (s.almEntry k) n)
      (s.setAlm k { s.almEntry k with st := 2 })) :=
  if_pos ⟨hst, by simp [State.almLocked, hst, hnow, hmer]⟩

theorem State.almDue_of_time (harmed : e.armed = true)
    (hdue : (∃ b, e.now = some b ∧ b ≤ s.tb.beat) ∨ (e.now = none ∧ e.mer ≤ s.tb.count)) : s.almDue e = true := by
  rcases hdue with ⟨b, hnow, hb⟩ | ⟨hnow, hmer⟩
  · simp [State.almDue, harmed, hnow, hb]
  · simp [State.almDue, harmed, hnow, hmer]

theorem execAlmApply_due (he : s.almEntry k = e) (hdue : s.almDue e = true) (hfirst : s.almBehind k e = false) :
    exec (.almApply k) s = .next (s.almFire k e) := by
  subst he
  exact congrArg Host.Outcome.next (if_pos (by simp [hdue, hfirst]))

theorem State.almFire_denied {k : Nat} (howner : e.owner ≠ 15) (hown : s.almOwned e = false) : s.almFire k e =
    ((s.setAlm k { e with st := 5, applied := s.tb.count, now := none }).almDenial e.owner).raiseBy pTime
      TIME.evALM_DENIED e.owner :=
  if_pos ⟨howner, by simp [hown]⟩

/-- An entry of the manager, or one whose owner owns all it acts on, acts where it has a target (R126). -/
theorem State.almFire_owned {k : Nat} (hown : e.owner = 15 ∨ s.almOwned e = true) : s.almFire k e =
    ((s.setAlm k { e with st := 3, applied := s.tb.count, now := none }).almAct e).getD
      ((s.setAlm k { e with st := 7, applied := s.tb.count, now := none }).raise pTime TIME.evALM_NO_TARGET) := by
  have hgrant : ¬ (e.owner ≠ 15 ∧ (!s.almOwned e) = true) := by
    rcases hown with h | h <;> simp [h]
  refine (if_neg hgrant).trans ?_
  cases (s.setAlm k { e with st := 3, applied := s.tb.count, now := none }).almAct e <;> rfl

end Apply

/-- Settles O15: a served access acts on the selected entry (`almAccess_served`); then a lemma for each outcome. -/
theorem almanacCommandsComplete : Obligations.AlmanacCommandsComplete := by
  refine ⟨?selected, fun s k => execAlmLock_due, ?apply⟩
  case selected =>
    rintro s a via k rfl hmine hroot hown
    refine ⟨fun reg w hs => execAlmFieldWrite_served hmine hown hs, fun hs => ?_⟩
    rw [execAlmArm_served hmine hown hroot hs, execAlmCancel_served hmine hown hroot hs]
    refine ⟨fun harmed => congrArg Host.Outcome.next (State.almArm_armed harmed), fun harmed =>
        ⟨fun hbad => congrArg Host.Outcome.next (State.almArm_bad harmed hbad), fun hbad hfar => ?far,
          fun hbad hnear hlate => ?past, fun hbad hnear hlate => ?late⟩,
      fun hst hfree => congrArg Host.Outcome.next (State.almCancel_armed (s := s.answer [0]) hst hfree),
      fun hlocked => congrArg Host.Outcome.next (State.almCancel_locked (s := s.answer [0]) hlocked)⟩
    all_goals refine congrArg Host.Outcome.next ((State.almArm_good (s := s.answer [0]) harmed hbad).trans ?_)
    case far => exact if_neg (Nat.not_lt.mpr hfar)
    case past => exact (if_pos hnear).trans (if_pos hlate)
    case late => exact (if_pos hnear).trans (if_neg hlate)
  case apply =>
    intro s k e he harmed hdue hfirst
    rw [execAlmApply_due he (State.almDue_of_time harmed hdue) hfirst]
    refine ⟨fun howner hown => congrArg Host.Outcome.next (State.almFire_denied howner hown), fun hown => ?_⟩
    rw [State.almFire_owned hown]
    exact ⟨fun t ht => by rw [ht, Option.getD_some], fun hnone => by rw [hnone, Option.getD_none]⟩

end Sys2Proof.Machine

/-!
The reference monitor (R128, R130, R131, R137, R138, R140, R142, R144, R146).
-/

namespace Sys2Proof.Machine

section Refmon

variable {s : State}

theorem State.holdover_enters (h : s.on pRefmon REFMON.STATUS_HOLDOVER = false) : s.holdover =
    ((({ s with tb := { s.tb with discard := true } } : State).setFld pRefmon REFMON.STATUS_HOLDOVER 1).setFld pRefmon
      REFMON.STATUS_REF_SUSPECT 1).setFld pRefmon REFMON.HOLD_WINDOWS_COUNT 0 :=
  if_neg (Bool.eq_false_iff.mp h)

theorem State.holdover_runs (h : s.on pRefmon REFMON.STATUS_HOLDOVER = true) :
    s.holdover = s.setFld pRefmon REFMON.STATUS_REF_SUSPECT 1 :=
  if_pos h

theorem execRefLoss_selected (hsel : s.fld pRefmon REFMON.REF_ACTIVE_SOURCE ≠ 0xE) :
    exec .refLoss s = .next (s.holdover.raise pRefmon REFMON.evREF_LOSS) :=
  congrArg Host.Outcome.next (if_neg hsel)

theorem execRefLoss_none (hsel : s.fld pRefmon REFMON.REF_ACTIVE_SOURCE = 0xE) : exec .refLoss s = .next s :=
  congrArg Host.Outcome.next (if_pos hsel)

theorem execPllUnlock_enters (hsel : s.fld pRefmon REFMON.REF_ACTIVE_SOURCE ≠ 0xE)
    (hhold : s.on pRefmon REFMON.STATUS_HOLDOVER = false) : exec .pllUnlock s =
    .next (((s.setFld pRefmon REFMON.STATUS_PLL_LOCK 0).raise pRefmon REFMON.evPLL_UNLOCK).holdover) :=
  congrArg Host.Outcome.next (if_neg (by simp [hsel, hhold]))

theorem execPllUnlock_only (h : s.on pRefmon REFMON.STATUS_HOLDOVER = true ∨
    s.fld pRefmon REFMON.REF_ACTIVE_SOURCE = 0xE) :
    exec .pllUnlock s = .next (s.setFld pRefmon REFMON.STATUS_PLL_LOCK 0) :=
  congrArg Host.Outcome.next (if_pos h)

theorem execRefFallback_ignored
    (h : s.on pRefmon REFMON.STATUS_PLL_LOCK = true ∨ s.tb.running = true ∨ 3 ≤ s.tb.fallback) :
    exec .refFallback s = .next s :=
  if_pos h

/-- Before any lock the references are tried in turn: XTAL, REFIN, then the oscillator (R146). -/
theorem execRefFallback_tries {n : Nat} (hlock : s.on pRefmon REFMON.STATUS_PLL_LOCK = false)
    (hrun : s.tb.running = false) (hn : s.tb.fallback = n) (hlast : n < 3) {t : State}
    (ht : ({ s with tb := { s.tb with fallback := n + 1 } } : State) = t) : exec .refFallback s =
    .next (if n = 0 then ((t.setFld pRefmon REFMON.REF_ACTIVE_SOURCE 0).setFld pRefmon REFMON.STATUS_FALLBACK 1).raise
        pRefmon REFMON.evREF_FALLBACK
      else if n = 1 then t.setFld pRefmon REFMON.REF_ACTIVE_SOURCE 1
      else (((t.setFld pRefmon REFMON.REF_ACTIVE_SOURCE 0xE).setFld pRefmon REFMON.STATUS_NO_REF 1).condition pRefmon
        REFMON.evNO_REF true).autoDawn) := by
  subst hn ht
  rw [apply_ite Host.Outcome.next, apply_ite Host.Outcome.next]
  exact if_neg (by simp [hlock, hrun, hlast])

end Refmon

/-- Settles O16: the window end with its parts named; losses by what `State.holdover` does; the fallback by how many
references have been tried. -/
theorem referenceMonitorCompletes : Obligations.ReferenceMonitorCompletes := by
  refine ⟨?window, ?enters, ?stays, ?fallback, fun s => rfl⟩
  case window =>
    rintro s u ms sel m l E un ok rfl rfl rfl hest rfl
    obtain ⟨rfl, rfl, rfl⟩ : _ = E ∧ _ = un ∧ _ = ok := by simpa only [Prod.ext_iff] using hest
    rfl
  case enters =>
    intro s hsel hhold
    refine ⟨?_, execPllUnlock_enters hsel hhold⟩
    rw [execRefLoss_selected hsel, State.holdover_enters hhold]
  case stays =>
    refine fun s => ⟨execRefLoss_none, fun hsel hhold => ?_, execPllUnlock_only⟩
    rw [execRefLoss_selected hsel, State.holdover_runs hhold]
  case fallback =>
    have htry {s : State} {n : Nat} (hlast : n < 3) hlock hrun hn :=
      execRefFallback_tries (s := s) (n := n) hlock hrun hn hlast rfl
    exact fun s => ⟨execRefFallback_ignored, fun hlock hrun =>
      ⟨htry (by decide) hlock hrun, htry (by decide) hlock hrun, htry (by decide) hlock hrun⟩⟩

end Sys2Proof.Machine

/-!
The canonical form through every step (R743); and the event and error registers, the shadows and the lock of a page's header
(R178 to R181, R184, R185, R682).
-/

namespace Sys2Proof.Machine

/-! ### The canonical form -/

/-- What every command keeps is the canonical form, and more. -/
theorem State.Ok.canon {q : List Instr} {σ : Silicon × Option Weigh} {s : State} (h : s.Ok q σ) : s.canon = true := by
  simp only [State.canon, Memory.wf, h.regs, h.shadows, h.live, h.alm, h.mem, h.tile, h.req, h.rsp, Bool.and_self]

/-- Settles O5: the canonical form is part of `State.Ok`, which holds of it and which every command keeps (`step_okAny`). -/
theorem stepKeepsCanonical : Obligations.StepKeepsCanonical :=
  fun _ t hc hst => (step_okAny hc t hst).canon

/-! ### The first error of a page (R180, R181) -/

section ErrorCapture

variable {s : State} {p : Nat} {e : Ev} {hh : Nat}

/-- A field of the page after a write of another of its fields. -/
theorem State.fld_setFld_otherField {f g : Fld} (v : Nat) (hne : f.bit ≠ g.bit) (hf : f.bit < 32768 := by decide)
    (hg : g.bit < 32768 := by decide) : (s.setFld p g v).fld p f = s.fld p f :=
  State.fld_setFld_ne s v (regKey_ne hf hg (.inr hne))

theorem State.occur_tb (n : Nat) : (s.occur p n).tb = s.tb := by
  rw [State.occur]
  split <;> rfl

/-- An occurrence leaves every field of the page but EVT_RAW and EVT_PEND. -/
theorem State.fld_occur_otherField {f : Fld} (n : Nat) (hraw : f.bit ≠ HDR.EVT_RAW_RAW.bit)
    (hpend : f.bit ≠ HDR.EVT_PEND_PEND.bit) (hf : f.bit < 32768) : (s.occur p n).fld p f = s.fld p f := by
  have h1 := State.fld_setFld_otherField (s := s) (p := p) (setBit (s.fld p HDR.EVT_RAW_RAW) n) hraw hf
  rw [State.occur]
  split
  case isTrue => rw [State.fld_setFld_otherField _ hpend hf, h1]
  case isFalse => exact h1

/-- ERR_CLR zeroes ERR_FIRST and every field of ERR_COUNT (R181). -/
theorem State.fld_errClr (h : Tab.risesFrom 0 s.regs = true) :
    (s.errClr p).fld p HDR.ERR_FIRST_STAMP_LO = 0 ∧ (s.errClr p).fld p HDR.ERR_COUNT_FIRST_CODE = 0 ∧
      (s.errClr p).fld p HDR.ERR_COUNT_FIRST_HH = 0 ∧ (s.errClr p).fld p HDR.ERR_COUNT_COUNT = 0 := by
  have h1 := State.regs_set_rises s p HDR.ERR_FIRST_STAMP_LO 0 h
  have h2 := State.regs_set_rises _ p HDR.ERR_COUNT_FIRST_CODE 0 h1
  have h3 := State.regs_set_rises _ p HDR.ERR_COUNT_FIRST_HH 0 h2
  unfold State.errClr
  refine ⟨?stamp, ?code, ?household, State.fld_setFld_self _ _ _ _ h3⟩
  case stamp =>
    rw [State.fld_setFld_otherField _ (by decide), State.fld_setFld_otherField _ (by decide),
      State.fld_setFld_otherField _ (by decide), State.fld_setFld_self _ _ _ _ h, Nat.zero_mod]
  case code =>
    rw [State.fld_setFld_otherField _ (by decide), State.fld_setFld_otherField _ (by decide),
      State.fld_setFld_self _ _ _ _ h1, Nat.zero_mod]
  case household =>
    rw [State.fld_setFld_otherField _ (by decide), State.fld_setFld_self _ _ _ _ h2, Nat.zero_mod]

/-- An error of a page that has counted none is its first: a field reads as after the capture's four writes (R180). -/
theorem State.fld_recordErr_of_none (hcount : s.fld p HDR.ERR_COUNT_COUNT = 0) (f : Fld) :
    (s.recordErr p e hh).fld p f = ((((s.setFld p HDR.ERR_COUNT_COUNT 1).setFld p HDR.ERR_FIRST_STAMP_LO
      (s.tb.count % 2 ^ 32)).setFld p HDR.ERR_COUNT_FIRST_CODE e.code).setFld p HDR.ERR_COUNT_FIRST_HH hh).fld p f := by
  have hone : satAdd HDR.ERR_COUNT_COUNT.width 0 1 = 1 := by decide
  simp only [State.recordErr, State.bump, hcount, hone, beq_self_eq_true, Bool.true_or, if_true]
  rfl

/-- What the capture of a first error reads. -/
theorem State.fld_recordErr_first (h : Tab.risesFrom 0 s.regs = true) (hcount : s.fld p HDR.ERR_COUNT_COUNT = 0) :
    (s.recordErr p e hh).fld p HDR.ERR_FIRST_STAMP_LO = s.tb.count % 2 ^ 32 ∧
      (s.recordErr p e hh).fld p HDR.ERR_COUNT_FIRST_CODE = e.code % 2 ^ 8 ∧
      (s.recordErr p e hh).fld p HDR.ERR_COUNT_FIRST_HH = hh % 2 ^ 4 ∧
      (s.recordErr p e hh).fld p HDR.ERR_COUNT_COUNT = 1 := by
  have h1 := State.regs_set_rises s p HDR.ERR_COUNT_COUNT 1 h
  have h2 := State.regs_set_rises _ p HDR.ERR_FIRST_STAMP_LO (s.tb.count % 2 ^ 32) h1
  have h3 := State.regs_set_rises _ p HDR.ERR_COUNT_FIRST_CODE e.code h2
  simp only [State.fld_recordErr_of_none hcount]
  refine ⟨?stamp, ?code, State.fld_setFld_self _ _ _ _ h3, ?count⟩
  case stamp =>
    rw [State.fld_setFld_otherField _ (by decide), State.fld_setFld_otherField _ (by decide),
      State.fld_setFld_self _ _ _ _ h1]
    exact Nat.mod_mod _ _
  case code =>
    rw [State.fld_setFld_otherField _ (by decide), State.fld_setFld_self _ _ _ _ h2]
    rfl
  case count =>
    rw [State.fld_setFld_otherField _ (by decide), State.fld_setFld_otherField _ (by decide),
      State.fld_setFld_otherField _ (by decide), State.fld_setFld_self _ _ _ _ h]
    rfl

/-- What the capture reads after an error of a page that has counted none. -/
theorem State.fld_raiseBy_first {q : List Instr} {σ : Silicon × Option Weigh} (h : s.Ok q σ)
    (hcount : s.fld p HDR.ERR_COUNT_COUNT = 0) (hcode : 0 < e.code) :
    (s.raiseBy p e hh).fld p HDR.ERR_FIRST_STAMP_LO = s.tb.count % 2 ^ 32 ∧
      (s.raiseBy p e hh).fld p HDR.ERR_COUNT_FIRST_CODE = e.code % 2 ^ 8 ∧
      (s.raiseBy p e hh).fld p HDR.ERR_COUNT_FIRST_HH = hh % 2 ^ 4 ∧
      (s.raiseBy p e hh).fld p HDR.ERR_COUNT_COUNT = 1 := by
  have hraise : s.raiseBy p e hh = (s.occur p e.bit).recordErr p e hh := if_neg (Nat.ne_of_gt hcode)
  have hcount' : (s.occur p e.bit).fld p HDR.ERR_COUNT_COUNT = 0 := by
    rw [State.fld_occur_otherField _ (by decide) (by decide) (by decide), hcount]
  rw [hraise, ← State.occur_tb (s := s) (p := p) e.bit]
  exact State.fld_recordErr_first (State.occur_ok h).regs hcount'

end ErrorCapture

/-! ### The served writes of the header -/

section Header

variable {s : State} {a : Acc} {p : Fin 512} {w : Word}

theorem execEvtPendClear_served (hs : s.serves a p 0x01C true = true) :
    exec (.evtPendClear a p w) s = .next ((s.answer [0]).pendClear p w.toNat) :=
  congrArg Host.Outcome.next (access_served hs)

theorem execEvtEnWrite_served (hs : s.serves a p 0x018 true = true) :
    exec (.evtEnWrite a p w) s = .next ((s.answer [0]).evtEnable p w.toNat) :=
  congrArg Host.Outcome.next (access_served hs)

theorem execEvtForce_served (hs : s.serves a p 0x020 true = true) :
    exec (.evtForce a p w) s = .next ((s.answer [0]).evtForce p w.toNat) :=
  congrArg Host.Outcome.next (access_served hs)

theorem execErrClr_served (hs : s.serves a p 0x00C true = true) :
    exec (.errClr a p) s = .next ((s.answer [0]).errClr p) :=
  congrArg Host.Outcome.next (access_served hs)

theorem execShadowDiscard_served (hs : s.serves a p 0x034 true = true) :
    exec (.shadowDiscard a p) s = .next ((s.answer [0]).dropShadows p) :=
  congrArg Host.Outcome.next (access_served hs)

theorem execPageLockSet_served (hs : s.serves a p 0x02C true = true) (ha : a.hh = 15) :
    exec (.pageLockSet a p) s = .next ((s.answer [0]).lockPage p) :=
  congrArg Host.Outcome.next (mgr_served hs ha)

end Header

/-- Settles O10: `State.fld_errClr`, and then `State.fld_raiseBy_first` of the state that ERR_CLR leaves. -/
theorem errClrRule : Obligations.ErrClrRule := by
  intro s a p hcanon hs
  have hok := State.answer_ok (data := [0]) (State.ok_of_canon hcanon)
  obtain ⟨hstamp, hcode, hhh, hcount⟩ := State.fld_errClr (p := p) hok.regs
  refine ⟨_, execErrClr_served hs, hstamp, hcode, hhh, hcount, ?next⟩
  case next =>
    rintro e hh he he' hh' _ rfl
    obtain ⟨hstamp', hcode', hhh', hcount'⟩ := State.fld_raiseBy_first (State.errClr_ok hok) hcount he
    exact ⟨hstamp', hcode'.trans (Nat.mod_eq_of_lt he'), hhh'.trans (Nat.mod_eq_of_lt hh'), hcount'⟩

/-- Settles O12: each command is its operation on the page, where the access is served. -/
theorem headerEventWritesComplete : Obligations.HeaderEventWritesComplete :=
  fun _ _ _ _ => ⟨execEvtPendClear_served, execEvtEnWrite_served, execEvtForce_served, execErrClr_served,
    execShadowDiscard_served, execPageLockSet_served⟩

end Sys2Proof.Machine

/-!
The page controls: EN, SRST, BOUNDARY and OWNER (R175, R176, R183, R187, R741).
-/

namespace Sys2Proof.Machine

/-! ### What the controls do to a page -/

section PageControl

variable {s : State} {p : Nat} {b : Blk}

theorem State.setEnable_of_blk (hb : s.blk p = some b) (en : Bool) : s.setEnable p en =
    if b.enCtl = true ∧ s.on p HDR.PAGE_CTRL_EN ≠ en
      then (s.setFld p HDR.PAGE_CTRL_EN (b2n en)).blockEnable p else s := by
  simp only [State.setEnable, hb, Bool.and_eq_true, bne_iff_ne]

theorem State.softReset_without (hb : s.blk p = some b) (hen : b.enCtl = false) : s.softReset p = s := by
  simp only [State.softReset, hb, hen, Bool.false_eq_true, if_false]

/-- A page is in a list that it has been added to where it was missing. -/
theorem mem_added (l : List Nat) (p : Nat) : p ∈ if l.contains p = true then l else l ++ [p] := by
  split
  case isTrue h => exact List.contains_iff_mem.mp h
  case isFalse => exact List.mem_append_right _ (List.mem_singleton_self p)

/-- A soft reset leaves the page busy (R187). -/
theorem State.mem_srstBusy_softReset (hb : s.blk p = some b) (hen : b.enCtl = true) : p ∈ (s.softReset p).srstBusy := by
  simp only [State.softReset, hb, hen, if_true]
  exact mem_added _ p

/-- A value that OWNER accepts, written to a page of kind P (R175, R176): a TILE page may take a tile of a run (Table
10.8). -/
theorem State.setOwner_takes {v : Nat} (hb : s.blk p = some b) (hown : b.own = .p) (hv : v < 8 ∨ v = 15) :
    s.setOwner p v = (ownerGroup p).foldl (fun t q => t.setFld q (HDR.owner q) v)
      (if b = .tile ∧ s.owner p ≠ v then s.tileLost (s.owner p) else s) := by
  simp only [State.setOwner, hb, hown, hv, and_self, if_true]

end PageControl

/-! ### The commands -/

section PageCommands

variable {s : State} {a : Acc} {p : Fin 512}

theorem execPageEnable_served {en : Bool} (hs : s.serves a p 0x00C true = true) :
    exec (.pageEnable a p en) s = .next ((s.answer [0]).setEnable p en) :=
  congrArg Host.Outcome.next (access_served hs)

theorem execPageSrst_served (hs : s.serves a p 0x00C true = true) :
    exec (.pageSrst a p) s = .next ((s.answer [0]).softReset p) :=
  congrArg Host.Outcome.next (access_served hs)

theorem execShadowBoundaryWrite_served {v : Fin 4} (hs : s.serves a p 0x034 true = true) :
    exec (.shadowBoundaryWrite a p v) s = .next ((s.answer [0]).setBoundary p v) :=
  congrArg Host.Outcome.next (access_served hs)

/-- On the tick of the request PAGE_SRST_DONE does nothing (R187). -/
theorem execPageSrstDone_early (h : Tab.lookup s.srstAt p = some s.tb.beat) : exec (.pageSrstDone p) s = .next s :=
  if_pos h

/-- On any other tick PAGE_SRST_DONE ends the page's soft reset, and no other page's (R187). -/
theorem execPageSrstDone_ends (h : Tab.lookup s.srstAt p ≠ some s.tb.beat) :
    exec (.pageSrstDone p) s = .next { s with srstBusy := s.srstBusy.filter (fun q => q != p.val) } :=
  if_neg h

end PageCommands

/-- Settles O13: each command's operation where the access is served, by the block that the page carries. -/
theorem pageControlCompletes : Obligations.PageControlCompletes := by
  intro s a p b hb
  have hb' : (s.answer [0]).blk p = some b := hb
  refine ⟨?enable, ?srst, ?srstWithout, ?srstDone, execPageSrstDone_early, ?boundary, ?owner, ?ownerIgnored⟩
  case enable =>
    intro en hs
    rw [execPageEnable_served hs, State.setEnable_of_blk hb']
    rfl
  case srst =>
    intro hs hen
    exact ⟨_, execPageSrst_served hs, rfl, State.mem_srstBusy_softReset hb' hen⟩
  case srstWithout =>
    intro hs hen
    rw [execPageSrst_served hs, State.softReset_without hb' hen]
  case srstDone =>
    intro hlater
    refine ⟨_, execPageSrstDone_ends hlater, by simp, rfl, fun q hq => by simp [hq]⟩
  case boundary =>
    intro v hs
    rw [execShadowBoundaryWrite_served hs, State.setBoundary]
    simp only [Fin.ext_iff, Fin.val_zero]
    rfl
  case owner =>
    intro v hs ha hown hv
    rw [execOwnerWrite_served hs ha, State.setOwner_takes hb' hown (hv.imp_right (congrArg Fin.val))]
    rfl
  case ownerIgnored =>
    intro v hs ha h
    have hnot : ¬ (b.own = .p ∧ (v.val < 8 ∨ v.val = 15)) := by
      rintro ⟨hown, hv⟩
      rcases h with hother | hreserved
      · exact hother hown
      · omega
    rw [execOwnerWrite_served hs ha, State.setOwner_ignored hb' hnot]

end Sys2Proof.Machine

/-!
AGE_PROMOTE and TIMEOUT, the registers of the matrix that clamp (R190).
-/

namespace Sys2Proof.Machine

/-! ### A register of one field that clamps -/

section Clamp

variable {s : State} {p w lo hi b : Nat} {f : Fld}

/-- A register of one field that clamps: the value is stored, or the nearer bound with its CLAMP_STATUS bit set. -/
theorem State.writeFields_clamped (hkind : f.kind = .rw) (hlk : f.lk = false) (hrange : f.range = none)
    (hclamp : f.clamp = some (lo, hi, b)) : s.writeFields p [f] w =
    if f.part w < lo ∨ hi < f.part w then (s.setFld p f (clampNat lo hi (f.part w))).clampBit p b
    else s.setFld p f (clampNat lo hi (f.part w)) := by
  by_cases hout : f.part w < lo ∨ hi < f.part w
  all_goals
    simp only [State.writeFields, State.writeField, State.writeRw, Fld.stored, Fld.clampHit, hkind, hlk, hrange, hclamp,
      List.foldl_cons, List.foldl_nil, List.any_cons, List.any_nil, Bool.false_and, Bool.or_false, Bool.false_eq_true,
      hout, if_true, if_false]
    rfl

/-- What such a write leaves in the field, in CLAMP_STATUS and on the other pages. -/
theorem State.fld_writeFields_clamped (hregs : Tab.risesFrom 0 s.regs = true) (hkind : f.kind = .rw)
    (hlk : f.lk = false) (hrange : f.range = none) (hclamp : f.clamp = some (lo, hi, b)) (hf : f.bit < 32768)
    (hne : f.bit ≠ HDR.CLAMP_STATUS_CLAMP.bit) :
    (s.writeFields p [f] w).fld p f = clampNat lo hi (f.part w) % 2 ^ f.width ∧
    (s.writeFields p [f] w).fld p HDR.CLAMP_STATUS_CLAMP = (if f.part w < lo ∨ hi < f.part w then
      setBit (s.fld p HDR.CLAMP_STATUS_CLAMP) b % 2 ^ 32 else s.fld p HDR.CLAMP_STATUS_CLAMP) ∧
    ∀ (q : Nat) (g : Fld), g.bit < 32768 → q ≠ p → (s.writeFields p [f] w).fld q g = s.fld q g := by
  have hregs' := State.regs_set_rises s p f (clampNat lo hi (f.part w)) hregs
  have hself := State.fld_setFld_self s p f (clampNat lo hi (f.part w)) hregs
  have hstatus := State.fld_setFld_otherField (s := s) (p := p) (clampNat lo hi (f.part w)) hne.symm (by decide) hf
  rw [State.writeFields_clamped hkind hlk hrange hclamp]
  split
  case isTrue =>
    refine ⟨?field, ?status, fun q g hg hq => ?other⟩
    case field => rw [State.clampBit, State.fld_setFld_otherField _ hne hf, hself]
    case status => rw [State.clampBit, State.fld_setFld_self _ _ _ _ hregs', hstatus]; rfl
    case other => rw [State.clampBit, fld_setFld_page _ _ hq (by decide) hg, fld_setFld_page _ _ hq hf hg]
  case isFalse => exact ⟨hself, hstatus, fun q g hg hq => fld_setFld_page _ _ hq hf hg⟩

end Clamp

/-! ### The registers of the matrix -/

section MatrixClamp

variable {s : State} {a : Acc} {v : BitVec 64}

/-- The bits of a 32-bit write are those of the value. -/
theorem bitsOf_mod_word (v : Nat) {hi : Nat} (h : hi < 32) : bitsOf (v % 2 ^ 32) hi 0 = bitsOf v hi 0 := by
  simp only [bitsOf, Nat.shiftRight_zero, Nat.sub_zero]
  exact Nat.mod_mod_of_dvd v (Nat.pow_dvd_pow 2 h)

/-- A served write by the manager of a register of the matrix page is its field writes (R171). -/
theorem execRegisterWrite_matrix {off : Fin 1024} {f : Fld} (ha : a.hh = 15) (hfab : a.fab = false)
    (hs : s.serves a pMatrix (4 * off) true = true) (hblock : 0x100 ≤ 4 * off.val)
    (hfields : regFields .matrix pMatrix (4 * off) = [f]) :
    exec (.registerWrite a (BitVec.ofNat 48 (regAddr pMatrix (4 * off))) false v) s =
      .next ((s.answer [0]).writeFields pMatrix [f] (v.toNat % 2 ^ 32)) := by
  have hblk : (s.answer [0]).blk pMatrix = some .matrix := by
    rw [State.blk, (by decide : inRange 0x138 8 pMatrix = false), Bool.and_false]
    rfl
  have hfree : s.stands (fun c => masksFault (regAddr pMatrix (4 * off)) && decide (c = .notifyReceive)) = false := by
    have hmask : masksFault (regAddr pMatrix (4 * off)) = false :=
      Bool.and_eq_false_iff.mpr (.inl (decide_eq_false (by simp only [regAddr, pMatrix, pFault]; omega)))
    exact stands_none fun c => by rw [hmask, Bool.false_and]
  have hallowed : (s.answer [0]).mgrDenied a.hh pMatrix [f] (v.toNat % 2 ^ 32) = false := by
    rw [State.mgrDenied, ha]
    rfl
  have hmine : (s.answer [0]).notMine pMatrix (4 * off) = false := rfl
  have hmask : (s.answer [0]).maskDenied a.hh pMatrix (4 * off) (v.toNat % 2 ^ 32) = false := rfl
  have hsingle : ¬ (1 : Nat) = 2 := by decide
  refine (execRegisterWrite_served (p := ⟨pMatrix, by decide⟩) hfab (.inr (by decide)) hs hfree).trans ?_
  simp only [State.regWrite, State.fieldsOf, hblk, hfields, hallowed, hmine, hmask, State.wordWrite, State.blockWrite,
    Nat.not_lt.mpr hblock, List.any_cons, List.any_nil, List.foldl_cons, List.foldl_nil, List.length_cons, List.length_nil,
    Bool.or_self, Bool.false_eq_true, if_false, Nat.zero_add, hsingle, false_and]

end MatrixClamp

theorem clampNat_eq {lo hi : Nat} (h : lo ≤ hi) (v : Nat) : clampNat lo hi v = max lo (min hi v) := by
  rw [clampNat]
  split
  case isTrue => omega
  case isFalse => split <;> omega

/-- Settles O11: a served write of either register is `State.writeFields` of its one field, which clamps. -/
theorem matrixClampRule : Obligations.MatrixClampRule := by
  rintro s a v c hcanon ha hfab rfl
  have hregs : Tab.risesFrom 0 (s.answer [0]).regs = true := (State.ok_of_canon hcanon).regs
  refine ⟨fun hs => ?age, fun hs => ?timeout⟩
  case age =>
    have hpart : MATRIX.AGE_PROMOTE_BEATS.part (v.toNat % 2 ^ 32) = bitsOf v.toNat 15 0 := bitsOf_mod_word _ (by decide)
    have hlt : bitsOf v.toNat 15 0 < 2 ^ 16 := Nat.mod_lt _ (by decide)
    obtain ⟨hfield, hstatus, hother⟩ := State.fld_writeFields_clamped (p := pMatrix) (w := v.toNat % 2 ^ 32)
      (f := MATRIX.AGE_PROMOTE_BEATS) hregs rfl rfl rfl rfl (by decide) (by decide)
    refine ⟨_, execRegisterWrite_matrix (off := 0x42) ha hfab hs (by decide) rfl, hfield.trans ?_, hstatus.trans ?_,
      hother⟩
    · rw [hpart, clampNat_eq (by decide), Nat.mod_eq_of_lt (by change _ < 2 ^ 16; omega), Nat.min_eq_right (by omega)]
    · have hbelow : (bitsOf v.toNat 15 0 < 256 ∨ 65535 < bitsOf v.toNat 15 0) = (bitsOf v.toNat 15 0 < 256) :=
        propext (by omega)
      simp only [hpart, hbelow]
      rfl
  case timeout =>
    have hpart : MATRIX.TIMEOUT_EXP.part (v.toNat % 2 ^ 32) = bitsOf v.toNat 4 0 := bitsOf_mod_word _ (by decide)
    obtain ⟨hfield, hstatus, hother⟩ := State.fld_writeFields_clamped (p := pMatrix) (w := v.toNat % 2 ^ 32)
      (f := MATRIX.TIMEOUT_EXP) hregs rfl rfl rfl rfl (by decide) (by decide)
    refine ⟨_, execRegisterWrite_matrix (off := 0x43) ha hfab hs (by decide) rfl, hfield.trans ?_, hstatus.trans ?_,
      hother⟩
    · rw [hpart, clampNat_eq (by decide), Nat.mod_eq_of_lt (by change _ < 2 ^ 5; omega)]
    · rw [hpart]
      rfl

end Sys2Proof.Machine

/-!
What the on-chip network sends (R159, R425, R427, R429, R430, R435, R437, R445, R448).
-/

namespace Sys2Proof.Machine

/-! ### Offers of an agent -/

section Inject

variable {s : State} {r : Fin 30} {agent : Fin 8} {w0 w1 w2 w3 : BitVec 64} {fs : List (BitVec 256)}

/-- In a dawn the offer is held for its end (R448). -/
theorem execPacketInject_held (hdawn : s.tb.dawn ≠ 0) : exec (.packetInject r agent w0 w1 w2 w3 fs) s =
    .next { s with held := s.held ++ [.packetInject r agent w0 w1 w2 w3 fs] } :=
  if_pos hdawn

variable {ak tag vc v u : Nat} {hh : Fin 16} {dst : Nat × Nat} {fab : Bool} {hdr : List Nat} {p : List Flit}
  (hmoves : s.nocMoves = true) (hdawn : s.tb.dawn = 0) (hagent : agent.val < agentsAt r) (hak : agentKey r agent = ak)
  (hfab : (bitsOf w1.toNat 47 38 != 0) = fab) (hhh : bitsOf w0.toNat 39 36 % 16 = hh.val)
  (hdst : s.requestDst ⟨masterOf (bitsOf w0.toNat 35 33), hh, 0, 0, fab⟩ (bitsOf w1.toNat 47 0) = dst)
  (hv : (if bitsOf w0.toNat 51 50 = 0 then dst.1 * 2 ^ 58 + w0.toNat % 2 ^ 58 else w0.toNat) = v)
  (hu : (if bitsOf w0.toNat 51 50 = 0 then dst.2 * 2 ^ 58 + w1.toNat % 2 ^ 58 else w1.toNat % 2 ^ 61) = u)
  (htag : bitsOf v 31 24 = tag) (hhdr : [s.sendW0 r v fs.length, agent.val * 2 ^ 61 + u, w2.toNat, w3.toNat] = hdr)
  (hvc : vcOf (bitsOf v 51 50) (bitsOf v 49 49) = vc) (hp : packetFlits hdr (fs.map (fun d => flitWords d.toNat)) fab = p)

include hmoves hdawn hagent hak hfab hhh hdst hv hu htag hhdr hvc hp

/-- The network moves: an offer of an agent that exists, by what it asks for and the slot that its TAG names (R435). -/
theorem execPacketInject_offers {asks : Bool}
    (hasks : (bitsOf v 51 50 == 0 && [1, 2, 4, 6].contains (bitsOf v 43 40)) = asks)
    (hslot : asks = true → tag < agentSlots r agent ∧ Tab.lookup s.noc.slots (256 * ak + tag) = none) :
    exec (.packetInject r agent w0 w1 w2 w3 fs) s = .next ((if asks = true then ({ s with noc := { s.noc with
      slots := (Tab.insert s.noc.slots (256 * ak + tag) ⟨bitsOf v 63 58, false, bitsOf v 39 36, s.tb.beat⟩) } } : State)
      else s).offer ak vc p) := by
  obtain rfl : hh = ⟨bitsOf w0.toNat 39 36 % 16, Nat.mod_lt _ (by decide)⟩ := Fin.ext hhh.symm
  have htaken : (asks && (decide (agentSlots r agent ≤ tag)
      || (Tab.lookup s.noc.slots (256 * ak + tag)).isSome)) = false := by
    cases asks
    case false => rfl
    case true => simp [hslot rfl]
  change execPacketInject r agent w0 w1 w2 w3 fs s = _
  simp only [execPacketInject, hdawn, hmoves, hfab, hdst, beq_iff_eq, hv, hu, hak, htag, hasks, hhdr, hvc, hp, htaken,
    Nat.not_le.mpr hagent, ne_eq, not_true_eq_false, if_false, Bool.not_true, decide_false, Bool.or_false,
    Bool.false_eq_true]

end Inject

/-! ### Tokens, router outputs, credits and stalls -/

section Router

variable {s : State} {r : Fin 30}

theorem execTokenGain_eq {agent : Fin 8} {ak next : Nat} {t : State} (hak : agentKey r agent = ak)
    (hnext : Tab.get 0 s.noc.gapFrom ak + s.fld pNoc NOC.TIMED_REG_GAP = next)
    (ht : (if s.tokens ak < (s.fld pNoc NOC.TIMED_REG_BURST : Nat) ∧ next ≤ s.tb.beat then
      ({ s with noc := { s.noc with gapFrom := Tab.set 0 s.noc.gapFrom ak next } } : State).setTokens ak (s.tokens ak + 1)
      else s) = t) :
    exec (.tokenGain r agent) s = .next (if t.nocMoves = true then t.payOffers ak t.noc.waiting.length else t) := by
  subst hak hnext ht
  change execTokenGain r agent s = _
  simp only [execTokenGain, Bool.and_eq_true, decide_eq_true_eq]

/-- No test of FLIT_FORWARD turns an output away that exists and has not decided on this beat (R430, R448). -/
theorem output_may_decide {out : Fin 6} (hmoves : s.nocMoves = true) (hport : out.val = 5 ∨ portPresent r out = true)
    (hbeat : Tab.get 0 s.noc.decided (8 * r.val + out.val) ≠ s.tb.beat + 1) :
    (!s.nocMoves || !(out.val == 5 || portPresent r out)
      || Tab.get 0 s.noc.decided (8 * r.val + out.val) == s.tb.beat + 1) = false := by
  have hport' : (out.val == 5 || portPresent r out) = true := by rwa [Bool.or_eq_true, beq_iff_eq]
  rw [hmoves, hport', beq_eq_false_iff_ne.mpr hbeat]
  rfl

section Forward

variable {x t u : State} {out : Fin 6} {parity sideband : Bool} {cs ok : List (Nat × Nat)} (hmoves : s.nocMoves = true)
  (hport : out.val = 5 ∨ portPresent r out = true)
  (hbeat : Tab.get 0 s.noc.decided (8 * r.val + out.val) ≠ s.tb.beat + 1)
  (hx : { s with noc := { s.noc with decided := Tab.set 0 s.noc.decided (8 * r.val + out.val) (s.tb.beat + 1) } } = x)
  (hcs : rankOrder.filterMap (fun vc => (x.candidate r out vc).map (fun p => (vc, p))) = cs)
  (hok : cs.filter (fun c => decide (0 < x.nocCredit r out c.1)) = ok)
  (ht : (if out.val < 5 ∧ ok.length < cs.length then x.nocBump (pNocr r) (NOCR.BLOCK_COUNT.at out) else x) = t)
  (hu : (if out.val < 5 ∧ 1 < ok.length then t.nocBump (pNocr r) (NOCR.LOSE_COUNT.at out) else t) = u)

include hmoves hport hbeat hx hcs hok ht hu

/-- A router output that has not decided on this beat, where no channel may send: what is counted (R430). -/
theorem execFlitForward_idle (hnone : ok = []) : exec (.flitForward r out parity sideband) s = .next u := by
  subst hnone
  change execFlitForward r out parity sideband s = _
  simp only [execFlitForward, output_may_decide hmoves hport hbeat, Bool.false_eq_true, if_false, hx, hcs, hok, ht,
    hu]

/-- The flit of the first channel that may send, with what is counted (R430). -/
theorem execFlitForward_sends {vc p : Nat} {rest : List (Nat × Nat)} {f : Flit} (hfirst : ok = (vc, p) :: rest)
    (hf : x.inputHead r out vc p = some f) :
    exec (.flitForward r out parity sideband) s = .next (u.grant r out vc p f parity sideband) := by
  subst hfirst
  change execFlitForward r out parity sideband s = _
  simp only [execFlitForward, output_may_decide hmoves hport hbeat, Bool.false_eq_true, if_false, hx, hcs, hok, ht,
    hu, hf]

end Forward

theorem takeFirst_some_any {α : Type} {p : α → Bool} {l rest : List α} {x : α} (h : takeFirst p l = some (x, rest)) :
    l.any p = true := by
  induction l generalizing rest with
  | nil => cases h
  | cons y l ih =>
    rw [takeFirst] at h
    rw [List.any_cons]
    split at h
    case isTrue hy => rw [hy, Bool.true_or]
    case isFalse =>
      split at h
      case h_1 z r hl => cases h; rw [ih hl, Bool.or_true]
      case h_2 => cases h

section Credit

variable {t : State} {out vc : Fin 6} {upset : Bool} {b : Nat} {rest : List Nat}
  (hback : upset = false →
    takeFirst (fun b => decide (b ≤ s.tb.beat)) (s.creditsOut (chan r out vc)) = some (b, rest))
  (ht : (if upset = true then s else
    { s with noc := { s.noc with flying := Tab.set [] s.noc.flying (chan r out vc) rest } }) = t)

include hback ht

/-- A credit that has come back, or one that an upset makes: usable below 4, else an error (R427, R445). -/
theorem execCreditReturn_comes : exec (.creditReturn r out ⟨vc, upset⟩) s = .next (if 4 ≤ s.nocCredit r out vc then
    (t.routerErr r (if out.val = 5 then 4 else out.val) vc NOCR.evCREDIT_ERR []).nocBump (pNocr r) NOCR.ERRCNT_CREDIT_ERR
    else t.setCredit r out vc (s.nocCredit r out vc + 1)) := by
  subst ht
  change execCreditReturn r out ⟨vc, upset⟩ s = _
  rw [apply_ite Host.Outcome.next]
  cases upset
  case true => simp only [execCreditReturn, if_true, Bool.true_eq_false, false_and, if_false]
  case false =>
    have hfirst := hback rfl
    simp only [execCreditReturn, hfirst, takeFirst_some_any hfirst, Bool.false_eq_true, Bool.true_eq_false, and_false,
      if_false]

end Credit

theorem execVcStall_due {t : State} {port : Fin 5} {vc : Fin 6} (hbuf : s.nbuf r port vc ≠ [])
    (hnew : s.noc.stalled.contains (chan r port vc) = false)
    (hdue : Tab.get 0 s.noc.moved (chan r port vc) + s.fld pNoc NOC.STALL_LIMIT_BEATS ≤ s.tb.beat)
    (ht : ((s.routerErr r port vc NOCR.evVC_STALL (Tab.get [] s.noc.hdr (chan r port vc))).setFld (pNocr r)
      NOCR.STALL_INPORT port).setFld (pNocr r) NOCR.STALL_VC vc = t) :
    exec (.vcStall r port vc) s = .next { t with noc := { t.noc with stalled := t.noc.stalled ++ [chan r port vc] } } := by
  subst ht
  exact if_neg (by simp only [List.isEmpty_iff, hbuf, hnew, Nat.not_lt.mpr hdue, Bool.false_eq_true, or_self,
    not_false_eq_true])

end Router

/-- Settles O42: a lemma for each command of the network that sends. -/
theorem networkSendingCompletes : Obligations.NetworkSendingCompletes := by
  refine ⟨?inject, fun s t r agent ak next => execTokenGain_eq, ?forward, ?credit,
    fun s t r port vc => execVcStall_due⟩
  case inject =>
    intro s r agent w0 w1 w2 w3 fs
    refine ⟨execPacketInject_held, ?_⟩
    intro hh dst v u ak tag vc fab hdr p hmoves hdawn hagent hak hfab hhh hdst hv hu htag hhdr hvc hp
    have hoffer {asks : Bool} := execPacketInject_offers hmoves hdawn hagent hak hfab hhh hdst hv hu htag hhdr hvc hp
      (asks := asks)
    refine ⟨fun hasks => ?plain, fun hasks hlt hfree => ?asks⟩
    case plain => exact hoffer hasks (fun h => nomatch h)
    case asks => exact hoffer hasks (fun _ => ⟨hlt, hfree⟩)
  case forward =>
    intro s x t u r out parity sideband cs ok hmoves hport hbeat hx hcs hok ht hu
    exact ⟨execFlitForward_idle hmoves hport hbeat hx hcs hok ht hu,
      fun _ _ _ _ => execFlitForward_sends hmoves hport hbeat hx hcs hok ht hu⟩
  case credit =>
    intro s t r out vc upset b rest hback ht
    rw [execCreditReturn_comes hback ht]
    exact ⟨fun hlt => by rw [if_neg (Nat.not_le.mpr hlt)], fun hle => by rw [if_pos hle]⟩

end Sys2Proof.Machine

/-!
What a queue's port serves: pushes, pops and requests for the held item (R155, R459, R460, R464, R465, R467 to R469, R496).
-/

namespace Sys2Proof.Machine

section Port

variable {s : State} {a : Acc} {q : Fin 256} {agent : Fin 8} {data : List Byte} {bad : Bool}

/-- A push that the port serves, with room in the tail stage or no block to write, is stored (R460, R472). -/
theorem State.pushPort_served {i : Instr} {n off room : Nat} {last : Bool}
    (hserves : s.portServes a n (portAddr n off) data.length room = true) (hroom : s.tailWait n = false) :
    s.pushPort i a n agent off room last data bad =
      (s.answer [0]).qPush n (producerOf a agent) (bytesToWords (data.length / 8) data) last bad 0 := by
  have hroom' : (s.answer [0]).tailWait n = false := hroom
  rw [State.pushPort, portAccess_served hserves, hroom', if_neg Bool.false_ne_true]

theorem execQueuePush_served {off : Fin 4096}
    (hserves : s.portServes a q (portAddr q off) data.length (0x1000 - off) = true) (hroom : s.tailWait q = false)
    (hfirst : s.stands (fun c => popsFrom q c || s.ownerChange q c || resetsHousehold a.hh c) = false) :
    exec (.queuePush a q agent off data bad) s =
      .next ((s.answer [0]).qPush q (producerOf a agent) (bytesToWords (data.length / 8) data) false bad 0) :=
  congrArg Host.Outcome.next ((after_none hfirst).trans (State.pushPort_served hserves hroom))

theorem execQueuePushLast_served {off : Fin 2048}
    (hserves : s.portServes a q (portAddr q (0x1000 + off)) data.length (0x800 - off) = true)
    (hroom : s.tailWait q = false)
    (hfirst : s.stands (fun c => flushes q c || popsFrom q c || s.ownerChange q c || resetsHousehold a.hh c) = false) :
    exec (.queuePushLast a q agent off data bad) s =
      .next ((s.answer [0]).qPush q (producerOf a agent) (bytesToWords (data.length / 8) data) true bad 0) :=
  congrArg Host.Outcome.next ((after_none hfirst).trans (State.pushPort_served hserves hroom))

/-- A STREAM pop of a queue that no slot is bound to, whose words are not in DRAM (R465, R472, R496). -/
theorem execQueuePopStream_served {off : Fin 2048} {bytes : Fin 1024}
    (hserves : s.portServes a q (portAddr q (0x1800 + off)) bytes (0x800 - off) = true) (hbound : s.boundTo q = [])
    (hwords : s.popWaits q (bytes / 8) = false)
    (hfirst : s.stands (fun c => flushes q c || s.ownerChange q c) = false) :
    exec (.queuePopStream a q off bytes) s = .next ((s.answer [0]).popStream q (bytes / 8) a.hh) := by
  have hbound' : ((s.answer [0]).boundTo q).isEmpty = true := List.isEmpty_iff.mpr hbound
  have hwords' : (s.answer [0]).popWaits q (bytes / 8) = false := hwords
  refine congrArg Host.Outcome.next ((after_none hfirst).trans ?_)
  rw [portAccess_served hserves, hwords', Bool.and_false, if_neg Bool.false_ne_true, State.popAccess, if_pos hbound']

theorem execQueueHeldRead_step {off : Fin 1024} {words : Fin 65} (hport : s.stepPort a q = true) :
    exec (.queueHeldRead a true q off words) s = .next (s.heldRead q words off a.hh) :=
  congrArg Host.Outcome.next (heldAccess_step hport)

theorem execQueueReleaseHeld_step (hport : s.stepPort a q = true) :
    exec (.queueReleaseHeld a true q) s = .next (s.releaseHeld q 2) :=
  congrArg Host.Outcome.next (heldAccess_step hport)

end Port

/-- Settles O44: the accesses that the port serves, and those of the step-item port. -/
theorem queuePortsComplete : Obligations.QueuePortsComplete :=
  fun _ _ _ => ⟨fun _ _ _ _ => execQueuePush_served, fun _ _ _ _ => execQueuePushLast_served,
    fun _ _ => execQueuePopStream_served,
    fun hport => ⟨fun _ _ => execQueueHeldRead_step hport, execQueueReleaseHeld_step hport⟩⟩

end Sys2Proof.Machine

/-!
The egress schedulers' commands (R182, R495, R500, R502, R504, R505, R508, R510, R512, R524, R526, R528).
-/

namespace Sys2Proof.Machine

/-! ### Slot registers -/

section SlotRegister

variable {s : State} {p k hh w : Nat}

/-- A quantum of at least 64 is stored as it is; enabling an idle slot with no cause against it fills its buckets (R501,
R522, R528). -/
theorem State.slotCtrlWrite_enables {t : State} (hen : bitAt w 31 = true) (hq : 64 ≤ bitsOf w 15 0)
    (ht : (s.setFld (pSch p) (SCH.SLOT_CTRL_QUANTUM.at k) (bitsOf w 15 0)).setFld (pSch p) (SCH.SLOT_CTRL_SOJ_LIMIT.at k)
      (bitsOf w 27 16) = t)
    (hidle : s.on (pSch p) (SCH.SLOT_CTRL_EN.at k) = false) (hcause : t.slotCause p k = 0) :
    s.slotCtrlWrite p k w hh = (t.setFld (pSch p) (SCH.SLOT_CTRL_EN.at k) 1).setSlot p k { SlotSt.reset with
      b := ⟨(t.cbs p k * 65536 : Nat), (t.pbs p k * 65536 : Nat), 0, 0⟩ } := by
  simp only [State.slotCtrlWrite, Nat.max_eq_right hq, Nat.not_lt.mpr hq, ht, hen, hidle, hcause, if_false, if_true,
    Bool.not_false, Bool.and_true]

theorem State.slotWrite_ctrl : s.slotWrite hh p k 4 w = s.slotCtrlWrite p k w hh := rfl

theorem State.slotWrite_cirLo : s.slotWrite hh p k 8 w = (s.cirWrite p k (SCH.CIR_LO_CIR.at k) w
    (w + 2 ^ 32 * s.shadow (pSch p) (SCH.RATE_HI_CIR.at k)) hh).schImmediate p := rfl

theorem State.slotWrite_rateHi (hmode : bitsOf w 29 28 ≠ 3) : s.slotWrite hh p k 0x10 w =
    (((s.setShadow (pSch p) (SCH.RATE_HI_PIR.at k) (bitsOf w 23 16)).setShadow (pSch p) (SCH.RATE_HI_CHG_MODE.at k)
      (bitsOf w 29 28)).cirWrite p k (SCH.RATE_HI_CIR.at k) (bitsOf w 7 0)
      (s.shadow (pSch p) (SCH.CIR_LO_CIR.at k) + 2 ^ 32 * bitsOf w 7 0) hh).schImmediate p := by
  have hzero : ¬ (0x10 : Nat) = 0 := by decide
  simp only [State.slotWrite, hmode, hzero, if_false, if_true, Nat.reduceEqDiff]

theorem State.slotWrite_bind_enabled (hen : s.on (pSch p) (SCH.SLOT_CTRL_EN.at k) = true) :
    s.slotWrite hh p k 0 w = s.raiseBy (pSch p) SCH.evBIND_LOCKED hh :=
  if_pos hen

theorem State.slotWrite_bind_disabled (hen : s.on (pSch p) (SCH.SLOT_CTRL_EN.at k) = false) :
    s.slotWrite hh p k 0 w = ((s.setFld (pSch p) (SCH.BIND_DRAM_TOUCH.at k) (bitsOf w 31 31)).setFld (pSch p)
      (SCH.BIND_CLASS.at k) (bitsOf w 29 29)).setFld (pSch p) (SCH.BIND_QUEUE.at k) (bitsOf w 7 0) :=
  if_neg (Bool.eq_false_iff.mp hen)

end SlotRegister

section SlotCommand

variable {s : State} {a : Acc} {p : Fin 5} {k : Fin 64} {w : Word}

theorem execSlotEnable_served (hs : s.serves a (pSch p) (0x100 + 0x30 * k.val + 4) true = true)
    (hden : ∀ w, s.mgrDenied a.hh (pSch p) (s.fieldsOf (pSch p) (0x100 + 0x30 * k.val + 4)) w = false)
    (hfirst : s.stands (fun c => commitsAdm c || s.enablesBefore p k c) = false) :
    exec (.slotEnable a p k w) s = .next ((s.answer [0]).slotWrite a.hh p k 4 (setBit w.toNat 31)) :=
  congrArg Host.Outcome.next ((after_none hfirst).trans (slotAccess_served k.isLt (by decide) hs (hden _)))

theorem execCirWrite_served {hi : Bool} {r : Nat} (hr : (if hi = true then 0x10 else 0x08) = r)
    (hs : s.serves a (pSch p) (0x100 + 0x30 * k.val + r) true = true)
    (hden : ∀ w, s.mgrDenied a.hh (pSch p) (s.fieldsOf (pSch p) (0x100 + 0x30 * k.val + r)) w = false)
    (hfirst : s.stands commitsAdm = false) :
    exec (.cirWrite a p k hi w) s = .next ((s.answer [0]).slotWrite a.hh p k r w.toNat) := by
  subst hr
  exact congrArg Host.Outcome.next ((after_none hfirst).trans
    (slotAccess_served k.isLt (by cases hi <;> decide) hs (hden _)))

theorem execBindWrite_served (hs : s.serves a (pSch p) (0x100 + 0x30 * k.val + 0) true = true)
    (hden : ∀ w, s.mgrDenied a.hh (pSch p) (s.fieldsOf (pSch p) (0x100 + 0x30 * k.val + 0)) w = false) :
    exec (.bindWrite a p k false w) s = .next ((s.answer [0]).slotWrite a.hh p k 0 w.toNat) :=
  congrArg Host.Outcome.next (slotAccess_served k.isLt (by decide) hs (hden _))

end SlotCommand

/-! ### Refills, decisions and the wheel -/

section Decision

variable {s : State} {p k l : Nat} {credit : Bool} {fail : Option (PopFail × Nat)}

/-- A refill instant that its page has not had yet (R500). -/
theorem State.refillNow_due {g : Nat} {t : State} (htick : s.onTick (2 ^ s.pageExp g) = true)
    (honce : (s.sc g).refilled ≠ s.tb.beat + 1) (ht : s.setSc g { s.sc g with refilled := s.tb.beat + 1 } = t) :
    s.refillNow g = if g < 5 then t.schRefill g else t.polRefill (g - 5) := by
  subst ht
  exact if_pos (by simp [htick, honce])

/-- The first slot of a list sends its frame, where its deficit covers the frame, the list may serve it and the port
accepts it (R502, R504, R507). -/
theorem State.serveList_sends {w fuel : Nat} {rest : List Nat} {x : SlotSt} {t : State}
    (hlist : (s.sc p).list w = k :: rest) (hlen : s.headLen p k = some l) (hblock : s.slotBlocked p k l = false)
    (hx : (if (s.slot p k).turn = true then s.slot p k else { s.slot p k with
      deficit := (s.slot p k).deficit + s.fld (pSch p) (SCH.SLOT_CTRL_QUANTUM.at k), turn := true }) = x)
    (ht : s.setSlot p k x = t) (hcovers : l ≤ x.deficit) (hmay : t.servable p k w l = true)
    (hport : t.portAccepts p k l credit = true) :
    s.serveList p w credit fail (fuel + 1) = (t.sendFrame p k w l fail, 1) := by
  simp only [State.serveList, hlist, hlen, hblock, hx, ht, Nat.not_lt.mpr hcovers, hmay, hport, if_false, if_true,
    Bool.not_true, Bool.false_eq_true]

/-- What HI sends is the decision (R504). -/
theorem State.decision_of_hi {t : State} (h : s.serveList p 1 credit fail decisionTurns = (t, 1)) :
    s.decision p credit fail = t := by
  have hsent : ¬ (1 : Nat) = 2 := by decide
  simp only [State.decision, h, hsent, Nat.one_ne_zero, if_false]

end Decision

section Wheel

variable {s z : State} {p : Fin 5}

theorem execEgressDecision_decides {credit : Bool} {fail : Option (PopFail × Fin 1025)} (hdawn : z.tb.dawn = 0)
    (hfirst : z.stands (fun c => disablesOf p c || (p.val == 0 && writesHead c) ||
      (z.slotsOn p).any (fun k => flushes (z.slotQueue p k) c)) = false) :
    exec (.egressDecision p ⟨credit, fail⟩) z =
      .next ((z.schDue p).decision p credit (fail.map (fun e => (e.1, e.2.val)))) :=
  (if_neg fun h => h hdawn).trans (congrArg Host.Outcome.next (after_none hfirst))

/-- A slot that is idle with an item, or blocked no longer, wakes (R505). -/
theorem execSlotWake_wakes {k : Fin 64} {l : Nat} (hz : z.schDue p = s) (hlen : s.headLen p k = some l)
    (hen : s.on (pSch p) (SCH.SLOT_CTRL_EN.at k) = true)
    (hplace : (s.slot p k).place = 0 ∨ (s.slot p k).place = 6 ∧ s.slotBlocked p k l = false) :
    exec (.slotWake p k) z = .next (s.wakeSlot p k) := by
  change execSlotWake p k z = _
  simp only [execSlotWake, hz, hlen, hen, Bool.true_and, Bool.or_eq_true, Bool.and_eq_true, beq_iff_eq,
    Bool.not_eq_true', hplace, if_true]

/-- A wheel tick, after the refill of its tick (R508). -/
theorem execWheelTick_eq (hz : s.refillNow p = z) : exec (.wheelTick p) s = .next (z.wheelNow p) := by
  subst hz
  rfl

theorem execWheelLevel1Move_due (htick : s.onTick 65536 = true) : exec (.wheelLevel1Move p) s =
    .next ((List.range 64).foldl (fun t k =>
      if (t.slot p k).place = 4 ∧ (t.slot p k).level = 1 ∧ (t.slot p k).te / 65536 ≤ t.tb.count / 65536 then
        t.setSlot p k { t.slot p k with level := 0 }
      else if (t.slot p k).place = 5 ∧ (t.slot p k).level = 2 then t.reexamine p k else t) s) :=
  if_pos htick

end Wheel

/-- Settles O47: the served writes by their registers, the decision by what serving HI does. -/
theorem schedulerCommandsComplete : Obligations.SchedulerCommandsComplete := by
  refine ⟨?registers, ?refill, ?decision, fun z s p k l => execSlotWake_wakes,
    fun s p => ⟨fun z => execWheelTick_eq, execWheelLevel1Move_due⟩⟩
  case registers =>
    intro s a p k r hs hden
    refine ⟨?enable, ?cirLo, ?rateHi, ?bind⟩
    case enable =>
      rintro rfl w v t rfl hq ht hfirst hidle - hcause
      rw [execSlotEnable_served hs hden hfirst, State.slotWrite_ctrl,
        State.slotCtrlWrite_enables (bitAt_setBit _ _) hq ht hidle hcause]
    case cirLo =>
      rintro rfl hfirst w
      rw [execCirWrite_served (hi := false) (r := 8) rfl hs hden hfirst, State.slotWrite_cirLo]
      rfl
    case rateHi =>
      rintro rfl hfirst w hmode
      rw [execCirWrite_served (hi := true) (r := 0x10) rfl hs hden hfirst, State.slotWrite_rateHi hmode]
      rfl
    case bind =>
      rintro rfl w
      rw [execBindWrite_served hs hden]
      exact ⟨fun hen => congrArg Host.Outcome.next (State.slotWrite_bind_enabled hen),
        fun hen => congrArg Host.Outcome.next (State.slotWrite_bind_disabled hen)⟩
  case refill =>
    intro s t page htick honce ht
    have hexec : exec (.refillInstant page) s =
        .next (if page.val < 5 then t.schRefill page else t.polRefill (page - 5)) :=
      congrArg Host.Outcome.next (State.refillNow_due htick honce ht)
    exact ⟨fun hsch => by rw [hexec, if_pos hsch], fun hpol => by rw [hexec, if_neg (Nat.not_lt.mpr hpol)]⟩
  case decision =>
    intro z s t p credit fail k l rest x hdawn hfirst hz hhi hlen hblock hx ht hcovers hmay hport
    rw [execEgressDecision_decides hdawn hfirst, hz,
      State.decision_of_hi (State.serveList_sends (w := 1) (fuel := 8703) hhi hlen hblock hx ht hcovers hmay hport)]

end Sys2Proof.Machine

/-!
The axis channels: enabling, the filter, edges of A, B and Z, and open wires (R203 to R212).
-/

namespace Sys2Proof.Machine

/-! ### AX_CFG -/

section AxisConfig

variable {s : State} {a : Acc} {k w : Nat}

/-- A write of AX_CFG with a mode of Table 6.3 stores the word; where it sets EN the channel starts (R203). -/
theorem State.axisWrite_cfg {t : State} (hmode : bitsOf w 30 28 < 5)
    (ht : s.plainWrite a pAxis (0x200 + 0x40 * k) w = t) : s.axisWrite a (0x200 + 0x40 * k) w =
      if s.on pAxis (AXIS.CFG_EN.at k) = false ∧ t.on pAxis (AXIS.CFG_EN.at k) = true then t.axisStart k else t := by
  have hchannel : (0x200 + 0x40 * k - 0x200) / 0x40 = k := by omega
  have hreg : (0x200 + 0x40 * k - 0x200) % 0x40 = 0 := by omega
  have hblock : ¬ 0x200 + 0x40 * k < 0x200 := by omega
  have hword : w - bitsOf w 30 28 * 2 ^ 28 + bitsOf w 30 28 * 2 ^ 28 = w := by
    have hbits : bitsOf w 30 28 = w / 2 ^ 28 % 2 ^ 3 := by rw [bitsOf, Nat.shiftRight_eq_div_pow]
    omega
  have hcount : ¬ ((0 = 0x10 ∨ 0 = 0x14) ∧ s.on pAxis (AXIS.CFG_EN.at k) = true) := by
    rintro ⟨hlo | hhi, -⟩
    · cases hlo
    · cases hhi
  subst ht
  simp only [State.axisWrite, hchannel, hreg, if_neg hblock, if_neg hcount, if_true, if_neg (Nat.not_le.mpr hmode), hword,
    Bool.and_eq_true, Bool.not_eq_true', -Nat.reducePow]

theorem execAxisEnable_served {k : Fin 6} {w : Word} (hs : s.serves a pAxis (0x200 + 0x40 * k.val) true = true) :
    exec (.axisEnable a k w) s = .next ((s.answer [0]).axisWrite a (0x200 + 0x40 * k.val) w.toNat) :=
  congrArg Host.Outcome.next (access_served hs)

end AxisConfig

/-! ### Accepted levels -/

section AxisLevels

variable {s t : State} {k m : Nat} {a b z : Bool}

section Edge

variable (ht : s.setAxis k { s.axis k with a := a, b := b } = t)

include ht

/-- A channel that is off takes the levels only. -/
theorem State.axisEdge_off (hen : s.on pAxis (AXIS.CFG_EN.at k) = false) : s.axisEdge k a b = t := by
  simp only [State.axisEdge, hen, ht, Bool.not_false, if_true]

variable (hen : s.on pAxis (AXIS.CFG_EN.at k) = true) (hm : s.fld pAxis (AXIS.CFG_MODE.at k) = m)

include hen hm

/-- A and B changed together in X4: an error, and the count stays (R206). -/
theorem State.axisEdge_quadErr (hboth : bothChanged m (s.axis k).a (s.axis k).b a b = true) : s.axisEdge k a b =
    ((t.bump pAxis (AXIS.ERRCNT_QUAD.at k)).axisSticky k 7).raise pAxis AXIS.evQUAD_ERR := by
  simp only [State.axisEdge, hen, hm, ht, hboth, Bool.not_true, Bool.false_eq_true, if_false, if_true]

/-- A decodable change counts what its mode counts (R204). -/
theorem State.axisEdge_counts (hboth : bothChanged m (s.axis k).a (s.axis k).b a b = false) : s.axisEdge k a b =
    if edgeDelta m (s.axis k).a (s.axis k).b a b = 0 then t
    else t.axisCounted k (edgeDelta m (s.axis k).a (s.axis k).b a b) := by
  simp only [State.axisEdge, hen, hm, ht, hboth, Bool.not_true, Bool.false_eq_true, if_false]

end Edge

theorem bothChanged_x4 {x y : Bool} (ha : x ≠ a) (hb : y ≠ b) : bothChanged 0 x y a b = true := by
  simp [bothChanged, ha, hb]

section Index

variable (ht : s.setAxis k { s.axis k with z := z } = t)

include ht

/-- A release of Z, and any change on a channel that is off, take the level only. -/
theorem State.axisIndex_level (h : z = false ∨ s.on pAxis (AXIS.CFG_EN.at k) = false) : s.axisIndex k z = t := by
  subst ht
  exact if_pos (by rcases h with h | h <;> simp [h])

/-- The assertion of Z on an enabled channel: an index edge if A and B meet ZGATE (R207, R208, R211). -/
theorem State.axisIndex_asserted {g : Nat} (hz : z = true) (hold : (s.axis k).z ≠ z)
    (hen : s.on pAxis (AXIS.CFG_EN.at k) = true) (hg : s.fld pAxis (AXIS.CFG_ZGATE.at k) = g) : s.axisIndex k z =
    ((if s.on pAxis (AXIS.CFG_ZGATE_EN.at k) = false ∨ ((s.axis k).a = bitAt g 1 ∧ (s.axis k).b = bitAt g 0)
      then (t.zgateCheck k).indexEdge k else t.zgateCheck k).missingCheck k).showAxisLive k := by
  subst hz
  have hold' : (s.axis k).z = false := Bool.eq_false_iff.mpr hold
  simp only [State.axisIndex, ht, hold', hen, hg, Bool.not_true, Bool.or_self, Bool.false_eq_true, if_false,
    Bool.or_eq_true, Bool.not_eq_true', Bool.and_eq_true, beq_iff_eq]

end Index

end AxisLevels

/-! ### The filter -/

section AxisFilter

variable {u s : State} {k n : Nat} {a b z : Bool} (hs : u.axisSense k = s)

include hs

/-- Before the first dawn release nothing is accepted (R203). -/
theorem State.axisFilter_stopped (hrun : s.tb.running = false) : u.axisFilter k = s := by
  simp only [State.axisFilter, hs, hrun, Bool.not_false, if_true]

variable (hn : s.fld pAxis (AXIS.CFG_FILT.at k) = n)
  (ha : (if (s.axis k).atA + n ≤ s.tb.beat then bitAt (s.axis k).sense 0 else (s.axis k).a) = a)
  (hb : (if (s.axis k).atB + n ≤ s.tb.beat then bitAt (s.axis k).sense 1 else (s.axis k).b) = b)
  (hz : (if (s.axis k).atZ + n ≤ s.tb.beat then bitAt (s.axis k).sense 2 else (s.axis k).z) = z)
  (hrun : s.tb.running = true)

include hn ha hb hz hrun

/-- The levels that have been held long enough are accepted, A and B before Z (R203, Table 6.8). -/
theorem State.axisFilter_running : u.axisFilter k =
    if (s.axis k).z = z then (if (s.axis k).a = a ∧ (s.axis k).b = b then s else s.axisEdge k a b)
    else (if (s.axis k).a = a ∧ (s.axis k).b = b then s else s.axisEdge k a b).axisIndex k z := by
  simp only [State.axisFilter, hs, hn, decide_eq_true_eq, ha, hb, hz, hrun, Bool.not_true, Bool.false_eq_true, if_false,
    eq_comm (a := a), eq_comm (a := b), eq_comm (a := z)]

theorem State.axisFilter_unchanged (hka : (s.axis k).a = a) (hkb : (s.axis k).b = b) (hkz : (s.axis k).z = z) :
    u.axisFilter k = s := by
  rw [axisFilter_running hs hn ha hb hz hrun, if_pos hkz, if_pos ⟨hka, hkb⟩]

theorem State.axisFilter_edge (hab : (s.axis k).a ≠ a ∨ (s.axis k).b ≠ b) (hkz : (s.axis k).z = z) :
    u.axisFilter k = s.axisEdge k a b := by
  rw [axisFilter_running hs hn ha hb hz hrun, if_pos hkz, if_neg (not_and_of_not_or_not hab)]

theorem State.axisFilter_index (hka : (s.axis k).a = a) (hkb : (s.axis k).b = b) (hkz : (s.axis k).z ≠ z) :
    u.axisFilter k = s.axisIndex k z := by
  rw [axisFilter_running hs hn ha hb hz hrun, if_neg hkz, if_pos ⟨hka, hkb⟩]

theorem State.axisFilter_edge_index (hab : (s.axis k).a ≠ a ∨ (s.axis k).b ≠ b) (hkz : (s.axis k).z ≠ z) :
    u.axisFilter k = (s.axisEdge k a b).axisIndex k z := by
  rw [axisFilter_running hs hn ha hb hz hrun, if_neg hkz, if_neg (not_and_of_not_or_not hab)]

end AxisFilter

/-- The onset of an open wire (R210). -/
theorem execAxisOpenWire_onset {s : State} {k : Fin 6} {sig : Fin 3} (hnew : bitAt (s.axis k).openLive sig = false) :
    exec (.axisOpenWire k sig) s =
      .next ((((s.setAxis k { s.axis k with openLive := setBit (s.axis k).openLive sig }).axisSticky k sig).raise pAxis
        AXIS.evOPEN_WIRE).showAxisLive k) :=
  if_neg (Bool.eq_false_iff.mp hnew)

/-- Settles O17: what the filter passes on, and then what the accepted levels do. -/
theorem axisCommandsComplete : Obligations.AxisCommandsComplete := by
  refine ⟨?enable, fun s k la lb lz => ⟨rfl, rfl⟩, ?filter, fun s k sig => ⟨execAxisOpenWire_onset, rfl⟩⟩
  case enable =>
    intro s a k w hs hmode
    have hmode' : bitsOf w.toNat 30 28 < 5 := by rwa [bitsOf, Nat.shiftRight_eq_div_pow]
    rw [execAxisEnable_served hs, State.axisWrite_cfg hmode' rfl]
    rfl
  case filter =>
    intro u s t k a b z m g n hs hn ha hb hz
    refine ⟨State.axisFilter_stopped hs, State.axisFilter_unchanged hs hn ha hb hz,
      State.axisFilter_edge_index hs hn ha hb hz, ?edge, ?index⟩
    case edge =>
      intro hrun hab hkz hm ht
      rw [State.axisFilter_edge hs hn ha hb hz hrun hab hkz]
      refine ⟨State.axisEdge_off ht, ?quadErr, fun hen => State.axisEdge_counts ht hen hm⟩
      case quadErr =>
        rintro hen rfl hka hkb
        exact State.axisEdge_quadErr ht hen hm (bothChanged_x4 hka hkb)
    case index =>
      intro hrun hka hkb hkz ht hg
      rw [State.axisFilter_index hs hn ha hb hz hrun hka hkb hkz]
      exact ⟨State.axisIndex_level ht, fun hup hen => State.axisIndex_asserted ht hup hkz hen hg⟩

end Sys2Proof.Machine

/-!
The ephemeris engine: sampling, fitting and publishing, and the segments received, in force and expired (R213 to R221, R242).
-/

namespace Sys2Proof.Machine

/-! ### The master -/

section EphMaster

variable {s : State} (hmaster : s.ephMaster = true)

include hmaster

/-- A sample of the latest counted edge, unless its stamp is repeated or the tick has a SNAP (R213). -/
theorem execEphemSample_due {k st : Nat} (htick : s.tb.count % 4096 = 0) (hk : s.fld pEphem EPHEM.SOURCE_AXIS = k)
    (hst : s.pair pAxis (AXIS.EDGE_T_LO_STAMP.at k) (AXIS.EDGE_T_HI_STAMP.at k) = st) :
    exec .ephemSample s = .next (s.setEph { s.ln.eph with
      samples := if s.ln.eph.prev = some st ∨ s.ln.eph.snapAt = some s.tb.count
        then s.ln.eph.samples.filter (fun x => decide (s.tb.count ≤ x.1 + 524288))
        else (((st, s.sourcePos) :: s.ln.eph.samples).filter (fun x => decide (s.tb.count ≤ x.1 + 524288))).take 32
      prev := some st }) := by
  subst hk hst
  change execEphemSample s = _
  rw [execEphemSample, if_neg (by simp [hmaster, htick])]
  split <;> rfl

/-- The fit of a tick that has formed no segment yet (R214). -/
theorem execEphemFit_due (htick : s.tb.count % 65536 = 0)
    (hnew : s.ln.eph.formed.any (fun g => g.word 6 == s.tb.count) = false) :
    exec .ephemFit s = .next ((s.setEph { s.ln.eph with
      formed := some s.formSegment, seq := (s.ln.eph.seq + 1) % 2 ^ 16, restart := false }).drew 4) :=
  if_neg (by simp [hmaster, htick, hnew])

end EphMaster

/-- The formed segment is held like a received one, and leaves by the fabric once the device has its number (R215, R600). -/
theorem execEphemPublish_later {s u : State} {g : Seg} {f : Frame} (hformed : s.ln.eph.formed = some g)
    (hlater : g.word 6 ≠ s.tb.count) (hu : (s.setEph { s.ln.eph with formed := none }).acceptSegment g = u)
    (hf : { Frame.blank with
      kind := 3, vc := 5, bcast := true, hh := 0xF, arg2 := 0xC, payload := g.words.flatMap (leBytes 8)
      dst := u.fld pConst CONST.CONST_STATUS_ROOT_DEV, src := u.devNum, epoch := u.activeEpoch % 16 } = f) :
    exec .ephemPublish s = .next (if u.numValid = false then u
      else if u.on pDisc DISC.DISC_STATUS_IS_ROOT = true then
        (u.childPorts.filter (bitAt (u.fld pConst CONST.EPH_PORT_EN_EN))).foldl (fun t p => t.toPort p 4 none f (t.downHop p)) u
      else u.sendRouted f) := by
  subst hu hf
  change execEphemPublish s = _
  simp only [execEphemPublish, hformed, hlater, if_false, Bool.not_eq_true', apply_ite Host.Outcome.next]
  rfl

/-! ### The follower -/

section Follower

variable {s : State} {g : Seg} (hen : s.enabled pEphem = true) (hrole : s.fld pEphem EPHEM.ROLE_ROLE = 2)

include hen hrole

theorem State.receiveSegment_badCrc (hcrc : g.crc ≠ segCrc g.words) :
    s.receiveSegment g = (s.bump pEphem EPHEM.COUNTS_BAD).raise pEphem EPHEM.evEPH_BAD := by
  simp [State.receiveSegment, hen, hrole, hcrc]

variable (hcrc : g.crc = segCrc g.words) (htype : g.type = 0xE5) (hversion : g.version = 1)

include hcrc htype hversion

/-- A segment with good CRC, type and version is judged by its device, then by its T0 (R220). -/
theorem State.receiveSegment_wellFormed : s.receiveSegment g =
    if g.dev ≠ s.fld pEphem EPHEM.SOURCE_MASTER_DEV then s.raise pEphem EPHEM.evEPH_FOREIGN
    else if g.t0 ≤ s.tb.count then (s.bump pEphem EPHEM.COUNTS_LATE).raise pEphem EPHEM.evEPH_LATE
    else if (s.ln.eph.cur.toList ++ s.ln.eph.pend).any (fun x => decide (g.t0 ≤ x.t0)) = true then s
    else s.acceptSegment g := by
  simp [State.receiveSegment, hen, hrole, hcrc, htype, hversion]

theorem State.receiveSegment_foreign (hdev : g.dev ≠ s.fld pEphem EPHEM.SOURCE_MASTER_DEV) :
    s.receiveSegment g = s.raise pEphem EPHEM.evEPH_FOREIGN := by
  rw [receiveSegment_wellFormed hen hrole hcrc htype hversion, if_pos hdev]

variable (hdev : g.dev = s.fld pEphem EPHEM.SOURCE_MASTER_DEV)

include hdev

theorem State.receiveSegment_late (hlate : g.t0 ≤ s.tb.count) :
    s.receiveSegment g = (s.bump pEphem EPHEM.COUNTS_LATE).raise pEphem EPHEM.evEPH_LATE := by
  rw [receiveSegment_wellFormed hen hrole hcrc htype hversion, if_neg (not_not_intro hdev), if_pos hlate]

/-- A segment of the master that begins in the future, after every held one, is accepted (R220, R221). -/
theorem State.receiveSegment_accepted (hfuture : s.tb.count < g.t0)
    (hafter : ∀ x ∈ s.ln.eph.cur.toList ++ s.ln.eph.pend, x.t0 < g.t0) : s.receiveSegment g = s.acceptSegment g := by
  have hnone : ¬ (s.ln.eph.cur.toList ++ s.ln.eph.pend).any (fun x => decide (g.t0 ≤ x.t0)) = true := by
    simp only [List.any_eq_true, decide_eq_true_eq, not_exists, not_and, Nat.not_le]
    exact hafter
  rw [receiveSegment_wellFormed hen hrole hcrc htype hversion, if_neg (not_not_intro hdev),
    if_neg (Nat.not_le.mpr hfuture), if_neg hnone]

end Follower

theorem execSegmentReceive_eq {s : State} {ws : List (BitVec 64)} {g : Seg} (hg : g.words = ws.map BitVec.toNat) :
    exec (.segmentReceive ws) s = .next (s.receiveSegment g) := by
  obtain ⟨words⟩ := g
  cases hg
  rfl

/-! ### Segments in force -/

section InForce

variable {s : State} {g : Seg}

theorem State.forceDue_due {rest : List Seg} (hpend : s.ln.eph.pend = g :: rest) (hdue : g.t0 ≤ s.tb.count) :
    s.forceDue = s.takeForce g rest := by
  simp only [State.forceDue, hpend, hdue, if_true]

/-- The validity of the segment in force is over and no pending one follows on (R221, R242). -/
theorem execSegmentExpire_over (hcur : s.ln.eph.cur = some g) (hover : g.t0 + g.validLen ≤ s.tb.count)
    (hnext : ∀ x, s.ln.eph.pend.head? = some x → g.t0 + g.validLen < x.t0) :
    exec .segmentExpire s = .next s.segExpire := by
  change execSegmentExpire s = _
  simp only [execSegmentExpire, hcur, Nat.not_lt.mpr hover, false_or]
  cases hpend : s.ln.eph.pend with
  | nil => exact if_neg Bool.false_ne_true
  | cons x rest =>
    have hgap : ¬ x.t0 ≤ g.t0 + g.validLen := Nat.not_le.mpr (hnext x (by rw [hpend, List.head?_cons]))
    exact if_neg (by simpa only [decide_eq_true_eq] using hgap)

end InForce

/-- Settles O18: the master's three commands; the judgement of a received segment by its cases; and the two ends of a segment's
force. -/
theorem ephemerisCommandsComplete : Obligations.EphemerisCommandsComplete := by
  refine ⟨fun s k st hmaster => execEphemSample_due hmaster, fun s => execEphemFit_due,
    fun s g hformed hlater u hu f => execEphemPublish_later hformed hlater hu, ?receive,
    fun s g rest hpend hdue => congrArg Host.Outcome.next (State.forceDue_due hpend hdue),
    fun s g => execSegmentExpire_over⟩
  case receive =>
    intro s ws g hg hen hrole
    rw [execSegmentReceive_eq hg]
    refine ⟨fun hcrc => ?badCrc, fun hcrc htype hversion => ⟨fun hdev => ?foreign, fun hdev hlate => ?late,
      fun hdev hfuture hafter => ?accepted⟩⟩
    case badCrc => rw [State.receiveSegment_badCrc hen hrole hcrc]
    case foreign => rw [State.receiveSegment_foreign hen hrole hcrc htype hversion hdev]
    case late => rw [State.receiveSegment_late hen hrole hcrc htype hversion hdev hlate]
    case accepted => rw [State.receiveSegment_accepted hen hrole hcrc htype hversion hdev hfuture hafter]

end Sys2Proof.Machine

/-!
The trigger and strobe schedules and the drivers of the line unit's outputs (R222 to R230, R242, R245).
-/

namespace Sys2Proof.Machine

/-! ### Arming, and SAFE -/

section Arming

variable {s : State} {a : Acc}

/-- A served write of an arming or disarming mask acts on its schedules, or is a denial as a whole (R31, R223; log entry 68). -/
theorem State.armAccess_served {i : Instr} {p off w : Nat} {strobe arm : Bool} (hs : s.serves a p off true = true) :
    s.armAccess i a p off strobe arm w = if s.maskMine a.hh strobe w = true then (s.answer [0]).armWrite strobe arm w
      else (s.answer [0]).denial a (regAddr p off) true :=
  access_served hs

theorem execOutSafe_served {w : Word} (hs : s.serves a pLine 0x100 true = true) : exec (.outSafe a w) s =
    .next (((s.answer [0]).plainWrite a pLine 0x100 w.toNat).condition pLine LINE.evOUT_SAFE (bitAt w.toNat 0)) :=
  congrArg Host.Outcome.next (access_served hs)

end Arming

/-! ### Firing on the schedule's own grid -/

section Grid

variable {u v : State} {f : SchedF} {p : Int} {n : Nat}

/-- The firing test of an armed schedule that has a position is that of its grid (R225, R226). -/
theorem State.fireTest_armed (harmed : u.isArmed f = true) (hlink : u.isLinked f = false) (hat : u.schedAt f = some p) :
    u.fireTest f = u.fireGrid f p := by
  simp only [State.fireTest, harmed, hlink, hat, Bool.not_true, Bool.or_self, Bool.false_eq_true, if_false]

variable (hn : u.passed f p = n)

include hn

/-- Before NEXT nothing changes. -/
theorem State.fireGrid_early (hzero : n = 0) : u.fireGrid f p = u := by
  simp only [State.fireGrid, hn, hzero, if_true]

variable (hduty : u.dutyTest f = v) (hpast : n ≠ 0)

include hduty hpast

/-- With a busy output every position passed is an overrun (R225). -/
theorem State.fireGrid_busy (hbusy : v.outBusy f = true) : u.fireGrid f p = v.overrun f n := by
  simp only [State.fireGrid, hn, hpast, hduty, hbusy, if_false, if_true]

/-- With an idle output the schedule fires, and the further positions are overruns while it stays armed (R225). -/
theorem State.fireGrid_fires {w : State} (hidle : v.outBusy f = false)
    (hw : (((if f.strobe then v.startPulse f else (v.startPulse f).recordStamp f.k).incr f.page f.fired).advance f
      1).countDone f = w) :
    u.fireGrid f p = if w.isArmed f = true then w.overrun f (n - 1) else w := by
  simp only [State.fireGrid, hn, hpast, hduty, hidle, hw, Bool.false_eq_true, if_false]

end Grid

theorem execStrobeFire_unlinked {s : State} {k : Fin 8} (hlink : s.isLinked (stbF k) = false) :
    exec (.strobeFire k) s = .next (s.forceDue.fireTest (stbF k)) :=
  if_neg (Bool.eq_false_iff.mp hlink)

/-! ### Linked firings of a strobe -/

section Linked

variable {s v t : State} {k : Fin 8}

/-- The first of the due ticks of a linked strobe that is armed (R228). -/
theorem execStrobeFire_linked {d : Nat} {ds : List Nat} (harmed : s.isArmed (stbF k) = true)
    (hlink : s.isLinked (stbF k) = true) (hdue : (s.sched (stbF k)).linked = d :: ds) (hd : d ≤ s.tb.beat) :
    exec (.strobeFire k) s = .next (s.fireLinked k) := by
  change execStrobeFire k s = _
  simp only [execStrobeFire, hlink, hdue, harmed, hd, and_self, if_true]

variable (hduty : s.dutyTest (stbF k) = v)
  (ht : v.setSched (stbF k) { v.sched (stbF k) with linked := (v.sched (stbF k)).linked.drop 1 } = t)

include hduty ht

/-- A busy or cut strobe counts an overrun (R228, R230). -/
theorem State.fireLinked_busy (hbusy : v.outBusy (stbF k) = true) : s.fireLinked k =
    ((t.bump pStrobe (stbF k).overruns).orFld pStrobe (stbF k).sticky 1).raise pStrobe (stbF k).evOverrun := by
  simp only [State.fireLinked, hduty, ht, hbusy, if_true]

/-- An idle strobe fires, and ends where it has fired COUNT times (R225, R228). -/
theorem State.fireLinked_fires {u : State} (hidle : v.outBusy (stbF k) = false)
    (hu : (t.startPulse (stbF k)).incr pStrobe (stbF k).fired = u) : s.fireLinked k =
    if u.fld pStrobe (stbF k).count ≠ 0 ∧ u.fld pStrobe (stbF k).fired = u.fld pStrobe (stbF k).count
      then ((u.disarm (stbF k)).orFld pStrobe (stbF k).sticky 8).raise pStrobe (stbF k).evDone else u := by
  simp only [State.fireLinked, hduty, ht, hidle, hu, Bool.false_eq_true, if_false]

end Linked

/-! ### Ends of pulses, the duty limit and shorts -/

section Pulse

variable {s : State}

/-- The end of a trigger's pulse (R225). -/
theorem execTrigPulseEnd_trigger {o : Fin 40} (ho : o.val < 32) (hidle : (s.sched (trigF o)).idleAt ≤ s.tb.beat + 2) :
    exec (.trigPulseEnd o) s = .next (s.setSched (trigF o) { s.sched (trigF o) with pulse := false }) := by
  change execTrigPulseEnd o s = _
  simp only [execTrigPulseEnd, ho, if_true, Nat.not_lt.mpr hidle, if_false]

/-- The end of a strobe's pulse adds its ticks to ON_TIME (R230). -/
theorem execTrigPulseEnd_strobe {o : Fin 40} {k : Nat} (ho : o.val = 32 + k)
    (hidle : (s.sched (stbF k)).idleAt ≤ s.tb.beat + 2) : exec (.trigPulseEnd o) s = .next (s.closeOn k) := by
  have hstrobe : ¬ o.val < 32 := by omega
  have hk : o.val - 32 = k := by omega
  change execTrigPulseEnd o s = _
  simp only [execTrigPulseEnd, hstrobe, hk, Nat.not_lt.mpr hidle, if_false]

/-- The duty cut of a running pulse whose window has no tick left (R230). -/
theorem execStrobeDutyCut_spent {k : Fin 8} (hpulse : (s.sched (stbF k)).pulse = true)
    (hactive : s.tb.beat + 2 < (s.sched (stbF k)).idleAt) (hspent : s.dutySpent k = true) :
    exec (.strobeDutyCut k) s = .next (s.dutyCut k) :=
  if_pos ⟨hpulse, hactive, hspent⟩

/-- A short of an output, whose bit stands at `i` of its field, begins or ends (R242). -/
theorem execOutputShort_eq {t u : State} {o : Fin 24} {on : Bool} {f : Fld} {e : Ev} {i : Nat}
    (ho : (o.val < 16 ∧ f = LINE.SHORT_TRG ∧ e = LINE.evTRG_SHORT ∧ i = o.val) ∨
      (o.val = 16 + i ∧ f = LINE.SHORT_STB ∧ e = LINE.evSTB_SHORT))
    (ht : s.setFld pLine f (putBit (s.fld pLine f) i on) = t)
    (hu : { t with live := Tab.set 0 t.live pLine (putBit (t.liveMask pLine) e.bit (t.fld pLine f != 0)) } = u) :
    exec (.outputShort ⟨o, on⟩) s = .next (if on = true ∧ bitAt (s.fld pLine f) i = false then u.raise pLine e else u) := by
  subst hu ht
  change execOutputShort ⟨o, on⟩ s = _
  rcases ho with ⟨hlt, rfl, rfl, rfl⟩ | ⟨heq, rfl, rfl⟩
  case inl => simp only [execOutputShort, hlt, if_true, Bool.and_eq_true, Bool.not_eq_true']
  case inr =>
    have hstrobe : ¬ o.val < 16 := by omega
    have hi : o.val - 16 = i := by omega
    simp only [execOutputShort, hstrobe, hi, if_false, Bool.and_eq_true, Bool.not_eq_true']

end Pulse

/-- Settles O19: the served registers; the firing on a grid, of triggers and strobes alike, and on linked ticks; and the ends of
pulses, windows and shorts. -/
theorem scheduleCommandsComplete : Obligations.ScheduleCommandsComplete := by
  refine ⟨fun s a w => ⟨?trigArm, ?trigDisarm, ?stbArm, ?stbDisarm, execOutSafe_served⟩, ?grid, ?linked,
    fun s o => ⟨execTrigPulseEnd_trigger, fun k => execTrigPulseEnd_strobe⟩, ?dutyCut, fun s => rfl,
    fun s t u o on f e i => execOutputShort_eq⟩
  case trigArm | trigDisarm | stbArm | stbDisarm => exact fun hs => congrArg Host.Outcome.next (State.armAccess_served hs)
  case grid =>
    intro s u v f i p n hu hfire harmed hlink hat hn hduty
    have hexec : exec i s = .next (u.fireGrid f p) := by
      subst hu
      rw [← State.fireTest_armed harmed hlink hat]
      rcases hfire with ⟨k, rfl, rfl⟩ | ⟨k, rfl, rfl, hown⟩
      · rfl
      · exact execStrobeFire_unlinked hown
    rw [hexec]
    exact ⟨fun hzero => congrArg Host.Outcome.next (State.fireGrid_early hn hzero),
      fun hpast hbusy => congrArg Host.Outcome.next (State.fireGrid_busy hn hduty hpast hbusy),
      fun w hpast hidle hw => congrArg Host.Outcome.next (State.fireGrid_fires hn hduty hpast hidle hw)⟩
  case linked =>
    intro s v t k d ds harmed hlink hdue hd hduty ht
    rw [execStrobeFire_linked harmed hlink hdue hd]
    exact ⟨fun hbusy => congrArg Host.Outcome.next (State.fireLinked_busy hduty ht hbusy),
      fun u hidle hu => congrArg Host.Outcome.next (State.fireLinked_fires hduty ht hidle hu)⟩
  case dutyCut =>
    rintro s u k hpulse hactive hspent rfl
    exact execStrobeDutyCut_spent hpulse hactive hspent

end Sys2Proof.Machine

/-!
Image ingest: CSI-2 packets, lines, lane synchronisation and bindings (R231 to R235, R240, R242, R249, Table 6.9).
-/

namespace Sys2Proof.Machine

/-! ### What a packet passes first -/

section Packet

variable {s k : State} {m : Fin 4} {p : CsiHead} (hen : s.enabled (pIngest m) = true) (hphy : s.phyOk = true)

include hen hphy

/-- A header that cannot be corrected (R231). -/
theorem execCsiFrameShortPacket_badHeader {e : Bool} (hecc : p.ecc = .uncorrectable) :
    exec (.csiFrameShortPacket m p e) s = .next (s.raise (pIngest m) INGEST.evHDR_ECC) := by
  change execCsiFrameShortPacket m p e s = _
  simp [execCsiFrameShortPacket, hen, hphy, hecc]

variable (hecc : p.ecc ≠ .uncorrectable)

include hecc

/-- A readable frame packet is ignored, or dropped where it has VCX (R231). -/
theorem execCsiFrameShortPacket_readable {e : Bool} : exec (.csiFrameShortPacket m p e) s =
    .next (if p.vcx = true then s.rxDrop m p.vc else s) := by
  change execCsiFrameShortPacket m p e s = _
  simp [execCsiFrameShortPacket, hen, hphy, hecc, apply_ite Host.Outcome.next]

/-- A packet with VCX is dropped and counted (R231). -/
theorem State.csiPacket_vcx (hvcx : p.vcx = true) : s.csiPacket m p k = s.rxDrop m p.vc := by
  rw [State.csiPacket, if_neg (by simp [hen, hphy])]
  split
  case h_1 hbad => exact absurd hbad hecc
  case h_2 => exact if_pos hvcx

/-- A readable packet of a virtual channel with an enabled binding has its own effect. -/
theorem State.csiPacket_bound (hvcx : p.vcx = false)
    (hbind : s.on (pIngest m) (INGEST.BIND_CFG_BIND_EN.at p.vc) = true) : s.csiPacket m p k = k := by
  rw [State.csiPacket, if_neg (by simp [hen, hphy])]
  split
  case h_1 hbad => exact absurd hbad hecc
  case h_2 => rw [hvcx, hbind]; rfl

end Packet

/-! ### Lines -/

section Line

variable {s t : State} {m v : Nat} {b : LineBuf} {corrected : Bool}

/-- A line end without a line drops the packet. -/
theorem State.lineEnd_none (hline : Tab.lookup (s.rx m).lines v = none) : s.lineEnd m v corrected = s.rxDrop m v := by
  simp only [State.lineEnd, hline]

/-- The end of an open line counts it and hands its tagged item to the pushes of the bound queue (R233, R456, R462). -/
theorem State.lineEnd_open {c : LineBuf} {u : State} {ps : List (List Nat)}
    (hline : Tab.lookup (s.rx m).lines v = some b) (hopen : b.drop = false)
    (hc : { b with corrected := b.corrected || corrected } = c) (hu : s.setLine m v none = u)
    (ht : u.bump (pIngest m) (INGEST.LINES_COUNT.at v) = t)
    (hps : pushPieces 28 (u.lineTag m v c ++ lineWords c.dt c.unpack c.bytes) = ps) : s.lineEnd m v corrected =
    (t.setRx m { t.rx m with out := (t.rx m).out ++ ps.zipIdx.map (fun e =>
      (⟨t.bindQueue m v, t.owner (pIngest m), e.1, e.2 + 1 == ps.length⟩ : RxPush)) }).rxPump m 8 := by
  subst hc hu ht hps
  rw [State.lineEnd, hline]
  exact if_neg (Bool.eq_false_iff.mp hopen)

/-- A long packet of an accepted type that fits its open line and the buffer adds its bytes to the line (R231, R233, R240). -/
theorem State.longPacket_fits {dt wc : Nat} {bytes : List Byte} {good : Bool}
    (hline : Tab.lookup (s.rx m).lines v = some b) (hopen : b.drop = false)
    (htype : (0x2A ≤ dt ∧ dt ≤ 0x2E) ∨ dt = s.fld (pIngest m) INGEST.RX_CFG_UDT)
    (hwant : s.fld (pIngest m) (INGEST.BIND_CFG_DT.at v) = 0x3F ∨ s.fld (pIngest m) (INGEST.BIND_CFG_DT.at v) = dt)
    (hroom : b.bytes.length + bytes.length ≤ lineRoom (if b.got = true then b.dt else dt) b.unpack)
    (hbuffer : ((s.rx m).lines.filter (fun e => e.1 != v)).foldl (fun n e => n + e.2.bytes.length) (s.rxWaiting m) +
      (b.bytes.length + bytes.length) ≤ 16384)
    (ht : (if good = true then s else s.raise (pIngest m) INGEST.evCRC_ERR) = t) :
    s.longPacket m v dt wc bytes good corrected = t.setLine m v (some { b with
      dt := if b.got = true then b.dt else dt
      wc := if b.got = true then b.wc else wc
      bytes := b.bytes ++ bytes
      crcErr := b.crcErr || !good
      corrected := b.corrected || corrected
      got := true
      trunc := b.trunc }) := by
  have haccepted : (!(decide (0x2A ≤ dt ∧ dt ≤ 0x2E) || dt == s.fld (pIngest m) INGEST.RX_CFG_UDT) ||
      (s.fld (pIngest m) (INGEST.BIND_CFG_DT.at v) != 0x3F &&
        s.fld (pIngest m) (INGEST.BIND_CFG_DT.at v) != dt)) = false := by
    rw [Bool.or_eq_false_iff]
    exact ⟨by simpa only [Bool.not_eq_false', Bool.or_eq_true, decide_eq_true_eq, beq_iff_eq] using htype,
      by simpa [Classical.or_iff_not_imp_left] using hwant⟩
  have hall : (b.bytes ++ bytes).take (lineRoom (if b.got = true then b.dt else dt) b.unpack) = b.bytes ++ bytes :=
    List.take_of_length_le (by rwa [List.length_append])
  simp only [State.longPacket, haccepted, hline, hopen, hall, List.length_append, Nat.not_lt.mpr hroom,
    Nat.not_lt.mpr hbuffer, ht, decide_false, Bool.or_false, Bool.false_eq_true, if_false]

end Line

/-! ### Lanes and bindings -/

section Lanes

variable {s t : State} {m : Fin 4} {lanes : BitVec 4} {clk : Bool} {was : Nat}
  (hwas : s.fld (pIngest m) INGEST.RX_STATUS_LANE_SYNC = was)
  (ht : (if clk = true then s else s.setFld (pIngest m) INGEST.RX_STATUS_CLK_ACTIVE 0) = t)

include hwas ht

/-- No lane that was in use is lost. -/
theorem execLaneSyncLoss_unused (hkept : was &&& lanes.toNat = was) :
    exec (.laneSyncLoss ⟨m, lanes, clk⟩) s = .next t := by
  change execLaneSyncLoss ⟨m, lanes, clk⟩ s = _
  simp only [execLaneSyncLoss, hwas, ht, hkept, if_true]

/-- The loss of a lane that was in use discards the open lines (R242). -/
theorem execLaneSyncLoss_used {u v : State} (hlost : was &&& lanes.toNat ≠ was)
    (hu : (t.rx m).lines.foldl (fun t e => if e.2.drop = true then t else t.rxDrop m e.1) t = u)
    (hv : (u.setRx m { u.rx m with lines := [] }).setFld (pIngest m) INGEST.RX_STATUS_LANE_SYNC
      (was &&& lanes.toNat) = v) :
    exec (.laneSyncLoss ⟨m, lanes, clk⟩) s =
      .next (if v.enabled (pIngest m) = true then v.raise (pIngest m) INGEST.evLANE_SYNC_ERR else v) := by
  change execLaneSyncLoss ⟨m, lanes, clk⟩ s = _
  simp only [execLaneSyncLoss, hwas, ht, hlost, hu, hv, if_false]

end Lanes

/-- A write of a binding stores it; a binding that the page's owner may not have stays disabled (R249, Table 6.9). -/
theorem State.ingestWrite_binding {s t : State} {hh m v w : Nat}
    (ht : s.writeFields (pIngest m) (s.fieldsOf (pIngest m) (0x200 + 0x20 * v)) w = t) :
    s.ingestWrite hh m (0x200 + 0x20 * v) w =
      if bitAt w 31 = true ∧ t.bindOwned m (bitsOf w 15 8) (bitsOf w 20 16) = false then
        (t.setFld (pIngest m) (INGEST.BIND_CFG_BIND_EN.at v) 0).raiseBy (pIngest m) INGEST.evBIND_DENIED hh
      else t := by
  have hbinding : 0x200 ≤ 0x200 + 0x20 * v ∧ (0x200 + 0x20 * v - 0x200) % 0x20 = 0 := by omega
  have hchannel : (0x200 + 0x20 * v - 0x200) / 0x20 = v := by omega
  rw [State.ingestWrite, if_pos hbinding, hchannel, ht]
  simp only [Bool.and_eq_true, Bool.not_eq_true']

theorem execBindCfgWrite_served {s : State} {a : Acc} {m v : Fin 4} {w : Word}
    (hs : s.serves a (pIngest m) (0x200 + 0x20 * v.val) true = true) : exec (.bindCfgWrite a m v w) s =
      .next ((s.answer [0]).ingestWrite a.hh m (0x200 + 0x20 * v.val) w.toNat) :=
  congrArg Host.Outcome.next (access_served hs)

/-- Settles O40: what a packet passes first, and then what a line's packets do; the lanes; and the binding. -/
theorem ingestCommandsComplete : Obligations.IngestCommandsComplete := by
  intro s m p
  refine ⟨fun hen hphy => ⟨fun hecc e => execCsiFrameShortPacket_badHeader hen hphy hecc, ?vcx, ?frame, ?bound⟩,
    fun lanes clk t u v was hwas ht => ⟨execLaneSyncLoss_unused hwas ht, execLaneSyncLoss_used hwas ht⟩, fun _ => rfl,
    ?binding⟩
  case vcx =>
    intro hecc hvcx e n
    have hdrop {k : State} := State.csiPacket_vcx (k := k) hen hphy hecc hvcx
    exact ⟨by rw [execCsiFrameShortPacket_readable hen hphy hecc, if_pos hvcx], congrArg Host.Outcome.next hdrop,
      congrArg Host.Outcome.next hdrop⟩
  case frame =>
    intro hecc hvcx e
    rw [execCsiFrameShortPacket_readable hen hphy hecc, if_neg (Bool.eq_false_iff.mp hvcx)]
  case bound =>
    intro hecc hvcx hbind
    have hpass {k : State} := State.csiPacket_bound (k := k) hen hphy hecc hvcx hbind
    refine ⟨fun n => ⟨congrArg Host.Outcome.next hpass,
      fun hline => congrArg Host.Outcome.next (hpass.trans (State.lineEnd_none hline)), ?lineEnd⟩, ?long⟩
    case lineEnd =>
      intro b c t u ps hline hopen hc hu ht hps
      exact congrArg Host.Outcome.next (hpass.trans (State.lineEnd_open hline hopen hc hu ht hps))
    case long =>
      intro dt wc bytes good b t hline hopen htype hwant hroom hbuffer ht
      exact congrArg Host.Outcome.next (hpass.trans (State.longPacket_fits hline hopen htype hwant hroom hbuffer ht))
  case binding =>
    intro a v w t hs ht
    rw [execBindCfgWrite_served hs, State.ingestWrite_binding ht]

end Sys2Proof.Machine

/-!
The Weighhouse's meter and its records (R251, R252, R256 to R258, R260 to R264, R269, R287).
-/

namespace Sys2Proof.Machine

/-! ### The meter -/

/-- Two outcomes that differ at most in the Weighhouse die agree where the dies do. -/
theorem next_wh {s : State} {w x : Weigh} (h : w = x) : (.next { s with wh := w } : Out) = .next { s with wh := x } := by
  rw [h]

section Meter

variable {w : Weigh} {n : Nat} {c : MeterCh} (hc : w.ch n = c)

include hc

/-- New levels of A and B on a running die: the decoded edge, negated by INV_DIR, is counted on a channel that counts
(R251). -/
theorem Weigh.edge_running {a b : Bool} {d : Int} (hrun : w.halted = false)
    (hd : edgeDelta (bitsOf (w.param 5) (2 * n + 1) (2 * n)) c.a c.b a b = d) :
    w.edge n a b = if d = 0 ∨ w.counts n = false then w.setCh n { c with a := a, b := b }
      else (w.setCh n { c with a := a, b := b }).counted n (if bitAt (w.param 5) (4 + n) then -d else d) := by
  rw [Weigh.edge, if_neg (Bool.eq_false_iff.mp hrun)]
  simp only [hc, hd, Bool.not_eq_true']

/-- A level of Z that is no assertion, or on a channel that does not measure, is only taken (R256). -/
theorem Weigh.index_taken {z : Bool} (h : z = false ∨ c.z = true ∨ w.counts n = false ∨ w.param (3 + n) = 0) :
    w.index n z = w.setCh n { c with z := z } := by
  have htaken : (!z || c.z || !w.measures n) = true := by
    rw [Weigh.measures]
    rcases h with h | h | h | h <;> simp [h]
  simp only [Weigh.index, hc, htaken, if_true]

/-- The assertion of Z on a channel that measures: d restarts, and after a first assertion a revolution is recorded (R256). -/
theorem Weigh.index_asserted {x : Weigh} (hz : c.z = false) (hcounts : w.counts n = true) (hepr : w.param (3 + n) ≠ 0)
    (hx : (w.setCh n { c with z := true }).setCh n { c with z := true, pos := 0, seen := true } = x) :
    w.index n true =
      if c.seen = true then x.revolution n ((c.pos.natAbs : Int) - (w.param (3 + n) : Nat)) else x := by
  have hmeasures : (!true || c.z || !w.measures n) = false := by simp [Weigh.measures, hz, hcounts, hepr]
  simp only [Weigh.index, hc, hmeasures, hx, Bool.false_eq_true, if_false]

/-- A wiring condition that the tally has not met yet (R260). -/
theorem Weigh.wireFault_new {kind : Nat} (hnew : bitAt c.wired kind = false) : w.wireFault n kind =
    ((w.setCh n { c with wired := setBit c.wired kind }).log 0x10 n (2 ^ kind) 0).suspectBy n 3 := by
  simp only [Weigh.wireFault, hc, hnew, Bool.false_eq_true, if_false]

end Meter

/-! ### Requests that are served, and the records they ask for -/

/-- A request that the Weighhouse serves afresh has its own effect on the state with the turn given back (R280, R281). -/
theorem next_whServe {s t u : State} {i : Instr} {op sub tag : Nat} {k : State → State} (hs : s.whServes op tag = true)
    (ht : { s with wh := { s.wh with turn := false } } = t) (hu : k t = u) :
    (.next (s.whServe i op sub tag k) : Out) = .next u := by
  rw [whServe_served hs, ht, hu]

section Records

variable {s t : State} {tag : BitVec 8}

/-- CLOSE_TALLY with room in the store closes the tally with reason REQUEST (R262). -/
theorem execCloseTally_room {coil sid : BitVec 64} (hs : s.whServes 2 tag.toNat = true)
    (ht : { s with wh := { s.wh with turn := false } } = t) (hid : t.wh.idBad = false) (hroom : t.wh.storeUsed < 128) :
    exec (.closeTally tag coil sid) s = .next (({ t with
      wh := (t.wh.close (Config.free t.freeIdx) 0 coil.toNat sid.toNat id
        (some ⟨2, 0, 0, tag.toNat, leBytes 4 t.wh.tallyNo⟩)) } : State).drew) := by
  exact next_whServe hs ht ((if_neg (Bool.eq_false_iff.mp hid)).trans (if_neg (Nat.not_le.mpr hroom)))

/-- CLOSE_TALLY on a full store is refused and ledgered (R287). -/
theorem execCloseTally_full {coil sid : BitVec 64} (hs : s.whServes 2 tag.toNat = true)
    (ht : { s with wh := { s.wh with turn := false } } = t) (hid : t.wh.idBad = false) (hfull : 128 ≤ t.wh.storeUsed) :
    exec (.closeTally tag coil sid) s =
      .next (({ t with wh := t.wh.log 0x14 2 0 t.wh.tallyNo } : State).whAnswer 2 0 3 tag.toNat []) := by
  exact next_whServe hs ht ((if_neg (Bool.eq_false_iff.mp hid)).trans (if_pos hfull))

/-- STAMP acknowledges, and signs, keeps and answers the record of what it leaves (R264, R269). -/
theorem execWhStamp_served {sid nonce : BitVec 64} {al at_ : BitVec 32} {w : Weigh} {r : List Byte}
    (hs : s.whServes 3 tag.toNat = true) (ht : { s with wh := { s.wh with turn := false } } = t)
    (hid : t.wh.idBad = false) (hw : t.wh.acknowledge al.toNat at_.toNat = w)
    (hr : signedRecord (w.stampWords sid.toNat nonce.toNat) = r) : exec (.whStamp tag sid nonce al at_) s =
      .next (({ t with wh := { w with stamp := some r } } : State).whAnswer 3 0 0 tag.toNat r) := by
  subst hw hr
  exact next_whServe hs ht (if_neg (Bool.eq_false_iff.mp hid))

/-- The oldest unsigned record, on main power with a good identity area, is signed and stored (R262). -/
theorem execRecordSigned_signs {u : Unsigned} {rest : List Unsigned} {w : Weigh} (hsigning : s.wh.signing = u :: rest)
    (hsrc : s.wh.src = 0) (hrun : s.wh.halted = false) (hid : s.wh.idBad = false)
    (hw : ({ s.wh with signing := rest } : Weigh).storeTally u.no (signedRecord u.words) = w) :
    exec .recordSigned s = .next { s with wh := u.answer.elim w w.reply } := by
  have hsigns : ¬ (s.wh.src ≠ 0 ∨ s.wh.halted = true ∨ s.wh.idBad = true) := by simp [hsrc, hrun, hid]
  change execRecordSigned s = _
  simp only [execRecordSigned, hsigning, hsigns, hw, if_false]
  cases u.answer <;> rfl

end Records

/-- Settles O22: the die's own rules for edges, Z and wiring, and a lemma for each request of a record. -/
theorem meterAndRecordsComplete : Obligations.MeterAndRecordsComplete := by
  refine ⟨?meter, ?close, ?stamp, ?signed⟩
  case meter =>
    intro s n c hrun hc
    refine ⟨fun a b d hd => next_wh (Weigh.edge_running hc hrun hd), fun z hz => next_wh (Weigh.index_taken hc hz),
      fun hz hcounts hepr => next_wh (Weigh.index_asserted hc hz hcounts hepr rfl), ?other, ?wiring⟩
    case other => exact fun kind hkind => congrArg Host.Outcome.next (if_pos (.inr hkind))
    case wiring =>
      intro kind hkind hnew
      have hgo : ¬ (s.wh.halted = true ∨ 5 ≤ kind.val) := by simp [hrun, hkind]
      exact (congrArg Host.Outcome.next (if_neg hgo)).trans (next_wh (Weigh.wireFault_new hc hnew))
  case close =>
    rintro s t tag coil sid hs rfl hid
    exact ⟨execCloseTally_room hs rfl hid, execCloseTally_full hs rfl hid⟩
  case stamp =>
    rintro s t tag sid nonce al at_ w r hs rfl hid hw hr
    exact execWhStamp_served hs rfl hid hw hr
  case signed =>
    intro s u rest w hsigning hsrc hrun hid hw
    have hsigned := execRecordSigned_signs hsigning hsrc hrun hid hw
    exact ⟨fun r hr => by rw [hsigned, hr]; rfl, fun hr => by rw [hsigned, hr]; rfl⟩

end Sys2Proof.Machine

/-!
The requests that read the Weighhouse (R278, R280, R288).
-/

namespace Sys2Proof.Machine

section Reads

variable {s t : State} {tag : BitVec 8} (hs : s.whServes 1 tag.toNat = true)
  (ht : { s with wh := { s.wh with turn := false } } = t)

include hs ht

/-- READ LEDGER over words that can all be read: the entries, where all of them are held (R278, R288). -/
theorem execWhReadLedger_sound {l : BitVec 32} {c : BitVec 16} {es : List (Option (Nat × Nat))}
    (hes : (List.range c.toNat).map (fun k => t.wh.entry ((l.toNat + k) % 2 ^ 32)) = es) :
    exec (.whReadLedger tag l c none) s = .next (if 256 < c.toNat then t.whAnswer 1 1 5 tag.toNat []
      else if es.all Option.isSome = true ∧ c ≠ 0
        then t.whAnswer 1 1 0 tag.toNat (es.flatMap (fun e => entryBytes (e.getD (0, 0))))
      else t.whAnswer 1 1 4 tag.toNat []) := by
  refine next_whServe hs ht ?_
  simp only [hes, Bool.and_eq_true, bne_iff_ne]

/-- READ TALLY of a record in the store. -/
theorem execWhReadTally_found {no : BitVec 32} {e : Nat × List Byte}
    (he : t.wh.store.find? (fun e => e.1 == no.toNat) = some e) :
    exec (.whReadTally tag no none) s = .next (t.whAnswer 1 2 0 tag.toNat e.2) := by
  refine next_whServe hs ht ?_
  simp only [he]

theorem execWhReadTally_absent {no : BitVec 32} (he : t.wh.store.find? (fun e => e.1 == no.toNat) = none) :
    exec (.whReadTally tag no none) s = .next (t.whAnswer 1 2 4 tag.toNat []) := by
  refine next_whServe hs ht ?_
  simp only [he]

/-- READ STAMP answers the last stamp record. -/
theorem execWhReadStamp_kept {r : List Byte} (hr : t.wh.stamp = some r) :
    exec (.whReadStamp tag) s = .next (t.whAnswer 1 6 0 tag.toNat r) := by
  refine next_whServe hs ht ?_
  simp only [hr]

theorem execWhReadStamp_none (hr : t.wh.stamp = none) :
    exec (.whReadStamp tag) s = .next (t.whAnswer 1 6 4 tag.toNat []) := by
  refine next_whServe hs ht ?_
  simp only [hr]

end Reads

/-- An OP and SUB that Table 7.11 does not list are answered BAD_OP. -/
theorem execWhbBadOp_served {s : State} {tag : BitVec 8} {op sub : Fin 16} (hlist : whListed op sub = false)
    (hs : s.whServes op tag.toNat = true) : exec (.whbBadOp tag op sub) s =
      .next (({ s with wh := { s.wh with turn := false } } : State).whAnswer op sub 1 tag.toNat []) :=
  (if_neg (Bool.eq_false_iff.mp hlist)).trans (next_whServe hs rfl rfl)

/-- Settles O23: `next_whServe` gives each request its answer; a lemma for each that looks something up. -/
theorem weighhouseReadsComplete : Obligations.WeighhouseReadsComplete := by
  rintro s t tag n rfl rfl
  refine ⟨fun hs => ⟨next_whServe hs rfl rfl, fun l c es => execWhReadLedger_sound hs rfl,
    fun l c b => next_whServe hs rfl rfl, fun no => ⟨fun e => execWhReadTally_found hs rfl, execWhReadTally_absent hs rfl,
      fun b => next_whServe hs rfl rfl⟩, next_whServe hs rfl rfl, next_whServe hs rfl rfl, next_whServe hs rfl rfl,
    fun r => execWhReadStamp_kept hs rfl, execWhReadStamp_none hs rfl⟩, fun op sub => execWhbBadOp_served⟩

end Sys2Proof.Machine

/-!
The seal's commands: SEAL NONCE, SEAL OPEN and SEAL PARAM (R270, R272 to R274, R276, R279, R286).
-/

namespace Sys2Proof.Machine

section SealOpen

variable {s t : State} {tag : BitVec 8} {r g : BitVec 256} {w : Weigh} (hs : s.whServes 4 tag.toNat = true)
  (ht : { s with wh := { s.wh with turn := false } } = t) (hw : { t.wh with nonce := none } = w)

include hs ht hw

/-- Within 60 s of a refusal: RATE, which is counted (R286). -/
theorem execSealOpen_rate (h : t.openRefusal r.toNat g.toNat = some 7) : exec (.sealOpen tag r g) s =
    .next (({ t with wh := { w with rate := w.rate + 1 } } : State).whAnswer 4 1 3 tag.toNat [7]) := by
  subst hw
  refine next_whServe hs ht ?_
  simp only [h]

/-- Another refusal is ledgered with the RATE count, which starts anew where the entry found room (R286). -/
theorem execSealOpen_refused {c : Nat} (h : t.openRefusal r.toNat g.toNat = some c) (hc : c ≠ 7) :
    exec (.sealOpen tag r g) s = .next (({ t with wh := if w.takes 0x06 = true
      then { w.log 0x06 2 c w.rate with rate := 0, refusedAt := some w.ns } else w.log 0x06 2 c w.rate } :
        State).whAnswer 4 1 3 tag.toNat [BitVec.ofNat 8 c]) := by
  subst hw
  refine next_whServe hs ht ?_
  simp only [h]

/-- An accepted opening counts the seal, is ledgered and closes the tally with reason SEAL (R274). -/
theorem execSealOpen_accepted (h : t.openRefusal r.toNat g.toNat = none) : exec (.sealOpen tag r g) s =
    .next (({ t with
      wh := ((({ w with sealCount := w.sealCount + 1 } : Weigh).log 0x04 2 0 (w.sealCount + 1)).close
        (Config.free t.freeIdx) 1 0 0 (fun x => { x with sealSt := 2 }) (some ⟨4, 1, 0, tag.toNat, leBytes 4 2⟩)) } :
      State).drew) := by
  subst hw
  refine next_whServe hs ht ?_
  simp only [h]

end SealOpen

section SealParam

variable {s t : State} {tag id : BitVec 8} {body : List Byte} (hs : s.whServes 4 tag.toNat = true)
  (ht : { s with wh := { s.wh with turn := false } } = t)

include hs ht

/-- SEAL PARAM is turned away by what it asks for (R279). -/
theorem execSealParam_refused {r : Nat} {p : List Byte} (h : t.wh.paramRefusal id.toNat body = some (r, p)) :
    exec (.sealParam tag id body) s = .next (t.whAnswer 4 2 r tag.toNat p) := by
  refine next_whServe hs ht ?_
  simp only [h]

/-- A FACTORY die whose switch is high refuses a change with reason STATE (R276). -/
theorem execSealParam_factory (h : t.wh.paramRefusal id.toNat body = none) (hfactory : t.wh.factorySwitch = true) :
    exec (.sealParam tag id body) s = .next (t.whAnswer 4 2 3 tag.toNat [1]) := by
  refine next_whServe hs ht ?_
  simp only [h, hfactory, if_true]

/-- Otherwise the parameter is changed (R270). -/
theorem execSealParam_changes (h : t.wh.paramRefusal id.toNat body = none) (hfactory : t.wh.factorySwitch = false) :
    exec (.sealParam tag id body) s = .next
      (({ t with wh := (t.wh.changeParam (Config.free t.freeIdx) tag.toNat id.toNat body) } : State).drew) := by
  refine next_whServe hs ht ?_
  simp only [h, hfactory, Bool.false_eq_true, if_false]

end SealParam

section FactorySwitch

variable {w : Weigh}

theorem Weigh.factorySwitch_high (hst : w.sealSt = 0) (hhigh : w.sealLow = false) : w.factorySwitch = true := by
  simp [Weigh.factorySwitch, hst, hhigh]

theorem Weigh.factorySwitch_passed (h : w.sealSt ≠ 0 ∨ w.sealLow = true) : w.factorySwitch = false := by
  rcases h with hst | hlow
  · simp [Weigh.factorySwitch, hst]
  · simp [Weigh.factorySwitch, hlow]

end FactorySwitch

/-- Settles O24: SEAL OPEN and SEAL PARAM by what refuses them. -/
theorem sealCommandsComplete : Obligations.SealCommandsComplete := by
  refine ⟨?nonce, ?opening, ?param⟩
  case nonce =>
    rintro s t tag n b rfl hs rfl rfl
    exact next_whServe hs rfl rfl
  case opening =>
    rintro s t tag n r g w rfl hs rfl hw
    exact ⟨execSealOpen_rate hs rfl hw, fun c => execSealOpen_refused hs rfl hw, execSealOpen_accepted hs rfl hw⟩
  case param =>
    rintro s t tag id n body rfl hs rfl
    exact ⟨fun r p => execSealParam_refused hs rfl,
      fun h hst hhigh => execSealParam_factory hs rfl h (Weigh.factorySwitch_high hst hhigh),
      fun h hswitch => execSealParam_changes hs rfl h (Weigh.factorySwitch_passed hswitch)⟩

end Sys2Proof.Machine

/-!
The core side of the Weighhouse bridge (R278, R282, R284, R293, R297, R714).
-/

namespace Sys2Proof.Machine

/-! ### Writes of the block's registers -/

section Writes

variable {s : State}

/-- A write of REQ_CTRL stores its fields; GO on an idle block sends the request, or waits for the first READ STATUS (R282,
R714). -/
theorem State.reqCtrl_eq {t : State} {w : Nat} (ht : ((s.setFld pWhb WHB.REQ_CTRL_OP (bitsOf w 27 24)).setFld pWhb
      WHB.REQ_CTRL_SUB (bitsOf w 23 20)).setFld pWhb WHB.REQ_CTRL_LEN (min 256 (bitsOf w 8 0)) = t) :
    s.reqCtrl w = if bitAt w 31 = true ∧ s.on pWhb WHB.REQ_STATUS_BUSY = false then
      (if s.wb.ready = true then t.whbGo
        else ({ t with wb := { t.wb with goDue := true } } : State).setFld pWhb WHB.REQ_STATUS_BUSY 1) else t := by
  simp only [State.reqCtrl, ht, Bool.and_eq_true, Bool.not_eq_true']

/-- An SL register is not passed on while the seal reads closed or the block is busy, and OPENER_KEY never (R297). -/
theorem State.slWrite_refused {id w : Nat}
    (h : s.fld pWhb WHB.MIRROR_SEAL_STATE = 1 ∨ s.on pWhb WHB.REQ_STATUS_BUSY = true ∨ id = 11) :
    s.slWrite id w = s.raiseBy pWhb WHB.evPARAM_REFUSED 15 :=
  if_pos h

section Passed

variable {id w : Nat} (hseal : s.fld pWhb WHB.MIRROR_SEAL_STATE ≠ 1) (hidle : s.on pWhb WHB.REQ_STATUS_BUSY = false)
  (hid : id ≠ 11)

include hseal hidle hid

/-- Any other write of an SL register is passed on after the first READ STATUS (R297). -/
theorem State.slWrite_ready (hready : s.wb.ready = true) : s.slWrite id w = s.slSend id w :=
  (if_neg (by simp [hseal, hidle, hid])).trans (if_pos hready)

/-- Before the first READ STATUS it waits for that (R714). -/
theorem State.slWrite_waits (hready : s.wb.ready = false) : s.slWrite id w =
    ({ s with wb := { s.wb with slDue := some (id, w) } } : State).setFld pWhb WHB.REQ_STATUS_BUSY 1 :=
  (if_neg (by simp [hseal, hidle, hid])).trans (if_neg (Bool.eq_false_iff.mp hready))

end Passed

/-- The register of index 10 is that of parameter 11, OPENER_KEY (Table 7.12). -/
theorem eq_ten_iff_openerKey (k : Fin 12) : k = 10 ↔ k.val + 1 = 11 := by
  rw [Fin.ext_iff]
  exact (Nat.add_left_inj (n := 1)).symm

theorem execSlParamWrite_served {a : Acc} {k : Fin 12} {w : Word} {t : State}
    (hs : s.serves a pWhb (0x200 + 4 * k.val) true = true) (ht : (s.answer [0]).slWrite (k.val + 1) w.toNat = t) :
    exec (.slParamWrite a k w) s = .next t :=
  congrArg Host.Outcome.next ((access_served hs).trans ht)

end Writes

/-! ### Responses, retries and the mirror -/

section Response

variable {s t : State} {f : List Byte} (hlane : s.wh.lane = some f) (ht : { s with wh := { s.wh with lane := none } } = t)

include hlane ht

theorem execWhbResponse_idle (hreq : s.wb.req = none) : exec .whbResponse s = .next t := by
  change execWhbResponse s = _
  simp only [execWhbResponse, hlane, ht, hreq]

variable {op sub : Nat} {p : List Byte} (hreq : s.wb.req = some (op, sub, p))

include hreq

/-- A frame whose form or CRC is wrong is counted (R293). -/
theorem execWhbResponse_unreadable (hrsp : rspOf f = none) :
    exec .whbResponse s = .next (t.bump pWhb WHB.BRIDGE_STATS_ERRORS) := by
  change execWhbResponse s = _
  simp only [execWhbResponse, hlane, ht, hreq, hrsp]

/-- A response completes the request whose TAG and OP it carries, and is counted otherwise (R282, R293). -/
theorem execWhbResponse_read {r : WhRsp} (hrsp : rspOf f = some r) : exec .whbResponse s =
    .next (if r.op = op ∧ r.tag = s.fld pWhb WHB.REQ_STATUS_TAG then t.whbComplete op sub p r
      else t.bump pWhb WHB.BRIDGE_STATS_ERRORS) := by
  change execWhbResponse s = _
  simp only [execWhbResponse, hlane, ht, hreq, hrsp, apply_ite Host.Outcome.next]

end Response

section Retry

variable {s : State} {op sub n : Nat} {p : List Byte} (hreq : s.wb.req = some (op, sub, p))

include hreq

theorem execWhbRetryTimeout_early (hearly : s.tb.beat < s.wb.sentAt + 200000000) :
    exec .whbRetryTimeout s = .next s := by
  change execWhbRetryTimeout s = _
  simp only [execWhbRetryTimeout, hreq, hearly, if_true]

variable (hn : s.fld pWhb WHB.REQ_STATUS_ATTEMPTS = n) (hdue : s.wb.sentAt + 200000000 ≤ s.tb.beat)

include hn hdue

/-- Up to three attempts send the same frame (R282). -/
theorem execWhbRetryTimeout_again (hfew : n < 3) : exec .whbRetryTimeout s =
    .next (((({ s with wb := { s.wb with sentAt := s.tb.beat } } : State).setFld pWhb
      WHB.REQ_STATUS_ATTEMPTS (n + 1)).bump pWhb WHB.BRIDGE_STATS_RETRIES).send "BRIDGE" 0
      ((bridgeFrame op sub (s.fld pWhb WHB.REQ_STATUS_TAG) p).map BitVec.toNat)) := by
  change execWhbRetryTimeout s = _
  simp only [execWhbRetryTimeout, hreq, hn, Nat.not_lt.mpr hdue, hfew, if_false, if_true]

/-- After the third attempt the request ends with TIMEOUT and BRIDGE_ERR (R282). -/
theorem execWhbRetryTimeout_ends {t u : State} (hmany : 3 ≤ n)
    (ht : (s.setFld pWhb WHB.REQ_STATUS_RESULT 7).raiseBy pWhb WHB.evBRIDGE_ERR s.wb.asker = t)
    (hu : (if s.wb.kind = 0 then (t.setFld pWhb WHB.REQ_STATUS_DONE 1).setFld pWhb WHB.REQ_STATUS_RSP_LEN 0 else t) = u) :
    exec .whbRetryTimeout s = .next (if op = 1 ∧ sub = 0 then u.staleMirror else u).whbFree := by
  change execWhbRetryTimeout s = _
  simp only [execWhbRetryTimeout, hreq, hn, Nat.not_lt.mpr hdue, Nat.not_lt.mpr hmany, ht, hu, if_false]

end Retry

/-- Settles O25: what a write of each register does, a lemma for each fate of a response and of a retry, and the mirror. -/
theorem bridgeCommandsComplete : Obligations.BridgeCommandsComplete := by
  refine ⟨?go, ?sl, ?response, fun s => ⟨rfl, rfl⟩, ?retry, ?mirror⟩
  case go =>
    intro s t a w hs ht
    exact congrArg Host.Outcome.next ((access_served hs).trans (State.reqCtrl_eq ht))
  case sl =>
    intro s a k w hs
    have hkey := eq_ten_iff_openerKey k
    exact ⟨fun hseal hidle hk hready =>
        execSlParamWrite_served hs (State.slWrite_ready hseal hidle (mt hkey.mpr hk) hready),
      fun hseal hidle hk hready =>
        execSlParamWrite_served hs (State.slWrite_waits hseal hidle (mt hkey.mpr hk) hready),
      fun h => execSlParamWrite_served hs (State.slWrite_refused (h.imp_right (Or.imp_right hkey.mp)))⟩
  case response =>
    intro s t f hlane ht
    exact ⟨execWhbResponse_idle hlane ht, fun op sub p hreq => ⟨execWhbResponse_unreadable hlane ht hreq,
      fun r => execWhbResponse_read hlane ht hreq⟩⟩
  case retry =>
    intro s op sub n p hreq hn
    refine ⟨execWhbRetryTimeout_early hreq, fun hdue => ⟨execWhbRetryTimeout_again hreq hn hdue, ?_⟩⟩
    intro hmany t u ht hu
    rw [execWhbRetryTimeout_ends hreq hn hdue hmany ht hu, apply_ite State.whbFree]
    rfl
  case mirror =>
    exact fun s => ⟨fun h => if_neg (Bool.eq_false_iff.mp h), fun h => if_pos h⟩

end Sys2Proof.Machine

/-!
The requests of a motor channel, its start sequence, its restarts, its Hall code and its pages' own writes (R302 to R306, R315,
R322, R325 to R328, R333).
-/

namespace Sys2Proof.Machine

/-! ### Served requests -/

/-- A served access leads where its effect on the answered state leads. -/
theorem next_access_served {s u : State} {i : Instr} {a : Acc} {p off : Nat} {w : Bool} {k : State → State}
    (hs : s.serves a p off w = true) (hu : k (s.answer [0]) = u) : (.next (s.access i a p off w k) : Out) = .next u :=
  congrArg Host.Outcome.next ((access_served hs).trans hu)

section Requests

variable {s : State} {n : Nat}

/-- A start request with a refusal cause records it (R302). -/
theorem State.startReq_refused {hh c : Nat} (hoff : s.motorState n = 0) (hcause : s.startRefusal n = some c) :
    s.startReq n hh =
      ((s.setFld (pMotor n) MOTOR.STATUS_REFUSE_CAUSE c).raiseBy (pMotor n) MOTOR.evSTART_REFUSED hh).drew := by
  simp only [State.startReq, hoff, hcause, ne_eq, not_true_eq_false, if_false]

/-- A start request that nothing refuses begins the diagnostics, or CAL where they are disabled (R302, R303). -/
theorem State.startReq_begins {hh : Nat} {t u : State} {m : MotorSt} (hoff : s.motorState n = 0)
    (hcause : s.startRefusal n = none) (ht : (s.gatesOff n).setFld (pMotor n) MOTOR.STATUS_FACET_LOCKED 0 = t)
    (hm : (t.mo n).rest = m) (hu : t.setMo n { m with trimTarget := t.fld (pMotor n) MOTOR.FACET_TRIM_TRIM } = u) :
    s.startReq n hh = if s.on (pGate n) GATE.DIAG_CFG_DIAG_DIS = true then u.setMotorState n 2
      else (u.setMotorState n 1).diagBegin n true := by
  simp only [State.startReq, State.modMo, hoff, hcause, ht, hm, hu, ne_eq, not_true_eq_false, if_false]

section Stop

variable (hlow : 3 ≤ s.motorState n) (hhigh : s.motorState n ≤ 9)

include hlow hhigh

/-- From DETECT to STOPPING a stop request decelerates (R322). -/
theorem State.stopReq_stopping (hmode : s.on (pMotor n) MOTOR.MODE_STOP_MODE = false) :
    s.stopReq n = s.setMotorState n 9 := by
  have hdriven : ¬ (s.motorState n = 11 ∨ s.motorState n = 0) := by omega
  have hquiet : ¬ (s.motorState n = 1 ∨ s.motorState n = 2 ∨ s.motorState n = 10) := by omega
  simp only [not_or] at hquiet
  simp only [State.stopReq, hdriven, hquiet, hmode, Bool.false_eq_true, or_self, if_false]

/-- With STOP_MODE the same request turns the channel off at once (R322). -/
theorem State.stopReq_off {t : State} (hmode : s.on (pMotor n) MOTOR.MODE_STOP_MODE = true) (ht : s.motorOff n = t) :
    s.stopReq n = t.setGt n { t.gt n with diag := 0, cst := 0 } := by
  have hdriven : ¬ (s.motorState n = 11 ∨ s.motorState n = 0) := by omega
  simp only [State.stopReq, State.modGt, hdriven, hmode, ht, or_true, if_false, if_true]

end Stop

/-- OFFSET_CAL in OFF enters CAL (R304). -/
theorem State.offsetCal_off {t : State} (hoff : s.motorState n = 0) (ht : s.setMotorState n 2 = t) :
    s.offsetCal n = t.setMo n { t.mo n with calOnly := true, calN := 0, calSum := [] } := by
  simp only [State.offsetCal, State.modMo, hoff, ht, if_true]

end Requests

/-! ### The start sequence -/

/-- A fold over the three phases, written out. -/
theorem foldl_phases {α : Type} (f : α → Nat → α) (x : α) : (List.range 3).foldl f x = f (f (f x 0) 1) 2 := rfl

section StartSequence

variable {s : State} {n : Fin 4}

/-- The 64th sample ends CAL: the rounded means of all 64 are the offsets (R304). -/
theorem execMotorCalDone_last {r t : State} {u v w : BitVec 14} {sum : Nat → Nat} (hcal : s.motorState n = 2)
    (hsummed : 63 ≤ (s.mo n).calN) (hsum : ∀ k, nth 0 (s.mo n).calSum k = sum k)
    (hr : s.sampleTick n [u.toNat, v.toNat, w.toNat] = r)
    (ht : ((r.setFld pOuvgor (OUVGOR.ADC_OFFSET_OFFSET.at (3 * n)) ((sum 0 + u.toNat + 32) / 64)).setFld pOuvgor
      (OUVGOR.ADC_OFFSET_OFFSET.at (3 * n + 1)) ((sum 1 + v.toNat + 32) / 64)).setFld pOuvgor
      (OUVGOR.ADC_OFFSET_OFFSET.at (3 * n + 2)) ((sum 2 + w.toNat + 32) / 64) = t) :
    exec (.motorCalDone n u v w) s = .next (if (s.mo n).calOnly = true then t.motorOff n else t.startAngle n) := by
  have hends : ¬ (s.motorState n ≠ 2 ∨ (s.mo n).calN < 63) := by omega
  have hmeans : (List.range 3).foldl (fun (x : State) k => x.setFld pOuvgor (OUVGOR.ADC_OFFSET_OFFSET.at (3 * n + k))
      ((sum k + nth 0 [u.toNat, v.toNat, w.toNat] k + 32) / 64)) r = t := (foldl_phases _ _).trans ht
  change execMotorCalDone n u v w s = _
  simp only [execMotorCalDone, hends, hsum, hr, hmeans, if_false, apply_ite Host.Outcome.next]

/-- DETECT ends after its 12 vectors: peaks that agree name no sector and lead to ALIGN, else the largest names it (R305). -/
theorem execMotorDetectDone_ends {peaks : List (Fin 16384)} {l : List Nat} {hi lo k : Nat} (hdetect : s.motorState n = 3)
    (hvectors : 12 ≤ (s.detect n).detK) (hl : (List.range 12).map (fun k => nth 0 (peaks.map Fin.val) k) = l)
    (hhi : l.foldl max 0 = hi) (hlo : l.foldl min hi = lo) (hk : l.findIdx (· == hi) = k) :
    exec (.motorDetectDone n peaks) s =
      if (hi - lo) * 32 < lo then .next ((s.raise (pMotor n) MOTOR.evDETECT_FAIL).setMotorState n 4)
      else .next ((s.setFld (pMotor n) MOTOR.STATUS_SECTOR k).angleTaken n (k * 2 ^ 32 / 12)) := by
  have hends : ¬ (s.motorState n ≠ 3 ∨ (s.detect n).detK < 12) := by omega
  change execMotorDetectDone n peaks s = _
  simp only [execMotorDetectDone, argMax, hends, hl, hhi, hlo, hk, if_false]

/-- ALIGN ends at ALIGN_TIME with angle 0 (R306). -/
theorem execMotorAlignDone_due (halign : s.motorState n = 4)
    (hdue : (s.mo n).stateAt + s.fld (pMotor n) MOTOR.ALIGN_ALIGN_TIME * 65536 ≤ s.tb.beat) :
    exec (.motorAlignDone n) s = .next (s.angleTaken n 0) :=
  if_neg (not_or.mpr ⟨fun h => h halign, Nat.not_lt.mpr hdue⟩)

end StartSequence

/-! ### Restarts and stalls -/

section Restarts

variable {s : State} {n : Fin 4}

/-- After RESTART_DELAY the start sequence begins again at step 3 (R328). -/
theorem execMotorRestart_due {t : State} (hwait : s.motorState n = 10)
    (hdue : (s.mo n).stateAt + s.fld (pMotor n) MOTOR.RESTART_DELAY * 65536 ≤ s.tb.beat)
    (ht : (s.bump (pMotor n) MOTOR.STATUS_RESTARTS).raise (pMotor n) MOTOR.evRESTART = t) :
    exec (.motorRestart n) s = .next ((t.setMo n (t.mo n).rest).startAngle n) := by
  subst ht
  exact if_neg (not_or.mpr ⟨fun h => h hwait, Nat.not_lt.mpr hdue⟩)

theorem runState_iff {st : Nat} : runState st = true ↔ st = 6 ∨ st = 7 ∨ st = 8 := by
  simp only [runState, Bool.or_eq_true, beq_iff_eq, or_assoc]

/-- 2^30 ticks of RUN without interruption clear the restarts (R328). -/
theorem execRestartsClear_due (hrun : s.motorState n = 6 ∨ s.motorState n = 7 ∨ s.motorState n = 8)
    (hdue : (s.mo n).runAt + 2 ^ 30 ≤ s.tb.beat) :
    exec (.restartsClear n) s = .next (s.setFld (pMotor n) MOTOR.STATUS_RESTARTS 0) :=
  congrArg Host.Outcome.next (if_pos (Bool.and_eq_true_iff.mpr ⟨runState_iff.mpr hrun, decide_eq_true hdue⟩))

/-- A ramp at its end for HANDOVER_TMO is a stall (R327). -/
theorem execHandoverTimeout_due {b : Nat} (hramp : s.motorState n = 5) (htop : (s.mo n).rampTop = some b)
    (hdue : b + s.fld (pMotor n) MOTOR.HANDOVER_TMO * 65536 ≤ s.tb.beat) :
    exec (.handoverTimeout n) s = .next ((s.raise (pMotor n) MOTOR.evHANDOVER_FAIL).stall n) := by
  change execHandoverTimeout n s = _
  simp only [execHandoverTimeout, htop, hramp, hdue, and_self, if_true]

end Restarts

/-! ### The Hall code -/

section Hall

variable {s : State} {n : Fin 4} {code : Fin 8} {old : Nat} {m : MotorSt} (hold : s.hallNow n = old)
  (hm : { s.mo n with hallCode := code.val, hallSector := old } = m)

include hold hm

/-- A code that is invalid, or of the sector that stands, is only held (R315). -/
theorem execHallTransition_held (hsame : s.hallSector n code = none ∨ s.hallSector n code = some old) :
    exec (.hallTransition n code) s = .next (s.setMo n m) := by
  change execHallTransition n code s = _
  rcases hsame with hnone | hsame
  case inl => simp only [execHallTransition, hold, hm, hnone]
  case inr => simp only [execHallTransition, hold, hm, hsame, if_true]

/-- A code of another sector is stamped, with its direction (R315). -/
theorem execHallTransition_moves {x : Nat} (hx : s.hallSector n code = some x) (hne : x ≠ old) :
    exec (.hallTransition n code) s = .next (s.setMo n { m with
      hallSector := x, hallPrev := m.hallAt, hallAt := s.tb.beat
      hallDir := if (old + 1) % 6 = x then 1 else if (x + 1) % 6 = old then -1 else m.hallDir }) := by
  subst hm
  change execHallTransition n code s = _
  simp only [execHallTransition, hold, hx, hne, if_false]

end Hall

/-! ### Writes with rows of their own -/

section OwnWrites

variable {s : State} {a : Acc} {p : Fin 512} {off : Fin 1024} {w : Word} (hs : s.serves a p (4 * off) true = true)

include hs

/-- A served write of a protection limit is a write of its page (R325). -/
theorem execProtectionLimitWrite_served (hreg : isLimitReg p (4 * off) = true) :
    exec (.protectionLimitWrite a p off w) s = .next ((s.answer [0]).driveWrite a p (4 * off) w.toNat) :=
  (next_due hreg).trans (next_access_served hs rfl)

/-- A served write of a loop's output is a write of its page (R326). -/
theorem execLoopOutputWrite_served (hreg : isLoopReg p (4 * off) = true) :
    exec (.loopOutputWrite a p off w) s = .next ((s.answer [0]).driveWrite a p (4 * off) w.toNat) :=
  (next_due hreg).trans (next_access_served hs rfl)

end OwnWrites

/-- Settles O36: the requests of CTRL by their effect on a served access; the ends of CAL, DETECT and ALIGN; the restarts; the
Hall code; and the writes with rows of their own. -/
theorem motorCommandsComplete : Obligations.MotorCommandsComplete := by
  refine ⟨?requests, ?cal, ?detect, ?times, fun s a p off w hs =>
    ⟨execProtectionLimitWrite_served hs, execLoopOutputWrite_served hs⟩⟩
  case requests =>
    intro s a n hs
    refine ⟨?start, ?refused, fun hlow hhigh => ⟨?stopping, ?off⟩, next_access_served hs rfl, ?offsetCal⟩
    case start => exact fun hoff hcause t u m ht hm hu =>
      next_access_served hs (State.startReq_begins hoff hcause ht hm hu)
    case refused => exact fun c hoff hcause => next_access_served hs (State.startReq_refused hoff hcause)
    case stopping => exact fun hmode => next_access_served hs (State.stopReq_stopping hlow hhigh hmode)
    case off => exact fun hmode t ht => next_access_served hs (State.stopReq_off (s := s.answer [0]) hlow hhigh hmode ht)
    case offsetCal => exact fun hoff t ht => next_access_served hs (State.offsetCal_off hoff ht)
  case cal => exact fun s r t n u v w sum => execMotorCalDone_last
  case detect =>
    intro s n peaks l hi lo hdetect hvectors hl hhi hlo
    rw [execMotorDetectDone_ends hdetect hvectors hl hhi hlo rfl]
    exact ⟨fun hagree => if_pos hagree, fun hdiffer => if_neg (Nat.not_lt.mpr hdiffer)⟩
  case times =>
    intro s n
    exact ⟨execMotorAlignDone_due, fun hwait hdue t => execMotorRestart_due hwait hdue, execRestartsClear_due,
      fun b => execHandoverTimeout_due, fun code old m hold hm =>
        ⟨execHallTransition_held hold hm, fun x => execHallTransition_moves hold hm⟩⟩

end Sys2Proof.Machine

/-!
The updates of a drive: a motor's loops, its facets, its temperature and cycle trips, and the periods, commands and link of its
PWM generator (R309, R321, R323, R324, R326, R340, R344, R345, R348, R349, R352).
-/

namespace Sys2Proof.Machine

/-! ### One motor update -/

section MotorUpdate

variable {s t : State} {n : Fin 4} {u v w : BitVec 14} (hen : s.enabled (pMotor n) = true)
  (hfirst : s.stands (writesField (pMotor n) MOTOR.OBS_ENV_MAX) = false)
  (ht : s.sampleTick n [u.toNat, v.toNat, w.toNat] = t)

include hen hfirst ht

/-- Outside CAL, DETECT and the driven states an update only stores its samples (R309). -/
theorem execMotorUpdate_idle (hidle : t.motorState n < 2 ∨ 9 < t.motorState n) :
    exec (.motorUpdate n u v w) s = .next t := by
  have hcal : t.motorState n ≠ 2 := by omega
  have hdetect : t.motorState n ≠ 3 := by omega
  have hquiet : t.motorState n < 4 ∨ 9 < t.motorState n := by omega
  change execMotorUpdate n u v w s = _
  simp only [execMotorUpdate, hen, hfirst, ht, hcal, hdetect, hquiet, Bool.not_true, Bool.false_eq_true, if_false, if_true]

/-- In CAL an update adds its samples (R304). -/
theorem execMotorUpdate_cal (hcal : t.motorState n = 2) :
    exec (.motorUpdate n u v w) s = .next (t.calSample n [u.toNat, v.toNat, w.toNat]) := by
  change execMotorUpdate n u v w s = _
  simp only [execMotorUpdate, hen, hfirst, ht, hcal, Bool.not_true, Bool.false_eq_true, if_false, if_true]

/-- In DETECT an update watches its vector (R305). -/
theorem execMotorUpdate_detect (hdetect : t.motorState n = 3) :
    exec (.motorUpdate n u v w) s = .next (t.detectSample n) := by
  change execMotorUpdate n u v w s = _
  simp only [execMotorUpdate, hen, hfirst, ht, hdetect, Bool.not_true, Bool.false_eq_true, Nat.reduceEqDiff, if_false, if_true]

/-- In the driven states the angle, the speed and the observer's gain come first, then the state's own step (R306, R308,
R312 to R317). -/
theorem execMotorUpdate_driven {x : State} {th angle : Nat} {sp : Int} (hlow : 4 ≤ t.motorState n)
    (hhigh : t.motorState n ≤ 9) (hrotor : t.rotor n = (th, sp)) (hangle : (if t.motorState n = 4 then 0 else th) = angle)
    (hx : (((t.setFld (pMotor n) MOTOR.THETA_THETA angle).setSfld (pMotor n) MOTOR.SPEED_MEAS_V sp).obsAdapt n sp).drew 2
      = x) : exec (.motorUpdate n u v w) s =
    if t.motorState n = 4 then .next (x.alignStep n sp) else if t.motorState n = 5 then .next (x.rampStep n th sp)
      else .next (x.runStep n th sp) := by
  have hcal : t.motorState n ≠ 2 := by omega
  have hdetect : t.motorState n ≠ 3 := by omega
  have hdriven : ¬ (t.motorState n < 4 ∨ 9 < t.motorState n) := by omega
  change execMotorUpdate n u v w s = _
  simp only [execMotorUpdate, hen, hfirst, ht, hcal, hdetect, hdriven, hrotor, hangle, hx, Bool.not_true, Bool.false_eq_true,
    if_false]

end MotorUpdate

/-! ### Facets -/

section Facet

variable {s : State} {n : Fin 4} {pitch q : Int}

/-- Facets are measured in LOCKED, with FACET_EN and a pitch (R321). -/
theorem State.facetOn_locked (hlocked : s.motorState n = 8) (hen : s.on (pMotor n) MOTOR.MODE_FACET_EN = true)
    (hpitch : s.fld (pMotor n) MOTOR.FACET_PITCH_PITCH ≠ 0) : s.facetOn n = true := by
  simp only [State.facetOn, hlocked, hen, bne_iff_ne.mpr hpitch, beq_self_eq_true, Bool.and_self]

/-- The wrapped error of an edge moves the trim's target and is recorded; within the tolerance it locks the facets (R321). -/
theorem State.facetMeasure_eq {v : State} {m : MotorSt} {r e : Int} (hm : s.mo n = m)
    (hpitch : (s.fld (pMotor n) MOTOR.FACET_PITCH_PITCH : Int) = pitch)
    (hr : (q - sgn 64 (s.pair (pMotor n) MOTOR.FACET_START_LO_POS MOTOR.FACET_START_HI_POS)) % pitch = r)
    (he : (if 2 * r ≤ pitch then r else r - pitch) = e)
    (hv : (s.setMo n { m with trimTarget := (m.trimTarget + prodHi e (s.ratio n)) % 2 ^ 32 }).setSfld (pMotor n)
      MOTOR.FACET_ERR_EF e = v) :
    s.facetMeasure n q = if e.natAbs ≤ s.fld (pMotor n) MOTOR.FACET_TOL_TOL ∧
        s.on (pMotor n) MOTOR.STATUS_FACET_LOCKED = false then
      (v.setFld (pMotor n) MOTOR.STATUS_FACET_LOCKED 1).raise (pMotor n) MOTOR.evFACET_LOCKED else v := by
  simp only [State.facetMeasure, State.modMo, hm, hpitch, hr, he, hv, Bool.not_eq_true']

variable (hon : s.facetOn n = true)
  (hq : s.positionAt (s.axisStamp (s.fld (pMotor n) MOTOR.MODE_FACET_AXIS)) = some q)

include hon hq

/-- An edge while the trim moves is only noted (R321). -/
theorem execFacetIndexEdge_noted (hmoves : s.fld (pMotor n) MOTOR.FACET_TRIM_TRIM ≠ (s.mo n).trimTarget) :
    exec (.facetIndexEdge n) s = .next (s.setMo n { s.mo n with facetFrom := q, edge := some (s.tb.beat, q) }) := by
  change execFacetIndexEdge n s = _
  simp only [execFacetIndexEdge, State.modMo, hon, hq, hmoves, Bool.not_true, Bool.false_eq_true, if_false]

/-- An edge with the trim at rest is measured (R321). -/
theorem execFacetIndexEdge_measured {t : State} (hrest : s.fld (pMotor n) MOTOR.FACET_TRIM_TRIM = (s.mo n).trimTarget)
    (ht : s.setMo n { s.mo n with facetFrom := q, edge := none } = t) :
    exec (.facetIndexEdge n) s = .next (t.facetMeasure n q) := by
  change execFacetIndexEdge n s = _
  simp only [execFacetIndexEdge, State.modMo, hon, hq, hrest, ht, Bool.not_true, Bool.false_eq_true, if_false, if_true]

end Facet

/-! ### Temperature -/

section Temperature

variable {s : State} {n : Fin 4}

/-- A reading stores the code, the derated limit within its envelope and the derating condition, and trips where the code has
reached TD_TRIP (R324, R326). -/
theorem State.readTd_eq {t u v : State} {td l lo hi k : Nat} {low hot : Bool}
    (ht : (s.setFld (pMotor n) MOTOR.TD_MEAS_TD td).setFld pOuvgor (OUVGOR.TD_RAW_CODE.at n) td = t)
    (hl : s.derated n td = l) (hlo : s.fld (pMotor n) MOTOR.DERATE_ENV_MIN = lo)
    (hhi : s.fld (pMotor n) MOTOR.DERATE_ENV_MAX = hi) (hk : (if l < lo ∨ hi < l then (s.mo n).deratePin + 1 else 0) = k)
    (hu : (if s.on (pMotor n) MOTOR.ADAPT_DERATE_EN = true then
      (if k = 256 then ((t.setFld (pMotor n) MOTOR.DERATE_OUT_OUT (clampNat lo hi l)).setMo n { s.mo n with
          deratePin := k }).raise (pMotor n) MOTOR.evLOOP_PINNED
        else (t.setFld (pMotor n) MOTOR.DERATE_OUT_OUT (clampNat lo hi l)).setMo n { s.mo n with deratePin := k })
      else t.setMo n { s.mo n with deratePin := 0 }) = u)
    (hlow : decide (u.fld (pMotor n) MOTOR.DERATE_OUT_OUT < u.fld (pMotor n) MOTOR.ILIM_AVG_ILIM) = low)
    (hhot : decide (s.fld (pMotor n) MOTOR.TD_TRIP_TRIP ≤ td) = hot)
    (hv : ((u.setFld (pMotor n) MOTOR.STATUS_DERATING (b2n low)).condition (pMotor n) MOTOR.evTHERMAL_DERATE low).modMo n
      (fun m => { m with hot := hot }) = v) :
    s.readTd n td = if (hot && !(s.mo n).hot) = true then (v.raise (pMotor n) MOTOR.evTHERMAL_TRIP).motorFault n else v := by
  simp only [State.readTd, State.showDerate, ht, hl, hlo, hhi, hk, hu, hlow, hhot, hv]

/-- A temperature update acts once on each multiple of 65,536 (R324). -/
theorem execMotorDerateUpdate_due {td : BitVec 10} (htick : s.onTick 65536 = true)
    (honce : (s.mo n).derateAt ≠ s.tb.beat + 1)
    (hfirst : s.stands (writesField (pMotor n) MOTOR.DERATE_ENV_MAX) = false) : exec (.motorDerateUpdate n td) s =
    .next ((s.readTd n td.toNat).modMo n (fun m => { m with derateAt := s.tb.beat + 1 })) :=
  congrArg Host.Outcome.next ((after_none hfirst).trans (if_pos (Bool.and_eq_true_iff.mpr ⟨htick, bne_iff_ne.mpr honce⟩)))

end Temperature

/-! ### Cycle trips -/

/-- A cycle-by-cycle trip turns the phase off to the end of the period and counts it; CBC_MAX of them fault (R323). -/
theorem execCbcTrip_connected {s t : State} {n : Fin 4} {ph : Fin 3} {offH offL : Bool} {k : Nat} (hthree : (s.gt n).cst ≠ 3)
    (hfour : (s.gt n).cst ≠ 4) (hH : bitAt (s.gt n).on (2 * ph) = offH) (hL : bitAt (s.gt n).on (2 * ph + 1) = offL)
    (hk : (if (s.mo n).cbcNow = true then (s.mo n).cbcN else (s.mo n).cbcN + 1) = k)
    (ht : (((s.setGt n { s.gt n with
      cbcOff := (putBit (putBit (s.gt n).cbcOff (2 * ph) (offH || bitAt (s.gt n).cbcOff (2 * ph))) (2 * ph + 1)
        (offL || bitAt (s.gt n).cbcOff (2 * ph + 1)))
      on := clrBit (clrBit (s.gt n).on (2 * ph)) (2 * ph + 1) }).bump (pMotor n) MOTOR.COUNTS_CBC_COUNT).setFld (pMotor n)
      MOTOR.STATUS_CBC_ACTIVE 1).setMo n { s.mo n with cbcNow := true, cbcN := k } = t) :
    exec (.cbcTrip n ph) s = .next (if s.fld (pMotor n) MOTOR.CBC_MAX_MAX ≤ k ∧ s.motorState n ≠ 11 then
      (t.raise (pMotor n) MOTOR.evOVERCURRENT).motorFault n else t) := by
  have hconnected : ¬ ((s.gt n).cst = 3 ∨ (s.gt n).cst = 4) := not_or.mpr ⟨hthree, hfour⟩
  change execCbcTrip n ph s = _
  simp only [execCbcTrip, hconnected, hH, hL, hk, ht, if_false]

/-! ### Periods, command edges and the link -/

section Generator

variable {s : State} {n : Fin 4}

/-- A period start that is due takes the values in force and ends the cycle's protection (R344). -/
theorem execPwmPeriodStart_due {b : Nat} (hen : s.enabled (pPwm n) = true) (hstart : (s.pw n).due = some b)
    (hdue : b ≤ s.tb.beat) (hfirst : s.stands (writesField (pPwm n) PWM.DT_ENV_MAX) = false) :
    exec (.pwmPeriodStart n) s =
      .next ((((s.adaptDeadTime n).periodBoundary (pPwm n)).takePeriod n b).gatePeriod n) := by
  change execPwmPeriodStart n s = _
  simp only [execPwmPeriodStart, hstart, hfirst, hen, hdue, decide_true, Bool.and_self, Bool.false_eq_true, if_false, if_true]

/-- A command edge within the period sends the scheduled commands and counts the pulses dropped (R345, R348). -/
theorem execPwmCommandEdge_within {t u : State} {d : Nat} (hlinked : s.linked n = true) (htest : (s.gt n).test = false)
    (hwithin : (s.pw n).running = true → s.tb.beat - (s.pw n).start < (s.pw n).period)
    (hd : (if (quietState (s.motorState n) || s.motorState n == 3 || !(s.pw n).running
        || (s.pw n).edgeAt == some s.tb.beat) = true then 0
      else (s.pw n).dropped (s.fld (pPwm n) PWM.MIN_PULSE_MIN) (s.tb.beat - (s.pw n).start)) = d)
    (ht : s.setPw n { s.pw n with edgeAt := some s.tb.beat } = t)
    (hu : (if d = 0 then t else (t.bump (pPwm n) PWM.COUNTS_DROP_COUNT d).raise (pPwm n) PWM.evPULSE_DROP) = u) :
    exec (.pwmCommandEdge n) s = .next (u.commands n (u.scheduled n)) := by
  have hsends : (!s.linked n || (s.gt n).test
      || (s.pw n).running && decide ((s.pw n).period ≤ s.tb.beat - (s.pw n).start)) = false := by
    simpa [hlinked, htest] using hwithin
  change execPwmCommandEdge n s = _
  simp only [execPwmCommandEdge, hsends, hd, ht, hu, Bool.false_eq_true, if_false]

/-- A loss of the link latches and turns the gates off; a parity error is counted, a credit stall takes the credits (R340). -/
theorem execPwmLinkLoss_lost {t : State} {c : Fin 3}
    (ht : (if c = 1 then s.bump (pPwm n) PWM.LINK_STATUS_PARITY_ERRS else s) = t) :
    exec (.pwmLinkLoss n (some c)) s = .next (((((t.setGt n { t.gt n with
      linkBad := true, credits := if c = 0 then 0 else (t.gt n).credits }).setFld (pPwm n) PWM.LINK_STATUS_UP 0).setFld
      (pGate n) GATE.LATCH_LINK 1).raise (pPwm n) PWM.evLINK_ERR).motorFault n) := by
  have hparity : c.val = 1 ↔ c = 1 := (Fin.ext_iff (b := 1)).symm
  have hstall : c.val = 0 ↔ c = 0 := (Fin.ext_iff (b := 0)).symm
  change execPwmLinkLoss n (some c) s = _
  simp only [execPwmLinkLoss, State.modGt, hparity, hstall, ht]

end Generator

/-- Settles O37: the update by the state that its sample leaves; a facet edge by whether the trim moves; the reading of the
temperature; the cycle trip; and the commands of the generator. -/
theorem driveUpdatesComplete : Obligations.DriveUpdatesComplete := by
  refine ⟨?update, ?facet, ?temperature, ?trip, fun s n => ⟨?period, ?edge, rfl, fun c t => execPwmLinkLoss_lost⟩⟩
  case update =>
    intro s t n u v w hen hfirst ht
    refine ⟨execMotorUpdate_idle hen hfirst ht, execMotorUpdate_cal hen hfirst ht, execMotorUpdate_detect hen hfirst ht,
      fun th sp hrotor => ?driven⟩
    refine ⟨fun halign => ?align, fun x hx => ⟨fun hramp => ?ramp, fun hlow hhigh => ?run⟩⟩
    case align =>
      exact (execMotorUpdate_driven hen hfirst ht (by omega) (by omega) hrotor (if_pos halign) rfl).trans (if_pos halign)
    case ramp =>
      have hne : t.motorState n ≠ 4 := by omega
      exact (execMotorUpdate_driven hen hfirst ht (by omega) (by omega) hrotor (if_neg hne) hx).trans
        ((if_neg hne).trans (if_pos hramp))
    case run =>
      have hne : t.motorState n ≠ 4 := by omega
      exact (execMotorUpdate_driven hen hfirst ht (by omega) hhigh hrotor (if_neg hne) hx).trans
        ((if_neg hne).trans (if_neg (by omega)))
  case facet =>
    rintro s t v m n pitch q r e hlocked hen hpitch hnz hq
    have hon : s.facetOn n = true := State.facetOn_locked hlocked hen (by omega)
    refine ⟨execFacetIndexEdge_noted hon hq, ?_⟩
    rintro hrest hr he rfl hm hv
    exact (execFacetIndexEdge_measured hon hq hrest rfl).trans
      (congrArg Host.Outcome.next (State.facetMeasure_eq (s := s.setMo n _) hm hpitch hr he hv))
  case temperature =>
    intro s t u v n td l lo hi k htick honce hfirst ht hl hlo hhi hk hu low hot hlow hhot hv
    rw [execMotorDerateUpdate_due htick honce hfirst, State.readTd_eq ht hl hlo hhi hk hu hlow hhot hv]
  case trip => exact fun s t n ph offH offL k => execCbcTrip_connected
  case period => exact fun b hen hstart hdue => execPwmPeriodStart_due hen hstart hdue
  case edge => exact fun hlinked htest hwithin d t u => execPwmCommandEdge_within hlinked htest hwithin

end Sys2Proof.Machine

/-!
The interlock, the slew loop, the supplies, the shorts and the trips of a power stage (R351, R353, R354, R357 to R361, R363 to
R365).
-/

namespace Sys2Proof.Machine

/-! ### The interlock -/

/-- While the gate opposite to a switch is off, its release keeps the ticks since its off-command, and turns the waiting switch
on where its command stands and nothing holds it off (R352, R354). -/
theorem execInterlockRelease_down {s t : State} {n : Fin 4} {sw : Fin 6} {o : Nat} {gap : List (Nat × Nat)}
    (ho : otherSw sw = o) (hoff : bitAt (s.gt n).on o = false)
    (hgap : (match Tab.lookup (s.gt n).offAt o with
      | some b => Tab.insert (s.gt n).gap sw.val (min 1023 (s.tb.beat - b))
      | none => (s.gt n).gap) = gap)
    (ht : s.setGt n { s.gt n with above := clrBit (s.gt n).above o, offAt := Tab.erase (s.gt n).offAt o, gap := gap } = t) :
    exec (.interlockRelease n sw) s =
      if (bitAt (s.gt n).wait sw && bitAt (s.gt n).cmd sw && !bitAt (s.gt n).cmd o && !s.heldOff n sw
        && ((s.gt n).test || bitAt (s.scheduled n) sw)) = true then
        .next (((t.swOn n sw).bump (pPwm n) PWM.IL_EXT_COUNT_COUNT).raise (pPwm n) PWM.evIL_EXTEND)
      else .next t := by
  subst ho hgap ht
  exact if_neg (Bool.eq_false_iff.mp hoff)

/-- A turn-on that has waited 2,000 ticks on the opposite gate latches GATE_STUCK and faults (R357). -/
theorem execGateStuckTimeout_waits {s : State} {n : Fin 4} {ph : Fin 3} {sw b : Nat}
    (hsw : sw = 2 * ph.val ∨ sw = 2 * ph.val + 1) (hwait : bitAt (s.gt n).wait sw = true)
    (habove : bitAt (s.gt n).above (otherSw sw) = true) (hcmd : bitAt (s.gt n).cmd (otherSw sw) = false)
    (hat : Tab.lookup (s.gt n).offAt (otherSw sw) = some b) (hdue : b + 2000 ≤ s.tb.beat) :
    exec (.gateStuckTimeout n ph) s =
      .next (((s.orFld (pGate n) GATE.LATCH_GATE_STUCK (2 ^ ph.val)).raise (pGate n) GATE.evGATE_STUCK).motorFault n) := by
  refine if_pos (Bool.or_eq_true_iff.mpr ?_)
  rcases hsw with rfl | rfl
  · exact .inl (by simp [hwait, habove, hcmd, hat, hdue])
  · exact .inr (by simp [hwait, habove, hcmd, hat, hdue])

section Switch

variable {s : State} {n : Fin 4} {sw : Fin 6} {b : Nat}

/-- A gate that has not risen 2,000 ticks after its turn-on latches NORISE and faults (R358). -/
theorem execGateNoriseTimeout_due (hon : bitAt (s.gt n).on sw = true) (hat : Tab.lookup (s.gt n).onAt sw = some b)
    (hdue : b + 2000 ≤ s.tb.beat) : exec (.gateNoriseTimeout n sw) s =
      .next ((((s.swOff n sw).orFld (pGate n) GATE.LATCH_NORISE (2 ^ sw.val)).raise (pGate n)
        GATE.evGATE_NORISE).setMotorState n 11) := by
  change execGateNoriseTimeout n sw s = _
  simp only [execGateNoriseTimeout, hon, hat, hdue, decide_true, Bool.and_self, if_true]

/-- A short of a switch whose detector is armed latches, turns it off softly and faults (R363). -/
theorem execDidtFire_armed (harmed : bitAt (s.gt n).cmd sw = true ∨ Tab.lookup (s.gt n).offAt sw = some s.tb.beat)
    (hsoft : bitAt (s.gt n).soft sw = false) (hone : (s.gt n).cst ≠ 1) (htwo : (s.gt n).cst ≠ 2)
    (hen : s.enabled (pGate n) = true) : exec (.didtFire n sw) s =
      .next ((((s.setGt n { s.gt n with
        soft := setBit (s.gt n).soft sw, softAt := Tab.insert (s.gt n).softAt sw s.tb.beat
        sunk := setBit (s.gt n).sunk sw, on := clrBit (s.gt n).on sw, wait := clrBit (s.gt n).wait sw }).orFld (pGate n)
        GATE.LATCH_SHORT (2 ^ sw.val)).raise (pGate n) GATE.evSW_SHORT).setMotorState n 11) := by
  have hdetects : (bitAt (s.gt n).cmd sw || Tab.lookup (s.gt n).offAt sw == some s.tb.beat) = true := by simpa using harmed
  change execDidtFire n sw s = _
  simp only [execDidtFire, hdetects, hsoft, hen, beq_false_of_ne hone, beq_false_of_ne htwo, Bool.not_true, Bool.or_self,
    Bool.false_eq_true, if_false]

/-- The level of a soft turn-off ends 200 + 100 x T2L ns after it began (R363). -/
theorem execSoftOffHoldEnd_due (hat : Tab.lookup (s.gt n).softAt sw = some b)
    (hdue : b + 200 + 100 * s.fld (pGate n) GATE.SOFT_OFF_T2L ≤ s.tb.beat) : exec (.softOffHoldEnd n sw) s =
      .next (s.setGt n { s.gt n with soft := clrBit (s.gt n).soft sw, softAt := Tab.erase (s.gt n).softAt sw }) := by
  change execSoftOffHoldEnd n sw s = _
  simp only [execSoftOffHoldEnd, hat, hdue, if_true]

end Switch

/-! ### The slew loop -/

section Slew

variable {s : State} {n : Fin 4} {m : BitVec 12} {low : Bool} {sum num : Nat} {put : State → Nat → Nat → Nat → State}
  (hfirst : s.stands (writesField (pGate n) GATE.SLEW_ENV_H_MAX) = false) (hstrong : s.on (pGate n) GATE.DRIVE_STRONG = false)
  (hen : s.on (pGate n) GATE.DRIVE_SLEW_EN = true)
  (hsum : (if low = true then (s.gt n).sumL else (s.gt n).sumH) + m.toNat = sum)
  (hnum : (if low = true then (s.gt n).numL else (s.gt n).numH) + 1 = num)
  (hput : ∀ u a b c, put u a b c = u.setGt n (if low = true then { u.gt n with sumL := a, numL := b, pinL := c }
    else { u.gt n with sumH := a, numH := b, pinH := c }))

include hfirst hstrong hen hsum hnum hput

/-- Before 2^DIV of them a transition is only summed (R351). -/
theorem execSlewTransition_summed (hfew : num < 2 ^ s.fld (pGate n) GATE.SLEW_DIV) : exec (.slewTransition n low m) s =
    .next (put s sum num (if low = true then (s.gt n).pinL else (s.gt n).pinH)) := by
  change execSlewTransition n low m s = _
  simp only [execSlewTransition, hfirst, hstrong, hen, hsum, hnum, hput, hfew, Bool.not_true, Bool.or_self,
    Bool.false_eq_true, if_false, if_true]

/-- The last of 2^DIV transitions moves the code within its envelope; 256 pinned updates raise LOOP_PINNED (R351, R353). -/
theorem execSlewTransition_updates {t : State} {f : Fld} {v : Int} {lo hi k : Nat}
    (hmany : 2 ^ s.fld (pGate n) GATE.SLEW_DIV ≤ num) (hf : (if low = true then GATE.DRIVE_SRC_L else GATE.DRIVE_SRC_H) = f)
    (hv : slewNext (s.fld (pGate n) f) sum num (s.fld (pGate n) GATE.SLEW_TARGET) (s.fld (pGate n) GATE.SLEW_TOL) = v)
    (hlo : s.fld (pGate n) (if low = true then GATE.SLEW_ENV_L_MIN else GATE.SLEW_ENV_H_MIN) = lo)
    (hhi : s.fld (pGate n) (if low = true then GATE.SLEW_ENV_L_MAX else GATE.SLEW_ENV_H_MAX) = hi)
    (hk : (if v < lo ∨ (hi : Int) < v then (if low = true then (s.gt n).pinL else (s.gt n).pinH) + 1 else 0) = k)
    (ht : put ((s.setFld (pGate n) f (clampInt lo hi v).toNat).setFld (pGate n)
      (if low = true then GATE.SLEW_MEAS_MEAN_L else GATE.SLEW_MEAS_MEAN_H) (sum / num)) 0 0 k = t) :
    exec (.slewTransition n low m) s = .next (if k = 256 then t.raise (pGate n) GATE.evLOOP_PINNED else t) := by
  rw [hput] at ht
  change execSlewTransition n low m s = _
  simp only [execSlewTransition, hfirst, hstrong, hen, hsum, hnum, hf, hlo, hhi, hv, hk, ht, Nat.not_lt.mpr hmany,
    Bool.not_true, Bool.or_self, Bool.false_eq_true, if_false]

end Slew

/-! ### Supplies -/

section Bootstrap

variable {s : State} {n : Nat} {fall rise : List Nat}
  (hfall : (List.range 3).filter (fun k => bitAt (s.gt n).bstPin k && !bitAt (s.gt n).bstLow k) = fall)
  (hrise : (List.range 3).filter (fun k => !bitAt (s.gt n).bstPin k && bitAt (s.gt n).bstLow k) = rise)

include hfall hrise

/-- A bootstrap supply that falls turns its high side off, and is counted and raised (R360). -/
theorem State.bstAct_falls {k : Nat} {v u : State} (hphase : fall = [k]) (hrest : rise = []) (hv : s.swOff n (2 * k) = v)
    (hu : (v.setGt n { v.gt n with bstLow := setBit (v.gt n).bstLow k }).bump (pGate n) GATE.COUNTS_BST_UV_COUNT = u) :
    s.bstAct n = if bitAt (u.liveMask (pGate n)) GATE.evBST_UV.bit = true then u.raise (pGate n) GATE.evBST_UV
      else u.condition (pGate n) GATE.evBST_UV true := by
  simp only [State.bstAct, State.modGt, hfall, hrise, hphase, hrest, List.foldl_cons, List.foldl_nil, hv, hu]

/-- A bootstrap supply that is back lets its high side follow its command again (R360). -/
theorem State.bstAct_rises {k : Nat} {u : State} (hrest : fall = []) (hphase : rise = [k])
    (hu : (s.setGt n { s.gt n with bstLow := clrBit (s.gt n).bstLow k }).condition (pGate n) GATE.evBST_UV
      ((s.gt n).bstPin != 0) = u) :
    s.bstAct n = if bitAt (s.gt n).cmd (2 * k) = true then u.tryOn n (2 * k) else u := by
  simp only [State.bstAct, State.modGt, hfall, hrise, hrest, hphase, List.foldl_cons, List.foldl_nil, hu]

/-- Pins that show what is known change nothing (R360). -/
theorem State.bstAct_steady (hkept : fall = []) (hrest : rise = []) : s.bstAct n = s := by
  simp only [State.bstAct, hfall, hrise, hkept, hrest, List.foldl_nil]

end Bootstrap

section BstUvCross

variable {s t : State} {n : Fin 4} {ph : Fin 3} {below : Bool}
  (ht : s.setGt n { s.gt n with bstPin := putBit (s.gt n).bstPin ph below } = t)

include ht

/-- While the group is under test a bootstrap monitor is only noted (R367). -/
theorem execBstUvCross_noted (htest : (s.gt n).cst = 5 ∨ (s.gt n).cst = 6) : exec (.bstUvCross n ph below) s = .next t :=
  congrArg Host.Outcome.next ((if_pos htest).trans ht)

/-- Otherwise what the pins show acts (R360). -/
theorem execBstUvCross_acts (hfive : (s.gt n).cst ≠ 5) (hsix : (s.gt n).cst ≠ 6) {u : State} (hu : t.bstAct n = u) :
    exec (.bstUvCross n ph below) s = .next u := by
  subst ht hu
  exact congrArg Host.Outcome.next (if_neg (not_or.mpr ⟨hfive, hsix⟩))

end BstUvCross

section SharedMonitors

variable {s : State} {b : Bool}

/-- VCP sets PUMP_STATUS, its condition and REVG (R359, R361). -/
theorem execVcpUvCross_eq {v : State} (hv : { s with dr := { s.dr with vcpPin := b } } = v) : exec (.vcpUvCross b) s =
    .next (if s.dr.ouvCst = true then v else ((v.setFld pOuvgor OUVGOR.PUMP_STATUS_VCP_OK (b2n (!b))).condition pOuvgor
      OUVGOR.evVCP_UV b).showRevg) := by
  subst hv
  rfl

/-- The Ouvgor die at 150 degrees turns every gate off, once (R365). -/
theorem State.hotAct_eq {t : State} (hpin : s.dr.hotPin = b)
    (ht : ({ s with dr := { s.dr with ouvHot := b } } : State).condition pOuvgor OUVGOR.evOUV_OT b = t) :
    s.hotAct = if b = true ∧ s.dr.ouvHot = false then t.supplyOff else t := by
  subst hpin ht
  simp only [State.hotAct, Bool.and_eq_true, Bool.not_eq_true']

/-- The temperature of the Ouvgor die acts, unless the shared self-test covers it (R365, R369). -/
theorem execOuvOvertemp_eq {h : State} (hh : { s with dr := { s.dr with hotPin := b } } = h) : exec (.ouvOvertemp b) s =
    .next (if s.dr.ouvCst = true then h else h.hotAct) := by
  subst hh
  rfl

end SharedMonitors

/-! ### Trips -/

section Trip

variable {s : State} {n : Nat}

/-- A TRIP_N that does not act changes nothing (R364). -/
theorem State.tripAct_inactive (hacts : s.tripActs n = false) : s.tripAct n = s := by
  simp only [State.tripAct, hacts, Bool.not_false, Bool.true_or, if_true]

variable (hacts : s.tripActs n = true) (hlatch : s.on (pGate n) GATE.LATCH_TRIP = false) (hcyc : (s.gt n).cycOff = false)

include hacts hlatch hcyc

/-- In latch mode TRIP_N low latches (R364). -/
theorem State.tripAct_latches (hmode : s.on (pGate n) GATE.TRIP_CFG_MODE = false) : s.tripAct n = s.tripLatch n := by
  simp only [State.tripAct, hacts, hlatch, hcyc, hmode, Bool.not_true, Bool.not_false, Bool.or_self, Bool.false_eq_true,
    if_false, if_true]

/-- In CYCLE mode it turns the rest of the period off and is counted (R364). -/
theorem State.tripAct_cycle (hmode : s.on (pGate n) GATE.TRIP_CFG_MODE = true) : s.tripAct n =
    ((s.setGt n { s.gt n with
      cycOff := true, on := 0, wait := 0
      tripN := if ((s.pw n).running && (s.pw n).start == s.tb.beat && (s.gt n).tripN == 0) = true then 1
        else (s.gt n).tripN }).bump (pGate n) GATE.COUNTS_TRIP_CYCLES).raise (pGate n) GATE.evTRIP_CYCLE := by
  simp only [State.tripAct, State.modGt, hacts, hlatch, hcyc, hmode, Bool.not_true, Bool.or_self, Bool.false_eq_true,
    if_false]

end Trip

/-- A new level of TRIP_N acts as TRIP_CFG says (R364). -/
theorem execTripNLow_changes {s t u : State} {n : Fin 4} {low : Bool} (hnew : (s.gt n).tripLow ≠ low)
    (ht : s.setGt n { s.gt n with tripLow := low } = t) (hu : t.tripAct n = u) : exec (.tripNLow n low) s = .next u := by
  subst ht hu
  exact congrArg Host.Outcome.next (if_neg hnew.symm)

/-- Settles O38: the interlock and its time-outs by switch; the slew loop by whether its count is full; the supplies by
whether a self-test covers them; and TRIP_N by its mode. -/
theorem gateCommandsComplete : Obligations.GateCommandsComplete := by
  refine ⟨?interlock, fun s n ph sw b => execGateStuckTimeout_waits,
    fun s n sw b => ⟨execGateNoriseTimeout_due, execDidtFire_armed, execSoftOffHoldEnd_due⟩, ?slew, ?bootstrap, ?shared, ?trip⟩
  case interlock =>
    intro s t n sw o gap ho hoff hgap ht
    have hdown := execInterlockRelease_down ho hoff hgap ht
    refine ⟨fun hwait hcmd hother hheld hsends => ?on, fun hwait => ?down⟩
    case on => exact hdown.trans (if_pos (by simpa [hwait, hcmd, hother, hheld] using hsends))
    case down => exact hdown.trans (if_neg (by simp [hwait]))
  case slew =>
    intro s t n m low sum num put hfirst hstrong hen hsum hnum hput
    exact ⟨execSlewTransition_summed hfirst hstrong hen hsum hnum hput,
      fun hmany f v lo hi k => execSlewTransition_updates hfirst hstrong hen hsum hnum hput hmany⟩
  case bootstrap =>
    intro s t n ph below ht
    refine ⟨execBstUvCross_noted ht, fun hfive hsix fall rise hfall hrise => ?_⟩
    have hacts {u : State} (hu : t.bstAct n = u) : exec (.bstUvCross n ph below) s = .next u :=
      execBstUvCross_acts ht hfive hsix hu
    exact ⟨fun k hphase hrest v u hv hu => hacts (State.bstAct_falls hfall hrise hphase hrest hv hu),
      fun k hrest hphase u hu => hacts (State.bstAct_rises hfall hrise hrest hphase hu),
      fun hkept hrest => hacts (State.bstAct_steady hfall hrise hkept hrest)⟩
  case shared =>
    intro s v h b hv hh
    have hvcp := execVcpUvCross_eq hv
    have hhot := execOuvOvertemp_eq hh
    refine ⟨fun htest => ?covered, fun hfree => ⟨?vcp, fun t ht => ?hot⟩⟩
    case covered => exact ⟨hvcp.trans (congrArg _ (if_pos htest)), hhot.trans (congrArg _ (if_pos htest))⟩
    case vcp => exact hvcp.trans (congrArg _ (if_neg (Bool.eq_false_iff.mp hfree)))
    case hot =>
      subst hh
      rw [hhot, hfree, if_neg Bool.false_ne_true, State.hotAct_eq rfl ht]
  case trip =>
    intro s t n low hnew ht
    refine ⟨fun hacts => ?inactive, fun hacts hlatch hcyc => ⟨fun hmode => ?latch, fun hmode => ?cycle⟩⟩
    case inactive => exact execTripNLow_changes hnew ht (State.tripAct_inactive hacts)
    case latch => exact execTripNLow_changes hnew ht (State.tripAct_latches hacts hlatch hcyc hmode)
    case cycle => exact execTripNLow_changes hnew ht (State.tripAct_cycle hacts hlatch hcyc hmode)

end Sys2Proof.Machine

/-!
The diagnostics, the comparator self-tests, the latches and the direct test path of a power stage (R366 to R369, R375).
-/

namespace Sys2Proof.Machine

/-! ### Requests -/

section Requests

variable {s : State} {n : Nat} (hoff : s.motorState n = 0) (hdiag : (s.gt n).diag = 0) (hcst : (s.gt n).cst = 0)

include hoff hdiag hcst

/-- DIAG_GO in OFF, with nothing running, begins the diagnostics (R366). -/
theorem State.diagGo_off : s.diagGo n = s.diagBegin n false :=
  if_pos ⟨hoff, hdiag, hcst⟩

/-- CST_GO in OFF, with nothing running, begins the first half step of a self-test (R367). -/
theorem State.cstGo_off {t : State} (ht : s.gatesOff n = t) : s.cstGo n = (t.setGt n { t.gt n with
    cst := 1, halfDue := s.tb.beat + s.fld (pGate n) GATE.DIAG_CFG_STEP * 5000, cstFail := 0 }).setFld (pGate n)
    GATE.CST_RESULT_DONE 0 := by
  simp only [State.cstGo, State.modGt, State.stepEnd, hoff, hdiag, hcst, ht, Nat.mul_one, and_self, if_true]

/-- A write of TEST with its code, in OFF, unlatched and linked, commands the switches that it names (Table 9.8). -/
theorem State.directTest_off {w : Nat} (hcode : bitsOf w 31 24 = 0xA7) (hlatched : s.latched n = false)
    (hlinked : s.linked n = true) : s.directTest n w = (s.setGt n { s.gt n with
      test := true, testDue := s.tb.beat + s.fld (pGate n) GATE.TEST_WIDTH_WIDTH }).commands n (bitsOf w 5 0) :=
  if_pos ⟨hcode, hoff, by rw [hlatched]; rfl, hlinked, hdiag, hcst⟩

end Requests

/-- The shared self-test begins while every channel is OFF (R369). -/
theorem State.ouvCstGo_off {s : State} (hoff : ∀ n < 4, s.motorState n = 0) :
    s.ouvCstGo = ({ s with dr := { s.dr with ouvCst := true } } : State).setFld pOuvgor OUVGOR.CST_RESULT_DONE 0 :=
  if_pos (List.all_eq_true.mpr fun n hn => beq_iff_eq.mpr (hoff n (List.mem_range.mp hn)))

/-! ### Steps and half steps -/

/-- A diagnostic step that is due stores its verdict; the last one ends the run, and step 9 before it begins the self-test
(R366). -/
theorem execDiagStepEnd_due {s t : State} {n : Fin 4} {u v w last : Nat} (hrun : (s.gt n).diag ≠ 0)
    (hdue : (s.gt n).stepDue ≤ s.tb.beat)
    (htested : 9 < (s.gt n).diag → (s.gt n).cst = 0 ∨ 2 * ((s.gt n).diag - 9) < (s.gt n).cst)
    (ht : s.diagVerdict n (s.gt n).diag [u, v, w] = t)
    (hlast : (if s.on (pGate n) GATE.DIAG_CFG_SKIP_CST = true then 9 else 12) = last) : exec (.diagStepEnd n u v w) s =
    if last ≤ (s.gt n).diag then .next (t.diagEnd n)
    else .next (t.setGt n { t.gt n with
      diag := (s.gt n).diag + 1, stepDue := s.stepEnd n (s.gt n).stepDue 2
      cst := if (s.gt n).diag = 9 then 1 else (t.gt n).cst
      halfDue := if (s.gt n).diag = 9 then s.stepEnd n (s.gt n).stepDue 1 else (t.gt n).halfDue }) := by
  have hends : ¬ ((s.gt n).diag = 0 ∨ s.tb.beat < (s.gt n).stepDue
      ∨ (9 < (s.gt n).diag ∧ (s.gt n).cst ≠ 0 ∧ (s.gt n).cst ≤ 2 * ((s.gt n).diag - 9))) := by omega
  subst ht hlast
  exact if_neg hends

/-- A half step of the self-test that is due notes the comparators that failed; the group that it frees acts, and the sixth
stores the result (R367). -/
theorem execCstHalfStepEnd_due {s t : State} {n : Fin 4} {active : BitVec 19} {grp : Nat} (hrun : (s.gt n).cst ≠ 0)
    (hdue : (s.gt n).halfDue ≤ s.tb.beat) (hgrp : cstGroup (s.gt n).cst = grp)
    (ht : s.setGt n { s.gt n with
      cstFail := (s.gt n).cstFail ||| (if (s.gt n).cst % 2 = 1 then active.toNat &&& grp
        else clrMask grp (active.toNat &&& grp))
      cst := (s.gt n).cst + 1
      halfDue := s.stepEnd n (s.gt n).halfDue 1 } = t) :
    exec (.cstHalfStepEnd n active) s = .next (if (s.gt n).cst = 6 then (t.cstEnd n).bstAct n
      else if (s.gt n).cst = 4 then t.tripAct n else t) := by
  subst hgrp ht
  exact if_neg (not_or.mpr ⟨hrun, Nat.not_lt.mpr hdue⟩)

/-! ### The shared self-test, and the end of a test pulse -/

/-- The result of the shared self-test is stored and raised, and the levels that it had covered act (R369). -/
theorem execOuvCstDone_running {s t : State} {failed : BitVec 5} (hrun : s.dr.ouvCst = true)
    (ht : (((({ s with dr := { s.dr with ouvCst := false } } : State).setFld pOuvgor OUVGOR.CST_RESULT_DONE 1).setFld pOuvgor
      OUVGOR.CST_RESULT_PASS (if failed = 0 then 1 else 0)).setFld pOuvgor OUVGOR.CST_RESULT_FAILED failed.toNat).raise
      pOuvgor OUVGOR.evOUV_CST_DONE = t) : exec (.ouvCstDone failed) s =
    .next ((if failed = 0 then t else t.raise pOuvgor OUVGOR.evOUV_CST_FAIL).vcpAct.hotAct.stageAct) := by
  have hpass : b2n (failed == 0) = if failed = 0 then 1 else 0 := by simp only [b2n, beq_iff_eq]
  change execOuvCstDone failed s = _
  simp only [execOuvCstDone, hrun, hpass, ht, Bool.not_true, Bool.false_eq_true, if_false]

/-- A test pulse ends, after its width, with every command off (Table 9.8). -/
theorem execDirectTestEnd_due {s : State} {n : Fin 4} (htest : (s.gt n).test = true) (hdue : (s.gt n).testDue ≤ s.tb.beat) :
    exec (.directTestEnd n) s = .next ((s.commands n 0).setGt n { (s.commands n 0).gt n with test := false }) :=
  if_pos ⟨htest, hdue⟩

/-- Settles O39: the requests by their effect on a served access; the steps of the diagnostics by whether they are the last;
the half steps, the shared self-test and the end of a test pulse. -/
theorem diagnosticsComplete : Obligations.DiagnosticsComplete := by
  refine ⟨?control, ?step, fun s n active grp t => execCstHalfStepEnd_due, ?shared,
    fun s failed hrun t => execOuvCstDone_running hrun, ?test, fun s n => execDirectTestEnd_due⟩
  case control =>
    intro s a n hs
    refine ⟨next_access_served hs rfl, fun hoff hdiag hcst => ⟨?diag, fun t ht => ?cst⟩⟩
    case diag => exact next_access_served hs (State.diagGo_off (s := s.answer [0]) hoff hdiag hcst)
    case cst => exact next_access_served hs (State.cstGo_off (s := s.answer [0]) hoff hdiag hcst ht)
  case step =>
    intro s t n u v w hrun hdue htested ht last hlast
    have hstep := execDiagStepEnd_due hrun hdue htested ht hlast
    exact ⟨fun hend => hstep.trans (if_pos hend), fun hmore => hstep.trans (if_neg (Nat.not_le.mpr hmore))⟩
  case shared =>
    intro s a hs hoff
    exact next_access_served hs (State.ouvCstGo_off (s := s.answer [0]) hoff)
  case test =>
    intro s a n w hs hcode hoff hlatched hlinked hdiag hcst
    exact next_access_served hs (State.directTest_off (s := s.answer [0]) hoff hdiag hcst hcode hlatched hlinked)

end Sys2Proof.Machine

/-!
The tiles' instructions that change registers alone, and what they leave unchanged (R384 to R390, R405, R406).
-/

namespace Sys2Proof.Machine

/-! ### An instruction that issues -/

/-- An instruction that issues leads where its effect leads. -/
theorem next_issue {s : State} {t cls op : Nat} {uses : Ins → List Nat} {i : Issue} {n : Ins} {k : Issue → Ins → State}
    (h : s.nextIs t cls op uses i n = true) : (.next (s.issue t cls op uses k) : Out) = .next (k i n) :=
  congrArg Host.Outcome.next (issue_next h)

/-- An instruction that changes only its context's registers, where it issues. -/
theorem next_issueRegs {s : State} {t cls op : Nat} {uses : Ins → List Nat} {i : Issue} {n : Ins}
    {f : LeafSt → Ins → LeafSt} (h : s.nextIs t cls op uses i n = true) :
    (.next (s.issueRegs t cls op uses f) : Out) = .next (s.retire i (f i.c n)) :=
  next_issue h

/-- The context in issue is one of the tile's. -/
theorem cur_of_nextIs {s : State} {t cls op : Nat} {uses : Ins → List Nat} {i : Issue} {n : Ins}
    (h : s.nextIs t cls op uses i n = true) :
    i.t = t ∧ i.x = s.tl t ∧ (s.tl t).cur < (s.tl t).ctxs.length := by
  obtain ⟨ht, hx, c, hc, -⟩ := nextIs_at h
  exact ⟨ht, hx, (List.getElem?_eq_some_iff.mp hc).choose⟩

/-- A branch that issues goes to its target, or moves past itself (R387). -/
theorem State.branch_next {s : State} {t op : Nat} {uses : Ins → List Nat} {test : LeafSt → Ins → Bool} {i : Issue}
    {n : Ins} (h : s.nextIs t 0 op uses i n = true) : s.branch t op uses test =
    if test i.c n = true then
      ((s.putCtx i { i.c with pc := unsg 32 ((i.c.pc : Int) + n.imm) }).issued i.h i.t).freeFrom i.t (s.tb.beat + 3)
    else s.retire i i.c :=
  issue_next h

/-! ### Reads of a leaf's registers after a write -/

section Registers

variable (c : LeafSt) {i r : Nat}

theorem LeafSt.setS_eq (v : Nat) : c.setS i v = { c with s := (c.setS i v).s } := by
  unfold LeafSt.setS
  split <;> rfl

theorem LeafSt.setP_eq (v : Nat) : c.setP i v = { c with p := (c.setP i v).p } := by
  unfold LeafSt.setP
  split <;> rfl

/-- A write of a scalar register leaves every other one, and s0. -/
theorem LeafSt.sreg_setS_ne (v : Nat) (h : r ≠ i ∨ r = 0) : (c.setS i v).sreg r = c.sreg r := by
  unfold LeafSt.sreg LeafSt.setS
  split
  · rfl
  · split
    · rfl
    · exact Tab.get_set_ne _ _ _ _ (h.resolve_right ‹_›)

/-- A write of a predicate register leaves every other one, and p0. -/
theorem LeafSt.preg_setP_ne (v : Nat) (h : r ≠ i ∨ r = 0) : (c.setP i v).preg r = c.preg r := by
  unfold LeafSt.preg LeafSt.setP
  split
  · rfl
  · split
    · rfl
    · exact Tab.get_set_ne _ _ _ _ (h.resolve_right ‹_›)

/-- A write of lanes of a vector register leaves the lanes of every other one. -/
theorem LeafSt.lane_setV_ne {l : Nat} (sel : Nat → Bool) (f : Nat → Nat) (h : r ≠ i) (hl : l < 16) :
    (c.setV i sel f).lane r l = c.lane r l := by
  have hfold (ls : List Nat) (hls : ∀ m ∈ ls, m < 16) (v : List (Nat × Nat)) :
      Tab.get 0 (ls.foldl (fun t m => if sel m = true then Tab.set 0 t (16 * i + m) (f m % 2 ^ 32) else t) v)
        (16 * r + l) = Tab.get 0 v (16 * r + l) := by
    induction ls generalizing v with
    | nil => rfl
    | cons m ls ih =>
      have hm : m < 16 := hls m List.mem_cons_self
      rw [List.foldl_cons, ih fun k hk => hls k (List.mem_cons_of_mem _ hk)]
      split
      · exact Tab.get_set_ne _ _ _ _ (by omega)
      · rfl
  exact hfold _ (fun m hm => List.mem_range.mp hm) c.v

end Registers

/-! ### The frame of one issued instruction -/

/-- `u` is `s` after one instruction of `i`: the context in issue has become `d`, the instruction is counted, and nothing
else has changed but when the tile issues again and the household's run. -/
structure State.IssuedAs (s u : State) (i : Issue) (d : LeafSt) : Prop where
  state : u = { s with regs := u.regs, tile := u.tile, run := u.run }
  fld : ∀ (q : Nat) (f : Fld), f.bit < 32768 →
    q ≠ pTile i.t ∨ (f.bit ≠ TILE.T_ISSUED_LO_N.bit ∧ f.bit ≠ TILE.T_ISSUED_HI_N.bit) → u.fld q f = s.fld q f
  tiles : ∀ k, k ≠ i.t → u.tl k = s.tl k
  tile : u.tl i.t = { s.tl i.t with
    ctxs := (s.tl i.t).ctxs.set (s.tl i.t).cur d, passed := (u.tl i.t).passed, steps := (u.tl i.t).steps
    freeAt := (u.tl i.t).freeAt, issuedAt := (u.tl i.t).issuedAt }
  runs : ∀ h, h ≠ i.h → u.runOf h = s.runOf h

/-- A tile with a context is not as reset left it. -/
theorem TileSt.ne_reset_of_ctxs {x : TileSt} (h : x.ctxs ≠ []) : x ≠ TileSt.reset := by
  rintro rfl
  exact h rfl

/-- The tile reads back as it was written while it has a context. -/
theorem State.tl_setTl_of_ctxs (s : State) (t : Nat) {x : TileSt} (h : x.ctxs ≠ []) : (s.setTl t x).tl t = x :=
  s.tl_setTl_self t x (TileSt.ne_reset_of_ctxs h)

theorem State.fld_setPair_ne (s : State) {p q : Nat} {lo hi f : Fld} (v : Nat) (hlo : regKey q f.bit ≠ regKey p lo.bit)
    (hhi : regKey q f.bit ≠ regKey p hi.bit) : (s.setPair p lo hi v).fld q f = s.fld q f :=
  (State.fld_setFld_ne _ _ hhi).trans (State.fld_setFld_ne _ _ hlo)

/-- What counting an issued instruction changes (Table 10.11, R620, R687). -/
theorem State.issued_eq (s : State) (h t : Nat) : ∃ v run, s.issued h t =
    { (s.setPair (pTile t) TILE.T_ISSUED_LO_N TILE.T_ISSUED_HI_N v).setTl t { s.tl t with
      passed := false, steps := (s.tl t).steps - 1, freeAt := s.tb.beat + 1, issuedAt := s.tb.beat } with run := run } ∧
    ∀ k, k ≠ h → Tab.lookup run k = s.runOf k := by
  unfold State.issued
  dsimp only
  split
  · exact ⟨_, _, rfl, fun k hk => Tab.lookup_insert_ne _ _ hk⟩
  · exact ⟨_, s.run, rfl, fun k _ => rfl⟩

section Frame

variable {s u : State} {i : Issue} {d : LeafSt}

/-- A context written and its instruction counted. -/
theorem State.putCtx_issued (hcur : i.x.cur = (s.tl i.t).cur) (hlen : (s.tl i.t).cur < (s.tl i.t).ctxs.length) :
    s.IssuedAs ((s.putCtx i d).issued i.h i.t) i d := by
  have hset : (s.tl i.t).ctxs.set (s.tl i.t).cur d ≠ [] :=
    List.ne_nil_of_length_pos (by rw [List.length_set]; omega)
  have hput : (s.putCtx i d).tl i.t = { s.tl i.t with ctxs := (s.tl i.t).ctxs.set (s.tl i.t).cur d } := by
    rw [← hcur] at hset ⊢
    exact State.tl_setTl_of_ctxs _ _ hset
  obtain ⟨v, run, heq, hrun⟩ := (s.putCtx i d).issued_eq i.h i.t
  rw [hput] at heq
  have hself : ((s.putCtx i d).issued i.h i.t).tl i.t = { s.tl i.t with
      ctxs := (s.tl i.t).ctxs.set (s.tl i.t).cur d, passed := false, steps := (s.tl i.t).steps - 1
      freeAt := s.tb.beat + 1, issuedAt := s.tb.beat } := by
    rw [heq]
    exact State.tl_setTl_of_ctxs _ _ hset
  refine ⟨by rw [heq]; rfl, fun q f hf hq => ?fld, fun k hk => ?tiles, by rw [hself], fun h hh => ?runs⟩
  case fld =>
    have hkey (g : Fld) (hg : g.bit < 32768) (hne : q ≠ pTile i.t ∨ f.bit ≠ g.bit) :
        regKey q f.bit ≠ regKey (pTile i.t) g.bit := regKey_ne hf hg hne
    rw [heq]
    exact State.fld_setPair_ne _ v (hkey _ (by decide) (hq.imp_right And.left))
      (hkey _ (by decide) (hq.imp_right And.right))
  case tiles =>
    rw [heq]
    exact (State.tl_setTl_ne _ _ hk).trans (State.tl_setTl_ne _ _ hk)
  case runs =>
    rw [heq]
    exact hrun h hh

/-- An instruction that completes leaves its context with the PC moved past it. -/
theorem State.retire_issuedAs (hcur : i.x.cur = (s.tl i.t).cur) (hlen : (s.tl i.t).cur < (s.tl i.t).ctxs.length) :
    s.IssuedAs (s.retire i d) i { d with pc := d.pc + 8 } :=
  State.putCtx_issued hcur hlen

/-- Putting off the beat from which the tile issues again changes nothing else. -/
theorem State.IssuedAs.freeFrom (h : s.IssuedAs u i d) (hlen : (s.tl i.t).cur < (s.tl i.t).ctxs.length) (beat : Nat) :
    s.IssuedAs (u.freeFrom i.t beat) i d := by
  have hctxs : (u.tl i.t).ctxs ≠ [] := by
    rw [h.tile]
    exact List.ne_nil_of_length_pos (by rw [List.length_set]; omega)
  have hself : (u.freeFrom i.t beat).tl i.t = { u.tl i.t with freeAt := max (u.tl i.t).freeAt beat } :=
    State.tl_setTl_of_ctxs _ _ hctxs
  refine ⟨?state, h.fld, fun k hk => (State.tl_setTl_ne _ _ hk).trans (h.tiles k hk), ?tile, h.runs⟩
  case state =>
    rw [State.freeFrom, State.setTl, h.state]
  case tile => 
    rw [hself, h.tile]

/-- What `State.IssuedAs` says of the tile, part by part. -/
theorem State.IssuedAs.tile_parts (h : s.IssuedAs u i d) (hlen : (s.tl i.t).cur < (s.tl i.t).ctxs.length) :
    (∀ a, (u.tl i.t).byte a = (s.tl i.t).byte a) ∧ (u.tl i.t).cur = (s.tl i.t).cur ∧
    (u.tl i.t).halted = (s.tl i.t).halted ∧ (u.tl i.t).arrived = (s.tl i.t).arrived ∧
    (∀ k, k ≠ (s.tl i.t).cur → (u.tl i.t).ctxs[k]? = (s.tl i.t).ctxs[k]?) ∧
    (u.tl i.t).ctxs[(s.tl i.t).cur]? = some d := by
  rw [h.tile]
  exact ⟨fun _ => rfl, rfl, rfl, rfl, fun k hk => List.getElem?_set_ne hk.symm, List.getElem?_set_self hlen⟩

end Frame

/-- `d` differs from `c` in the PC and the registers alone. -/
def LeafSt.SameBut (c d : LeafSt) : Prop := d = { c with pc := d.pc, s := d.s, v := d.v, p := d.p }

/-- Moving the PC as well. -/
theorem LeafSt.SameBut.setPc {c d : LeafSt} (h : c.SameBut d) (pc : Nat) : c.SameBut { d with pc := pc } := by
  unfold LeafSt.SameBut at h ⊢
  rw [h]

/-- The instruction `x` changes the context of `i` alone, as `State.IssuedAs` has it, and leaves registers with `regs`. -/
def ChangesContext (s : State) (i : Issue) (x : Instr) (regs : LeafSt → Prop) : Prop :=
  ∃ u d, exec x s = .next u ∧ s.IssuedAs u i d ∧ i.c.SameBut d ∧ regs d

section Kinds

variable {s : State} {t cls op : Nat} {uses : Ins → List Nat} {i : Issue} {n : Ins} {x : Instr}

theorem changesContext_of_retire {regs : LeafSt → Prop} {d : LeafSt} (h : s.nextIs t cls op uses i n = true)
    (hx : exec x s = .next (s.retire i d)) (hd : i.c.SameBut d) (hregs : regs { d with pc := d.pc + 8 }) :
    ChangesContext s i x regs := by
  obtain ⟨rfl, hix, hlen⟩ := cur_of_nextIs h
  exact ⟨_, _, hx, State.retire_issuedAs (congrArg TileSt.cur hix) hlen, hd.setPc _, hregs⟩

/-- A branch writes no register, taken or not. -/
theorem changesContext_branch {test : LeafSt → Ins → Bool} (h : s.nextIs t 0 op uses i n = true)
    (hx : exec x s = .next (s.branch t op uses test)) :
    ChangesContext s i x (fun d => d.s = i.c.s ∧ d.v = i.c.v ∧ d.p = i.c.p) := by
  rw [State.branch_next h] at hx
  split at hx
  · obtain ⟨rfl, hix, hlen⟩ := cur_of_nextIs h
    exact ⟨_, _, hx, (State.putCtx_issued (congrArg TileSt.cur hix) hlen).freeFrom hlen _, rfl, rfl, rfl, rfl⟩
  · exact changesContext_of_retire h hx rfl ⟨rfl, rfl, rfl⟩

/-- A scalar result goes to s[RD] alone. -/
theorem changesContext_scalar {v : Nat} (h : s.nextIs t cls op uses i n = true)
    (hx : exec x s = .next (s.retire i (i.c.setS n.rd v))) : ChangesContext s i x
      (fun d => d.v = i.c.v ∧ d.p = i.c.p ∧ ∀ r, r ≠ n.rd ∨ r = 0 → d.sreg r = i.c.sreg r) := by
  have heq := i.c.setS_eq (i := n.rd) v
  exact changesContext_of_retire h hx (by rw [LeafSt.SameBut, heq]) ⟨heq ▸ rfl, heq ▸ rfl,
    fun r hr => i.c.sreg_setS_ne v hr⟩

/-- A vector result goes to lanes of v[RD] alone. -/
theorem changesContext_vector {sel : Nat → Bool} {f : Nat → Nat} (h : s.nextIs t cls op uses i n = true)
    (hx : exec x s = .next (s.retire i (i.c.setV n.rd sel f))) : ChangesContext s i x
      (fun d => d.s = i.c.s ∧ d.p = i.c.p ∧ ∀ r l, r ≠ n.rd → l < 16 → d.lane r l = i.c.lane r l) :=
  changesContext_of_retire h hx rfl ⟨rfl, rfl, fun _ _ hr hl => i.c.lane_setV_ne sel f hr hl⟩

/-- A compare's result goes to p[RD[2:0]] alone. -/
theorem changesContext_compare {v : Nat} (h : s.nextIs t cls op uses i n = true)
    (hx : exec x s = .next (s.retire i (i.c.setP (n.rd % 8) v))) : ChangesContext s i x
      (fun d => d.s = i.c.s ∧ d.v = i.c.v ∧ ∀ r, r ≠ n.rd % 8 ∨ r = 0 → d.preg r = i.c.preg r) := by
  have heq := i.c.setP_eq (i := n.rd % 8) v
  exact changesContext_of_retire h hx (by rw [LeafSt.SameBut, heq]) ⟨heq ▸ rfl, heq ▸ rfl,
    fun r hr => i.c.preg_setP_ne v hr⟩

end Kinds

/-- Settles O59: every instruction leaves its context by `State.retire`, or by a branch that is taken, and what it stores there
leaves the other registers. -/
theorem arithmeticFrame : Obligations.ArithmeticFrame := by
  intro s t i n frame hframe
  have hframed {cls op : Nat} {uses : Ins → List Nat} {x : Instr} {regs : LeafSt → Prop}
      (h : s.nextIs t cls op uses i n = true) (hx : ChangesContext s i x regs) : frame x regs := by
    obtain ⟨ht, -, hlen⟩ := cur_of_nextIs h
    obtain ⟨u, d, hexec, hu, hd, hregs⟩ := hx
    rw [← ht] at hlen
    obtain ⟨hbyte, hcur, hhalted, harrived, hothers, hself⟩ := hu.tile_parts hlen
    rw [hframe, ← ht]
    exact ⟨u, d, hexec, hu.state, hu.fld, hu.tiles, hbyte, hcur, hhalted, harrived, hothers, hself, hu.runs, hd, hregs⟩
  refine ⟨?branches, fun x hx h => hframed h ?scalars, fun x hx h => hframed h ?vectors,
    fun x hx h => hframed h ?compares⟩
  case branches =>
    rw [List.forall_mem_cons]
    refine ⟨fun h => hframed h (changesContext_of_retire h (next_issueRegs h) rfl ⟨rfl, rfl, rfl⟩),
      fun x hx h => hframed h ?_⟩
    fin_cases hx <;> exact changesContext_branch h rfl
  case scalars => fin_cases hx <;> exact changesContext_scalar h (next_issueRegs h)
  case vectors =>
    fin_cases hx
    on_goal 32 => exact changesContext_vector h (next_issue h)
    all_goals exact changesContext_vector h (next_issueRegs h)
  case compares => fin_cases hx <;> exact changesContext_compare h (next_issueRegs h)

end Sys2Proof.Machine

/-!
What each instruction that changes registers alone computes (R386 to R390, R405, R406, R615).
-/

namespace Sys2Proof.Machine

theorem b2n_decide (p : Prop) [Decidable p] : b2n (decide p) = if p then 1 else 0 := by
  simp only [b2n, decide_eq_true_eq]

section Instructions

variable {s : State} {t : Nat} {i : Issue} {n : Ins}

/-- GETS of a value that IMM names, SID only with USES_SID (R387, R615). -/
theorem State.gets_special {v : Nat} {arr : Bool} (himm : 0 ≤ n.imm) (hv : s.special i n.imm.toNat = some (v, arr))
    (hsid : n.imm = 9 → i.r.usesSid = true) :
    s.gets i n = (if arr = true then s.setRunFlag i.h 10 else s).retire i (i.c.setS n.rd v) := by
  have hallowed : ¬ (n.imm = 9 ∧ i.r.usesSid = false) := fun h => by rw [hsid h.1] at h; exact nomatch h.2
  rw [State.gets, if_neg (Int.not_lt.mpr himm), hv]
  exact if_neg hallowed

end Instructions

/-- Settles O30: the branches by `State.branch_next`, GETS by `State.gets_special`, the others by `next_issueRegs`. -/
theorem scalarInstructionsComplete : Obligations.ScalarInstructionsComplete := by
  rintro s t i n a b rfl rfl
  refine ⟨?branches, fun h => next_issueRegs h, ?gets, fun h => next_issueRegs h, fun h => next_issueRegs h,
    fun h => next_issueRegs h, fun h => next_issueRegs h, fun h => next_issueRegs h, fun h => next_issueRegs h,
    fun h => next_issueRegs h, fun h => next_issueRegs h, fun h => next_issueRegs h, ?slt, ?sltu,
    fun h => next_issueRegs h, fun h => next_issueRegs h⟩
  case branches =>
    rintro taken rfl
    have hbranch {op : Nat} {uses : Ins → List Nat} {test : LeafSt → Ins → Bool} {p : Prop} [Decidable p]
        (h : s.nextIs t 0 op uses i n = true) (hp : test i.c n = true ↔ p) :
        (.next (s.branch t op uses test) : Out) = .next (if p then
          ((s.putCtx i { i.c with pc := unsg 32 ((i.c.pc : Int) + n.imm) }).issued i.h i.t).freeFrom i.t (s.tb.beat + 3)
        else s.retire i i.c) := by
      rw [State.branch_next h]
      simp only [hp]
    refine ⟨fun h => ?br, fun h => hbranch h beq_iff_eq, fun h => ?bnz, fun h => hbranch h decide_eq_true_iff,
      fun h => hbranch h decide_eq_true_iff⟩
    case br => exact (hbranch h (iff_true_intro rfl)).trans (by rw [if_pos trivial])
    case bnz => exact (hbranch h bne_iff_ne).trans (by rw [ite_not])
  case gets => exact fun h v arr himm hv hsid => (next_issue h).trans (congrArg _ (State.gets_special himm hv hsid))
  case slt => exact fun h => (next_issueRegs h).trans (by simp only [b2n_decide])
  case sltu => exact fun h => (next_issueRegs h).trans (by simp only [b2n_decide])

/-- Settles O31: each instruction is the operation that its command names, put in place by `next_issueRegs`. -/
theorem vectorInstructionsComplete : Obligations.VectorInstructionsComplete := by
  intro s t i n res a b d hres ha hb hd
  obtain rfl : res = fun f => s.retire i (i.c.setV n.rd (i.c.sel n) f) := funext hres
  obtain rfl : a = i.c.lane n.ra := funext ha
  obtain rfl : b = i.c.lane n.rb := funext hb
  obtain rfl : d = i.c.lane n.rd := funext hd
  refine ⟨next_issueRegs, next_issueRegs, next_issueRegs, next_issueRegs, next_issueRegs, next_issueRegs, next_issueRegs,
    next_issueRegs, next_issueRegs, next_issueRegs, next_issueRegs, next_issueRegs, next_issueRegs, next_issueRegs,
    next_issueRegs, next_issueRegs, next_issueRegs, next_issueRegs, next_issueRegs, next_issueRegs, next_issueRegs,
    next_issueRegs, next_issueRegs, next_issueRegs, next_issueRegs, next_issueRegs, ?compares, ?trees, ?random⟩
  case compares =>
    intro p hp
    obtain rfl := funext hp
    exact ⟨next_issueRegs, next_issueRegs, next_issueRegs⟩
  case trees =>
    intro tree htree
    obtain rfl := funext htree
    exact ⟨next_issueRegs, next_issueRegs, next_issueRegs, next_issueRegs, next_issueRegs, next_issueRegs⟩
  case random =>
    rintro h k stream rfl rfl
    exact next_issue h

end Sys2Proof.Machine

/-!
What VST and SST store in a tile's SRAM, and what they leave (R386, R387, R408, R411).
-/

namespace Sys2Proof.Machine

/-! ### Bytes put in a tile's SRAM -/

theorem leBytes_length (n v : Nat) : (leBytes n v).length = n := by
  induction n generalizing v with
  | zero => rfl
  | succ n ih => rw [leBytes, List.length_cons, ih]

theorem leBytes_getElem? {n j : Nat} (v : Nat) (hj : j < n) : (leBytes n v)[j]? = some (BitVec.ofNat 8 (v / 256 ^ j)) := by
  induction n generalizing v j with
  | zero => omega
  | succ n ih =>
    cases j with
    | zero => rw [leBytes, List.getElem?_cons_zero, Nat.pow_zero, Nat.div_one]
    | succ j => rw [leBytes, List.getElem?_cons_succ, ih _ (by omega), Nat.div_div_eq_div_mul, Nat.pow_succ']

/-- Putting bytes changes a tile's SRAM alone. -/
theorem TileSt.put_eq (x : TileSt) (a : Nat) (bs : List Byte) : x.put a bs = { x with sram := (x.put a bs).sram } := by
  induction bs generalizing x a with
  | nil => rfl
  | cons b bs ih => exact ih _ _

/-- What a store puts: byte strings at their places from `a`. -/
def TileSt.putAt (x : TileSt) (a : Nat) (ws : List (Nat × List Byte)) : TileSt :=
  ws.foldl (fun (y : TileSt) w => y.put (a + w.1) w.2) x

theorem TileSt.putAt_cons (x : TileSt) (a : Nat) (w : Nat × List Byte) (ws : List (Nat × List Byte)) :
    x.putAt a (w :: ws) = (x.put (a + w.1) w.2).putAt a ws := rfl

/-- A store changes a tile's SRAM alone. -/
theorem TileSt.putAt_eq (x : TileSt) (a : Nat) (ws : List (Nat × List Byte)) :
    x.putAt a ws = { x with sram := (x.putAt a ws).sram } := by
  induction ws generalizing x with
  | nil => rfl
  | cons w ws ih =>
    have hsram (y z : TileSt) (sram : List (Nat × Byte)) (h : y = { z with sram := y.sram }) :
        ({ y with sram := sram } : TileSt) = { z with sram := sram } := by rw [h]
    rw [TileSt.putAt_cons]
    exact (ih _).trans (hsram _ _ _ (x.put_eq _ _))

/-- A byte that no string reaches is as before. -/
theorem TileSt.byte_putAt_ne {a b : Nat} {ws : List (Nat × List Byte)} (x : TileSt)
    (h : ∀ w ∈ ws, b < a + w.1 ∨ a + w.1 + w.2.length ≤ b) : (x.putAt a ws).byte b = x.byte b := by
  induction ws generalizing x with
  | nil => rfl
  | cons w ws ih =>
    exact (ih (x.put (a + w.1) w.2) fun v hv => h v (List.mem_cons_of_mem _ hv)).trans
      (TileSt.byte_put_ne w.2 x _ _ (h w List.mem_cons_self))

/-- A byte of a string reads back, where the strings follow each other. -/
theorem TileSt.byte_putAt {a j : Nat} {ws : List (Nat × List Byte)} {w : Nat × List Byte} (x : TileSt)
    (hx : Tab.wf (0 : Byte) x.sram = true) (hws : ws.Pairwise fun v w => v.1 + v.2.length ≤ w.1) (hw : w ∈ ws)
    (hj : j < w.2.length) : (x.putAt a ws).byte (a + w.1 + j) = w.2[j]?.getD 0 := by
  induction ws generalizing x with
  | nil => cases hw
  | cons v ws ih =>
    obtain ⟨hfirst, hrest⟩ := List.pairwise_cons.mp hws
    cases hw with
    | head =>
      refine (TileSt.byte_putAt_ne (x.put (a + w.1) w.2) fun v hv => .inl ?_).trans (TileSt.byte_put w.2 x _ j ?_ hj)
      · have := hfirst v hv
        omega
      · exact (Bool.and_eq_true_iff.mp hx).1
    | tail _ hw => exact ih _ (TileSt.put_wf _ _ _ hx) hrest hw

/-! ### What a store leaves -/

/-- `u` is `s` but for the bytes `stored` of tile `t`, the registers of its page, how far the tiles have come and the run of
household `h`. -/
structure State.Stores (s u : State) (t h : Nat) (stored : Nat → Prop) : Prop where
  state : u = { s with regs := u.regs, tile := u.tile, run := u.run }
  fld : ∀ (q : Nat) (f : Fld), f.bit < 32768 → q ≠ pTile t → u.fld q f = s.fld q f
  byte : ∀ k a, k ≠ t ∨ ¬ stored a → (u.tl k).byte a = (s.tl k).byte a
  ctxs : ∀ k, (u.tl k).ctxs.map (fun c => (c.s, c.v, c.p)) = (s.tl k).ctxs.map (fun c => (c.s, c.v, c.p))
  runs : ∀ k, k ≠ h → u.runOf k = s.runOf k

/-- `u` is `s` but for the registers of tile `t`'s page, how far the tiles have come and the run of household `h`. -/
abbrev State.StoresNone (s u : State) (t h : Nat) : Prop := s.Stores u t h fun _ => False

section Stores

variable {s u w : State} {t h : Nat} {stored : Nat → Prop}

theorem State.Stores.refl (s : State) : s.Stores s t h stored :=
  ⟨rfl, fun _ _ _ _ => rfl, fun _ _ _ => rfl, fun _ => rfl, fun _ _ => rfl⟩

theorem State.Stores.trans (hu : s.Stores u t h stored) (hw : u.StoresNone w t h) : s.Stores w t h stored where
  state := calc
    w = { u with regs := w.regs, tile := w.tile, run := w.run } := hw.state
    _ = { s with regs := w.regs, tile := w.tile, run := w.run } := by rw [hu.state]
  fld q f hf hq := (hw.fld q f hf hq).trans (hu.fld q f hf hq)
  byte k a ha := (hw.byte k a (.inr not_false)).trans (hu.byte k a ha)
  ctxs k := (hw.ctxs k).trans (hu.ctxs k)
  runs k hk := (hw.runs k hk).trans (hu.runs k hk)

theorem State.Stores.ite {c : Prop} [Decidable c] (hu : s.Stores u t h stored) (hw : s.Stores w t h stored) :
    s.Stores (if c then u else w) t h stored := by
  split
  · exact hu
  · exact hw

theorem State.StoresNone.foldl {α : Type} {f : State → α → State} (hf : ∀ (u : State) x, u.StoresNone (f u x) t h)
    (l : List α) (s : State) : s.StoresNone (l.foldl f s) t h := by
  induction l generalizing s with
  | nil => exact .refl s
  | cons x l ih => exact (hf s x).trans (ih _)

theorem State.setFld_storesNone (s : State) {f : Fld} (v : Nat) (hf : f.bit < 32768) :
    s.StoresNone (s.setFld (pTile t) f v) t h :=
  ⟨rfl, fun _ _ hg hq => fld_setFld_page _ _ hq hf hg, fun _ _ _ => rfl, fun _ => rfl, fun _ _ => rfl⟩

theorem State.setRun_storesNone (s : State) (r : RunSt) : s.StoresNone (s.setRun h r) t h :=
  ⟨rfl, fun _ _ _ _ => rfl, fun _ _ _ => rfl, fun _ => rfl, fun _ hk => State.runOf_setRun_ne s r hk⟩

/-- A tile written with other bytes, with its contexts as they were. -/
theorem State.setTl_stores (s : State) {k : Nat} {x : TileSt} (hx : x ≠ TileSt.reset) (hctxs : x.ctxs = (s.tl k).ctxs)
    (hbyte : ∀ a, k ≠ t ∨ ¬ stored a → x.byte a = (s.tl k).byte a) : s.Stores (s.setTl k x) t h stored := by
  have hself := s.tl_setTl_self k x hx
  refine ⟨rfl, fun _ _ _ _ => rfl, fun j a ha => ?byte, fun j => ?ctxs, fun _ _ => rfl⟩
  case byte =>
    by_cases hj : j = k
    · subst hj
      rw [hself, hbyte a ha]
    · rw [State.tl_setTl_ne s x hj]
  case ctxs =>
    by_cases hj : j = k
    · subst hj
      rw [hself, hctxs]
    · rw [State.tl_setTl_ne s x hj]

/-! ### Watchpoints (R408, R409) -/

theorem State.recordHit_storesNone (s : State) (watch : Bool) (k leaf pc : Nat) :
    s.StoresNone (s.recordHit t watch k leaf pc) t h := by
  have hfld {u : State} (hu : s.StoresNone u t h) (f : Fld) (hf : f.bit < 32768) (v : Nat) :
      s.StoresNone (u.setFld (pTile t) f v) t h := hu.trans (u.setFld_storesNone v hf)
  exact .ite (.refl s) (hfld (hfld (hfld (hfld (hfld (.refl s) _ (by decide) _) _ (by decide) _) _ (by decide) _) _
    (by decide) _) _ (by decide) _)

/-- An event without an error code, on the tile's page. -/
theorem State.raiseBy_storesNone (s : State) {e : Ev} (he : e.code = 0) (hh : Nat) :
    s.StoresNone (s.raiseBy (pTile t) e hh) t h := by
  have hraw := s.setFld_storesNone (t := t) (h := h) (f := HDR.EVT_RAW_RAW)
    (setBit (s.fld (pTile t) HDR.EVT_RAW_RAW) e.bit) (by decide)
  rw [State.raiseBy, if_pos he]
  exact .ite (hraw.trans (State.setFld_storesNone _ _ (by decide))) hraw

/-- Halting a run stops tiles and notes why. -/
theorem State.haltRun_storesNone (s : State) (cause n : Nat) : s.StoresNone (s.haltRun h cause n) t h := by
  have hstop (u : State) (k : Nat) :
      u.StoresNone (u.setTl k { u.tl k with halted := true, steps := 0 }) t h :=
    u.setTl_stores (fun e => nomatch congrArg TileSt.halted e) rfl fun _ _ => rfl
  unfold State.haltRun
  split
  · exact .refl s
  · exact (State.StoresNone.foldl hstop _ s).trans (State.setRun_storesNone _ _)

theorem State.hit_storesNone (s : State) (i : Issue) (watch : Bool) (k : Nat) :
    s.StoresNone (s.hit i watch k) i.t i.h := by
  have hcode : (if watch = true then TILE.evWATCH_HIT else TILE.evBKPT_HIT).code = 0 := by cases watch <;> rfl
  have hraised := (s.recordHit_storesNone (t := i.t) (h := i.h) watch k i.c.leaf i.c.pc).trans
    (State.raiseBy_storesNone _ hcode i.h)
  exact .ite (hraised.trans (State.haltRun_storesNone _ _ _)) hraised

theorem State.watch_storesNone (s : State) (i : Issue) (off n : Nat) (write : Bool) :
    s.StoresNone (s.watch i off n write) i.t i.h :=
  State.StoresNone.foldl (fun u k => u.hit_storesNone i true k) _ s

end Stores

/-! ### The store itself -/

section Store

variable {s : State} {i : Issue}

/-- An issued instruction that leaves the registers of its context stores nothing. -/
theorem State.IssuedAs.storesNone {u : State} {c d : LeafSt} (hu : s.IssuedAs u i d)
    (hc : (s.tl i.t).ctxs[(s.tl i.t).cur]? = some c) (hregs : (d.s, d.v, d.p) = (c.s, c.v, c.p)) :
    s.StoresNone u i.t i.h := by
  refine ⟨hu.state, fun q f hf hq => hu.fld q f hf (.inl hq), fun k a _ => ?byte, fun k => ?ctxs, hu.runs⟩
  case byte =>
    by_cases hk : k = i.t
    · rw [hk, hu.tile]
      rfl
    · rw [hu.tiles k hk]
  case ctxs =>
    by_cases hk : k = i.t
    · obtain ⟨hlt, rfl⟩ := List.getElem?_eq_some_iff.mp hc
      rw [hk, hu.tile, List.map_set]
      exact (congrArg (List.set _ _) hregs).trans (List.map_set.symm.trans (by rw [List.set_getElem_self]))
    · rw [hu.tiles k hk]

/-- An instruction that completes with the registers as they were stores nothing. -/
theorem State.retire_storesNone {c : LeafSt} (hcur : i.x.cur = (s.tl i.t).cur)
    (hc : (s.tl i.t).ctxs[(s.tl i.t).cur]? = some c) (hic : i.c = { c with ready := i.c.ready }) :
    s.StoresNone (s.retire i i.c) i.t i.h :=
  (State.retire_issuedAs hcur (List.getElem?_eq_some_iff.mp hc).choose).storesNone hc (by rw [hic])

/-- An access of the window that issues aligned and inside it (R411). -/
theorem State.winOp_next {t op w : Nat} {n : Ins} {k : Issue → Ins → Nat → State}
    (h : s.nextIs t 4 op Ins.rdRa i n = true) (hwin : i.winFault (i.offset n) w w = none) :
    s.winOp t op w k = k i n (i.offset n) := by
  rw [State.winOp, issue_next h]
  simp only [hwin]

/-- A store that issues inside the window, aligned, puts its bytes, completes and hits its watchpoints (R408, R411). -/
theorem next_store {t op w : Nat} {n : Ins} {f : LeafSt → Ins → List (Nat × List Byte)} {x : TileSt}
    (h : s.nextIs t 4 op Ins.rdRa i n = true) (hwin : i.winFault (i.offset n) w w = none)
    (hx : i.x.putAt (i.addr (i.offset n)) (f i.c n) = x) : (.next (s.store t op w f) : Out) =
    .next (((s.setTl i.t x).retire { i with x := x } i.c).watch { i with x := x } (i.offset n) w true) := by
  subst hx
  exact congrArg Host.Outcome.next (State.winOp_next h hwin)

/-- A store that issues leaves what it puts in the tile's SRAM, and nothing else but the course of the tile and its run. -/
theorem State.stored_stores {t cls op off w a : Nat} {uses : Ins → List Nat} {n : Ins} {ws : List (Nat × List Byte)}
    {x : TileSt} {stored : Nat → Prop} (h : s.nextIs t cls op uses i n = true)
    (hwf : Tab.wf (0 : Byte) i.x.sram = true) (hx : i.x.putAt a ws = x)
    (hws : ws.Pairwise fun v w => v.1 + v.2.length ≤ w.1)
    (hstored : ∀ b, ¬ stored b → ∀ v ∈ ws, b < a + v.1 ∨ a + v.1 + v.2.length ≤ b) {u : State}
    (hu : ((s.setTl i.t x).retire { i with x := x } i.c).watch { i with x := x } off w true = u) :
    s.Stores u i.t i.h stored ∧
      ∀ v ∈ ws, ∀ j < v.2.length, (u.tl i.t).byte (a + v.1 + j) = v.2[j]?.getD 0 := by
  obtain ⟨rfl, hix, c, hc, hic⟩ := nextIs_at h
  have hxe := i.x.putAt_eq a ws
  rw [hx, hix] at hxe
  have hcur : x.cur = (s.tl i.t).cur := by rw [hxe]
  have hctxs : x.ctxs = (s.tl i.t).ctxs := by rw [hxe]
  have hreset : x ≠ TileSt.reset := TileSt.ne_reset_of_ctxs fun hnil => by
    rw [← hctxs, hnil] at hc
    cases hc
  have hself := s.tl_setTl_self i.t x hreset
  have hput : s.Stores (s.setTl i.t x) i.t i.h stored := State.setTl_stores s hreset hctxs fun b hb => by
    rw [← hx, ← hix]
    exact TileSt.byte_putAt_ne _ (hstored b (hb.resolve_left (not_not_intro rfl)))
  have hretire : (s.setTl i.t x).StoresNone ((s.setTl i.t x).retire { i with x := x } i.c) i.t i.h :=
    State.retire_storesNone (i := { i with x := x }) (by rw [hself]) (by rw [hself, hcur, hctxs]; exact hc) hic
  have hafter : (s.setTl i.t x).StoresNone u i.t i.h := by
    subst hu
    exact hretire.trans (State.watch_storesNone _ { i with x := x } _ _ _)
  refine ⟨hput.trans hafter, fun v hv j hj => ?_⟩
  rw [hafter.byte i.t _ (.inr not_false), hself, ← hx]
  exact TileSt.byte_putAt i.x hwf hws hv hj

end Store

/-- The lanes that VST stores, in order. -/
def vstWords (c : LeafSt) (n : Ins) : List (Nat × List Byte) :=
  ((List.range 16).filter (c.sel n)).map (fun l => (4 * l, leBytes 4 (c.lane n.rd l)))

theorem mem_vstWords {c : LeafSt} {n : Ins} {v : Nat × List Byte} :
    v ∈ vstWords c n ↔ ∃ l, l < 16 ∧ c.sel n l = true ∧ v = (4 * l, leBytes 4 (c.lane n.rd l)) := by
  simp only [vstWords, List.mem_map, List.mem_filter, List.mem_range, and_assoc, eq_comm]

/-- The lanes lie one after the other. -/
theorem vstWords_pairwise (c : LeafSt) (n : Ins) : (vstWords c n).Pairwise fun v w => v.1 + v.2.length ≤ w.1 := by
  refine List.pairwise_map.mpr ((List.pairwise_lt_range.filter _).imp fun {l m} hlm => ?_)
  rw [leBytes_length]
  omega

/-- Settles O60: a store is `next_store`, what it leaves is `State.stored_stores`, and the lanes of VST lie apart. -/
theorem storeFrame : Obligations.StoreFrame := by
  rintro s t i n off a keep hcanon rfl rfl hkeep
  have hwf {cls op : Nat} {uses : Ins → List Nat} (h : s.nextIs t cls op uses i n = true) :
      i.t = t ∧ Tab.wf (0 : Byte) i.x.sram = true := by
    obtain ⟨ht, hix, -⟩ := cur_of_nextIs h
    exact ⟨ht, hix ▸ State.tl_wf (State.ok_of_canon hcanon) t⟩
  have hkept {u : State} {stored : Nat → Prop} (ht : i.t = t) (hu : s.Stores u i.t i.h stored) : keep u stored := by
    rw [hkeep, ← ht]
    exact ⟨hu.state, hu.fld, hu.byte, hu.ctxs, hu.runs⟩
  refine ⟨fun hwin h => ?vst, fun hwin h => ?sst⟩
  case vst =>
    obtain ⟨ht, hwf⟩ := hwf h
    obtain ⟨x, hx⟩ : ∃ x, i.x.putAt (i.addr (i.offset n)) (vstWords i.c n) = x := ⟨_, rfl⟩
    obtain ⟨hstores, hbyte⟩ := State.stored_stores (off := i.offset n) (w := 64)
      (stored := fun b => ∃ l, l < 16 ∧ i.c.sel n l = true ∧ i.addr (i.offset n) + 4 * l ≤ b ∧
        b < i.addr (i.offset n) + 4 * l + 4) h hwf hx (vstWords_pairwise i.c n) (fun b hb v hv => by
          obtain ⟨l, hl, hsel, rfl⟩ := mem_vstWords.mp hv
          by_contra hin
          rw [leBytes_length] at hin
          exact hb ⟨l, hl, hsel, by omega⟩) rfl
    refine ⟨_, next_store (f := vstWords) h hwin hx, hkept ht hstores, fun l j hl hsel hj => ?_⟩
    rw [← ht, hbyte _ (mem_vstWords.mpr ⟨l, hl, hsel, rfl⟩) j (by rwa [leBytes_length]), leBytes_getElem? _ hj,
      Option.getD_some]
  case sst =>
    obtain ⟨ht, hwf⟩ := hwf h
    obtain ⟨x, hx⟩ : ∃ x, i.x.putAt (i.addr (i.offset n)) [(0, leBytes 8 (i.c.sreg n.rd))] = x := ⟨_, rfl⟩
    obtain ⟨hstores, hbyte⟩ := State.stored_stores (off := i.offset n) (w := 8)
      (stored := fun b => i.addr (i.offset n) ≤ b ∧ b < i.addr (i.offset n) + 8) h hwf hx (List.pairwise_singleton _ _)
      (fun b hb v hv => by
        obtain rfl := List.mem_singleton.mp hv
        rw [leBytes_length]
        omega) rfl
    refine ⟨_, next_store (f := fun c n => [(0, leBytes 8 (c.sreg n.rd))]) h hwin hx, hkept ht hstores, fun j hj => ?_⟩
    have hread := hbyte _ List.mem_cons_self j (by rwa [leBytes_length])
    rw [leBytes_getElem? _ hj, Option.getD_some] at hread
    rwa [← ht]

end Sys2Proof.Machine

/-!
The instructions that reach a tile's window, DRAM and the queues (R386, R387, R398, R399, R408, R411, R614, R618).
-/

namespace Sys2Proof.Machine

section Issued

variable {s u : State} {t : Nat} {i : Issue} {n : Ins} {e : EccResult} (he : e ≠ .uncorrectable)
  (hu : (if e = .corrected then (s.bump (pTile i.t) TILE.T_ECC_CORRECTED).raiseBy (pTile i.t) TILE.evECC_CORR i.h
    else s) = u)

/-! ### Reads of the SRAM -/

include he hu

/-- A read that is not in error beyond repair goes on, counted where it was corrected (R415). -/
theorem State.eccRead_readable {k : State → State} : s.eccRead i e k = k u := by
  subst hu
  cases e with
  | clean => rfl
  | corrected => rfl
  | uncorrectable => exact absurd rfl he

/-- A load that issues aligned and inside the window takes the bytes there (R387, R408, R411). -/
theorem next_load {op w : Nat} {f : LeafSt → Ins → List Byte → LeafSt} (h : s.nextIs t 4 op Ins.rdRa i n = true)
    (hwin : i.winFault (i.offset n) w w = none) : (.next (s.load t op w e f) : Out) =
    .next ((u.retire i (f i.c n (i.x.bytes (i.addr (i.offset n)) w))).watch i (i.offset n) w false) :=
  congrArg Host.Outcome.next ((State.winOp_next h hwin).trans (State.eccRead_readable he hu))

/-! ### Transfers -/

/-- A DMA of up to 1,024 blocks between an aligned window range and DRAM that the household may reach (R387, R411,
R614). -/
theorem next_dmaStart {op a off len : Nat} {put : Bool} (h : s.nextIs t 4 op Ins.raRb i n = true) (hpos : 0 < n.imm)
    (hmax : n.imm ≤ 1024) (hlen : 64 * n.imm.toNat = len) (ha : i.c.sreg n.ra = a) (hoff : i.c.sreg n.rb = off)
    (hwin : i.winFault off len 64 = none) (hmapped : s.dramMapped a len = true) (hmay : s.dramMay i.h a len = true) :
    (.next (s.dmaStart t op put e) : Out) = .next (((((if put = true then u.trackPut i.h a len
      else u.trackGet i.h a len).retire i { i.c with dma := i.c.dma ++
        [⟨put, a, off, len, if put = true then i.x.bytes (i.addr off) len else []⟩] }).dramAsk a len (256 + i.h)
          false)).watch i off len (!put)) := by
  subst hlen ha hoff
  have hrange : ¬ (n.imm < 0 ∨ 1024 < n.imm) := by omega
  have hblocks : ¬ 64 * n.imm.toNat = 0 := by omega
  refine (next_issue h).trans (congrArg Host.Outcome.next ?_)
  simp only [hrange, hwin, hblocks, hmapped, hmay, Bool.and_self, if_false, if_true]
  exact State.eccRead_readable he hu

/-! ### Items -/

/-- An EMIT of up to 1,000 words to a queue of the household stages its item (R399, R618). -/
theorem next_emit {q : Nat} {ws : List Nat} {r : RunSt} (h : s.nextIs t 5 1 Ins.raRb i n = true) (hpos : 0 ≤ n.imm)
    (hmax : n.imm ≤ 1000) (hwin : i.winFault (i.c.sreg n.rb) (8 * n.imm.toNat) 1 = none)
    (hq : i.c.sreg n.ra % 256 = q) (howner : s.qOwner q = i.h)
    (hws : (List.range n.imm.toNat).map (fun k => ofLeBytes (i.x.bytes (i.addr (i.c.sreg n.rb) + 8 * k) 8)) = ws)
    (hr : (u.retire i i.c).runOf i.h = some r) :
    (.next (s.issue t 5 1 Ins.raRb (fun i n => s.emit i n e)) : Out) =
      .next (((u.retire i i.c).setRun i.h { r with emits := r.emits ++ [⟨i.c.leaf, q, ws⟩] }).watch i
        (i.c.sreg n.rb) (8 * n.imm.toNat) false) := by
  subst hq hws
  have hrange : ¬ (n.imm < 0 ∨ 1000 < n.imm) := by omega
  refine (next_issue h).trans (congrArg Host.Outcome.next ?_)
  simp only [State.emit, hrange, hwin, howner, if_false, ne_eq, not_true_eq_false]
  rw [State.eccRead_readable he hu, hr]

omit he hu

/-- A POP inside the window completes where the run has its step item, and waits where it has none (R398). -/
theorem State.pop_inside {r : RunSt} (hpos : 0 ≤ n.imm) (hwin : i.winFault (i.c.sreg n.rb) (8 * n.imm.toNat) 1 = none)
    (ht : (if i.r.tried = true then s else s.portTake i.h i.r) = u) (hr : u.runOf i.h = some r) :
    s.pop i n = if r.got = true then u.popFinish i n else u.putCtx i { i.c with popWait := true } := by
  rw [State.pop, if_neg (Int.not_lt.mpr hpos)]
  simp only [hwin, ht, hr]

end Issued

/-! ### What ends a transfer, and a POP that waited -/

theorem modifyNth_getElem?_self {α : Type} {f : α → α} {l : List α} {k : Nat} {x : α} (h : l[k]? = some x) :
    (modifyNth f l k)[k]? = some (f x) := by
  induction l generalizing k with
  | nil => cases h
  | cons y l ih =>
    cases k with
    | zero => cases h; rfl
    | succ k => exact ih h

theorem nth_map_of_getElem? {α β : Type} {f : α → β} {y : β} {l : List α} {k : Nat} {x : α} (h : l[k]? = some x) :
    nth y (l.map f) k = f x := by
  rw [nth, List.getElem?_map, h, Option.map_some, Option.getD_some]

section Completions

variable {s : State} {t : Fin 64} {x : TileSt} {k : Nat} {r : RunSt} {c : LeafSt}

section Transfer

variable {leaf : Fin 64} {d : DmaSt} {rest : List DmaSt} (hx : s.tl t = x)
  (hk : x.ctxs.findIdx? (fun c => c.leaf == leaf.val) = some k) (hr : s.runOf (s.tileOwner t) = some r)
  (hc : x.ctxs[k]? = some c) (hd : c.dma = d :: rest) (hwait : c.dmaWait = false)

include hx hk hr hc hd hwait

/-- The oldest transfer of a leaf comes from DRAM, and no DMAWAIT waits for it: its bytes go to the window (R387). -/
theorem execDmaComplete_get {bs : List Byte} {b : Bool} {v : State} (hget : d.put = false)
    (hv : (s.dramDone (256 + s.tileOwner t) d.len).dramFetch d.dram d.len = (bs, b, v)) :
    exec (.dmaComplete t leaf) s = .next (v.setTl t { x with
      sram := (x.put (winBase r.leafSram k + d.win) bs).sram
      ctxs := modifyNth (fun (c : LeafSt) => { c with dma := rest }) x.ctxs k }) := by
  have hdma := (nth_map_of_getElem? (y := []) (f := LeafSt.dma) hc).trans hd
  have hself := modifyNth_getElem?_self (f := fun c : LeafSt => { c with dma := rest }) hc
  change execDmaComplete t leaf s = _
  simp only [execDmaComplete, hx, hk, hr, hdma, hget, hv, Bool.false_eq_true, if_false]
  rw [TileSt.put_eq]
  simp only [hself, hwait, Bool.false_and, Bool.false_eq_true, if_false]

/-- The oldest transfer of a leaf goes to DRAM, and no DMAWAIT waits for it: DRAM takes what the window held (R387). -/
theorem execDmaComplete_put (hput : d.put = true) : exec (.dmaComplete t leaf) s =
    .next (((s.dramDone (256 + s.tileOwner t) d.len).dramStore d.dram d.data).setTl t { x with
      ctxs := modifyNth (fun (c : LeafSt) => { c with dma := rest }) x.ctxs k }) := by
  have hdma := (nth_map_of_getElem? (y := []) (f := LeafSt.dma) hc).trans hd
  have hself := modifyNth_getElem?_self (f := fun c : LeafSt => { c with dma := rest }) hc
  change execDmaComplete t leaf s = _
  simp only [execDmaComplete, hx, hk, hr, hdma, hput, if_true, hself, hwait, Bool.false_and, Bool.false_eq_true, if_false]

end Transfer

/-- A POP that waits takes the item that the run has obtained (R398). -/
theorem execPopItemObtained_next (hx : s.tl t = x) (hr : s.runOf (s.tileOwner t) = some r)
    (hc : x.ctxs[x.cur]? = some c) (hgot : r.got = true) (hwait : c.popWait = true) :
    exec (.popItemObtained t) s =
      .next (s.popFinish ⟨s.tileOwner t, r, t, x, c⟩ (insOf (ofLeBytes (x.bytes c.pc 8)))) := by
  subst hx
  change execPopItemObtained t s = _
  simp only [execPopItemObtained, hr, hc, hgot, hwait, Bool.and_self, if_true]

end Completions

/-- Settles O32: a lemma for each kind of instruction, and for what completes later. -/
theorem memoryAndQueueInstructionsComplete : Obligations.MemoryAndQueueInstructionsComplete := by
  intro s u t i n e he hu
  refine ⟨?window, ?dma, fun h => ?wait, ?complete, ?pop, ?obtained, ?emit⟩
  case window =>
    rintro off rfl
    refine ⟨fun hwin => ⟨fun h => next_load he hu h hwin, fun h x hx => ?vst⟩,
      fun hwin => ⟨fun h => next_load he hu h hwin, fun h x hx => ?sst⟩⟩
    case vst => exact next_store (f := vstWords) h hwin (by rw [TileSt.putAt, vstWords, List.foldl_map]; exact hx)
    case sst => exact next_store (f := fun c n => [(0, leBytes 8 (c.sreg n.rd))]) h hwin hx
  case dma =>
    intro a off len hpos hmax hlen ha hoff hwin hmapped hmay
    exact ⟨fun h => next_dmaStart (e := .clean) (by decide) rfl h hpos hmax hlen ha hoff hwin hmapped hmay,
      fun h => next_dmaStart he hu h hpos hmax hlen ha hoff hwin hmapped hmay⟩
  case wait => exact next_issue h
  case complete =>
    intro leaf x k r c d rest hx hk hr hc hd hwait
    exact ⟨fun hget bs b v => execDmaComplete_get hx hk hr hc hd hwait hget, execDmaComplete_put hx hk hr hc hd hwait⟩
  case pop =>
    intro h hpos hwin u ht
    refine ⟨fun r hr hgot => ?got, fun r hr hnone => ?none⟩
    case got => exact (next_issue h).trans (by rw [State.pop_inside hpos hwin ht hr, if_pos hgot])
    case none => exact (next_issue h).trans (by rw [State.pop_inside hpos hwin ht hr, hnone]; rfl)
  case obtained => exact fun x r c => execPopItemObtained_next
  case emit => exact fun r q ws h hpos hmax hwin hq howner hws hr => next_emit he hu h hpos hmax hwin hq howner hws hr

end Sys2Proof.Machine

/-!
The instructions that end a leaf's stretch: barriers, TRAP, breakpoints and illegal words (R386, R400 to R402, R407, R414).
-/

namespace Sys2Proof.Machine

section Issuing

variable {s : State} {t : Fin 64} {i : Issue} (hi : s.issuing t = some i)

include hi

/-- An enabled breakpoint at the next instruction is recorded (R407). -/
theorem execBreakpointHit_at {b : Nat} (hb : s.bpAt i = some b) : exec (.breakpointHit t) s = .next (s.bpHit i b) := by
  change execBreakpointHit t s = _
  simp only [execBreakpointHit, hi, hb]

/-- A word with a reserved CLASS or an unlisted OP faults with ILLEGAL (R386). -/
theorem execIllegalInstruction_faults {w : Nat} (hw : i.fetch = .ok w)
    (hlegal : insLegal (insOf w).cls (insOf w).op = false) (hb : s.bpAt i = none) :
    exec (.illegalInstruction t) s = .next (s.leafFault i.h i.t i.c 1 1) := by
  change execIllegalInstruction t s = _
  simp only [execIllegalInstruction, hi, hw, hlegal, hb, Bool.false_eq_true, if_false]

end Issuing

/-- Settles O33: each instruction by `next_issue`, then the breakpoint and the illegal word. -/
theorem barrierInstructionsComplete : Obligations.BarrierInstructionsComplete := by
  intro s t i n
  refine ⟨next_issue, next_issue, next_issue, next_issue, ?vectors, ?scalars, fun hi b => execBreakpointHit_at hi, ?illegal⟩
  case vectors =>
    rintro v rfl
    exact ⟨next_issue, next_issue, next_issue, next_issue, next_issue, next_issue⟩
  case scalars =>
    rintro v rfl
    exact ⟨next_issue, next_issue, next_issue, next_issue, next_issue, next_issue⟩
  case illegal =>
    rintro hi w hw rfl
    exact execIllegalInstruction_faults hi hw

end Sys2Proof.Machine

/-!
The run slots' commands: LOAD and its completion, LAUNCH, the first issue and ABORT (R391 to R395, R412, R416, R611, R635).
-/

namespace Sys2Proof.Machine

/-! ### SLOT_CTRL -/

/-- A write of a slot's SLOT_CTRL (R412). -/
theorem State.sieveWrite_ctrl (s : State) (k w hh : Nat) : s.sieveWrite hh (0x200 + 0x80 * k) w = s.sieveCtrl k w hh := by
  have hk : (0x200 + 0x80 * k - 0x200) / 0x80 = k := by omega
  have hr : (0x200 + 0x80 * k - 0x200) % 0x80 = 0 := by omega
  simp only [State.sieveWrite, hk, hr, if_neg (show ¬ 0x200 + 0x80 * k < 0x200 by omega), if_true]

/-- A served write of SLOT_CTRL leads where its command leads. -/
theorem next_ctrlAccess {s u : State} {i : Instr} {a : Acc} {k w : Nat}
    (hs : s.serves a pSieve (0x200 + 0x80 * k) true = true) (hu : (s.answer [0]).sieveCtrl k w a.hh = u) :
    (.next (s.ctrlAccess i a k w) : Out) = .next u :=
  next_access_served hs ((State.sieveWrite_ctrl _ _ _ _).trans hu)

section Slot

variable {s : State} {k h : Nat} (hh : s.slotOwner k = h)

include hh

/-- LOAD of an image that passes the checks, while no slot of the household is LOADING or RUNNING (R392). -/
theorem State.load_accepted {who : Nat} {u : State}
    (hidle : (List.range 16).any (fun j => s.slotOwner j == h && (s.slotState j == 1 || s.slotState j == 3)) = false)
    (himage : s.imageErr k = 0) (hu : { s.setFld pSieve (SIEVE.STATUS_STATE.at k) 1 with
      img := Tab.insert s.img k ⟨[], 0, 0, 0, 0, 0, who, s.tb.beat⟩ } = u) :
    s.load_ k who = u.setPv h { u.pvOf h with
      weights := if (s.weightsOf k).2 = 0 then none else some (s.weightsOf k), written := false, dirty := false } := by
  subst hh hu
  simp only [State.load_, hidle, himage, ne_eq, not_true_eq_false, Bool.false_eq_true, if_false]

omit hh in
/-- A launch with a refusal cause records it (R394). -/
theorem State.launch_refused {who : Nat} (hcause : s.launchCause k ≠ 0) : s.launch k who =
    (s.setFld pSieve (SIEVE.STATUS_REFUSE.at k) (s.launchCause k)).raiseBy pSieve SIEVE.evLAUNCH_REFUSED who := by
  unfold State.launch
  cases himg : Tab.lookup s.img k with
  | none =>
    have hnone : s.launchCause k = 1 := by simp only [State.launchCause, himg]
    simp only [hnone]
  | some g => simp only [hcause, ne_eq, not_false_eq_true, if_true]

/-- A launch without a refusal cause starts the run (R394, R395). -/
theorem State.launch_starts {who : Nat} {g : SlotImg} {u v : State} {r : RunSt} (himg : Tab.lookup s.img k = some g)
    (hcause : s.launchCause k = 0)
    (hu : (((numbered 0 (s.tileSet h)).foldl (fun t e => t.launchTile k g (s.tileSet h).length e.2 e.1) s).setFld pSieve
      (SIEVE.STATUS_STATE.at k) 3).setPair pSieve (SIEVE.STEP_LO_STEP.at k) (SIEVE.STEP_HI_STEP.at k)
        (s.slotStepBase k) = u)
    (hv : u.setPair pSieve (SIEVE.LAUNCH_SID_LO_T.at k) (SIEVE.LAUNCH_SID_HI_T.at k) s.tb.count = v)
    (hr : { slot := k, launched := s.tb.count, started := false, tiles := s.tileSet h, entry := g.entry
            codeSize := g.codeSize, leafSram := g.leafSram, usesSid := bitAt g.flags 2, tried := false, got := false
            digested := false, takeAt := 0, takeRef := 0, anchor := false, gotAt := 0, emits := [], poison := []
            redDone := false, readyAt := 0, readyRef := 0, sentRef := 0, sentRty := 0, faults := [], refUntil := 0
            resumeAt := 0, active := false, haltReq := none } = r) :
    s.launch k who = ((((v.setFld pSieve SIEVE.RUNNING_RUNNING (setBit u.runningMask h)).setRun h r).provLaunch h r).setPair
      pDebug (DEBUG.HALT_TICKS_LO_N.at h) (DEBUG.HALT_TICKS_HI_N.at h) 0) := by
  subst hh hu hv hr
  simp only [State.launch, himg, hcause, ne_eq, not_true_eq_false, if_false]

end Slot

/-! ### The end of a load -/

section LoadDone

variable {s : State} {k : Fin 16} {h who t0 : Nat} (hh : s.slotOwner k = h) (hloading : s.slotState k = 1)
  (himage : s.imageErr k = 0) (hwho : (Tab.lookup s.img k).elim h SlotImg.by_ = who)
  (ht0 : (Tab.lookup s.img k).elim 0 SlotImg.at_ = t0) (hdue : t0 + 80 * s.loadBlocks k ≤ s.tb.beat)

include hh hloading himage hwho ht0 hdue

/-- A read of the weights region that failed ends the load (R392, R635). -/
theorem execSlotLoadDone_unread : exec (.slotLoadDone k false) s =
    .next ((s.raiseBy pProv PROV.evWEIGHTS_READ_ERR h).loadFail k 5 who) := by
  change execSlotLoadDone k false s = _
  subst hh
  cases himg : Tab.lookup s.img k
  all_goals
    simp only [himg, Option.elim] at hwho ht0
    subst hwho ht0
    simp only [execSlotLoadDone, hloading, himage, himg, Nat.not_lt.mpr hdue, ne_eq, not_true_eq_false, if_false,
      Bool.not_false, if_true]

section Digest

variable {cs ks : Nat} {hd body prog : List Byte} {u : State} (hhd : s.dramRead (s.imageAddr k) 128 = hd)
  (hcs : imgField hd 0x08 4 = cs) (hks : imgField hd 0x0C 4 = ks)
  (hbody : s.dramRead (s.imageAddr k + 128) (cs + ks) = body) (hprog : sha256 (hd.take 32 ++ hd.drop 64 ++ body) = prog)
  (hu : (s.putDigest h PROV.PROG_DIGEST_W prog).putDigest h PROV.WEIGHTS_DIGEST_W
    (if (s.weightsOf k).2 = 0 then zeroDigest else sha256 (s.dramRead (s.weightsOf k).1 (s.weightsOf k).2)) = u)

include hhd hcs hks hbody hprog hu

/-- A program digest that differs from the header's ends the load (R392). -/
theorem execSlotLoadDone_differs (hdiff : prog ≠ (hd.drop 32).take 32) :
    exec (.slotLoadDone k true) s = .next (u.loadFail k 4 who) := by
  change execSlotLoadDone k true s = _
  subst hh
  cases himg : Tab.lookup s.img k
  all_goals
    simp only [himg, Option.elim] at hwho ht0
    subst hwho ht0
    simp only [execSlotLoadDone, hloading, himage, himg, Nat.not_lt.mpr hdue, hhd, hcs, hks, hbody, hprog, hu, hdiff, ne_eq,
      not_true_eq_false, not_false_eq_true, if_false, Bool.not_true, Bool.false_eq_true, if_true]

/-- A load whose digest agrees makes the slot LOADED and empties the household's other slots (R392, R393). -/
theorem execSlotLoadDone_loaded {v x : State} (hsame : prog = (hd.drop 32).take 32)
    (hv : (List.range 16).foldl (fun t j => if j ≠ k.val ∧ t.slotOwner j = h ∧ t.slotState j ≠ 0 then
      t.setFld pSieve (SIEVE.STATUS_STATE.at j) 0 else t)
      (u.copyCode (body.take cs) (body.drop cs) (u.tileSet h)) = v)
    (hx : { v with img := (Tab.insert v.img k
      ⟨u.tileSet h, imgField hd 0x14 4, cs, ks, imgField hd 0x10 4, imgField hd 0x06 2, who, t0⟩) } = x) :
    exec (.slotLoadDone k true) s = .next (((((x.setFld pSieve (SIEVE.STATUS_STATE.at k) 2).setFld pSieve
      (SIEVE.STATUS_IMG_ERR.at k) 0).setFld pSieve (SIEVE.IMG_INFO_LEAF_SRAM64.at k) (imgField hd 0x10 4 / 64)).setFld
      pSieve (SIEVE.IMG_INFO_CODE_SIZE8.at k) (cs / 8)).raiseBy pSieve SIEVE.evLOAD_DONE who) := by
  have hagrees : ¬ prog ≠ (hd.drop 32).take 32 := not_not_intro hsame
  change execSlotLoadDone k true s = _
  subst hh hx
  cases himg : Tab.lookup s.img k
  all_goals
    simp only [himg, Option.elim] at hwho ht0
    subst hwho ht0
    simp only [execSlotLoadDone, hloading, himage, himg, Nat.not_lt.mpr hdue, hhd, hcs, hks, hbody, hprog, hu, hv, hagrees,
      ne_eq, not_true_eq_false, if_false, Bool.not_true, Bool.false_eq_true]

end Digest

end LoadDone

/-- The first issue, 3,200 st after the launch or later (R395). -/
theorem execRunFirstIssue_due {s : State} {h : Fin 8} {r : RunSt} (hr : s.runOf h = some r) (hnew : r.started = false)
    (hdue : r.launched + 3200 ≤ s.tb.count) : exec (.runFirstIssue h) s =
    .next ((r.tiles.foldl (fun t n => if (t.tl n).ctxs.isEmpty = true then t else
      t.tileState n (if (t.tl n).halted = true then 4 else 2)) s).setRun h { r with started := true }) := by
  have hwaits : ¬ (r.started = true ∨ s.tb.count < r.launched + 3200) :=
    not_or.mpr ⟨Bool.eq_false_iff.mp hnew, Nat.not_lt.mpr hdue⟩
  change execRunFirstIssue h s = _
  simp only [execRunFirstIssue, hr, hwaits, if_false]

/-- Settles O34: the commands of SLOT_CTRL by what a served write leads to, then the end of a load by its digest, and the
first issue. -/
theorem slotCommandsComplete : Obligations.SlotCommandsComplete := by
  intro s a k h hh
  refine ⟨fun hs => ⟨?load, ?refused, ?starts, ?abort⟩, ?done, fun hh r => execRunFirstIssue_due⟩
  case load =>
    rintro hidle himage w u hu rfl
    exact next_ctrlAccess hs (State.load_accepted (s := s.answer [0]) hh hidle himage hu)
  case refused =>
    intro hcause
    exact next_ctrlAccess hs (State.launch_refused (s := s.answer [0]) hcause)
  case starts =>
    rintro g u v r himg hcause rfl hv hr
    exact next_ctrlAccess hs (State.launch_starts (s := s.answer [0]) hh himg hcause rfl hv hr)
  case abort => exact next_ctrlAccess hs rfl
  case done =>
    intro hloading himage who t0 hwho ht0 hdue
    have hby : (Tab.lookup s.img k).elim h SlotImg.by_ = who := by
      rw [← hwho]
      cases Tab.lookup s.img k <;> rfl
    have hat : (Tab.lookup s.img k).elim 0 SlotImg.at_ = t0 := by
      rw [← ht0]
      cases Tab.lookup s.img k <;> rfl
    refine ⟨execSlotLoadDone_unread hh hloading himage hby hat hdue, ?_⟩
    intro cs ks hd body prog u hhd hcs hks hbody hprog hu
    exact ⟨execSlotLoadDone_differs hh hloading himage hby hat hdue hhd hcs hks hbody hprog hu,
      fun hsame v x => execSlotLoadDone_loaded hh hloading himage hby hat hdue hhd hcs hks hbody hprog hu hsame⟩

end Sys2Proof.Machine

/-!
Barriers, reductions, failures and step items of a run, and accesses to tile SRAM (R398, R400, R402 to R404, R410, R414,
R468, R610, R613, R623, R688).
-/

namespace Sys2Proof.Machine

section Run

variable {s : State} {h : Fin 8} {r : RunSt} (hr : s.runOf h = some r)

include hr

/-! ### Barriers and reductions -/

section Barrier

variable {b : BarAt} {m n age : BitVec 32} {halted : Bool} {u : State} (hb : s.barrierOf r = some b)
  (hfaults : r.faults = []) (hu : (s.crossed h r m.toNat n.toNat age.toNat).heardHalt h r halted = u)

include hb hfaults hu

section Sync

variable (hfirst : s.stands (beforeStep h) = false) (hsync : b.cls = 8)

include hfirst hsync

/-- Every leaf stands at BAR: the leaves go on, and no step completes (R400). -/
theorem execBarrierComplete_bar (hop : b.op ≠ 0) : exec (.barrierComplete h ⟨m, age⟩ n halted) s =
    .next ((u.setRun h { r with active := true }).resume r id) := by
  refine congrArg Host.Outcome.next ((after_none hfirst).trans ?_)
  simp only [hr, hb, hsync, hfaults, hop, hu, ne_eq, not_true_eq_false, false_and, or_self, if_false]

/-- Every leaf stands at STEP, and the item of the step, if it has one, is digested: the step completes (R400, R613). -/
theorem execBarrierComplete_step (hop : b.op = 0) (hdigested : r.got = true → r.digested = true) :
    exec (.barrierComplete h ⟨m, age⟩ n halted) s = .next ((u.stepDone h r).resume r id) := by
  have hready : ¬ (r.got = true ∧ r.digested = false) := fun ⟨hgot, hnot⟩ =>
    Bool.eq_false_iff.mp hnot (hdigested hgot)
  refine congrArg Host.Outcome.next ((after_none hfirst).trans ?_)
  simp only [hr, hb, hsync, hfaults, hop, hu, hready, ne_eq, not_true_eq_false, and_false, or_self, if_false, if_true]

end Sync

/-- Every leaf stands at a reduction whose result has come (R402 to R404). -/
theorem execReductionResult_done {roots : List (List (BitVec 64))} {vals : List Nat} (hred : b.cls = 6)
    (htime : s.slotChips r.slot ≤ 1 → r.readyAt + 40 ≤ s.tb.count)
    (hvals : s.reduction r b.op (roots.map (fun v => v.map BitVec.toNat)) = vals) :
    exec (.reductionResult h roots ⟨m, age⟩ n halted) s =
      .next ((u.setRun h { r with active := true, redDone := true }).resume r (fun c => c.reduced vals)) := by
  have hnow : ¬ (s.slotChips r.slot ≤ 1 ∧ s.tb.count < r.readyAt + 40) := fun ⟨hone, hearly⟩ =>
    Nat.not_lt.mpr (htime hone) hearly
  change execReductionResult h roots ⟨m, age⟩ n halted s = _
  simp only [execReductionResult, hr, hb, hred, hfaults, hnow, hvals, hu, ne_eq, not_true_eq_false, or_self, if_false]

end Barrier

/-! ### Failures from other chips -/

section Remote

variable (hchips : 1 < s.slotChips r.slot) (hfaults : r.faults = [])

include hchips hfaults

/-- A failure of another chip fails the run with code 12 (R414). -/
theorem execRemoteFail_fails : exec (.remoteFail h) s = .next (s.runFail h r 12) := by
  change execRemoteFail h s = _
  simp only [execRemoteFail, hr, hfaults, Nat.not_le.mpr hchips, ne_eq, not_true_eq_false, or_self, if_false]

/-- A contribution that is missing at the collector when RED_TMO has passed fails the run with code 10 (Table 10.9). -/
theorem execRedTimeout_due (hcollector : s.fld pSieve (SIEVE.CFG_COLLECTOR.at r.slot) = s.fld pFab FAB.STATUS_DEV_NUM)
    (hdue : r.launched + 3200 + 2 ^ s.fld pSieve (SIEVE.RED_TMO_EXP.at r.slot) ≤ s.tb.count) :
    exec (.redTimeout h) s = .next ((s.raiseBy pSieve SIEVE.evRED_TIMEOUT h).runFail h r 10) := by
  change execRedTimeout h s = _
  simp only [execRedTimeout, hr, hfaults, hcollector, Nat.not_le.mpr hchips, Nat.not_lt.mpr hdue, ne_eq,
    not_true_eq_false, or_self, if_false]

end Remote

/-! ### The step item -/

/-- A TAKE that found no item is repeated at a multiple of 64 ticks from the launch (R610). -/
theorem execTakeRetry_due (htried : r.tried = true) (hgot : r.got = false)
    (hgrid : (s.tb.count - r.launched) % 64 = 0) : exec (.takeRetry h) s = .next (s.portTake h r) := by
  change execTakeRetry h s = _
  simp only [execTakeRetry, hr, htried, hgot, hgrid, Bool.not_false, Bool.and_self, beq_self_eq_true, if_true]

end Run

/-- The run's own input, taken by its own port (R468). -/
theorem execQueueTake_input {s : State} {a : Acc} {q : Fin 256} {off : Fin 1024} {words : Fin 65} {r : RunSt}
    (hport : s.stepPort a q = true) (hr : s.runOf a.hh = some r) (hinput : s.slotInQ r.slot = q.val)
    (hfirst : s.stands (releasesHeld q) = false) (hgot : r.got = false) :
    exec (.queueTake a true q off words) s = .next ((s.portTake a.hh r).heldRead q words 0 a.hh) := by
  refine congrArg Host.Outcome.next ((after_none hfirst).trans ((heldAccess_step hport).trans ?_))
  simp only [hr, hinput, hgot, and_self, if_true]

/-! ### Tile SRAM from outside -/

/-- An access to tile SRAM that nothing holds, within the region, to tiles that exist and that the requester may reach, is
served (R410, R643, R742). -/
theorem State.sramAccess_served {s : State} {i : Instr} {a : Acc} {off n : Nat} {write : Bool} {data : List Byte}
    (hpor : s.por = false) (hdawn : s.tb.dawn = 0) (hregion : off + n ≤ 0x1000000)
    (htiles : (tilesOf off n).any (fun t => (s.blk (pTile t)).isNone) = false)
    (hreset : s.hhReset.contains a.hh.val = false)
    (hmay : a.hh = 15 ∨ (tilesOf off n).any (fun t => s.tileOwner t != a.hh.val) = false) :
    s.sramAccess i a off n write data = if write = true then
      (tilesOf off n).foldl (fun u t => u.sramMark a t)
        ((s.answer [0]).sramPut a off ((data ++ List.replicate n 0).take n))
    else s.answer (bytesToWords ((n + 7) / 8)
      ((List.range n).map (fun k => (s.tl ((off + k) / 0x40000)).byte ((off + k) % 0x40000)))) := by
  have hallowed : ¬ (a.hh ≠ 15 ∧ (tilesOf off n).any (fun t => s.tileOwner t != a.hh.val) = true) := fun ⟨hne, hany⟩ =>
    Bool.eq_false_iff.mp (hmay.resolve_left hne) hany
  simp only [State.sramAccess, hpor, hdawn, Nat.not_lt.mpr hregion, htiles, hreset, hallowed, ne_eq, not_true_eq_false,
    Bool.false_eq_true, if_false]

/-- Settles O35: a lemma for each command of a run, and one for a served access to tile SRAM. -/
theorem runCommandsComplete : Obligations.RunCommandsComplete := by
  refine ⟨?barrier, ?failures, ?take, ?sram⟩
  case barrier =>
    intro s h r m n age b halted u hr hb hfaults hfirst hu
    exact ⟨execBarrierComplete_bar hr hb hfaults hu hfirst, execBarrierComplete_step hr hb hfaults hu hfirst,
      fun roots vals => execReductionResult_done hr hb hfaults hu⟩
  case failures =>
    intro s h r hr
    exact ⟨fun hchips hfaults => ⟨execRemoteFail_fails hr hchips hfaults, execRedTimeout_due hr hchips hfaults⟩,
      execTakeRetry_due hr⟩
  case take =>
    intro s a q off words r hhh howner hrunning hr hinput hbound hfirst hgot
    have hport : s.stepPort a q = true := by
      simp only [State.stepPort, hhh, howner, hrunning, hbound, decide_true, beq_self_eq_true, List.isEmpty_nil,
        Bool.and_self]
    exact execQueueTake_input hport hr hinput hfirst hgot
  case sram =>
    rintro s a t off n data x rfl hpor hdawn hregion htiles hreset hmay
    have hserved {write : Bool} := State.sramAccess_served (i := .tileSramAccess a t off write n data) (write := write)
      (data := data) hpor hdawn hregion htiles hreset hmay
    exact ⟨congrArg Host.Outcome.next hserved, congrArg Host.Outcome.next hserved⟩

end Sys2Proof.Machine

/-!
What the on-chip network delivers: packets, responses and time-outs (R423, R435, R437, R441, R443, R445 to R447).
-/

namespace Sys2Proof.Machine

section Deliver

variable {s t : State} {r : Fin 30} {vc : Fin 6} {p : List Flit} (hpor : s.por = false) (hdawn : s.tb.dawn = 0)
  (hp : s.takePacket r vc = some (p, t))

include hpor hdawn hp

/-- An event goes to its unit (R423, R704). -/
theorem execPacketDeliver_event (hvc : 4 ≤ vc.val) : exec (.packetDeliver r vc) s = .next (t.eventPacket r p) := by
  have hrsp : ¬ (vc.val = 2 ∨ vc.val = 3) := by omega
  have hreq : ¬ vc.val ≤ 1 := by omega
  change execPacketDeliver r vc s = _
  simp only [execPacketDeliver, hpor, hdawn, hp, hrsp, hreq, hvc, Bool.false_eq_true, ne_eq, not_true_eq_false, or_self,
    if_false, if_true, decide_false, Bool.false_and]

/-- A request that its queue port does not make wait goes to its agent (R423, R472). -/
theorem execPacketDeliver_request (hvc : vc.val < 2) (hgo : (p.take 1).any s.packetWaits = false) :
    exec (.packetDeliver r vc) s = .next (t.requestIn (.packetDeliver r vc) r p) := by
  have hrsp : ¬ (vc.val = 2 ∨ vc.val = 3) := by omega
  have hevent : ¬ 4 ≤ vc.val := by omega
  change execPacketDeliver r vc s = _
  simp only [execPacketDeliver, hpor, hdawn, hp, hrsp, hevent, hgo, Bool.false_eq_true, ne_eq, not_true_eq_false,
    or_self, if_false, Bool.and_false]

/-- A response goes to its requester (R435). -/
theorem execPacketDeliver_response (hvc : vc.val = 2 ∨ vc.val = 3) :
    exec (.packetDeliver r vc) s = exec (.responseArrive r (vc.val == 3)) s := by
  change execPacketDeliver r vc s = execResponseArrive r (vc.val == 3) s
  simp only [execPacketDeliver, execResponseArrive, hpor, hdawn, hp, hvc, Bool.false_eq_true, ne_eq, not_true_eq_false,
    or_self, if_false, if_true]

end Deliver

section Response

variable {s t : State} {r : Fin 30} {timed : Bool} {h : Flit} {ds : List Flit} {key : Nat}
  (hp : s.takePacket r (if timed then 3 else 2) = some (h :: ds, t))
  (hkey : 256 * agentKey r (bitsOf (h.word 1) 60 58) + bitsOf (h.word 0) 31 24 = key)

include hp hkey

/-- A response that no other device waits for goes to its slot (R435). -/
theorem execResponseArrive_own (hown : Tab.lookup t.fab.remote key = none) :
    exec (.responseArrive r timed) s = .next ((t.response r (h :: ds)).rxPumps r) := by
  change Host.Outcome.next (s.responseArrive r timed) = _
  cases hslot : Tab.lookup t.noc.slots key <;> simp only [State.responseArrive, hp, hkey, hown, hslot]

/-- A response in time that another device waits for goes back to it (R556). -/
theorem execResponseArrive_remote {x : RspSlot} {q : RemoteReq} (hslot : Tab.lookup t.noc.slots key = some x)
    (hfresh : x.quarantined = false) (htime : t.slotExpired x = false) (hremote : Tab.lookup t.fab.remote key = some q)
    {u : State} (hu : t.response r (h :: ds) = u) :
    exec (.responseArrive r timed) s = .next (({ u with resp := t.resp, fab := { u.fab with
      remote := Tab.erase u.fab.remote key } } : State).returnResponse q (h :: ds)) := by
  subst hu
  change Host.Outcome.next (s.responseArrive r timed) = _
  simp only [State.responseArrive, hp, hkey, hslot, hremote, hfresh, htime, Bool.or_self, Bool.false_eq_true, if_false]

end Response

/-- A slot whose time has come completes with TIMEOUT and zero data, quarantined and counted; the first is recorded
(R445). -/
theorem State.rspTimeout_due {s t : State} {r agent tag k : Nat} {x : RspSlot} (hk : 256 * agentKey r agent + tag = k)
    (hslot : Tab.lookup s.noc.slots k = some x) (htime : s.slotExpired x = true)
    (ht : ((({ s with
      noc := { s.noc with slots := Tab.insert s.noc.slots k { x with quarantined := true } }
      resp := some ⟨.timeout, [0]⟩ } : State).mxAnswer k).raiseBy pNoc NOC.evRSP_TIMEOUT x.hh).nocBump pNoc
      NOC.RSP_TMO_COUNT_COUNT = t) :
    s.rspTimeout r agent tag = if t.on pNoc NOC.RSP_TMO_INFO_VALID = true then t else
      ((((t.setFld pNoc NOC.RSP_TMO_INFO_VALID 1).setFld pNoc NOC.RSP_TMO_INFO_DST x.dst).setFld pNoc
        NOC.RSP_TMO_INFO_REQ (nodeOf r)).setFld pNoc NOC.RSP_TMO_INFO_AGENT agent).setFld pNoc NOC.RSP_TMO_INFO_TAG
        tag := by
  subst hk ht
  simp only [State.rspTimeout, hslot, htime, Bool.not_true, Bool.false_eq_true, if_false]

theorem execTimedRegWrite_served {s : State} {a : Acc} {w : Word} (hs : s.serves a pNoc 0x104 true = true)
    (ha : a.hh = 15) : exec (.timedRegWrite a w) s = .next ((s.answer [0]).timedRegWrite w.toNat) :=
  congrArg Host.Outcome.next (mgr_served hs ha)

/-- CLEAR_ALL is a write of CNT_CTRL with FREEZE as it is (R453). -/
theorem execCntClearAll_served {s : State} {a : Acc} (hs : s.serves a pNoc 0x138 true = true) (ha : a.hh = 15) :
    exec (.cntClearAll a) s = .next ((s.answer [0]).nocWrite 0x138 (2 + s.fld pNoc NOC.CNT_CTRL_FREEZE)) :=
  congrArg Host.Outcome.next (mgr_served hs ha)

/-- Settles O43: a lemma for each way that a packet ends, and the two served writes. -/
theorem networkReceivingCompletes : Obligations.NetworkReceivingCompletes := by
  refine ⟨fun s t r vc p hpor hdawn hp => ⟨execPacketDeliver_event hpor hdawn hp,
    execPacketDeliver_request hpor hdawn hp, execPacketDeliver_response hpor hdawn hp⟩, ?response, ?timeout,
    fun s a ha => ⟨fun w hs => execTimedRegWrite_served hs ha, fun hs => execCntClearAll_served hs ha⟩⟩
  case response =>
    intro s t r timed h ds key hp hkey
    exact ⟨execResponseArrive_own hp hkey, fun dst hh at_ q hslot htime hremote u hu =>
      execResponseArrive_remote hp hkey hslot rfl htime hremote hu⟩
  case timeout =>
    intro s t r agent tag k dst hh at_ hk hslot htime ht
    have hdue := State.rspTimeout_due hk hslot htime ht
    exact ⟨fun hvalid => congrArg Host.Outcome.next (hdue.trans (if_pos hvalid)),
      fun hfirst => congrArg Host.Outcome.next (hdue.trans (if_neg (Bool.eq_false_iff.mp hfirst)))⟩

end Sys2Proof.Machine

/-!
The registers of a queue and the spill of its words (R456, R470 to R472, R474, R475, R477 to R481, R484, R487, R488).
-/

namespace Sys2Proof.Machine

/-! ### CTRL and the configuration registers -/

section Register

variable {s : State} {a : Acc} {q : Fin 256}

section Ctrl

variable (hs : s.serves a (qPage q) (qReg q 0x1C) true = true)
  (hden : ∀ w, s.mgrDenied a.hh (qPage q) (s.fieldsOf (qPage q) (qReg q 0x1C)) w = false)

include hs hden

/-- A served write of CTRL acts by its bits (Table 12.12). -/
theorem State.qRegAccess_ctrl (i : Instr) (w : Nat) : s.qRegAccess i a q 0x1C w =
    (let t := if bitAt w 0 then (s.answer [0]).qFlush q else s.answer [0]
    let u := if bitAt w 1 then t.qMark q else t
    let v := if bitAt w 2 then u.qRewind q else u
    if bitAt w 3 then v.qRelease q else v) := by
  rw [qRegAccess_served hs (hden w), qehWrite_reg q.isLt (by decide)]
  rfl

theorem execQueueFlush_served : exec (.queueFlush a q) s = .next ((s.answer [0]).qFlush q) := by
  change Host.Outcome.next (s.qRegAccess (.queueFlush a q) a q 0x1C 1) = _
  simp [State.qRegAccess_ctrl hs hden, bitAt]

theorem execQueueMark_served : exec (.queueMark a q) s = .next ((s.answer [0]).qMark q) :=
  congrArg Host.Outcome.next (State.qRegAccess_ctrl hs hden _ 2)

/-- No push that overwrites the item with the mark goes before the rewind (Table 12.8). -/
theorem execQueueRewind_served (hfirst : s.stands (fun c => s.markAtRisk q && pushesTo q c) = false) :
    exec (.queueRewind a q) s = .next ((s.answer [0]).qRewind q) :=
  congrArg Host.Outcome.next ((after_none hfirst).trans (State.qRegAccess_ctrl hs hden _ 4))

theorem execQueueRelease_served : exec (.queueRelease a q) s = .next ((s.answer [0]).qRelease q) :=
  congrArg Host.Outcome.next (State.qRegAccess_ctrl hs hden _ 8)

end Ctrl

/-- A served write of Q_CFG (R479 to R481). -/
theorem State.qRegAccess_cfg (hs : s.serves a (qPage q) (qReg q 0) true = true)
    (hden : ∀ w, s.mgrDenied a.hh (qPage q) (s.fieldsOf (qPage q) (qReg q 0)) w = false) (i : Instr) (w : Nat) :
    s.qRegAccess i a q 0 w = (s.answer [0]).qCfgWrite q w a.hh := by
  rw [qRegAccess_served hs (hden w), qehWrite_reg q.isLt (by decide), if_pos rfl]

/-- The size, the mode and EN of a queue that is on stay where a write names them as they are; EN = 0 disables the queue,
which ends empty (R480, R481). -/
theorem State.qCfgWrite_disables {q v hh : Nat} (hen : bitAt v 31 = false) (hon : s.qOn q = true)
    (hsize : bitsOf v 27 24 = 15 ∨ bitsOf v 27 24 = s.fld (qPage q) (QEH.Q_CFG_SPILL_SIZE.at (q % 32)))
    (hmode : b2n (bitAt v 30) = s.fld (qPage q) (QEH.Q_CFG_FULL_MODE.at (q % 32))) :
    s.qCfgWrite q v hh = ((s.setFld (qPage q) (QEH.Q_CFG_ADAPT_EN.at (q % 32)) (b2n (bitAt v 29))).setFld (qPage q)
      (QEH.Q_CFG_EN.at (q % 32)) 0).qEmpty q := by
  have hsame : (if bitsOf v 27 24 = 15 then s.fld (qPage q) (QEH.Q_CFG_SPILL_SIZE.at (q % 32)) else bitsOf v 27 24) =
      s.fld (qPage q) (QEH.Q_CFG_SPILL_SIZE.at (q % 32)) := by
    split
    case isTrue => rfl
    case isFalse h => exact hsize.resolve_left h
  simp only [State.qCfgWrite, hsame, hmode, hon, hen, ne_eq, not_true_eq_false, or_self, if_true, if_false,
    Bool.false_and, Bool.false_eq_true, Bool.not_false, Bool.and_self]

/-- EN = 1 of a queue that is off stores the configuration; without a cause the queue is empty and on, with one the cause is
recorded (R479). -/
theorem State.qCfgWrite_enables {q v hh : Nat} {t u : State} (hen : bitAt v 31 = true) (hon : s.qOn q = false)
    (hsize : bitsOf v 27 24 ≠ 15)
    (ht : ((s.setFld (qPage q) (QEH.Q_CFG_SPILL_SIZE.at (q % 32)) (bitsOf v 27 24)).setFld (qPage q)
      (QEH.Q_CFG_FULL_MODE.at (q % 32)) (b2n (bitAt v 30))).setFld (qPage q) (QEH.Q_CFG_ADAPT_EN.at (q % 32))
      (b2n (bitAt v 29)) = t)
    (hu : t.setQ q { t.q q with refuse := t.qEnableCause q } = u) :
    s.qCfgWrite q v hh = if t.qEnableCause q = 0 then (u.qEmpty q).setFld (qPage q) (QEH.Q_CFG_EN.at (q % 32)) 1
      else u.qEvent q QEH.evENABLE_REFUSED hh := by
  subst hu
  simp only [State.qCfgWrite, hsize, hon, hen, ht, if_false, if_true, Bool.false_eq_true, Bool.not_false, Bool.and_self]

/-- The spill base and rate of a queue that is off are stored (R481). -/
theorem State.qLockedWrite_off {q hh w : Nat} {f : Fld} (hon : s.qOn q = false) :
    s.qLockedWrite q f w hh = s.setFld (qPage q) f w := by
  simp only [State.qLockedWrite, hon, Bool.false_eq_true, if_false]

theorem execQueueCfgWrite_spill {k : Fin 4} {f : Fld} {w : Word} (hon : s.qOn q = false)
    (hs : s.serves a (qPage q) (qReg q (4 * k.val)) true = true)
    (hden : ∀ w, s.mgrDenied a.hh (qPage q) (s.fieldsOf (qPage q) (qReg q (4 * k.val))) w = false)
    (hf : k.val = 1 ∧ f = QEH.SPILL_BASE_LO_BASE.at (q % 32) ∨ k.val = 2 ∧ f = QEH.SPILL_BASE_HI_BASE.at (q % 32) ∨
      k.val = 3 ∧ f = QEH.SPILL_RATE_RATE.at (q % 32)) :
    exec (.queueCfgWrite a q k w) s = .next ((s.answer [0]).setFld (qPage q) f w.toNat) := by
  have hreg : s.qRegAccess (.queueCfgWrite a q k w) a q (4 * k) w.toNat = (s.answer [0]).qLockedWrite q f w.toNat a.hh := by
    rw [qRegAccess_served hs (hden _), qehWrite_reg q.isLt (by omega)]
    obtain ⟨hk, rfl⟩ | ⟨hk, rfl⟩ | ⟨hk, rfl⟩ := hf <;> rw [hk] <;> rfl
  exact congrArg Host.Outcome.next (hreg.trans (State.qLockedWrite_off hon))

end Register

/-- Settles O45: what a served write of each register does. -/
theorem queueRegistersComplete : Obligations.QueueRegistersComplete := by
  intro s a q
  rintro r - hs hden
  refine ⟨?ctrl, ?cfg, ?spill⟩
  case ctrl =>
    rintro rfl
    exact ⟨execQueueFlush_served hs hden, execQueueMark_served hs hden, execQueueRewind_served hs hden,
      execQueueRelease_served hs hden⟩
  case cfg =>
    rintro rfl w
    have hcfg := State.qRegAccess_cfg hs hden
    refine ⟨congrArg Host.Outcome.next (hcfg _ _), ?disable, ?enable⟩
    case disable =>
      rintro v rfl hon hsize hmode
      exact congrArg Host.Outcome.next ((hcfg _ _).trans
        (State.qCfgWrite_disables (s := s.answer [0]) (bitAt_clrBit _ _) hon hsize hmode))
    case enable =>
      rintro v rfl hon hsize t u ht hu
      exact congrArg Host.Outcome.next ((hcfg _ _).trans
        (State.qCfgWrite_enables (s := s.answer [0]) (bitAt_setBit _ _) hon hsize ht hu))
  case spill =>
    rintro k f w rfl hf hon
    exact execQueueCfgWrite_spill hon hs hden hf

/-! ### Spill transfers -/

section Spill

variable {s : State} {q : Fin 256}

theorem execSpillWrite_block {x : QueueSt} (hx : (s.q q).settle = x) (htail : 7 ≤ x.tail.length)
    (hwm : s.fld (qPage q) (QEH.SPILL_WM_WM.at (q % 32)) ≤ x.tail.length ∨ x.spilling = true)
    (hroom : x.blocks < s.qSpill q / 64) (hrun : s.tb.haltedIslands = false) :
    exec (.spillWrite q) s = .next ((s.setQ q x).spillWrite q) := by
  subst hx
  change execSpillWrite q s = _
  simp only [execSpillWrite, hrun, Bool.false_eq_true, if_false, if_pos (And.intro htail (And.intro hwm hroom))]

theorem execSpillWriteDone_oldest {b : Nat} {st : Fin 8} (hb : (s.q q).oldestAt 1 = some b)
    (hrun : s.tb.haltedIslands = false) :
    exec (.spillWriteDone q st) s = .next ((s.spillWritten q b st).releaseCredits (qRouter q)) := by
  change execSpillWriteDone q st s = _
  simp only [execSpillWriteDone, hrun, hb, Bool.false_eq_true, if_false]

theorem execSpillRead_oldest {b : Nat} (hb : (s.q q).oldestAt 2 = some b)
    (hroom : (s.q q).headLen + 7 ≤ 16 ∨ s.popPending q = true) (hrun : s.tb.haltedIslands = false) :
    exec (.spillRead q) s = .next (s.spillRead q b q) := by
  change execSpillRead q s = _
  simp only [execSpillRead, hrun, hb, hroom, Bool.false_eq_true, if_false, if_true]

theorem execSpillReadDone_oldest {b : Nat} {st : Fin 8} {n : Fin 4} {t : State} (hb : (s.q q).oldestAt 3 = some b)
    (hrun : s.tb.haltedIslands = false) (ht : s.spillReturned q b st n q = t) :
    exec (.spillReadDone q st n) s = .next (t.setQ q (t.q q).settle) := by
  subst ht
  change execSpillReadDone q st n s = _
  simp only [execSpillReadDone, hrun, hb, Bool.false_eq_true, if_false]

end Spill

/-! ### The watermark loop -/

section Watermark

variable {s : State} {q : Fin 256} (htick : s.tb.count % 65536 = 0) (honce : (s.q q).updated ≠ s.tb.beat + 1)
  (hfirst : s.stands (writesField (qPage q) (QEH.SPILL_ENV_MAX.at (q % 32))) = false)

include htick honce hfirst

/-- A loop that does not adapt ends its marks (R474). -/
theorem execSpillWmUpdate_still (hadapt : s.on (qPage q) (QEH.Q_CFG_ADAPT_EN.at (q % 32)) = false) :
    exec (.spillWmUpdate q) s =
      .next (s.setQ q { s.q q with stalled := false, started := false, updated := s.tb.beat + 1 }) := by
  change execSpillWmUpdate q s = _
  simp only [execSpillWmUpdate, hfirst, htick, honce, hadapt, Bool.false_eq_true, ne_eq, not_true_eq_false, or_self,
    if_false]

/-- A loop that adapts moves the watermark within its envelope (R474, R475). -/
theorem execSpillWmUpdate_moves {v w lo hi : Int} {pin : Nat} {t : State}
    (hadapt : s.on (qPage q) (QEH.Q_CFG_ADAPT_EN.at (q % 32)) = true)
    (hv : (s.fld (qPage q) (QEH.SPILL_WM_WM.at (q % 32)) : Int) = v)
    (hw : (if (s.q q).stalled = true then v - 1 else if (s.q q).started = true then v + 1 else v) = w)
    (hlo : (s.fld (qPage q) (QEH.SPILL_ENV_MIN.at (q % 32)) : Int) = lo)
    (hhi : (s.fld (qPage q) (QEH.SPILL_ENV_MAX.at (q % 32)) : Int) = hi)
    (hpin : (if w < lo ∨ hi < w then (s.q q).pin + 1 else 0) = pin)
    (ht : (s.setQ q { s.q q with stalled := false, started := false, updated := s.tb.beat + 1, pin := pin }).setFld
      (qPage q) (QEH.SPILL_WM_WM.at (q % 32)) (clampInt lo hi w).toNat = t) :
    exec (.spillWmUpdate q) s = .next (if pin = 256 then t.qEvent q QEH.evLOOP_PINNED 0xE else t) := by
  subst ht hpin
  change execSpillWmUpdate q s = _
  simp only [execSpillWmUpdate, hfirst, htick, honce, hadapt, hv, hw, hlo, hhi, Bool.false_eq_true, ne_eq,
    not_true_eq_false, or_self, if_false, if_true]

end Watermark

/-! ### Time-outs and a pointer mismatch -/

section Failure

variable {s : State} {q : Fin 256}

theorem execItemTimeout_due {o : QOpen} (ho : (s.q q).opened = some o)
    (hdue : o.last + 2 ^ s.fld pQe QE.QE_CFG_ITEM_TMO ≤ s.tb.beat) (hfirst : s.stands (pushesTo q) = false) :
    exec (.itemTimeout q) s = .next (s.qAbandon q 3 true o.prod.hh) := by
  change execItemTimeout q s = _
  simp only [execItemTimeout, ho, State.itemDue, hdue, decide_true, if_true, after_none hfirst]

/-- The reset of one queue by a pointer mismatch (R488): what is counted and recorded (`v`), the emptied queue (`x`), and what
becomes of an open item. -/
theorem State.qMismatch_eq {t u v : State} {x : QueueSt} {q : Nat}
    (ht : ((s.raise pQe QE.evQPTR_MISMATCH).qEvent q QEH.evQPTR_MISMATCH 0xE).bump pQe QE.QPTR_COUNT_COUNT = t)
    (hu : (if t.on pQe QE.QPTR_INFO_VALID = true then t else (t.setFld pQe QE.QPTR_INFO_VALID 1).setFld pQe
      QE.QPTR_INFO_QUEUE q) = u)
    (hv : (u.bump (qPage q) (QEH.LOST_ITEMS_COUNT.at (q % 32)) (s.q q).items.length).unlistQueue q = v)
    (hx : { s.q q with
      items := [], opened := none, mark := none, rd := (s.q q).nextIdx, off := 0, bseq := 0
      lost := (s.q q).lost || decide (0 < (s.q q).items.length) } = x) :
    s.qMismatch q = match (s.q q).opened with
      | some o => ((v.setQ q { x with discs := (s.q q).discs ++ [⟨o.prod, true, s.tb.beat⟩] }).pushResult q 2
          o.words.length).qTouch q
      | none => (v.setQ q x).qTouch q := by
  subst ht hu hv hx
  rfl

end Failure

/-- Settles O46: a lemma for each command. -/
theorem spillCommandsComplete : Obligations.SpillCommandsComplete := by
  intro s q
  refine ⟨fun _ => execSpillWrite_block, fun _ _ => execSpillWriteDone_oldest, fun _ => execSpillRead_oldest,
    fun _ _ _ _ => execSpillReadDone_oldest, ?watermark, fun _ => execItemTimeout_due, ?discard, ?mismatch⟩
  case watermark =>
    intro htick honce hfirst
    exact ⟨execSpillWmUpdate_still htick honce hfirst,
      fun _ _ _ _ _ _ => execSpillWmUpdate_moves htick honce hfirst⟩
  case discard =>
    rintro node agent master hh x rfl
    rfl
  case mismatch =>
    intro t u v x ht hu hv hx hfirst
    have hexec : exec (.qptrMismatch q) s = .next (s.qMismatch q) := congrArg Host.Outcome.next (after_none hfirst)
    rw [hexec, State.qMismatch_eq ht hu hv hx]
    exact ⟨fun hnone => by rw [hnone], fun o hopen => by rw [hopen]⟩

end Sys2Proof.Machine

/-!
DRAM: admission, the arbiter, its window, refresh and the refresh loop (R515, R516, R518 to R521, R621).
-/

namespace Sys2Proof.Machine

/-! ### Admission -/

section Admission

variable {s t : State} (ht : ((s.setFld pDramadm DRAMADM.PEAK_BYTES s.admPeak).setFld pDramadm DRAMADM.BUDGET_BYTES
  s.admBudget).setFld pDramadm DRAMADM.ADM_STATUS_CAUSE s.admCause = t)

include ht

/-- With cause 0 the staged values come into force (R516). -/
theorem State.admCommit_done (hc : s.admCause = 0) :
    s.admCommit = (({ t.setFld pDramadm DRAMADM.ADM_STATUS_SHORT_BY 0 with
      dram := { s.dram with adm := s.stagedAdm } } : State).setFld pQe QE.SPILL_BUDGET_BYTES s.stagedAdm.spillRes).raise
      pDramadm DRAMADM.evCOMMIT_DONE := by
  subst ht
  simp only [State.admCommit, hc, if_true, if_neg Nat.zero_ne_one]
  rfl

/-- With cause 1 the excess of the reservations over the budget is recorded (R515). -/
theorem State.admCommit_over (hc : s.admCause = 1) :
    s.admCommit = (t.setFld pDramadm DRAMADM.ADM_STATUS_SHORT_BY (min 0xFFFFFF (s.admSum - s.admBudget))).raiseBy
      pDramadm DRAMADM.evOVERSUBSCRIBED 15 := by
  subst ht
  simp only [State.admCommit, hc, if_true]

/-- Any other cause refuses the staged values (R516). -/
theorem State.admCommit_refused (hc : 2 ≤ s.admCause) :
    s.admCommit = (t.setFld pDramadm DRAMADM.ADM_STATUS_SHORT_BY 0).raiseBy pDramadm DRAMADM.evADM_REFUSED 15 := by
  have h0 : s.admCause ≠ 0 := by omega
  have h1 : s.admCause ≠ 1 := by omega
  subst ht
  simp only [State.admCommit, h0, h1, if_false]

end Admission

theorem execAdmCommit_served {s : State} {a : Acc} (hs : s.serves a pDramadm 0x100 true = true) (ha : a.hh = 15) :
    exec (.admCommit a) s = .next (s.answer [0]).admCommit :=
  congrArg Host.Outcome.next (mgr_served hs ha)

/-! ### The arbiter -/

section Serve

variable {s u : State} {c : Fin 2} {b : Bool}

theorem execDramRequestServe_halted (hhalt : s.tb.haltedIslands = true) :
    exec (.dramRequestServe ⟨c, b⟩) s = .next s :=
  congrArg Host.Outcome.next (if_pos hhalt)

/-- Where the channel's clock runs, a corrected word is noted and then the channel serves (R518, R519). -/
theorem execDramRequestServe_runs (hrun : s.tb.haltedIslands = false)
    (hu : (if b = true ∧ (if c.val = 0 then s.si.ecc0 else s.si.ecc1) = true ∧
      s.dram.waiting.any (fun q => q.ch == c.val) = true
      then ({ s with dram := { s.dram with eccWin := true } } : State).raise (pDram c) DRAMC.evDRAM_ECC_CORR else s) = u) :
    exec (.dramRequestServe ⟨c, b⟩) s = .next (u.dramServe c) := by
  have hcorr : (if b then s.dramCorrected c else s) = u := by
    subst hu
    cases b <;> simp only [State.dramCorrected, Bool.and_eq_true, Bool.false_eq_true, true_and, false_and, if_true, if_false]
  change execDramRequestServe ⟨c, b⟩ s = _
  simp only [execDramRequestServe, hrun, hcorr, Bool.false_eq_true, if_false]

variable {n : Nat} {q : DramReq} {r : List DramReq}

/-- The oldest timed request goes first (R518). -/
theorem State.dramServe_timed (hq : takeFirst (fun x : DramReq => x.ch == n && x.timed) u.dram.waiting = some (q, r)) :
    u.dramServe n = ({ u with dram := { u.dram with waiting := r } } : State).dramCount q := by
  simp only [State.dramServe, hq]

variable (htimed : takeFirst (fun x : DramReq => x.ch == n && x.timed) u.dram.waiting = none)

include htimed

/-- Then the oldest committed one. -/
theorem State.dramServe_committed
    (hq : takeFirst (fun x : DramReq => x.ch == n && x.committed) u.dram.waiting = some (q, r)) :
    u.dramServe n = ({ u with dram := { u.dram with waiting := r } } : State).dramCount q := by
  simp only [State.dramServe, htimed, hq]

section Excess

variable (hcommitted : takeFirst (fun x : DramReq => x.ch == n && x.committed) u.dram.waiting = none)

include hcommitted

/-- Then an excess request of the client whose turn it is. -/
theorem State.dramServe_excess {k : Nat} (hk : u.excNext n = some k) : u.dramServe n = u.serveExcess n k := by
  simp only [State.dramServe, htimed, hcommitted, hk]

theorem State.dramServe_nothing (hnone : u.excNext n = none) : u.dramServe n = u := by
  simp only [State.dramServe, htimed, hcommitted, hnone]

end Excess

end Serve

/-! ### The window and the refresh loop -/

/-- An event leaves DRAM. -/
theorem State.raise_dram (s : State) (p : Nat) (e : Ev) : (s.raise p e).dram = s.dram := by
  obtain ⟨r, a, h⟩ := raise_fields s p e
  rw [h]

/-- The end of a window: a shortfall where a committed request still waits, and a new window (R519). -/
theorem State.windowOver_dram {s : State} {n : Nat}
    (hn : (if s.dram.waiting.any (fun q => q.committed && !q.timed) = true then s.dram.admitted - s.dram.served else 0) = n) :
    s.windowOver.dram = { s.dram with
      short := decide (0 < n), admitted := 0, served := 0, excPrev := s.dram.excCur, excCur := []
      hotWin := false, slowWin := false, eccWin := false, winAt := s.tb.beat + 1 } := by
  simp only [State.windowOver, hn, apply_ite State.dram, State.raise_dram, State.setFld_dram, ite_self]

/-- Without a shortfall no register changes. -/
theorem State.windowOver_regs {s : State}
    (hn : (if s.dram.waiting.any (fun q => q.committed && !q.timed) = true then s.dram.admitted - s.dram.served else 0) = 0) :
    s.windowOver.regs = s.regs := by
  simp only [State.windowOver, hn, Nat.lt_irrefl, false_and, if_false]

section RefLoop

variable {s : State}

/-- Without adaptation the loop ends its marks (R520). -/
theorem State.refLoop_still (hadapt : s.on pDramadm DRAMADM.ADM_ADAPT_ADAPT_EN = false) :
    s.refLoop = { s with dram := { s.dram with refBehind := false, refIdle := false, refAt := s.tb.beat + 1 } } := by
  simp only [State.refLoop, hadapt, Bool.false_eq_true, if_false]

/-- With it the loop moves REF_AHEAD by one within its envelope (R520, R521). -/
theorem State.refLoop_moves {v w lo hi : Int} {n : Nat} (hadapt : s.on pDramadm DRAMADM.ADM_ADAPT_ADAPT_EN = true)
    (hv : s.fld pDramadm DRAMADM.REF_AHEAD_AHEAD = v) (hlo : s.fld pDramadm DRAMADM.REF_ENV_MIN = lo)
    (hhi : s.fld pDramadm DRAMADM.REF_ENV_MAX = hi)
    (hw : (if s.dram.refBehind then v + 1 else if s.dram.refIdle then v else v - 1) = w)
    (hn : (if w < lo ∨ hi < w then s.dram.pin + 1 else 0) = n) :
    s.refLoop.regs = (if n = 256 then (s.setFld pDramadm DRAMADM.REF_AHEAD_AHEAD (clampInt lo hi w).toNat).raise pDramadm
      DRAMADM.evLOOP_PINNED else s.setFld pDramadm DRAMADM.REF_AHEAD_AHEAD (clampInt lo hi w).toNat).regs ∧
    s.refLoop.dram = { s.dram with pin := n, refBehind := false, refIdle := false, refAt := s.tb.beat + 1 } := by
  simp only [State.refLoop, hadapt, hv, hlo, hhi, hw, hn, if_true, decide_eq_true_eq, apply_ite State.dram,
    State.raise_dram, State.setFld_dram, ite_self, true_and]

end RefLoop

section LoopCommand

variable {s : State}

/-- The loop's command acts once on a 65,536th st, after a waiting write of its envelope (R520, R710). -/
theorem execRefAheadUpdate_due (hfirst : s.stands (writesField pDramadm DRAMADM.REF_ENV_MAX) = false)
    (htick : s.onTick 65536 = true) (honce : s.dram.refAt ≠ s.tb.beat + 1) :
    exec .refAheadUpdate s = .next s.refLoop :=
  congrArg Host.Outcome.next ((after_none hfirst).trans (if_pos (by simp [htick, honce])))

theorem execRefAheadUpdate_idle (hfirst : s.stands (writesField pDramadm DRAMADM.REF_ENV_MAX) = false)
    (hidle : s.onTick 65536 = false ∨ s.dram.refAt = s.tb.beat + 1) : exec .refAheadUpdate s = .next s :=
  congrArg Host.Outcome.next ((after_none hfirst).trans (if_neg (by rcases hidle with h | h <;> simp [h])))

theorem execArbiterWindowEnd_due (htick : s.onTick 65536 = true) (honce : s.dram.winAt ≠ s.tb.beat + 1) :
    exec .arbiterWindowEnd s = .next s.windowOver :=
  congrArg Host.Outcome.next (if_pos (by simp [htick, honce]))

theorem execArbiterWindowEnd_idle (hidle : s.onTick 65536 = false ∨ s.dram.winAt = s.tb.beat + 1) :
    exec .arbiterWindowEnd s = .next s :=
  congrArg Host.Outcome.next (if_neg (by rcases hidle with h | h <;> simp [h]))

end LoopCommand

/-- Settles O29: a commit by its cause, the arbiter by what waits, and the two loops. -/
theorem dramCommandsComplete : Obligations.DramCommandsComplete := by
  refine ⟨?commit, fun s c hhalt b => execDramRequestServe_halted hhalt, ?serve, fun s c e b ws => rfl,
    fun s hfirst => ⟨execRefAheadUpdate_idle hfirst, ?still⟩, ?moves, fun s => execArbiterWindowEnd_idle, ?window⟩
  case commit =>
    intro s t a hs ha ht
    rw [execAdmCommit_served hs ha]
    exact ⟨fun hc => congrArg Host.Outcome.next (State.admCommit_done (s := s.answer [0]) ht hc),
      fun hc => congrArg Host.Outcome.next (State.admCommit_over (s := s.answer [0]) ht hc),
      fun hc => congrArg Host.Outcome.next (State.admCommit_refused (s := s.answer [0]) ht hc)⟩
  case serve =>
    intro s u c b hrun hu
    rw [execDramRequestServe_runs hrun hu]
    exact ⟨fun q r hq => congrArg Host.Outcome.next (State.dramServe_timed hq), fun htimed =>
      ⟨fun q r hq => congrArg Host.Outcome.next (State.dramServe_committed htimed hq), fun hcommitted =>
        ⟨fun k hk => congrArg Host.Outcome.next (State.dramServe_excess htimed hcommitted hk),
          fun hnone => congrArg Host.Outcome.next (State.dramServe_nothing htimed hcommitted hnone)⟩⟩⟩
  case still =>
    intro htick honce hadapt
    rw [execRefAheadUpdate_due hfirst htick honce, State.refLoop_still hadapt]
  case moves =>
    intro s v w lo hi n hfirst htick honce hadapt hv hlo hhi hw hn
    exact ⟨_, execRefAheadUpdate_due hfirst htick honce, State.refLoop_moves hadapt hv hlo hhi hw hn⟩
  case window =>
    intro s n htick honce hn
    refine ⟨_, execArbiterWindowEnd_due htick honce, State.windowOver_dram hn, ?_⟩
    rintro rfl
    exact State.windowOver_regs hn

end Sys2Proof.Machine

/-!
The link level of a Commons port: how it comes up and goes down, and the frames that it takes and sends (R543 to R547, R549
to R553, R570, R573, R579).
-/

namespace Sys2Proof.Machine

/-! ### Coming up -/

section BringUp

variable {s : State} {k : Fin 4}

theorem State.linkWaited_iff {k n : Nat} : s.linkWaited k n = true ↔ (s.port k).since + n ≤ s.tb.beat := decide_eq_true_iff

theorem State.portUp_of_state {k : Nat} (h : s.linkState k = 4) : s.portUp k = true := by
  rw [State.portUp, h]
  rfl

theorem State.portUp_of_ne {k : Nat} (h : s.linkState k ≠ 4) : s.portUp k = false := beq_eq_false_iff_ne.mpr h

theorem execModuleReady_waited (hst : s.linkState k = 1) (hwait : (s.port k).since + 1000000 ≤ s.tb.beat) :
    exec (.moduleReady k) s = .next (((s.setFld (pFabp k) FABP.LINK_STATUS_MODABS 0).setFld (pFabp k)
      FABP.LINK_STATUS_LOS 1).setLink k 2) :=
  if_pos ⟨hst, State.linkWaited_iff.mpr hwait⟩

/-- Block lock, with FEC alignment where FEC_EN asks for it (R551, R579). -/
theorem execPcsLocked_locks {los fec stable : Bool} {tx rx : Fin 64} {t : State} (hst : s.linkState k = 2)
    (hphy : s.phyOk = true) (hfec : s.fecEn k = true → fec = true) (hwait : (s.port k).since + 65536 ≤ s.tb.beat)
    (ht : s.setPort k { s.port k with fec := s.fecEn k } = t) :
    exec (.pcsLocked k los fec tx rx stable) s =
      .next ((((((t.setFld (pFabp k) FABP.LINK_STATUS_LOS (b2n los)).setFld (pFabp k) FABP.LINK_STATUS_BLOCK_LOCK 1).setFld
        (pFabp k) FABP.LINK_STATUS_HI_BER 0).setFld (pFabp k) FABP.LINK_STATUS_FEC_LOCK (b2n (fec && s.fecEn k))).loopCal k
        tx rx stable).setLink k 3) := by
  subst ht
  exact if_pos ⟨hst, hphy, hfec, State.linkWaited_iff.mpr hwait⟩

/-- A HELLO is due at once after the lock, then each 65,536 beats (R552). -/
theorem State.helloDue_of {k : Nat} (hst : s.linkState k = 3)
    (hat : (s.port k).helloAt = none ∨ ∃ t, (s.port k).helloAt = some t ∧ t + 65536 ≤ s.tb.beat) :
    s.helloDue k = true := by
  obtain hnone | ⟨t, ht, hdue⟩ := hat
  · simp only [State.helloDue, hst, hnone, beq_self_eq_true, Bool.and_self]
  · simp only [State.helloDue, hst, ht, hdue, beq_self_eq_true, decide_true, Bool.and_self]

theorem execHelloSend_due (hdue : s.helloDue k = true) : exec (.helloSend k) s =
    .next ((s.setPort k { s.port k with helloAt := some s.tb.beat }).emitFrame k (s.stampAck k (s.helloFrame k))) :=
  if_pos hdue

end BringUp

/-! ### HELLOs -/

section Hello

variable {s : State} {k : Fin 4} {f : Frame} (hkind : f.kind = 0) (hsub : bitsOf f.arg2 63 60 = 1)
  (hgood : f.badReason = 0)

include hkind hsub hgood

/-- The HELLO of another device than the partner takes an UP port down (R552, R573). -/
theorem execHelloReceive_up (hst : s.linkState k = 4)
    (hid : f.bytesAt 0 8 ≠ s.pair (pFabp k) FABP.PARTNER_ID_LO_ID FABP.PARTNER_ID_HI_ID) :
    exec (.helloReceive k f) s = .next (((s.frameIn k f).raise (pFabp k) FABP.evPARTNER_CHANGE).linkDown k) := by
  change execHelloReceive k f s = _
  simp [execHelloReceive, hkind, hsub, hgood, hst, State.portUp_of_state hst, hid]

variable (hst : s.linkState k = 3)

include hst

/-- The own HELLO is a loop (R570). -/
theorem execHelloReceive_self (hid : f.bytesAt 0 8 = s.myId) :
    exec (.helloReceive k f) s = .next ((s.frameIn k f).bump (pFabp k) FABP.LOST_SELF_LOOP) := by
  have hup : s.portUp k = false := State.portUp_of_ne (by omega)
  change execHelloReceive k f s = _
  simp [execHelloReceive, hkind, hsub, hgood, hst, hup, hid]

variable {t : State} (hid : f.bytesAt 0 8 ≠ s.myId) (ht : (s.frameIn k f).keepHello k f = t)

include hid ht

/-- A HELLO of another device is kept; with another FEC_EN the mismatch is counted, and one that names this device as
partner brings the port up (R552, R570). -/
theorem execHelloReceive_kept : exec (.helloReceive k f) s = .next (
    if bitAt (f.bytesAt 11 1) 0 ≠ s.fecEn k then t.bump (pFabp k) FABP.LOST_FEC_MISMATCH
    else if f.bytesAt 24 8 = s.myId then t.linkUp k ((List.range 6).map (fun v => (v, f.bytesAt (12 + 2 * v) 2)))
    else t) := by
  have hup : s.portUp k = false := State.portUp_of_ne (by omega)
  subst ht
  rw [apply_ite Host.Outcome.next, apply_ite Host.Outcome.next]
  change execHelloReceive k f s = _
  simp [execHelloReceive, hkind, hsub, hgood, hst, hup, hid]

end Hello

/-! ### Going down -/

section Down

variable {s : State} {k : Fin 4}

theorem execLinkDownWaitEnd_waited (hst : s.linkState k = 5) (hwait : (s.port k).since + 1000000 ≤ s.tb.beat) :
    exec (.linkDownWaitEnd k) s = .next (s.setLink k 1) :=
  if_pos ⟨hst, State.linkWaited_iff.mpr hwait⟩

variable (hup : s.portUp k = true)

include hup

theorem execLinkLos_up (modabs : Bool) : exec (.linkLos k modabs) s = .next (((if modabs = true then
      s.setFld (pFabp k) FABP.LINK_STATUS_MODABS 1 else s.setFld (pFabp k) FABP.LINK_STATUS_LOS 1).raise (pFabp k)
      (if modabs = true then FABP.evMOD_ABSENT else FABP.evLOS)).linkDown k) :=
  if_pos hup

theorem execPcsLockLost_up (hiBer : Bool) : exec (.pcsLockLost k hiBer) s = .next (((if hiBer = true then
      s.setFld (pFabp k) FABP.LINK_STATUS_HI_BER 1
    else ((s.setFld (pFabp k) FABP.LINK_STATUS_BLOCK_LOCK 0).setFld (pFabp k) FABP.LINK_STATUS_FEC_LOCK 0).candUnlocked
      k).raise (pFabp k) FABP.evHI_BER).linkDown k) :=
  if_pos hup

theorem execLinkIdleTimeout_due (hidle : (s.port k).rxAt + 2 ^ 20 ≤ s.tb.beat) :
    exec (.linkIdleTimeout k) s = .next (s.linkDown k) :=
  if_pos ⟨hup, hidle⟩

end Down

/-- Settles O48: a lemma for each way up and each way down. -/
theorem linkBringUpCompletes : Obligations.LinkBringUpCompletes := by
  intro s k
  refine ⟨execModuleReady_waited, fun los fec stable tx rx hst hphy hfec hwait t =>
    execPcsLocked_locks hst hphy hfec hwait, fun hst hat => execHelloSend_due (State.helloDue_of hst hat), ?hello,
    execLinkDownWaitEnd_waited, ?down⟩
  case hello =>
    intro f hkind hsub hgood
    refine ⟨execHelloReceive_self hkind hsub hgood, ?kept, execHelloReceive_up hkind hsub hgood⟩
    case kept =>
      intro t hst hid ht
      rw [execHelloReceive_kept hkind hsub hgood hst hid ht]
      exact ⟨fun hfec => by rw [if_pos hfec],
        fun hfec => ⟨fun hpartner => by rw [if_neg (not_not_intro hfec), if_pos hpartner],
          fun hpartner => by rw [if_neg (not_not_intro hfec), if_neg hpartner]⟩⟩
  case down =>
    intro hst
    have hup := State.portUp_of_state hst
    exact ⟨execLinkLos_up hup false, execLinkLos_up hup true, execPcsLockLost_up hup true, execPcsLockLost_up hup false,
      execLinkIdleTimeout_due hup⟩

/-! ### Frames received -/

section Received

variable {s : State} {k : Fin 4} (hup : s.portUp k = true)

include hup

theorem execFrameBadCrc_up {corrected uncorrectable : BitVec 16} {t : State}
    (ht : (s.bump (pFabp k) FABP.FEC_CORR_COUNT corrected.toNat).bump (pFabp k) FABP.FEC_UNCORR_COUNT
      uncorrectable.toNat = t) :
    exec (.frameBadCrc k corrected uncorrectable) s = .next ((((if uncorrectable = 0 then t else
      t.raise (pFabp k) FABP.evFEC_UNCORR).raise (pFabp k) FABP.evCRC_ERR).bump (pFabp k) FABP.ERRS_CRC_ERRS).openEpisode
      k) := by
  subst ht
  exact if_pos hup

/-- A good LINK UPDATE: the credits of six channels and the acknowledgement (R544, R549). -/
theorem execLinkUpdateReceive_up {f : Frame} {cum : List (Nat × Nat)} (hkind : f.kind = 0)
    (hsub : bitsOf f.arg2 63 60 = 0) (hgood : f.badReason = 0)
    (hcum : (List.range 6).foldl (fun t v => Tab.set 0 t v
      (if v = 5 then bitsOf f.arg3 11 0 else bitsOf f.arg2 (12 * v + 11) (12 * v))) ((s.frameIn k f).port k).cum = cum) :
    exec (.linkUpdateReceive k f) s =
      .next (((s.frameIn k f).setPort k { (s.frameIn k f).port k with cum := cum }).takeAck k f) := by
  subst hcum
  change execLinkUpdateReceive k f s = _
  simp [execLinkUpdateReceive, hup, hkind, hsub, hgood]

end Received

/-! ### Timers, and the frame that goes out -/

section Sent

variable {s : State} {k : Fin 4}

theorem execLinkUpdateDue_needed (hneed : s.updateNeeded k = true) :
    exec (.linkUpdateDue k) s = .next (s.setPort k { s.port k with updateDue := true }) := by
  change execLinkUpdateDue k s = _
  simp only [execLinkUpdateDue, hneed, if_true, State.wantUpdate, Bool.or_false]

variable (hup : s.portUp k = true)

include hup

theorem execNakResend_due {b : Nat} (hopen : (s.port k).episode = true) (hnak : (s.port k).nakAt = some b)
    (hdue : b + 2 ^ s.fld (pFabp k) FABP.REPLAY_CFG_REPLAY_EXP ≤ s.tb.beat) :
    exec (.nakResend k) s = .next (s.setPort k { s.port k with updateDue := true, nak := true }) := by
  change execNakResend k s = _
  simp only [execNakResend, hnak, hup, hopen, State.replayPassed, hdue, decide_true, Bool.and_self, if_true,
    State.wantUpdate, Bool.or_true]

theorem execReplayTimeout_due {u : Unacked} {us : List Unacked} (hu : (s.port k).unacked = u :: us)
    (hdue : u.last + 2 ^ s.fld (pFabp k) FABP.REPLAY_CFG_REPLAY_EXP ≤ s.tb.beat)
    (hnew : (s.port k).replayAt ≠ some u.frame.seq) :
    exec (.replayTimeout k) s = .next (s.startReplay k u.frame.seq) := by
  change execReplayTimeout k s = _
  simp only [execReplayTimeout, hu, hup, State.replayPassed, hdue, decide_true, bne_iff_ne.mpr hnew, Bool.and_self,
    if_true]

theorem execFrameTransmit_update (hdue : (s.port k).updateDue = true) :
    exec (.frameTransmit k) s = .next (s.sendUpdate k) := by
  change execFrameTransmit k s = _
  simp only [execFrameTransmit, hup, hdue, Bool.not_true, Bool.false_eq_true, if_false, if_true]

variable (hdue : (s.port k).updateDue = false)

include hdue

theorem execFrameTransmit_replay {r : Nat} {u : Unacked} (hr : (s.port k).replayAt = some r)
    (hu : (s.port k).unacked.find? (fun u => u.frame.seq == r) = some u) :
    exec (.frameTransmit k) s = .next (s.sendReplay k u) := by
  change execFrameTransmit k s = _
  simp only [execFrameTransmit, hup, hdue, hr, hu, Option.bind_some, Bool.not_true, Bool.false_eq_true, if_false]

theorem execFrameTransmit_new {x : TxFrame} (hr : (s.port k).replayAt = none) (hx : s.nextFrame k = some x) :
    exec (.frameTransmit k) s = .next (s.sendNew k x) := by
  change execFrameTransmit k s = _
  simp only [execFrameTransmit, hup, hdue, hr, hx, Option.bind_none, Bool.not_true, Bool.false_eq_true, if_false]

end Sent

/-- Settles O49: a lemma for each frame and each timer. -/
theorem linkFramesComplete : Obligations.LinkFramesComplete := by
  refine ⟨fun s k hup => ⟨?badCrc, fun f cum => execLinkUpdateReceive_up hup, execLinkUpdateDue_needed,
    fun b => execNakResend_due hup, execFrameTransmit_update hup, fun hdue => ⟨fun r u => execFrameTransmit_replay hup hdue,
    fun x => execFrameTransmit_new hup hdue⟩⟩, fun s k u us hu hup => execReplayTimeout_due hup hu⟩
  case badCrc =>
    intro corrected uncorrectable t ht
    rw [execFrameBadCrc_up hup ht]
    exact ⟨fun hnone => by rw [if_pos hnone], fun hsome => by rw [if_neg hsome]⟩

end Sys2Proof.Machine

/-!
What a Commons port hands on: requests, items, events and discovery's frames; the module management bus (R544, R549, R554 to
R567, R577, R598 to R600).
-/

namespace Sys2Proof.Machine

/-! ### A frame of a row's own kind that the link takes -/

section Taken

variable {s : State} {k : Fin 4} {f : Frame}

/-- A frame of a row's own kind is the row's (R541). -/
theorem frameFor_own {own : Bool} (hkind : f.kind ≠ 0) (hown : own = true) : frameFor f own = true := by
  simp [frameFor, hkind, hown]

variable (htakes : s.linkTakes k f = true) {nx : Nat} (hnx : (s.frameIn k f).fab.next = nx)

include htakes hnx

/-- A row's frame that the link takes is handed on, and its place is freed once nothing holds it (R544, R549). -/
theorem State.rowFrame_taken {own : Bool} {g : State → Nat → State} (hkind : f.kind ≠ 0) (hown : own = true) :
    (if frameFor f own then s.linkAccept k f g else s) = (g (s.linkTaken k f) nx).freeUnused := by
  rw [if_pos (frameFor_own hkind hown), linkAccept_taken htakes, hnx]

/-- The same for a row that answers a state in each case. -/
theorem outFrame_taken {own : Bool} {g : State → Nat → State} (hkind : f.kind ≠ 0) (hown : own = true) :
    (if frameFor f own then .next (s.linkAccept k f g) else .next s : Out) =
      .next (g (s.linkTaken k f) nx).freeUnused := by
  rw [← apply_ite Host.Outcome.next, State.rowFrame_taken htakes hnx hkind hown]

end Taken

/-! ### Requests, items and events -/

section Agent

variable {s t : State} {k : Fin 4} {f : Frame} {nx : Nat} (htakes : s.linkTakes k f = true)
  (hnx : (s.frameIn k f).fab.next = nx)
  (ht : ((s.linkTaken k f).above k nx f (fun u => u.toAgent k nx f)).freeUnused = t)

include htakes hnx ht

theorem execTransportReceive_taken (hkind : f.kind = 1) : exec (.transportReceive k f) s = .next t := by
  subst ht
  exact outFrame_taken htakes hnx (by simp [hkind]) (by simp [hkind])

theorem execItemFrameReceive_taken (hkind : f.kind = 2) : exec (.itemFrameReceive k f) s = .next t := by
  subst ht
  exact outFrame_taken htakes hnx (by simp [hkind]) (by simp [hkind])

theorem execSegmentFrameReceive_taken (hkind : f.kind = 3) (hsub : f.arg2 % 16 ≠ 0xE) :
    exec (.segmentFrameReceive k f) s = .next t := by
  subst ht
  exact outFrame_taken htakes hnx (by simp [hkind]) (by simp [hkind, hsub])

/-- An ALMANAC event of an OP (R597 to R599). -/
theorem State.almFrameIn_taken {op : Nat} (hkind : f.kind = 3) (hsub : f.arg2 % 16 = 0xE) (hop : f.bytesAt 1 1 = op) :
    s.almFrameIn k f op = t := by
  subst ht
  exact State.rowFrame_taken htakes hnx (by simp [hkind]) (by simp [hkind, hsub, hop])

end Agent

/-! ### The module management bus -/

section Bus

variable {s t : State} {a : Acc} {w : Word} {data : Word} {nack : Bool}

/-- GO starts a transaction where none runs (R577). -/
theorem State.fabWrite_go {w : Nat} (hgo : bitAt w 31 = true) (hidle : s.on pFab FAB.I2C_CTRL_BUSY = false)
    (ht : s.writeFields pFab [FAB.I2C_CTRL_READ, FAB.I2C_CTRL_FAST, FAB.I2C_CTRL_LEN_M1, FAB.I2C_CTRL_ADDR,
      FAB.I2C_CTRL_REG] w = t) :
    s.fabWrite 0x118 w = ((t.setFld pFab FAB.I2C_CTRL_BUSY 1).setFld pFab FAB.I2C_CTRL_NACK 0).send "I2C"
      (bitsOf w 22 16) [bitsOf w 15 8, bitsOf w 25 24 + 1, bitsOf w 28 28, bitsOf w 27 27,
      t.fld pFab FAB.I2C_DATA_DATA] := by
  simp only [State.fabWrite, ht, hgo, hidle, if_true, Bool.not_false, Bool.and_self]

theorem execI2cGo_served (hs : s.serves a pFab 0x118 true = true) (ha : a.hh = 15) :
    exec (.i2cGo a w) s = .next ((s.answer [0]).fabWrite 0x118 (setBit w.toNat 31)) :=
  congrArg Host.Outcome.next (mgr_served hs ha)

/-- The end of a transaction (R577): what a read brought is stored unless the module did not answer. -/
theorem execI2cDone_busy (hbusy : s.on pFab FAB.I2C_CTRL_BUSY = true)
    (ht : (s.setFld pFab FAB.I2C_CTRL_BUSY 0).setFld pFab FAB.I2C_CTRL_NACK (b2n nack) = t) :
    exec (.i2cDone nack data) s = .next ((if (t.on pFab FAB.I2C_CTRL_READ && !nack) = true then t.setFld pFab
      FAB.I2C_DATA_DATA (data.toNat % 2 ^ (8 * (t.fld pFab FAB.I2C_CTRL_LEN_M1 + 1))) else t).raise pFab
      (if nack = true then FAB.evI2C_ERR else FAB.evI2C_DONE)) := by
  subst ht
  exact if_pos hbusy

end Bus

/-- Settles O50: each row's frame passes the link (`linkAccept_taken`); the bus by its own lemmas. -/
theorem fabricFramesComplete : Obligations.FabricFramesComplete := by
  refine ⟨?frames, fun s k => rfl, fun s w0 w1 => rfl, ?go, ?done⟩
  case frames =>
    intro s k f nx t htakes hnx ht
    have halm {op : Nat} := State.almFrameIn_taken htakes hnx ht (op := op)
    exact ⟨execTransportReceive_taken htakes hnx ht, execItemFrameReceive_taken htakes hnx ht,
      execSegmentFrameReceive_taken htakes hnx ht, fun hkind hsub =>
      ⟨fun hop => congrArg Host.Outcome.next (halm hkind hsub hop),
        fun hop => congrArg Host.Outcome.next (halm hkind hsub hop),
        fun hop => congrArg Host.Outcome.next (halm hkind hsub hop),
        fun hop => congrArg Host.Outcome.next (halm hkind hsub hop)⟩⟩
  case go =>
    intro s a w hs ha hidle
    rw [execI2cGo_served hs ha, State.fabWrite_go (s := s.answer [0]) (bitAt_setBit _ _) hidle rfl]
  case done =>
    intro s t data nack hbusy ht
    rw [execI2cDone_busy hbusy ht]
    exact ⟨fun hnack => by simp [hnack], fun hack hread => by simp [hack, hread],
      fun hack hwrite => by simp [hack, hwrite]⟩

end Sys2Proof.Machine

/-!
Discovery: announcing, the root, joining, maps and their activation (R559 to R565, R567).
-/

namespace Sys2Proof.Machine

/-! ### Frames that come in -/

/-- A discovery frame that the link takes has its effect where the DISC page is enabled (R559). -/
theorem State.discIn_taken {s : State} {k : Fin 4} {f : Frame} {sub nx : Nat} {deliver : State → State}
    (htakes : s.linkTakes k f = true) (hkind : f.kind = 4) (hsub : f.arg2 % 16 = sub)
    (hnx : (s.frameIn k f).fab.next = nx) : s.discIn k f sub deliver =
    ((s.linkTaken k f).above k nx f (fun u => if u.enabled pDisc then deliver u else u)).freeUnused :=
  State.rowFrame_taken htakes hnx (by simp [hkind]) (by simp [hkind, hsub])

/-! ### What an enabled device does by its periods -/

section Enabled

variable {s t : State} (hen : s.enabled pDisc = true)

include hen

/-- An announce: the choice is made again, and the root counts ROOT_SEQ (R559, R560). -/
theorem execAnnounceSend_due (hdue : s.annPassed s.disc.annAt 1 = true)
    (ht : ({ s with disc := { s.disc with annAt := s.tb.beat } } : State).elect false = t) :
    exec .announceSend s = .next (if t.on pDisc DISC.DISC_STATUS_IS_ROOT = true then t.incr pDisc DISC.ROOT_INFO_ROOT_SEQ
      else t).announce := by
  subst ht
  exact if_pos (by rw [hen, hdue, Bool.and_self])

/-- ROOT_HOLD has passed without a root: the device claims root, or the lack of one is raised once (R561, R570). -/
theorem execRootHoldExpire_over {z : State} (hroot : s.disc.hasRoot = false) (hz : s.noteHold = z)
    (hover : z.holdOver = true) (ht : z.elect true = t) : exec .rootHoldExpire s =
    .next (if t.disc.hasRoot = true ∨ t.disc.noRoot = true then t else
      ({ t with disc := { t.disc with noRoot := true } } : State).raise pDisc DISC.evDISC_NO_ROOT) := by
  subst hz ht
  rw [apply_ite Host.Outcome.next]
  exact if_neg (by simp [hen, hroot, hover])

/-- The tree has been stable for SETTLE_N periods: the root numbers itself, any other device joins (R562 to R564). -/
theorem execTreeStable_due (hroot : s.disc.hasRoot = true) (hst : s.fld pDisc DISC.DISC_STATUS_STATE = 1)
    (hdue : s.annPassed s.disc.changedAt (s.fld pDisc DISC.DISC_TIMING_SETTLE_N) = true)
    (ht : (s.setFld pDisc DISC.DISC_STATUS_STATE 2).raise pDisc DISC.evTREE_STABLE = t) : exec .treeStable s =
    .next (if t.on pDisc DISC.DISC_STATUS_IS_ROOT = true then t.numberSelf else t.join) := by
  subst ht
  rw [apply_ite Host.Outcome.next]
  exact if_neg (by simp [hen, hroot, hst, hdue])

/-- A device that is not the root joins again each 64 periods (R563). -/
theorem execJoinSend_due (hst : 2 ≤ s.fld pDisc DISC.DISC_STATUS_STATE)
    (hroot : s.on pDisc DISC.DISC_STATUS_IS_ROOT = false) (hdue : s.annPassed s.disc.joinAt 64 = true) :
    exec .joinSend s =
      .next (({ s with disc := { s.disc with joinAt := s.tb.beat } } : State).sendLocal s.rootPort s.joinFrame) :=
  congrArg Host.Outcome.next ((if_pos hdue).trans (if_pos (by simp [hen, hst, hroot])))

/-- The root sends a new map SETTLE_N periods after the last change; with no other device in it the tables are active at once
(R565). -/
theorem State.mapSettle_due {e : Nat} {want : List Nat} {u v : State}
    (hroot : s.on pDisc DISC.DISC_STATUS_IS_ROOT = true) (hnum : s.numValid = true) (hdirty : s.disc.dirty = true)
    (hdue : s.annPassed s.disc.dirtyAt (s.fld pDisc DISC.DISC_TIMING_SETTLE_N) = true)
    (he : (s.fld pRoute ROUTE.RT_STATUS_STAGED_EPOCH + 1) % 2 ^ 16 = e)
    (hwant : (s.rootMap.map MapEntry.dev).filter (fun d => d != s.devNum) = want) (hu : s.stage e s.rootMap = u)
    (hv : (mapFrames e s.rootMap.length 0 s.rootMap 2).foldl (fun t f => t.downTree f)
      { u with disc := { u.disc with dirty := false, acks := some want, mapAt := s.tb.beat } } = v) :
    s.mapSettle = if want = [] then v.rootActivate else v := by
  subst he hwant hu hv
  rw [State.mapSettle, if_neg (by simp [hen, hroot, hnum, hdirty, hdue])]
  simp only [List.isEmpty_iff]

end Enabled

/-! ### The root's table, and acknowledgements that do not come -/

theorem execJoinExpire_old {s : State} {ident : BitVec 64}
    (hold : s.disc.devices.any (fun d => d.ident == ident.toNat && s.annPassed d.at_ 256) = true) :
    exec (.joinExpire ident) s = .next { s with disc := { s.disc with
      devices := s.disc.devices.filter (fun d => d.ident != ident.toNat), dirty := true, dirtyAt := s.tb.beat } } :=
  if_pos hold

theorem execMapAckTimeout_due {s : State} {l : List Nat} (hacks : s.disc.acks = some l)
    (hdue : s.disc.mapAt + 2 ^ 24 ≤ s.tb.beat) :
    exec .mapAckTimeout s = .next (s.raise pDisc DISC.evDISC_ACK_MISSING).rootActivate := by
  change execMapAckTimeout s = _
  simp only [execMapAckTimeout, hacks, hdue, if_true]

/-- Settles O51: the frames by `State.discIn_taken`, the periods and deadlines by a lemma each. -/
theorem discoveryCompletes : Obligations.DiscoveryCompletes := by
  refine ⟨?frames, fun s hen => ⟨?announce, ?hold, ?stable, execJoinSend_due hen, ?map⟩, fun s ident => execJoinExpire_old,
    fun s l => execMapAckTimeout_due⟩
  case frames =>
    rintro s k f n nx t htakes hkind hsub hnx rfl
    have hin {deliver : State → State} := State.discIn_taken (deliver := deliver) htakes hkind hsub hnx
    refine ⟨?_, ?_, ?_, ?_, ?_, ?_⟩ <;> (rintro rfl; exact congrArg Host.Outcome.next hin)
  case announce =>
    intro hdue t ht
    rw [execAnnounceSend_due hen hdue ht]
    exact ⟨fun hroot => by rw [if_pos hroot], fun hroot => by rw [if_neg (Bool.eq_false_iff.mp hroot)]⟩
  case hold =>
    intro z t hroot hz hover ht
    rw [execRootHoldExpire_over hen hroot hz hover ht]
    exact ⟨fun hknown => by rw [if_pos hknown], fun hroot hnew => by rw [if_neg (by simp [hroot, hnew])]⟩
  case stable =>
    intro t hroot hst hdue ht
    rw [execTreeStable_due hen hroot hst hdue ht]
    exact ⟨fun hroot => by rw [if_pos hroot], fun hroot => by rw [if_neg (Bool.eq_false_iff.mp hroot)]⟩
  case map =>
    intro e want u v hroot hnum hdirty hdue hfirst he hwant hu hv
    have hexec : exec .mapSettle s = .next s.mapSettle := congrArg Host.Outcome.next (after_none hfirst)
    rw [hexec, State.mapSettle_due hen hroot hnum hdirty hdue he hwant hu hv]
    exact ⟨fun hothers => by rw [if_neg hothers], fun hnone => by rw [if_pos hnone]⟩

end Sys2Proof.Machine

/-!
The constellation: exchanges of TIME frames, steering, joining, leaving and losing the parent (R578, R580 to R583, R587,
R588, R591, R592).
-/

namespace Sys2Proof.Machine

/-! ### Exchanges -/

section Exchange

variable {s : State} {k : Fin 4} {f : Frame} {start : BitVec 64}

/-- A root or an aligned device sends its SYNCs once on each multiple of the exchange period (R581). -/
theorem execSyncSend_due {z : State} (hen : s.enabled pConst = true) (hst : s.cState = 1 ∨ s.cState = 7)
    (htick : s.onTick s.exchPeriod = true) (honce : s.cst.syncAt ≠ s.tb.beat + 1)
    (hz : { s with cst := { s.cst with syncAt := s.tb.beat + 1 } } = z) :
    exec .syncSend s = .next ((s.childPorts.filter s.portUp).foldl (fun t k =>
      (t.incr pConst (CONST.EXCH_SEQ_SEQ.at k)).sendLocal k ((t.incr pConst (CONST.EXCH_SEQ_SEQ.at k)).timeFrame k 0
        ((t.incr pConst (CONST.EXCH_SEQ_SEQ.at k)).fld pConst (CONST.EXCH_SEQ_SEQ.at k)) 0)) z) := by
  subst hz
  exact if_pos (by simp [hen, hst, htick, honce])

section Taken

variable (htakes : s.linkTakes k f = true) (hkind : f.kind = 5)

include htakes hkind

theorem execSyncReceive_taken (hsub : f.arg2 % 16 = 0) :
    exec (.syncReceive k f start) s = .next ((s.linkTaken k f).syncIn k f start.toNat).freeUnused :=
  outFrame_taken htakes rfl (by simp [hkind]) (by simp [hkind, hsub])

theorem execDelayReqReceive_taken (hsub : f.arg2 % 16 = 1) :
    exec (.delayReqReceive k f start) s = .next ((s.linkTaken k f).delayReqIn k f start.toNat).freeUnused :=
  outFrame_taken htakes rfl (by simp [hkind]) (by simp [hkind, hsub])

theorem execDelayRespReceive_taken (hsub : f.arg2 % 16 = 2) :
    exec (.delayRespReceive k f) s = .next ((s.linkTaken k f).delayRespIn k f).freeUnused :=
  outFrame_taken htakes rfl (by simp [hkind]) (by simp [hkind, hsub])

end Taken

section Response

variable {x : Exchange} {n : Nat} (hx : s.cst.exch = some x)

include hx

/-- A DELAY_RESP of the running exchange, in time and never replayed, completes it as valid (R581, R582). -/
theorem State.delayRespIn_valid {t3 : Nat} (ht3 : x.t3 = some t3) (hnum : x.num = bitsOf f.arg2 63 32)
    (hvoid : x.void = false) (hfirst : f.replayed = false) (hport : n = s.rootPort)
    (hcal : s.cst.voidPorts.contains n = false)
    (htime : stampDiff (s.tb.count * 64) x.t2 ≤ (s.exchPeriod / 2 * 64 : Nat)) :
    s.delayRespIn n f = s.validExchange n x t3 (timeStamp f) := by
  simp only [State.delayRespIn, hx, ht3, hnum, hvoid, hfirst, ← hport, hcal, htime, beq_self_eq_true, Bool.not_false,
    Bool.and_self, decide_true, if_true]

/-- A void exchange, a replayed frame and another exchange's number complete it as void (R581). -/
theorem State.delayRespIn_void (hbad : x.void = true ∨ f.replayed = true ∨ x.num ≠ bitsOf f.arg2 63 32) :
    s.delayRespIn n f = s.timeVoid := by
  have hok : (x.num == bitsOf f.arg2 63 32 && !x.void && !f.replayed) = false := by
    obtain h | h | h := hbad <;> simp [h]
  cases ht3 : x.t3 <;>
    simp only [State.delayRespIn, hx, ht3, hok, Bool.false_and, Bool.false_eq_true, if_false]

end Response

end Exchange

/-! ### Steering -/

/-- One unit toward zero remaining correction (R583). -/
theorem execSteerStep_steers {s t : State} {d : Int} (hhold : s.on pConst CONST.CONST_CTRL_HOLD = false)
    (hd : 0 < s.cst.rem ∧ d = 1 ∨ s.cst.rem < 0 ∧ d = -1) (hlo : 3 ≤ s.cState) (hhi : s.cState ≤ 7)
    (hwin : s.stepsNow < s.fld pConst CONST.CONST_CFG_STEER_MAX)
    (ht : t = { s with cst := { s.cst with
      rem := s.cst.rem - d, steer := s.cst.steer + d, stepWin := s.tb.count / 65536, stepN := s.stepsNow + 1 } }) :
    exec .steerStep s = .next (t.setSfld pConst CONST.STEER_SUM_SUM (t.sfld pConst CONST.STEER_SUM_SUM + d)) := by
  have hdir : (if 0 < s.cst.rem then 1 else -1) = d := by
    obtain ⟨hpos, rfl⟩ | ⟨hneg, rfl⟩ := hd
    · rw [if_pos hpos]
    · rw [if_neg (by omega)]
  have hgo : ¬ (s.cst.rem = 0 ∨ s.on pConst CONST.CONST_CTRL_HOLD = true ∨ s.cState < 3 ∨ 7 < s.cState
      ∨ s.fld pConst CONST.CONST_CFG_STEER_MAX ≤ s.stepsNow) := by
    rw [hhold, Bool.false_eq_true, false_or]
    omega
  subst ht
  change execSteerStep s = _
  simp only [execSteerStep, hgo, hdir, if_false]

/-! ### Joining, leaving and losing the parent -/

section Member

variable {s t : State}

section Ctrl

variable {v w : Nat} (ht : s.setFld pConst CONST.CONST_CTRL_HOLD (v % 2) = t)

include ht

/-- JOIN with HOLD as it is: a member that is OFF waits for a SYNC (R587). -/
theorem State.constCtrl_join (hw : w = 4 * v + 1) (hmember : t.constMember = true) (hoff : t.cState = 0) :
    s.constCtrl w = (t.setFld pConst CONST.STEER_SUM_SUM 0).setCState 2 := by
  have hbits : bitsOf w 2 2 = v % 2 ∧ bitAt w 1 = false ∧ bitAt w 0 = true := by
    subst hw
    simp only [bitsOf, bitAt, Nat.shiftRight_eq_div_pow, beq_iff_eq, beq_eq_false_iff_ne]
    omega
  obtain ⟨hhold, hleave, hjoin⟩ := hbits
  simp only [State.constCtrl, hhold, hleave, hjoin, ht, State.constJoin, hmember, hoff, Bool.false_eq_true, if_false,
    if_true, beq_self_eq_true, Bool.and_self, State.constWait]

/-- LEAVE with HOLD as it is (R592). -/
theorem State.constCtrl_leave (hw : w = 4 * v + 2) (hon : t.cState ≠ 0) (hjoined : t.cState ≠ 9) :
    s.constCtrl w =
      (({ t with cst := { t.cst with exch := none, rem := 0 } } : State).setCState 0).raise pConst CONST.evLEFT := by
  have hbits : bitsOf w 2 2 = v % 2 ∧ bitAt w 1 = true := by
    subst hw
    simp only [bitsOf, bitAt, Nat.shiftRight_eq_div_pow, beq_iff_eq]
    omega
  obtain ⟨hhold, hleave⟩ := hbits
  simp only [State.constCtrl, hhold, hleave, ht, State.constLeave, hon, hjoined, or_self, if_false, if_true]

end Ctrl

variable {a : Acc}

theorem execConstJoin_served (hs : s.serves a pConst 0x104 true = true) (ha : a.hh = 15) : exec (.constJoin a) s =
    .next ((s.answer [0]).constCtrl (4 * s.fld pConst CONST.CONST_CTRL_HOLD + 1)) :=
  congrArg Host.Outcome.next (mgr_served hs ha)

theorem execConstLeave_served (hs : s.serves a pConst 0x104 true = true) (ha : a.hh = 15) : exec (.constLeave a) s =
    .next ((s.answer [0]).constCtrl (4 * s.fld pConst CONST.CONST_CTRL_HOLD + 2)) :=
  congrArg Host.Outcome.next (mgr_served hs ha)

theorem execSyntoniseDone_switched (hst : s.cState = 3) (hdone : (s.almEntry 63).st = 3)
    (hslew : s.on pRefmon REFMON.STATUS_SLEWING = false) : exec .syntoniseDone s = .next (s.setCState 4) :=
  if_pos ⟨hst, hdone, hslew⟩

theorem execParentTimeout_lost (hlo : 3 ≤ s.cState) (hhi : s.cState ≤ 7)
    (hdue : s.cst.validAt + 16 * s.exchPeriod ≤ s.tb.beat) :
    exec .parentTimeout s = .next ((s.setCState 8).raise pConst CONST.evPARENT_LOST) :=
  congrArg Host.Outcome.next ((if_pos hdue).trans (if_pos ⟨hlo, hhi⟩))

end Member

/-- Settles O52: a lemma for each command of the engine. -/
theorem constellationCompletes : Obligations.ConstellationCompletes := by
  refine ⟨fun s hen hst htick honce z hz => execSyncSend_due hen hst htick honce hz, ?frames,
    fun s d hhold hd hlo hhi hwin t ht => execSteerStep_steers hhold hd hlo hhi hwin ht, ?ctrl,
    fun s => execSyntoniseDone_switched, fun s => execParentTimeout_lost⟩
  case frames =>
    intro s k f start htakes hkind
    refine ⟨execSyncReceive_taken htakes hkind, execDelayReqReceive_taken htakes hkind, fun hsub => ?response⟩
    case response =>
      rw [execDelayRespReceive_taken htakes hkind hsub]
      exact ⟨fun x t3 hx ht3 hnum hvoid hfirst hport hcal htime => by
          rw [State.delayRespIn_valid hx ht3 hnum hvoid hfirst hport hcal htime],
        fun x hx hbad => by rw [State.delayRespIn_void hx hbad]⟩
  case ctrl =>
    intro s a hs ha
    rw [execConstJoin_served hs ha, execConstLeave_served hs ha]
    exact ⟨fun t ht hmember hoff => by rw [State.constCtrl_join ht rfl hmember hoff],
      fun t ht hon hjoined => by rw [State.constCtrl_leave ht rfl hon hjoined]⟩

end Sys2Proof.Machine

/-!
The provenance engine: input digests, writes to the weights, the feed of a replay, and the registers of a block (R612, R613,
R628, R631, R637).
-/

namespace Sys2Proof.Machine

section Provenance

variable {s t : State} {h : Fin 8} {r : RunSt}

/-- The digest of the step item is ready 80 beats for each block after the item was obtained (R613). -/
theorem execInputDigestDone_ready {i : QItem} (hr : s.runOf h = some r) (hi : s.stepItem r = some i)
    (hnew : r.digested = false) (hdue : r.gotAt + 80 * shaBlocks (8 * i.words.length) ≤ s.tb.beat)
    (ht : (s.putDigest h PROV.INPUT_DIGEST_W (sha256 (wordsLe i.data))).setRun h { r with digested := true } = t) :
    exec (.inputDigestDone h) s = .next (if s.atStep r = true then t.bump pProv (PROV.DIGEST_WAIT_N.at h)
      (s.tb.count - r.readyAt) else t) := by
  subst ht
  change execInputDigestDone h s = _
  simp only [execInputDigestDone, hr, hi, hnew, Nat.not_lt.mpr hdue, Bool.false_eq_true, or_self, if_false]

/-- The first write that reached the weights region makes it dirty (R612). -/
theorem execWeightsWriteDetect_first (hwritten : (s.pvOf h).written = true) (hregion : (s.pvOf h).weights.isSome = true)
    (hclean : (s.pvOf h).dirty = false)
    (ht : (s.setPv h { s.pvOf h with written := false, dirty := true }).raiseBy pProv PROV.evWEIGHTS_DIRTY h = t) :
    exec (.weightsWriteDetect h) s = .next (if (t.runOf h).isSome = true then t.setRunFlag h 8 else t) := by
  subst ht
  exact if_pos (by simp [hwritten, hregion, hclean])

/-! ### The feed -/

section Feed

variable {target : Int} (hr : s.runOf h = some r) (hleft : (s.pvOf h).feedLeft ≠ 0)
  (hfeed : s.pf h PROV.PSTATUS_FEED_STATE = 2) (ht : s.feedOne h (s.slotInQ r.slot) = t)
  (htarget : r.launched + sgn 64 (s.dramWord (s.repBase h + (s.pvOf h).feedAt))
    - bitsOf (s.dramWord (s.repBase h + (s.pvOf h).feedAt + 8)) 63 32 = target)

include hr hleft hfeed ht htarget

/-- What a running feed does, by how late the item would become visible (R628). -/
theorem execReplayFeed_runs {late : Int} (hlate : ((s.tb.count + 1 : Nat) : Int) - target = late) :
    exec (.replayFeed h) s = .next (if late < 0 then s else if 0 < late then
      (let u := (t.bump pProv (PROV.SLIP_SLIP_COUNT.at h)).setFld pProv (PROV.SLIP_SLIP_MAX.at h)
        (min 0xFFFF (max late.toNat (t.pf h PROV.SLIP_SLIP_MAX)))
      let v := if (s.pvOf h).slipping then u else u.raiseBy pProv PROV.evREPLAY_SLIP h
      v.setPv h { v.pvOf h with slipping := true })
    else t.setPv h { t.pvOf h with slipping := false }) := by
  rw [apply_ite Host.Outcome.next, apply_ite Host.Outcome.next]
  change execReplayFeed h s = _
  simp only [execReplayFeed, hr, hleft, hfeed, ht, htarget, hlate, ne_eq, not_true_eq_false, or_self, if_false]

/-- Before its target tick the item is not pushed; on it there is no slip. -/
theorem execReplayFeed_inTime (htime : (s.tb.count : Int) + 1 ≤ target) : exec (.replayFeed h) s =
    .next (if (s.tb.count : Int) + 1 = target then t.setPv h { t.pvOf h with slipping := false } else s) := by
  rw [execReplayFeed_runs hr hleft hfeed ht htarget rfl]
  by_cases hon : (s.tb.count : Int) + 1 = target
  · rw [if_neg (by omega), if_neg (by omega), if_pos hon]
  · rw [if_pos (by omega), if_neg hon]

/-- After it the slip is counted, with an event where the feed was not slipping already. -/
theorem execReplayFeed_late {late : Nat} {u v : State} (hpos : 0 < late)
    (hlate : (s.tb.count : Int) + 1 = target + late)
    (hu : (t.bump pProv (PROV.SLIP_SLIP_COUNT.at h)).setFld pProv (PROV.SLIP_SLIP_MAX.at h)
      (min 0xFFFF (max late (t.pf h PROV.SLIP_SLIP_MAX))) = u)
    (hv : (s.pvOf h).slipping = true ∧ v = u ∨ (s.pvOf h).slipping = false ∧ v = u.raiseBy pProv PROV.evREPLAY_SLIP h) :
    exec (.replayFeed h) s = .next (v.setPv h { v.pvOf h with slipping := true }) := by
  have hgap : ((s.tb.count + 1 : Nat) : Int) - target = late := by omega
  have hslip : (if (s.pvOf h).slipping = true then u else u.raiseBy pProv PROV.evREPLAY_SLIP h) = v := by
    obtain ⟨hon, rfl⟩ | ⟨hoff, rfl⟩ := hv
    · exact if_pos hon
    · exact if_neg (Bool.eq_false_iff.mp hoff)
  rw [execReplayFeed_runs hr hleft hfeed ht htarget hgap, if_neg (by omega), if_pos (by omega), Int.toNat_natCast]
  simp only [hu, hslip]

end Feed

/-! ### Registers of a block -/

section Register

variable {a : Acc} {w : Word}

theorem execReplayEnable_served (hs : s.serves a pProv (0x200 + 0x100 * h.val) true = true)
    (hfirst : s.stands launches = false) : exec (.replayEnable a h w) s =
    .next ((s.answer [0]).provWrite a.hh (0x200 + 0x100 * h.val) (setBit w.toNat 30)) :=
  congrArg Host.Outcome.next ((after_none hfirst).trans (access_served hs))

theorem execPcfgWrite_served {off : Fin 64} (hs : s.serves a pProv (0x200 + 0x100 * h.val + 4 * off.val) true = true)
    (hfirst : s.stands (fun c => off.val == 0 && launches c) = false) : exec (.pcfgWrite a h off w) s =
    .next ((s.answer [0]).provWrite a.hh (0x200 + 0x100 * h.val + 4 * off.val) w.toNat) :=
  congrArg Host.Outcome.next ((after_none hfirst).trans (access_served hs))

end Register

end Provenance

/-- Settles O53: a lemma for each command of the engine. -/
theorem provenanceCommandsComplete : Obligations.ProvenanceCommandsComplete := by
  refine ⟨?digest, ?weights, ?feed, fun s a h w => ⟨execReplayEnable_served, fun off => execPcfgWrite_served⟩⟩
  case digest =>
    intro s h r i t hr hi hnew hdue ht
    rw [execInputDigestDone_ready hr hi hnew hdue ht]
    exact ⟨fun hstep => by rw [if_pos hstep], fun hstep => by rw [if_neg (Bool.eq_false_iff.mp hstep)]⟩
  case weights =>
    intro s h t hwritten hregion hclean ht
    rw [execWeightsWriteDetect_first hwritten hregion hclean ht]
    exact ⟨fun hrun => by rw [if_pos hrun], fun hrun => by rw [if_neg (Bool.eq_false_iff.mp hrun)]⟩
  case feed =>
    intro s h r t hr hleft hfeed ht
    exact ⟨execReplayFeed_inTime hr hleft hfeed ht rfl, fun late u v => execReplayFeed_late hr hleft hfeed ht rfl⟩

end Sys2Proof.Machine

/-!
The reset of a household: its requests and its end (R660, R661).
-/

namespace Sys2Proof.Machine

section HouseholdReset

variable {s : State} {h : Nat} {flr : Bool}

/-! ### The reset itself -/

/-- A request while the reset runs changes nothing (R660). -/
theorem State.householdReset_running (hrun : h ∈ s.hhReset) : s.householdReset h flr = s :=
  if_pos (List.contains_iff_mem.mpr hrun)

/-- Once every unit has applied its HOUSEHOLD values the reset runs (R661). -/
theorem State.mem_hhReset_applyHousehold (s : State) (h : Nat) (flr : Bool) : h ∈ (s.applyHousehold h flr).hhReset := by
  unfold State.applyHousehold
  split
  case isTrue hrun => exact List.contains_iff_mem.mp hrun
  case isFalse => exact List.mem_append_right _ (List.mem_singleton_self h)

theorem State.mem_hhReset_householdReset (s : State) (h : Nat) (flr : Bool) : h ∈ (s.householdReset h flr).hhReset := by
  unfold State.householdReset
  split
  case isTrue hrun => exact List.contains_iff_mem.mp hrun
  case isFalse => exact State.mem_hhReset_applyHousehold _ h flr

end HouseholdReset

/-! ### The registers that request it -/

/-- A register without fields of the manager's is denied to nobody on their account (R740). -/
theorem State.mgrDenied_of_none {s : State} {hh p w : Nat} {fs : List Fld} (hfs : fs.any Fld.mgr = false) :
    s.mgrDenied hh p fs w = false := by
  have hchanges : s.changesMgr p fs w = false := by
    rw [State.changesMgr, List.any_eq_false]
    intro f hf
    simp only [List.any_eq_false] at hfs
    simp [hfs f hf]
  rw [State.mgrDenied, hfs, hchanges, Bool.false_and, Bool.or_false, Bool.and_false]

/-- The manager is never denied on their account. -/
theorem State.mgrDenied_manager {s : State} {p w : Nat} {fs : List Fld} : s.mgrDenied 15 p fs w = false := rfl

/-- The HOST page is there on every part. -/
theorem State.blk_host (s : State) : s.blk pHost = some .host := by
  rw [State.blk, show inRange 0x138 8 pHost = false from rfl, Bool.and_false]
  rfl

/-- Every household's page is there on every part. -/
theorem State.blk_hh (s : State) (h : Fin 8) : s.blk (pHh h) = some .hh := by
  have hrange : ∀ h : Fin 8, inRange 0x138 8 (pHh h) = false ∧ blkOf (pHh h) = some .hh := by decide
  rw [State.blk, (hrange h).1, Bool.and_false]
  exact (hrange h).2

section Request

variable {s : State} {a : Acc} {w : Word}

/-- HOST.HH_RESET resets every household of the mask (R660). -/
theorem execHhReset_served (hs : s.serves a pHost 0x110 true = true) (ha : a.hh = 15) (hm : a.master ≠ .wicket) :
    exec (.hhReset a w) s = .next ((maskBits 8 w.toNat).foldl (fun t h => t.householdReset h false) (s.answer [0])) := by
  have hmgr : s.mgrDenied a.hh pHost (s.fieldsOf pHost 0x110) w.toNat = false := by
    rw [ha]
    exact State.mgrDenied_manager
  change Host.Outcome.next (s.pageWrite (.hhReset a w) a pHost 0x110 w.toNat) = _
  rw [pageWrite_served hs (by decide) (by decide) (by decide) w.isLt (.inl hm) hmgr rfl rfl, State.wordWrite,
    if_neg (by decide), State.blk_host]
  rfl

/-- HH_CTRL is denied to nobody who reaches it. -/
theorem hhCtrl_mgrDenied (s : State) (hh w : Nat) (h : Fin 8) :
    s.mgrDenied hh (pHh h) (s.fieldsOf (pHh h) 0x144) w = false := by
  have hfs : ∀ h : Fin 8, (regFields .hh (pHh h) 0x144).any Fld.mgr = false := by decide
  rw [State.fieldsOf, State.blk_hh]
  exact State.mgrDenied_of_none (hfs h)

/-- HH_CTRL resets its household with RESET and its key (R660). -/
theorem execHhCtrlReset_served {h : Fin 8} (hs : s.serves a (pHh h) 0x144 true = true) (hm : a.master ≠ .wicket) :
    exec (.hhCtrlReset a h w) s = .next (if bitAt w.toNat 0 = true ∧ bitsOf w.toNat 15 8 = 0x5A then
      (s.answer [0]).householdReset h false else s.answer [0]) := by
  have hpage : ∀ h : Fin 8, pHh h < 512 ∧ pHh h ≠ pTrig ∧ pHh h ≠ pStrobe ∧ timeOff (pHh h) 0x144 = none := by decide
  obtain ⟨hlt, htrig, hstrobe, htime⟩ := hpage h
  have hmine : s.notMine (pHh h) 0x144 = false := by
    rw [State.notMine, htime]
    split <;> rfl
  have hmask : s.maskDenied a.hh (pHh h) 0x144 w.toNat = false := by
    rw [State.maskDenied, beq_eq_false_iff_ne.mpr htrig, beq_eq_false_iff_ne.mpr hstrobe]
    rfl
  have hnum : pHh h - pHh 0 = h := Nat.add_sub_cancel_left _ _
  change Host.Outcome.next (s.pageWrite (.hhCtrlReset a h w) a (pHh h) 0x144 w.toNat) = _
  rw [pageWrite_served hs hlt (by decide) (by decide) w.isLt (.inl hm) (hhCtrl_mgrDenied s _ _ h) hmine hmask,
    State.wordWrite, if_neg (by decide), State.blk_hh]
  simp only [State.blockWrite, htime, hnum, if_true, Bool.and_eq_true, beq_iff_eq]
  rfl

/-- The end of a household's reset (R661). -/
theorem execHouseholdResetDone_running {h : Fin 8} (hrun : h.val ∈ s.hhReset) :
    exec (.householdResetDone h) s = .next ((({ s with
      hhReset := s.hhReset.filter (fun x => x != h.val)
      host := { s.host with flrs := s.host.flrs.filter (fun x => x != h.val) } } : State).raise (pHh h)
        HH.evRESET_DONE).raise pHost HOST.evRESET_DONE) :=
  if_pos (List.contains_iff_mem.mpr hrun)

end Request

/-- Settles O27: the three requests, the reset that they make, and its end. -/
theorem householdResetsComplete : Obligations.HouseholdResetsComplete := by
  refine ⟨?flr, fun s a w hs ha hm => execHhReset_served hs ha hm, ?ctrl, fun s h => execHouseholdResetDone_running,
    fun s h flr => ⟨State.householdReset_running, State.mem_hhReset_householdReset s h flr⟩⟩
  case flr =>
    intro s h hup hfunc
    exact congrArg Host.Outcome.next (if_pos (by rw [hup, hfunc, Bool.and_self]))
  case ctrl =>
    intro s a h w hs hm
    rw [execHhCtrlReset_served hs hm]
    refine ⟨fun hreset hkey => by rw [if_pos ⟨hreset, hkey⟩], fun hno => ?_⟩
    rw [if_neg fun ⟨hreset, hkey⟩ => hno.elim (fun h => Bool.noConfusion (h.symm.trans hreset)) (fun h => h hkey)]

end Sys2Proof.Machine

/-!
The host: memory and configuration requests, completion time-outs, message vectors; egress rings and mailboxes (R641, R642,
R644 to R647, R651 to R655, R664, R666, R667).
-/

namespace Sys2Proof.Machine

/-! ### Memory and configuration requests -/

section Memory

variable {s : State} {f : Fin 9} {two : Bool} {off : BitVec 26} {data : List Byte} {poisoned : Bool} {n : Fin 4097}

section Live

variable (hup : s.hostUp = true) (hlive : s.barLive f = true) (hoff : two = true → off.toNat < 2 ^ 24)

include hlive hoff

/-- A request of a function that answers, within its BAR, is not turned away (R641). -/
theorem bar_hit : ¬ ((!s.barLive f) = true ∨ two = true ∧ 2 ^ 24 ≤ off.toNat) := by
  rw [hlive]
  rintro (h | ⟨htwo, hle⟩)
  · cases h
  · exact absurd (hoff htwo) (Nat.not_lt.mpr hle)

include hup

theorem execHostMemWrite_live : exec (.hostMemWrite f two off data false) s =
    .next (s.barAccess (.hostMemWrite f two off data false) f two off.toNat data.length true data) := by
  change execHostMemWrite f two off data false s = _
  simp only [execHostMemWrite, hup, if_neg (bar_hit hlive hoff), Bool.not_true, Bool.false_eq_true, if_false]

/-- A poisoned write is noted and has no other effect (R666). -/
theorem execHostMemWrite_poisoned {t : State}
    (ht : (s.raiseBy pHost HOST.evPOISONED_RX (funcHh f)).bump pHost HOST.ERR_COUNTS_POISONED_RX = t) :
    exec (.hostMemWrite f two off data true) s = .next { t with host := { t.host with aerPoisoned := true } } := by
  subst ht
  change execHostMemWrite f two off data true s = _
  simp only [execHostMemWrite, hup, if_neg (bar_hit hlive hoff), Bool.not_true, Bool.false_eq_true, if_false, if_true]

theorem execHostMemRead_live : exec (.hostMemRead f two off n) s =
    .next (s.hostRead (.hostMemRead f two off n) f two off.toNat n) := by
  change execHostMemRead f two off n s = _
  simp only [execHostMemRead, hup, if_neg (bar_hit hlive hoff), Bool.not_true, Bool.false_eq_true, if_false]

end Live

variable (hup : s.hostUp = true)

include hup

section Unsupported

variable (hmiss : s.barLive f = false ∨ (two = true ∧ 2 ^ 24 ≤ off.toNat))

include hmiss

/-- A request of no function, or that hits no BAR, is unsupported (R666). -/
theorem execHostMemWrite_unsupported : exec (.hostMemWrite f two off data poisoned) s = .next (s.unsupported f true) := by
  have hout : (!s.barLive f) = true ∨ two = true ∧ 2 ^ 24 ≤ off.toNat := by rwa [Bool.not_eq_true']
  change execHostMemWrite f two off data poisoned s = _
  simp only [execHostMemWrite, hup, if_pos hout, Bool.not_true, Bool.false_eq_true, if_false]

theorem execHostMemRead_unsupported : exec (.hostMemRead f two off n) s = .next (s.unsupported f false) := by
  have hout : (!s.barLive f) = true ∨ two = true ∧ 2 ^ 24 ≤ off.toNat := by rwa [Bool.not_eq_true']
  change execHostMemRead f two off n s = _
  simp only [execHostMemRead, hup, if_pos hout, Bool.not_true, Bool.false_eq_true, if_false]

end Unsupported

/-- CRS until the first dawn has ended (R667). -/
theorem execHostConfigRequest_early {req : CfgReq} (hdawn : s.tb.dawned = false) :
    exec (.hostConfigRequest f req) s = .next { s with resp := some ⟨.crs, []⟩ } := by
  change execHostConfigRequest f req s = _
  simp only [execHostConfigRequest, hup, hdawn, Bool.not_true, Bool.not_false, Bool.false_eq_true, if_false, if_true]

/-- Then the function serves it, if it exists. -/
theorem execHostConfigRequest_late {req : CfgReq} (hdawn : s.tb.dawned = true) :
    exec (.hostConfigRequest f req) s =
      .next (if s.funcExists f = true then s.config f req else s.unsupported f false) := by
  rw [apply_ite Host.Outcome.next]
  change execHostConfigRequest f req s = _
  simp only [execHostConfigRequest, hup, hdawn, Bool.not_true, Bool.false_eq_true, if_false]

theorem execHostUnsupportedRequest_up (posted : Bool) :
    exec (.hostUnsupportedRequest posted) s = .next (s.unsupported 9 posted) :=
  congrArg Host.Outcome.next (if_pos hup)

theorem execHostMalformedTlp_up {t : State}
    (ht : (s.raise pHost HOST.evMALFORMED).bump pHost HOST.ERR_COUNTS_MALFORMED = t) :
    exec .hostMalformedTlp s = .next { t with host := { t.host with aerMalformed := true } } := by
  subst ht
  exact if_pos hup

end Memory

/-! ### Completion time-outs and message vectors -/

section Function

variable {s t : State} {f : Fin 9}

/-- The oldest held read whose time is over ends with zero data (R645). -/
theorem execHostCplTimeout_held {c : Instr} {rest : List Instr}
    (hold : takeFirst (fun c => isReadOf f c && decide (s.askedAt c + s.cplTime ≤ s.tb.beat)) s.held = some (c, rest))
    (ht : t = { s with held := rest, host := { s.host with late := s.host.late ++ [c] } }) :
    exec (.hostCplTimeout f) s = .next ((t.notAsked c).cplTimeout f) := by
  subst ht
  change execHostCplTimeout f s = _
  simp only [execHostCplTimeout, hold]

/-- With none, the slot of the oldest such read of another device is quarantined. -/
theorem execHostCplTimeout_remote {k : Nat} {ks : List Nat}
    (hnone : takeFirst (fun c => isReadOf f c && decide (s.askedAt c + s.cplTime ≤ s.tb.beat)) s.held = none)
    (hk : s.readSlots f = k :: ks)
    (ht : t = { s with noc := { s.noc with slots := s.noc.slots.map (fun e =>
      if e.1 = k then (e.1, { e.2 with quarantined := true }) else e) } }) :
    exec (.hostCplTimeout f) s = .next (t.cplTimeout f) := by
  subst ht
  change execHostCplTimeout f s = _
  simp only [execHostCplTimeout, hnone, hk]

end Function

/-- Settles O54: a lemma for each request, each time-out and each unmasking. -/
theorem hostRequestsComplete : Obligations.HostRequestsComplete := by
  refine ⟨fun s f two off hup => ⟨fun hlive hoff data => ⟨execHostMemWrite_live hup hlive hoff,
    fun t => execHostMemWrite_poisoned hup hlive hoff, fun n => execHostMemRead_live hup hlive hoff⟩,
    fun hmiss data poisoned n => ⟨execHostMemWrite_unsupported hup hmiss, execHostMemRead_unsupported hup hmiss⟩, ?config⟩,
    fun s hup => ⟨execHostUnsupportedRequest_up hup, fun t => execHostMalformedTlp_up hup⟩,
    fun s f => ⟨fun c rest t => execHostCplTimeout_held, fun k ks t => execHostCplTimeout_remote,
    fun hfunc => ⟨fun v => if_pos hfunc, if_pos hfunc, if_pos hfunc⟩⟩⟩
  case config =>
    intro req
    exact ⟨execHostConfigRequest_early hup,
      fun hdawn hfunc => by rw [execHostConfigRequest_late hup hdawn, if_pos hfunc],
      fun hdawn hfunc => by rw [execHostConfigRequest_late hup hdawn, if_neg (Bool.eq_false_iff.mp hfunc)]⟩

/-! ### Egress rings -/

section Ring

variable {s t : State} {a : Acc} {via : Option (Fin 8)} {k : Fin 64} {w : Word}

/-- RING_HEAD (R651). -/
theorem execRingHeadWrite_served (hs : s.serves a (ringPage via) (0x414 + 0x20 * k.val) true = true) {v m : Nat}
    (hv : bitsOf w.toNat 24 0 = v) (hm : 2 * s.ringSize k = m) :
    exec (.ringHeadWrite a via k w) s = .next (if v % 64 = 0 ∧ v < m ∧ (v + m - s.ringHead k % m) % m ≤ s.ringUsed k then
      (s.answer [0]).setFld pHost (HOST.RING_HEAD_HEAD.at k) v else (s.answer [0]).ringErr k a.hh) := by
  subst hv hm
  have hoff : 0x414 + 0x20 * k.val = 0x400 + 0x20 * k.val + 0x14 := by omega
  rw [hoff] at hs
  exact congrArg Host.Outcome.next (access_served hs)

/-- A ring that is off and whose base fits its size starts empty (R647, R664). -/
theorem State.ringCfgWrite_enables {pg k w : Nat} (hoff : s.on pHost (HOST.RING_CFG_EN.at k) = false)
    (hen : bitAt w 31 = true)
    (ht : (s.setFld pHost (HOST.RING_CFG_VEC.at k) (bitsOf w 29 24)).setFld pHost (HOST.RING_CFG_SIZE_CODE.at k)
      (min 12 (bitsOf w 3 0)) = t)
    (hbase : (t.alignBase k (t.fld pHost (HOST.RING_BASE_LO_BASE.at k) * 4096)).2 = false) (hsize : bitsOf w 3 0 ≤ 12) :
    s.ringCfgWrite pg k w = ((t.setFld pHost (HOST.RING_BASE_LO_BASE.at k)
      (t.alignBase k (t.fld pHost (HOST.RING_BASE_LO_BASE.at k) * 4096)).1).ringOff k).setFld pHost
      (HOST.RING_CFG_EN.at k) 1 := by
  simp only [State.ringCfgWrite, hoff, hen, ht, hbase, Nat.not_lt.mpr hsize, Bool.false_eq_true, or_self, if_false,
    if_true]

theorem execRingEnable_served (hs : s.serves a (ringPage via) (0x400 + 0x20 * k.val) true = true) :
    exec (.ringEnable a via k w) s = .next ((s.answer [0]).ringCfgWrite (ringPage via) k (setBit w.toNat 31)) :=
  congrArg Host.Outcome.next (access_served hs)

theorem execRingCoalTimeout_due {b : Nat} (hb : (s.ring k).unsig = some b)
    (hon : s.fld pHost (HOST.RING_IRQ_COAL_ST.at k) ≠ 0)
    (hdue : b + s.fld pHost (HOST.RING_IRQ_COAL_ST.at k) * 1024 ≤ s.tb.beat) :
    exec (.ringCoalTimeout k) s = .next (s.ringSignal k) := by
  change execRingCoalTimeout k s = _
  simp only [execRingCoalTimeout, hb, if_pos (And.intro hon hdue)]

end Ring

/-! ### Mailboxes -/

section Mailbox

variable {s : State} {h : Fin 8} {m : Fin 16}

section Fill

variable (hen : s.on (pHh h) (HH.MB_CFG_EN.at m) = true) (hempty : (s.mb h m).st = 0) (herr : (s.mb h m).err = false)
  (hfree : (s.mb h m).freeAt ≤ s.tb.beat)

include hen hempty herr hfree

/-- An enabled EMPTY mailbox that is free may fill (R653). -/
theorem mailbox_mayFill : ¬ ((!s.on (pHh h) (HH.MB_CFG_EN.at m) || (s.mb h m).st != 0 || (s.mb h m).err ||
    decide (s.tb.beat < (s.mb h m).freeAt)) = true) := by
  simp [hen, hempty, herr, hfree]

/-- While its queue is another's or bound it holds (Table 17.12). -/
theorem execMailboxFill_holds (hq : s.qOwner (s.mbQueue h m) ≠ h.val ∨ s.boundTo (s.mbQueue h m) ≠ []) :
    exec (.mailboxFill h m) s = .next ((s.setMb h m { s.mb h m with err := true }).raiseBy (pHh h) HH.evMB_ERR h) := by
  have hout : s.qOwner (s.mbQueue h m) ≠ h.val ∨ (s.boundTo (s.mbQueue h m)).isEmpty = false := by
    rwa [List.isEmpty_eq_false_iff]
  change execMailboxFill h m s = _
  simp only [execMailboxFill, if_neg (mailbox_mayFill hen hempty herr hfree), if_pos hout]

/-- Else it takes the next item whole (R653). -/
theorem execMailboxFill_pops {i : QItem} {off : Nat} {t : State} {data ws : List Nat}
    (howner : s.qOwner (s.mbQueue h m) = h.val) (hbound : s.boundTo (s.mbQueue h m) = [])
    (hcur : s.qCur (s.mbQueue h m) = some (i, off))
    (ht : s.popStreamFor (s.mbQueue h m) (i.words.length - off + 2) (s.mbQueue h m) h = t)
    (hdata : t.resp.elim [] Resp.data = data) (hws : (data.drop 2).take (i.words.length - off) = ws) :
    exec (.mailboxFill h m) s = .next { t.setMb h m { s.mb h m with
      words := ws.take 511, st := 1, poison := nth 0 data 1 != 0, trunc := decide (511 < ws.length)
      len := ws.length, itemSeq := i.seq } with resp := s.resp } := by
  subst hws hdata
  have hin : ¬ (s.qOwner (s.mbQueue h m) ≠ h.val ∨ (s.boundTo (s.mbQueue h m)).isEmpty = false) := by
    simp [howner, hbound]
  change execMailboxFill h m s = _
  simp only [execMailboxFill, if_neg (mailbox_mayFill hen hempty herr hfree), if_neg hin, hcur, ht]
  cases t.resp <;> rfl

end Fill

/-- A FILLING mailbox whose last word is written becomes READY and signals its vector (R653). -/
theorem State.mbReady_filling {t u : State} (hst : (s.mb h m).st = 1)
    (ht : s.setMb h m { s.mb h m with st := 2, seq := ((s.mb h m).seq + 1) % 65536, consumed := false } = t)
    (hu : (s.mb h m).trunc = true ∧ u = t.raise (pHh h) HH.evMB_TRUNC ∨ (s.mb h m).trunc = false ∧ u = t) :
    s.mbReady h m = u.signal (h.val + 1) (s.fld (pHh h) (HH.MB_CFG_VEC.at m)) := by
  have htrunc : (if (s.mb h m).trunc = true then t.raise (pHh h) HH.evMB_TRUNC else t) = u := by
    obtain ⟨hcut, rfl⟩ | ⟨hwhole, rfl⟩ := hu
    · exact if_pos hcut
    · exact if_neg (Bool.eq_false_iff.mp hwhole)
  simp only [State.mbReady, hst, if_true, ht, htrunc]

/-- A read of a mailbox by its household or the manager (R154, R655). -/
theorem State.mbRead_served {i : Instr} {a : Acc} {consume : Bool} {off bytes : Nat} (hpor : s.por = false)
    (hdawn : s.tb.dawn = 0) (hmaster : a.master ≠ .fabric) (hreset : s.hhReset.contains a.hh.val = false)
    (hwho : a.hh.val = 15 ∨ a.hh.val = h.val) :
    s.mbRead i a h m consume off bytes = if (consume && off == 0 && decide (8 ≤ bytes)) = true then
      (s.answer ((s.mb h m).read off bytes)).mbConsume h m else s.answer ((s.mb h m).read off bytes) := by
  have hmine : ¬ (a.hh.val ≠ 15 ∧ a.hh.val ≠ h.val) := by omega
  simp only [State.mbRead, hpor, hdawn, hmaster, hreset, hmine, Bool.false_eq_true, ne_eq, not_true_eq_false, if_false]

end Mailbox

/-- Settles O55: rings by their registers, mailboxes by what fills and reads them. -/
theorem ringsAndMailboxesComplete : Obligations.RingsAndMailboxesComplete := by
  refine ⟨fun s a via k w => ⟨?head, ?enable, fun b => execRingCoalTimeout_due⟩, fun s h m => ⟨?fill, ?ready, ?read⟩⟩
  case head =>
    intro hs v m hv hm
    rw [execRingHeadWrite_served hs hv hm]
    exact ⟨fun hin => by rw [if_pos hin], fun hout => by rw [if_neg hout]⟩
  case enable =>
    intro hs hoff t ht hbase hsize
    rw [execRingEnable_served hs,
      State.ringCfgWrite_enables (s := s.answer [0]) hoff (bitAt_setBit _ _) ht hbase hsize]
  case fill =>
    intro hen hempty herr hfree
    exact ⟨execMailboxFill_holds hen hempty herr hfree,
      fun i off t data ws => execMailboxFill_pops hen hempty herr hfree⟩
  case ready =>
    intro t u hfirst hst ht hu
    exact congrArg Host.Outcome.next ((after_none hfirst).trans (State.mbReady_filling hst ht hu))
  case read =>
    intro a off bytes hpor hdawn hmaster hreset hwho
    have hread {i : Instr} {consume : Bool} :=
      State.mbRead_served (i := i) (consume := consume) (m := m) (off := off) (bytes := bytes) hpor hdawn hmaster hreset hwho
    refine ⟨fun hoff hlen => ?consume, ?peek, fun hpart => ?part⟩
    case consume =>
      exact congrArg Host.Outcome.next (hread.trans (if_pos (by simp [hoff, hlen])))
    case peek =>
      exact congrArg Host.Outcome.next (hread.trans (if_neg (by simp)))
    case part =>
      have hnot : ¬ ((true && off.val == 0 && decide (8 ≤ bytes.val)) = true) := by
        simp only [Bool.true_and, Bool.and_eq_true, beq_iff_eq, decide_eq_true_eq]
        omega
      exact (if_neg hnot).trans (congrArg Host.Outcome.next (hread.trans (if_neg hnot)))

end Sys2Proof.Machine

/-!
Fault reporting: NOTIFYs of the pages, the FAULT unit, summaries at the endpoint and FAULT_N (R646, R702, R704, R706, R707,
R715, R716, R718, R719).
-/

namespace Sys2Proof.Machine

/-! ### What pages and the FAULT unit send -/

section Send

variable {s t : State}

/-- A populated page whose state differs from what it told last (R702). -/
theorem execNotifySend_changed {p : Fin 512} (hblk : (s.blk p).isSome = true)
    (hnew : (if s.pageAny p then s.attribution p + 1 else 0) ≠ Tab.get 0 s.flt.told p) :
    exec (.notifySend p) s = .next (s.notifyPage p) := by
  change execNotifySend p s = _
  simp only [execNotifySend, hblk, Bool.true_and, if_pos (bne_iff_ne.mpr hnew)]

/-- Every populated page, once at each multiple of 65,536 (R702). -/
theorem execNotifyPeriodic_onTick (htick : s.onTick 65536 = true) (hper : s.flt.perAt ≠ s.tb.beat + 1)
    (ht : ((List.range 512).filter (fun p => (s.blk p).isSome)).foldl (fun (t : State) p => t.notifyPage p) s = t) :
    exec .notifyPeriodic s = .next { t with flt := { t.flt with perAt := s.tb.beat + 1 } } := by
  subst ht
  exact if_pos (by rw [htick, bne_iff_ne.mpr hper]; rfl)

/-- The summary NOTIFY, once at each multiple of 65,536 (R718). -/
theorem execSummaryNotifyPeriodic_onTick (htick : s.onTick 65536 = true) (hsum : s.flt.sumAt ≠ s.tb.beat + 1)
    (ht : s.sendSummary = t) :
    exec .summaryNotifyPeriodic s = .next { t with flt := { t.flt with sumAt := s.tb.beat + 1 } } := by
  subst ht
  exact if_pos (by rw [htick, bne_iff_ne.mpr hsum]; rfl)

end Send

/-! ### The receipt of a NOTIFY -/

section Receive

variable {s t : State} {n : Notify} {rest : List Notify} (hfirst : s.stands clearsFirst = false)
  (hin : s.flt.inbox = n :: rest) (hat : n.at_ + 2 ≤ s.tb.beat) (ht : t = { s with flt := { s.flt with inbox := rest } })

include hfirst hin hat ht

/-- The first NOTIFY of the inbox leaves it; only a page that is populated and served at its source node has one that counts
(R704, R715, R718). -/
theorem execNotifyReceive_first : exec .notifyReceive s = .next
    (if ((s.blk (bitsOf n.arg 8 0)).isSome && pageNode s (bitsOf n.arg 8 0) == n.src) = true then
      if n.poison = true then (t.applyNotify n.arg).raise pFault FAULT.evNOTIFY_BAD else t.applyNotify n.arg
    else t.raise pFault FAULT.evNOTIFY_BAD) := by
  subst ht
  refine congrArg Host.Outcome.next ((after_none hfirst).trans ?_)
  simp only [State.notifyIn, hin, if_neg (Nat.not_lt.mpr hat)]
  rfl

theorem execNotifyReceive_good (hblk : (s.blk (bitsOf n.arg 8 0)).isSome = true)
    (hsrc : pageNode s (bitsOf n.arg 8 0) = n.src) :
    exec .notifyReceive s = .next (if n.poison = true then (t.applyNotify n.arg).raise pFault FAULT.evNOTIFY_BAD
      else t.applyNotify n.arg) := by
  rw [execNotifyReceive_first hfirst hin hat ht, if_pos (by rw [hblk, hsrc, beq_self_eq_true]; rfl)]

theorem execNotifyReceive_bad
    (hbad : (s.blk (bitsOf n.arg 8 0)).isSome = false ∨ pageNode s (bitsOf n.arg 8 0) ≠ n.src) :
    exec .notifyReceive s = .next (t.raise pFault FAULT.evNOTIFY_BAD) := by
  have hnot : ¬ ((s.blk (bitsOf n.arg 8 0)).isSome && pageNode s (bitsOf n.arg 8 0) == n.src) = true := by
    rw [Bool.and_eq_true, beq_iff_eq, not_and_or, Bool.not_eq_true]
    exact hbad
  rw [execNotifyReceive_first hfirst hin hat ht, if_neg hnot]

end Receive

section Endpoint

variable {s t u : State}

/-- The endpoint takes a summary; what rises signals its function's vector (R646, R707). -/
theorem execSummaryNotifyReceive_first {n : Notify} {rest : List Notify} (hin : s.flt.epInbox = n :: rest)
    (ht : t = { s with flt := { s.flt with epInbox := rest, epMgr := bitAt n.arg 9, epHh := bitsOf n.arg 31 24 } })
    (hu : bitAt n.arg 9 = true ∧ s.flt.epMgr = false ∧ u = t.signal 0 (s.fld pHost HOST.PF_EVT_VEC_VEC) ∨
      (bitAt n.arg 9 = false ∨ s.flt.epMgr = true) ∧ u = t) :
    exec .summaryNotifyReceive s = .next ((maskBits 8 (clrMask (bitsOf n.arg 31 24) s.flt.epHh)).foldl
      (fun v k => v.signal (k + 1) (v.fld (pHh k) HH.EVT_VEC_VEC)) u) := by
  have hmgr : (if (bitAt n.arg 9 && !s.flt.epMgr) = true then t.signal 0 (t.fld pHost HOST.PF_EVT_VEC_VEC) else t) = u := by
    obtain ⟨hm, hwas, rfl⟩ | ⟨hsame, rfl⟩ := hu
    · subst ht
      exact if_pos (by rw [hm, hwas]; rfl)
    · exact if_neg (by rintro h; rw [Bool.and_eq_true, Bool.not_eq_true'] at h; simp [h] at hsame)
  subst ht
  change execSummaryNotifyReceive s = _
  simp only [execSummaryNotifyReceive, hin, hmgr]

/-! ### FAULT_N -/

/-- The ball takes a level once its time has come (R706, R719). -/
theorem execFaultNUpdate_due {b : Nat} {low : Bool} {rest : List (Nat × Bool)} (hline : s.flt.line = (b, low) :: rest)
    (hdawn : s.tb.dawned = true) (hdue : b ≤ s.tb.beat) (ht : t = { s with flt := { s.flt with line := rest } })
    (hu : t.setFld pFault FAULT.SUMMARY_FAULTN (b2n low) = u) :
    exec .faultNUpdate s = .next (if (low && !s.on pFault FAULT.SUMMARY_FAULTN) = true then u.raise pFault FAULT.evFAULTN_ON
      else u) := by
  subst ht hu
  change execFaultNUpdate s = _
  simp only [execFaultNUpdate, hline, hdawn, Nat.not_lt.mpr hdue, Bool.not_true, Bool.false_eq_true, or_self, if_false]

end Endpoint

/-- Settles O58: a lemma for what is sent, for each receipt, and for the ball. -/
theorem faultReportingCompletes : Obligations.FaultReportingCompletes := by
  refine ⟨fun s p => execNotifySend_changed, fun s => ⟨fun htick => ⟨fun t => execNotifyPeriodic_onTick htick,
    fun t => execSummaryNotifyPeriodic_onTick htick⟩, ?receive, fun n rest t u => execSummaryNotifyReceive_first, ?ball⟩,
    fun s a w hs ha => congrArg Host.Outcome.next (mgr_served hs ha)⟩
  case receive =>
    intro n rest t hfirst hin hat ht
    refine ⟨fun hblk hsrc => ?_, execNotifyReceive_bad hfirst hin hat ht⟩
    rw [execNotifyReceive_good hfirst hin hat ht hblk hsrc]
    exact ⟨fun hgood => by rw [if_neg (Bool.eq_false_iff.mp hgood)], fun hpoison => by rw [if_pos hpoison]⟩
  case ball =>
    intro b low rest t u hline hdawn hdue ht hu
    rw [execFaultNUpdate_due hline hdawn hdue ht hu]
    refine ⟨fun hlow hoff => by rw [hlow, hoff]; rfl, fun hsame => ?_⟩
    rw [if_neg]
    rw [Bool.and_eq_true, Bool.not_eq_true']
    rintro ⟨hlow, hoff⟩
    simp [hlow, hoff] at hsame

end Sys2Proof.Machine

/-!
The Wicket line: requests, sessions, keys and lockout (R675 to R683, R698).
-/

namespace Sys2Proof.Machine

/-! ### Requests on the line -/

section Line

variable {s t : State} (hlive : s.wkAlive = true)

include hlive

/-- A port that answers does what the request asks (R675). -/
theorem State.wk_alive (k : State → State) : s.wk k = k s := if_pos hlive

theorem execWicketBusyLimit_busy (hbusy : s.dbg.busy = true) (ht : t = { s with dbg := { s.dbg with busy := false } }) :
    exec .wicketBusyLimit s = .next (t.wkReply 2 []) := by
  subst ht
  exact congrArg Host.Outcome.next ((State.wk_alive hlive _).trans (if_pos hbusy))

/-- Outside lockout a CHALLENGE gives a fresh nonce (R679). -/
theorem execWicketChallenge_open (hopen : s.on pDebug DEBUG.SESSION_LOCKOUT = false)
    (ht : t = { s.drew with dbg := { s.dbg with nonce := some (s.freeVal 256), nonceAt := s.tb.beat } }) :
    exec .wicketChallenge s =
      .next (t.wkReply 1 ((List.range 4).map (fun i => s.freeVal 256 / 2 ^ (64 * i) % 2 ^ 64))) := by
  subst ht
  exact congrArg Host.Outcome.next ((State.wk_alive hlive _).trans (if_neg (Bool.eq_false_iff.mp hopen)))

/-- Outside lockout an AUTH starts a check, which spends the nonce (R680). -/
theorem execWicketAuth_open (hopen : s.on pDebug DEBUG.SESSION_LOCKOUT = false) (arg : Fin 16) (mac : BitVec 256) :
    exec (.wicketAuth arg mac) s = .next { s with dbg := { s.dbg with
      check := some ⟨arg, leBytes 32 mac.toNat, s.freshNonce, false⟩, checkAt := s.tb.beat + 400, nonce := none } } :=
  congrArg Host.Outcome.next ((State.wk_alive hlive _).trans (if_neg (Bool.eq_false_iff.mp hopen)))

/-- In lockout both are refused (R681). -/
theorem execWicket_locked (hlock : s.on pDebug DEBUG.SESSION_LOCKOUT = true) (arg : Fin 16) (mac : BitVec 256) :
    exec .wicketChallenge s = .next (s.wkFault 5) ∧ exec (.wicketAuth arg mac) s = .next (s.wkFault 5) :=
  ⟨congrArg Host.Outcome.next ((State.wk_alive hlive _).trans (if_pos hlock)),
    congrArg Host.Outcome.next ((State.wk_alive hlive _).trans (if_pos hlock))⟩

end Line

section Access

variable {s : State} {h : Nat} {data : List Nat} {write : Bool}

/-- Without a session no access is made (Table 18.4). -/
theorem State.wkAccess_noSession (hauth : s.on pDebug DEBUG.SESSION_AUTH = false) : s.wkAccess h data write = s.wkFault 3 :=
  if_pos (by rw [hauth]; rfl)

/-- With none of the refusals of Table 18.4, and no access pending, it is issued (R676). -/
theorem State.wkAccess_issues (hauth : s.on pDebug DEBUG.SESSION_AUTH = true) (hright : s.wkRight (b2n write) = true)
    (hself : s.namesSelf (wkFab h) (wkAddr h) = true ∨ s.wkRight 3 = true) (haddr : wkBadAddr h = false)
    (hnone : s.wkPending = none) (hwin : s.wkWindow h = false) : s.wkAccess h data write = s.wkIssue h data write := by
  have hallowed : ¬ (!s.wkRight (b2n write) || (!s.namesSelf (wkFab h) (wkAddr h) && !s.wkRight 3)) = true := by
    simp only [hright, Bool.not_true, Bool.false_or, Bool.and_eq_true, Bool.not_eq_true', not_and_or, Bool.not_eq_false]
    exact hself
  simp only [State.wkAccess, hauth, if_neg hallowed, haddr, hnone, hwin, Bool.not_true, Bool.false_eq_true, if_false]

end Access

theorem execWicketAccessComplete_next {s : State} {k : Nat}
    (hk : s.mxNext (fun r => r.acc.master == .wicket && r.hdr.isNone) = some k) :
    exec .wicketAccessComplete s = .next (s.mxComplete State.hhRequest .wicketAccessComplete k) := by
  change execWicketAccessComplete s = _
  simp only [execWicketAccessComplete, hk]

/-! ### The check of an AUTH -/

section Check

variable {s t u : State} {c : AuthCheck} (hcheck : s.dbg.check = some c) (hdue : s.dbg.checkAt ≤ s.tb.beat)
  (ht : t = { s with dbg := { s.dbg with check := none } })

include hcheck hdue ht

/-- A check that succeeds opens a session (R680). -/
theorem execAuthCheckDone_succeeds (hok : s.authOk c = true)
    (hu : ((t.setFld pDebug DEBUG.SESSION_AUTH 1).setFld pDebug DEBUG.SESSION_ID c.ident).raise pDebug DEBUG.evAUTH_OK = u) :
    exec .authCheckDone s = .next (({ u with dbg := { u.dbg with fails := 0 } } : State).wkReply 1 []) := by
  subst ht hu
  change execAuthCheckDone s = _
  simp only [execAuthCheckDone, if_neg (Nat.not_lt.mpr hdue), hcheck, hok, if_true]

/-- A check that fails counts, and the third in a row locks out (R681). -/
theorem execAuthCheckDone_fails {n : Nat} {v x : State} (hbad : s.authOk c = false) (hn : n = min 3 (s.dbg.fails + 1))
    (hu : (t.bump pDebug DEBUG.AUTH_FAILS_COUNT).raise pDebug DEBUG.evAUTH_FAIL = u)
    (hv : ({ u with dbg := { u.dbg with fails := n } } : State).wkFault 6 = v)
    (hx : x = { v with dbg := { v.dbg with lockAt := v.tb.beat + 2 ^ 30 } }) :
    exec .authCheckDone s = .next (if n = 3 then
      (x.setFld pDebug DEBUG.SESSION_LOCKOUT 1).raise pDebug DEBUG.evAUTH_LOCKOUT else v) := by
  subst ht hn hu hv hx
  change execAuthCheckDone s = _
  simp only [execAuthCheckDone, if_neg (Nat.not_lt.mpr hdue), hcheck, hbad, Bool.false_eq_true, if_false]

end Check

/-- Settles O56: a lemma for each request of the line, and for what ends a check. -/
theorem wicketLineCompletes : Obligations.WicketLineCompletes := by
  refine ⟨?line, fun s k => execWicketAccessComplete_next, ?ends, ?check, ?regs⟩
  case line =>
    intro s hlive
    have hwk {k : State → State} : Host.Outcome.next (s.wk k) = (.next (k s) : Out) :=
      congrArg Host.Outcome.next (State.wk_alive hlive k)
    refine ⟨hwk, hwk, hwk, hwk, hwk, hwk, hwk, fun t => execWicketBusyLimit_busy hlive,
      fun hopen => ⟨fun t => execWicketChallenge_open hlive hopen, execWicketAuth_open hlive hopen⟩,
      execWicket_locked hlive, fun hdr data => ⟨fun hauth => ?_, fun hauth hself haddr hnone hwin => ?_⟩⟩
    · exact ⟨hwk.trans (congrArg Host.Outcome.next (State.wkAccess_noSession hauth)),
        hwk.trans (congrArg Host.Outcome.next (State.wkAccess_noSession hauth))⟩
    · exact ⟨fun hread => hwk.trans (congrArg Host.Outcome.next
          (State.wkAccess_issues hauth hread hself haddr hnone hwin)),
        fun hwrite => hwk.trans (congrArg Host.Outcome.next
          (State.wkAccess_issues hauth hwrite hself haddr hnone hwin))⟩
  case ends =>
    exact fun s => ⟨rfl, fun hdue => congrArg Host.Outcome.next (if_neg (Nat.not_lt.mpr hdue)),
      fun hoff => congrArg Host.Outcome.next (if_neg (Bool.eq_false_iff.mp hoff))⟩
  case check =>
    intro s c t u hcheck hdue ht
    refine ⟨execAuthCheckDone_succeeds hcheck hdue ht, fun n v hbad hn hu hv => ?_⟩
    exact ⟨fun hthird x hx => (execAuthCheckDone_fails hcheck hdue ht hbad hn hu hv hx).trans
        (congrArg Host.Outcome.next (if_pos hthird)),
      fun hfew => (execAuthCheckDone_fails hcheck hdue ht hbad hn hu hv rfl).trans
        (congrArg Host.Outcome.next (if_neg hfew))⟩
  case regs =>
    exact fun s a ha => ⟨fun hs => congrArg Host.Outcome.next (mgr_served hs ha),
      fun k i w hs => congrArg Host.Outcome.next (mgr_served hs ha)⟩

end Sys2Proof.Machine

/-!
Halt, resume and step of a run, leaf contexts, and the boundary-scan instructions (R686 to R696).
-/

namespace Sys2Proof.Machine

/-! ### The bits of a word after one is set -/

theorem bitAt_setBit_ne {v i j : Nat} (h : i ≠ j) : bitAt (setBit v i) j = bitAt v j := by
  rw [bitAt_eq_testBit, bitAt_eq_testBit, setBit, Nat.testBit_or, Nat.one_shiftLeft, Nat.testBit_two_pow_of_ne h,
    Bool.or_false]

/-- Setting a bit above a field leaves the field as it is. -/
theorem bitsOf_setBit_above {v i hi : Nat} (h : hi < i) : bitsOf (setBit v i) hi 0 = bitsOf v hi 0 := by
  have hlow : 2 ^ i % 2 ^ (hi + 1) = 0 := Nat.mod_eq_zero_of_dvd (pow_dvd_pow 2 h)
  simp only [bitsOf, setBit, Nat.shiftRight_zero, Nat.sub_zero, Nat.one_shiftLeft, Nat.or_mod_two_pow, hlow, Nat.or_zero]

/-! ### RUN_CTRL -/

section Ctrl

variable {s t : State} {h : Fin 8} {w : Nat}

/-- HALT goes before all (Table 18.8). -/
theorem State.runCtrlWrite_halt (ht : s.setFld pDebug (DEBUG.RUN_CTRL_STEP_N.at h) (max 1 (bitsOf w 15 0)) = t) :
    s.runCtrlWrite h (setBit w 31) = t.haltReq h := by
  rw [State.runCtrlWrite, bitsOf_setBit_above (by decide), ht, if_pos (bitAt_setBit w 31)]

theorem State.runCtrlWrite_resume (ht : s.setFld pDebug (DEBUG.RUN_CTRL_STEP_N.at h) (max 1 (bitsOf w 15 0)) = t)
    (hhalt : bitAt w 31 = false) : s.runCtrlWrite h (setBit w 30) = t.resumeRun h := by
  rw [State.runCtrlWrite, bitsOf_setBit_above (by decide), ht, bitAt_setBit_ne (by decide),
    if_neg (Bool.eq_false_iff.mp hhalt), if_pos (bitAt_setBit w 30)]

theorem State.runCtrlWrite_step (ht : s.setFld pDebug (DEBUG.RUN_CTRL_STEP_N.at h) (max 1 (bitsOf w 15 0)) = t)
    (hhalt : bitAt w 31 = false) (hresume : bitAt w 30 = false) : s.runCtrlWrite h (setBit w 29) = t.stepRun h := by
  rw [State.runCtrlWrite, bitsOf_setBit_above (by decide), ht, bitAt_setBit_ne (by decide),
    if_neg (Bool.eq_false_iff.mp hhalt), bitAt_setBit_ne (by decide), if_neg (Bool.eq_false_iff.mp hresume),
    if_pos (bitAt_setBit w 29)]

end Ctrl

/-! ### The end of a halt and of a step -/

section Run

variable {s t u : State} {h : Fin 8} {r : RunSt}

/-- The last tile has stopped (R686, R690). -/
theorem execRunHalted_last {cause tile : Nat} (hr : s.runOf h = some r) (hreq : r.haltReq = some (cause, tile))
    (hrun : s.runHalted h = false) (hfaults : r.faults = [])
    (ht : r.tiles.foldl (fun t n => if (t.tl n).ctxs.isEmpty then t else t.tileState n 4) s = t)
    (hu : (((t.setRun h { r with haltReq := none }).haltCause h cause tile).setFld pDebug
      (DEBUG.RUN_STATUS_HALTED.at h) 1).setPair pDebug (DEBUG.HALT_SID_LO_T.at h) (DEBUG.HALT_SID_HI_T.at h) s.tb.count = u) :
    exec (.runHalted h) s =
      .next (((u.bump pDebug (DEBUG.HALT_COUNT_N.at h)).setRunFlag h 13).raiseBy pDebug DEBUG.evHALTED h) := by
  subst ht hu
  change execRunHalted h s = _
  simp only [execRunHalted, hr, hreq, hrun, hfaults, Bool.false_eq_true, ne_eq, not_true_eq_false, or_self, if_false]

/-- Every tile has finished its step (R687). -/
theorem execRunStepDone_all (hr : s.runOf h = some r) (hstep : s.on pDebug (DEBUG.RUN_STATUS_STEPPING.at h) = true)
    (htiles : r.tiles.all s.stepped = true) (hfaults : r.faults = []) :
    exec (.runStepDone h) s = .next (((((r.tiles.foldl (fun t n => t.setTl n { t.tl n with halted := true, steps := 0 })
      s).setRun h { r with haltReq := none }).haltCause h (r.haltReq.getD (4, 64)).1 (r.haltReq.getD (4, 64)).2)).setFld pDebug
      (DEBUG.RUN_STATUS_STEPPING.at h) 0) := by
  change execRunStepDone h s = _
  simp only [execRunStepDone, hr, hstep, htiles, hfaults, List.isEmpty_nil, Bool.and_self, if_true]

end Run

/-- Settles O57: RUN_CTRL by its bits, then the ends of halts and steps; the context accesses are served, and the TAP's
instructions are their own definition. -/
theorem runControlCompletes : Obligations.RunControlCompletes := by
  refine ⟨?ctrl, fun s h r cause tile t u => execRunHalted_last, fun s h r => execRunStepDone_all, ?ctx,
    fun s => ⟨rfl, rfl, rfl, rfl, rfl, rfl, rfl⟩⟩
  case ctrl =>
    intro s a h w t hs ht
    have hserve {i : Instr} {k : State → State} : s.blockAccess i a h 0 true k = k (s.answer [0]) := access_served hs
    exact ⟨congrArg Host.Outcome.next (hserve.trans (State.runCtrlWrite_halt ht)),
      fun hhalt => congrArg Host.Outcome.next (hserve.trans (State.runCtrlWrite_resume ht hhalt)),
      fun hhalt hresume => congrArg Host.Outcome.next (hserve.trans (State.runCtrlWrite_step ht hhalt hresume))⟩
  case ctx =>
    intro s a h hi w
    refine ⟨fun t u n hs ht hread => ?_, fun hs => congrArg Host.Outcome.next (access_served hs)⟩
    subst ht
    exact congrArg Host.Outcome.next ((access_served hs).trans (by simp [hread]))

end Sys2Proof.Machine

/-!
Every command answers a next state, and so does every step (opcode_table.json, Chapter 5).
-/

namespace Sys2Proof.Machine

/-! ### What answers -/

/-- An outcome is a next state: neither a fault nor a refusal. -/
def Answers (o : Out) : Prop := ∃ t, o = .next t

theorem Answers.next {t : State} : Answers (.next t) := ⟨t, rfl⟩

theorem Answers.ite {c : Prop} [Decidable c] {a b : Out} (ha : Answers a) (hb : Answers b) :
    Answers (if c then a else b) := by
  split
  · exact ha
  · exact hb

/-! ### Every command, every step -/

/-- Each command answers in each branch of its definition. The commands stand by the shape of their branches: first those
that only test, then those that look at an optional value or a list, and last those that go straight to a next state. -/
theorem exec_answers (i : Instr) (s : State) : Answers (exec i s) := by
  cases i with
  | powerStageSupplyCross rail mv =>
    cases rail with
    | vgd => exact .next
    | vstb => exact .next
    | vm => exact .next
  | egressDecision | mirrorRefresh | protectionLimitWrite | loopOutputWrite | mailboxPeekRead | porAssert
  | porRelease | dawnPrime | dawnRelease | almLock | pageSrstDone | axisOpenWire | ephemFit | strobeDutyCut
  | laneSyncLoss | whbBadOp | motorAlignDone | motorRestart | cbcTrip | pwmCommandEdge | gateStuckTimeout
  | gateNoriseTimeout | didtFire | cstHalfStepEnd | ouvCstDone | directTestEnd | vcStall | spillWrite
  | wheelLevel1Move | moduleReady | pcsLocked | helloSend | linkDownWaitEnd | linkIdleTimeout | frameBadCrc
  | transportReceive | itemFrameReceive | segmentFrameReceive | announceSend | joinExpire | i2cDone | syncSend
  | syncReceive | delayReqReceive | delayRespReceive | steerStep | syntoniseDone | weightsWriteDetect
  | hostMalformedTlp | msixUnmask | householdResetDone | hostLinkUp | notifySend | notifyPeriodic
  | summaryNotifyPeriodic | dramTrainingDone => exact .ite .next .next
  | packetInject | sealSwitchHigh | hostMemRead | ephemSample | trigPulseEnd | motorCalDone | motorDetectDone
  | interlockRelease | diagStepEnd | creditReturn | linkLos | pcsLockLost | linkUpdateReceive | rootHoldExpire
  | treeStable => exact .ite .next (.ite .next .next)
  | spillWmUpdate | hostMemWrite | refFallback | csiFrameShortPacket | slewTransition | hostConfigRequest =>
    exact .ite .next (.ite .next (.ite .next .next))
  | slotLoadDone => exact .ite .next (.ite .next (.ite .next (.ite .next (.ite .next .next))))
  | motorUpdate =>
    exact .ite .next (.ite .next (.ite .next (.ite .next (.ite .next (.ite .next (.ite .next .next))))))
  | helloReceive =>
    exact .ite .next (.ite .next (.ite (.ite .next .next) (.ite .next (.ite .next (.ite .next .next)))))
  | itemTimeout | pwmLinkLoss | remoteFail | takeRetry | ringCoalTimeout | wicketAccessComplete
  | summaryNotifyReceive =>
    dsimp only [exec, execItemTimeout, execPwmLinkLoss, execRemoteFail, execTakeRetry, execRingCoalTimeout,
      execWicketAccessComplete, execSummaryNotifyReceive]
    split
    · exact .next
    · exact .next
  | lateRsp | agePromote | targetTimeout | segmentExpire | recordSigned | hallTransition | runFirstIssue | slotWake
  | replayTimeout | mapAckTimeout | authCheckDone | runStepDone | faultNUpdate =>
    dsimp only [exec, execLateRsp, execAgePromote, execTargetTimeout, execSegmentExpire, execRecordSigned,
      execHallTransition, execRunFirstIssue, execSlotWake, execReplayTimeout, execMapAckTimeout, execAuthCheckDone,
      execRunStepDone, execFaultNUpdate]
    split
    · exact .next
    · exact .ite .next .next
  | counterLoadApply | warmTakeEffect | handoverTimeout | softOffHoldEnd | popItemObtained | redTimeout | nakResend =>
    dsimp only [exec, execCounterLoadApply, execWarmTakeEffect, execHandoverTimeout, execSoftOffHoldEnd,
      execPopItemObtained, execRedTimeout, execNakResend]
    split
    · exact .ite .next .next
    · exact .next
  | dawnDrainCheck | facetIndexEdge | spillWriteDone | spillReadDone =>
    dsimp only [exec, execDawnDrainCheck, execFacetIndexEdge, execSpillWriteDone, execSpillReadDone]
    refine .ite .next ?_
    split
    · exact .next
    · exact .next
  | whbRetryTimeout =>
    dsimp only [exec, execWhbRetryTimeout]
    split
    · exact .next
    · exact .ite .next (.ite .next .next)
  | pwmPeriodStart =>
    dsimp only [exec, execPwmPeriodStart]
    split
    · exact .ite .next (.ite .next .next)
    · exact .next
  | breakpointHit | hostCplTimeout =>
    dsimp only [exec, execBreakpointHit, execHostCplTimeout]
    split
    · exact .next
    · split
      · exact .next
      · exact .next
  | dawnMeasureEnd =>
    dsimp only [exec, execDawnMeasureEnd]
    refine .ite .next ?_
    split
    · exact .next
    · exact .ite .next .next
  | strobeFire =>
    dsimp only [exec, execStrobeFire]
    refine .ite ?_ .next
    split
    · exact .ite .next .next
    · exact .next
  | spillRead =>
    dsimp only [exec, execSpillRead]
    refine .ite .next ?_
    split
    · exact .ite .next .next
    · exact .next
  | ephemPublish | replayFeed =>
    dsimp only [exec, execEphemPublish, execReplayFeed]
    split
    · exact .next
    · exact .ite .next (.ite .next (.ite .next .next))
  | reductionResult | inputDigestDone | runHalted =>
    dsimp only [exec, execReductionResult, execInputDigestDone, execRunHalted]
    split
    · exact .next
    · split
      · exact .next
      · exact .ite .next .next
  | mailboxFill =>
    dsimp only [exec, execMailboxFill]
    refine .ite .next (.ite .next ?_)
    split
    · exact .next
    · exact .next
  | flitForward =>
    dsimp only [exec, execFlitForward]
    refine .ite .next ?_
    split
    · exact .next
    · split
      · exact .next
      · exact .next
  | packetDeliver =>
    dsimp only [exec, execPacketDeliver]
    refine .ite .next ?_
    split
    · exact .next
    · exact .ite .next (.ite .next (.ite .next .next))
  | whbResponse =>
    dsimp only [exec, execWhbResponse]
    split
    · exact .next
    · split
      · exact .next
      · split
        · exact .next
        · exact .ite .next .next
  | dmaComplete =>
    dsimp only [exec, execDmaComplete]
    split
    · split
      · exact .next
      · split
        · exact .ite .next .next
        · exact .next
    · exact .next
  | frameTransmit =>
    dsimp only [exec, execFrameTransmit]
    refine .ite .next (.ite .next ?_)
    split
    · exact .next
    · split
      · exact .next
      · exact .next
  | matrixGrant =>
    dsimp only [exec, execMatrixGrant]
    refine .ite .next ?_
    split
    · exact .next
    · split
      · exact .next
      · exact .ite .next (.ite .next .next)
  | illegalInstruction =>
    dsimp only [exec, execIllegalInstruction]
    split
    · exact .next
    · split
      · exact .next
      · refine .ite .next ?_
        split
        · exact .next
        · exact .next
  | _ => exact .next

theorem step_answers (s : State) : Answers (step s) := by
  cases hp : s.pending with
  | cons c rest =>
    rw [step_cons hp]
    exact exec_answers c _
  | nil =>
    cases hu : s.unheld with
    | some x =>
      rw [step_unheld hp hu]
      exact exec_answers x.1 x.2
    | none =>
      rw [step_idle hp hu]
      exact .next

/-- Settles O7: in every branch of every command, and so in every step. -/
theorem everyCommandCompletes : Obligations.EveryCommandCompletes := ⟨exec_answers, step_answers⟩

/-- Settles O1: a queue that begins with a command. -/
theorem stepRunsFrontCommand : Obligations.StepRunsFrontCommand := fun _ _ _ => step_cons rfl

end Sys2Proof.Machine
